-- ==== Sys2Proof/Word.lean ====
section
/-!
DEFINITION. The word types of the VL-7400 and their plainest arithmetic (R5, R6, R28, R47).
Feature registers are 32-bit words (R8); command packets and records are byte strings, little-endian (R6).
-/
namespace Sys2Proof

/-- A feature register's word (R8). -/
abbrev Word := BitVec 32
/-- One byte of a packet, a receipt or a message (R6). -/
abbrev Byte := BitVec 8
/-- A postcode: group in [15:6], ring position in [5:0] (R28). -/
abbrev Postcode := BitVec 16
/-- A box number 0 to 4095 (R30). -/
abbrev BoxNo := Fin 4096
/-- A box incarnation, 12 bits (R31). -/
abbrev Inc := Fin 4096
/-- A 47-bit round number (R44). -/
abbrev Round := Fin (2 ^ 47)
/-- A nanosecond count of the round timer, 0 to 124,999 (R44). -/
abbrev Ns := Fin 125000

/-- The group of a postcode, bits [15:6] (R28). -/
def Postcode.group (p : Postcode) : Nat := p.toNat / 64
/-- The ring position of a postcode, bits [5:0] (R28). -/
def Postcode.position (p : Postcode) : Nat := p.toNat % 64

/-- A postmark: round number in [63:17], nanosecond count in [16:0] (R47). -/
def postmark (round ns : Nat) : BitVec 64 := BitVec.ofNat 64 (round * 131072 + ns % 131072)
/-- The round number of a postmark, bits [63:17] (R47). -/
def postmarkRound (p : BitVec 64) : Nat := p.toNat / 131072
/-- The nanosecond field of a postmark, bits [16:0] (R47). -/
def postmarkNs (p : BitVec 64) : Nat := p.toNat % 131072

/-- `b − a` modulo 2^w lies in 1 to 2^(w−1) − 1: a is before b in serial arithmetic (R52, R238). -/
def serialBefore (w a b : Nat) : Bool :=
  let d := (b + 2 ^ w - a % 2 ^ w) % 2 ^ w
  decide (1 ≤ d ∧ d < 2 ^ (w - 1))

end Sys2Proof
end

