-- ==== Sys2Proof/Types.lean ====
section
/-!
DEFINITION. The data that commands carry: ports, service classes, round-control records (R49), round headers (R121),
envelopes (R115), command-packet headers (R339), bridge messages (R319, R320) and the samples and frames of the stations.
-/
namespace Sys2Proof

/-- Trunk ports A and B (ring) and C (branch) (R33). -/
inductive PortId | a | b | c
deriving DecidableEq, Repr

/-- Port code 0 A, 1 B, 2 C (R87). -/
def PortId.code : PortId → Nat | .a => 0 | .b => 1 | .c => 2

/-- Supply inputs IN_A and IN_B (R377). -/
inductive InputId | a | b
deriving DecidableEq, Repr

/-- 0 for IN_A, 1 for IN_B (R405). -/
def InputId.code : InputId → Nat | .a => 0 | .b => 1

/-- Service class codes of R115. -/
inductive SvcClass | iso | assured | registered | bulk
deriving DecidableEq, Repr

def SvcClass.code : SvcClass → Nat | .iso => 0 | .assured => 1 | .registered => 2 | .bulk => 3
def SvcClass.ofCode : Nat → Option SvcClass
  | 0 => some .iso | 1 => some .assured | 2 => some .registered | 3 => some .bulk | _ => none

/-- Tunnel kinds of R115. -/
inductive Kind | display | storage | network | peripheral | field | mgmt
deriving DecidableEq, Repr

def Kind.code : Kind → Nat
  | .display => 0 | .storage => 1 | .network => 2 | .peripheral => 3 | .field => 4 | .mgmt => 5
def Kind.ofCode : Nat → Option Kind
  | 0 => some .display | 1 => some .storage | 2 => some .network | 3 => some .peripheral
  | 4 => some .field | 5 => some .mgmt | _ => none

/-- Frame colours (R115, R165). -/
inductive Colour | green | yellow | red
deriving DecidableEq, Repr

def Colour.code : Colour → Nat | .green => 0 | .yellow => 1 | .red => 2

/-- A round-control record of R49, its TYPE apart, with what brought it (R89): the types of its control blocks in order, whether they
were consecutive, whether one was flagged (R93), and the CRC-16 it came with. -/
structure Rec where
  hops : Fin 512
  epoch : BitVec 16
  round : Round
  origin : Postcode
  subject : Postcode
  aux : BitVec 16
  priority : Fin 16
  blocks : List Byte
  consecutive : Bool
  flagged : Bool
  crc : BitVec 16
deriving DecidableEq, Repr

/-- A round header of R121; `crc` is the CRC-32C it carries. -/
structure Header where
  version : Byte
  port : Fin 4
  addrValid : Bool
  roles : BitVec 4
  sender : Postcode
  postmark : BitVec 64
  epoch : BitVec 16
  master : Postcode
  distance : Byte
  tstate : Fin 8
  ringSize : Fin 128
  creditAssured : BitVec 16
  creditRegistered : BitVec 16
  creditBulk : BitVec 16
  sheetRate : Bool
  sheetMask : BitVec 4
  slotsIso : BitVec 16
  slotsAssured : BitVec 16
  slotsRegistered : BitVec 16
  slotsBulk : BitVec 16
  sheetCrc : BitVec 32
  break0 : BitVec 16
  break1 : BitVec 16
  break2 : BitVec 16
  break3 : BitVec 16
  root : BitVec 16
  crc : BitVec 32
deriving DecidableEq, Repr

/-- An envelope's header fields of R115 with its payload. -/
structure Env where
  ver : Fin 8
  type : Fin 8
  cls : SvcClass
  colour : Fin 4
  twin : Bool
  side : Bool
  turned : Bool
  first : Bool
  last : Bool
  hops : Fin 512
  seg : Fin 8
  length : Fin 4096
  dstPc : Postcode
  dstBox : BoxNo
  dstInc : Inc
  srcPc : Postcode
  kind : Fin 16
  srcBox : BoxNo
  seqStamp : BitVec 32
  hopSeq : BitVec 16
  payload : List Byte
deriving DecidableEq, Repr

/-- What the receiver found on checks 1, 2 and 4 of R119 (flagged block, trailer CRC-32C and byte count, GCM tag under the
key in force and, within the window of R440, under the other key). [Log entry 11: DESIGN CHOICE] -/
structure EnvMarks where
  flagged : Bool
  crcOk : Bool
  tagOk : Bool
  tagOkOther : Bool
deriving DecidableEq, Repr

/-- What the receiver found in the group before a mark (R103, R113): striped blocks, FEC symbols and codewords corrected. [Log entry 203: DESIGN CHOICE] -/
structure GroupStats where
  blocks : Nat
  symbols : Nat
  codewords : Nat
deriving DecidableEq, Repr

/-- A TRAIN lane message (R88); `type` is the TYPE byte it came with, 0x10 (R90). -/
structure TrainMsg where
  type : Byte
  rxLocked : BitVec 4
  rxChosen : BitVec 4
  ready : Bool
  fullCap : Bool
  stepGo : Bool
  nonce : BitVec 16
  state : Fin 16
deriving DecidableEq, Repr

/-- A TAP_REQ lane message (R88), `type` its TYPE byte, 0x11 (R90): SEQ, PRESET, target lane and the five 2-bit tap codes. -/
structure TapReq where
  type : Byte
  seq : Byte
  preset : Fin 8
  lane : Fin 4
  cm2 : Fin 4
  cm1 : Fin 4
  c0 : Fin 4
  cp1 : Fin 4
  cp2 : Fin 4
deriving DecidableEq, Repr

/-- A command packet's header (R339). `originPc`, `originPath` and `repeat_` are those of the COMMAND message on the remote
path (R345, R358); `via` is the trunk port a relayed command arrived over, where it arrived over one. -/
structure CmdHdr where
  path : Fin 67
  tag : BitVec 16
  hostSeq : BitVec 32
  length : Fin 4097
  dstPc : Postcode
  route : Fin 4
  port : Fin 4
  resync : Bool
  timeoutMs : BitVec 16
  crc : BitVec 32
  originPc : Postcode
  originPath : Fin 67
  repeat_ : Bool
  via : Option PortId
deriving DecidableEq, Repr

/-- Bytes of parameters (R340). -/
def CmdHdr.paramLen (h : CmdHdr) : Nat := h.length.val - 32

/-- A bridge CAN message (R319). -/
structure CanFrame where
  ide : Bool
  fdf : Bool
  brs : Bool
  id : Fin (2 ^ 29)
  data : List Byte
deriving DecidableEq, Repr

/-- What the checks of ISO 11898-1 make of a received CAN frame (R317, R334): a data frame, a remote frame, or one with an error. -/
inductive CanCheck | data | remoteFrame | bad
deriving DecidableEq, Repr

/-- A Modbus message of R320; `op` 0x10 WRITE, 0x11 READ, 0x12 READ_ANSWER, 0x13 WRITE_ANSWER. -/
structure ModbusMsg where
  op : Byte
  function : Byte
  tag : BitVec 16
  farUnit : Byte
  status : Byte
  address : BitVec 16
  count : BitVec 16
  postmark : BitVec 64
  data : List Byte
deriving DecidableEq, Repr

/-- A request of a local Modbus master (R324, R325). -/
structure ModbusReq where
  unit : Byte
  function : Byte
  address : BitVec 16
  count : BitVec 16
  byteCount : Byte
  data : List Byte
deriving DecidableEq, Repr

/-- One sample of the always-on ADCs (R388): raw LSBs of VIN, current (two's complement) and VOUT, and of the five VBUS. [Log entry 12: DESIGN CHOICE] -/
structure PowerSample where
  vinA : BitVec 14
  curA : BitVec 14
  vinB : BitVec 14
  curB : BitVec 14
  vout : BitVec 14
  vbus : List (BitVec 14)
  late : Bool
deriving DecidableEq, Repr

/-- A registered tunnel message as it stands in a REGISTERED DATA envelope (R243): its payload. -/
abbrev Payload := List Byte

/-- A parcel of a DISPLAY tunnel (R271). [Log entry 12: DESIGN CHOICE] -/
structure Parcel where
  postmark : BitVec 64
  streamRate : BitVec 32
  line : BitVec 16
  frameStart : Bool
  dsc : Bool
  sdp : Bool
  msaNew : Bool
  bytes : Nat
  /-- Bits a stream clock cycle carries, by the MSA in force. -/
  cycleBits : Nat
deriving DecidableEq, Repr

/-- An Ethernet frame at a sub-port (R285): its bytes with the FCS, the FCS check, EtherType and 802.1Q VID. [Log entry 12: DESIGN CHOICE] -/
structure EthFrame where
  bytes : Nat
  fcsOk : Bool
  etherType : BitVec 16
  vid : Option (Fin 4096)
deriving DecidableEq, Repr

/-- What a far station block asks of its peer through an item of a tunnel: the NVMe command of a far relay for an exported entry
(R282), an unplug or IRQ_HPD of a far output (R276, R277), a forwarded AUX request (R278); `other` is any other item. -/
inductive RelayItem
  | other
  | nvme (index : Fin 64) (opcode : Byte) (lba count command : Nat)
  | unplug
  | irqHpd
  | aux
deriving DecidableEq, Repr

/-- Wake sources of R415 by their code. -/
inductive WakeSource | mgmt | service | portAttach | remoteWake | supply | timer
deriving DecidableEq, Repr

def WakeSource.code : WakeSource → Nat
  | .mgmt => 1 | .service => 2 | .portAttach => 3 | .remoteWake => 4 | .supply => 5 | .timer => 6

/-- The seven switchable domains by their bit in DOMAIN_ON (R32). -/
inductive Domain | core | trkA | trkB | trkC | hostio | station | cipher
deriving DecidableEq, Repr

def Domain.bit : Domain → Nat
  | .core => 1 | .trkA => 2 | .trkB => 3 | .trkC => 4 | .hostio => 5 | .station => 6 | .cipher => 7

/-- A sealed key letter (R428): its bytes, the results of the keeper's checks 3, 4 and 6 of R430 on them (DEVICE, SIGNATURE, TAG and
point), and of the key that it wraps the key check value (R426) and, for a public key, the key. [Log entry 11: DESIGN CHOICE] -/
structure Letter where
  bytes : List Byte
  deviceOk : Bool
  signatureOk : Bool
  tagOk : Bool
  kcv : BitVec 64
  pub : List Byte
deriving DecidableEq, Repr

/-- What the keeper's tests of a start found (R444): all passed, or the entropy source or a known answer failed. -/
inductive KeeperTests | passed | entropy | answers
deriving DecidableEq, Repr

/-- The response to a debug challenge (R442): its bytes, of a token or the one that locks, with the results of the checks of DEVICE and
SIGNATURE. [Log entry 11: DESIGN CHOICE] -/
structure Token where
  bytes : List Byte
  deviceOk : Bool
  signatureOk : Bool
deriving DecidableEq, Repr

/-- Whose key verifies an image's signature (R443, R478). -/
inductive ImageSigner | none | vendor | testRoot
deriving DecidableEq, Repr

/-- A boot image as read from a slot (R477, R478): whether the flash answered within 10 ms, the 256 bytes of the header, who signed it, and
whether DIGEST matches the body. [Log entry 11: DESIGN CHOICE] -/
structure ImageFacts where
  answers : Bool
  header : List Byte
  signer : ImageSigner
  digestOk : Bool
deriving DecidableEq, Repr

/-- What a second gives the recorder that no sample of the round carries (R464): the keeper die's sensor as the keeper reads it while CORE
is off, and the mean power sourced on USB0 to USB3 in mW. [Log entry 169: DESIGN CHOICE] -/
structure RecorderSample where
  keeperTemp : BitVec 16
  usbMw : Nat
deriving DecidableEq, Repr

/-- A CMIS reply's content (R108): an identification with the advertised applications and power class, a readiness
report, or polled values. -/
inductive ModuleReply
  | ident (full half : Bool) (powerHalfWatts : Nat)
  | ready
  | polled (los txFault : BitVec 4) (data : List Byte)
deriving DecidableEq, Repr

/-- A staging entry (R364): ADDRESS, MASK, VALUE. -/
structure StageEntry where
  address : Word
  mask : Word
  value : Word
deriving DecidableEq, Repr

/-- A unit whose last cell is being written (R175, R179): its ingress port, its descriptor, the payload in its cells, and the block's
check. `seg` is the SEG of an envelope (R118). [Log entry 12: DESIGN CHOICE] -/
structure UnitIn where
  ingress : Fin 10
  cls : SvcClass
  type : Fin 3
  kind : Kind
  colour : Colour
  payload : List Byte
  seg : Fin 8
  twin : Bool
  side : Bool
  turned : Bool
  first : Bool
  last : Bool
  hops : Fin 512
  srcPc : Postcode
  srcBox : BoxNo
  dstPc : Postcode
  dstBox : BoxNo
  dstInc : Inc
  seqStamp : BitVec 32
  checkOk : Bool
deriving DecidableEq, Repr

/-- The bytes of a unit's payload (R175). -/
def UnitIn.bytes (u : UnitIn) : Nat := u.payload.length

/-- A PF0 submission entry with the packet the hub read at CMD_ADDR (R352). -/
structure Submission where
  rcptLen : Fin 4096
  packet : List Byte
deriving DecidableEq, Repr

/-- One item of REGISTRY_APPORTION (R365). -/
structure ApportionItem where
  box : BitVec 16
  r : BitVec 16
  m : BitVec 16
  notify : Byte
deriving DecidableEq, Repr

/-- A POLICY record of PD_POLICY (R404). -/
structure PdPolicy where
  sourceEn : Bool
  acceptPrSwap : Bool
  override_ : Bool
  /-- Bits [7:3] of byte 0, byte 3 and bytes 20 to 27, which are 0. -/
  res0 : BitVec 5
  res3 : Byte
  res20 : BitVec 64
  maxW : Byte
  priority : Byte
  pdo0 : Word
  pdo1 : Word
  pdo2 : Word
  pdo3 : Word
deriving DecidableEq, Repr

/-- The reserved bits of a POLICY record are 0 (R404). -/
def PdPolicy.reservedOk (x : PdPolicy) : Bool := x.res0 == 0 && x.res3 == 0 && x.res20 == 0

/-- Statuses of a tap in a TAP_ACK (R100): held, updated, at its lower limit, at its upper limit. -/
structure TapStatus where
  cm2 : Fin 4
  cm1 : Fin 4
  c0 : Fin 4
  cp1 : Fin 4
  cp2 : Fin 4
deriving DecidableEq, Repr

/-- Outcomes of a registered bus transaction (R331). -/
inductive BusOutcome | done | exception | noResponse | notSent | refused
deriving DecidableEq, Repr

/-- The AUX requests an input tells apart (R269, R277, R278). -/
inductive AuxKind
  | linkTraining (trained : Option (Fin 7 × Fin 3)) | dpcdRead (address : Fin (2 ^ 20)) | edidRead | other | malformed
deriving DecidableEq, Repr

/-- An address phase that the clockless matcher of the management target matches (R415): MGMT_ADDR, or the I3C dynamic address that the
target holds. -/
structure MgmtMatch where
  address : Fin 128
  dynamic : Bool
deriving DecidableEq, Repr

/-- A PD message as a port receives it (R394): the port, whether its CRC holds, and its message ID. -/
structure PdMsg where
  port : Fin 5
  crcOk : Bool
  id : Fin 8
deriving DecidableEq, Repr

/-- The timers of USB Power Delivery that end differently (R394): no GoodCRC for a message sent, no answer to a Soft_Reset sent, any other. -/
inductive PdTimer | goodCrc | softReset | other
deriving DecidableEq, Repr

/-- A timer of USB Power Delivery that expires on a port (R394, R399). -/
structure PdExpiry where
  port : Fin 5
  timer : PdTimer
deriving DecidableEq, Repr

/-- A bus reset of the service port (R309, R312): the bytes of a data stage it cuts, and whether it is the reset signalling of USB 3.2. -/
structure SvcReset where
  partialBytes : Nat
  gen1 : Bool
deriving DecidableEq, Repr

/-- What a sub-port's link shows (R284): down, up, or for an SGMII port a PHY that reports 10 or 100 Mbit/s. -/
inductive EtherPhy | down | up | slow
deriving DecidableEq, Repr

/-- The transfers of a tree that the host side tells apart (R297, R300). -/
inductive TransferKind | control | interruptIn | interruptOut | bulkIn | bulkOut | isoIn | isoOut
deriving DecidableEq, Repr

/-- Where a register write goes: a feature register (R8), a register of PF0 BAR0 (R351), or one of PF1 BAR0 (R287). -/
inductive RegSpace | feature | pf0 | pf1
deriving DecidableEq, Repr

/-- The memories of R453 by number. -/
abbrev MemNo := Fin 8

/-- The region of an uncorrectable error (R460, R461). -/
inductive ErrRegion
  | bufferUnit (unit : Nat) | descriptorUnit (unit : Nat) | descriptorLink (unit : Nat)
  | sheetRun (port : PortId) (run : Nat) | sliceEntry (engine : Fin 16) (slice : Fin 500)
  | flow (index : Fin 8192) | engine (engine : Fin 16) | postmaster | image
  | registryEntry (index : Fin 8192) (headerReadable : Bool) | bookRecord (box : BoxNo)
  | commandEntry (index : Fin 512) | stagingSet (set : Fin 4) | keySlot (slot : Fin 64)
  | histogram (index : Fin 64) | extreme (index : Fin 128)
  | dualOne (address : Nat) | dualSeal (counter : Fin 66) | dualBox (box : BoxNo) | dualExpected (path : Fin 66)
  | dualHubAddr | dualRound | dualEnergy (input : InputId) | dualKept (address : Word)
deriving DecidableEq, Repr

end Sys2Proof
end

