-- ==== Sys2Proof/Syntax.lean ====
section
/-!
DEFINITION. The commands of the VL-7400, one constructor per row of spec/opcode_table.json: what the host, the far hubs, the
stations, the supplies and the hub's own timers do to it. Each docstring names the rule the row stands under.
An operand `h` is the header of the command packet whose opcode the row is (R339); `p` is a trunk port; `ns` is the hub's own
nanosecond count at the arrival.
-/
namespace Sys2Proof

inductive Instr
  /-- REGISTER_WRITE (R10). -/
  | registerWrite (space : RegSpace) (address mask value : Word)
  /-- RC_READ (R10). -/
  | rcRead (address : Word)
  /-- NOW_LO_READ (R80). -/
  | nowLoRead
  /-- ENERGY_LO_READ (R389). -/
  | energyLoRead (x : InputId)
  /-- OPERATING_LO_READ (R470). -/
  | operatingLoRead
  /-- SK_LINK_DOWN (R16). -/
  | skLinkDown
  /-- SK_LINK_UP (R16). -/
  | skLinkUp
  /-- KP_LINK_DOWN (R17). -/
  | kpLinkDown
  /-- KP_LINK_UP (R17). -/
  | kpLinkUp
  /-- SK_LINK_TIMEOUT (R483). -/
  | skLinkTimeout
  /-- ROUND_BOUNDARY (R76). -/
  | roundBoundary (sample : PowerSample) (switchTemp keeperTemp : BitVec 16)
  /-- COLLECTION_MARK (R76). -/
  | collectionMark
  /-- SEAL_MARK (R76). -/
  | sealMark
  /-- ROUND_HEADER (R121). -/
  | roundHeader (p : PortId) (ns : Ns) (h : Header)
  /-- BEAT (R64). -/
  | beat (p : PortId) (ns : Ns) (r : Rec)
  /-- TAKEOVER (R68). -/
  | takeover (p : PortId) (ns : Ns) (r : Rec)
  /-- CLAIM (R52). -/
  | claim (p : PortId) (ns : Ns) (r : Rec)
  /-- RAISE (R54). -/
  | raise (p : PortId) (ns : Ns) (r : Rec)
  /-- SWAP_OFFER (R70). -/
  | swapOffer (p : PortId) (ns : Ns) (r : Rec)
  /-- SWAP_ASK (R70). -/
  | swapAsk (p : PortId) (ns : Ns) (r : Rec)
  /-- SWAP_AGREE (R70). -/
  | swapAgree (p : PortId) (ns : Ns) (r : Rec)
  /-- SWAP_REFUSE (R72). -/
  | swapRefuse (p : PortId) (ns : Ns) (r : Rec)
  /-- SWAP_GO (R71). -/
  | swapGo (p : PortId) (ns : Ns) (r : Rec)
  /-- SWAP_READY (R70). -/
  | swapReady (p : PortId) (ns : Ns) (r : Rec)
  /-- SWAP_CANCEL (R70). -/
  | swapCancel (p : PortId) (ns : Ns) (r : Rec)
  /-- SWAP_DEADLINE (R70). -/
  | swapDeadline
  /-- SWAP_PARTY_RESET (R74). -/
  | swapPartyReset
  /-- DELAY_ASK (R57). -/
  | delayAsk (p : PortId) (seq : Byte) (turnaround : BitVec 32)
  /-- DELAY_ANSWER (R57). -/
  | delayAnswer (p : PortId) (seq : Byte) (turnaround : BitVec 32) (ns : Ns)
  /-- DELAY_ANSWER_TIMEOUT (R57). -/
  | delayAnswerTimeout (p : PortId)
  /-- HOP_DELAY_MEASURE (R57). -/
  | hopDelayMeasure (p : PortId) (ns : Ns)
  /-- BEAT_SILENCE_CLAIM (R53). -/
  | beatSilenceClaim
  /-- DEPUTY_TAKEOVER (R67). -/
  | deputyTakeover
  /-- RESERVE_TAKEOVER (R67). -/
  | reserveTakeover
  /-- LOCK_LOSS (R60). -/
  | lockLoss
  /-- LOCKED_ENTRY (R60). -/
  | lockedEntry
  /-- ACQUIRE_TIMEOUT (R60). -/
  | acquireTimeout
  /-- HOLDOVER_EXPIRED (R60). -/
  | holdoverExpired
  /-- ROUND_NUMBER_WRITE (R53). -/
  | roundNumberWrite
  /-- REFCLK_ABSENT (R79). -/
  | refclkAbsent
  /-- REFCLK_RETURN (R483). -/
  | refclkReturn
  /-- ROUND_MASTER_SWAP (R70). -/
  | roundMasterSwap (h : CmdHdr) (peer : Postcode) (mode : Byte)
  /-- ROUND_QUERY (R82). -/
  | roundQuery (h : CmdHdr)
  /-- PORT_ENABLE (R95). -/
  | portEnable (p : PortId) (en : Bool)
  /-- BLOCK_LOCK (R91). -/
  | blockLock (p : PortId) (lane : Fin 4)
  /-- BLOCK_LOCK_LOSS (R91). -/
  | blockLockLoss (p : PortId) (lane : Fin 4)
  /-- GROUP_MARK (R87). -/
  | groupMark (p : PortId) (lane : Fin 4) (farPort : Fin 4) (txMask : BitVec 4) (rate maskNew : Bool) (groupCount : BitVec 32) (skew : Nat) (stats : GroupStats)
  /-- CODEWORD_UNCORRECTABLE (R93). -/
  | codewordUncorrectable (p : PortId) (lane : Fin 4) (headers : Nat)
  /-- TRAIN (R88). -/
  | train (p : PortId) (lane : Fin 4) (m : TrainMsg)
  /-- TAP_REQ (R100). -/
  | tapReq (p : PortId) (t : TapReq)
  /-- TAP_ACK (R100). -/
  | tapAck (p : PortId) (seq : Byte) (lane : Fin 4) (t : TapStatus)
  /-- WIDTH_REQ (R103). -/
  | widthReq (p : PortId) (rxChosen : BitVec 4) (restore : Bool) (ns : Ns)
  /-- LANE_POWER (R102). -/
  | lanePower (p : PortId) (mask : BitVec 4) (mode : Fin 4) (roundLo : BitVec 32)
  /-- HUNT_RESTART (R95). -/
  | huntRestart (p : PortId)
  /-- ALIGN_STABLE (R95). -/
  | alignStable (p : PortId)
  /-- ALIGN_TIMEOUT (R95). -/
  | alignTimeout (p : PortId)
  /-- TUNE_TIMEOUT (R95). -/
  | tuneTimeout (p : PortId) (readyLanes : BitVec 4)
  /-- STEP_TIMEOUT (R95). -/
  | stepTimeout (p : PortId)
  /-- RELOCK_FULL_TIMEOUT (R95). -/
  | relockFullTimeout (p : PortId)
  /-- RELOCK_HALF_TIMEOUT (R95). -/
  | relockHalfTimeout (p : PortId)
  /-- CHECK_COMPLETE (R95). -/
  | checkComplete (p : PortId) (passed : Bool)
  /-- DIRECTION_LOST (R95). -/
  | directionLost (p : PortId)
  /-- LANE_DEGRADE (R103). -/
  | laneDegrade (p : PortId) (lanes : BitVec 4) (ns : Ns)
  /-- LANE_RESTORE (R105). -/
  | laneRestore (p : PortId)
  /-- MODULE_PRES_CHANGE (R110). -/
  | modulePresChange (p : PortId) (present : Bool)
  /-- MODULE_INT (R110). -/
  | moduleInt (p : PortId)
  /-- MODULE_REPLY (R108). -/
  | moduleReply (p : PortId) (r : ModuleReply)
  /-- MODULE_TRANSACTION_TIMEOUT (R108). -/
  | moduleTransactionTimeout (p : PortId)
  /-- MODULE_READY_TIMEOUT (R108). -/
  | moduleReadyTimeout (p : PortId)
  /-- MODULE_POLL (R108). -/
  | modulePoll (p : PortId)
  /-- TRUNK_RETRAIN (R114). -/
  | trunkRetrain (h : CmdHdr) (port forceHalf : Byte)
  /-- TRUNK_RETRAIN_TIMEOUT (R110). -/
  | trunkRetrainTimeout (p : PortId)
  /-- TRUNK_STATUS (R114). -/
  | trunkStatus (h : CmdHdr) (port : Byte)
  /-- ENVELOPE (R119). -/
  | envelope (p : PortId) (e : Env) (m : EnvMarks)
  /-- FRAME_LAST_TIMEOUT (R119). -/
  | frameLastTimeout (p : PortId) (srcPc : Postcode) (srcBox : BoxNo) (seqStamp : BitVec 32)
  /-- BREAK_OBSERVED (R127). -/
  | breakObserved (p : PortId)
  /-- BREAK_WITHDRAWN (R128). -/
  | breakWithdrawn (p : PortId)
  /-- STEERING_SNAPSHOT (R129). -/
  | steeringSnapshot
  /-- HOST_LINK_UP (R137). -/
  | hostLinkUp
  /-- HOST_LINK_LOSS (R136). -/
  | hostLinkLoss
  /-- CONFIGURED_ROOT_TAKE (R137). -/
  | configuredRootTake
  /-- STANDBY_TAKE (R137). -/
  | standbyTake
  /-- STANDBY_YIELD (R137). -/
  | standbyYield
  /-- TUNNEL_OPEN (R147). -/
  | tunnelOpen (h : CmdHdr) (box : BitVec 16) (farPc : Postcode) (farBox : BitVec 16) (kind cls direction priority weight : Byte) (min ceil : BitVec 16)
  /-- TUNNEL_CLOSE (R148). -/
  | tunnelClose (h : CmdHdr) (box : BitVec 16) (fwd : Byte) (fwdPc : Postcode) (fwdBox fwdInc : BitVec 16)
  /-- SET_FORWARD (R149). -/
  | setForward (h : CmdHdr) (box : BitVec 16) (fwdPc : Postcode) (fwdBox fwdInc : BitVec 16)
  /-- TUNNEL_ALLOT (R157). -/
  | tunnelAllot (h : CmdHdr) (op cls : Byte) (flow : BitVec 16) (srcPc : Postcode) (srcBox : BitVec 16) (dstPc : Postcode) (dstBox min ceil : BitVec 16) (weight priority : Byte)
  /-- TUNNEL_QUERY (R152). -/
  | tunnelQuery (h : CmdHdr) (select : Byte) (index : BitVec 16)
  /-- OPEN_REQUEST (R147). -/
  | openRequest (srcPc : Postcode) (kind cls direction : Byte) (nearBox nearInc farBox min ceil : BitVec 16) (weight priority : Byte)
  /-- OPEN_ANSWER (R147). -/
  | openAnswer (srcPc : Postcode) (status : Byte) (farBox farInc nearBox nearInc farFlow : BitVec 16)
  /-- CLOSE_REQUEST (R148). -/
  | closeRequest (srcPc : Postcode) (box inc senderBox : BitVec 16)
  /-- DRAIN_COUNT (R253). -/
  | drainCount (srcPc : Postcode) (box held : BitVec 16)
  /-- OPENING_TIMEOUT (R145). -/
  | openingTimeout (box : BoxNo)
  /-- DRAIN_COMPLETE (R145). -/
  | drainComplete (box : BoxNo)
  /-- DRAIN_DISCARD (R145). -/
  | drainDiscard (box : BoxNo)
  /-- DRAIN_LIMIT (R145). -/
  | drainLimit (box : BoxNo)
  /-- SLOT_START (R163). -/
  | slotStart (p : PortId) (slot : Fin 2880)
  /-- UNIT_ADMIT (R185). -/
  | unitAdmit (u : UnitIn)
  /-- UNIT_INCOMPLETE (R180). -/
  | unitIncomplete (ingress : Fin 10)
  /-- HOLD_RELEASE (R187). -/
  | holdRelease (ingress : Fin 10) (tc : Fin 8)
  /-- HOLD_EXPIRED (R187). -/
  | holdExpired (ingress : Fin 10) (tc : Fin 8)
  /-- UNIT_TRANSFER_DONE (R196). -/
  | unitTransferDone (unit : Nat) (mirror : Bool)
  /-- MIRROR_COPY_TIMEOUT (R200). -/
  | mirrorCopyTimeout (copy : Nat)
  /-- MIRROR_SET (R199). -/
  | mirrorSet (h : CmdHdr) (session en srcKind destPort : Byte) (src snap : BitVec 16) (destSub : Byte) (mirrorCells : BitVec 16)
  /-- ITEM_ARRIVAL (R210). -/
  | itemArrival (box : BoxNo) (fromP9 : Bool) (estimate : Nat) (item : RelayItem)
  /-- SLICE_END (R217). -/
  | sliceEnd (e : Fin 16) (finished : Bool) (written : Nat)
  /-- ITEM_ABANDONED (R217). -/
  | itemAbandoned (context : Fin 4096)
  /-- LOCKSTEP_MISMATCH (R220). -/
  | lockstepMismatch
  /-- POSTMASTER_WATCHDOG (R483). -/
  | postmasterWatchdog
  /-- ENGINE_FAULT (R221). -/
  | engineFault (e : Fin 16)
  /-- ENGINE_RETURN (R221). -/
  | engineReturn (e : Fin 16)
  /-- POST_REGISTERED (R235). -/
  | postRegistered (h : CmdHdr) (box : BitVec 16) (payload : Payload)
  /-- ENTRY_WRITE_DONE (R236). -/
  | entryWriteDone (entry : Fin 8192) (written : Bool)
  /-- RESEND (R240). -/
  | resend (entry : Fin 8192)
  /-- REGISTERED_DATA (R243). -/
  | registeredData (ingress : Fin 10) (srcPc : Postcode) (srcBox dstBox : BoxNo) (dstInc : Inc) (seq : BitVec 32) (payload : Payload)
  /-- BRIDGE_CONSUMED (R331). -/
  | bridgeConsumed (box : BoxNo) (outcome : BusOutcome) (exception : Byte)
  /-- RECEIPT (R248). -/
  | receipt (srcPc : Postcode) (dstBox : BoxNo) (dstInc : Inc) (seq passedThru doubtSeq : BitVec 32) (doubtValid : Bool)
  /-- RETURN (R251). -/
  | returned (dstBox : BoxNo) (dstInc : Inc) (seq : BitVec 32) (known fwd : Bool) (fwdPc : Postcode) (fwdBox : BoxNo) (fwdInc : Inc)
  /-- REGISTRY_SCAN (R254). -/
  | registryScan
  /-- LETTERS_WAITING (R266). -/
  | lettersWaiting (box : BoxNo)
  /-- REGISTRY_APPORTION (R259). -/
  | registryApportion (h : CmdHdr) (items : List ApportionItem)
  /-- COLLECT (R245). -/
  | collect (h : CmdHdr) (box : BitVec 16) (max : Byte)
  /-- ACK_COLLECTED (R244). -/
  | ackCollected (h : CmdHdr) (box : BitVec 16) (thru : BitVec 32)
  /-- REGISTRY_STATUS (R261). -/
  | registryStatus (h : CmdHdr) (box : BitVec 16)
  /-- DEAD_LETTER_READ (R261). -/
  | deadLetterRead (h : CmdHdr) (box first : BitVec 16) (max : Byte)
  /-- DEAD_LETTER_CLEAR (R261). -/
  | deadLetterClear (h : CmdHdr) (entries : List (BitVec 16))
  /-- PARCEL_CLOSE (R270). -/
  | parcelClose (d : Fin 2) (pc : Parcel)
  /-- PARCEL (R272). -/
  | parcel (d : Fin 4) (pc : Parcel)
  /-- PLAYOUT_TIME (R273). -/
  | playoutTime (d : Fin 4) (postmark : BitVec 64) (errorNs : Int)
  /-- HPD_PLUG (R276). -/
  | hpdPlug (d : Fin 4) (rate : Fin 7) (lanes : Fin 3)
  /-- HPD_UNPLUG (R276). -/
  | hpdUnplug (d : Fin 4)
  /-- IRQ_HPD (R276). -/
  | irqHpd (d : Fin 4)
  /-- CAPABILITY_COPY (R277). -/
  | capabilityCopy (d : Fin 2) (dpcd edid : List Byte)
  /-- AUX_REQUEST (R278). -/
  | auxRequest (d : Fin 2) (k : AuxKind)
  /-- AUX_REPLY (R278). -/
  | auxReply (d : Fin 2) (reply : List Byte)
  /-- SSD_ENUMERATE (R279). -/
  | ssdEnumerate (classOk behindSwitch ready : Bool) (namespaces : Byte) (sizes : List (BitVec 64)) (gen width : Fin 16)
  /-- SSD_READY_TIMEOUT (R279). -/
  | ssdReadyTimeout
  /-- VF_SUBMISSION (R282). -/
  | vfSubmission (vf : Fin 48) (admin : Bool) (opcode : Byte) (vnsid : Word) (lba count : Nat)
  /-- REMOTE_COMPLETION (R283). -/
  | remoteCompletion (command : Nat) (status : BitVec 16)
  /-- CMD_TIMEOUT (R283). -/
  | cmdTimeout (command : Nat)
  /-- VF_FLR (R288). -/
  | vfFlr (vf : Fin 48)
  /-- ETHERNET_FRAME (R285). -/
  | ethernetFrame (sub : Fin 11) (f : EthFrame)
  /-- PF1_TX_DOORBELL (R287). -/
  | pf1TxDoorbell (q : Fin 32) (tail : Fin 4096) (frames : List EthFrame)
  /-- ETHER_LINK (R293). -/
  | etherLink (sub : Fin 11) (link : EtherPhy) (remoteFault : Bool)
  /-- TRANSFER_REQUEST (R296). -/
  | transferRequest (tree : Fin 16) (k : TransferKind)
  /-- TRANSFER_COMPLETION (R297). -/
  | transferCompletion (tree : Fin 16) (transfer : Nat) (code : Byte)
  /-- XFER_TIMEOUT (R297). -/
  | xferTimeout (tree : Fin 16) (transfer : Nat)
  /-- CONFIGURE_ENDPOINT (R300). -/
  | configureEndpoint (tree : Fin 16) (bytes packets : Nat)
  /-- KEEP_ALIVE_SEND (R298). -/
  | keepAliveSend (tree : Fin 17)
  /-- KEEP_ALIVE (R298). -/
  | keepAlive (tree : Fin 17)
  /-- TREE_LOST (R298). -/
  | treeLost (tree : Fin 17)
  /-- SET_PORT_FEATURE_PORT_POWER (R301). -/
  | setPortFeaturePortPower (n : Fin 4)
  /-- CLEAR_PORT_FEATURE_PORT_POWER (R301). -/
  | clearPortFeaturePortPower (n : Fin 4)
  /-- SET_PORT_FEATURE_PORT_RESET (R302). -/
  | setPortFeaturePortReset (n : Fin 4)
  /-- CLEAR_PORT_FEATURE_PORT_ENABLE (R301). -/
  | clearPortFeaturePortEnable (n : Fin 4)
  /-- SUSPEND_REQUEST (R301). -/
  | suspendRequest (n : Fin 4)
  /-- CLEAR_PORT_FEATURE_PORT_SUSPEND (R303). -/
  | clearPortFeaturePortSuspend (n : Fin 4)
  /-- HOST_RESUME (R303). -/
  | hostResume (n : Fin 4)
  /-- REMOTE_WAKE (R303). -/
  | remoteWake (n : Fin 4)
  /-- USB_ATTACH (R301). -/
  | usbAttach (n : Fin 4)
  /-- SS_LINK_U0 (R301). -/
  | ssLinkU0 (n : Fin 4) (gen2 : Bool)
  /-- USB2_CONNECT (R301). -/
  | usb2Connect (n : Fin 4) (speed : Fin 3)
  /-- CONNECT_FAIL (R301). -/
  | connectFail (n : Fin 4)
  /-- USB_DETACH (R301). -/
  | usbDetach (n : Fin 4)
  /-- LINK_RECOVERY_FAIL (R301). -/
  | linkRecoveryFail (n : Fin 4)
  /-- SEND_COMMAND (R308). -/
  | sendCommand (packet : List Byte)
  /-- GET_RECEIPT (R307). -/
  | getReceipt (tag : BitVec 16) (wLength : Fin 4097)
  /-- GET_STATE (R307). -/
  | getState
  /-- SVC_STATUS_ACK (R308). -/
  | svcStatusAck (written : Bool)
  /-- DATA_STAGE_PAUSE (R308). -/
  | dataStagePause (partialBytes : Nat)
  /-- SVC_BUS_RESET (R309, R312): reset signalling of USB 3.2 or the SE0 of USB 2.0, in whose speed the device runs then. -/
  | svcBusReset (reset : SvcReset)
  /-- SET_CONFIGURATION (R309). -/
  | setConfiguration (wakeEnabled : Bool)
  /-- SVC_IN_TRANSFER (R306). -/
  | svcInTransfer (receipt : Bool)
  /-- SVC_REMOTE_WAKE (R310). -/
  | svcRemoteWake
  /-- CAN_FRAME_RX (R321). -/
  | canFrameRx (bus : Fin 4) (f : CanFrame) (check : CanCheck)
  /-- CAN_MESSAGE (R322). -/
  | canMessage (box : BoxNo) (seq : Option (BitVec 32)) (msg : List Byte) (silent : Bool)
  /-- CAN_HOLD_TIMEOUT (R323). -/
  | canHoldTimeout (bus : Fin 4)
  /-- BUS_OFF (R317). -/
  | busOff (bus : Fin 4)
  /-- BUS_ON (R317). -/
  | busOn (bus : Fin 4)
  /-- REG_TX_LIMIT_EXPIRY (R331). -/
  | regTxLimitExpiry (bus : Fin 4)
  /-- MODBUS_REQUEST (R324). -/
  | modbusRequest (bus : Fin 2) (r : ModbusReq) (frameOk : Bool)
  /-- READ_ANSWER (R328). -/
  | readAnswer (box : BoxNo) (msg : List Byte)
  /-- WRITE_ANSWER (R327). -/
  | writeAnswer (box : BoxNo) (msg : List Byte)
  /-- FETCH_TIMEOUT (R328). -/
  | fetchTimeout (tag : BitVec 16)
  /-- READ_AHEAD (R329). -/
  | readAhead (range : Fin 64) (shape : Fin 4)
  /-- READ_AHEAD_STOP (R329). -/
  | readAheadStop (range : Fin 64) (shape : Fin 4)
  /-- CONFIRM_UNCLAIMED (R327). -/
  | confirmUnclaimed (tag : BitVec 16)
  /-- MASTER_BUS_MESSAGE (R330). -/
  | masterBusMessage (box : BoxNo) (seq : Option (BitVec 32)) (msg : List Byte) (silent : Bool)
  /-- MODBUS_RESPONSE (R330). -/
  | modbusResponse (bus : Fin 2) (exception : Byte) (data : List Byte)
  /-- RESP_TIMEOUT (R330). -/
  | respTimeout (bus : Fin 2)
  /-- ROUTE_WRITE (R335). -/
  | routeWrite (h : CmdHdr) (items : List (BitVec 16 × Word × Word))
  /-- ROUTE_READ (R335). -/
  | routeRead (h : CmdHdr) (mode count : Byte) (first : BitVec 16) (bus ide : Byte) (id : Word)
  /-- RANGE_WRITE (R335). -/
  | rangeWrite (h : CmdHdr) (items : List (Byte × Word × Word × Word × Word))
  /-- SQ_TAIL (R354). -/
  | sqTail (q : Fin 64) (tail : Fin 1024) (fetched : List Submission)
  /-- CQ_HEAD (R354). -/
  | cqHead (q : Fin 64) (head : Fin 1024)
  /-- PF0_FLR (R351). -/
  | pf0Flr
  /-- PF0_FETCH_TIMEOUT (R354). -/
  | pf0FetchTimeout (q : Fin 64) (s : Submission)
  /-- COMMAND_MESSAGE (R357). -/
  | commandMessage (srcPc : Postcode) (via : Option PortId) (repeat_ : Bool) (originPath : Fin 67) (packet : List Byte)
  /-- RECEIPT_MESSAGE (R357). -/
  | receiptMessage (srcPc : Postcode) (originPath : Fin 67) (hostSeq : BitVec 32) (status : Byte) (flags : Byte) (data : List Byte)
  /-- NOTICE_MESSAGE (R361). -/
  | noticeMessage (code : BitVec 16) (number : BitVec 32) (srcPc : Postcode) (postmark : BitVec 64) (body : List Nat)
  /-- RELAY_TIMEOUT (R359). -/
  | relayTimeout (path : Fin 67) (hostSeq : BitVec 32)
  /-- REMOTE_ENTRY_FREE (R350). -/
  | remoteEntryFree (entry : Fin 512)
  /-- MGMT_APPEND (R355). -/
  | mgmtAppend (bytes : List Byte)
  /-- MGMT_SUBMIT (R355). -/
  | mgmtSubmit
  /-- MGMT_EMPTY (R355). -/
  | mgmtEmpty
  /-- MGMT_STATE_READ (R355). -/
  | mgmtStateRead
  /-- MGMT_RECEIPT_READ (R355). -/
  | mgmtReceiptRead
  /-- MGMT_NOTICE_READ (R355). -/
  | mgmtNoticeRead
  /-- MGMT_GET_RECEIPT (R355). -/
  | mgmtGetReceipt (tag : BitVec 16)
  /-- MGMT_ASSEMBLY_TIMEOUT (R356). -/
  | mgmtAssemblyTimeout
  /-- NOP (R364). -/
  | nop (h : CmdHdr) (bytes : List Byte)
  /-- IDENTIFY (R364). -/
  | identify (h : CmdHdr)
  /-- HUB_STATUS (R364). -/
  | hubStatus (h : CmdHdr)
  /-- READ_FEATURE (R364). -/
  | readFeature (h : CmdHdr) (address : Word)
  /-- WRITE_FEATURE (R364). -/
  | writeFeature (h : CmdHdr) (address mask value : Word)
  /-- READ_BLOCK (R364). -/
  | readBlock (h : CmdHdr) (block offset count : BitVec 16)
  /-- STAGE (R368). -/
  | stage (h : CmdHdr) (set flags : Byte) (entries : List StageEntry)
  /-- CHECK (R369). -/
  | check (h : CmdHdr) (set : Byte)
  /-- APPLY (R370). -/
  | apply (h : CmdHdr) (set : Byte) (round : BitVec 48)
  /-- DISCARD (R367). -/
  | discard (h : CmdHdr) (set : Byte)
  /-- STAGE_STATUS (R364). -/
  | stageStatus (h : CmdHdr) (set : Byte)
  /-- RESET_HUB (R475). -/
  | resetHub (h : CmdHdr) (kind : Byte)
  /-- TOPO_SCAN (R364). -/
  | topoScan (h : CmdHdr)
  /-- ASSIGN_POSTCODE (R364). -/
  | assignPostcode (h : CmdHdr) (postcode : Postcode) (force : Byte) (serial : BitVec 128)
  /-- PWRIN_STATUS (R404). -/
  | pwrinStatus (h : CmdHdr)
  /-- PWRIN_RETRY_CLEAR (R404). -/
  | pwrinRetryClear (h : CmdHdr) (input : Byte)
  /-- PD_STATUS (R404). -/
  | pdStatus (h : CmdHdr) (port : Byte)
  /-- PD_ROLE_SWAP (R399). -/
  | pdRoleSwap (h : CmdHdr) (port : Byte)
  /-- PD_POLICY (R404). -/
  | pdPolicy (h : CmdHdr) (port : Byte) (policy : PdPolicy)
  /-- PSTATE_STATUS (R422). -/
  | pstateStatus (h : CmdHdr)
  /-- KEY_LETTER (R430). -/
  | keyLetter (h : CmdHdr) (l : Letter)
  /-- KEY_SLOT_INFO (R426). -/
  | keySlotInfo (h : CmdHdr) (slot : Byte)
  /-- ATTEST (R441). -/
  | attest (h : CmdHdr) (nonce : List Byte)
  /-- ZEROISE (R445). -/
  | zeroise (h : CmdHdr) (confirm : Word)
  /-- ZEROISATION_COMPLETE (R445). -/
  | zeroisationComplete (pairConsistent : Bool)
  /-- DEBUG_UNLOCK (R442). -/
  | debugUnlock (h : CmdHdr) (t : Token)
  /-- RECORDER_FREEZE (R465). -/
  | recorderFreeze (h : CmdHdr)
  /-- RECORDER_READ (R466). -/
  | recorderRead (h : CmdHdr) (first count : BitVec 16)
  /-- RECORDER_THAW (R465). -/
  | recorderThaw (h : CmdHdr)
  /-- SCRUB_STATUS (R466). -/
  | scrubStatus (h : CmdHdr)
  /-- FW_STAGE_IMAGE (R480). -/
  | fwStageImage (h : CmdHdr) (offset : Word) (data : List Byte) (verified : Bool)
  /-- FW_ACTIVATE (R481). -/
  | fwActivate (h : CmdHdr) (slot : Byte) (image : ImageFacts)
  /-- INPUT_WINDOW_EXIT (R379). -/
  | inputWindowExit (x : InputId) (high withTrip : Bool)
  /-- INPUT_WINDOW_ENTRY (R379). -/
  | inputWindowEntry (x : InputId) (rampMet : Bool)
  /-- PATH_EN_WRITE (R386). -/
  | pathEnWrite (x : InputId) (en : Bool)
  /-- RAMP_COMPLETE (R379). -/
  | rampComplete (x : InputId)
  /-- CURRENT_LIMIT_ENGAGE (R380). -/
  | currentLimitEngage (x : InputId)
  /-- CURRENT_LIMIT_RELEASE (R380). -/
  | currentLimitRelease (x : InputId)
  /-- FAULT_TIMER_EXPIRY (R380). -/
  | faultTimerExpiry (x : InputId) (tOn : Nat)
  /-- FAST_TRIP (R381). -/
  | fastTrip (x : InputId) (tOn : Nat)
  /-- REVERSE_CURRENT (R379). -/
  | reverseCurrent (x : InputId)
  /-- BLOCKING_RECOVERY (R379). -/
  | blockingRecovery (x : InputId) (rampMet : Bool)
  /-- SWITCH_SHORT (R379). -/
  | switchShort (x : InputId)
  /-- COOL_DOWN_END (R382). -/
  | coolDownEnd (x : InputId) (rampMet : Bool)
  /-- RETRY_COUNT_RESET (R382). -/
  | retryCountReset (x : InputId)
  /-- LATCH_RELEASE (R379). -/
  | latchRelease (x : InputId)
  /-- BUS_GOOD_CHANGE (R383). -/
  | busGoodChange (good : Bool)
  /-- POWER_FAIL_WARNING (R384). -/
  | powerFailWarning
  /-- PFW_RELEASE (R384). -/
  | pfwRelease
  /-- UNDERVOLTAGE_TRIP (R384). -/
  | undervoltageTrip
  /-- KEEPER_SAMPLE (R388). -/
  | keeperSample (sample : PowerSample)
  /-- TYPEC_ATTACH (R390). -/
  | typecAttach (p : Fin 5) (asSource : Bool) (rp : Fin 3)
  /-- TYPEC_DETACH (R390). -/
  | typecDetach (p : Fin 5)
  /-- OFFER_REQUEST_TIMEOUT (R392). -/
  | offerRequestTimeout (p : Fin 4)
  /-- PD_BUDGET_WRITE (R392). -/
  | pdBudgetWrite (mask value : Word)
  /-- REQUEST (R393). -/
  | request (m : PdMsg) (object : Fin 16) (current : Nat)
  /-- SOURCE_CAPABILITIES (R393). -/
  | sourceCapabilities (m : PdMsg) (amps5V : Nat) (dualRole : Bool)
  /-- GET_SOURCE_CAP (R393). -/
  | getSourceCap (m : PdMsg)
  /-- GET_SINK_CAP (R393). -/
  | getSinkCap (m : PdMsg)
  /-- PR_SWAP (R397). -/
  | prSwap (m : PdMsg)
  /-- DR_SWAP (R393). -/
  | drSwap (m : PdMsg)
  /-- VCONN_SWAP (R393). -/
  | vconnSwap (m : PdMsg)
  /-- SOFT_RESET (R393). -/
  | softReset (m : PdMsg)
  /-- HARD_RESET (R394). -/
  | hardReset (p : Fin 5)
  /-- PS_RDY (R397). -/
  | psRdy (m : PdMsg)
  /-- SWAP_ANSWER (R397). -/
  | swapAnswer (m : PdMsg) (answer : Fin 3)
  /-- UNLISTED_PD_MESSAGE (R393). -/
  | unlistedPdMessage (m : PdMsg)
  /-- PD_TIMER_EXPIRY (R394). -/
  | pdTimerExpiry (e : PdExpiry)
  /-- VBUS_TRANSITION_DONE (R395). -/
  | vbusTransitionDone (p : Fin 4)
  /-- VBUS_TRANSITION_TIMEOUT (R395). -/
  | vbusTransitionTimeout (p : Fin 4)
  /-- VBUS_OVERCURRENT (R396). -/
  | vbusOvercurrent (p : Fin 4)
  /-- VBUS_OVERVOLTAGE (R396). -/
  | vbusOvervoltage (p : Fin 4)
  /-- VBUS_UNDERVOLTAGE (R396). -/
  | vbusUndervoltage (p : Fin 4)
  /-- VBUS_BEFORE_ENABLE (R396). -/
  | vbusBeforeEnable (p : Fin 4)
  /-- ERROR_RECOVERY_END (R396). -/
  | errorRecoveryEnd (p : Fin 5)
  /-- SERVICE_POWER_ENTRY (R401). -/
  | servicePowerEntry
  /-- SERVICE_NO_CAPS (R401). -/
  | serviceNoCaps
  /-- DOMAIN_REQ_WRITE (R409). -/
  | domainReqWrite (mask value : Word)
  /-- RAIL_ENABLE (R409). -/
  | railEnable
  /-- DOMAIN_SUPPLY_GOOD (R410). -/
  | domainSupplyGood (d : Domain) (pipesOk : BitVec 12)
  /-- DOMAIN_SUPPLY_TIMEOUT (R410). -/
  | domainSupplyTimeout (d : Domain)
  /-- DOMAIN_SUPPLY_LOSS (R410). -/
  | domainSupplyLoss (d : Domain)
  /-- CORE_FAULT_CYCLE (R483). -/
  | coreFaultCycle
  /-- IDLE_EXPIRY (R412). -/
  | idleExpiry
  /-- GO (R412). -/
  | go
  /-- DORMANT_ENTRY (R411). -/
  | dormantEntry
  /-- WAKE_MGMT (R415). -/
  | wakeMgmt (m : MgmtMatch) (also : BitVec 6)
  /-- WAKE_SERVICE (R415). -/
  | wakeService (also : BitVec 6)
  /-- WAKE_PORT_ATTACH (R415). -/
  | wakePortAttach (p : Fin 4) (also : BitVec 6)
  /-- WAKE_REMOTE (R415). -/
  | wakeRemote (n : Fin 4) (also : BitVec 6)
  /-- WAKE_SUPPLY (R415). -/
  | wakeSupply (x : InputId) (also : BitVec 6)
  /-- WAKE_TIMER (R415). -/
  | wakeTimer (also : BitVec 6)
  /-- WAKE_READY (R416). -/
  | wakeReady (seconds : Word)
  /-- LOCKOUT_END (R431). -/
  | lockoutEnd
  /-- ENTROPY_HEALTH_FAIL (R444). -/
  | entropyHealthFail
  /-- KEEPER_SELF_TEST_DONE (R444). -/
  | keeperSelfTestDone (tests : KeeperTests)
  /-- CORRECTABLE_ERROR (R455). -/
  | correctableError (m : MemNo) (address : Fin (2 ^ 27))
  /-- UNCORRECTABLE_ERROR (R460). -/
  | uncorrectableError (m : MemNo) (address : Fin (2 ^ 27)) (r : ErrRegion)
  /-- SCRUB_VISIT (R456). -/
  | scrubVisit (m : MemNo) (address : Fin (2 ^ 27)) (corrected overtaken : Bool)
  /-- SCRUB_LATE (R457). -/
  | scrubLate (m : MemNo)
  /-- IMAGE_RELOAD_DONE (R483). -/
  | imageReloadDone (passed : Bool)
  /-- RECORDER_UPDATE (R463). -/
  | recorderUpdate (sample : RecorderSample)
  /-- RECORDER_AUTO_THAW (R465). -/
  | recorderAutoThaw
  /-- RESET_N_ASSERT (R488). -/
  | resetNAssert
  /-- RESET_N_RELEASE (R488). -/
  | resetNRelease
  /-- POWER_ON (R473). -/
  | powerOn
  /-- KEEPER_RELEASE (R476). -/
  | keeperRelease (lost : List ErrRegion)
  /-- IMAGE_VERIFIED (R478). -/
  | imageVerified (slot : Fin 2) (image : ImageFacts)
  /-- BOOT_FLASH_TIMEOUT (R478). -/
  | bootFlashTimeout (slot : Fin 2)
  /-- TRIAL_END (R481). -/
  | trialEnd
  /-- DIE_OVERTEMP (R483). -/
  | dieOvertemp
  /-- OVERTEMP_RECOVERY (R483). -/
  | overtempRecovery
  /-- SAFE_END (R485). -/
  | safeEnd
  /-- TUNE_READY (R95). -/
  | tuneReady (p : PortId)
  /-- CELL_CYCLE (R192). -/
  | cellCycle
  /-- SSD_COMPLETION (R282). -/
  | ssdCompletion (command : Nat) (status : BitVec 16)
  /-- SSD_FAULT (R289). -/
  | ssdFault
  /-- CAN_TX_COMPLETE (R322). -/
  | canTxComplete (bus : Fin 4)
  /-- SVC_SUSPEND (R413). -/
  | svcSuspend
  /-- SVC_HOST_RESUME (R310). -/
  | svcHostResume
  /-- NR_HEAD (R361). -/
  | nrHead (head : Fin 4096)
  /-- KEEP_LOSS (R236). -/
  | keepLoss
  /-- PORT_RESET_COMPLETE (R302). -/
  | portResetComplete (n : Fin 4) (speed : Fin 6)
deriving DecidableEq, Repr

end Sys2Proof
end

