-- ==== Sys2Proof/Decode.lean ====
section
/-!
DEFINITION. The command that a word of the opcode table's bits spells. The table gives no row any bits: a command reaches the hub as
a register write, a packet, an envelope, a record or an event, and its operands are those of its constructor; so no word spells one.
-/
namespace Sys2Proof

/-- The command a word spells: none, as no row of the opcode table has bits. [Log entry 2: DESIGN CHOICE] -/
def decodeTableWord (_nbits _w : Nat) : Option Instr := none

end Sys2Proof
end

