-- ==== Sys2Proof/Machine/Codes.lean ====
section
/-!
DEFINITION. Codes the manual fixes and shares: receipt statuses (R342), opcodes with their read property and parameter
lengths (R363 to R366), reset kinds (R473) and causes (R489).
-/
namespace Sys2Proof
namespace Machine

/-- Status codes of R342. -/
inductive Status
  | ok | accepted | busyRetry | badOpcode | badParam | badLength | badCrc | checkFailed | stageConflict | noResource
  | noBandwidth | notPermitted | sealInvalid | unreachable | timeout | returned | hwFault | internal
deriving DecidableEq, Repr

def Status.code : Status → Nat
  | .ok => 0x00 | .accepted => 0x01 | .busyRetry => 0x02 | .badOpcode => 0x10 | .badParam => 0x11 | .badLength => 0x12
  | .badCrc => 0x13 | .checkFailed => 0x20 | .stageConflict => 0x21 | .noResource => 0x30 | .noBandwidth => 0x31
  | .notPermitted => 0x40 | .sealInvalid => 0x41 | .unreachable => 0x50 | .timeout => 0x51 | .returned => 0x52
  | .hwFault => 0x60 | .internal => 0x7F

/-- The status of a received code byte; a code R342 does not list is read as INTERNAL. -/
def Status.ofCode (n : Nat) : Status :=
  if n = 0x00 then .ok else if n = 0x01 then .accepted else if n = 0x02 then .busyRetry else if n = 0x10 then .badOpcode
  else if n = 0x11 then .badParam else if n = 0x12 then .badLength else if n = 0x13 then .badCrc else if n = 0x20 then .checkFailed
  else if n = 0x21 then .stageConflict else if n = 0x30 then .noResource else if n = 0x31 then .noBandwidth
  else if n = 0x40 then .notPermitted else if n = 0x41 then .sealInvalid else if n = 0x50 then .unreachable
  else if n = 0x51 then .timeout else if n = 0x52 then .returned else if n = 0x60 then .hwFault else .internal

/-- The opcodes of R364 to R366, each with its parameter length: `lo` to `hi` bytes, in steps of `step` above `lo`. -/
structure OpRow where
  code : Nat
  read : Bool
  lo : Nat
  hi : Nat
  step : Nat
deriving DecidableEq, Repr

/-- The opcode tables of R364 to R366. Lengths follow from the layouts; a group × COUNT makes the length vary. -/
def opRows : List OpRow :=
  [ ⟨0x0001, true, 0, 4064, 1⟩, ⟨0x0002, true, 0, 0, 1⟩, ⟨0x0003, true, 0, 0, 1⟩, ⟨0x0010, true, 4, 4, 1⟩
  , ⟨0x0011, false, 12, 12, 1⟩, ⟨0x0012, true, 6, 6, 1⟩, ⟨0x0020, false, 4, 4060, 12⟩, ⟨0x0021, false, 4, 4, 1⟩
  , ⟨0x0022, false, 8, 8, 1⟩, ⟨0x0023, false, 4, 4, 1⟩, ⟨0x0024, true, 4, 4, 1⟩, ⟨0x0030, false, 4, 4, 1⟩
  , ⟨0x0100, true, 0, 0, 1⟩, ⟨0x0101, false, 20, 20, 1⟩, ⟨0x0110, false, 4, 4, 1⟩, ⟨0x0111, true, 0, 0, 1⟩
  , ⟨0x0120, false, 4, 4, 1⟩, ⟨0x0121, true, 4, 4, 1⟩ ] ++
  [ ⟨0x0200, false, 16, 16, 1⟩, ⟨0x0201, false, 10, 10, 1⟩, ⟨0x0202, false, 18, 18, 1⟩, ⟨0x0203, true, 4, 4, 1⟩
  , ⟨0x0204, false, 8, 8, 1⟩, ⟨0x0205, false, 12, 12, 1⟩, ⟨0x0300, false, 2, 2042, 8⟩, ⟨0x0301, false, 4, 259, 1⟩
  , ⟨0x0302, true, 4, 4, 1⟩, ⟨0x0303, false, 8, 8, 1⟩, ⟨0x0304, true, 4, 4, 1⟩, ⟨0x0305, true, 8, 8, 1⟩
  , ⟨0x0306, false, 2, 512, 2⟩, ⟨0x0400, false, 2, 2552, 10⟩, ⟨0x0401, true, 12, 12, 1⟩, ⟨0x0402, false, 2, 4052, 18⟩ ] ++
  [ ⟨0x0500, true, 0, 0, 1⟩, ⟨0x0501, false, 4, 4, 1⟩, ⟨0x0510, true, 4, 4, 1⟩, ⟨0x0511, false, 4, 4, 1⟩
  , ⟨0x0512, false, 32, 32, 1⟩, ⟨0x0521, true, 0, 0, 1⟩, ⟨0x0600, false, 1, 4064, 1⟩, ⟨0x0601, true, 4, 4, 1⟩
  , ⟨0x0602, true, 32, 32, 1⟩, ⟨0x0603, false, 4, 4, 1⟩, ⟨0x0604, false, 1, 4064, 1⟩, ⟨0x0700, false, 0, 0, 1⟩
  , ⟨0x0701, true, 4, 4, 1⟩, ⟨0x0702, false, 0, 0, 1⟩, ⟨0x0710, true, 0, 0, 1⟩, ⟨0x0F00, false, 5, 4064, 1⟩
  , ⟨0x0F01, false, 4, 4, 1⟩ ]

/-- The row of an opcode; none where it is not listed (check 4 of R343). -/
def opRow (code : Nat) : Option OpRow := opRows.find? (fun r => r.code == code)

/-- The read opcodes of R363. -/
def isReadOp (code : Nat) : Bool :=
  match opRow code with
  | some r => r.read
  | none => false

/-- Check 7 of R343: the parameter length the opcode requires. -/
def paramLenOk (code n : Nat) : Bool :=
  match opRow code with
  | some r => decide (r.lo ≤ n) && decide (n ≤ r.hi) && decide ((n - r.lo) % r.step = 0)
  | none => false

end Machine
end Sys2Proof
end

