-- ==== Sys2Proof/Machine/Maps.lean ====
section
/-!
DEFINITION. Finite maps from numbers as lists of pairs in one canonical form: keys strictly rising. Every sparse part of the
state (the register file, boxes, flows, Registry entries, command-book entries and the rest) is such a list, so equal
contents are equal data.
-/
namespace Sys2Proof
namespace Machine

variable {α : Type}

/-- The entry at a key. -/
def mget : List (Nat × α) → Nat → Option α
  | [], _ => none
  | (k, v) :: m, a => if k = a then some v else mget m a

/-- The map with an entry put at its place. -/
def mput : List (Nat × α) → Nat → α → List (Nat × α)
  | [], a, v => [(a, v)]
  | (k, w) :: m, a, v =>
    if a < k then (a, v) :: (k, w) :: m
    else if a = k then (a, v) :: m
    else (k, w) :: mput m a v

/-- The map without an entry at a key. -/
def mdel : List (Nat × α) → Nat → List (Nat × α)
  | [], _ => []
  | (k, w) :: m, a => if k = a then m else (k, w) :: mdel m a

/-- The map with the entry at a key, where there is one, changed. -/
def mupd (m : List (Nat × α)) (a : Nat) (f : α → α) : List (Nat × α) :=
  match mget m a with
  | some v => mput m a (f v)
  | none => m

/-- The canonical form: keys strictly rising. -/
def mwf : List (Nat × α) → Bool
  | [] => true
  | [_] => true
  | (k, _) :: (l, w) :: m => decide (k < l) && mwf ((l, w) :: m)

/-- The first of the `n` numbers from `k` on that is no key. -/
def mfreeFrom (m : List (Nat × α)) : Nat → Nat → Option Nat
  | 0, _ => none
  | n + 1, k => if (mget m k).isNone then some k else mfreeFrom m n (k + 1)

/-- The first number from 0 below `n` that is no key. -/
def mfree (m : List (Nat × α)) (n : Nat) : Option Nat := mfreeFrom m n 0

/-- How many entries satisfy a test. -/
def mcount (m : List (Nat × α)) (p : α → Bool) : Nat := (m.filter (fun e => p e.2)).length

/-- The keys of the entries that satisfy a test, in rising order. -/
def mkeys (m : List (Nat × α)) (p : α → Bool) : List Nat := (m.filter (fun e => p e.2)).map (·.1)

/-- An element put at its place in a list sorted by `le`. -/
def insertBy (le : α → α → Bool) (x : α) : List α → List α
  | [] => [x]
  | y :: l => if le x y then x :: y :: l else y :: insertBy le x l

/-- A list sorted by `le`. -/
def sortBy (le : α → α → Bool) : List α → List α
  | [] => []
  | x :: l => insertBy le x (sortBy le l)

end Machine
end Sys2Proof
end

