-- ==== Sys2Proof/Machine/StateCmd.lean ====
section
/-!
DEFINITION. The state of the command paths: receipts (R341), notices (R360), the command book (R347), staging sets (R367),
the PF0 rings (R351 to R354), the service port's queues (R305 to R309), the management target (R355, R356), and the messages
of box 0 (R358).
-/
namespace Sys2Proof
namespace Machine

/-- A receipt (R341). Its CRC follows from the rest. -/
structure Receipt where
  opcode : Nat
  tag : Nat
  hostSeq : Nat
  status : Status
  reissued : Bool
  remote : Bool
  stale : Bool
  noEffect : Bool
  cut : Bool
  phase : Bool
  data : List Byte
deriving DecidableEq, Repr

/-- A notice (R360): its code, number at the originating hub, originator, postmark and body fields in the order listed. [Log entry 25: DESIGN CHOICE] -/
structure Notice where
  code : Nat
  number : Nat
  srcPc : Nat
  postmark : Nat
  body : List Nat
deriving DecidableEq, Repr

/-- STATE of a command-book entry in use (R347); a FREE entry has no record. -/
inductive BookState | running | done
deriving DecidableEq, Repr

/-- A command-book entry (R347). `started` says that the execution of a RUNNING entry has begun; `params` are kept only
where BODY is 1; `wait` is the number of the object a command that spans rounds waits on; `room` is RCPT_LEN of its PF0
submission (R352); `relayedAt` is the period of 125 µs in which it was relayed (R359); `remote` says that the far hub's receipt came or its wait ended (R357, R359); `farStale` and `farNoEffect` are flags of the far receipt of a relayed command, or NO_EFFECT of R349. -/
structure BookEntry where
  state : BookState
  body : Bool
  relayed : Bool
  delivered : Bool
  started : Bool
  path : Nat
  originPc : Nat
  originPath : Nat
  status : Status
  data : List Byte
  params : List Byte
  opcode : Nat
  tag : Nat
  hostSeq : Nat
  length : Nat
  dstPc : Nat
  route : Nat
  port : Nat
  resync : Bool
  timeoutMs : Nat
  crc : Nat
  via : Option PortId
  wait : Nat
  room : Nat
  relayedAt : Nat
  enteredAt : Nat
  doneAt : Nat
  farStale : Bool
  farNoEffect : Bool
  remote : Bool
deriving DecidableEq, Repr

/-- States of a staging set (R367). -/
inductive SetState | empty | openSet | checked | armed | failed
deriving DecidableEq, Repr

def SetState.code : SetState → Nat
  | .empty => 0 | .openSet => 1 | .checked => 2 | .armed => 3 | .failed => 4

/-- A staging set (R367): its entries by address with MASK and VALUE, the last CAUSE and ADDRESS, and the round it is ARMED
for or was last applied or failed at. `passed` marks a set whose final check for that round has passed (R371). -/
structure StageSet where
  state : SetState
  entries : List (Nat × (Word × Word))
  cause : Nat
  address : Nat
  round : Nat
  passed : Bool
deriving DecidableEq, Repr

/-- An empty set. -/
def StageSet.init : StageSet := ⟨.empty, [], 0, 0, 0, false⟩

/-- A PF0 queue pair's registers (R351) with the hub's own place in its rings: entries fetched, the next completion and the
PHASE of the pass; `waiting` are entries the doorbell covers that are not taken yet. -/
structure Pf0Queue where
  sqBase : Nat
  sqSize : Nat
  sqTail : Nat
  sqHead : Nat
  cqBase : Nat
  cqSize : Nat
  cqHead : Nat
  cqTail : Nat
  phase : Bool
  en : Bool
  irqEn : Bool
  waiting : List Submission
deriving DecidableEq, Repr

def Pf0Queue.init : Pf0Queue := ⟨0, 0, 0, 0, 0, 0, 0, 0, true, false, false, []⟩

/-- PF0 BAR0 (R351). -/
structure Pf0 where
  nrBase : Nat
  nrSize : Nat
  nrHead : Nat
  nrTail : Nat
  nrEn : Bool
  nrIrqEn : Bool
  queues : List (Nat × Pf0Queue)
deriving DecidableEq, Repr

def Pf0.init : Pf0 := ⟨0, 0, 0, 0, false, false, []⟩

/-- The service port's device side (R305 to R310): waiting receipts and notices, the packets whose book writes are under way, oldest
first, whether the host has enabled remote wake, whether the device's wake is being signalled, whether the head of each queue stands
in its IN buffer, the sequence number of EP1 IN's next data packet (R306) and the state a suspend came from. -/
structure Svc where
  receipts : List Receipt
  notices : List Notice
  packets : List (List Byte)
  wakeEnabled : Bool
  waking : Bool
  inReceipt : Bool
  inNotice : Bool
  inSeq : Nat
  suspended : Nat
deriving DecidableEq, Repr

def Svc.init : Svc := ⟨[], [], [], false, false, false, false, 0, 3⟩

/-- The management target (R355, R356): the assembly buffer and the period of 125 µs of its first byte, what waits, LAST_REJECT. -/
structure Mgmt where
  buffer : List Byte
  since : Nat
  receipts : List Receipt
  notices : List Notice
  lastReject : Nat
deriving DecidableEq, Repr

def Mgmt.init : Mgmt := ⟨[], 0, [], [], 0⟩

/-- Messages of box 0 (R358). -/
inductive Box0Msg
  | command (repeat_ : Bool) (originPath : Nat) (packet : List Byte)
  | receipt (originPath : Nat) (r : Receipt)
  | notice (n : Notice)
  | openRequest (kind cls direction nearBox nearInc farBox min ceil weight priority : Nat)
  | openAnswer (status farBox farInc nearBox nearInc farFlow : Nat)
  | closeRequest (box inc senderBox : Nat)
  | drainCount (box held : Nat)
deriving DecidableEq, Repr

/-- A run of notice numbers lost on one path (R361): path code, first number, count. -/
structure LostRun where
  path : Nat
  first : Nat
  count : Nat
deriving DecidableEq, Repr

/-- A read opcode that is executed again without an entry (R346): what its receipt echoes, the room for it (R352), and, once it is relayed,
the period of 125 µs in which it was (R359). -/
structure Reread where
  path : Nat
  hostSeq : Nat
  room : Nat
  opcode : Nat
  tag : Nat
  dstPc : Nat
  route : Nat
  timeoutMs : Nat
  relayedAt : Option Nat
deriving DecidableEq, Repr

/-- The command side of the hub: the book and EXPECTED (R344, R347), staging sets 0 to 3 (R367), the notice number and the
notices made this round (R361), the reads executed again (R346), the STAGE_FAILED bodies that wait for the next boundary (R371), and the three local kinds of path. -/
structure CmdSt where
  book : List (Nat × BookEntry)
  expected : List (Nat × Nat)
  rereads : List Reread
  sets : List (Nat × StageSet)
  noticeNo : Nat
  noticesRound : Nat
  lost : List LostRun
  failures : List (List Nat)
  pf0 : Pf0
  svc : Svc
  mgmt : Mgmt
deriving DecidableEq, Repr

def CmdSt.init : CmdSt := ⟨[], [], [], [], 0, 0, [], [], Pf0.init, Svc.init, Mgmt.init⟩

end Machine
end Sys2Proof
end

