-- ==== Sys2Proof/Config.lean ====
section
/-!
DEFINITION. The values the manual leaves open, as constants with no body (so that nothing can be proved of them), and the few
constants an individual hub carries. A function of a counter is applied to `seed` of State, which each use advances.
-/
namespace Sys2Proof
namespace Config

/-- The hub's 128-bit serial number, given at manufacture (R364); the spec states no value. [Log entry 6: DESIGN CHOICE] -/
opaque serial : BitVec 128
/-- The NONCE a port draws on entry to HUNT (R95, R436); the spec gives no value. [Log entry 7: DESIGN CHOICE] -/
opaque nonce : Nat → BitVec 16
/-- The receiver's own equaliser algorithm (R98 leaves it to the receiver): whether it asks for a step of a lane's far taps in a group, and
the five tap codes. [Log entry 60: DESIGN CHOICE] -/
opaque tapStep : Nat → Option (Fin 3 × Fin 3 × Fin 3 × Fin 3 × Fin 3)
/-- AES-256-GCM (R116), whose definition the spec takes as known: byte `i` of the ciphertext and the 96-bit tag, by the key and nonce, the
additional data and the plaintext. [Log entry 214: DESIGN CHOICE] -/
opaque cipherByte : List Nat → List (BitVec 8) → List (BitVec 8) → Nat → BitVec 8
/-- [Log entry 214: DESIGN CHOICE] -/
opaque cipherTag : List Nat → List (BitVec 8) → List (BitVec 8) → BitVec 96
/-- Whether a builder of sheets or slice tables is late with a step of its round (R77, R166, R215): the spec gives the deadlines, and not the
time a build takes. [Log entry 14: DESIGN CHOICE] -/
opaque buildLate : Nat → Bool
/-- The postmaster's busy share of a round, in percent (R219, R228). [Log entry 14: DESIGN CHOICE] -/
opaque postmasterLoad : Nat → Fin 101
/-- The public key, x then y, of the keys of slots 0, 1 and 3 (R423, R426), by slot and by how often it was generated. [Log entry 8: DESIGN CHOICE] -/
opaque pubKey : Nat → Nat → BitVec 768
/-- SHA-384 of the running image (R441), by the number of its load. [Log entry 8: DESIGN CHOICE] -/
opaque imageDigest : Nat → BitVec 384
/-- A signature of slot 0 (R441): the manual gives no nonce, so every use draws one. [Log entry 8: DESIGN CHOICE] -/
opaque signature : Nat → BitVec 768
/-- CERT_LEN − 1 and the bytes of the certificate of slot 0 (R441). [Log entry 8: DESIGN CHOICE] -/
opaque certLen : Fin 1024
/-- [Log entry 8: DESIGN CHOICE] -/
opaque certByte : Nat → BitVec 8
/-- Whether a write of MRAM under way as KEEP goes is complete (R236, R488): it is complete or not done. [Log entry 9: DESIGN CHOICE] -/
opaque writeDone : Nat → Bool

end Config
end Sys2Proof
end

