-- ==== Sys2Proof/Machine/RegMap.lean ====
section
/-!
DEFINITION. The map of the feature registers (R8 to R13), copied out of the spec's field maps: R32, R80, R81, R112, R113,
R142, R143, R172, R173, R205, R206, R228, R229, R264, R265, R291, R292, R313, R314, R336, R337, R375, R376, R405 to R407,
R420, R421, R450, R451, R469 to R471, R489, R490, R508. One row is one register or one array of registers of equal fields;
reserved bits have no field. An address is block × 65,536 + offset (R8).
-/
namespace Sys2Proof
namespace Machine

/-- Access classes of R10; `rwImm` is RW marked immediate. -/
inductive Access | ro | rw | rwImm | sw | w1c | rc | wo
deriving DecidableEq, Repr

/-- The Reset column: `no` not marked kept; `kept` kept, and at the reset value after zeroisation; `always` "Kept". -/
inductive Kept | no | kept | always
deriving DecidableEq, Repr

/-- One field of a register: its lowest bit, width, access class, reset value and whether it is kept. -/
structure FieldRow where
  lsb : Nat
  width : Nat
  acc : Access
  reset : Nat
  kept : Kept
deriving DecidableEq, Repr

/-- One register or array: offset of its first word, (stride, count) of each index, and its fields. -/
structure RegRow where
  base : Nat
  dims : List (Nat × Nat)
  fields : List FieldRow
deriving DecidableEq, Repr

/-- A field of a register: its word's address, lowest bit and width. -/
structure Fld where
  addr : Nat
  lsb : Nat
  width : Nat
deriving DecidableEq, Repr

/-- Rows of the HUB block. -/
def rowsHub : List RegRow :=
  [ ⟨0, [], [⟨16, 16, .ro, 0x7400, .no⟩, ⟨0, 16, .ro, 0x484b, .no⟩]⟩  -- HUB_ID
  , ⟨4, [], [⟨0, 8, .ro, 0xb0, .no⟩]⟩  -- HUB_REV
  , ⟨8, [], [⟨31, 1, .ro, 0, .kept⟩, ⟨0, 16, .ro, 0, .kept⟩]⟩  -- HUB_ADDR
  , ⟨0xc, [], [⟨4, 1, .ro, 0, .no⟩, ⟨3, 1, .ro, 0, .no⟩, ⟨2, 1, .ro, 0, .no⟩, ⟨1, 1, .ro, 0, .no⟩, ⟨0, 1, .ro, 1, .no⟩]⟩  -- HUB_ROLES
  , ⟨0x10, [], [⟨7, 1, .ro, 0, .no⟩, ⟨6, 1, .ro, 0, .no⟩, ⟨5, 1, .ro, 0, .no⟩, ⟨4, 1, .ro, 0, .no⟩, ⟨3, 1, .ro, 0, .no⟩, ⟨2, 1, .ro, 0, .no⟩, ⟨1, 1, .ro, 0, .no⟩, ⟨0, 1, .ro, 1, .no⟩]⟩  -- DOMAIN_ON
  , ⟨0x14, [], [⟨9, 1, .w1c, 0, .no⟩, ⟨8, 1, .w1c, 0, .no⟩, ⟨1, 1, .ro, 0, .no⟩, ⟨0, 1, .ro, 0, .no⟩]⟩  -- DIE_LINKS
  , ⟨0x20, [], [⟨16, 16, .rw, 0, .kept⟩, ⟨5, 1, .rw, 0, .kept⟩, ⟨4, 1, .rw, 0, .kept⟩, ⟨2, 1, .rw, 1, .no⟩, ⟨1, 1, .rw, 1, .no⟩, ⟨0, 1, .rw, 1, .no⟩]⟩  -- NOTICE_CFG
  , ⟨0x24, [], [⟨0, 16, .rw, 0, .kept⟩]⟩  -- NOTICE_ALT
  , ⟨0x28, [], [⟨16, 9, .ro, 0, .no⟩, ⟨0, 10, .ro, 0x200, .no⟩]⟩  -- BOOK_STATE
  , ⟨0x2c, [], [⟨0, 7, .rw, 0x4b, .no⟩]⟩  -- MGMT_CFG
  , ⟨0x30, [(4, 4)], [⟨29, 3, .ro, 0, .no⟩, ⟨24, 5, .ro, 0, .no⟩, ⟨0, 11, .ro, 0, .no⟩]⟩  -- STAGE_STATE
  , ⟨0x40, [(4, 4)], [⟨0, 32, .ro, 0, .no⟩]⟩  -- STAGE_ROUND
  , ⟨0x50, [], [⟨16, 8, .ro, 0, .always⟩, ⟨8, 8, .ro, 0, .always⟩, ⟨0, 2, .ro, 0, .always⟩]⟩  -- RESET_CAUSE
  , ⟨0x54, [], [⟨31, 1, .ro, 0, .always⟩, ⟨30, 1, .w1c, 0, .always⟩, ⟨29, 1, .ro, 0, .always⟩, ⟨28, 1, .ro, 0, .no⟩, ⟨0, 3, .ro, 0, .no⟩]⟩  -- BOOT_STATE
  , ⟨0x58, [], [⟨0, 32, .ro, 0, .no⟩]⟩  -- FW_VERSION
  , ⟨0x5c, [], [⟨0, 22, .ro, 0, .always⟩]⟩  -- FW_STAGED
  , ⟨0x100, [(4, 13)], [⟨0, 32, .rc, 0, .no⟩]⟩  -- counters HUB_CMDS_ENTERED to HUB_MGMT_DISCARDED
  , ⟨0x134, [(4, 6)], [⟨0, 32, .rc, 0, .always⟩]⟩  -- counters HUB_POSTMASTER_RESTARTS to HUB_SAFE_ENTRIES
  ]

/-- Rows of the ROUND block. -/
def rowsRound : List RegRow :=
  [ ⟨0, [], [⟨0, 32, .ro, 0, .no⟩]⟩  -- NOW_LO
  , ⟨4, [], [⟨0, 15, .ro, 0, .no⟩]⟩  -- NOW_HI
  , ⟨8, [], [⟨0, 17, .ro, 0, .no⟩]⟩  -- NOW_NS
  , ⟨0xc, [], [⟨16, 16, .ro, 0, .no⟩, ⟨8, 8, .ro, 0xff, .no⟩, ⟨6, 2, .ro, 3, .no⟩, ⟨5, 1, .ro, 0, .no⟩, ⟨4, 1, .ro, 0, .no⟩, ⟨0, 3, .ro, 0, .no⟩]⟩  -- TIMING
  , ⟨0x10, [], [⟨0, 16, .ro, 0, .no⟩]⟩  -- MASTER_SEEN
  , ⟨0x14, [], [⟨16, 16, .ro, 0, .no⟩, ⟨0, 16, .ro, 0, .no⟩]⟩  -- SUCCESSORS_SEEN
  , ⟨0x18, [], [⟨0, 32, .ro, 0, .no⟩]⟩  -- PHASE_ERR
  , ⟨0x1c, [], [⟨0, 32, .ro, 0, .no⟩]⟩  -- FREQ
  , ⟨0x20, [], [⟨5, 1, .sw, 0, .kept⟩, ⟨4, 1, .sw, 0, .kept⟩, ⟨0, 4, .sw, 0, .kept⟩]⟩  -- ROUND_CFG
  , ⟨0x24, [], [⟨16, 16, .sw, 0, .kept⟩, ⟨0, 16, .sw, 0, .kept⟩]⟩  -- SUCCESSORS
  , ⟨0x28, [], [⟨0, 2, .rw, 0, .no⟩]⟩  -- PULSE_CFG
  , ⟨0x2c, [], [⟨20, 10, .rw, 0, .no⟩, ⟨10, 10, .rw, 0, .no⟩, ⟨0, 10, .rw, 0, .no⟩]⟩  -- ASYM
  , ⟨0x30, [(4, 3)], [⟨31, 1, .ro, 0, .no⟩, ⟨0, 17, .ro, 0, .no⟩]⟩  -- HOP_DELAY
  , ⟨0x3c, [], [⟨0, 18, .ro, 0, .no⟩]⟩  -- BEAT_ARRIVAL
  , ⟨0x40, [(4, 17)], [⟨0, 32, .rc, 0, .no⟩]⟩  -- counters ROUND_STEPS to ROUND_HOLDOVER_EXPIRED
  ]

/-- Rows of the TRK block. -/
def rowsTrk : List RegRow :=
  [ ⟨0, [], [⟨12, 4, .rw, 3, .no⟩, ⟨8, 3, .rw, 2, .no⟩, ⟨4, 4, .rw, 0xf, .no⟩, ⟨3, 1, .rw, 1, .no⟩, ⟨2, 1, .rw, 1, .no⟩, ⟨0, 1, .rwImm, 0, .no⟩]⟩  -- TRK_PORT_CFG
  , ⟨4, [], [⟨4, 1, .sw, 0, .no⟩, ⟨0, 4, .sw, 0xf, .no⟩]⟩  -- LANE_PLAN
  , ⟨8, [], [⟨16, 4, .ro, 0, .no⟩, ⟨12, 4, .ro, 0, .no⟩, ⟨7, 1, .ro, 0, .no⟩, ⟨0, 4, .ro, 0, .no⟩]⟩  -- TRK_PORT_STATE
  , ⟨0xc, [], [⟨12, 4, .ro, 0, .no⟩, ⟨8, 4, .ro, 0, .no⟩, ⟨4, 4, .ro, 0, .no⟩, ⟨0, 4, .ro, 0, .no⟩]⟩  -- LANE_STATE
  , ⟨0x10, [(4, 4)], [⟨24, 8, .ro, 0, .no⟩, ⟨18, 6, .ro, 0, .no⟩, ⟨12, 6, .ro, 0, .no⟩, ⟨6, 6, .ro, 0, .no⟩, ⟨0, 6, .ro, 0, .no⟩]⟩  -- TAPS
  , ⟨0x20, [], [⟨24, 8, .ro, 0, .no⟩, ⟨16, 8, .ro, 0, .no⟩, ⟨8, 8, .ro, 0, .no⟩, ⟨0, 8, .ro, 0, .no⟩]⟩  -- SKEW
  , ⟨0x24, [], [⟨8, 4, .ro, 0, .no⟩, ⟨4, 4, .ro, 0, .no⟩, ⟨3, 1, .ro, 0, .no⟩, ⟨0, 3, .ro, 0, .no⟩]⟩  -- MODULE_STATUS
  , ⟨0x28, [], [⟨12, 4, .ro, 0, .no⟩, ⟨8, 4, .ro, 0, .no⟩, ⟨4, 4, .ro, 0, .no⟩, ⟨0, 4, .ro, 0, .no⟩]⟩  -- LANE_STATE_TX
  , ⟨0x40, [(0x20, 4), (4, 6)], [⟨0, 32, .rc, 0, .no⟩]⟩  -- counters TRK_CORRECTED_SYMBOLS to TRK_SKEW_EXCEEDED
  , ⟨0xc0, [(4, 9)], [⟨0, 32, .rc, 0, .no⟩]⟩  -- counters TRK_HUNT_RESTARTS to TRK_MODULE_ERRORS
  ]

/-- Rows of the TOPO block. -/
def rowsTopo : List RegRow :=
  [ ⟨0, [], [⟨16, 7, .sw, 0, .kept⟩, ⟨8, 2, .sw, 0, .kept⟩, ⟨1, 1, .sw, 0, .kept⟩, ⟨0, 1, .sw, 0, .kept⟩]⟩  -- GROUP_CFG
  , ⟨4, [(4, 3)], [⟨31, 1, .ro, 0, .no⟩, ⟨30, 1, .ro, 0, .no⟩, ⟨0, 16, .ro, 0, .no⟩]⟩  -- NEIGHBOUR
  , ⟨0x10, [(4, 2)], [⟨16, 16, .ro, 0, .no⟩, ⟨0, 16, .ro, 0, .no⟩]⟩  -- BREAKS
  , ⟨0x18, [], [⟨0, 16, .ro, 0, .no⟩]⟩  -- ROOT_SEEN
  , ⟨0x1000, [(4, 1024)], [⟨31, 1, .sw, 0, .kept⟩, ⟨30, 1, .sw, 0, .kept⟩, ⟨6, 6, .sw, 0, .kept⟩, ⟨0, 6, .sw, 0, .kept⟩]⟩  -- GROUP_ROUTE
  , ⟨0x100, [(0x40, 3), (4, 15)], [⟨0, 32, .rc, 0, .no⟩]⟩  -- counters TOPO_ENV_IN to TOPO_FLOOR_USED
  , ⟨0x200, [(4, 2)], [⟨0, 32, .rc, 0, .no⟩]⟩  -- counters TOPO_TWIN_SINGLE to TOPO_BREAKS_OVERFLOW
  ]

/-- Rows of the TUNNEL block. -/
def rowsTunnel : List RegRow :=
  [ ⟨0, [(4, 3)], [⟨24, 4, .rw, 1, .no⟩, ⟨16, 5, .sw, 4, .no⟩, ⟨0, 7, .sw, 0x10, .no⟩]⟩  -- DIR_CFG
  , ⟨0x10, [(4, 3)], [⟨31, 1, .ro, 0, .no⟩, ⟨30, 1, .ro, 0, .no⟩, ⟨16, 12, .ro, 0, .no⟩, ⟨0, 12, .ro, 0, .no⟩]⟩  -- DIR_STATE
  , ⟨0x20, [], [⟨4, 1, .rwImm, 0, .no⟩, ⟨0, 2, .rwImm, 0, .no⟩]⟩  -- SHEET_SELECT
  , ⟨0x30, [], [⟨16, 14, .ro, 0x2000, .no⟩, ⟨0, 13, .ro, 0xfff, .no⟩]⟩  -- RESOURCES
  , ⟨0x2000, [(4, 2048)], [⟨0, 32, .ro, 0, .no⟩]⟩  -- SHEET_IMAGE
  , ⟨0x8000, [(4, 8192)], [⟨29, 3, .sw, 0, .no⟩, ⟨27, 2, .sw, 3, .no⟩, ⟨25, 2, .sw, 3, .no⟩, ⟨12, 12, .sw, 0, .no⟩, ⟨0, 12, .sw, 0, .no⟩]⟩  -- ISO_ALLOT
  , ⟨0x100, [(0x40, 3), (4, 7)], [⟨0, 32, .rc, 0, .no⟩]⟩  -- counters TUNNEL_SHORT_ROUNDS to TUNNEL_SLOTS_IDLE
  , ⟨0x200, [(4, 7)], [⟨0, 32, .rc, 0, .no⟩]⟩  -- counters TUNNEL_STALE_INC to TUNNEL_DRAIN_DISCARDED
  ]

/-- Rows of the SWITCH block. -/
def rowsSwitch : List RegRow :=
  [ ⟨0, [], [⟨31, 1, .ro, 0, .no⟩, ⟨0, 17, .ro, 0x1c140, .no⟩]⟩  -- SW_STATUS
  , ⟨4, [], [⟨0, 17, .ro, 0x1c140, .no⟩]⟩  -- POOL_SIZE
  , ⟨8, [], [⟨0, 17, .rc, 0x1c140, .no⟩]⟩  -- POOL_LOW
  , ⟨0xc, [], [⟨0, 17, .rw, 0x2000, .no⟩]⟩  -- ALARM_CFG
  , ⟨0x10, [], [⟨16, 16, .rw, 0x50, .no⟩, ⟨0, 16, .rw, 0x50, .no⟩]⟩  -- AGE_LIMIT 0
  , ⟨0x14, [], [⟨16, 16, .rw, 0x50, .no⟩, ⟨0, 16, .rw, 0x50, .no⟩]⟩  -- AGE_LIMIT 1
  , ⟨0x18, [], [⟨16, 16, .ro, 2, .no⟩, ⟨0, 16, .rw, 0x50, .no⟩]⟩  -- AGE_LIMIT 2
  , ⟨0x1c, [], [⟨16, 16, .rw, 0x1f40, .no⟩, ⟨0, 16, .rw, 0x320, .no⟩]⟩  -- AGE_LIMIT 3
  , ⟨0x20, [], [⟨16, 16, .ro, 0x1000, .no⟩, ⟨8, 8, .ro, 0, .no⟩, ⟨0, 4, .ro, 0xf, .no⟩]⟩  -- MIRROR_DEST
  , ⟨0x30, [(4, 4)], [⟨31, 1, .ro, 0, .no⟩, ⟨29, 2, .ro, 0, .no⟩, ⟨16, 13, .ro, 0, .no⟩, ⟨0, 12, .ro, 0, .no⟩]⟩  -- MIRROR_S
  , ⟨0x100, [(0x10, 3)], [⟨16, 16, .sw, 0, .no⟩, ⟨0, 16, .sw, 0, .no⟩]⟩  -- MIN_CELLS 0, P0 to P2
  , ⟨0x130, [(0x10, 7)], [⟨16, 16, .sw, 0x40, .no⟩, ⟨0, 16, .sw, 0, .no⟩]⟩  -- MIN_CELLS 0, P3 to P9
  , ⟨0x104, [(0x10, 3)], [⟨16, 16, .sw, 0x80, .no⟩, ⟨0, 16, .sw, 0x80, .no⟩]⟩  -- MIN_CELLS 1, P0 to P2
  , ⟨0x134, [(0x10, 7)], [⟨16, 16, .sw, 0x80, .no⟩, ⟨0, 16, .sw, 0x80, .no⟩]⟩  -- MIN_CELLS 1, P3 to P9
  , ⟨0x108, [(0x10, 3)], [⟨16, 16, .sw, 0x800, .no⟩, ⟨0, 16, .sw, 0x100, .no⟩]⟩  -- MIN_CELLS 2, P0 to P2
  , ⟨0x138, [(0x10, 7)], [⟨16, 16, .sw, 0x80, .no⟩, ⟨0, 16, .sw, 0x80, .no⟩]⟩  -- MIN_CELLS 2, P3 to P9
  , ⟨0x10c, [(0x10, 3)], [⟨16, 16, .sw, 0x200, .no⟩, ⟨0, 16, .sw, 0x80, .no⟩]⟩  -- MIN_CELLS 3, P0 to P2
  , ⟨0x13c, [(0x10, 7)], [⟨16, 16, .sw, 0x80, .no⟩, ⟨0, 16, .sw, 0x80, .no⟩]⟩  -- MIN_CELLS 3, P3 to P9
  , ⟨0x200, [(4, 10)], [⟨0, 4, .sw, 0, .no⟩, ⟨4, 4, .sw, 0, .no⟩, ⟨8, 4, .sw, 0, .no⟩, ⟨12, 4, .sw, 0, .no⟩, ⟨16, 4, .sw, 0, .no⟩, ⟨20, 4, .sw, 0, .no⟩, ⟨24, 4, .sw, 0, .no⟩, ⟨28, 4, .sw, 0, .no⟩]⟩  -- PROFILE_SEL
  , ⟨0x300, [(4, 16)], [⟨24, 3, .sw, 3, .no⟩, ⟨20, 4, .sw, 0xf, .no⟩, ⟨16, 4, .sw, 0xf, .no⟩, ⟨12, 4, .sw, 0xc, .no⟩, ⟨8, 4, .sw, 0xf, .no⟩, ⟨4, 4, .sw, 8, .no⟩, ⟨0, 4, .sw, 0xb, .no⟩]⟩  -- PROFILE
  , ⟨0x400, [(0x20, 10), (4, 8)], [⟨17, 15, .ro, 0, .no⟩, ⟨0, 17, .ro, 0, .no⟩]⟩  -- OCCUPANCY
  , ⟨0x600, [(8, 3)], [⟨16, 16, .ro, 0, .no⟩, ⟨0, 16, .ro, 0, .no⟩]⟩  -- GRANT_AR
  , ⟨0x604, [(8, 3)], [⟨0, 16, .ro, 0, .no⟩]⟩  -- GRANT_B
  , ⟨0x1000, [(0x100, 10), (0x20, 8), (4, 7)], [⟨0, 32, .rc, 0, .no⟩]⟩  -- counters SWITCH_ADMITTED to SWITCH_HOLD_EXPIRED
  , ⟨0x1a00, [(0x20, 10), (4, 6)], [⟨0, 32, .rc, 0, .no⟩]⟩  -- counters SWITCH_CHECK_DROPS to SWITCH_HELD_ROUNDS
  , ⟨0x1c00, [(4, 3)], [⟨0, 32, .rc, 0, .no⟩]⟩  -- counters SWITCH_MIRROR_COPIES to SWITCH_CONGESTION_EVENTS
  ]

/-- Rows of the ENGINE block. -/
def rowsEngine : List RegRow :=
  [ ⟨0, [], [⟨16, 16, .ro, 0, .no⟩, ⟨0, 16, .ro, 0, .no⟩]⟩  -- ENG_RUN
  , ⟨4, [], [⟨8, 8, .rc, 0, .no⟩, ⟨0, 8, .ro, 0, .no⟩]⟩  -- PM_STATUS
  , ⟨8, [], [⟨0, 32, .ro, 0, .no⟩]⟩  -- BRIDGE_GEN
  , ⟨0xc, [], [⟨4, 1, .rwImm, 0, .no⟩, ⟨0, 4, .rwImm, 0, .no⟩]⟩  -- SLICE_SELECT
  , ⟨0x20, [], [⟨16, 16, .sw, 0xffff, .no⟩, ⟨7, 9, .sw, 0x28, .no⟩, ⟨0, 7, .sw, 4, .no⟩]⟩  -- KIND_CFG 0
  , ⟨0x24, [], [⟨16, 16, .sw, 0xffff, .no⟩, ⟨7, 9, .sw, 0xc8, .no⟩, ⟨0, 7, .sw, 6, .no⟩]⟩  -- KIND_CFG 1
  , ⟨0x28, [], [⟨16, 16, .sw, 0xffff, .no⟩, ⟨7, 9, .sw, 0x14, .no⟩, ⟨0, 7, .sw, 0, .no⟩]⟩  -- KIND_CFG 2
  , ⟨0x2c, [], [⟨16, 16, .sw, 0xffff, .no⟩, ⟨7, 9, .sw, 0x64, .no⟩, ⟨0, 7, .sw, 2, .no⟩]⟩  -- KIND_CFG 3
  , ⟨0x30, [], [⟨16, 16, .sw, 0xffff, .no⟩, ⟨7, 9, .sw, 0x14, .no⟩, ⟨0, 7, .sw, 1, .no⟩]⟩  -- KIND_CFG 4
  , ⟨0x40, [(4, 16)], [⟨16, 9, .ro, 0, .no⟩, ⟨0, 9, .ro, 0, .no⟩]⟩  -- ENG_LOAD
  , ⟨0x80, [(4, 16)], [⟨16, 9, .ro, 0, .no⟩, ⟨0, 9, .ro, 0, .no⟩]⟩  -- ENG_USE
  , ⟨0x1000, [(4, 4096)], [⟨31, 1, .ro, 0, .no⟩, ⟨28, 3, .ro, 0, .no⟩, ⟨16, 12, .ro, 0, .no⟩, ⟨7, 9, .ro, 0, .no⟩, ⟨6, 1, .ro, 0, .no⟩, ⟨0, 6, .ro, 0, .no⟩]⟩  -- CONTEXT
  , ⟨0x5000, [(0x400, 16), (4, 250)], [⟨16, 16, .ro, 0, .no⟩, ⟨0, 16, .ro, 0, .no⟩]⟩  -- SLICE_IMAGE
  , ⟨0x9000, [(0x40, 16), (4, 8)], [⟨0, 32, .rc, 0, .no⟩]⟩  -- counters ENGINE_SLICES_YIELDED to ENGINE_RESTARTS
  , ⟨0x9400, [(4, 13)], [⟨0, 32, .rc, 0, .no⟩]⟩  -- counters ENGINE_TBL_SPEC_LATE to ENGINE_LOCKSTEP_FAULTS
  ]

/-- Rows of the REGISTRY block. -/
def rowsRegistry : List RegRow :=
  [ ⟨0, [], [⟨16, 14, .ro, 0, .no⟩, ⟨0, 14, .ro, 0, .no⟩]⟩  -- REG_ENTRIES
  , ⟨4, [], [⟨16, 14, .ro, 0, .no⟩, ⟨0, 14, .ro, 0x2000, .no⟩]⟩  -- REG_POOL
  , ⟨8, [], [⟨16, 11, .rw, 0x10, .no⟩, ⟨0, 14, .rw, 0xa0, .no⟩]⟩  -- REG_CFG
  , ⟨0xc, [], [⟨16, 9, .rc, 0, .no⟩, ⟨0, 9, .ro, 0, .no⟩]⟩  -- REG_RATE
  , ⟨0x10, [], [⟨16, 13, .ro, 0, .no⟩, ⟨0, 13, .ro, 0, .no⟩]⟩  -- PIGEONHOLES
  , ⟨0x14, [], [⟨31, 1, .ro, 0, .no⟩, ⟨0, 14, .ro, 0, .no⟩]⟩  -- REPLAY
  , ⟨0x1000, [(4, 4096)], [⟨31, 1, .ro, 0, .kept⟩, ⟨16, 11, .ro, 0, .kept⟩, ⟨0, 11, .ro, 0, .kept⟩]⟩  -- WINDOW
  , ⟨0x5000, [(4, 4096)], [⟨16, 11, .ro, 0, .no⟩, ⟨0, 11, .ro, 0, .no⟩]⟩  -- USE
  , ⟨0x9000, [(4, 22)], [⟨0, 32, .rc, 0, .no⟩]⟩  -- counters REGISTRY_ACCEPTED to REGISTRY_REPLAYED
  ]

/-- Rows of the BRIDGE block. -/
def rowsBridge : List RegRow :=
  [ ⟨0, [], [⟨16, 14, .rw, 0x320, .no⟩, ⟨0, 1, .rw, 0, .no⟩]⟩  -- BRIDGE_CFG
  , ⟨4, [], [⟨28, 4, .sw, 0, .no⟩, ⟨0, 24, .sw, 0, .no⟩]⟩  -- DEFAULT_ROUTE
  , ⟨0x100, [(4, 64)], [⟨31, 1, .sw, 0, .no⟩, ⟨28, 3, .sw, 0, .no⟩, ⟨0, 12, .sw, 0, .no⟩]⟩  -- BIND
  , ⟨0x200, [(8, 4096)], [⟨31, 1, .sw, 0, .no⟩, ⟨29, 2, .sw, 0, .no⟩, ⟨0, 29, .sw, 0, .no⟩]⟩  -- ROUTE_0
  , ⟨0x204, [(8, 4096)], [⟨31, 1, .sw, 0, .no⟩, ⟨0, 6, .sw, 0, .no⟩]⟩  -- ROUTE_4
  , ⟨0x8200, [(0x10, 64)], [⟨31, 1, .sw, 0, .no⟩, ⟨29, 2, .sw, 0, .no⟩, ⟨28, 1, .sw, 0, .no⟩, ⟨27, 1, .sw, 0, .no⟩, ⟨22, 2, .sw, 0, .no⟩, ⟨16, 6, .sw, 0, .no⟩, ⟨8, 8, .sw, 0, .no⟩, ⟨0, 8, .sw, 0, .no⟩]⟩  -- RANGE_0
  , ⟨0x8204, [(0x10, 64)], [⟨16, 16, .sw, 0, .no⟩, ⟨0, 16, .sw, 0, .no⟩]⟩  -- RANGE_4
  , ⟨0x8208, [(0x10, 64)], [⟨16, 16, .sw, 0, .no⟩, ⟨6, 1, .sw, 0, .no⟩, ⟨0, 6, .sw, 0, .no⟩]⟩  -- RANGE_8
  , ⟨0x820c, [(0x10, 64)], [⟨16, 16, .sw, 0, .no⟩, ⟨0, 16, .sw, 0, .no⟩]⟩  -- RANGE_C
  , ⟨0x9000, [(4, 9)], [⟨0, 32, .rc, 0, .no⟩]⟩  -- counters BRIDGE_BUSY_ANSWERS to BRIDGE_BAD_MESSAGES
  ]

/-- Rows of the DISPLAY block. -/
def rowsDisplay : List RegRow :=
  [ ⟨0, [(4, 6)], [⟨31, 1, .rw, 0, .no⟩, ⟨28, 3, .rw, 6, .no⟩, ⟨26, 2, .rw, 2, .no⟩, ⟨16, 8, .rw, 4, .no⟩, ⟨0, 12, .sw, 0, .no⟩]⟩  -- DP_CFG
  , ⟨0x20, [(4, 6)], [⟨31, 1, .ro, 0, .no⟩, ⟨30, 1, .ro, 0, .no⟩, ⟨27, 3, .ro, 0, .no⟩, ⟨25, 2, .ro, 0, .no⟩, ⟨23, 2, .ro, 0, .no⟩, ⟨22, 1, .ro, 0, .no⟩, ⟨0, 16, .ro, 0, .no⟩]⟩  -- DP_STATE
  , ⟨0x100, [(0x20, 6), (4, 8)], [⟨0, 32, .rc, 0, .no⟩]⟩  -- counters DISPLAY_PARCELS to DISPLAY_HPD_EVENTS
  ]

/-- Rows of the STORAGE block. -/
def rowsStorage : List RegRow :=
  [ ⟨0, [], [⟨16, 3, .ro, 0, .no⟩, ⟨8, 8, .ro, 0, .no⟩, ⟨4, 4, .ro, 0, .no⟩, ⟨0, 4, .ro, 0, .no⟩]⟩  -- SSD_STATE
  , ⟨4, [], [⟨0, 6, .rw, 4, .no⟩]⟩  -- RELAY_CFG
  , ⟨0x100, [(0x20, 64)], [⟨31, 1, .sw, 0, .no⟩, ⟨30, 1, .sw, 0, .no⟩, ⟨29, 1, .sw, 0, .no⟩, ⟨22, 7, .sw, 0, .no⟩, ⟨18, 4, .sw, 0, .no⟩, ⟨0, 12, .sw, 0, .no⟩]⟩  -- RELAY_NS_0
  , ⟨0x104, [(0x20, 64)], [⟨0, 32, .sw, 0, .no⟩]⟩  -- RELAY_NS_4
  , ⟨0x108, [(0x20, 64)], [⟨0, 32, .sw, 0, .no⟩]⟩  -- RELAY_NS_8
  , ⟨0x10c, [(0x20, 64)], [⟨0, 32, .sw, 0, .no⟩]⟩  -- RELAY_NS_C
  , ⟨0x110, [(0x20, 64)], [⟨0, 32, .sw, 0, .no⟩]⟩  -- RELAY_NS_10
  , ⟨0x114, [(0x20, 64)], [⟨0, 32, .sw, 0, .no⟩]⟩  -- RELAY_NS_14
  , ⟨0x1000, [(4, 7)], [⟨0, 32, .rc, 0, .no⟩]⟩  -- counters STORAGE_CMDS_LOCAL to STORAGE_HELD_SUBMISSIONS
  ]

/-- Rows of the ETHER block. -/
def rowsEther : List RegRow :=
  [ ⟨0, [(4, 11)], [⟨31, 1, .rw, 0, .no⟩, ⟨30, 1, .sw, 0, .no⟩, ⟨28, 2, .rw, 2, .no⟩, ⟨0, 12, .sw, 0, .no⟩]⟩  -- SUB_CFG
  , ⟨0x40, [(4, 11)], [⟨31, 1, .ro, 0, .no⟩, ⟨30, 1, .ro, 0, .no⟩]⟩  -- SUB_STATE
  , ⟨0x1000, [(4, 1024)], [⟨31, 1, .sw, 0, .no⟩, ⟨30, 1, .sw, 0, .no⟩, ⟨24, 4, .sw, 0, .no⟩, ⟨12, 12, .sw, 0, .no⟩, ⟨0, 12, .sw, 0, .no⟩]⟩  -- VLAN_MAP
  , ⟨0x2000, [(0x20, 11), (4, 6)], [⟨0, 32, .rc, 0, .no⟩]⟩  -- counters ETHER_FRAMES_IN to ETHER_PAUSE_DISCARDED
  ]

/-- Rows of the USB block. -/
def rowsUsb : List RegRow :=
  [ ⟨0, [(4, 4)], [⟨31, 1, .rw, 0, .no⟩, ⟨30, 1, .rw, 1, .no⟩, ⟨29, 1, .rw, 1, .no⟩]⟩  -- USB_PORT_CFG
  , ⟨0x10, [(4, 4)], [⟨9, 1, .ro, 0, .no⟩, ⟨8, 1, .w1c, 0, .no⟩, ⟨4, 3, .ro, 0, .no⟩, ⟨0, 3, .ro, 0, .no⟩]⟩  -- USB_PORT_STATE
  , ⟨0x20, [], [⟨16, 12, .sw, 0, .no⟩, ⟨0, 12, .sw, 0, .no⟩]⟩  -- HUB_TREE
  , ⟨0x24, [], [⟨31, 1, .ro, 0, .no⟩, ⟨0, 12, .sw, 0, .no⟩]⟩  -- HUB_TREE_ISO
  , ⟨0x28, [], [⟨8, 6, .rw, 4, .no⟩, ⟨0, 6, .rw, 5, .no⟩]⟩  -- TREE_CFG
  , ⟨0x40, [(8, 16)], [⟨31, 1, .rw, 0, .no⟩, ⟨16, 12, .sw, 0, .no⟩, ⟨0, 12, .sw, 0, .no⟩]⟩  -- ROOT_PORT_0
  , ⟨0x44, [(8, 16)], [⟨31, 1, .ro, 0, .no⟩, ⟨0, 12, .sw, 0, .no⟩]⟩  -- ROOT_PORT_4
  , ⟨0x100, [], [⟨24, 8, .ro, 0, .no⟩, ⟨16, 8, .ro, 0, .no⟩, ⟨8, 8, .ro, 0, .no⟩, ⟨3, 2, .ro, 0, .no⟩, ⟨0, 3, .ro, 0, .no⟩]⟩  -- SVC_STATE
  , ⟨0x104, [], [⟨16, 16, .ro, 0, .no⟩, ⟨0, 16, .ro, 0x7400, .no⟩]⟩  -- SVC_ID
  , ⟨0x200, [(0x20, 4), (4, 7)], [⟨0, 32, .rc, 0, .no⟩]⟩  -- counters USB_CONNECTS to USB_WAKES_MERGED
  , ⟨0x300, [(0x10, 17), (4, 4)], [⟨0, 32, .rc, 0, .no⟩]⟩  -- counters USB_XFER_TIMEOUTS to USB_TREE_LOST
  , ⟨0x500, [(4, 8)], [⟨0, 32, .rc, 0, .no⟩]⟩  -- counters USB_BUS_RESETS to USB_SVC_WAKES_MERGED
  ]

/-- Rows of the FIELD block. -/
def rowsField : List RegRow :=
  [ ⟨0, [(4, 4)], [⟨31, 1, .rw, 0, .no⟩, ⟨30, 1, .sw, 1, .no⟩, ⟨27, 3, .sw, 2, .no⟩, ⟨24, 3, .sw, 2, .no⟩, ⟨0, 11, .sw, 0x3e8, .no⟩]⟩  -- CAN_CFG
  , ⟨0x10, [(4, 2)], [⟨31, 1, .rw, 0, .no⟩, ⟨30, 1, .sw, 0, .no⟩, ⟨28, 2, .sw, 0, .no⟩, ⟨27, 1, .sw, 0, .no⟩, ⟨0, 24, .sw, 0x4b00, .no⟩]⟩  -- RS485_CFG
  , ⟨0x18, [(4, 2)], [⟨16, 16, .sw, 0x3e8, .no⟩, ⟨8, 8, .sw, 0, .no⟩, ⟨0, 2, .sw, 1, .no⟩]⟩  -- RS485_TIMING
  , ⟨0x20, [(4, 6)], [⟨24, 2, .ro, 3, .no⟩, ⟨16, 8, .ro, 0, .no⟩, ⟨8, 8, .ro, 0, .no⟩, ⟨0, 1, .ro, 0, .no⟩]⟩  -- BUS_STATE
  , ⟨0x100, [(0x40, 6), (4, 14)], [⟨0, 32, .rc, 0, .no⟩]⟩  -- counters FIELD_FRAMES_RX to FIELD_TX_DROPPED
  ]

/-- Rows of the PWRIN block. -/
def rowsPwrin : List RegRow :=
  [ ⟨0, [(4, 2)], [⟨31, 1, .rwImm, 1, .kept⟩, ⟨24, 4, .rw, 7, .kept⟩, ⟨20, 4, .sw, 2, .kept⟩, ⟨10, 10, .sw, 0x190, .kept⟩, ⟨0, 7, .sw, 0x18, .kept⟩]⟩  -- IN_CFG
  , ⟨0x10, [(4, 2)], [⟨16, 16, .ro, 0, .no⟩, ⟨12, 4, .ro, 0, .no⟩, ⟨8, 4, .ro, 0, .no⟩, ⟨6, 1, .ro, 0, .no⟩, ⟨5, 1, .ro, 0, .no⟩, ⟨4, 1, .ro, 0, .no⟩, ⟨3, 1, .ro, 0, .no⟩, ⟨0, 3, .ro, 0, .no⟩]⟩  -- IN_STATE
  , ⟨0x20, [(0x10, 2)], [⟨31, 1, .ro, 0, .no⟩, ⟨30, 1, .ro, 0, .no⟩, ⟨29, 1, .ro, 0, .no⟩, ⟨14, 14, .ro, 0, .no⟩, ⟨0, 14, .ro, 0, .no⟩]⟩  -- MEASURE_0
  , ⟨0x24, [(0x10, 2)], [⟨0, 32, .ro, 0, .no⟩]⟩  -- MEASURE_4
  , ⟨0x28, [(0x10, 2)], [⟨0, 32, .ro, 0, .always⟩]⟩  -- MEASURE_8
  , ⟨0x2c, [(0x10, 2)], [⟨0, 16, .ro, 0, .always⟩]⟩  -- MEASURE_C
  , ⟨0x40, [], [⟨29, 3, .ro, 0, .no⟩, ⟨0, 14, .ro, 0, .no⟩]⟩  -- VOUT
  , ⟨0x44, [], [⟨2, 1, .w1c, 0, .no⟩, ⟨1, 1, .ro, 0, .no⟩, ⟨0, 1, .ro, 0, .no⟩]⟩  -- SUPPLY_STATUS
  , ⟨0x100, [(0x40, 2), (4, 8)], [⟨0, 32, .rc, 0, .no⟩]⟩  -- counters PWRIN_TIMER_TRIPS to PWRIN_SAMPLES_MISSING
  , ⟨0x200, [(4, 2)], [⟨0, 32, .rc, 0, .no⟩]⟩  -- counters PWRIN_PFW_EVENTS to PWRIN_UV_TRIPS
  ]

/-- Rows of the PD block. -/
def rowsPd : List RegRow :=
  [ ⟨0, [], [⟨0, 8, .rw, 0x3c, .kept⟩]⟩  -- PD_BUDGET
  , ⟨0x10, [(0x10, 4)], [⟨11, 1, .ro, 0, .no⟩, ⟨10, 1, .ro, 0, .no⟩, ⟨8, 2, .ro, 0, .no⟩, ⟨7, 1, .ro, 0, .no⟩, ⟨6, 1, .ro, 0, .no⟩, ⟨5, 1, .ro, 0, .no⟩, ⟨4, 1, .ro, 1, .no⟩, ⟨3, 1, .ro, 0, .no⟩, ⟨0, 3, .ro, 0, .no⟩]⟩  -- PD_PORT_0
  , ⟨0x50, [], [⟨11, 1, .ro, 0, .no⟩, ⟨10, 1, .ro, 0, .no⟩, ⟨8, 2, .ro, 0, .no⟩, ⟨7, 1, .ro, 0, .no⟩, ⟨6, 1, .ro, 0, .no⟩, ⟨5, 1, .ro, 0, .no⟩, ⟨4, 1, .ro, 0, .no⟩, ⟨3, 1, .ro, 0, .no⟩, ⟨0, 3, .ro, 0, .no⟩]⟩  -- PD_PORT_0, port 4
  , ⟨0x14, [(0x10, 5)], [⟨20, 8, .ro, 0, .no⟩, ⟨10, 10, .ro, 0, .no⟩, ⟨0, 10, .ro, 0, .no⟩]⟩  -- PD_PORT_4
  , ⟨0x18, [(0x10, 5)], [⟨29, 3, .ro, 0, .no⟩, ⟨0, 14, .ro, 0, .no⟩]⟩  -- PD_PORT_8
  , ⟨0x1c, [(0x10, 4)], [⟨8, 8, .ro, 0x3c, .kept⟩, ⟨4, 2, .ro, 0, .kept⟩, ⟨2, 1, .ro, 0, .kept⟩, ⟨1, 1, .ro, 1, .kept⟩, ⟨0, 1, .ro, 1, .kept⟩]⟩  -- PD_PORT_C
  , ⟨0x5c, [], [⟨8, 8, .ro, 0x3c, .kept⟩, ⟨4, 2, .ro, 0, .kept⟩, ⟨2, 1, .ro, 0, .kept⟩, ⟨1, 1, .ro, 0, .kept⟩, ⟨0, 1, .ro, 0, .kept⟩]⟩  -- PD_PORT_C, port 4
  , ⟨0x100, [(0x20, 5), (4, 8)], [⟨0, 32, .rc, 0, .no⟩]⟩  -- counters PD_MSG_RETRIES to PD_MSGS_DISCARDED
  ]

/-- Rows of the PSTATE block. -/
def rowsPstate : List RegRow :=
  [ ⟨0, [], [⟨2, 6, .rw, 0x3f, .kept⟩, ⟨1, 1, .rw, 1, .no⟩, ⟨0, 1, .ro, 1, .no⟩]⟩  -- DOMAIN_REQ
  , ⟨4, [], [⟨1, 7, .w1c, 0, .no⟩]⟩  -- DOMAIN_FAULT
  , ⟨8, [], [⟨31, 1, .rw, 0, .kept⟩, ⟨30, 1, .rw, 0, .kept⟩, ⟨29, 1, .wo, 0, .no⟩, ⟨0, 16, .rw, 0xe10, .kept⟩]⟩  -- DORMANT_CFG
  , ⟨0xc, [], [⟨16, 16, .rw, 0, .kept⟩, ⟨1, 6, .rw, 0x3f, .kept⟩]⟩  -- WAKE_CFG
  , ⟨0x10, [], [⟨16, 16, .ro, 0, .no⟩, ⟨8, 8, .ro, 0, .no⟩, ⟨4, 4, .ro, 0, .no⟩, ⟨0, 3, .ro, 0, .no⟩]⟩  -- PS_STATE
  , ⟨0x14, [], [⟨24, 8, .ro, 0, .no⟩, ⟨16, 8, .ro, 0, .no⟩, ⟨1, 6, .ro, 0, .no⟩]⟩  -- LAST_WAKE
  , ⟨0x18, [], [⟨0, 32, .ro, 0, .no⟩]⟩  -- LAST_DORMANT_S
  , ⟨0x100, [(4, 5)], [⟨0, 32, .rc, 0, .no⟩]⟩  -- counters PSTATE_DORMANT_ENTRIES to PSTATE_RAIL_FAULTS
  , ⟨0x144, [(4, 10)], [⟨0, 32, .rc, 0, .no⟩]⟩  -- counters PSTATE_REFUSER
  ]

/-- Rows of the SECURE block. -/
def rowsSecure : List RegRow :=
  [ ⟨0, [], [⟨16, 16, .ro, 0, .kept⟩, ⟨4, 1, .ro, 0, .no⟩, ⟨3, 1, .ro, 0, .no⟩, ⟨2, 1, .ro, 0, .kept⟩, ⟨1, 1, .ro, 0, .no⟩, ⟨0, 1, .ro, 0, .no⟩]⟩  -- SEC_STATE
  , ⟨4, [], [⟨16, 6, .sw, 0, .kept⟩, ⟨8, 6, .sw, 0, .kept⟩, ⟨0, 6, .sw, 0, .kept⟩]⟩  -- LINK_SLOT
  , ⟨8, [], [⟨0, 32, .ro, 0, .always⟩]⟩  -- ZEROISE_COUNT
  , ⟨0xc, [], [⟨16, 1, .ro, 0, .no⟩, ⟨0, 12, .ro, 0, .no⟩]⟩  -- SELF_TEST
  , ⟨0x10, [(4, 3)], [⟨31, 1, .ro, 0, .no⟩, ⟨0, 13, .ro, 0, .kept⟩]⟩  -- LINK_USES
  , ⟨0x100, [(4, 64)], [⟨30, 2, .ro, 0, .always⟩, ⟨28, 2, .ro, 0, .always⟩, ⟨16, 6, .ro, 0, .always⟩]⟩  -- SLOT_ATTR
  , ⟨0x200, [(4, 66)], [⟨0, 32, .ro, 0, .kept⟩]⟩  -- SEAL_COUNTER
  , ⟨0x400, [(4, 4)], [⟨0, 32, .rc, 0, .no⟩]⟩  -- counters SECURE_LETTERS_ACCEPTED to SECURE_LINK_RETRAINS
  ]

/-- Rows of the MEMORY block. -/
def rowsMemory : List RegRow :=
  [ ⟨0, [(4, 2)], [⟨0, 16, .rw, 1, .no⟩]⟩  -- SCRUB_CFG 0 and 1
  , ⟨8, [], [⟨0, 16, .ro, 0, .no⟩]⟩  -- SCRUB_CFG 2
  , ⟨0xc, [(4, 4)], [⟨0, 16, .rw, 1, .no⟩]⟩  -- SCRUB_CFG 3 to 6
  , ⟨0x1c, [], [⟨0, 16, .rw, 0xe10, .no⟩]⟩  -- SCRUB_CFG 7
  , ⟨0x20, [(4, 8)], [⟨27, 5, .ro, 0, .no⟩, ⟨0, 27, .ro, 0, .no⟩]⟩  -- MEM_STATE
  , ⟨0x40, [], [⟨0, 11, .ro, 0, .no⟩]⟩  -- RETIRED
  , ⟨0x44, [], [⟨0, 9, .ro, 0, .always⟩]⟩  -- MRAM_SPARES
  , ⟨0x100, [(0x20, 8), (4, 6)], [⟨0, 32, .rc, 0, .no⟩]⟩  -- counters MEMORY_CORRECTED to MEMORY_STICKY
  , ⟨0x200, [], [⟨0, 32, .rc, 0, .no⟩]⟩  -- counters MEMORY_DUAL_RESTORED
  ]

/-- Rows of the RECORDER block. -/
def rowsRecorder : List RegRow :=
  [ ⟨0, [], [⟨31, 1, .ro, 0, .no⟩, ⟨24, 7, .ro, 0, .no⟩]⟩  -- REC_STATE
  , ⟨4, [], [⟨0, 32, .ro, 0, .always⟩]⟩  -- OPERATING_LO
  , ⟨8, [], [⟨0, 32, .ro, 0, .always⟩]⟩  -- OPERATING_HI
  , ⟨0xc, [], [⟨0, 32, .ro, 0, .always⟩]⟩  -- HOURS
  , ⟨0x10, [], [⟨0, 32, .ro, 0, .always⟩]⟩  -- POWER_CYCLES
  , ⟨0x100, [], [⟨0, 8, .sw, 1, .no⟩]⟩  -- HIST_CFG_0, histogram 0
  , ⟨0x110, [], [⟨0, 8, .sw, 2, .no⟩]⟩  -- HIST_CFG_0, histogram 1
  , ⟨0x120, [], [⟨0, 8, .sw, 3, .no⟩]⟩  -- HIST_CFG_0, histogram 2
  , ⟨0x130, [], [⟨0, 8, .sw, 4, .no⟩]⟩  -- HIST_CFG_0, histogram 3
  , ⟨0x140, [], [⟨0, 8, .sw, 5, .no⟩]⟩  -- HIST_CFG_0, histogram 4
  , ⟨0x150, [], [⟨0, 8, .sw, 6, .no⟩]⟩  -- HIST_CFG_0, histogram 5
  , ⟨0x160, [], [⟨0, 8, .sw, 7, .no⟩]⟩  -- HIST_CFG_0, histogram 6
  , ⟨0x170, [], [⟨0, 8, .sw, 8, .no⟩]⟩  -- HIST_CFG_0, histogram 7
  , ⟨0x180, [], [⟨0, 8, .sw, 9, .no⟩]⟩  -- HIST_CFG_0, histogram 8
  , ⟨0x190, [], [⟨0, 8, .sw, 0xa, .no⟩]⟩  -- HIST_CFG_0, histogram 9
  , ⟨0x1a0, [], [⟨0, 8, .sw, 0xb, .no⟩]⟩  -- HIST_CFG_0, histogram 10
  , ⟨0x1b0, [], [⟨0, 8, .sw, 0xc, .no⟩]⟩  -- HIST_CFG_0, histogram 11
  , ⟨0x1c0, [], [⟨0, 8, .sw, 0xd, .no⟩]⟩  -- HIST_CFG_0, histogram 12
  , ⟨0x1d0, [], [⟨0, 8, .sw, 0xe, .no⟩]⟩  -- HIST_CFG_0, histogram 13
  , ⟨0x1e0, [(0x10, 50)], [⟨0, 8, .sw, 0, .no⟩]⟩  -- HIST_CFG_0, histograms 14 to 63
  , ⟨0x104, [], [⟨0, 32, .sw, 0xfffffe70, .no⟩]⟩  -- HIST_CFG_4, histogram 0
  , ⟨0x114, [], [⟨0, 32, .sw, 0xfffffe70, .no⟩]⟩  -- HIST_CFG_4, histogram 1
  , ⟨0x124, [], [⟨0, 32, .sw, 0x3a98, .no⟩]⟩  -- HIST_CFG_4, histogram 2
  , ⟨0x134, [], [⟨0, 32, .sw, 0x3a98, .no⟩]⟩  -- HIST_CFG_4, histogram 3
  , ⟨0x144, [], [⟨0, 32, .sw, 0x2ee0, .no⟩]⟩  -- HIST_CFG_4, histogram 4
  , ⟨0x154, [], [⟨0, 32, .sw, 0, .no⟩]⟩  -- HIST_CFG_4, histogram 5
  , ⟨0x164, [], [⟨0, 32, .sw, 0, .no⟩]⟩  -- HIST_CFG_4, histogram 6
  , ⟨0x174, [], [⟨0, 32, .sw, 0, .no⟩]⟩  -- HIST_CFG_4, histogram 7
  , ⟨0x184, [], [⟨0, 32, .sw, 0, .no⟩]⟩  -- HIST_CFG_4, histogram 8
  , ⟨0x194, [], [⟨0, 32, .sw, 1, .no⟩]⟩  -- HIST_CFG_4, histogram 9
  , ⟨0x1a4, [], [⟨0, 32, .sw, 1, .no⟩]⟩  -- HIST_CFG_4, histogram 10
  , ⟨0x1b4, [], [⟨0, 32, .sw, 1, .no⟩]⟩  -- HIST_CFG_4, histogram 11
  , ⟨0x1c4, [], [⟨0, 32, .sw, 0, .no⟩]⟩  -- HIST_CFG_4, histogram 12
  , ⟨0x1d4, [], [⟨0, 32, .sw, 0, .no⟩]⟩  -- HIST_CFG_4, histogram 13
  , ⟨0x1e4, [(0x10, 50)], [⟨0, 32, .sw, 0, .no⟩]⟩  -- HIST_CFG_4, histograms 14 to 63
  , ⟨0x108, [], [⟨0, 32, .sw, 0x32, .no⟩]⟩  -- HIST_CFG_8, histogram 0
  , ⟨0x118, [], [⟨0, 32, .sw, 0x32, .no⟩]⟩  -- HIST_CFG_8, histogram 1
  , ⟨0x128, [], [⟨0, 32, .sw, 0x3e8, .no⟩]⟩  -- HIST_CFG_8, histogram 2
  , ⟨0x138, [], [⟨0, 32, .sw, 0x3e8, .no⟩]⟩  -- HIST_CFG_8, histogram 3
  , ⟨0x148, [], [⟨0, 32, .sw, 0x3e8, .no⟩]⟩  -- HIST_CFG_8, histogram 4
  , ⟨0x158, [], [⟨0, 32, .sw, 0x2710, .no⟩]⟩  -- HIST_CFG_8, histogram 5
  , ⟨0x168, [], [⟨0, 32, .sw, 0x1000, .no⟩]⟩  -- HIST_CFG_8, histogram 6
  , ⟨0x178, [], [⟨0, 32, .sw, 0x100, .no⟩]⟩  -- HIST_CFG_8, histogram 7
  , ⟨0x188, [], [⟨0, 32, .sw, 4, .no⟩]⟩  -- HIST_CFG_8, histogram 8
  , ⟨0x198, [], [⟨0, 32, .sw, 1, .no⟩]⟩  -- HIST_CFG_8, histogram 9
  , ⟨0x1a8, [], [⟨0, 32, .sw, 1, .no⟩]⟩  -- HIST_CFG_8, histogram 10
  , ⟨0x1b8, [], [⟨0, 32, .sw, 1, .no⟩]⟩  -- HIST_CFG_8, histogram 11
  , ⟨0x1c8, [], [⟨0, 32, .sw, 4, .no⟩]⟩  -- HIST_CFG_8, histogram 12
  , ⟨0x1d8, [], [⟨0, 32, .sw, 0x1f40, .no⟩]⟩  -- HIST_CFG_8, histogram 13
  , ⟨0x1e8, [(0x10, 50)], [⟨0, 32, .sw, 1, .no⟩]⟩  -- HIST_CFG_8, histograms 14 to 63
  , ⟨0x800, [], [⟨0, 32, .rc, 0, .no⟩]⟩  -- counters RECORDER_AUTO_THAWS
  ]

/-- Rows of the PINS block. -/
def rowsPins : List RegRow :=
  [ ⟨0, [], [⟨11, 1, .ro, 0, .no⟩, ⟨4, 7, .ro, 0, .no⟩, ⟨3, 1, .ro, 0, .no⟩, ⟨2, 1, .ro, 1, .no⟩, ⟨1, 1, .ro, 0, .no⟩, ⟨0, 1, .ro, 1, .no⟩]⟩  -- PIN_LEVELS
  , ⟨4, [], [⟨16, 16, .ro, 0x8000, .no⟩, ⟨0, 16, .ro, 0, .no⟩]⟩  -- DIE_TEMP
  , ⟨8, [], [⟨2, 2, .rw, 2, .no⟩, ⟨1, 1, .rw, 0, .no⟩]⟩  -- IO_CFG
  ]

/-- The block identifiers of R9 with their rows. -/
def blockRows : Nat → Option (List RegRow)
  | 0 => some rowsHub
  | 1 => some rowsRound
  | 2 => some rowsTrk
  | 3 => some rowsTrk
  | 4 => some rowsTrk
  | 5 => some rowsTopo
  | 0x10 => some rowsTunnel
  | 0x11 => some rowsSwitch
  | 0x12 => some rowsEngine
  | 0x13 => some rowsRegistry
  | 0x14 => some rowsBridge
  | 0x20 => some rowsDisplay
  | 0x21 => some rowsStorage
  | 0x22 => some rowsEther
  | 0x23 => some rowsUsb
  | 0x24 => some rowsField
  | 0x30 => some rowsPwrin
  | 0x31 => some rowsPd
  | 0x32 => some rowsPstate
  | 0x40 => some rowsSecure
  | 0x41 => some rowsMemory
  | 0x42 => some rowsRecorder
  | 0x50 => some rowsPins
  | _ => none

namespace Reg

abbrev HUB_ID : Nat := 0
abbrev HUB_ID_PART : Fld := ⟨0, 16, 16⟩
abbrev HUB_ID_VENDOR : Fld := ⟨0, 0, 16⟩
abbrev HUB_REV : Nat := 4
abbrev HUB_REV_REVISION : Fld := ⟨4, 0, 8⟩
abbrev HUB_ADDR : Nat := 8
abbrev HUB_ADDR_VALID : Fld := ⟨8, 31, 1⟩
abbrev HUB_ADDR_POSTCODE : Fld := ⟨8, 0, 16⟩
abbrev HUB_ROLES : Nat := 0xc
abbrev HUB_ROLES_STANDBY_ROOT : Fld := ⟨0xc, 4, 1⟩
abbrev HUB_ROLES_JUNCTION : Fld := ⟨0xc, 3, 1⟩
abbrev HUB_ROLES_ROUND_MASTER : Fld := ⟨0xc, 2, 1⟩
abbrev HUB_ROLES_ROOT : Fld := ⟨0xc, 1, 1⟩
abbrev HUB_ROLES_MEMBER : Fld := ⟨0xc, 0, 1⟩
abbrev DOMAIN_ON : Nat := 0x10
abbrev DOMAIN_ON_CIPHER : Fld := ⟨0x10, 7, 1⟩
abbrev DOMAIN_ON_STATION : Fld := ⟨0x10, 6, 1⟩
abbrev DOMAIN_ON_HOSTIO : Fld := ⟨0x10, 5, 1⟩
abbrev DOMAIN_ON_TRK_C : Fld := ⟨0x10, 4, 1⟩
abbrev DOMAIN_ON_TRK_B : Fld := ⟨0x10, 3, 1⟩
abbrev DOMAIN_ON_TRK_A : Fld := ⟨0x10, 2, 1⟩
abbrev DOMAIN_ON_CORE : Fld := ⟨0x10, 1, 1⟩
abbrev DOMAIN_ON_KEEP : Fld := ⟨0x10, 0, 1⟩
abbrev DIE_LINKS : Nat := 0x14
abbrev DIE_LINKS_KP_FAULT : Fld := ⟨0x14, 9, 1⟩
abbrev DIE_LINKS_SK_FAULT : Fld := ⟨0x14, 8, 1⟩
abbrev DIE_LINKS_KP_UP : Fld := ⟨0x14, 1, 1⟩
abbrev DIE_LINKS_SK_UP : Fld := ⟨0x14, 0, 1⟩
abbrev NOW_LO : Nat := 0x10000
abbrev NOW_LO_ROUND_LO : Fld := ⟨0x10000, 0, 32⟩
abbrev NOW_HI : Nat := 0x10004
abbrev NOW_HI_ROUND_HI : Fld := ⟨0x10004, 0, 15⟩
abbrev NOW_NS : Nat := 0x10008
abbrev NOW_NS_NS : Fld := ⟨0x10008, 0, 17⟩
abbrev TIMING : Nat := 0x1000c
abbrev TIMING_EPOCH : Fld := ⟨0x1000c, 16, 16⟩
abbrev TIMING_DISTANCE : Fld := ⟨0x1000c, 8, 8⟩
abbrev TIMING_PARENT : Fld := ⟨0x1000c, 6, 2⟩
abbrev TIMING_DEP_VALID : Fld := ⟨0x1000c, 5, 1⟩
abbrev TIMING_RES_VALID : Fld := ⟨0x1000c, 4, 1⟩
abbrev TIMING_STATE : Fld := ⟨0x1000c, 0, 3⟩
abbrev MASTER_SEEN : Nat := 0x10010
abbrev MASTER_SEEN_MASTER_PC : Fld := ⟨0x10010, 0, 16⟩
abbrev SUCCESSORS_SEEN : Nat := 0x10014
abbrev SUCCESSORS_SEEN_RESERVE_PC : Fld := ⟨0x10014, 16, 16⟩
abbrev SUCCESSORS_SEEN_DEPUTY_PC : Fld := ⟨0x10014, 0, 16⟩
abbrev PHASE_ERR : Nat := 0x10018
abbrev PHASE_ERR_E_NS : Fld := ⟨0x10018, 0, 32⟩
abbrev FREQ : Nat := 0x1001c
abbrev FREQ_FREQ_PPB : Fld := ⟨0x1001c, 0, 32⟩
abbrev ROUND_CFG : Nat := 0x10020
abbrev ROUND_CFG_RES_EN : Fld := ⟨0x10020, 5, 1⟩
abbrev ROUND_CFG_DEP_EN : Fld := ⟨0x10020, 4, 1⟩
abbrev ROUND_CFG_MASTER_PRIORITY : Fld := ⟨0x10020, 0, 4⟩
abbrev SUCCESSORS : Nat := 0x10024
abbrev SUCCESSORS_RESERVE_CFG : Fld := ⟨0x10024, 16, 16⟩
abbrev SUCCESSORS_DEPUTY_CFG : Fld := ⟨0x10024, 0, 16⟩
abbrev PULSE_CFG : Nat := 0x10028
abbrev PULSE_CFG_MODE : Fld := ⟨0x10028, 0, 2⟩
abbrev ASYM : Nat := 0x1002c
abbrev ASYM_ASYM_C : Fld := ⟨0x1002c, 20, 10⟩
abbrev ASYM_ASYM_B : Fld := ⟨0x1002c, 10, 10⟩
abbrev ASYM_ASYM_A : Fld := ⟨0x1002c, 0, 10⟩
abbrev HOP_DELAY (i : Nat) : Nat := 0x10030 + 4 * i
abbrev HOP_DELAY_VALID (i : Nat) : Fld := ⟨0x10030 + 4 * i, 31, 1⟩
abbrev HOP_DELAY_D_NS (i : Nat) : Fld := ⟨0x10030 + 4 * i, 0, 17⟩
abbrev BEAT_ARRIVAL : Nat := 0x1003c
abbrev BEAT_ARRIVAL_NS : Fld := ⟨0x1003c, 0, 18⟩
abbrev TRK_PORT_CFG (p : Nat) : Nat := (2 + p) * 0x10000 + 0
abbrev TRK_PORT_CFG_MOD_PWR_MAX (p : Nat) : Fld := ⟨(2 + p) * 0x10000 + 0, 12, 4⟩
abbrev TRK_PORT_CFG_TX_PRESET (p : Nat) : Fld := ⟨(2 + p) * 0x10000 + 0, 8, 3⟩
abbrev TRK_PORT_CFG_LANES_EN (p : Nat) : Fld := ⟨(2 + p) * 0x10000 + 0, 4, 4⟩
abbrev TRK_PORT_CFG_MEDIUM (p : Nat) : Fld := ⟨(2 + p) * 0x10000 + 0, 3, 1⟩
abbrev TRK_PORT_CFG_FULL_EN (p : Nat) : Fld := ⟨(2 + p) * 0x10000 + 0, 2, 1⟩
abbrev TRK_PORT_CFG_EN (p : Nat) : Fld := ⟨(2 + p) * 0x10000 + 0, 0, 1⟩
abbrev LANE_PLAN (p : Nat) : Nat := (2 + p) * 0x10000 + 4
abbrev LANE_PLAN_REST (p : Nat) : Fld := ⟨(2 + p) * 0x10000 + 4, 4, 1⟩
abbrev LANE_PLAN_POWERED (p : Nat) : Fld := ⟨(2 + p) * 0x10000 + 4, 0, 4⟩
abbrev TRK_PORT_STATE (p : Nat) : Nat := (2 + p) * 0x10000 + 8
abbrev TRK_PORT_STATE_RX_MASK (p : Nat) : Fld := ⟨(2 + p) * 0x10000 + 8, 16, 4⟩
abbrev TRK_PORT_STATE_TX_MASK (p : Nat) : Fld := ⟨(2 + p) * 0x10000 + 8, 12, 4⟩
abbrev TRK_PORT_STATE_RATE (p : Nat) : Fld := ⟨(2 + p) * 0x10000 + 8, 7, 1⟩
abbrev TRK_PORT_STATE_STATE (p : Nat) : Fld := ⟨(2 + p) * 0x10000 + 8, 0, 4⟩
abbrev LANE_STATE (p : Nat) : Nat := (2 + p) * 0x10000 + 0xc
abbrev LANE_STATE_LANE3 (p : Nat) : Fld := ⟨(2 + p) * 0x10000 + 0xc, 12, 4⟩
abbrev LANE_STATE_LANE2 (p : Nat) : Fld := ⟨(2 + p) * 0x10000 + 0xc, 8, 4⟩
abbrev LANE_STATE_LANE1 (p : Nat) : Fld := ⟨(2 + p) * 0x10000 + 0xc, 4, 4⟩
abbrev LANE_STATE_LANE0 (p : Nat) : Fld := ⟨(2 + p) * 0x10000 + 0xc, 0, 4⟩
abbrev TAPS (p i : Nat) : Nat := (2 + p) * 0x10000 + 0x10 + 4 * i
abbrev TAPS_C0 (p i : Nat) : Fld := ⟨(2 + p) * 0x10000 + 0x10 + 4 * i, 24, 8⟩
abbrev TAPS_CM2 (p i : Nat) : Fld := ⟨(2 + p) * 0x10000 + 0x10 + 4 * i, 18, 6⟩
abbrev TAPS_CM1 (p i : Nat) : Fld := ⟨(2 + p) * 0x10000 + 0x10 + 4 * i, 12, 6⟩
abbrev TAPS_CP1 (p i : Nat) : Fld := ⟨(2 + p) * 0x10000 + 0x10 + 4 * i, 6, 6⟩
abbrev TAPS_CP2 (p i : Nat) : Fld := ⟨(2 + p) * 0x10000 + 0x10 + 4 * i, 0, 6⟩
abbrev SKEW (p : Nat) : Nat := (2 + p) * 0x10000 + 0x20
abbrev SKEW_LANE3 (p : Nat) : Fld := ⟨(2 + p) * 0x10000 + 0x20, 24, 8⟩
abbrev SKEW_LANE2 (p : Nat) : Fld := ⟨(2 + p) * 0x10000 + 0x20, 16, 8⟩
abbrev SKEW_LANE1 (p : Nat) : Fld := ⟨(2 + p) * 0x10000 + 0x20, 8, 8⟩
abbrev SKEW_LANE0 (p : Nat) : Fld := ⟨(2 + p) * 0x10000 + 0x20, 0, 8⟩
abbrev MODULE_STATUS (p : Nat) : Nat := (2 + p) * 0x10000 + 0x24
abbrev MODULE_STATUS_LOS (p : Nat) : Fld := ⟨(2 + p) * 0x10000 + 0x24, 8, 4⟩
abbrev MODULE_STATUS_TX_FAULT (p : Nat) : Fld := ⟨(2 + p) * 0x10000 + 0x24, 4, 4⟩
abbrev MODULE_STATUS_PRESENT (p : Nat) : Fld := ⟨(2 + p) * 0x10000 + 0x24, 3, 1⟩
abbrev MODULE_STATUS_MSTATE (p : Nat) : Fld := ⟨(2 + p) * 0x10000 + 0x24, 0, 3⟩
abbrev LANE_STATE_TX (p : Nat) : Nat := (2 + p) * 0x10000 + 0x28
abbrev LANE_STATE_TX_LANE3 (p : Nat) : Fld := ⟨(2 + p) * 0x10000 + 0x28, 12, 4⟩
abbrev LANE_STATE_TX_LANE2 (p : Nat) : Fld := ⟨(2 + p) * 0x10000 + 0x28, 8, 4⟩
abbrev LANE_STATE_TX_LANE1 (p : Nat) : Fld := ⟨(2 + p) * 0x10000 + 0x28, 4, 4⟩
abbrev LANE_STATE_TX_LANE0 (p : Nat) : Fld := ⟨(2 + p) * 0x10000 + 0x28, 0, 4⟩
abbrev GROUP_CFG : Nat := 0x50000
abbrev GROUP_CFG_RING_SIZE : Fld := ⟨0x50000, 16, 7⟩
abbrev GROUP_CFG_LEVEL : Fld := ⟨0x50000, 8, 2⟩
abbrev GROUP_CFG_STANDBY_EN : Fld := ⟨0x50000, 1, 1⟩
abbrev GROUP_CFG_ROOT_EN : Fld := ⟨0x50000, 0, 1⟩
abbrev NEIGHBOUR (i : Nat) : Nat := 0x50004 + 4 * i
abbrev NEIGHBOUR_VALID (i : Nat) : Fld := ⟨0x50004 + 4 * i, 31, 1⟩
abbrev NEIGHBOUR_MISWIRED (i : Nat) : Fld := ⟨0x50004 + 4 * i, 30, 1⟩
abbrev NEIGHBOUR_POSTCODE (i : Nat) : Fld := ⟨0x50004 + 4 * i, 0, 16⟩
abbrev BREAKS (i : Nat) : Nat := 0x50010 + 4 * i
abbrev BREAKS_ENTRY_HI (i : Nat) : Fld := ⟨0x50010 + 4 * i, 16, 16⟩
abbrev BREAKS_ENTRY_LO (i : Nat) : Fld := ⟨0x50010 + 4 * i, 0, 16⟩
abbrev ROOT_SEEN : Nat := 0x50018
abbrev ROOT_SEEN_ENTRY : Fld := ⟨0x50018, 0, 16⟩
abbrev GROUP_ROUTE (i : Nat) : Nat := 0x51000 + 4 * i
abbrev GROUP_ROUTE_VALID (i : Nat) : Fld := ⟨0x51000 + 4 * i, 31, 1⟩
abbrev GROUP_ROUTE_DUAL (i : Nat) : Fld := ⟨0x51000 + 4 * i, 30, 1⟩
abbrev GROUP_ROUTE_JUNCTION_2 (i : Nat) : Fld := ⟨0x51000 + 4 * i, 6, 6⟩
abbrev GROUP_ROUTE_JUNCTION_1 (i : Nat) : Fld := ⟨0x51000 + 4 * i, 0, 6⟩
abbrev DIR_CFG (i : Nat) : Nat := 0x100000 + 4 * i
abbrev DIR_CFG_TRANSIT_WEIGHT (i : Nat) : Fld := ⟨0x100000 + 4 * i, 24, 4⟩
abbrev DIR_CFG_MGMT_MIN (i : Nat) : Fld := ⟨0x100000 + 4 * i, 16, 5⟩
abbrev DIR_CFG_REG_MIN (i : Nat) : Fld := ⟨0x100000 + 4 * i, 0, 7⟩
abbrev DIR_STATE (i : Nat) : Nat := 0x100010 + 4 * i
abbrev DIR_STATE_SHORT (i : Nat) : Fld := ⟨0x100010 + 4 * i, 31, 1⟩
abbrev DIR_STATE_GATED (i : Nat) : Fld := ⟨0x100010 + 4 * i, 30, 1⟩
abbrev DIR_STATE_SEALED_CAP (i : Nat) : Fld := ⟨0x100010 + 4 * i, 16, 12⟩
abbrev DIR_STATE_CAP (i : Nat) : Fld := ⟨0x100010 + 4 * i, 0, 12⟩
abbrev SHEET_SELECT : Nat := 0x100020
abbrev SHEET_SELECT_WHICH : Fld := ⟨0x100020, 4, 1⟩
abbrev SHEET_SELECT_PORT : Fld := ⟨0x100020, 0, 2⟩
abbrev RESOURCES : Nat := 0x100030
abbrev RESOURCES_FLOWS_FREE : Fld := ⟨0x100030, 16, 14⟩
abbrev RESOURCES_BOXES_FREE : Fld := ⟨0x100030, 0, 13⟩
abbrev SHEET_IMAGE (i : Nat) : Nat := 0x102000 + 4 * i
abbrev SHEET_IMAGE_BYTES (i : Nat) : Fld := ⟨0x102000 + 4 * i, 0, 32⟩
abbrev ISO_ALLOT (i : Nat) : Nat := 0x108000 + 4 * i
abbrev ISO_ALLOT_SHED (i : Nat) : Fld := ⟨0x108000 + 4 * i, 29, 3⟩
abbrev ISO_ALLOT_PRI_PORT (i : Nat) : Fld := ⟨0x108000 + 4 * i, 27, 2⟩
abbrev ISO_ALLOT_ALT_PORT (i : Nat) : Fld := ⟨0x108000 + 4 * i, 25, 2⟩
abbrev ISO_ALLOT_ALT (i : Nat) : Fld := ⟨0x108000 + 4 * i, 12, 12⟩
abbrev ISO_ALLOT_PRI (i : Nat) : Fld := ⟨0x108000 + 4 * i, 0, 12⟩
abbrev SW_STATUS : Nat := 0x110000
abbrev SW_STATUS_CONGESTED : Fld := ⟨0x110000, 31, 1⟩
abbrev SW_STATUS_POOL_FREE : Fld := ⟨0x110000, 0, 17⟩
abbrev POOL_SIZE : Nat := 0x110004
abbrev POOL_SIZE_CELLS : Fld := ⟨0x110004, 0, 17⟩
abbrev POOL_LOW : Nat := 0x110008
abbrev POOL_LOW_CELLS : Fld := ⟨0x110008, 0, 17⟩
abbrev ALARM_CFG : Nat := 0x11000c
abbrev ALARM_CFG_POOL_ALARM : Fld := ⟨0x11000c, 0, 17⟩
abbrev AGE_LIMIT (i : Nat) : Nat := 0x110010 + 4 * i
abbrev AGE_LIMIT_ODD (i : Nat) : Fld := ⟨0x110010 + 4 * i, 16, 16⟩
abbrev AGE_LIMIT_EVEN (i : Nat) : Fld := ⟨0x110010 + 4 * i, 0, 16⟩
abbrev MIRROR_DEST : Nat := 0x110020
abbrev MIRROR_DEST_MIRROR_CELLS : Fld := ⟨0x110020, 16, 16⟩
abbrev MIRROR_DEST_DEST_SUB : Fld := ⟨0x110020, 8, 8⟩
abbrev MIRROR_DEST_DEST_PORT : Fld := ⟨0x110020, 0, 4⟩
abbrev MIRROR_S (i : Nat) : Nat := 0x110030 + 4 * i
abbrev MIRROR_S_EN (i : Nat) : Fld := ⟨0x110030 + 4 * i, 31, 1⟩
abbrev MIRROR_S_SRC_KIND (i : Nat) : Fld := ⟨0x110030 + 4 * i, 29, 2⟩
abbrev MIRROR_S_SRC (i : Nat) : Fld := ⟨0x110030 + 4 * i, 16, 13⟩
abbrev MIRROR_S_SNAP (i : Nat) : Fld := ⟨0x110030 + 4 * i, 0, 12⟩
abbrev MIN_CELLS (i j : Nat) : Nat := 0x110100 + 0x10 * i + 4 * j
abbrev MIN_CELLS_MIN_ODD (i j : Nat) : Fld := ⟨0x110100 + 0x10 * i + 4 * j, 16, 16⟩
abbrev MIN_CELLS_MIN_EVEN (i j : Nat) : Fld := ⟨0x110100 + 0x10 * i + 4 * j, 0, 16⟩
abbrev PROFILE_SEL (i : Nat) : Nat := 0x110200 + 4 * i
abbrev PROFILE_SEL_TC0 (i : Nat) : Fld := ⟨0x110200 + 4 * i, 0, 4⟩
abbrev PROFILE_SEL_TC1 (i : Nat) : Fld := ⟨0x110200 + 4 * i, 4, 4⟩
abbrev PROFILE_SEL_TC2 (i : Nat) : Fld := ⟨0x110200 + 4 * i, 8, 4⟩
abbrev PROFILE_SEL_TC3 (i : Nat) : Fld := ⟨0x110200 + 4 * i, 12, 4⟩
abbrev PROFILE_SEL_TC4 (i : Nat) : Fld := ⟨0x110200 + 4 * i, 16, 4⟩
abbrev PROFILE_SEL_TC5 (i : Nat) : Fld := ⟨0x110200 + 4 * i, 20, 4⟩
abbrev PROFILE_SEL_TC6 (i : Nat) : Fld := ⟨0x110200 + 4 * i, 24, 4⟩
abbrev PROFILE_SEL_TC7 (i : Nat) : Fld := ⟨0x110200 + 4 * i, 28, 4⟩
abbrev PROFILE (i : Nat) : Nat := 0x110300 + 4 * i
abbrev PROFILE_ALPHA (i : Nat) : Fld := ⟨0x110300 + 4 * i, 24, 3⟩
abbrev PROFILE_START_G (i : Nat) : Fld := ⟨0x110300 + 4 * i, 20, 4⟩
abbrev PROFILE_END_G (i : Nat) : Fld := ⟨0x110300 + 4 * i, 16, 4⟩
abbrev PROFILE_START_Y (i : Nat) : Fld := ⟨0x110300 + 4 * i, 12, 4⟩
abbrev PROFILE_END_Y (i : Nat) : Fld := ⟨0x110300 + 4 * i, 8, 4⟩
abbrev PROFILE_START_R (i : Nat) : Fld := ⟨0x110300 + 4 * i, 4, 4⟩
abbrev PROFILE_END_R (i : Nat) : Fld := ⟨0x110300 + 4 * i, 0, 4⟩
abbrev OCCUPANCY (i j : Nat) : Nat := 0x110400 + 0x20 * i + 4 * j
abbrev OCCUPANCY_MIN_USED (i j : Nat) : Fld := ⟨0x110400 + 0x20 * i + 4 * j, 17, 15⟩
abbrev OCCUPANCY_POOL_USED (i j : Nat) : Fld := ⟨0x110400 + 0x20 * i + 4 * j, 0, 17⟩
abbrev GRANT_AR (i : Nat) : Nat := 0x110600 + 8 * i
abbrev GRANT_AR_REGISTERED (i : Nat) : Fld := ⟨0x110600 + 8 * i, 16, 16⟩
abbrev GRANT_AR_ASSURED (i : Nat) : Fld := ⟨0x110600 + 8 * i, 0, 16⟩
abbrev GRANT_B (i : Nat) : Nat := 0x110604 + 8 * i
abbrev GRANT_B_BULK (i : Nat) : Fld := ⟨0x110604 + 8 * i, 0, 16⟩
abbrev ENG_RUN : Nat := 0x120000
abbrev ENG_RUN_DISABLED : Fld := ⟨0x120000, 16, 16⟩
abbrev ENG_RUN_RUNNING : Fld := ⟨0x120000, 0, 16⟩
abbrev PM_STATUS : Nat := 0x120004
abbrev PM_STATUS_PEAK_PCT : Fld := ⟨0x120004, 8, 8⟩
abbrev PM_STATUS_LOAD_PCT : Fld := ⟨0x120004, 0, 8⟩
abbrev BRIDGE_GEN : Nat := 0x120008
abbrev BRIDGE_GEN_GEN : Fld := ⟨0x120008, 0, 32⟩
abbrev SLICE_SELECT : Nat := 0x12000c
abbrev SLICE_SELECT_WHICH : Fld := ⟨0x12000c, 4, 1⟩
abbrev SLICE_SELECT_ENGINE : Fld := ⟨0x12000c, 0, 4⟩
abbrev KIND_CFG (i : Nat) : Nat := 0x120020 + 4 * i
abbrev KIND_CFG_ENGINES (i : Nat) : Fld := ⟨0x120020 + 4 * i, 16, 16⟩
abbrev KIND_CFG_CEIL (i : Nat) : Fld := ⟨0x120020 + 4 * i, 7, 9⟩
abbrev KIND_CFG_MIN (i : Nat) : Fld := ⟨0x120020 + 4 * i, 0, 7⟩
abbrev ENG_LOAD (i : Nat) : Nat := 0x120040 + 4 * i
abbrev ENG_LOAD_CONTEXTS (i : Nat) : Fld := ⟨0x120040 + 4 * i, 16, 9⟩
abbrev ENG_LOAD_MIN_SUM (i : Nat) : Fld := ⟨0x120040 + 4 * i, 0, 9⟩
abbrev ENG_USE (i : Nat) : Nat := 0x120080 + 4 * i
abbrev ENG_USE_WORKED (i : Nat) : Fld := ⟨0x120080 + 4 * i, 16, 9⟩
abbrev ENG_USE_BORROWED (i : Nat) : Fld := ⟨0x120080 + 4 * i, 0, 9⟩
abbrev CONTEXT (i : Nat) : Nat := 0x121000 + 4 * i
abbrev CONTEXT_VALID (i : Nat) : Fld := ⟨0x121000 + 4 * i, 31, 1⟩
abbrev CONTEXT_KIND (i : Nat) : Fld := ⟨0x121000 + 4 * i, 28, 3⟩
abbrev CONTEXT_BOX (i : Nat) : Fld := ⟨0x121000 + 4 * i, 16, 12⟩
abbrev CONTEXT_DEMAND (i : Nat) : Fld := ⟨0x121000 + 4 * i, 7, 9⟩
abbrev CONTEXT_CARRIED (i : Nat) : Fld := ⟨0x121000 + 4 * i, 6, 1⟩
abbrev CONTEXT_ITEMS (i : Nat) : Fld := ⟨0x121000 + 4 * i, 0, 6⟩
abbrev SLICE_IMAGE (i j : Nat) : Nat := 0x125000 + 0x400 * i + 4 * j
abbrev SLICE_IMAGE_ENTRY_EVEN (i j : Nat) : Fld := ⟨0x125000 + 0x400 * i + 4 * j, 16, 16⟩
abbrev SLICE_IMAGE_ENTRY_ODD (i j : Nat) : Fld := ⟨0x125000 + 0x400 * i + 4 * j, 0, 16⟩
abbrev REG_ENTRIES : Nat := 0x130000
abbrev REG_ENTRIES_DEAD : Fld := ⟨0x130000, 16, 14⟩
abbrev REG_ENTRIES_IN_USE : Fld := ⟨0x130000, 0, 14⟩
abbrev REG_POOL : Nat := 0x130004
abbrev REG_POOL_RESERVED_SUM : Fld := ⟨0x130004, 16, 14⟩
abbrev REG_POOL_POOL_FREE : Fld := ⟨0x130004, 0, 14⟩
abbrev REG_CFG : Nat := 0x130008
abbrev REG_CFG_DEFAULT_LIMIT : Fld := ⟨0x130008, 16, 11⟩
abbrev REG_CFG_RESEND_ROUNDS : Fld := ⟨0x130008, 0, 14⟩
abbrev REG_RATE : Nat := 0x13000c
abbrev REG_RATE_PEAK : Fld := ⟨0x13000c, 16, 9⟩
abbrev REG_RATE_ACCEPTS : Fld := ⟨0x13000c, 0, 9⟩
abbrev PIGEONHOLES : Nat := 0x130010
abbrev PIGEONHOLES_OUT_OF_ORDER : Fld := ⟨0x130010, 16, 13⟩
abbrev PIGEONHOLES_USED : Fld := ⟨0x130010, 0, 13⟩
abbrev REPLAY : Nat := 0x130014
abbrev REPLAY_ACTIVE : Fld := ⟨0x130014, 31, 1⟩
abbrev REPLAY_LEFT : Fld := ⟨0x130014, 0, 14⟩
abbrev WINDOW (i : Nat) : Nat := 0x131000 + 4 * i
abbrev WINDOW_NOTIFY (i : Nat) : Fld := ⟨0x131000 + 4 * i, 31, 1⟩
abbrev WINDOW_LIMIT (i : Nat) : Fld := ⟨0x131000 + 4 * i, 16, 11⟩
abbrev WINDOW_RESERVE (i : Nat) : Fld := ⟨0x131000 + 4 * i, 0, 11⟩
abbrev USE (i : Nat) : Nat := 0x135000 + 4 * i
abbrev USE_DEAD (i : Nat) : Fld := ⟨0x135000 + 4 * i, 16, 11⟩
abbrev USE_HELD (i : Nat) : Fld := ⟨0x135000 + 4 * i, 0, 11⟩
abbrev DP_CFG (i : Nat) : Nat := 0x200000 + 4 * i
abbrev DP_CFG_EN (i : Nat) : Fld := ⟨0x200000 + 4 * i, 31, 1⟩
abbrev DP_CFG_MAX_RATE (i : Nat) : Fld := ⟨0x200000 + 4 * i, 28, 3⟩
abbrev DP_CFG_MAX_LANES (i : Nat) : Fld := ⟨0x200000 + 4 * i, 26, 2⟩
abbrev DP_CFG_PLAYOUT (i : Nat) : Fld := ⟨0x200000 + 4 * i, 16, 8⟩
abbrev DP_CFG_BOX (i : Nat) : Fld := ⟨0x200000 + 4 * i, 0, 12⟩
abbrev DP_STATE (i : Nat) : Nat := 0x200020 + 4 * i
abbrev DP_STATE_HPD (i : Nat) : Fld := ⟨0x200020 + 4 * i, 31, 1⟩
abbrev DP_STATE_TRAINED (i : Nat) : Fld := ⟨0x200020 + 4 * i, 30, 1⟩
abbrev DP_STATE_RATE (i : Nat) : Fld := ⟨0x200020 + 4 * i, 27, 3⟩
abbrev DP_STATE_LANES (i : Nat) : Fld := ⟨0x200020 + 4 * i, 25, 2⟩
abbrev DP_STATE_STREAM (i : Nat) : Fld := ⟨0x200020 + 4 * i, 23, 2⟩
abbrev DP_STATE_BLANKED (i : Nat) : Fld := ⟨0x200020 + 4 * i, 22, 1⟩
abbrev DP_STATE_PLAYOUT_ERR (i : Nat) : Fld := ⟨0x200020 + 4 * i, 0, 16⟩
abbrev SSD_STATE : Nat := 0x210000
abbrev SSD_STATE_STATE : Fld := ⟨0x210000, 16, 3⟩
abbrev SSD_STATE_NAMESPACES : Fld := ⟨0x210000, 8, 8⟩
abbrev SSD_STATE_GEN : Fld := ⟨0x210000, 4, 4⟩
abbrev SSD_STATE_WIDTH : Fld := ⟨0x210000, 0, 4⟩
abbrev RELAY_CFG : Nat := 0x210004
abbrev RELAY_CFG_CMD_TIMEOUT : Fld := ⟨0x210004, 0, 6⟩
abbrev RELAY_NS_0 (i : Nat) : Nat := 0x210100 + 0x20 * i
abbrev RELAY_NS_VALID (i : Nat) : Fld := ⟨0x210100 + 0x20 * i, 31, 1⟩
abbrev RELAY_NS_REMOTE (i : Nat) : Fld := ⟨0x210100 + 0x20 * i, 30, 1⟩
abbrev RELAY_NS_RO_ACCESS (i : Nat) : Fld := ⟨0x210100 + 0x20 * i, 29, 1⟩
abbrev RELAY_NS_VF (i : Nat) : Fld := ⟨0x210100 + 0x20 * i, 22, 7⟩
abbrev RELAY_NS_VNSID (i : Nat) : Fld := ⟨0x210100 + 0x20 * i, 18, 4⟩
abbrev RELAY_NS_BOX (i : Nat) : Fld := ⟨0x210100 + 0x20 * i, 0, 12⟩
abbrev RELAY_NS_4 (i : Nat) : Nat := 0x210104 + 0x20 * i
abbrev RELAY_NS_TARGET (i : Nat) : Fld := ⟨0x210104 + 0x20 * i, 0, 32⟩
abbrev RELAY_NS_8 (i : Nat) : Nat := 0x210108 + 0x20 * i
abbrev RELAY_NS_START_LO (i : Nat) : Fld := ⟨0x210108 + 0x20 * i, 0, 32⟩
abbrev RELAY_NS_C (i : Nat) : Nat := 0x21010c + 0x20 * i
abbrev RELAY_NS_START_HI (i : Nat) : Fld := ⟨0x21010c + 0x20 * i, 0, 32⟩
abbrev RELAY_NS_10 (i : Nat) : Nat := 0x210110 + 0x20 * i
abbrev RELAY_NS_COUNT_LO (i : Nat) : Fld := ⟨0x210110 + 0x20 * i, 0, 32⟩
abbrev RELAY_NS_14 (i : Nat) : Nat := 0x210114 + 0x20 * i
abbrev RELAY_NS_COUNT_HI (i : Nat) : Fld := ⟨0x210114 + 0x20 * i, 0, 32⟩
abbrev RELAY_NS_18 (i : Nat) : Nat := 0x210118 + 0x20 * i
abbrev RELAY_NS_1C (i : Nat) : Nat := 0x21011c + 0x20 * i
abbrev SUB_CFG (i : Nat) : Nat := 0x220000 + 4 * i
abbrev SUB_CFG_EN (i : Nat) : Fld := ⟨0x220000 + 4 * i, 31, 1⟩
abbrev SUB_CFG_MODE (i : Nat) : Fld := ⟨0x220000 + 4 * i, 30, 1⟩
abbrev SUB_CFG_FEC (i : Nat) : Fld := ⟨0x220000 + 4 * i, 28, 2⟩
abbrev SUB_CFG_DEFAULT_BOX (i : Nat) : Fld := ⟨0x220000 + 4 * i, 0, 12⟩
abbrev SUB_STATE (i : Nat) : Nat := 0x220040 + 4 * i
abbrev SUB_STATE_LINK (i : Nat) : Fld := ⟨0x220040 + 4 * i, 31, 1⟩
abbrev SUB_STATE_REMOTE_FAULT (i : Nat) : Fld := ⟨0x220040 + 4 * i, 30, 1⟩
abbrev VLAN_MAP (i : Nat) : Nat := 0x221000 + 4 * i
abbrev VLAN_MAP_VALID (i : Nat) : Fld := ⟨0x221000 + 4 * i, 31, 1⟩
abbrev VLAN_MAP_STRIP (i : Nat) : Fld := ⟨0x221000 + 4 * i, 30, 1⟩
abbrev VLAN_MAP_SUB (i : Nat) : Fld := ⟨0x221000 + 4 * i, 24, 4⟩
abbrev VLAN_MAP_VID (i : Nat) : Fld := ⟨0x221000 + 4 * i, 12, 12⟩
abbrev VLAN_MAP_BOX (i : Nat) : Fld := ⟨0x221000 + 4 * i, 0, 12⟩
abbrev USB_PORT_CFG (i : Nat) : Nat := 0x230000 + 4 * i
abbrev USB_PORT_CFG_EN (i : Nat) : Fld := ⟨0x230000 + 4 * i, 31, 1⟩
abbrev USB_PORT_CFG_SS_EN (i : Nat) : Fld := ⟨0x230000 + 4 * i, 30, 1⟩
abbrev USB_PORT_CFG_LPM_EN (i : Nat) : Fld := ⟨0x230000 + 4 * i, 29, 1⟩
abbrev USB_PORT_STATE (i : Nat) : Nat := 0x230010 + 4 * i
abbrev USB_PORT_STATE_OVER_CURRENT (i : Nat) : Fld := ⟨0x230010 + 4 * i, 9, 1⟩
abbrev USB_PORT_STATE_WAKE_SEEN (i : Nat) : Fld := ⟨0x230010 + 4 * i, 8, 1⟩
abbrev USB_PORT_STATE_SPEED (i : Nat) : Fld := ⟨0x230010 + 4 * i, 4, 3⟩
abbrev USB_PORT_STATE_STATE (i : Nat) : Fld := ⟨0x230010 + 4 * i, 0, 3⟩
abbrev HUB_TREE : Nat := 0x230020
abbrev HUB_TREE_BULK_BOX : Fld := ⟨0x230020, 16, 12⟩
abbrev HUB_TREE_CTL_BOX : Fld := ⟨0x230020, 0, 12⟩
abbrev HUB_TREE_ISO : Nat := 0x230024
abbrev HUB_TREE_ISO_ATTACHED : Fld := ⟨0x230024, 31, 1⟩
abbrev HUB_TREE_ISO_ISO_BOX : Fld := ⟨0x230024, 0, 12⟩
abbrev TREE_CFG : Nat := 0x230028
abbrev TREE_CFG_ISO_LEAD : Fld := ⟨0x230028, 8, 6⟩
abbrev TREE_CFG_XFER_TIMEOUT : Fld := ⟨0x230028, 0, 6⟩
abbrev ROOT_PORT_0 (i : Nat) : Nat := 0x230040 + 8 * i
abbrev ROOT_PORT_EN (i : Nat) : Fld := ⟨0x230040 + 8 * i, 31, 1⟩
abbrev ROOT_PORT_BULK_BOX (i : Nat) : Fld := ⟨0x230040 + 8 * i, 16, 12⟩
abbrev ROOT_PORT_CTL_BOX (i : Nat) : Fld := ⟨0x230040 + 8 * i, 0, 12⟩
abbrev ROOT_PORT_4 (i : Nat) : Nat := 0x230044 + 8 * i
abbrev ROOT_PORT_ATTACHED (i : Nat) : Fld := ⟨0x230044 + 8 * i, 31, 1⟩
abbrev ROOT_PORT_ISO_BOX (i : Nat) : Fld := ⟨0x230044 + 8 * i, 0, 12⟩
abbrev SVC_STATE : Nat := 0x230100
abbrev SVC_STATE_LAST_REJECT : Fld := ⟨0x230100, 24, 8⟩
abbrev SVC_STATE_NOTICES_WAITING : Fld := ⟨0x230100, 16, 8⟩
abbrev SVC_STATE_RECEIPTS_WAITING : Fld := ⟨0x230100, 8, 8⟩
abbrev SVC_STATE_SPEED : Fld := ⟨0x230100, 3, 2⟩
abbrev SVC_STATE_DEV_STATE : Fld := ⟨0x230100, 0, 3⟩
abbrev SVC_ID : Nat := 0x230104
abbrev SVC_ID_VID : Fld := ⟨0x230104, 16, 16⟩
abbrev SVC_ID_PID : Fld := ⟨0x230104, 0, 16⟩
abbrev CAN_CFG (i : Nat) : Nat := 0x240000 + 4 * i
abbrev CAN_CFG_EN (i : Nat) : Fld := ⟨0x240000 + 4 * i, 31, 1⟩
abbrev CAN_CFG_FD_EN (i : Nat) : Fld := ⟨0x240000 + 4 * i, 30, 1⟩
abbrev CAN_CFG_NOM_RATE (i : Nat) : Fld := ⟨0x240000 + 4 * i, 27, 3⟩
abbrev CAN_CFG_DATA_RATE (i : Nat) : Fld := ⟨0x240000 + 4 * i, 24, 3⟩
abbrev CAN_CFG_REG_TX_LIMIT (i : Nat) : Fld := ⟨0x240000 + 4 * i, 0, 11⟩
abbrev RS485_CFG (i : Nat) : Nat := 0x240010 + 4 * i
abbrev RS485_CFG_EN (i : Nat) : Fld := ⟨0x240010 + 4 * i, 31, 1⟩
abbrev RS485_CFG_ROLE (i : Nat) : Fld := ⟨0x240010 + 4 * i, 30, 1⟩
abbrev RS485_CFG_FRAMING (i : Nat) : Fld := ⟨0x240010 + 4 * i, 28, 2⟩
abbrev RS485_CFG_SILENCE (i : Nat) : Fld := ⟨0x240010 + 4 * i, 27, 1⟩
abbrev RS485_CFG_BAUD (i : Nat) : Fld := ⟨0x240010 + 4 * i, 0, 24⟩
abbrev RS485_TIMING (i : Nat) : Nat := 0x240018 + 4 * i
abbrev RS485_TIMING_RESP_TIMEOUT (i : Nat) : Fld := ⟨0x240018 + 4 * i, 16, 16⟩
abbrev RS485_TIMING_REG_MAX_BYTES (i : Nat) : Fld := ⟨0x240018 + 4 * i, 8, 8⟩
abbrev RS485_TIMING_RETRIES (i : Nat) : Fld := ⟨0x240018 + 4 * i, 0, 2⟩
abbrev BUS_STATE (i : Nat) : Nat := 0x240020 + 4 * i
abbrev BUS_STATE_CAN_STATE (i : Nat) : Fld := ⟨0x240020 + 4 * i, 24, 2⟩
abbrev BUS_STATE_TEC (i : Nat) : Fld := ⟨0x240020 + 4 * i, 16, 8⟩
abbrev BUS_STATE_REC (i : Nat) : Fld := ⟨0x240020 + 4 * i, 8, 8⟩
abbrev BUS_STATE_PFW_HOLD (i : Nat) : Fld := ⟨0x240020 + 4 * i, 0, 1⟩
abbrev BRIDGE_CFG : Nat := 0x140000
abbrev BRIDGE_CFG_FETCH_TIMEOUT : Fld := ⟨0x140000, 16, 14⟩
abbrev BRIDGE_CFG_COMPAT : Fld := ⟨0x140000, 0, 1⟩
abbrev DEFAULT_ROUTE : Nat := 0x140004
abbrev DEFAULT_ROUTE_EN : Fld := ⟨0x140004, 28, 4⟩
abbrev DEFAULT_ROUTE_BINDS : Fld := ⟨0x140004, 0, 24⟩
abbrev BIND (i : Nat) : Nat := 0x140100 + 4 * i
abbrev BIND_VALID (i : Nat) : Fld := ⟨0x140100 + 4 * i, 31, 1⟩
abbrev BIND_BUS (i : Nat) : Fld := ⟨0x140100 + 4 * i, 28, 3⟩
abbrev BIND_BOX (i : Nat) : Fld := ⟨0x140100 + 4 * i, 0, 12⟩
abbrev ROUTE_0 (i : Nat) : Nat := 0x140200 + 8 * i
abbrev ROUTE_VALID (i : Nat) : Fld := ⟨0x140200 + 8 * i, 31, 1⟩
abbrev ROUTE_BUS (i : Nat) : Fld := ⟨0x140200 + 8 * i, 29, 2⟩
abbrev ROUTE_ID (i : Nat) : Fld := ⟨0x140200 + 8 * i, 0, 29⟩
abbrev ROUTE_4 (i : Nat) : Nat := 0x140204 + 8 * i
abbrev ROUTE_IDE (i : Nat) : Fld := ⟨0x140204 + 8 * i, 31, 1⟩
abbrev ROUTE_BIND (i : Nat) : Fld := ⟨0x140204 + 8 * i, 0, 6⟩
abbrev RANGE_0 (i : Nat) : Nat := 0x148200 + 0x10 * i
abbrev RANGE_VALID (i : Nat) : Fld := ⟨0x148200 + 0x10 * i, 31, 1⟩
abbrev RANGE_MODE (i : Nat) : Fld := ⟨0x148200 + 0x10 * i, 29, 2⟩
abbrev RANGE_RA (i : Nat) : Fld := ⟨0x148200 + 0x10 * i, 28, 1⟩
abbrev RANGE_BUS (i : Nat) : Fld := ⟨0x148200 + 0x10 * i, 27, 1⟩
abbrev RANGE_TABLE (i : Nat) : Fld := ⟨0x148200 + 0x10 * i, 22, 2⟩
abbrev RANGE_BIND (i : Nat) : Fld := ⟨0x148200 + 0x10 * i, 16, 6⟩
abbrev RANGE_UNIT (i : Nat) : Fld := ⟨0x148200 + 0x10 * i, 8, 8⟩
abbrev RANGE_FAR_UNIT (i : Nat) : Fld := ⟨0x148200 + 0x10 * i, 0, 8⟩
abbrev RANGE_4 (i : Nat) : Nat := 0x148204 + 0x10 * i
abbrev RANGE_START (i : Nat) : Fld := ⟨0x148204 + 0x10 * i, 16, 16⟩
abbrev RANGE_COUNT (i : Nat) : Fld := ⟨0x148204 + 0x10 * i, 0, 16⟩
abbrev RANGE_8 (i : Nat) : Nat := 0x148208 + 0x10 * i
abbrev RANGE_FAR_START (i : Nat) : Fld := ⟨0x148208 + 0x10 * i, 16, 16⟩
abbrev RANGE_RD_VALID (i : Nat) : Fld := ⟨0x148208 + 0x10 * i, 6, 1⟩
abbrev RANGE_RD_BIND (i : Nat) : Fld := ⟨0x148208 + 0x10 * i, 0, 6⟩
abbrev RANGE_C (i : Nat) : Nat := 0x14820c + 0x10 * i
abbrev RANGE_FRESH (i : Nat) : Fld := ⟨0x14820c + 0x10 * i, 16, 16⟩
abbrev RANGE_RA_DELAY (i : Nat) : Fld := ⟨0x14820c + 0x10 * i, 0, 16⟩
abbrev NOTICE_CFG : Nat := 0x20
abbrev NOTICE_CFG_DEST_PC : Fld := ⟨0x20, 16, 16⟩
abbrev NOTICE_CFG_ALT_EN : Fld := ⟨0x20, 5, 1⟩
abbrev NOTICE_CFG_DEST_EN : Fld := ⟨0x20, 4, 1⟩
abbrev NOTICE_CFG_MGMT_EN : Fld := ⟨0x20, 2, 1⟩
abbrev NOTICE_CFG_SVC_EN : Fld := ⟨0x20, 1, 1⟩
abbrev NOTICE_CFG_PF0_EN : Fld := ⟨0x20, 0, 1⟩
abbrev NOTICE_ALT : Nat := 0x24
abbrev NOTICE_ALT_ALT_PC : Fld := ⟨0x24, 0, 16⟩
abbrev BOOK_STATE : Nat := 0x28
abbrev BOOK_STATE_REMOTE_HELD : Fld := ⟨0x28, 16, 9⟩
abbrev BOOK_STATE_FREE : Fld := ⟨0x28, 0, 10⟩
abbrev MGMT_CFG : Nat := 0x2c
abbrev MGMT_CFG_MGMT_ADDR : Fld := ⟨0x2c, 0, 7⟩
abbrev STAGE_STATE (i : Nat) : Nat := 0x30 + 4 * i
abbrev STAGE_STATE_STATE (i : Nat) : Fld := ⟨0x30 + 4 * i, 29, 3⟩
abbrev STAGE_STATE_CAUSE (i : Nat) : Fld := ⟨0x30 + 4 * i, 24, 5⟩
abbrev STAGE_STATE_ENTRIES (i : Nat) : Fld := ⟨0x30 + 4 * i, 0, 11⟩
abbrev STAGE_ROUND (i : Nat) : Nat := 0x40 + 4 * i
abbrev STAGE_ROUND_ROUND_LO (i : Nat) : Fld := ⟨0x40 + 4 * i, 0, 32⟩
abbrev IN_CFG (i : Nat) : Nat := 0x300000 + 4 * i
abbrev IN_CFG_EN (i : Nat) : Fld := ⟨0x300000 + 4 * i, 31, 1⟩
abbrev IN_CFG_RETRY_MAX (i : Nat) : Fld := ⟨0x300000 + 4 * i, 24, 4⟩
abbrev IN_CFG_SLEW (i : Nat) : Fld := ⟨0x300000 + 4 * i, 20, 4⟩
abbrev IN_CFG_FAULT_TIME (i : Nat) : Fld := ⟨0x300000 + 4 * i, 10, 10⟩
abbrev IN_CFG_LIMIT (i : Nat) : Fld := ⟨0x300000 + 4 * i, 0, 7⟩
abbrev IN_STATE (i : Nat) : Nat := 0x300010 + 4 * i
abbrev IN_STATE_COOL_MS (i : Nat) : Fld := ⟨0x300010 + 4 * i, 16, 16⟩
abbrev IN_STATE_LAST_FAULT (i : Nat) : Fld := ⟨0x300010 + 4 * i, 12, 4⟩
abbrev IN_STATE_RETRIES (i : Nat) : Fld := ⟨0x300010 + 4 * i, 8, 4⟩
abbrev IN_STATE_REVERSE (i : Nat) : Fld := ⟨0x300010 + 4 * i, 6, 1⟩
abbrev IN_STATE_LIMITING (i : Nat) : Fld := ⟨0x300010 + 4 * i, 5, 1⟩
abbrev IN_STATE_TIMER_RUN (i : Nat) : Fld := ⟨0x300010 + 4 * i, 4, 1⟩
abbrev IN_STATE_PATH_GOOD (i : Nat) : Fld := ⟨0x300010 + 4 * i, 3, 1⟩
abbrev IN_STATE_STATE (i : Nat) : Fld := ⟨0x300010 + 4 * i, 0, 3⟩
abbrev MEASURE_0 (i : Nat) : Nat := 0x300020 + 0x10 * i
abbrev MEASURE_STALE (i : Nat) : Fld := ⟨0x300020 + 0x10 * i, 31, 1⟩
abbrev MEASURE_MISSING (i : Nat) : Fld := ⟨0x300020 + 0x10 * i, 30, 1⟩
abbrev MEASURE_UNTIMED (i : Nat) : Fld := ⟨0x300020 + 0x10 * i, 29, 1⟩
abbrev MEASURE_CURRENT (i : Nat) : Fld := ⟨0x300020 + 0x10 * i, 14, 14⟩
abbrev MEASURE_VIN (i : Nat) : Fld := ⟨0x300020 + 0x10 * i, 0, 14⟩
abbrev MEASURE_4 (i : Nat) : Nat := 0x300024 + 0x10 * i
abbrev MEASURE_POWER (i : Nat) : Fld := ⟨0x300024 + 0x10 * i, 0, 32⟩
abbrev MEASURE_8 (i : Nat) : Nat := 0x300028 + 0x10 * i
abbrev MEASURE_ENERGY_LO (i : Nat) : Fld := ⟨0x300028 + 0x10 * i, 0, 32⟩
abbrev MEASURE_C (i : Nat) : Nat := 0x30002c + 0x10 * i
abbrev MEASURE_ENERGY_HI (i : Nat) : Fld := ⟨0x30002c + 0x10 * i, 0, 16⟩
abbrev VOUT : Nat := 0x300040
abbrev VOUT_FLAGS : Fld := ⟨0x300040, 29, 3⟩
abbrev VOUT_VOUT : Fld := ⟨0x300040, 0, 14⟩
abbrev SUPPLY_STATUS : Nat := 0x300044
abbrev SUPPLY_STATUS_UV_SEEN : Fld := ⟨0x300044, 2, 1⟩
abbrev SUPPLY_STATUS_PFW : Fld := ⟨0x300044, 1, 1⟩
abbrev SUPPLY_STATUS_PG : Fld := ⟨0x300044, 0, 1⟩
abbrev PD_BUDGET : Nat := 0x310000
abbrev PD_BUDGET_WATTS : Fld := ⟨0x310000, 0, 8⟩
abbrev PD_PORT_0 (i : Nat) : Nat := 0x310010 + 0x10 * i
abbrev PD_PORT_SERVICE_POWERED (i : Nat) : Fld := ⟨0x310010 + 0x10 * i, 11, 1⟩
abbrev PD_PORT_DEAD_BATTERY (i : Nat) : Fld := ⟨0x310010 + 0x10 * i, 10, 1⟩
abbrev PD_PORT_RP_SEEN (i : Nat) : Fld := ⟨0x310010 + 0x10 * i, 8, 2⟩
abbrev PD_PORT_FAULT_OFF (i : Nat) : Fld := ⟨0x310010 + 0x10 * i, 7, 1⟩
abbrev PD_PORT_OVERRIDE (i : Nat) : Fld := ⟨0x310010 + 0x10 * i, 6, 1⟩
abbrev PD_PORT_SWAPPING (i : Nat) : Fld := ⟨0x310010 + 0x10 * i, 5, 1⟩
abbrev PD_PORT_ROLE (i : Nat) : Fld := ⟨0x310010 + 0x10 * i, 4, 1⟩
abbrev PD_PORT_CONTRACT (i : Nat) : Fld := ⟨0x310010 + 0x10 * i, 3, 1⟩
abbrev PD_PORT_TYPEC (i : Nat) : Fld := ⟨0x310010 + 0x10 * i, 0, 3⟩
abbrev PD_PORT_4 (i : Nat) : Nat := 0x310014 + 0x10 * i
abbrev PD_PORT_ALLOC (i : Nat) : Fld := ⟨0x310014 + 0x10 * i, 20, 8⟩
abbrev PD_PORT_VOLTAGE (i : Nat) : Fld := ⟨0x310014 + 0x10 * i, 10, 10⟩
abbrev PD_PORT_CURRENT (i : Nat) : Fld := ⟨0x310014 + 0x10 * i, 0, 10⟩
abbrev PD_PORT_8 (i : Nat) : Nat := 0x310018 + 0x10 * i
abbrev PD_PORT_FLAGS (i : Nat) : Fld := ⟨0x310018 + 0x10 * i, 29, 3⟩
abbrev PD_PORT_VBUS (i : Nat) : Fld := ⟨0x310018 + 0x10 * i, 0, 14⟩
abbrev PD_PORT_C (i : Nat) : Nat := 0x31001c + 0x10 * i
abbrev PD_PORT_MAX_W (i : Nat) : Fld := ⟨0x31001c + 0x10 * i, 8, 8⟩
abbrev PD_PORT_PRIORITY (i : Nat) : Fld := ⟨0x31001c + 0x10 * i, 4, 2⟩
abbrev PD_PORT_OVERRIDE_EN (i : Nat) : Fld := ⟨0x31001c + 0x10 * i, 2, 1⟩
abbrev PD_PORT_ACCEPT_PR_SWAP (i : Nat) : Fld := ⟨0x31001c + 0x10 * i, 1, 1⟩
abbrev PD_PORT_SOURCE_EN (i : Nat) : Fld := ⟨0x31001c + 0x10 * i, 0, 1⟩
abbrev DOMAIN_REQ : Nat := 0x320000
abbrev DOMAIN_REQ_DOMAINS : Fld := ⟨0x320000, 2, 6⟩
abbrev DOMAIN_REQ_CORE : Fld := ⟨0x320000, 1, 1⟩
abbrev DOMAIN_REQ_KEEP : Fld := ⟨0x320000, 0, 1⟩
abbrev DOMAIN_FAULT : Nat := 0x320004
abbrev DOMAIN_FAULT_DOMAINS : Fld := ⟨0x320004, 1, 7⟩
abbrev DORMANT_CFG : Nat := 0x320008
abbrev DORMANT_CFG_EN : Fld := ⟨0x320008, 31, 1⟩
abbrev DORMANT_CFG_RING_OK : Fld := ⟨0x320008, 30, 1⟩
abbrev DORMANT_CFG_GO : Fld := ⟨0x320008, 29, 1⟩
abbrev DORMANT_CFG_IDLE_TIME : Fld := ⟨0x320008, 0, 16⟩
abbrev WAKE_CFG : Nat := 0x32000c
abbrev WAKE_CFG_WAKE_AFTER : Fld := ⟨0x32000c, 16, 16⟩
abbrev WAKE_CFG_EN : Fld := ⟨0x32000c, 1, 6⟩
abbrev PS_STATE : Nat := 0x320010
abbrev PS_STATE_IDLE_LEFT : Fld := ⟨0x320010, 16, 16⟩
abbrev PS_STATE_LAST_ABORTER : Fld := ⟨0x320010, 8, 8⟩
abbrev PS_STATE_LAST_REFUSER : Fld := ⟨0x320010, 4, 4⟩
abbrev PS_STATE_STATE : Fld := ⟨0x320010, 0, 3⟩
abbrev LAST_WAKE : Nat := 0x320014
abbrev LAST_WAKE_SOURCE : Fld := ⟨0x320014, 24, 8⟩
abbrev LAST_WAKE_DETAIL : Fld := ⟨0x320014, 16, 8⟩
abbrev LAST_WAKE_ALSO : Fld := ⟨0x320014, 1, 6⟩
abbrev LAST_DORMANT_S : Nat := 0x320018
abbrev LAST_DORMANT_S_SECONDS : Fld := ⟨0x320018, 0, 32⟩
abbrev SEC_STATE : Nat := 0x400000
abbrev SEC_STATE_POLICY : Fld := ⟨0x400000, 16, 16⟩
abbrev SEC_STATE_LOCKOUT : Fld := ⟨0x400000, 4, 1⟩
abbrev SEC_STATE_APPROVED : Fld := ⟨0x400000, 3, 1⟩
abbrev SEC_STATE_OWNED : Fld := ⟨0x400000, 2, 1⟩
abbrev SEC_STATE_CRYPTO_ERROR : Fld := ⟨0x400000, 1, 1⟩
abbrev SEC_STATE_DEBUG : Fld := ⟨0x400000, 0, 1⟩
abbrev LINK_SLOT : Nat := 0x400004
abbrev LINK_SLOT_SLOT_C : Fld := ⟨0x400004, 16, 6⟩
abbrev LINK_SLOT_SLOT_B : Fld := ⟨0x400004, 8, 6⟩
abbrev LINK_SLOT_SLOT_A : Fld := ⟨0x400004, 0, 6⟩
abbrev ZEROISE_COUNT : Nat := 0x400008
abbrev ZEROISE_COUNT_COUNT : Fld := ⟨0x400008, 0, 32⟩
abbrev SELF_TEST : Nat := 0x40000c
abbrev SELF_TEST_KEEPER_OK : Fld := ⟨0x40000c, 16, 1⟩
abbrev SELF_TEST_PIPE_OK : Fld := ⟨0x40000c, 0, 12⟩
abbrev LINK_USES (i : Nat) : Nat := 0x400010 + 4 * i
abbrev LINK_USES_MISMATCH (i : Nat) : Fld := ⟨0x400010 + 4 * i, 31, 1⟩
abbrev LINK_USES_PAIRS (i : Nat) : Fld := ⟨0x400010 + 4 * i, 0, 13⟩
abbrev SLOT_ATTR (i : Nat) : Nat := 0x400100 + 4 * i
abbrev SLOT_ATTR_STATE (i : Nat) : Fld := ⟨0x400100 + 4 * i, 30, 2⟩
abbrev SLOT_ATTR_KIND (i : Nat) : Fld := ⟨0x400100 + 4 * i, 28, 2⟩
abbrev SLOT_ATTR_DEST (i : Nat) : Fld := ⟨0x400100 + 4 * i, 16, 6⟩
abbrev SEAL_COUNTER (i : Nat) : Nat := 0x400200 + 4 * i
abbrev SEAL_COUNTER_VALUE (i : Nat) : Fld := ⟨0x400200 + 4 * i, 0, 32⟩
abbrev SCRUB_CFG (i : Nat) : Nat := 0x410000 + 4 * i
abbrev SCRUB_CFG_PERIOD (i : Nat) : Fld := ⟨0x410000 + 4 * i, 0, 16⟩
abbrev MEM_STATE (i : Nat) : Nat := 0x410020 + 4 * i
abbrev MEM_STATE_REVISIT (i : Nat) : Fld := ⟨0x410020 + 4 * i, 27, 5⟩
abbrev MEM_STATE_LAST_ADDR (i : Nat) : Fld := ⟨0x410020 + 4 * i, 0, 27⟩
abbrev RETIRED : Nat := 0x410040
abbrev RETIRED_CELLS : Fld := ⟨0x410040, 0, 11⟩
abbrev MRAM_SPARES : Nat := 0x410044
abbrev MRAM_SPARES_USED : Fld := ⟨0x410044, 0, 9⟩
abbrev REC_STATE : Nat := 0x420000
abbrev REC_STATE_FROZEN : Fld := ⟨0x420000, 31, 1⟩
abbrev REC_STATE_PATH : Fld := ⟨0x420000, 24, 7⟩
abbrev OPERATING_LO : Nat := 0x420004
abbrev OPERATING_LO_VALUE : Fld := ⟨0x420004, 0, 32⟩
abbrev OPERATING_HI : Nat := 0x420008
abbrev OPERATING_HI_VALUE : Fld := ⟨0x420008, 0, 32⟩
abbrev HOURS : Nat := 0x42000c
abbrev HOURS_VALUE : Fld := ⟨0x42000c, 0, 32⟩
abbrev POWER_CYCLES : Nat := 0x420010
abbrev POWER_CYCLES_VALUE : Fld := ⟨0x420010, 0, 32⟩
abbrev HIST_CFG_0 (i : Nat) : Nat := 0x420100 + 0x10 * i
abbrev HIST_CFG_SOURCE (i : Nat) : Fld := ⟨0x420100 + 0x10 * i, 0, 8⟩
abbrev HIST_CFG_4 (i : Nat) : Nat := 0x420104 + 0x10 * i
abbrev HIST_CFG_LOW (i : Nat) : Fld := ⟨0x420104 + 0x10 * i, 0, 32⟩
abbrev HIST_CFG_8 (i : Nat) : Nat := 0x420108 + 0x10 * i
abbrev HIST_CFG_WIDTH (i : Nat) : Fld := ⟨0x420108 + 0x10 * i, 0, 32⟩
abbrev HIST_CFG_C (i : Nat) : Nat := 0x42010c + 0x10 * i
abbrev RESET_CAUSE : Nat := 0x50
abbrev RESET_CAUSE_FAULT : Fld := ⟨0x50, 16, 8⟩
abbrev RESET_CAUSE_CAUSE : Fld := ⟨0x50, 8, 8⟩
abbrev RESET_CAUSE_KIND : Fld := ⟨0x50, 0, 2⟩
abbrev BOOT_STATE : Nat := 0x54
abbrev BOOT_STATE_TRIAL : Fld := ⟨0x54, 31, 1⟩
abbrev BOOT_STATE_FALLBACK : Fld := ⟨0x54, 30, 1⟩
abbrev BOOT_STATE_ACTIVE_SLOT : Fld := ⟨0x54, 29, 1⟩
abbrev BOOT_STATE_RUNNING_SLOT : Fld := ⟨0x54, 28, 1⟩
abbrev BOOT_STATE_STAGE : Fld := ⟨0x54, 0, 3⟩
abbrev FW_VERSION : Nat := 0x58
abbrev FW_VERSION_VERSION : Fld := ⟨0x58, 0, 32⟩
abbrev FW_STAGED : Nat := 0x5c
abbrev FW_STAGED_RECEIVED : Fld := ⟨0x5c, 0, 22⟩
abbrev PIN_LEVELS : Nat := 0x500000
abbrev PIN_LEVELS_SVC_PWR_EN : Fld := ⟨0x500000, 11, 1⟩
abbrev PIN_LEVELS_PWR_EN : Fld := ⟨0x500000, 4, 7⟩
abbrev PIN_LEVELS_RND_PULSE : Fld := ⟨0x500000, 3, 1⟩
abbrev PIN_LEVELS_PFW_N : Fld := ⟨0x500000, 2, 1⟩
abbrev PIN_LEVELS_PG : Fld := ⟨0x500000, 1, 1⟩
abbrev PIN_LEVELS_RESET_N : Fld := ⟨0x500000, 0, 1⟩
abbrev DIE_TEMP : Nat := 0x500004
abbrev DIE_TEMP_SWITCH : Fld := ⟨0x500004, 16, 16⟩
abbrev DIE_TEMP_KEEPER : Fld := ⟨0x500004, 0, 16⟩
abbrev IO_CFG : Nat := 0x500008
abbrev IO_CFG_SPI_DRIVE : Fld := ⟨0x500008, 2, 2⟩
abbrev IO_CFG_PULSE_SLOW : Fld := ⟨0x500008, 1, 1⟩

end Reg

namespace Cnt

abbrev ROUND_STEPS : Nat := 0x10040
abbrev ROUND_LOCK_LOSSES : Nat := 0x10044
abbrev ROUND_HEADERS_MISSED : Nat := 0x10048
abbrev ROUND_HEADERS_OUT_OF_WINDOW : Nat := 0x1004c
abbrev ROUND_BEATS_MISSED : Nat := 0x10050
abbrev ROUND_BEATS_LATE : Nat := 0x10054
abbrev ROUND_TAKEOVERS : Nat := 0x10058
abbrev ROUND_SWAPS_DONE : Nat := 0x1005c
abbrev ROUND_SWAPS_CANCELLED : Nat := 0x10060
abbrev ROUND_RECORDS_DISCARDED : Nat := 0x10064
abbrev ROUND_DELAY_DISCARDED : Nat := 0x10068
abbrev ROUND_ISO_GATED_ROUNDS : Nat := 0x1006c
abbrev ROUND_SPEC_LATE : Nat := 0x10070
abbrev ROUND_PATCH_LATE : Nat := 0x10074
abbrev ROUND_SEAL_MISSED : Nat := 0x10078
abbrev ROUND_CARRIED : Nat := 0x1007c
abbrev ROUND_HOLDOVER_EXPIRED : Nat := 0x10080
abbrev TRK_CORRECTED_SYMBOLS (p i : Nat) : Nat := (2 + p) * 0x10000 + 0x40 + 0x20 * i
abbrev TRK_CORRECTED_CW (p i : Nat) : Nat := (2 + p) * 0x10000 + 0x44 + 0x20 * i
abbrev TRK_UNCORRECTABLE_CW (p i : Nat) : Nat := (2 + p) * 0x10000 + 0x48 + 0x20 * i
abbrev TRK_BAD_HEADERS (p i : Nat) : Nat := (2 + p) * 0x10000 + 0x4c + 0x20 * i
abbrev TRK_LOCK_LOSSES (p i : Nat) : Nat := (2 + p) * 0x10000 + 0x50 + 0x20 * i
abbrev TRK_SKEW_EXCEEDED (p i : Nat) : Nat := (2 + p) * 0x10000 + 0x54 + 0x20 * i
abbrev TRK_HUNT_RESTARTS (p : Nat) : Nat := (2 + p) * 0x10000 + 0xc0
abbrev TRK_STEP_FAILS (p : Nat) : Nat := (2 + p) * 0x10000 + 0xc4
abbrev TRK_CHECK_FAILS (p : Nat) : Nat := (2 + p) * 0x10000 + 0xc8
abbrev TRK_DEGRADES (p : Nat) : Nat := (2 + p) * 0x10000 + 0xcc
abbrev TRK_RESTORES (p : Nat) : Nat := (2 + p) * 0x10000 + 0xd0
abbrev TRK_LANE_MISMATCH (p : Nat) : Nat := (2 + p) * 0x10000 + 0xd4
abbrev TRK_CONTROL_DISCARDED (p : Nat) : Nat := (2 + p) * 0x10000 + 0xd8
abbrev TRK_BLOCKS_DISCARDED (p : Nat) : Nat := (2 + p) * 0x10000 + 0xdc
abbrev TRK_MODULE_ERRORS (p : Nat) : Nat := (2 + p) * 0x10000 + 0xe0
abbrev TOPO_ENV_IN (i : Nat) : Nat := 0x50100 + 0x40 * i
abbrev TOPO_ENV_OUT (i : Nat) : Nat := 0x50104 + 0x40 * i
abbrev TOPO_FLAGGED (i : Nat) : Nat := 0x50108 + 0x40 * i
abbrev TOPO_CRC_FAILS (i : Nat) : Nat := 0x5010c + 0x40 * i
abbrev TOPO_REPLAYED (i : Nat) : Nat := 0x50110 + 0x40 * i
abbrev TOPO_TAG_FAILS (i : Nat) : Nat := 0x50114 + 0x40 * i
abbrev TOPO_BAD_HEADER (i : Nat) : Nat := 0x50118 + 0x40 * i
abbrev TOPO_HOPS_EXPIRED (i : Nat) : Nat := 0x5011c + 0x40 * i
abbrev TOPO_FRAME_BROKEN (i : Nat) : Nat := 0x50120 + 0x40 * i
abbrev TOPO_TURNED (i : Nat) : Nat := 0x50124 + 0x40 * i
abbrev TOPO_BREAK_DROPPED (i : Nat) : Nat := 0x50128 + 0x40 * i
abbrev TOPO_TWIN_DROPPED (i : Nat) : Nat := 0x5012c + 0x40 * i
abbrev TOPO_UNREACHABLE (i : Nat) : Nat := 0x50130 + 0x40 * i
abbrev TOPO_HEADER_FAILS (i : Nat) : Nat := 0x50134 + 0x40 * i
abbrev TOPO_FLOOR_USED (i : Nat) : Nat := 0x50138 + 0x40 * i
abbrev TOPO_TWIN_SINGLE : Nat := 0x50200
abbrev TOPO_BREAKS_OVERFLOW : Nat := 0x50204
abbrev TUNNEL_SHORT_ROUNDS (i : Nat) : Nat := 0x100100 + 0x40 * i
abbrev TUNNEL_SLOTS_CUT (i : Nat) : Nat := 0x100104 + 0x40 * i
abbrev TUNNEL_ISO_SHED (i : Nat) : Nat := 0x100108 + 0x40 * i
abbrev TUNNEL_CREDIT_TRIMMED (i : Nat) : Nat := 0x10010c + 0x40 * i
abbrev TUNNEL_RUNS_FULL (i : Nat) : Nat := 0x100110 + 0x40 * i
abbrev TUNNEL_SLOTS_YIELDED (i : Nat) : Nat := 0x100114 + 0x40 * i
abbrev TUNNEL_SLOTS_IDLE (i : Nat) : Nat := 0x100118 + 0x40 * i
abbrev TUNNEL_STALE_INC : Nat := 0x100200
abbrev TUNNEL_REDIRECTED : Nat := 0x100204
abbrev TUNNEL_RETURNED_SENT : Nat := 0x100208
abbrev TUNNEL_OPEN_TIMEOUTS : Nat := 0x10020c
abbrev TUNNEL_OPEN_REFUSED : Nat := 0x100210
abbrev TUNNEL_NO_FLOW : Nat := 0x100214
abbrev TUNNEL_DRAIN_DISCARDED : Nat := 0x100218
abbrev SWITCH_ADMITTED (i j : Nat) : Nat := 0x111000 + 0x100 * i + 0x20 * j
abbrev SWITCH_DROP_GREEN (i j : Nat) : Nat := 0x111004 + 0x100 * i + 0x20 * j
abbrev SWITCH_DROP_YELLOW (i j : Nat) : Nat := 0x111008 + 0x100 * i + 0x20 * j
abbrev SWITCH_DROP_RED (i j : Nat) : Nat := 0x11100c + 0x100 * i + 0x20 * j
abbrev SWITCH_AGED (i j : Nat) : Nat := 0x111010 + 0x100 * i + 0x20 * j
abbrev SWITCH_CREDIT_OVERRUN (i j : Nat) : Nat := 0x111014 + 0x100 * i + 0x20 * j
abbrev SWITCH_HOLD_EXPIRED (i j : Nat) : Nat := 0x111018 + 0x100 * i + 0x20 * j
abbrev SWITCH_CHECK_DROPS (i : Nat) : Nat := 0x111a00 + 0x20 * i
abbrev SWITCH_OVERSIZE (i : Nat) : Nat := 0x111a04 + 0x20 * i
abbrev SWITCH_INCOMPLETE (i : Nat) : Nat := 0x111a08 + 0x20 * i
abbrev SWITCH_WRITE_OVERRUN (i : Nat) : Nat := 0x111a0c + 0x20 * i
abbrev SWITCH_EGRESS_DOWN (i : Nat) : Nat := 0x111a10 + 0x20 * i
abbrev SWITCH_HELD_ROUNDS (i : Nat) : Nat := 0x111a14 + 0x20 * i
abbrev SWITCH_MIRROR_COPIES : Nat := 0x111c00
abbrev SWITCH_MIRROR_DROPPED : Nat := 0x111c04
abbrev SWITCH_CONGESTION_EVENTS : Nat := 0x111c08
abbrev ENGINE_SLICES_YIELDED (i : Nat) : Nat := 0x129000 + 0x40 * i
abbrev ENGINE_SLICES_IDLE (i : Nat) : Nat := 0x129004 + 0x40 * i
abbrev ENGINE_SLICES_CUT (i : Nat) : Nat := 0x129008 + 0x40 * i
abbrev ENGINE_ITEMS_CARRIED (i : Nat) : Nat := 0x12900c + 0x40 * i
abbrev ENGINE_ITEMS_ABANDONED (i : Nat) : Nat := 0x129010 + 0x40 * i
abbrev ENGINE_INBOX_FULL (i : Nat) : Nat := 0x129014 + 0x40 * i
abbrev ENGINE_P9_WAITS (i : Nat) : Nat := 0x129018 + 0x40 * i
abbrev ENGINE_RESTARTS (i : Nat) : Nat := 0x12901c + 0x40 * i
abbrev ENGINE_TBL_SPEC_LATE : Nat := 0x129400
abbrev ENGINE_TBL_PATCH_LATE : Nat := 0x129404
abbrev ENGINE_TBL_SEAL_MISSED : Nat := 0x129408
abbrev ENGINE_SLICES_REPATCHED : Nat := 0x12940c
abbrev ENGINE_SLOTS_REPATCHED : Nat := 0x129410
abbrev ENGINE_NO_CONTEXT : Nat := 0x129414
abbrev ENGINE_RA_ISSUED : Nat := 0x129418
abbrev ENGINE_RA_CONFIRMED : Nat := 0x12941c
abbrev ENGINE_RA_STALE : Nat := 0x129420
abbrev ENGINE_RA_WRITTEN : Nat := 0x129424
abbrev ENGINE_RA_RECONFIG : Nat := 0x129428
abbrev ENGINE_RA_UNUSED : Nat := 0x12942c
abbrev ENGINE_LOCKSTEP_FAULTS : Nat := 0x129430
abbrev REGISTRY_ACCEPTED : Nat := 0x139000
abbrev REGISTRY_REFUSED_WINDOW : Nat := 0x139004
abbrev REGISTRY_REFUSED_RATE : Nat := 0x139008
abbrev REGISTRY_REFUSED_POOL : Nat := 0x13900c
abbrev REGISTRY_REFUSED_FAULT : Nat := 0x139010
abbrev REGISTRY_FIRST_SENDS : Nat := 0x139014
abbrev REGISTRY_RESENDS : Nat := 0x139018
abbrev REGISTRY_RELEASED : Nat := 0x13901c
abbrev REGISTRY_PASSED : Nat := 0x139020
abbrev REGISTRY_DUPLICATES : Nat := 0x139024
abbrev REGISTRY_HELD_OUT_OF_ORDER : Nat := 0x139028
abbrev REGISTRY_OUT_OF_WINDOW : Nat := 0x13902c
abbrev REGISTRY_PIGEONHOLES_FULL : Nat := 0x139030
abbrev REGISTRY_RECEIPTS_SENT : Nat := 0x139034
abbrev REGISTRY_RETURNS_RECEIVED : Nat := 0x139038
abbrev REGISTRY_STALE_RETURNS : Nat := 0x13903c
abbrev REGISTRY_FORWARDED : Nat := 0x139040
abbrev REGISTRY_DEAD_LETTERS : Nat := 0x139044
abbrev REGISTRY_IN_DOUBT : Nat := 0x139048
abbrev REGISTRY_REPRESENTED : Nat := 0x13904c
abbrev REGISTRY_VOID_LETTERS : Nat := 0x139050
abbrev REGISTRY_REPLAYED : Nat := 0x139054
abbrev DISPLAY_PARCELS (i : Nat) : Nat := 0x200100 + 0x20 * i
abbrev DISPLAY_MISSED_PARCELS (i : Nat) : Nat := 0x200104 + 0x20 * i
abbrev DISPLAY_LATE_PARCELS (i : Nat) : Nat := 0x200108 + 0x20 * i
abbrev DISPLAY_BLANKED_FRAMES (i : Nat) : Nat := 0x20010c + 0x20 * i
abbrev DISPLAY_RESYNCS (i : Nat) : Nat := 0x200110 + 0x20 * i
abbrev DISPLAY_PARCELS_RED (i : Nat) : Nat := 0x200114 + 0x20 * i
abbrev DISPLAY_AUX_NACKED (i : Nat) : Nat := 0x200118 + 0x20 * i
abbrev DISPLAY_HPD_EVENTS (i : Nat) : Nat := 0x20011c + 0x20 * i
abbrev STORAGE_CMDS_LOCAL : Nat := 0x211000
abbrev STORAGE_CMDS_REMOTE : Nat := 0x211004
abbrev STORAGE_CMD_TIMEOUTS : Nat := 0x211008
abbrev STORAGE_LATE_COMPLETIONS : Nat := 0x21100c
abbrev STORAGE_INVALID_OPCODE : Nat := 0x211010
abbrev STORAGE_SSD_ERRORS : Nat := 0x211014
abbrev STORAGE_HELD_SUBMISSIONS : Nat := 0x211018
abbrev ETHER_FRAMES_IN (i : Nat) : Nat := 0x222000 + 0x20 * i
abbrev ETHER_FRAMES_OUT (i : Nat) : Nat := 0x222004 + 0x20 * i
abbrev ETHER_FCS_ERRORS (i : Nat) : Nat := 0x222008 + 0x20 * i
abbrev ETHER_TOO_LONG (i : Nat) : Nat := 0x22200c + 0x20 * i
abbrev ETHER_NO_MAP (i : Nat) : Nat := 0x222010 + 0x20 * i
abbrev ETHER_PAUSE_DISCARDED (i : Nat) : Nat := 0x222014 + 0x20 * i
abbrev USB_CONNECTS (i : Nat) : Nat := 0x230200 + 0x20 * i
abbrev USB_CONNECT_FAILS (i : Nat) : Nat := 0x230204 + 0x20 * i
abbrev USB_RESETS (i : Nat) : Nat := 0x230208 + 0x20 * i
abbrev USB_LINK_ERRORS (i : Nat) : Nat := 0x23020c + 0x20 * i
abbrev USB_FALLBACKS_USB2 (i : Nat) : Nat := 0x230210 + 0x20 * i
abbrev USB_WAKES (i : Nat) : Nat := 0x230214 + 0x20 * i
abbrev USB_WAKES_MERGED (i : Nat) : Nat := 0x230218 + 0x20 * i
abbrev USB_XFER_TIMEOUTS (i : Nat) : Nat := 0x230300 + 0x10 * i
abbrev USB_LATE_COMPLETIONS (i : Nat) : Nat := 0x230304 + 0x10 * i
abbrev USB_ISO_MISSED (i : Nat) : Nat := 0x230308 + 0x10 * i
abbrev USB_TREE_LOST (i : Nat) : Nat := 0x23030c + 0x10 * i
abbrev USB_BUS_RESETS : Nat := 0x230500
abbrev USB_CMD_ACCEPTED : Nat := 0x230504
abbrev USB_CMD_REJECTED : Nat := 0x230508
abbrev USB_CMD_DISCARDED : Nat := 0x23050c
abbrev USB_RECEIPTS_REISSUED : Nat := 0x230510
abbrev USB_RECEIPTS_UNQUEUED : Nat := 0x230514
abbrev USB_NOTICES_LOST : Nat := 0x230518
abbrev USB_SVC_WAKES_MERGED : Nat := 0x23051c
abbrev FIELD_FRAMES_RX (i : Nat) : Nat := 0x240100 + 0x40 * i
abbrev FIELD_FRAMES_TX (i : Nat) : Nat := 0x240104 + 0x40 * i
abbrev FIELD_BUS_ERRORS (i : Nat) : Nat := 0x240108 + 0x40 * i
abbrev FIELD_BUS_OFF_EVENTS (i : Nat) : Nat := 0x24010c + 0x40 * i
abbrev FIELD_REMOTE_DISCARDED (i : Nat) : Nat := 0x240110 + 0x40 * i
abbrev FIELD_NO_ROUTE (i : Nat) : Nat := 0x240114 + 0x40 * i
abbrev FIELD_SIZE_ERRORS (i : Nat) : Nat := 0x240118 + 0x40 * i
abbrev FIELD_HOLD_DROPPED (i : Nat) : Nat := 0x24011c + 0x40 * i
abbrev FIELD_RESP_TIMEOUTS (i : Nat) : Nat := 0x240120 + 0x40 * i
abbrev FIELD_RETRIES_USED (i : Nat) : Nat := 0x240124 + 0x40 * i
abbrev FIELD_EXCEPTIONS_RX (i : Nat) : Nat := 0x240128 + 0x40 * i
abbrev FIELD_EXCEPTIONS_TX (i : Nat) : Nat := 0x24012c + 0x40 * i
abbrev FIELD_REG_NOT_DONE (i : Nat) : Nat := 0x240130 + 0x40 * i
abbrev FIELD_TX_DROPPED (i : Nat) : Nat := 0x240134 + 0x40 * i
abbrev BRIDGE_BUSY_ANSWERS : Nat := 0x149000
abbrev BRIDGE_FETCHES : Nat := 0x149004
abbrev BRIDGE_FETCH_ANSWERED : Nat := 0x149008
abbrev BRIDGE_FETCH_TIMEOUTS : Nat := 0x14900c
abbrev BRIDGE_CUTS : Nat := 0x149010
abbrev BRIDGE_COMPAT_ERRORS : Nat := 0x149014
abbrev BRIDGE_RMW_REFUSED : Nat := 0x149018
abbrev BRIDGE_CONFIRM_UNCLAIMED : Nat := 0x14901c
abbrev BRIDGE_BAD_MESSAGES : Nat := 0x149020
abbrev HUB_CMDS_ENTERED : Nat := 0x100
abbrev HUB_CMDS_REFUSED : Nat := 0x104
abbrev HUB_REPEATS_REISSUED : Nat := 0x108
abbrev HUB_STALE_SEQ : Nat := 0x10c
abbrev HUB_RELAYED : Nat := 0x110
abbrev HUB_RELAY_TIMEOUTS : Nat := 0x114
abbrev HUB_REMOTE_ENTERED : Nat := 0x118
abbrev HUB_RELAY_LATE : Nat := 0x11c
abbrev HUB_NOTICES_SENT : Nat := 0x120
abbrev HUB_NOTICES_DROPPED : Nat := 0x124
abbrev HUB_SETS_APPLIED : Nat := 0x128
abbrev HUB_SETS_FAILED : Nat := 0x12c
abbrev HUB_MGMT_DISCARDED : Nat := 0x130
abbrev HUB_POSTMASTER_RESTARTS : Nat := 0x134
abbrev HUB_HUB_RESETS : Nat := 0x138
abbrev HUB_CORE_CYCLES : Nat := 0x13c
abbrev HUB_BOOT_FAILS : Nat := 0x140
abbrev HUB_WATCHDOG_TRIPS : Nat := 0x144
abbrev HUB_SAFE_ENTRIES : Nat := 0x148
abbrev PWRIN_TIMER_TRIPS (i : Nat) : Nat := 0x300100 + 0x40 * i
abbrev PWRIN_FAST_TRIPS (i : Nat) : Nat := 0x300104 + 0x40 * i
abbrev PWRIN_RETRIES (i : Nat) : Nat := 0x300108 + 0x40 * i
abbrev PWRIN_LATCHES (i : Nat) : Nat := 0x30010c + 0x40 * i
abbrev PWRIN_OV_EVENTS (i : Nat) : Nat := 0x300110 + 0x40 * i
abbrev PWRIN_UV_EVENTS (i : Nat) : Nat := 0x300114 + 0x40 * i
abbrev PWRIN_REVERSE_EVENTS (i : Nat) : Nat := 0x300118 + 0x40 * i
abbrev PWRIN_SAMPLES_MISSING (i : Nat) : Nat := 0x30011c + 0x40 * i
abbrev PWRIN_PFW_EVENTS : Nat := 0x300200
abbrev PWRIN_UV_TRIPS : Nat := 0x300204
abbrev PD_MSG_RETRIES (i : Nat) : Nat := 0x310100 + 0x20 * i
abbrev PD_SOFT_RESETS (i : Nat) : Nat := 0x310104 + 0x20 * i
abbrev PD_HARD_RESETS (i : Nat) : Nat := 0x310108 + 0x20 * i
abbrev PD_SWAPS_DONE (i : Nat) : Nat := 0x31010c + 0x20 * i
abbrev PD_SWAPS_REFUSED (i : Nat) : Nat := 0x310110 + 0x20 * i
abbrev PD_VBUS_FAULTS (i : Nat) : Nat := 0x310114 + 0x20 * i
abbrev PD_BUDGET_CUTS (i : Nat) : Nat := 0x310118 + 0x20 * i
abbrev PD_MSGS_DISCARDED (i : Nat) : Nat := 0x31011c + 0x20 * i
abbrev PSTATE_DORMANT_ENTRIES : Nat := 0x320100
abbrev PSTATE_WAKES : Nat := 0x320104
abbrev PSTATE_ABORTS : Nat := 0x320108
abbrev PSTATE_REFUSALS : Nat := 0x32010c
abbrev PSTATE_RAIL_FAULTS : Nat := 0x320110
abbrev PSTATE_REFUSER (i : Nat) : Nat := 0x320144 + 4 * i
abbrev SECURE_LETTERS_ACCEPTED : Nat := 0x400400
abbrev SECURE_LETTERS_REFUSED : Nat := 0x400404
abbrev SECURE_SELF_TEST_FAILS : Nat := 0x400408
abbrev SECURE_LINK_RETRAINS : Nat := 0x40040c
abbrev MEMORY_CORRECTED (i : Nat) : Nat := 0x410100 + 0x20 * i
abbrev MEMORY_UNCORRECTABLE (i : Nat) : Nat := 0x410104 + 0x20 * i
abbrev MEMORY_SCRUB_WRITES (i : Nat) : Nat := 0x410108 + 0x20 * i
abbrev MEMORY_REVISIT_OVERFLOW (i : Nat) : Nat := 0x41010c + 0x20 * i
abbrev MEMORY_SCRUB_LATE (i : Nat) : Nat := 0x410110 + 0x20 * i
abbrev MEMORY_STICKY (i : Nat) : Nat := 0x410114 + 0x20 * i
abbrev MEMORY_DUAL_RESTORED : Nat := 0x410200
abbrev RECORDER_AUTO_THAWS : Nat := 0x420800

end Cnt
end Machine
end Sys2Proof
end

