-- ==== Sys2Proof/Machine/Bits.lean ====
section
/-!
DEFINITION. Bit fields, signed fields, little-endian bytes and CRC-32C: the plain functions the meanings share
(R5, R6, R13, R339, R341).
-/
namespace Sys2Proof
namespace Machine

/-- Bits [l + w − 1 : l] of a number. -/
def bitsOf (n l w : Nat) : Nat := n / 2 ^ l % 2 ^ w

/-- One bit of a number. -/
def bitOf (n i : Nat) : Bool := n / 2 ^ i % 2 == 1

/-- A number with bits [l + w − 1 : l] replaced. -/
def setBits (n l w v : Nat) : Nat :=
  n / 2 ^ (l + w) * 2 ^ (l + w) + v % 2 ^ w * 2 ^ l + n % 2 ^ l

/-- A number with one bit set or cleared. -/
def setBit (n i : Nat) (b : Bool) : Nat := setBits n i 1 (if b then 1 else 0)

/-- How many of the lowest `w` bits are 1. -/
def popCount (n : Nat) : Nat → Nat
  | 0 => 0
  | w + 1 => (if bitOf n w then 1 else 0) + popCount n w

/-- Two's complement value of a `w`-bit field. -/
def signedOf (w n : Nat) : Int := if n % 2 ^ w < 2 ^ (w - 1) then (n % 2 ^ w : Nat) else (n % 2 ^ w : Nat) - (2 ^ w : Nat)

/-- The `w`-bit field of an integer in two's complement. -/
def fieldOf (w : Nat) (i : Int) : Nat := (i % (2 ^ w : Nat)).toNat

/-- An integer held between two limits. -/
def clampInt (lo hi i : Int) : Int := if i < lo then lo else if hi < i then hi else i

/-- `n` bytes of a number, least significant first (R6). -/
def leBytes : Nat → Nat → List Byte
  | 0, _ => []
  | n + 1, v => BitVec.ofNat 8 v :: leBytes n (v / 256)

/-- The number a little-endian byte string holds (R6). -/
def leNat : List Byte → Nat
  | [] => 0
  | b :: bs => b.toNat + 256 * leNat bs

/-- The little-endian field of `n` bytes at byte `o`. -/
def leAt (bs : List Byte) (o n : Nat) : Nat := leNat ((bs.drop o).take n)

/-- `n` bytes of a number, most significant first (R6). -/
def bigBytes (n v : Nat) : List Byte := (leBytes n v).reverse

/-- The number a byte string spells, most significant byte first (R6). -/
def bigNat (bs : List Byte) : Nat := bs.foldl (fun n b => n * 256 + b.toNat) 0

/-- The mask of a field's bits. -/
def FieldRow.mask (f : FieldRow) : Nat := (2 ^ f.width - 1) * 2 ^ f.lsb

/-- A row covers an offset: the indices of `dims` in turn. -/
def coversDims : List (Nat × Nat) → Nat → Bool
  | [], d => d == 0
  | (s, c) :: ds, d => decide (d / s < c) && coversDims ds (d % s)

def RegRow.covers (r : RegRow) (off : Nat) : Bool := decide (r.base ≤ off) && coversDims r.dims (off - r.base)

/-- The row of an address, where the field maps have one. -/
def rowOf (a : Nat) : Option RegRow :=
  match blockRows (a / 65536) with
  | some rows => rows.find? (fun r => r.covers (a % 65536))
  | none => none

/-- The fields of an address; none at a reserved offset (R13). -/
def fieldsOf (a : Nat) : List FieldRow :=
  match rowOf a with
  | some r => r.fields
  | none => []

/-- The sum of `g` over fields. -/
def sumFields (g : FieldRow → Nat) : List FieldRow → Nat
  | [] => 0
  | f :: fs => g f + sumFields g fs

/-- The word at an address after the reset kinds that clear it: the Reset columns of its fields (R13). [Log entry 4: DESIGN CHOICE] -/
def resetWord (a : Nat) : Word := BitVec.ofNat 32 (sumFields (fun f => f.reset % 2 ^ f.width * 2 ^ f.lsb) (fieldsOf a))

/-- The bits of a word whose fields satisfy a test. -/
def maskOf (p : FieldRow → Bool) (a : Nat) : Word := BitVec.ofNat 32 (sumFields (fun f => if p f then f.mask else 0) (fieldsOf a))

/-- The bits of a word of one access class. -/
def accMask (c : Access) (a : Nat) : Word := maskOf (fun f => f.acc == c) a

/-- An address is well formed: offset a multiple of 4 in a block of R9 (R8). -/
def addressOk (a : Nat) : Bool := a % 4 == 0 && (blockRows (a / 65536)).isSome

/-- One byte more of a CRC-32C (Castagnoli, reflected polynomial 0x82F63B78). -/
def crcBits : Nat → BitVec 32 → BitVec 32
  | 0, c => c
  | n + 1, c => crcBits n (if c.getLsbD 0 then (c >>> 1) ^^^ 0x82F63B78#32 else c >>> 1)

/-- CRC-32C of a byte string (R339, R341). -/
def crc32c (bs : List Byte) : BitVec 32 :=
  ~~~ (bs.foldl (fun c b => crcBits 8 (c ^^^ b.setWidth 32)) 0xFFFFFFFF#32)

end Machine
end Sys2Proof
end

