-- ==== Sys2Proof/Machine/Wire.lean ====
section
/-!
DEFINITION. What a trunk port puts on its line, as bytes: round-control records in their three control blocks (R49, R89), round
headers in their nine (R120, R121), envelopes with tag and trailer (R115 to R117). Multi-byte fields go most significant byte first (R6).
-/
namespace Sys2Proof
namespace Machine

/-- `n` bits of a byte through a CRC-16 of polynomial 0x1021, most significant bit first (R89). -/
def crc16Bits : Nat → BitVec 16 → BitVec 16
  | 0, c => c
  | n + 1, c => crc16Bits n (if c.getMsbD 0 then (c <<< 1) ^^^ 0x1021#16 else c <<< 1)

/-- The CRC-16 of a record (R89): initial value 0xFFFF. -/
def crc16 (bs : List Byte) : BitVec 16 := bs.foldl (fun c b => crc16Bits 8 (c ^^^ BitVec.ofNat 16 (256 * b.toNat))) 0xFFFF#16

/-- A bit at a place of a byte. -/
def bitAt (b : Bool) (n : Nat) : Nat := if b then 2 ^ n else 0

/-- The 17 bytes of a round-control record (R49); bit 47 of ROUND carries HOPS[8]. -/
def recBytes (type : Nat) (r : Rec) : List Byte :=
  bigBytes 1 type ++ bigBytes 1 r.hops.val ++ bigBytes 2 r.epoch.toNat ++ bigBytes 6 (r.round.val + r.hops.val / 256 % 2 * 2 ^ 47) ++
  bigBytes 2 r.origin.toNat ++ bigBytes 2 r.subject.toNat ++ bigBytes 2 r.aux.toNat ++ bigBytes 1 r.priority.val

/-- The record as it is sent: RECORD_A, RECORD_B and RECORD_C in a row, with its CRC-16 (R89). -/
def framedRec (type : Nat) (r : Rec) : Rec :=
  { r with blocks := [0x20, 0x21, 0x22], consecutive := true, flagged := false, crc := crc16 (recBytes type r) }

/-- The record came whole (R89, R90, R93): its three blocks of listed types, consecutive, none flagged, and the CRC-16 right. -/
def recIntact (type : Nat) (r : Rec) : Bool :=
  r.blocks == [0x20, 0x21, 0x22] && r.consecutive && !r.flagged && r.crc == crc16 (recBytes type r)

/-- The three control blocks of a record (R89). -/
def recBlocks (type : Nat) (r : Rec) : List (List Byte) :=
  let b := recBytes type r
  [0x20 :: b.take 7, 0x21 :: (b.drop 7).take 7, 0x22 :: (b.drop 14 ++ bigBytes 2 r.crc.toNat ++ [0, 0])]

/-- Bytes 0 to 58 of a round header (R121). -/
def headBytes (h : Header) : List Byte :=
  bigBytes 1 h.version.toNat ++ bigBytes 1 (h.port.val * 64 + bitAt h.addrValid 5 + h.roles.toNat * 2) ++ bigBytes 2 h.sender.toNat ++
  bigBytes 8 h.postmark.toNat ++ bigBytes 2 h.epoch.toNat ++ bigBytes 2 h.master.toNat ++ bigBytes 1 h.distance.toNat ++
  bigBytes 1 h.tstate.val ++ bigBytes 1 h.ringSize.val ++ [0] ++ bigBytes 2 h.creditAssured.toNat ++ bigBytes 2 h.creditRegistered.toNat ++
  bigBytes 2 h.creditBulk.toNat ++ bigBytes 1 (bitAt h.sheetRate 7 + h.sheetMask.toNat) ++ [0] ++ bigBytes 2 h.slotsIso.toNat ++
  bigBytes 2 h.slotsAssured.toNat ++ bigBytes 2 h.slotsRegistered.toNat ++ bigBytes 2 h.slotsBulk.toNat ++ bigBytes 4 h.sheetCrc.toNat ++
  bigBytes 2 h.break0.toNat ++ bigBytes 2 h.break1.toNat ++ bigBytes 2 h.break2.toNat ++ bigBytes 2 h.break3.toNat ++
  bigBytes 2 h.root.toNat ++ List.replicate 9 0

/-- The header with its CRC-32C over bytes 0 to 58 (R121). -/
def framedHeader (h : Header) : Header := { h with crc := crc32c (headBytes h) }

/-- The check of R122. -/
def headerCrcOk (h : Header) : Bool := h.crc == crc32c (headBytes h)

/-- The nine HEADER items of a round header (R120). -/
def headerItems (h : Header) : List (List Byte) :=
  let b := headBytes h ++ bigBytes 4 h.crc.toNat
  (List.range 9).map (fun i => 0x30 :: (b.drop (7 * i)).take 7)

/-- Bytes 0 to 17 of an envelope's header (R115). -/
def envBytes (e : Env) : List Byte :=
  bigBytes 1 (e.ver.val * 32 + e.type.val * 4 + e.cls.code) ++
  bigBytes 1 (e.colour.val * 64 + bitAt e.twin 5 + bitAt e.side 4 + bitAt e.turned 3 + bitAt e.first 2 + bitAt e.last 1 + e.hops.val / 256) ++
  bigBytes 1 e.hops.val ++ bigBytes 1 (e.seg.val * 32 + e.length.val / 256) ++ bigBytes 1 e.length.val ++ bigBytes 2 e.dstPc.toNat ++
  bigBytes 3 (e.dstBox.val * 4096 + e.dstInc.val) ++ bigBytes 2 e.srcPc.toNat ++ bigBytes 2 (e.kind.val * 4096 + e.srcBox.val) ++
  bigBytes 4 e.seqStamp.toNat

/-- An envelope as it leaves (R116, R117): header bytes 0 to 17 and the payload sealed with HOP_SEQ as additional data, the tag, and the
CRC-32C trailer over the ciphertext. `key` says which key and nonce seal it (R436). [Log entry 214: DESIGN CHOICE] -/
def sealEnvelope (key : List Nat) (e : Env) : List Byte :=
  let aad := bigBytes 2 e.hopSeq.toNat
  let plain := envBytes e ++ e.payload
  let text := (List.range plain.length).map (Config.cipherByte key aad plain)
  let body := text.take 18 ++ aad ++ bigBytes 12 (Config.cipherTag key aad plain).toNat ++ text.drop 18
  body ++ bigBytes 4 (crc32c body).toNat

end Machine
end Sys2Proof
end

