-- ==== Sys2Proof/Machine/Messages.lean ====
section
/-!
DEFINITION. Receipts (R341), notices (R360), command packets (R339), command-book entries (R347) and the messages of box 0 (R358) as
bytes. Receipts, notices, packets and entries are little-endian, the fields of box 0 messages most significant byte first (R6).
-/
namespace Sys2Proof
namespace Machine

/-- A receipt's 16 header bytes with the CRC field given (R341). -/
def Receipt.head (r : Receipt) (crc : Nat) : List Byte :=
  leBytes 2 r.opcode ++ leBytes 2 r.tag ++ leBytes 4 r.hostSeq ++ leBytes 1 r.status.code ++
  leBytes 1 (bitAt r.reissued 0 + bitAt r.remote 1 + bitAt r.stale 2 + bitAt r.noEffect 3 + bitAt r.cut 4 + bitAt r.phase 7) ++
  leBytes 2 (16 + r.data.length) ++ leBytes 4 crc

/-- A receipt as bytes (R341). -/
def Receipt.bytes (r : Receipt) : List Byte := r.head (crc32c (r.head 0 ++ r.data)).toNat ++ r.data

/-- The fields of a notice's body that are rounds or postmarks, of 8 bytes (R114, R174, R230, R423). -/
def wideField (code i : Nat) : Bool :=
  (code == 0x8022 && i == 3) || (code == 0x8041 && i == 2) || (code == 0x8061 && i == 2) || (code == 0x80C1 && i == 0)

/-- A notice's body: R362 gives the bytes of the first three codes. Of the others the spec lists the fields and no widths; the model writes
rounds and postmarks in 8 bytes and the rest in 4. [Log entry 25: DESIGN CHOICE] -/
def noticeBody (code : Nat) (b : List Nat) : List Byte :=
  let v := fun (i : Nat) => (b[i]?).getD 0
  if code = 0x8000 then leBytes 1 (v 0) ++ [0] ++ leBytes 2 (v 1) ++ leBytes 4 (v 2)
  else if code = 0x8001 then leBytes 1 (v 0) ++ [0] ++ leBytes 2 (v 1) ++ leBytes 8 (v 2)
  else if code = 0x8002 then leBytes 1 (v 0) ++ leBytes 1 (v 1) ++ [0, 0] ++ leBytes 8 (v 2) ++ leBytes 4 (v 3)
  else b.zipIdx.flatMap (fun x => leBytes (if wideField code x.2 then 8 else 4) x.1)

/-- A notice as bytes (R360): the receipt header, then POSTMARK, SRC_PC and the body. -/
def Notice.bytes (n : Notice) : List Byte :=
  let r : Receipt :=
    { opcode := n.code, tag := 0, hostSeq := n.number, status := .ok, reissued := false, remote := false, stale := false,
      noEffect := false, cut := false, phase := false,
      data := leBytes 8 n.postmark ++ leBytes 2 n.srcPc ++ leBytes 2 0 ++ noticeBody n.code n.body }
  r.bytes

/-- Parameters of STAGE (R364). -/
def stageParams (set flags : Byte) (entries : List StageEntry) : List Byte :=
  [set, flags] ++ leBytes 2 entries.length ++
  entries.flatMap (fun e => leBytes 4 e.address.toNat ++ leBytes 4 e.mask.toNat ++ leBytes 4 e.value.toNat)

/-- A POLICY record (R404). -/
def policyBytes (x : PdPolicy) : List Byte :=
  leBytes 1 (bitAt x.sourceEn 0 + bitAt x.acceptPrSwap 1 + bitAt x.override_ 2 + x.res0.toNat * 8) ++ [x.maxW, x.priority, x.res3] ++
  leBytes 4 x.pdo0.toNat ++ leBytes 4 x.pdo1.toNat ++ leBytes 4 x.pdo2.toNat ++ leBytes 4 x.pdo3.toNat ++ leBytes 8 x.res20.toNat

/-- A command packet's header (R339), with its opcode. -/
def cmdHdrBytes (h : CmdHdr) (op : Nat) : List Byte :=
  leBytes 2 op ++ leBytes 2 h.tag.toNat ++ leBytes 4 h.hostSeq.toNat ++ leBytes 2 h.length.val ++ leBytes 2 h.dstPc.toNat ++
  leBytes 1 (h.route.val + h.port.val * 4 + bitAt h.resync 4) ++ [1] ++ leBytes 2 h.timeoutMs.toNat ++ List.replicate 12 0 ++
  leBytes 4 h.crc.toNat

/-- The header of a book entry's command as received (R339, R347). -/
def BookEntry.header (e : BookEntry) : List Byte :=
  leBytes 2 e.opcode ++ leBytes 2 e.tag ++ leBytes 4 e.hostSeq ++ leBytes 2 e.length ++ leBytes 2 e.dstPc ++
  leBytes 1 (e.route + e.port * 4 + bitAt e.resync 4) ++ [1] ++ leBytes 2 e.timeoutMs ++ List.replicate 12 0 ++ leBytes 4 e.crc

/-- A command-book entry as the 256 bytes of MRAM (R347). -/
def BookEntry.bytes (e : BookEntry) : List Byte :=
  let data := (if e.state = .running then e.params else e.data).take 196
  let b := leBytes 1 ((if e.state = .running then 1 else 2) + bitAt e.body 2 + bitAt e.relayed 3 + bitAt e.delivered 4) ++ leBytes 1 e.path ++
    leBytes 2 e.originPc ++ leBytes 1 e.originPath ++ leBytes 1 e.status.code ++ leBytes 2 data.length ++ e.header ++
    leBytes 8 e.enteredAt ++ leBytes 8 e.doneAt ++ data ++ List.replicate (196 - data.length) 0
  b ++ leBytes 4 (crc32c b).toNat

/-- A message of box 0 as bytes (R358). -/
def Box0Msg.bytes : Box0Msg → List Byte
  | .command again path packet => [0x01] ++ bigBytes 1 (bitAt again 0) ++ bigBytes 1 path ++ [0] ++ packet
  | .receipt path r => [0x02, 0] ++ bigBytes 1 path ++ [0] ++ r.bytes
  | .notice n => [0x03, 0, 0, 0] ++ n.bytes
  | .openRequest kind cls direction nearBox nearInc farBox min ceil weight priority =>
    [0x10] ++ bigBytes 1 kind ++ bigBytes 1 cls ++ bigBytes 1 direction ++ bigBytes 2 nearBox ++ bigBytes 2 nearInc ++ bigBytes 2 farBox ++
    bigBytes 2 min ++ bigBytes 2 ceil ++ bigBytes 1 weight ++ bigBytes 1 priority
  | .openAnswer status farBox farInc nearBox nearInc farFlow =>
    [0x11] ++ bigBytes 1 status ++ bigBytes 2 farBox ++ bigBytes 2 farInc ++ bigBytes 2 nearBox ++ bigBytes 2 nearInc ++ bigBytes 2 farFlow
  | .closeRequest box inc sender => [0x12, 0] ++ bigBytes 2 box ++ bigBytes 2 inc ++ bigBytes 2 sender
  | .drainCount box held => [0x13, 0] ++ bigBytes 2 box ++ bigBytes 2 held

end Machine
end Sys2Proof
end

