-- ==== Sys2Proof/Machine/StateRound.lean ====
section
/-!
DEFINITION. The state of the round timer, the master's election and the swap (R43 to R82) that no feature register shows.
STATE, EPOCH, PARENT, DISTANCE, the successors seen and the counters stand in the register file.
-/
namespace Sys2Proof
namespace Machine

/-- What the hub holds of the last header of one trunk port for R58 to R61: boundaries passed since it arrived, its fields,
the sender, whether it gave a sample or lay in the window where one applied, and whether it came in the last part of a round, for the
boundary to come. -/
structure PortHdr where
  age : Nat
  epoch : Nat
  master : Nat
  distance : Nat
  tstate : Nat
  sender : Nat
  inWindow : Bool
  early : Bool
deriving DecidableEq, Repr

/-- The delay measurement of one port (R57): the sequence number, the send time of the ask under way and up to 8 accepted
samples, newest first. -/
structure DelaySt where
  seq : Nat
  asked : Option Nat
  samples : List Int
deriving DecidableEq, Repr

/-- The identity of a flooded record (R51). -/
structure RecId where
  type : Nat
  epoch : Nat
  round : Nat
  origin : Nat
deriving DecidableEq, Repr

/-- A record the hub sends at its next boundary. -/
structure RecOut where
  type : Nat
  epoch : Nat
  round : Nat
  subject : Nat
  aux : Nat
deriving DecidableEq, Repr

/-- A beat received by the collection mark of its round (R64): its round, its epoch and its originator. -/
structure BeatSeen where
  round : Nat
  epoch : Nat
  origin : Nat
deriving DecidableEq, Repr

/-- The steps of a swap (R70): what a party waits for next. -/
inductive SwapPhase
  | requestDue | awaitAgree | agreeDue | goDue | awaitGo | readyDue | awaitReady | awaitE
deriving DecidableEq, Repr

/-- A swap under way at a party of it (R70 to R75): its own part, the mode, the peer, the phase, the round of the phase, the
round E and epoch of GO, and the command to answer, by its entry and HOST_SEQ. -/
structure Swap where
  asMaster : Bool
  offer : Bool
  peer : Nat
  peerPri : Nat
  phase : SwapPhase
  round : Nat
  e : Nat
  epoch : Nat
  cmd : Option (Nat × Nat)
deriving DecidableEq, Repr

/-- A GO accepted for its round E (R71): the new master, epoch, deputy and reserve. -/
structure GoSeen where
  e : Nat
  epoch : Nat
  master : Nat
  deputy : Nat
  reserve : Nat
deriving DecidableEq, Repr

/-- A master accepted for the next boundary (R63): its epoch, postcode and priority, and whether by a TAKEOVER. -/
structure Accepted where
  epoch : Nat
  master : Nat
  pri : Nat
  takeover : Bool
deriving DecidableEq, Repr

/-- The round timer of R44 and what R53 to R75 keep: L, i and p in 1/65,536 core clock; the floor of R53; the numbers MRAM
holds; `lNext`, the L that a sample of this round gave for the next (R59, R76); header, delay and flood records; beats; the swap; the round of the MRAM write; the mark of the round reached last
(0 boundary, 1 collection, 2 seal). `missedHdrs` counts the parent's headers missing in a row, `hdrParent` is the parent of the boundary just past (3: none), `missed` the beats missed in a
row; `heard` says that a valid beat has come since the last collection mark (R53); `known` holds, by port, the epoch that the neighbour
is known to have accepted and the boundaries passed since (R63); `atFloor` says that the hub counts from its floor
since start-up (R53); `named` are the deputy and reserve a new master names in place of its register (R67, R71). [Log entry 48: DEDUCED] -/
structure RoundSt where
  running : Bool
  round : Nat
  ns : Nat
  mark : Nat
  l : Nat
  lNext : Option Nat
  i : Int
  p : Int
  floor : Nat
  atFloor : Bool
  epochFloor : Nat
  storedRound : Nat
  storedEpoch : Nat
  storedAge : Nat
  hdrs : List (Nat × PortHdr)
  delays : List (Nat × DelaySt)
  flooded : List RecId
  sends : List RecOut
  beats : List BeatSeen
  missed : Nat
  missedHdrs : Nat
  hdrParent : Nat
  silent : Nat
  heard : Bool
  known : List (Nat × (Nat × Nat))
  stepped : Bool
  pullIn : Bool
  goodRounds : Nat
  badRounds : Nat
  stateRounds : Nat
  accepted : Option Accepted
  go : Option GoSeen
  swap : Option Swap
  swapRetry : Nat
  raise : Nat
  claimAux : Option Nat
  takeover : Bool
  masterKnown : Bool
  masterPri : Nat
  named : Option (Nat × Nat)
  cancelDue : Option Nat
deriving DecidableEq, Repr

/-- The round state with the timer stopped and nothing held. [Log entry 5: DESIGN CHOICE] -/
def RoundSt.init : RoundSt :=
  { running := false, round := 0, ns := 0, mark := 0, l := 125000 * 65536, lNext := none, i := 0, p := 0, floor := 16000, atFloor := true, epochFloor := 0,
    storedRound := 0, storedEpoch := 0, storedAge := 0, hdrs := [], delays := [], flooded := [], sends := [], beats := [],
    missed := 0, missedHdrs := 0, hdrParent := 3, silent := 0, heard := false, known := [], stepped := false, pullIn := false, goodRounds := 0, badRounds := 0, stateRounds := 0,
    accepted := none, go := none, swap := none, swapRetry := 0, raise := 0, claimAux := none, takeover := false,
    masterKnown := false, masterPri := 0, named := none, cancelDue := none }

end Machine
end Sys2Proof
end

