-- ==== Sys2Proof/Machine/Out.lean ====
section
/-!
DEFINITION. What the hub puts on its links, paths and pins, one constructor per kind of message. The list of them in State
is the model's own record of the hub's outputs (notes/assumptions/3.md).
-/
namespace Sys2Proof
namespace Machine

/-- [Log entries 3: DESIGN CHOICE, 196: DESIGN CHOICE] -/
inductive Out
  /-- A round-control record sent on a trunk port (R49, R51). -/
  | record (p : PortId) (type : Nat) (r : Rec)
  /-- A DELAY_ASK or DELAY_ANSWER (R57). -/
  | delay (p : PortId) (answer : Bool) (seq turnaround : Nat)
  /-- A round header (R120). -/
  | header (p : PortId) (h : Header)
  /-- A pulse of RND_PULSE of so many nanoseconds (R78). -/
  | pulse (ns : Nat)
  /-- A receipt handed to a local path (R341): a completion entry, EP1 IN or the management target. -/
  | receipt (path : Nat) (r : Receipt)
  /-- An interrupt raised at the PF0 host, by its vector (R351, R353, R361). -/
  | interrupt (vector : Nat)
  /-- A notice placed on a path: 64 service port, 65 management target, 67 the PF0 ring (R361). -/
  | notice (path : Nat) (n : Notice)
  /-- Bytes returned to a reader: EP0 IN data, a management-target read, AUX data; on 256 + q, bytes 8 to 15 of a PF1 receive descriptor of
  queue pair q (R287). -/
  | bytes (path : Nat) (bs : List Byte)
  /-- A value returned to a register reader. -/
  | value (address : Nat) (v : Word)
  /-- The status of a direct register write. -/
  | writeStatus (address : Nat) (st : Status)
  /-- A transfer answered with STALL, a NACK or held, on a path, with the status recorded in LAST_REJECT. -/
  | refused (path : Nat) (st : Status)
  /-- A packet held at a path that does not accept packets yet (R349). -/
  | held (path : Nat)
  /-- Blocks 0 and 1 of a codeword group sent on a lane of a trunk port (R85, R87, R88): the GROUP_MARK's TX_MASK, RATE, MASK_NEW and
  GROUP_COUNT, and the lane message: TYPE 0x01 FILL, 0x10 TRAIN, 0x11 TAP_REQ, 0x12 TAP_ACK, 0x13 WIDTH_REQ, 0x14 LANE_POWER, with its fields. -/
  | group (p : PortId) (lane mask : Nat) (rate maskNew : Bool) (count type : Nat) (fields : List Nat)
  /-- A step of a trunk module's management (R108): 1 its identifier and applications are read, 2 an application is selected and low power
  released, 3 it is polled, 4 it is left in low power. -/
  | module (p : PortId) (what : Nat)
  /-- An envelope put on a trunk port (R115 to R117), with its header and payload before sealing, the 48-bit counter it is sealed under, the
  lane of TX_MASK its ENV_START goes on (R86), and its bytes on the line. -/
  | envelope (p : PortId) (e : Env) (counter lane : Nat) (wire : List Byte)
  /-- A bridge message sent into the tunnel of a box (R319, R320). -/
  | bridge (box : Nat) (msg : List Byte)
  /-- A frame handed to a station block or a host function: switch port, sub-port, and its bytes: a unit's payload (R195), or a mirror copy
  from its destination address on (R201). -/
  | frame (port sub : Nat) (bytes : List Byte)
  /-- A frame under way to a station block or a host function ended with its protocol's error mark (R460). -/
  | brokenFrame (port sub : Nat)
  /-- A registered message handed to its delivery point: near box, source, sequence, payload (R244). -/
  | deliver (box srcPc srcBox seq : Nat) (payload : Payload)
  /-- A message on a station bus: switch port, bus or sub-port, kind, fields. -/
  | bus (port sub kind : Nat) (fields : List Nat)
  /-- A USB PD message or signal on a PD port, by name, with its supplies as (mV, mA) (R391, R393). -/
  | pd (port : Nat) (msg : String) (supplies : List (Nat × Nat))
  /-- A VBUS source's setting of a PD port: enabled, millivolts (R395). -/
  | vbus (port : Nat) (on : Bool) (mv : Nat)
  /-- The gate of a power path, commanded on or off (R379). -/
  | gate (input : Nat) (on : Bool)
deriving DecidableEq, Repr

end Machine
end Sys2Proof
end

