-- ==== Sys2Proof/Machine/StateBridge.lean ====
section
/-!
DEFINITION. The field bus bridge (R316 to R338): transmit and hold queues, the bus in a registered transaction, master queues,
fetches, held values, CONFIRMED writes and read-ahead shapes. Routes, ranges and binds stand in the register file.
-/
namespace Sys2Proof
namespace Machine

/-- A CAN frame that waits for its bus (R322). -/
structure CanTx where
  box : Nat
  frame : CanFrame
deriving DecidableEq, Repr

/-- A refused CAN offer that is held (R323), with its frame's number on the bus (R237). -/
structure HeldCan where
  box : Nat
  payload : List Byte
  frame : Nat
  since : Nat
deriving DecidableEq, Repr

/-- A CAN bus: its transmit queue, the registered message it is transmitting (box and sequence), its hold queue, and whether
HOLD_DROPPED was told this round. -/
structure CanBus where
  queue : List CanTx
  reg : Option (Nat × Nat)
  hold : List HeldCan
  told : Bool
deriving DecidableEq, Repr

def CanBus.init : CanBus := ⟨[], none, [], false⟩

/-- The order of a master bus (R330). -/
inductive MbClass | registered | confirmed | posted | read | ahead
deriving DecidableEq, Repr

/-- A message at a master bus: its box, class, sequence where registered, and the repeats issued. -/
structure MbTx where
  box : Nat
  cls : MbClass
  seq : Option Nat
  msg : ModbusMsg
  tries : Nat
deriving DecidableEq, Repr

/-- A master bus: its queue and the transaction under way. -/
structure MasterBus where
  queue : List MbTx
  cur : Option MbTx
deriving DecidableEq, Repr

def MasterBus.init : MasterBus := ⟨[], none⟩

/-- What a read piece names at the far bus (R225, R329): bind, far unit, table, address, count. -/
structure Piece where
  bind : Nat
  farUnit : Nat
  table : Nat
  address : Nat
  count : Nat
deriving DecidableEq, Repr

/-- A fetch in flight (R328): its TAG, piece, whether read ahead, the postmark and generation of its start, whether a write to an
overlapping address has been issued since, and the round of its start. -/
structure Fetch where
  tag : Nat
  piece : Piece
  ahead : Bool
  start : Nat
  gen : Nat
  written : Bool
  since : Nat
deriving DecidableEq, Repr

/-- What an answer holds: values, or the exception the next matching read receives; `late` where no answer came in time (R328). -/
inductive Held
  | values (bs : List Byte)
  | exception (code : Nat)
  | late
deriving DecidableEq, Repr

/-- A held value (R225, R328). `used` says that it has answered a request. -/
structure HeldValue where
  piece : Piece
  held : Held
  ahead : Bool
  start : Nat
  gen : Nat
  written : Bool
  used : Bool
deriving DecidableEq, Repr

/-- A CONFIRMED write (R327): its TAG, the bus and request it is for, the far piece it writes, its result as the code of R320 once
there is one, and the round of its start or result. -/
structure Confirm where
  tag : Nat
  bus : Nat
  req : ModbusReq
  piece : Piece
  result : Option Nat
  since : Nat
deriving DecidableEq, Repr

/-- A read-ahead shape of a range (R329): its piece, the round its last read arrived, and whether the read-ahead of that read has
been sent. -/
structure Shape where
  range : Nat
  piece : Piece
  lastRead : Nat
  sent : Bool
deriving DecidableEq, Repr

/-- The bridge. `frames` counts the frames each bus has received (ORIGIN_SEQ); `answers` are Registry entries whose acceptance a local
master's answer awaits: bus, unit and function. -/
structure BridgeSt where
  can : List (Nat × CanBus)
  master : List (Nat × MasterBus)
  fetches : List Fetch
  values : List HeldValue
  confirms : List Confirm
  shapes : List Shape
  nextTag : Nat
  frames : List (Nat × Nat)
  answers : List (Nat × (Nat × Nat × Nat))
deriving DecidableEq, Repr

def BridgeSt.init : BridgeSt := ⟨[], [], [], [], [], [], 1, [], []⟩

end Machine
end Sys2Proof
end

