-- ==== Sys2Proof/Machine/StateEngine.lean ====
section
/-!
DEFINITION. The carrier engines (R207 to R230): contexts with their items, slice tables and rotations.
-/
namespace Sys2Proof
namespace Machine

/-- An item of a context (R210, R217): the round and nanosecond it arrived, the engine firmware's estimate in slices, the
boundaries it has crossed, and whether work on it has begun. [Log entry 100: DESIGN CHOICE] -/
structure Item where
  round : Nat
  ns : Nat
  estimate : Nat
  crossed : Nat
  begun : Bool
deriving DecidableEq, Repr

/-- A context (R208), by global number: its box, kind, items in order, the demand last sampled, the round of the last ITEM_ABANDONED notice,
the estimates of the items that have arrived in the round (R212), and the boundaries until it may own slices (R215). -/
structure Context where
  box : Nat
  kind : Kind
  items : List Item
  demand : Nat
  told : Option Nat
  arrived : Nat
  wait : Nat
deriving DecidableEq, Repr

/-- A dealt slice: context index within the engine and GRANT (0 fixed, 1 borrowed). A table is its dealt slices in order of
j; entry (191 j) mod 500 is the j-th (R213). -/
abbrev SliceTable := List (Nat × Nat)

/-- One engine: the table in force and the one sealed, the speculative one (R215), the contexts of the last leftover and of the last yield,
the slice in progress and the context it serves, slices worked this round, the bytes in its outbox and the frames there that are ready to go
(R218), the rounds of its faults, contexts to be placed again, and whether a table has been in force since CORE's power-up (R228). -/
structure EngineSt where
  table : SliceTable
  next : Option SliceTable
  spec : SliceTable
  leftover : Nat
  yielded : Nat
  slice : Nat
  serving : Option Nat
  worked : Nat
  outbox : Nat
  frames : List UnitIn
  faults : List Nat
  replace : Bool
  live : Bool
deriving DecidableEq, Repr

def EngineSt.init : EngineSt := ⟨[], none, [], 255, 255, 0, none, 0, 0, [], [], false, false⟩

/-- Contexts by global number, engines by number, bytes of the P9 budget used this round and the engine served last (R218); the hub's own
units that wait for P8 or P9, box 0 messages, registered envelopes and bridge frames (R24, R218), each with the trunk port a box 0 message must
leave by under ROUTE 2 (R357), and the frame number of the next box 0 message. -/
structure EngSt where
  contexts : List (Nat × Context)
  engines : List (Nat × EngineSt)
  p9Used : Nat
  p9Last : Nat
  pmOut : List (Option PortId × UnitIn)
  pmSeq : Nat
deriving DecidableEq, Repr

def EngSt.init : EngSt := ⟨[], [], 0, 15, [], 0⟩

end Machine
end Sys2Proof
end

