-- ==== Sys2Proof/Machine/StateTunnel.lean ====
section
/-!
DEFINITION. Boxes (R145), flow records (R151, R152), round sheets (R155) and what each trunk direction keeps of them.
-/
namespace Sys2Proof
namespace Machine

/-- Box states of R145. -/
inductive BoxState | free | opening | opened | draining
deriving DecidableEq, Repr

def BoxState.code : BoxState → Nat | .free => 0 | .opening => 1 | .opened => 2 | .draining => 3

/-- A forwarding record (R149): the incarnation it is for, and the address. -/
structure Forward where
  inc : Nat
  pc : Nat
  box : Nat
  fwdInc : Nat
deriving DecidableEq, Repr

/-- The two-rate meter of R165, in bytes. -/
structure Meter where
  g : Nat
  y : Nat
deriving DecidableEq, Repr

/-- A box that has ever been opened or holds a record (R145 to R149). `near` says that this end issued the open; `since` is
the round in which its state began; `farHeld` is the HELD count last reported by the far end, and
`told` says that this end has reported 0 (R253); `closeLost` says that the close request found no route (R148); `frames` numbers the frames of an ASSURED or BULK tunnel (R115), and `bulkBytes` counts the payload of
the round of a BULK tunnel within the hub (R165). -/
structure Box where
  state : BoxState
  inc : Nat
  fwd : Option Forward
  peerPc : Nat
  peerBox : Nat
  peerInc : Nat
  kind : Kind
  cls : SvcClass
  twoWay : Bool
  near : Bool
  min : Nat
  ceil : Nat
  weight : Nat
  priority : Nat
  flow : Option Nat
  meter : Option Meter
  since : Nat
  farHeld : Option Nat
  told : Bool
  closeLost : Bool
  frames : Nat
  bulkBytes : Nat
deriving DecidableEq, Repr

/-- A box never opened. -/
def Box.init : Box :=
  { state := .free, inc := 0, fwd := none, peerPc := 0, peerBox := 0, peerInc := 0, kind := .mgmt, cls := .bulk, twoWay := false,
    near := false, min := 0, ceil := 0, weight := 0, priority := 0, flow := none, meter := none, since := 0, farHeld := none,
    told := false, closeLost := false, frames := 0, bulkBytes := 0 }

/-- Allotment parameters (R157). -/
structure Allot where
  min : Nat
  ceil : Nat
  weight : Nat
  priority : Nat
deriving DecidableEq, Repr

/-- A flow record (R151, R152). `next` are parameters that take force at the next boundary; `kind` is 7 until an envelope has
matched a pass record; `isoBytes` counts the coloured payload of the round (R165); `shed` are the ports on which a run of the
flow is shed now. -/
structure Flow where
  cls : SvcClass
  kind : Nat
  origin : Bool
  box : Nat
  srcPc : Nat
  srcBox : Nat
  dstPc : Nat
  dstBox : Nat
  dstInc : Nat
  allot : Allot
  next : Option Allot
  demand : Nat
  dropped : Nat
  meter : Meter
  isoBytes : Nat
  shed : List Nat
  removing : Bool
deriving DecidableEq, Repr

/-- A run of a sheet (R155): GRANT 0 fixed, 1 alternate, 2 borrowed, 3 scaled. -/
structure Run where
  owner : Nat
  cls : SvcClass
  grant : Nat
  first : Nat
  count : Nat
deriving DecidableEq, Repr

/-- A round sheet (R155). -/
structure Sheet where
  round : Nat
  port : Nat
  full : Bool
  gated : Bool
  mask : Nat
  cap : Nat
  runs : List Run
deriving DecidableEq, Repr

/-- The sheet of a direction without capacity. -/
def Sheet.init (port : Nat) : Sheet := ⟨0, port, false, false, 0, 0, []⟩

/-- A round that runs short (R168): the last slot finished from before, `none` where the round is short from its boundary;
t_c; the slots still carried. -/
structure Short where
  last : Option Nat
  tc : Nat
  n : Nat
deriving DecidableEq, Repr

/-- One trunk direction: the sheet in force, the one sealed for the next round, the speculative one of R166, the round's
shortness, the demand of the aggregates (R160), payload bytes that joined each owner's queue this round, the grant the round
runs under with its cells used, and the place of the rotation of R163. -/
structure DirSt where
  sheet : Sheet
  next : Option Sheet
  spec : Option Sheet
  short : Option Short
  dReg : Nat
  dMgmt : Nat
  dTransit : Nat
  joined : List (Nat × Nat)
  grantA : Nat
  grantR : Nat
  grantB : Nat
  usedA : Nat
  usedR : Nat
  usedB : Nat
  nextA : Nat
  nextR : Nat
  nextB : Nat
  rotation : Nat
deriving DecidableEq, Repr

def DirSt.init (port : Nat) : DirSt :=
  { sheet := Sheet.init port, next := none, spec := none, short := none, dReg := 0, dMgmt := 0, dTransit := 0, joined := [],
    grantA := 512, grantR := 512, grantB := 0, usedA := 0, usedR := 0, usedB := 0, nextA := 512, nextR := 512, nextB := 0,
    rotation := 0 }

/-- Boxes by number, flow records by index, and the three trunk directions. -/
structure TunSt where
  boxes : List (Nat × Box)
  flows : List (Nat × Flow)
  dirA : DirSt
  dirB : DirSt
  dirC : DirSt
deriving DecidableEq, Repr

def TunSt.init : TunSt := ⟨[], [], DirSt.init 0, DirSt.init 1, DirSt.init 2⟩

def TunSt.dir (t : TunSt) : PortId → DirSt
  | .a => t.dirA
  | .b => t.dirB
  | .c => t.dirC

def TunSt.setDir (t : TunSt) (p : PortId) (d : DirSt) : TunSt :=
  match p with
  | .a => { t with dirA := d }
  | .b => { t with dirB := d }
  | .c => { t with dirC := d }

end Machine
end Sys2Proof
end

