-- ==== Sys2Proof/Machine/StateLate.lean ====
section
/-!
DEFINITION. The state of the keeper's services and of the hub's life that no feature register shows: power paths (R377 to R389), USB
power (R390 to R404), power states (R409 to R417), key slots and letters (R423 to R446), memories and the recorder (R453 to R466),
resets and boot (R473 to R485).
-/
namespace Sys2Proof
namespace Machine

/-- A power path (R379 to R382): whether its input lies in the window, the FAULT_TIME that a timer started in RAMP keeps (R380), the tick at which it came
ON and that at which its cool-down ends, and ENERGY in units of one VIN LSB × one current LSB × 125 µs (1.5 nJ), with the value
MRAM holds (R389). -/
structure PathSt where
  inWindow : Bool
  faultTime : Option Nat
  onSince : Nat
  coolUntil : Nat
  energy : Nat
  stored : Nat
deriving DecidableEq, Repr

def PathSt.init : PathSt := ⟨false, none, 0, 0, 0, 0⟩

/-- Both paths and the bus-good comparator. -/
structure PowerSt where
  pathA : PathSt
  pathB : PathSt
  busGood : Bool
deriving DecidableEq, Repr

def PowerSt.init : PowerSt := ⟨PathSt.init, PathSt.init, false⟩

/-- A power role swap under way (R397 to R399): whether the hub asked for it, the role before it, and whether the Accept has
passed. -/
structure PdSwap where
  byHub : Bool
  wasSource : Bool
  accepted : Bool
deriving DecidableEq, Repr

/-- A PD port: the last offer as (mV, mA), the round it was sent in, whether the partner has requested within it, whether it was cut
below MAX_W, hard resets without answer, the ticks of its trips, a swap, whether the partner is dual-role, the policy's PDOs, a
policy that waits for the boundary, a transition under way (mV, mA), the end of its error recovery, what a source partner
offers at 5 V, in 10 mA units, the message ID last acknowledged and the retries of the message sent last (R394). -/
structure PdPort where
  offer : List (Nat × Nat)
  offerAt : Nat
  requested : Bool
  cut : Bool
  hardResets : Nat
  trips : List Nat
  swap : Option PdSwap
  dualRole : Bool
  pdos : List Word
  next : Option PdPolicy
  trans : Option (Nat × Nat)
  recoverAt : Nat
  partner : Nat
  lastId : Option Nat
  retries : Nat
deriving DecidableEq, Repr

def PdPort.init : PdPort := ⟨[], 0, true, false, 0, [], none, false, [], none, none, 0, 0, none, 0⟩

/-- PD ports by number; `fell` says that an allocation fell since the last boundary (R392). -/
structure PdSt where
  ports : List (Nat × PdPort)
  fell : Bool
deriving DecidableEq, Repr

def PdSt.init : PdSt := ⟨[], false⟩

/-- Power states (R409 to R417): rounds of the idle timer's current second, an attempt due, the round ENTERING began, the round of the
last DORMANT_REFUSED, domains whose enables are still to rise, the ticks at which enables fell (by domain bit), the tick DORMANT
began, and the hub ports that were SUSPENDED then (R415). -/
structure PsSt where
  idleRounds : Nat
  attempt : Bool
  entered : Nat
  refusedAt : Option Nat
  raise : List Domain
  lowered : List (Nat × Nat)
  dormantAt : Nat
  suspended : List Nat
deriving DecidableEq, Repr

def PsSt.init : PsSt := ⟨0, false, 0, none, [], [], 0, []⟩

/-- A key slot beside its SLOT_ATTR (R425, R426): EFFECTIVE_ROUND, the SEAL_COUNTER of the letter that loaded it, KCV, the public key, and
whether it was loaded during debug. -/
structure SlotSt where
  effective : Nat
  letter : Nat
  kcv : Nat
  pub : List Byte
  debug : Bool
deriving DecidableEq, Repr

def SlotSt.init : SlotSt := ⟨0, 0, 0, [], false⟩

/-- A letter that waits for its round (R432): its round, its SEAL_COUNTER and what it does. OP 0 load, 1 erase, 2 policy. -/
structure LetterDue where
  round : Nat
  letter : Nat
  op : Nat
  kind : Nat
  dest : Nat
  kcv : Nat
  pub : List Byte
  policy : Nat
  debug : Bool
deriving DecidableEq, Repr

/-- The keeper's security state: slots by number, waiting letters by slot (64 the policy), link keys that changed and the round their
old key goes (R440), the times of SEAL_INVALID and the end of the lockout (R431), how often slot 1 has been generated, the pipes
that failed their last self-test (R439), the entry whose zeroisation is under way (its key, or 512 where it resumed at a start). -/
structure SecSt where
  slots : List (Nat × SlotSt)
  due : List (Nat × LetterDue)
  oldKeys : List (Nat × Nat)
  invalid : List Nat
  lockUntil : Nat
  generation : Nat
  pipesFailed : Nat
  zeroising : Option Nat
  zeroised : Bool
deriving DecidableEq, Repr

def SecSt.init : SecSt := ⟨[], [], [], [], 0, 0, 0, none, false⟩

/-- The memories (R455 to R461): revisit lists, words written back since their last visit, ticks of a cell's uncorrectable error,
MEMORY_ERRORs told this round, POSITION and PASSES of each pass, flow records waiting for their reload, boxes and paths whose
dual records were lost, whether the stored round was, the tick each pass began and those counted late (R457), and the corrections of the
second under way in memories 0 to 6 and in MRAM (R464). -/
structure MemSt where
  revisit : List (Nat × Nat)
  written : List (Nat × Nat)
  cells : List (Nat × Nat)
  told : Nat
  position : List (Nat × Nat)
  passes : List (Nat × Nat)
  flows : List (Nat × Flow)
  boxes : List Nat
  paths : List Nat
  roundLost : Bool
  passSince : List (Nat × Nat)
  late : List Nat
  fixedCore : Nat
  fixedMram : Nat
deriving DecidableEq, Repr

def MemSt.init : MemSt := ⟨[], [], [], 0, [], [], [], [], [], false, [], [], 0, 0⟩

/-- An extreme (R466): its value, the operating seconds, power cycle and postmark of its record. -/
structure Extreme where
  value : Int
  atS : Nat
  atCycle : Nat
  atMark : Nat
deriving DecidableEq, Repr

/-- A histogram: operating seconds at its last clearing and its bins. -/
structure Hist where
  clearedS : Nat
  bins : List (Nat × Nat)
deriving DecidableEq, Repr

/-- What the recorder holds of histograms and extremes, with the seconds recorded. -/
structure RecData where
  hists : List (Nat × Hist)
  extremes : List (Nat × Extreme)
  seconds : Nat
deriving DecidableEq, Repr

def RecData.init : RecData := ⟨[], [], 0⟩

/-- What a source has given in the second under way (R464): how many values, their sum, the least and the largest, and whether one was
invalid. -/
structure SrcAcc where
  count : Nat
  sum : Int
  low : Int
  high : Int
  bad : Bool
deriving DecidableEq, Repr

/-- The recorder (R462 to R466): operating seconds, what MRAM holds, and while frozen what it will hold after the thaw, with the
postmark, tick and operating seconds of the freeze, and by source what the second under way has given. -/
structure RecorderSt where
  seconds : Nat
  data : RecData
  waiting : Option RecData
  frozenMark : Nat
  frozenAt : Nat
  frozenSeconds : Nat
  second : List (Nat × SrcAcc)
deriving DecidableEq, Repr

def RecorderSt.init : RecorderSt := ⟨0, RecData.init, none, 0, 0, 0, []⟩

/-- A reset asked for the next boundary (R475): KIND and CAUSE. -/
structure ResetDue where
  kind : Nat
  cause : Nat
deriving DecidableEq, Repr

/-- The hub's life (R473 to R485). `ticks` counts periods of 125 µs, by boundaries while CORE runs and by keeper samples while it is
off. `keep` says that VDD_KEEP is up, `released` that the keeper runs and `tested` that its self-tests have ended (R476). `waits` names
what CORE waits for while it is removed, as fault codes of R483, `since` the tick of its supply fault. `slot` is the slot being
read, `failed` those that failed at this boot, `vid` the SVC_VID of the last image that booted. `testImage` says that IMAGE holds
one that only the test root verifies, `testNext` that one is to be loaded at the postmaster's restart, `testVersion` and `testNo` its
version and number; `version` and `image` are those of the image of the running slot, numbered for the free value of its digest.
`fallback` is the failed slot and check that FW_FALLBACK tells once the paths accept packets (R481, R491). `pmFaults` and `bigFaults`
are ticks of resets that R484 counts; `startDue` a HUB_STARTED to send; `held` says RESET_N holds the hub. -/
structure BootSt where
  ticks : Nat
  keep : Bool
  released : Bool
  tested : Bool
  due : Option ResetDue
  held : Bool
  waits : List Nat
  since : Nat
  slot : Nat
  failed : List Nat
  vid : Nat
  testImage : Bool
  testNext : Bool
  testVersion : Nat
  testNo : Nat
  version : Nat
  image : Nat
  fallback : Option (Nat × Nat)
  reloading : Bool
  trialSince : Nat
  pmFaults : List Nat
  bigFaults : List Nat
  safe : Bool
  safeSince : Nat
  skDownSince : Nat
  startDue : Bool
deriving DecidableEq, Repr

/-- [Log entry 5: DESIGN CHOICE] -/
def BootSt.init : BootSt :=
  { ticks := 0, keep := false, released := false, tested := false, due := none, held := false, waits := [], since := 0, slot := 0,
    failed := [], vid := 0, testImage := false, testNext := false, testVersion := 0, testNo := 0, version := 0, image := 0, fallback := none, reloading := false, trialSince := 0, pmFaults := [],
    bigFaults := [], safe := false, safeSince := 0, skDownSince := 0, startDue := false }

end Machine
end Sys2Proof
end

