-- ==== Sys2Proof/Machine/StateLink.lean ====
section
/-!
DEFINITION. The state of the trunk ports below and above the lane layer (R83 to R143) that no feature register shows.
-/
namespace Sys2Proof
namespace Machine

/-- A segmented frame part received on a trunk port (R118, R119): its identity and the last segment held. -/
structure PartFrame where
  srcPc : Nat
  srcBox : Nat
  seqStamp : Nat
  seg : Nat
deriving DecidableEq, Repr

/-- The module on a trunk port (R108): transactions failed in a row, whether the hub holds it in low power, the applications
advertised and the data last polled. -/
structure ModuleSt where
  fails : Nat
  lowPower : Bool
  full : Bool
  half : Bool
  data : List Byte
deriving DecidableEq, Repr

/-- A change of TX_MASK fixed for a boundary (R102, R105). -/
structure MaskAt where
  round : Nat
  mask : Nat
  restore : Bool
deriving DecidableEq, Repr

def ModuleSt.init : ModuleSt := ⟨0, true, false, false, []⟩

/-- A lane message pending on a lane (R88): its TYPE as in `Out.group`, its fields, and the groups it still goes out in, 0 until it is
withdrawn. -/
structure LaneMsg where
  lane : Nat
  kind : Nat
  fields : List Nat
  left : Nat
deriving DecidableEq, Repr

/-- A LANE_POWER message waiting for its boundary: bits [31:0] of the round, the lanes and their state (R88, R102). -/
structure RxPower where
  roundLo : Nat
  mask : Nat
  mode : Nat
deriving DecidableEq, Repr

/-- One trunk port. `locked` are the block-locked lanes, `degraded`
those out of use since a degrade (R103). Masks are numbers of four bits, bit n for lane n; per-lane numbers are lists by lane. `tapSeq` holds the last TAP_REQ applied on a lane with its answer
(seq + 256 × statuses), `tapAsk` the SEQ of the hub's own last request for a lane and whether it is acknowledged. `unused` are lanes
left out for their skew (R94), `nonces` the NONCE of each lane's last TRAIN (R92), `badHdrs` the invalid sync headers of a lane since its
last mark (R91), `badInSecond` the uncorrectable codewords of the second under way (R464), `pend` the lane messages pending, `groups` the GROUP_COUNT of the next group sent, `maskNew` that it carries MASK_NEW, and
`dealt` the striped blocks dealt in the group (R86). `alignWaited` says that the 2 ms of ALIGN have passed. `oldKey` says that two link keys are valid (R440), and
`keySince` is the counter of the first envelope accepted under the new one, 0 before it. `late` are the break and root entries of a
header that came after the seal mark (R122). -/
structure PortSt where
  nonce : Nat
  farNonce : Nat
  nonces : List (Nat × Nat)
  locked : Nat
  unused : Nat
  degraded : Nat
  chosen : Nat
  halfChosen : Nat
  restoreAsk : Nat
  rxPower : List RxPower
  farLocked : Nat
  farChosen : Nat
  farReady : Bool
  farFullCap : Bool
  farStepGo : Bool
  ready : Bool
  stepGo : Bool
  forceHalf : Bool
  tapSeq : List (Nat × Nat)
  tapAsk : List (Nat × (Nat × Bool))
  tapsHalf : List (Nat × Word)
  marks : List (Nat × Nat)
  badWords : List (Nat × Nat)
  badHdrs : List (Nat × Nat)
  badInSecond : Nat
  marksMissed : List (Nat × Nat)
  clean : List (Nat × Nat)
  discarding : Bool
  alignWaited : Bool
  pend : List LaneMsg
  groups : Nat
  maskNew : Bool
  dealt : Nat
  change : Option MaskAt
  pairs : List (Nat × Nat)
  module : ModuleSt
  txCount : Nat
  rxCount : Nat
  parts : List PartFrame
  headerSeen : Bool
  late : Option (List Nat × Nat)
  creditAssured : Nat
  creditRegistered : Nat
  creditBulk : Nat
  neighbourAge : Nat
  breaks : List Nat
  root : Nat
  activeRounds : Nat
  observed : Bool
  keySlot : Nat
  keyLetter : Nat
  keySince : Nat
  oldKey : Bool
  tagRun : Nat
deriving DecidableEq, Repr

/-- [Log entry 5: DESIGN CHOICE] -/
def PortSt.init : PortSt :=
  { nonce := 0, farNonce := 0, nonces := [], locked := 0, unused := 0, degraded := 0, chosen := 0, halfChosen := 0, restoreAsk := 0, rxPower := [], farLocked := 0, farChosen := 0, farReady := false, farFullCap := false,
    farStepGo := false, ready := false, stepGo := false, forceHalf := false, tapSeq := [], tapAsk := [], tapsHalf := [],
    marks := [], badWords := [], badHdrs := [], badInSecond := 0, marksMissed := [], clean := [], discarding := false, alignWaited := false, pend := [],
    groups := 0, maskNew := false, dealt := 0, change := none, pairs := [], module := ModuleSt.init, txCount := 1, rxCount := 0, parts := [], headerSeen := false, late := none, creditAssured := 512,
    creditRegistered := 512, creditBulk := 0, neighbourAge := 2, breaks := [], root := 0, activeRounds := 0, observed := false,
    keySlot := 0, keyLetter := 0, keySince := 0, oldKey := false, tagRun := 0 }

/-- The three trunk ports and the ring's break and root entries (R127 to R137): `held` are the break entries held, as 16-bit
words; `overflow` those beyond four; `nextSteering` is the set fixed 1.0 µs before a boundary and `steering` the one in force
(R129); host link facts and the counts of R137 in rounds; `rootAt` is the position of the hub known to hold ROOT, and `rootWait` says that
its standby has yielded and the configured root has not taken it yet. -/
structure LinkSt where
  portA : PortSt
  portB : PortSt
  portC : PortSt
  held : List Nat
  overflow : List Nat
  nextSteering : List Nat
  steering : List Nat
  hostUp : Bool
  hostUpTold : Bool
  hostUpSince : Nat
  noUpRounds : Nat
  primaryRounds : Nat
  takeRoot : Bool
  rootAt : Option Nat
  rootWait : Bool
deriving DecidableEq, Repr

def LinkSt.init : LinkSt :=
  { portA := PortSt.init, portB := PortSt.init, portC := PortSt.init, held := [], overflow := [], nextSteering := [], steering := [], hostUp := false,
    hostUpTold := false, hostUpSince := 0, noUpRounds := 0, primaryRounds := 0, takeRoot := false, rootAt := none, rootWait := false }

/-- One port's record. -/
def LinkSt.port (l : LinkSt) : PortId → PortSt
  | .a => l.portA
  | .b => l.portB
  | .c => l.portC

/-- The state with one port's record replaced. -/
def LinkSt.setPort (l : LinkSt) (p : PortId) (x : PortSt) : LinkSt :=
  match p with
  | .a => { l with portA := x }
  | .b => { l with portB := x }
  | .c => { l with portC := x }

end Machine
end Sys2Proof
end

