-- ==== Sys2Proof/Machine/StateMedia.lean ====
section
/-!
DEFINITION. The DisplayPort, storage and Ethernet blocks (R267 to R293): parcels held for playout, capability copies and AUX
requests, NVMe commands outstanding, and the PF1 transmit rings.
-/
namespace Sys2Proof
namespace Machine

/-- A DisplayPort port, 0 to 3 outputs and 4, 5 inputs: parcels held for playout, the last line met while blanked, whether the
output restarts at the next FRAME_START parcel (R272), parcels sent this round (R274), the box incarnation an MSA was sent for
(R271), the POSTMARKs of parcels counted as missing since the output was last lit (R273), the capability copy (DPCD, EDID) of R277, and the boundaries an outstanding AUX request has crossed (R278). -/
structure DpSt where
  held : List Parcel
  line : Nat
  restart : Bool
  sent : Nat
  msaFor : Nat
  missed : List Nat
  copy : Option (List Byte × List Byte)
  aux : Option Nat
deriving DecidableEq, Repr

def DpSt.init : DpSt := ⟨[], 0, false, 0, 0, [], none, none⟩

/-- A VF submission (R281): VF, admin queue, opcode, VNSID, first block, blocks. -/
structure VfSub where
  vf : Nat
  admin : Bool
  opcode : Nat
  vnsid : Nat
  lba : Nat
  count : Nat
deriving DecidableEq, Repr

/-- An NVMe command outstanding (R282): its submission, relay entry, whether the far relay executes it, the box and incarnation
it went into, the far relay it is for (box and the far command number) where it came over a tunnel, and the round it left in. -/
structure NvmeCmd where
  sub : VfSub
  entry : Nat
  remote : Bool
  box : Nat
  inc : Nat
  forFar : Option (Nat × Nat)
  since : Nat
deriving DecidableEq, Repr

/-- The three blocks: ports, commands by number, submissions left in their queues, the VFs that have waited this round, the
remote entries told of in this round, PF1 transmit rings by queue (head and tail), the other words written in PF1 BAR0, and the
sizes in logical blocks of the local device's namespaces 1, 2, … (R279, R280). -/
structure MediaSt where
  dp : List (Nat × DpSt)
  cmds : List (Nat × NvmeCmd)
  nextCmd : Nat
  held : List VfSub
  waited : List Nat
  told : List Nat
  tx : List (Nat × (Nat × Nat))
  pf1 : List (Nat × Word)
  nsSizes : List Nat
deriving DecidableEq, Repr

def MediaSt.init : MediaSt := ⟨[], [], 0, [], [], [], [], [], []⟩

end Machine
end Sys2Proof
end

