-- ==== Sys2Proof/Machine/StateReg.lean ====
section
/-!
DEFINITION. The Registry (R231 to R266): entries, the receipt book, pigeonholes, and the queues of what is to be sent.
-/
namespace Sys2Proof
namespace Machine

/-- A Registry entry that is not FREE (R237). `dead` is STATE DEAD; `writing` says that its entry write is under way (R235);
`lastSent` are the boundaries passed since its last send (R240), none before the first; `sentSince` says it has been sent since the restart
(R254). `order` is its place in acceptance order; `returned` the
forwarding address of a RETURN that waits for earlier entries of its tunnel (R251). -/
structure Entry where
  dead : Bool
  writing : Bool
  forwarded : Bool
  origin : Nat
  box : Nat
  ownInc : Nat
  seq : Nat
  dstPc : Nat
  dstBox : Nat
  dstInc : Nat
  acceptedAt : Nat
  dlStatus : Nat
  dlOutcome : Nat
  fwdPc : Nat
  fwdBox : Nat
  fwdInc : Nat
  originPath : Nat
  originTag : Nat
  originSeq : Nat
  payload : List Byte
  lastSent : Option Nat
  sentSince : Bool
  order : Nat
  returned : Option (Nat × Nat × Nat)
deriving DecidableEq, Repr

/-- A receipt-book record (R242) with the next sequence (R238), which is not stored but rebuilt; `next` are an apportionment's
RESERVE, LIMIT and NOTIFY that take force at the next boundary (R259); `presented` is the last sequence COLLECT presented. -/
structure BookRec where
  send : Bool
  recv : Bool
  host : Bool
  ownInc : Nat
  peerPc : Nat
  peerBox : Nat
  peerInc : Nat
  apportioned : Bool
  reserve : Nat
  limit : Nat
  notify : Bool
  doubtValid : Bool
  releasedThru : Nat
  passedThru : Nat
  consumedThru : Nat
  doubtSeq : Nat
  openedAt : Nat
  nextSeq : Nat
  next : Option (Nat × Nat × Bool)
  farPassed : Nat
  presented : Nat
  started : Bool
deriving DecidableEq, Repr

/-- A pigeonhole (R243): a message that waits to be passed or, at a HOST box, to be acknowledged. `minC` is 1
where its cell is charged to the guaranteed minimum; `apart` says that it stands outside the 256 pigeonholes of in-order arrivals. -/
structure Pigeon where
  box : Nat
  seq : Nat
  srcPc : Nat
  srcBox : Nat
  ingress : Nat
  gap : Bool
  again : Bool
  apart : Bool
  shown : Bool
  payload : List Byte
  minC : Nat
deriving DecidableEq, Repr

/-- A RETURN that waits to be sent (R250). -/
structure ReturnDue where
  dstPc : Nat
  dstBox : Nat
  dstInc : Nat
  srcBox : Nat
  seq : Nat
  known : Bool
  fwd : Option (Nat × Nat × Nat)
deriving DecidableEq, Repr

/-- The Registry. `replayedNow` are the entries replayed in the round (R254); `freed` are free entry numbers in the order they were freed, after the never-used ones from `fresh` on
(R236); `newDead` the dead letters of the round; `notify` the boxes whose LETTERS_RELEASED is due; `waiting` the boxes with
messages waiting and the round of their last LETTERS_WAITING; `voids` the void letters that have no entry yet (R256). -/
structure RegSt where
  entries : List (Nat × Entry)
  book : List (Nat × BookRec)
  pigeons : List Pigeon
  freed : List Nat
  fresh : Nat
  accepts : Nat
  order : Nat
  scanning : Bool
  replaying : Bool
  replayed : Nat
  replayedNow : Nat
  issued : Nat
  receiptsDue : List Nat
  returnsDue : List ReturnDue
  newDead : List Nat
  notify : List Nat
  waiting : List (Nat × Nat)
  voids : List Entry
  rotation : Nat
  inUseHigh : Nat
deriving DecidableEq, Repr

/-- [Log entry 5: DESIGN CHOICE] -/
def RegSt.init : RegSt := ⟨[], [], [], [], 0, 0, 0, false, false, 0, 0, 0, [], [], [], [], [], [], 0, 0⟩

end Machine
end Sys2Proof
end

