-- ==== Sys2Proof/Machine/StateSwitch.lean ====
section
/-!
DEFINITION. The switch core and its buffer (R175 to R206): units, holds, credit windows, mirror copies and the central
scheduler's pairs and pointers. Occupancy and counters stand in the register file.
-/
namespace Sys2Proof
namespace Machine

/-- An admitted unit (R175, R185, R190): its descriptor after routing with its payload, its cells, traffic class, egress port and sheet owner
(0xFFFF where it leaves by no trunk), what it still charges to the minimum and to the pool, when it completed, whether its frame is
whole (R180), payload bytes sent in slots, cells read towards its egress, cells freed (R196), and the sessions that have copied it (R199).
At a trunk egress the cells read and not yet sent are those in the transmit stage (R196). -/
structure SwUnit where
  u : UnitIn
  cells : Nat
  tc : Nat
  egress : Nat
  owner : Nat
  minC : Nat
  poolC : Nat
  round : Nat
  ns : Nat
  whole : Bool
  sentBytes : Nat
  read : Nat
  freed : Nat
  copied : List Nat
deriving DecidableEq, Repr

/-- A mirror copy (R200, R201): session, POINT, the original's number and cells, its header and payload, cells read, and those of them it
holds no more. -/
structure Copy where
  session : Nat
  point : Nat
  unit : Nat
  cells : Nat
  port : Nat
  tc : Nat
  colour : Nat
  payload : List Byte
  flow : Nat
  made : Nat
  srcPc : Nat
  srcBox : Nat
  dstPc : Nat
  dstBox : Nat
  read : Nat
  freed : Nat
deriving DecidableEq, Repr

/-- A unit held in a HOLD port's arrival reserve (R187), as it was routed, with the round in which the hold began. -/
structure Hold where
  ingress : Nat
  tc : Nat
  u : UnitIn
  egress : Nat
  owner : Nat
  since : Nat
deriving DecidableEq, Repr

/-- Cells of the three credited classes. -/
structure Cells3 where
  a : Nat
  r : Nat
  b : Nat
deriving DecidableEq, Repr

/-- The credit windows of a trunk ingress (R188): what is left of the round before, of the current round, and the grant sent
for the next. -/
structure Window where
  prev : Cells3
  cur : Cells3
  next : Option Cells3
deriving DecidableEq, Repr

/-- The floor of R124. -/
def Cells3.floor : Cells3 := ⟨512, 512, 0⟩

def Window.init : Window := ⟨Cells3.floor, Cells3.floor, none⟩

/-- MIRROR_SET settings that take force at the next boundary (R199): session register word and destination word. -/
structure MirrorNext where
  session : Nat
  word : Word
  dest : Word
deriving DecidableEq, Repr

/-- A matched pair of the central scheduler (R192): input (10 for P10), egress and the unit or copy it moves. -/
structure Pair where
  input : Nat
  egress : Nat
  unit : Nat
deriving DecidableEq, Repr

/-- The switch core. Lists by number hold what differs from its start: LFSRs by port (R186), windows by trunk port, grant and
accept pointers by port (R193). `stage` are the write stages (R178): units whose last cell waits to be written, in the order they came,
each with the trunk port a box 0 message is bound to (R357); `wrote` are the ports that have written in this cell cycle, `writePtr` the
station port served last, and `heldNow` the ports that held a class in this round (R187). -/
structure SwSt where
  units : List (Nat × SwUnit)
  nextUnit : Nat
  copies : List (Nat × Copy)
  nextCopy : Nat
  holds : List Hold
  heldNow : List Nat
  stage : List (Option PortId × UnitIn)
  wrote : List Nat
  writePtr : Nat
  lfsr : List (Nat × Nat)
  windows : List (Nat × Window)
  mirror : List MirrorNext
  pairs : List Pair
  grantPtr : List (Nat × Nat)
  acceptPtr : List (Nat × Nat)
  poolLow : Nat
deriving DecidableEq, Repr

def SwSt.init : SwSt := ⟨[], 0, [], 0, [], [], [], [], 9, [], [], [], [], [], [], 131072⟩

end Machine
end Sys2Proof
end

