-- ==== Sys2Proof/Machine/StateUsb.lean ====
section
/-!
DEFINITION. Tunnelled USB trees and the hub ports (R294 to R304): transfers pending, keep-alives, and what a port is doing that
PORT_STATE does not show.
-/
namespace Sys2Proof
namespace Machine

/-- A transfer of a tree (R296, R300): its kind, the period of 125 µs it was asked in, the microframe it is for (0 where not isochronous), and
whether its OUT data left. -/
structure Transfer where
  tree : Nat
  kind : TransferKind
  since : Nat
  micro : Nat
  sent : Bool
deriving DecidableEq, Repr

/-- One end of a tree (R298): the periods of 125 µs of its own last keep-alive and of the last one received. -/
structure TreeSt where
  sentAt : Option Nat
  heardAt : Nat
deriving DecidableEq, Repr

def TreeSt.init : TreeSt := ⟨none, 0⟩

/-- Resumes of a port (R304): none, the host's, the device's. -/
inductive Resume | none | host | wake
deriving DecidableEq, Repr

/-- A hub port (R301 to R304): a device attached and training, a reset under way, a resume with the period of 125 µs it began in. -/
structure UsbPort where
  training : Bool
  resetting : Bool
  resume : Resume
  since : Nat
deriving DecidableEq, Repr

def UsbPort.init : UsbPort := ⟨false, false, .none, 0⟩

/-- Ports by number, trees 0 to 15 (host side) and 16 (station side), transfers by number, the isochronous IN transfers that missed their
completion time and whose data may still come (R300), and the last boundary's round. -/
structure UsbSt where
  ports : List (Nat × UsbPort)
  trees : List (Nat × TreeSt)
  transfers : List (Nat × Transfer)
  missed : List (Nat × Nat)
  next : Nat
  lastRound : Nat
deriving DecidableEq, Repr

def UsbSt.init : UsbSt := ⟨[], [], [], [], 0, 0⟩

end Machine
end Sys2Proof
end

