-- ==== Sys2Proof/Machine/State.lean ====
section
/-!
DEFINITION. The state of the hub as plain data, the reasons a step can stop, and the machine right after reset.
Every feature register stands in ONE register file, `regs`, as a list from address to word in which a register at its reset
value has no entry; `resetWord` gives that value out of the field maps. What no register shows stands in the other fields.
-/
namespace Sys2Proof
namespace Machine

/-- Reasons for a fault. No meaning of this model ends in one: the manual gives every command an effect. -/
inductive Fault
  /-- Raised by nobody; safe. -/
  | none
deriving DecidableEq, Repr

/-- Reasons for a refusal. -/
inductive Refusal
  /-- Raised by a command that has no meaning yet, with its mnemonic; safe. -/
  | notModelled (mnemonic : String)
deriving DecidableEq, Repr

/-- The machine. -/
structure State where
  /-- Commands waiting, first in first out. -/
  pending : List Instr
  /-- The feature registers that are not at their reset values (R8 to R13). -/
  regs : List (Nat × Word)
  /-- RW shadows waiting for the boundary: MASK and VALUE by address (R11). -/
  shadow : List (Nat × (Word × Word))
  /-- What the hub has put out, newest first (the model's own record). -/
  out : List Out
  /-- The model's own counter for free values. -/
  seed : Nat
  rt : RoundSt
  cmd : CmdSt
  link : LinkSt
  tun : TunSt
  sw : SwSt
  eng : EngSt
  reg : RegSt
  bridge : BridgeSt
  media : MediaSt
  usb : UsbSt
  power : PowerSt
  pd : PdSt
  ps : PsSt
  sec : SecSt
  mem : MemSt
  recorder : RecorderSt
  boot : BootSt
deriving DecidableEq, Repr

/-- The machine right after reset, before POWER_ON: every register at its Reset column, but for the attributes of the key slots 0, 1
and 3, LOADED since manufacture (R423). [Log entries 2: DESIGN CHOICE, 4: DESIGN CHOICE] -/
def State.reset : State :=
  { pending := [], regs := [(Reg.SLOT_ATTR 0, 0x50100000#32), (Reg.SLOT_ATTR 1, 0x50200000#32), (Reg.SLOT_ATTR 3, 0x60080000#32)],
    shadow := [], out := [], seed := 0, rt := RoundSt.init, cmd := CmdSt.init, link := LinkSt.init,
    tun := TunSt.init, sw := SwSt.init, eng := EngSt.init, reg := RegSt.init, bridge := BridgeSt.init, media := MediaSt.init, usb := UsbSt.init,
    power := PowerSt.init, pd := PdSt.init, ps := PsSt.init, sec := SecSt.init, mem := MemSt.init, recorder := RecorderSt.init,
    boot := BootSt.init }

end Machine
end Sys2Proof
end

