-- ==== Sys2Proof/Machine/Ops.lean ====
section
/-!
DEFINITION. The named operations over the register file (R8 to R13), the counters (R81), the hub's time (R44, R47) and its
outputs. Every meaning reads and writes registers through these.
-/
namespace Sys2Proof
namespace Machine

/-- What a meaning answers. -/
abbrev Result := Host.Outcome State Fault Refusal

/-- The word in force at an address. -/
def State.word (s : State) (a : Nat) : Word :=
  match mget s.regs a with
  | some w => w
  | none => resetWord a

/-- A word put in force; a register at its reset value has no entry. -/
def State.setWord (s : State) (a : Nat) (w : Word) : State :=
  { s with regs := if w = resetWord a then mdel s.regs a else mput s.regs a w }

/-- The value in force of a field. -/
def State.get (s : State) (f : Fld) : Nat := bitsOf (s.word f.addr).toNat f.lsb f.width

/-- A field given a value. -/
def State.set (s : State) (f : Fld) (v : Nat) : State :=
  s.setWord f.addr (BitVec.ofNat 32 (setBits (s.word f.addr).toNat f.lsb f.width v))

/-- A one-bit field as a Bool. -/
def State.flag (s : State) (f : Fld) : Bool := s.get f == 1

def State.setFlag (s : State) (f : Fld) (b : Bool) : State := s.set f (if b then 1 else 0)

/-- A counter advanced; it saturates at 0xFFFF_FFFF (R81). -/
def State.bump (s : State) (c : Nat) (n : Nat := 1) : State :=
  s.setWord c (BitVec.ofNat 32 (min 0xFFFFFFFF ((s.word c).toNat + n)))

/-- Something put out. [Log entry 3: DESIGN CHOICE] -/
def State.emit (s : State) (o : Out) : State := { s with out := o :: s.out }

/-- The hub's own time as a postmark (R47). [Log entry 15: DESIGN CHOICE] -/
def State.now (s : State) : Nat := (postmark s.rt.round s.rt.ns).toNat

/-- The round in progress (R44). -/
def State.round (s : State) : Nat := s.rt.round

/-- Nanoseconds from postmark `q` to postmark `p` (R48). -/
def postmarkDiff (p q : Nat) : Int :=
  ((p / 131072 : Nat) - (q / 131072 : Nat) : Int) * 125000 + ((p % 131072 : Nat) - (q % 131072 : Nat) : Int)

/-- The free-value counter read and advanced. [Log entry 7: DESIGN CHOICE] -/
def State.draw (s : State) : Nat × State := (s.seed, { s with seed := s.seed + 1 })

/-- The hub's postcode (R28). -/
def State.postcode (s : State) : Nat := s.get Reg.HUB_ADDR_POSTCODE

/-- HUB_ADDR VALID (R29). -/
def State.addrValid (s : State) : Bool := s.flag Reg.HUB_ADDR_VALID

/-- A domain of R19 is powered: its bit of DOMAIN_ON. -/
def State.powered (s : State) (d : Domain) : Bool := bitOf (s.word Reg.DOMAIN_ON).toNat d.bit

def State.setPowered (s : State) (d : Domain) (b : Bool) : State := s.set ⟨Reg.DOMAIN_ON, d.bit, 1⟩ (if b then 1 else 0)

/-- The switch–keeper link is up (R16). -/
def State.skUp (s : State) : Bool := s.flag Reg.DIE_LINKS_SK_UP

/-- The keeper–power link is up (R17). -/
def State.kpUp (s : State) : Bool := s.flag Reg.DIE_LINKS_KP_UP

/-- A message of a hub can come to this one (R20, R21): CORE runs, and by a trunk nothing comes while CIPHER is not powered. -/
def State.listens (s : State) (srcPc : Nat) : Bool := s.powered .core && (srcPc == s.postcode || s.powered .cipher)

/-- SERVICE_POWERED (R401): the switch core, the engines and the controllers of the station blocks stand in reset. -/
def State.servicePowered (s : State) : Bool := s.flag (Reg.PD_PORT_SERVICE_POWERED 4)

/-- The hub takes commands: the postmaster is ready, or in recovery (R349, R476, R479), and its clocks run (R411, R416). -/
def State.ready (s : State) : Bool :=
  (s.get Reg.BOOT_STATE_STAGE == 4 || s.get Reg.BOOT_STATE_STAGE == 5) && decide (s.get Reg.PS_STATE_STATE < 2)

/-- The keeper controller runs: VDD_KEEP is up and its power-on reset over (R476). -/
def State.keeperAwake (s : State) : Bool := s.boot.keep && s.boot.released

/-- The management target answers: its block in CORE has its clocks (R401, R416); while it has not, a transfer is NACKed. [Log entry 154: DESIGN CHOICE] -/
def State.mgmtAnswers (s : State) : Bool := s.powered .core && decide (s.get Reg.PS_STATE_STATE < 2)

/-- The trunk port's domain. -/
def PortId.domain : PortId → Domain | .a => .trkA | .b => .trkB | .c => .trkC

/-- All three trunk ports in port order. -/
def allPorts : List PortId := [.a, .b, .c]

/-- The port of a code of R87. -/
def PortId.ofCode : Nat → Option PortId | 0 => some .a | 1 => some .b | 2 => some .c | _ => none

/-- Port state code of R95; 9 is ACTIVE. -/
def State.portState (s : State) (p : PortId) : Nat := s.get (Reg.TRK_PORT_STATE_STATE p.code)

/-- TIMING STATE code (R60). -/
def State.timing (s : State) : Nat := s.get Reg.TIMING_STATE

/-- A value of a register field in its range, as a signed number. -/
def State.getS (s : State) (f : Fld) : Int := signedOf f.width (s.get f)

def State.setS (s : State) (f : Fld) (v : Int) : State := s.set f (fieldOf f.width v)

/-- A fold of a state operation over a list. -/
def forAll {β : Type} (l : List β) (s : State) (f : State → β → State) : State := l.foldl f s

/-- A state operation made where a condition holds. -/
def State.when (s : State) (c : Bool) (f : State → State) : State := if c then f s else s

end Machine
end Sys2Proof
end

