-- ==== Sys2Proof/Machine/Routes.lean ====
section
/-!
DEFINITION. Postcode routing: the egress of an envelope (R130, R131), the steering of twins (R132) and whether a box 0 message
has a route (R357).
-/
namespace Sys2Proof
namespace Machine

/-- A trunk port's record. -/
def State.port (s : State) (p : PortId) : PortSt := s.link.port p

def State.setPort (s : State) (p : PortId) (x : PortSt) : State := { s with link := s.link.setPort p x }

/-- A trunk port's record changed. -/
def State.updPort (s : State) (p : PortId) (f : PortSt → PortSt) : State := s.setPort p (f (s.port p))

/-- The port is in ACTIVE (R95). -/
def State.active (s : State) (p : PortId) : Bool := s.portState p == 9

/-- The port takes items of the striped stream: ACTIVE, and not discarding it after a degrade (R103). -/
def State.streams (s : State) (p : PortId) : Bool := s.active p && !(s.port p).discarding

/-- The port's receive direction has lost its last ACTIVE lane (R138), its masks still standing. -/
def State.dark (s : State) (p : PortId) : Bool :=
  let m := s.get (Reg.TRK_PORT_STATE_RX_MASK p.code)
  m != 0 && m.land (s.port p).locked == 0

/-- The port may be routed to: ACTIVE with a lane left (R131, R138). [Log entry 215: DEDUCED] -/
def State.up (s : State) (p : PortId) : Bool := s.active p && !s.dark p

/-- RING_SIZE M (R142). -/
def State.ringSize (s : State) : Nat := s.get Reg.GROUP_CFG_RING_SIZE

/-- The hub's own group and position (R28). -/
def State.group (s : State) : Nat := s.postcode / 64
def State.position (s : State) : Nat := s.postcode % 64

/-- A break entry's parts (R127). -/
def breakKind (e : Nat) : Nat := bitsOf e 14 1
def breakAge (e : Nat) : Nat := bitsOf e 6 6
def breakPos (e : Nat) : Nat := bitsOf e 0 6
/-- A break entry (R127). -/
def breakEntry (kind age pos : Nat) : Nat := 0x8000 + kind % 2 * 0x4000 + age % 64 * 64 + pos % 64

/-- `broken` of R131: an entry of the kind and position stands in the steering state of R129. -/
def State.broken (s : State) (kind pos : Nat) : Bool :=
  s.link.steering.any (fun e => breakKind e == kind && breakPos e == pos)

/-- The ring links crossed from position `p` over `n` hops in the A direction (true) or the B direction; a link bears the
position of the hub whose port A it leaves (R126). -/
def linksFrom (m p : Nat) (dirA : Bool) : Nat → List Nat
  | 0 => []
  | n + 1 => if dirA then p % m :: linksFrom m ((p + 1) % m) dirA n
             else (p + m - 1) % m :: linksFrom m ((p + m - 1) % m) dirA n

/-- A path of `n` hops crosses a broken link (R131). -/
def State.pathBroken (s : State) (dirA : Bool) (n : Nat) : Bool :=
  (linksFrom s.ringSize s.position dirA n).any (fun l => s.broken 0 l)

/-- What R131 or R132 decides. -/
inductive RouteTo
  | local
  | port (p : PortId) (turned : Bool) (red : Bool)
  | dropUnreachable
  | dropBreak
  | dropTwin
deriving DecidableEq, Repr

/-- What routing looks at in an envelope. `from_` is the trunk port it arrived on, none where it is originated here. -/
structure RouteReq where
  dstPc : Nat
  srcPc : Nat
  cls : SvcClass
  twin : Bool
  side : Bool
  turned : Bool
  from_ : Option PortId
deriving DecidableEq, Repr

/-- GROUP_ROUTE of a group (R130). -/
def State.routeValid (s : State) (g : Nat) : Bool := s.flag (Reg.GROUP_ROUTE_VALID g)
def State.routeDual (s : State) (g : Nat) : Bool := s.flag (Reg.GROUP_ROUTE_DUAL g)
def State.junction1 (s : State) (g : Nat) : Nat := s.get (Reg.GROUP_ROUTE_JUNCTION_1 g)
def State.junction2 (s : State) (g : Nat) : Nat := s.get (Reg.GROUP_ROUTE_JUNCTION_2 g)

/-- The exits of R131 towards another group. -/
def State.exits (s : State) (g : Nat) : List Nat :=
  s.junction1 g :: (if s.routeDual g then [s.junction2 g] else [])

/-- The ring port of a direction. -/
def ringPort (dirA : Bool) : PortId := if dirA then .a else .b

/-- The last part of R131: the ring port of the direction, turning back where it is not ACTIVE. -/
def State.leaveRing (s : State) (dirA turned red : Bool) (iso : Bool) : RouteTo :=
  if s.up (ringPort dirA) then .port (ringPort dirA) turned red
  else if turned || iso then .dropBreak
  else if s.up (ringPort (!dirA)) then .port (ringPort (!dirA)) true true
  else .dropBreak

/-- The direction R131 takes where none is fixed yet: the direction of travel of a turned envelope, else the shorter path,
the other where it crosses a break; none where both do. -/
def State.ringDir (s : State) (target : Nat) (turned : Bool) (from_ : Option PortId) : Option Bool :=
  if turned then
    match from_ with
    | some .a => some false
    | some .b => some true
    | _ => some true
  else
    let m := s.ringSize
    let da := (target + m - s.position % m) % m
    let db := m - da
    let brA := s.pathBroken true da
    let brB := s.pathBroken false db
    if da ≤ db then (if brA then (if brB then none else some false) else some true)
    else (if brB then (if brA then none else some true) else some false)

/-- The distance in one direction from this hub (R132). -/
def State.hopsTo (s : State) (dirA : Bool) (q : Nat) : Nat :=
  let m := s.ringSize
  if dirA then (q + m - s.position % m) % m else (s.position + m - q % m) % m

/-- The least distance to one of several ends; an end here counts a full turn. -/
def State.hopsToAny (s : State) (dirA : Bool) (ends : List Nat) : Nat :=
  ends.foldl (fun n q => let h := s.hopsTo dirA q; min n (if h = 0 then s.ringSize else h)) (2 * s.ringSize)

/-- The ring port of a twin's direction, or a drop (R132). -/
def State.twinRing (s : State) (dirA : Bool) : RouteTo :=
  if s.up (ringPort dirA) then .port (ringPort dirA) false false else .dropTwin

/-- Port C for a twin at an exit, or a drop (R132). -/
def State.twinExit (s : State) : RouteTo := if s.up .c then .port .c false false else .dropTwin

/-- The steering of a twin (R132). `ends` are the destination in the destination's ring, otherwise the exits. -/
def State.routeTwin (s : State) (q : RouteReq) (ends : List Nat) (isExit : Bool) : RouteTo :=
  let here := ends.contains s.position
  match q.from_ with
  | some .a => if here then s.twinExit else s.twinRing false
  | some .b => if here then s.twinExit else s.twinRing true
  | start =>
    let entered := start.isSome
    let dual := entered && s.routeDual (q.srcPc / 64)
    if dual then
      if here then s.twinExit
      else
        let g := q.srcPc / 64
        let other := if s.junction1 g = s.position then s.junction2 g else s.junction1 g
        if s.hopsToAny true ends ≤ s.hopsTo true other then s.twinRing true else s.twinRing false
    else if here && isExit then
      if !q.side then s.twinExit
      else if ends.length ≤ 1 then s.twinExit
      else s.twinRing false
    else s.twinRing (!q.side)

/-- The egress of an envelope (R131). After a dual turn with neither path crossing a broken link, the shorter direction is taken, A on a
tie. With RING_SIZE 0 nothing is routed on (R142). [Log entries 216: DESIGN CHOICE, 217: DEDUCED] -/
def State.route (s : State) (q : RouteReq) : RouteTo :=
  let g := s.group
  let dg := q.dstPc / 64
  if q.dstPc = s.postcode then .local
  else if dg = g then
    if s.ringSize ≤ q.dstPc % 64 then .dropUnreachable
    else if q.twin then s.routeTwin q [q.dstPc % 64] false
    else
      match s.ringDir (q.dstPc % 64) q.turned q.from_ with
      | none => .dropUnreachable
      | some d => s.leaveRing d q.turned false (q.cls == .iso)
  else if !s.routeValid dg || s.ringSize == 0 then .dropUnreachable
  else if q.twin then s.routeTwin q (s.exits dg) true
  else
    let j1 := s.junction1 dg
    let dual := s.routeDual dg
    let target := if s.broken 1 j1 && dual then s.junction2 dg else j1
    if s.position = target || (q.turned && (s.exits dg).contains s.position) then
      if s.up .c then .port .c false false
      else if dual && s.position = j1 then
        if q.cls == .iso then .dropBreak
        else
          let j2 := s.junction2 dg
          let brA := s.pathBroken true (s.hopsTo true j2)
          let brB := s.pathBroken false (s.hopsTo false j2)
          if !brA && (brB || s.hopsTo true j2 ≤ s.hopsTo false j2) then s.leaveRing true true true false
          else if !brB then s.leaveRing false true true false
          else .dropUnreachable
      else .dropUnreachable
    else
      match s.ringDir target q.turned q.from_ with
      | none => .dropUnreachable
      | some d => s.leaveRing d q.turned false (q.cls == .iso)

/-- The route of a MGMT message this hub originates (R146, R357). -/
def State.mgmtRoute (s : State) (dst : Nat) : RouteTo :=
  s.route { dstPc := dst, srcPc := s.postcode, cls := .assured, twin := false, side := false, turned := false, from_ := none }

/-- A box 0 message this hub originates can leave towards a hub. -/
def State.reachable (s : State) (dst : Nat) : Bool :=
  match s.mgmtRoute dst with
  | .local => true
  | .port _ _ _ => true
  | _ => false

end Machine
end Sys2Proof
end

