-- ==== Sys2Proof/Machine/Notices.lean ====
section
/-!
DEFINITION. Notices (R360, R361), box 0 messages and the activity events that restart the idle timer (R412, R414).
-/
namespace Sys2Proof
namespace Machine

/-- A box 0 message as a MGMT frame of the postmaster (R146, R358). -/
def mgmtUnit (srcPc dst hops seq : Nat) (m : Box0Msg) : UnitIn :=
  { ingress := 9, cls := .assured, type := 0, kind := .mgmt, colour := .green, payload := m.bytes, seg := 0, twin := false, side := false,
    turned := false, first := true, last := true, hops := Fin.ofNat 512 hops, srcPc := BitVec.ofNat 16 srcPc, srcBox := 0,
    dstPc := BitVec.ofNat 16 dst, dstBox := 0, dstInc := 0, seqStamp := BitVec.ofNat 32 seq, checkOk := true }

/-- A box 0 message put in the postmaster's outbox, from where it goes through P9 into the switch (R24, R218); under ROUTE 2 with DST_PC 0
and HOPS_LEFT 1, to leave by a named port (R357). -/
def State.postMgmt (s : State) (via : Option PortId) (dst : Nat) (m : Box0Msg) : State :=
  let u := mgmtUnit s.postcode dst (if via.isSome then 1 else 320) s.eng.pmSeq m
  { s with eng := { s.eng with pmOut := s.eng.pmOut ++ [(via, u)], pmSeq := (s.eng.pmSeq + 1) % 2 ^ 32 } }

/-- A box 0 message sent where it has a route; the second part says whether it has (R29, R357). [Log entries 72: DESIGN CHOICE, 196: DESIGN CHOICE] -/
def State.sendBox0 (s : State) (dst : Nat) (m : Box0Msg) : State × Bool :=
  if s.addrValid && s.reachable dst then (s.postMgmt none dst m, true) else (s, false)

/-- A notice lost on a path: counted, and joined to the run of numbers lost there (R361). [Log entry 27: DESIGN CHOICE] -/
def addLost (path number : Nat) : List LostRun → List LostRun
  | [] => [⟨path, number, 1⟩]
  | r :: rs => if r.path = path && r.first + r.count = number then ⟨path, r.first, r.count + 1⟩ :: rs else r :: addLost path number rs

/-- [Log entry 28: DESIGN CHOICE] -/
def State.loseNotice (s : State) (path number : Nat) : State :=
  let s := s.bump Cnt.HUB_NOTICES_DROPPED
  { s with cmd := { s.cmd with lost := addLost path number s.cmd.lost } }

/-- The PF0 notice ring has room for one more entry (R351). [Log entry 29: DESIGN CHOICE] -/
def Pf0.nrRoom (p : Pf0) : Bool := p.nrEn && decide (0 < p.nrSize) && decide ((p.nrTail + 1) % p.nrSize ≠ p.nrHead)

/-- The management target's in-band interrupt (R356): asked for as the first receipt or notice begins to wait; whether the controller has
enabled it is the bus's. [Log entry 236: DESIGN CHOICE] -/
def State.mgmtSignal (s : State) : State :=
  s.when (s.cmd.mgmt.receipts.isEmpty && s.cmd.mgmt.notices.isEmpty) (fun s => s.emit (.interrupt 65))

/-- A notice placed on one local path: 67 the PF0 ring, 64 EP2 IN of the service port, 65 the management target. A full
service or management queue drops its oldest notice (R308, R356); what stands in the EP2 IN buffer is waiting no more (R306). [Log entries 29: DESIGN CHOICE, 154: DESIGN CHOICE] -/
def State.placeNotice (s : State) (path : Nat) (n : Notice) : State :=
  if path = 67 then
    if s.cmd.pf0.nrRoom then
      let p := s.cmd.pf0
      let s := { s with cmd := { s.cmd with pf0 := { p with nrTail := (p.nrTail + 1) % p.nrSize } } }
      let s := s.emit (.notice 67 n)
      if p.nrIrqEn then s.emit (.interrupt 64) else s
    else s.loseNotice 67 n.number
  else if path = 64 then
    let skip := if s.cmd.svc.inNotice then 1 else 0
    let s := match s.cmd.svc.notices.drop skip with
      | old :: rest =>
        if 64 ≤ (old :: rest).length then
          let s := { s with cmd := { s.cmd with svc := { s.cmd.svc with notices := s.cmd.svc.notices.take skip ++ rest } } }
          (s.bump Cnt.USB_NOTICES_LOST).loseNotice 64 old.number
        else s
      | [] => s
    let s := { s with cmd := { s.cmd with svc := { s.cmd.svc with
      notices := s.cmd.svc.notices ++ [n], inNotice := s.get Reg.SVC_STATE_DEV_STATE == 3 } } }
    s.set Reg.SVC_STATE_NOTICES_WAITING (min 64 s.cmd.svc.notices.length)
  else
    let s := match s.cmd.mgmt.notices with
      | old :: rest =>
        if 16 ≤ s.cmd.mgmt.notices.length then
          let s := { s with cmd := { s.cmd with mgmt := { s.cmd.mgmt with notices := rest } } }
          s.loseNotice 65 old.number
        else s
      | [] => s
    let s := s.mgmtSignal
    { s with cmd := { s.cmd with mgmt := { s.cmd.mgmt with notices := s.cmd.mgmt.notices ++ [n] } } }

/-- The local paths NOTICE_CFG enables (R375). -/
def State.noticePaths (s : State) : List Nat :=
  (if s.flag Reg.NOTICE_CFG_PF0_EN then [67] else []) ++ (if s.flag Reg.NOTICE_CFG_SVC_EN then [64] else []) ++
  (if s.flag Reg.NOTICE_CFG_MGMT_EN then [65] else [])

/-- The hubs NOTICE_CFG forwards to: path code and postcode (R361). -/
def State.noticeForwards (s : State) : List (Nat × Nat) :=
  (if s.flag Reg.NOTICE_CFG_DEST_EN then [(68, s.get Reg.NOTICE_CFG_DEST_PC)] else []) ++
  (if s.flag Reg.NOTICE_CFG_ALT_EN then [(69, s.get Reg.NOTICE_ALT_ALT_PC)] else [])

/-- A notice forwarded over box 0, or lost there. -/
def State.forwardNotice (s : State) (n : Notice) (f : Nat × Nat) : State :=
  let r := s.sendBox0 f.2 (.notice n)
  if r.2 then r.1 else r.1.loseNotice f.1 n.number

/-- A notice the hub makes (R360, R361): numbered, then handed to its enabled paths and forwarded; from the 65th of a round
on, dropped on every path it would have gone to. -/
def State.notice (s : State) (code : Nat) (body : List Nat) : State :=
  let n : Notice := ⟨code, s.cmd.noticeNo, s.postcode, s.now, body⟩
  let s := { s with cmd := { s.cmd with noticeNo := (s.cmd.noticeNo + 1) % 2 ^ 32, noticesRound := s.cmd.noticesRound + 1 } }
  let s := s.bump Cnt.HUB_NOTICES_SENT
  if 64 < s.cmd.noticesRound then
    forAll s.noticeForwards (forAll s.noticePaths s (fun s p => s.loseNotice p n.number)) (fun s f => s.loseNotice f.1 n.number)
  else
    forAll s.noticeForwards (forAll s.noticePaths s (fun s p => s.placeNotice p n)) (fun s f => s.forwardNotice n f)

/-- A path has room for a NOTICES_LOST now (R361). -/
def State.noticeRoom (s : State) (path : Nat) : Bool :=
  if path = 67 then s.cmd.pf0.nrRoom
  else if path = 64 then decide (s.cmd.svc.notices.length < 64 + (if s.cmd.svc.inNotice then 1 else 0))
  else if path = 65 then decide (s.cmd.mgmt.notices.length < 16)
  else if path = 68 then s.addrValid && s.reachable (s.get Reg.NOTICE_CFG_DEST_PC)
  else s.addrValid && s.reachable (s.get Reg.NOTICE_ALT_ALT_PC)

/-- NOTICES_LOST (0x8000) placed for a run, where its path has room (R361, R362). It does not count towards the 64. [Log entry 27: DESIGN CHOICE] -/
def State.tellLost (s : State) (r : LostRun) : State :=
  if s.noticeRoom r.path then
    let n : Notice := ⟨0x8000, s.cmd.noticeNo, s.postcode, s.now, [r.path, r.count, r.first]⟩
    let s := { s with cmd := { s.cmd with noticeNo := (s.cmd.noticeNo + 1) % 2 ^ 32, lost := s.cmd.lost.erase r } }
    if r.path = 68 then s.forwardNotice n (68, s.get Reg.NOTICE_CFG_DEST_PC)
    else if r.path = 69 then s.forwardNotice n (69, s.get Reg.NOTICE_ALT_ALT_PC)
    else s.placeNotice r.path n
  else s

/-- Every run of lost notices told on the paths that have room (R361). [Log entry 27: DESIGN CHOICE] -/
def State.flushLost (s : State) : State := forAll s.cmd.lost s (fun s r => s.tellLost r)

/-- The idle timer started again (R412). -/
def State.restartIdle (s : State) : State :=
  { s.set Reg.PS_STATE_IDLE_LEFT (s.get Reg.DORMANT_CFG_IDLE_TIME) with ps := { s.ps with idleRounds := 0 } }

/-- An activity event of R412 with its code of R414; between the attempt and the stopping of CORE's clocks it aborts the entry. -/
def State.activity (s : State) (code : Nat) : State :=
  if s.get Reg.PS_STATE_STATE = 1 then
    let s := s.set Reg.PS_STATE_STATE 0
    let s := s.set Reg.PS_STATE_LAST_ABORTER code
    (s.bump Cnt.PSTATE_ABORTS).restartIdle
  else s.restartIdle

end Machine
end Sys2Proof
end

