-- ==== Sys2Proof/Machine/Book.lean ====
section
/-!
DEFINITION. The command book: sequence numbers (R344 to R346), entries (R347 to R350), the packet checks (R343), receipts
(R341) on their paths, relaying (R357, R359), and the one frame in which every opcode runs.
-/
namespace Sys2Proof
namespace Machine

/-- How an opcode's effect ends: done with a status and receipt data, or RUNNING on, waiting on an object. -/
inductive CmdEnd
  | done (st : Status) (data : List Byte)
  | waits (object : Nat)
deriving DecidableEq, Repr

/-- EXPECTED of a path (R344). -/
def State.expected (s : State) (path : Nat) : Nat := (mget s.cmd.expected path).getD 0

def State.setExpected (s : State) (path n : Nat) : State :=
  { s with cmd := { s.cmd with expected := if n = 0 then mdel s.cmd.expected path else mput s.cmd.expected path n } }

/-- Entries a path holds. -/
def State.heldBy (s : State) (path : Nat) : Nat := mcount s.cmd.book (fun e => e.path == path)

/-- Entries taken from the 248 shared ones (R350): the remote path's, and each local path's beyond its 4. -/
def State.sharedUsed (s : State) : Nat :=
  s.heldBy 66 + ((List.range 66).map (fun p => s.heldBy p - 4)).sum

/-- A path may take one more entry (R350). -/
def State.entryFree (s : State) (path : Nat) : Bool :=
  if path = 66 then decide (s.sharedUsed < 248) else decide (s.heldBy path < 4) || decide (s.sharedUsed < 248)

/-- BOOK_STATE brought up to date (R375). -/
def State.syncBook (s : State) : State :=
  (s.set Reg.BOOK_STATE_FREE (512 - s.cmd.book.length)).set Reg.BOOK_STATE_REMOTE_HELD (s.heldBy 66)

def State.setBook (s : State) (b : List (Nat × BookEntry)) : State := { s with cmd := { s.cmd with book := b } }

/-- An entry changed. -/
def State.updEntry (s : State) (k : Nat) (f : BookEntry → BookEntry) : State := s.setBook (mupd s.cmd.book k f)

/-- A local DONE entry whose receipt was delivered and whose path's EXPECTED is 4 or more beyond it (R350). [Log entry 20: DEDUCED] -/
def State.freeable (s : State) (e : BookEntry) : Bool :=
  e.state == .done && e.delivered && e.path != 66 && decide (4 ≤ (s.expected e.path + 2 ^ 32 - e.hostSeq) % 2 ^ 32)

/-- Entries freed under R350. [Log entry 20: DEDUCED] -/
def State.reapBook (s : State) : State := (s.setBook (s.cmd.book.filter (fun e => !s.freeable e.2))).syncBook

/-- The entry of a command: by path and HOST_SEQ, on the remote path also by originator (R345, R346). -/
def State.findEntry (s : State) (path hostSeq originPc originPath : Nat) : Option (Nat × BookEntry) :=
  s.cmd.book.find? (fun e => e.2.path == path && e.2.hostSeq == hostSeq &&
    (path != 66 || (e.2.originPc == originPc && e.2.originPath == originPath)))

/-- The receipt of an entry (R341). -/
def BookEntry.receipt (e : BookEntry) (reissued : Bool) : Receipt :=
  { opcode := e.opcode, tag := e.tag, hostSeq := e.hostSeq, status := e.status, reissued := reissued,
    remote := e.remote, stale := e.farStale, noEffect := e.farNoEffect, cut := false, phase := false, data := e.data }

/-- Completion ring room of a PF0 queue pair (R354). -/
def Pf0Queue.room (q : Pf0Queue) : Bool :=
  q.en && decide (0 < q.cqSize) && decide ((q.cqTail + 1) % q.cqSize ≠ q.cqHead)

/-- A PF0 queue pair's record. -/
def State.queue (s : State) (q : Nat) : Pf0Queue := (mget s.cmd.pf0.queues q).getD Pf0Queue.init

def State.setQueue (s : State) (q : Nat) (x : Pf0Queue) : State :=
  { s with cmd := { s.cmd with pf0 := { s.cmd.pf0 with queues := mput s.cmd.pf0.queues q x } } }

/-- A receipt handed to a local path: a PF0 completion (R353, R354), EP1 IN (R308) or the management target (R356). The second
part says whether the path took it. -/
def State.handReceipt (s : State) (path room : Nat) (r : Receipt) : State × Bool :=
  if path < 64 then
    let q := s.queue path
    if q.room then
      let r := { r with phase := q.phase, cut := decide (room < r.data.length), data := r.data.take room }
      let t := (q.cqTail + 1) % q.cqSize
      let s := s.setQueue path { q with cqTail := t, phase := if t = 0 then !q.phase else q.phase }
      let s := s.emit (.receipt path r)
      (if q.irqEn then s.emit (.interrupt path) else s, true)
    else (s, false)
  else if path = 64 then
    if s.cmd.svc.receipts.length < 32 + (if s.cmd.svc.inReceipt then 1 else 0) then
      let s := { s with cmd := { s.cmd with svc := { s.cmd.svc with
        receipts := s.cmd.svc.receipts ++ [r], inReceipt := s.get Reg.SVC_STATE_DEV_STATE == 3 } } }
      ((s.set Reg.SVC_STATE_RECEIPTS_WAITING (min 32 s.cmd.svc.receipts.length)), true)
    else (s.bump Cnt.USB_RECEIPTS_UNQUEUED, false)
  else
    if s.cmd.mgmt.receipts.length < 8 then
      ({ s.mgmtSignal with cmd := { s.mgmtSignal.cmd with mgmt := { s.cmd.mgmt with receipts := s.cmd.mgmt.receipts ++ [r] } } }, true)
    else (s, false)

/-- A RECEIPT message back to the hub a COMMAND came from: by the port it arrived on under ROUTE 2, else to its postcode
(R357). [Log entry 22: DESIGN CHOICE] -/
def State.answerRemote (s : State) (originPc originPath : Nat) (route : Nat) (via : Option PortId) (r : Receipt) : State × Bool :=
  match via with
  | some p => if route = 2 then (s.postMgmt (some p) 0 (.receipt originPath r), true) else s.sendBox0 originPc (.receipt originPath r)
  | none => s.sendBox0 originPc (.receipt originPath r)

/-- The receipt of a DONE entry delivered on its path. -/
def State.deliver (s : State) (k : Nat) (reissued : Bool) : State :=
  match mget s.cmd.book k with
  | none => s
  | some e =>
    let r := if e.path = 66 then s.answerRemote e.originPc e.originPath e.route e.via (e.receipt reissued)
             else s.handReceipt e.path e.room (e.receipt reissued)
    if r.2 then (r.1.updEntry k (fun e => { e with delivered := true })).reapBook else r.1

/-- A command ends: its entry moves to DONE with status and data, and its receipt leaves (R347, R348). -/
def State.finish (s : State) (k : Nat) (st : Status) (data : List Byte) : State :=
  let s := s.updEntry k (fun e => { e with state := .done, status := st, data := data, doneAt := s.now, body := false })
  s.deliver k false

/-- The entry that waits on an object, by opcode. -/
def State.waiter (s : State) (op object : Nat) : Option Nat :=
  (s.cmd.book.find? (fun e => e.2.opcode == op && e.2.state == .running && e.2.started && e.2.wait == object)).map (·.1)

/-- The command that waits on an object ends, where there is one. -/
def State.finishWaiter (s : State) (op object : Nat) (st : Status) (data : List Byte) : State :=
  match s.waiter op object with
  | some k => s.finish k st data
  | none => s

/-- Every command that waits on an object ends. -/
def State.finishWaiters (s : State) (op object : Nat) (st : Status) (data : List Byte) : State :=
  forAll (mkeys s.cmd.book (fun e => e.opcode == op && e.state == .running && e.started && e.wait == object)) s
    (fun s k => s.finish k st data)

/-- A receipt for a packet that left no entry (R343), or on the service port a STALL with LAST_REJECT (R308). -/
def State.refusePacket (s : State) (h : CmdHdr) (op : Nat) (st : Status) (stale : Bool) : State :=
  let s := s.bump Cnt.HUB_CMDS_REFUSED
  let s := if stale then s.bump Cnt.HUB_STALE_SEQ else s
  let r : Receipt :=
    { opcode := op, tag := h.tag.toNat, hostSeq := h.hostSeq.toNat, status := st, reissued := false,
      remote := false, stale := stale, noEffect := false, cut := false, phase := false, data := [] }
  if h.path.val = 66 then (s.answerRemote h.originPc.toNat h.originPath.val h.route.val h.via r).1
  else if h.path.val = 64 then
    ((s.set Reg.SVC_STATE_LAST_REJECT st.code).bump Cnt.USB_CMD_REJECTED).emit (.refused 64 st)
  else (s.handReceipt h.path.val 4080 r).1

/-- Checks 1 and 3 of R343 on the header. -/
def hdrLengthOk (h : CmdHdr) : Bool := decide (32 ≤ h.length.val) && decide (h.length.val ≤ 4096)
def hdrFieldsOk (h : CmdHdr) : Bool :=
  h.route.val != 3 && (h.route.val != 2 || h.port.val != 3) && decide (h.timeoutMs.toNat ≤ 10000)

/-- What R346 makes of a packet's HOST_SEQ. -/
inductive Admission
  | new
  | resume (k : Nat)
  | again
  | reissue (k : Nat)
  | busy (k : Nat)
  | refuse (st : Status) (stale : Bool)
deriving DecidableEq, Repr

/-- The path holds a RUNNING entry. -/
def State.pathRunning (s : State) (path : Nat) : Bool :=
  s.cmd.book.any (fun e => e.2.path == path && e.2.state == .running)

/-- R345, R346 and R359. An entry that is RUNNING and not started is the command itself coming to its execution. A read opcode is
executed again whatever the held entry holds, which its rule puts before the refusal (R346). [Log entry 19: DEDUCED] -/
def State.admission (s : State) (h : CmdHdr) (op : Nat) : Admission :=
  let path := h.path.val
  let seq := h.hostSeq.toNat
  match s.findEntry path seq h.originPc.toNat h.originPath.val with
  | some (k, e) =>
    let same := e.opcode == op && e.crc == h.crc.toNat
    if same && e.state == .running && !e.started then .resume k
    else if isReadOp op && path != 66 then .again
    else if !same then .refuse .badParam true
    else if e.state == .done then .reissue k
    else .busy k
  | none =>
    if path = 66 then (if h.repeat_ then .refuse .badParam true else .new)
    else if s.mem.paths.contains path && !h.resync then .refuse .badParam false
    else if seq = s.expected path then .new
    else if isReadOp op && serialBefore 32 seq (s.expected path) then .again
    else if h.resync then (if s.pathRunning path then .refuse .busyRetry false else .new)
    else if serialBefore 32 seq (s.expected path) then .refuse .badParam true
    else .refuse .badParam false

/-- A new entry of the book (R346, R347); `none` where the book has no number free. -/
def State.enter (s : State) (h : CmdHdr) (op : Nat) (params : List Byte) (room : Nat) : Option (Nat × State) :=
  match mfree s.cmd.book 512 with
  | none => none
  | some k =>
    let path := h.path.val
    let e : BookEntry :=
      { state := .running, body := decide (h.paramLen ≤ 196), relayed := false, delivered := false, started := false,
        path := path, originPc := if path = 66 then h.originPc.toNat else s.postcode,
        originPath := if path = 66 then h.originPath.val else path, status := .ok, data := [],
        params := if h.paramLen ≤ 196 then params else [], opcode := op,
        tag := h.tag.toNat, hostSeq := h.hostSeq.toNat, length := h.length.val, dstPc := h.dstPc.toNat,
        route := h.route.val, port := h.port.val, resync := h.resync, timeoutMs := h.timeoutMs.toNat, crc := h.crc.toNat, via := h.via,
        wait := 0, room := room, relayedAt := 0, enteredAt := s.now, doneAt := 0, farStale := false, farNoEffect := false, remote := false }
    let s := s.setBook (mput s.cmd.book k e)
    let s := { s with mem := { s.mem with paths := s.mem.paths.erase path } }
    let s := if path = 66 then s.bump Cnt.HUB_REMOTE_ENTERED
             else s.setExpected path ((h.hostSeq.toNat + 1) % 2 ^ 32)
    let s := s.bump Cnt.HUB_CMDS_ENTERED
    let s := if path = 64 then s.bump Cnt.USB_CMD_ACCEPTED else s
    some (k, (s.activity 0x11).reapBook)

/-- The commands of two entries stand in one sequence: that of their path, on the remote path that of their originator (R345, R346). -/
def BookEntry.sameSequence (e o : BookEntry) : Bool :=
  e.path == o.path && (e.path != 66 || (e.originPc == o.originPc && e.originPath == o.originPath))

/-- An entry waits its turn (R350): another command of its path is under way, or one before it in their sequence is not DONE. -/
def State.blocked (s : State) (k : Nat) : Bool :=
  match mget s.cmd.book k with
  | none => false
  | some e => s.cmd.book.any (fun o => o.1 != k && o.2.state == .running && o.2.path == e.path &&
      (o.2.started || (o.2.sameSequence e && serialBefore 32 o.2.hostSeq e.hostSeq)))

/-- The command is for this hub itself (R357). -/
def State.forThisHub (s : State) (h : CmdHdr) : Bool :=
  h.path.val == 66 || h.route.val == 0 || (h.route.val == 1 && h.dstPc.toNat == s.postcode && s.addrValid)

/-- A packet leaves as a COMMAND message (R357), under ROUTE 2 by its port; the second part says whether it has a way. -/
def State.sendCommand (s : State) (h : CmdHdr) (op : Nat) (params : List Byte) (again : Bool) : State × Bool :=
  let m : Box0Msg := .command again h.path.val (cmdHdrBytes h op ++ params)
  if h.route.val = 2 then
    match PortId.ofCode h.port.val with
    | some p => if s.active p then (s.postMgmt (some p) 0 m, true) else (s, false)
    | none => (s, false)
  else s.sendBox0 h.dstPc.toNat m

/-- A relayed command leaves, its entry waiting for the receipt (R357); where no route leads to the
target it ends with UNREACHABLE, while a repeat that finds none leaves it waiting. [Log entry 24: DESIGN CHOICE] -/
def State.relay (s : State) (k : Nat) (h : CmdHdr) (op : Nat) (params : List Byte) (again : Bool) : State :=
  let s := if again then s
    else (s.updEntry k (fun e => { e with relayed := true, started := true, relayedAt := s.boot.ticks })).bump Cnt.HUB_RELAYED
  let r := s.sendCommand h op params again
  if r.2 || again then r.1 else r.1.finish k .unreachable []

/-- The opcodes recovery executes (R479). -/
def recoveryOp (op : Nat) : Bool := op == 0x0002 || op == 0x0003 || op == 0x0F00 || op == 0x0F01 || op == 0x0030

/-- The opcodes a port in commissioning mode carries (R435); the staging ones only for LINK_SLOT. -/
def commissionOp (op : Nat) : Bool :=
  [0x0002, 0x0003, 0x0100, 0x0101, 0x0010, 0x0600, 0x0601, 0x0602, 0x0020, 0x0021, 0x0022, 0x0023, 0x0024].contains op

/-- A command came over a port in commissioning mode (R435). -/
def State.overCommissioning (s : State) (h : CmdHdr) : Bool :=
  match h.via with
  | some p =>
    let slot := match p with
      | .a => s.get Reg.LINK_SLOT_SLOT_A
      | .b => s.get Reg.LINK_SLOT_SLOT_B
      | .c => s.get Reg.LINK_SLOT_SLOT_C
    slot == 0 && !bitOf (s.get Reg.SEC_STATE_POLICY) 2
  | none => false

/-- Check 9 as R29, R345, R435 and R479 set it for every opcode. [Log entry 21: DESIGN CHOICE] -/
def State.opPermitted (s : State) (h : CmdHdr) (op : Nat) : Bool :=
  (s.get Reg.BOOT_STATE_STAGE != 5 || recoveryOp op) && (!s.overCommissioning h || commissionOp op) &&
  (s.addrValid || h.path.val == 64 || h.path.val == 65 || (h.path.val == 66 && h.route.val == 2))

/-- An opcode's body run on an entry: check 7, then its own checks, with check 9 after a range that fails (R343), and its effect. -/
def State.execute (s : State) (k : Nat) (h : CmdHdr) (op : Nat) (fits : Bool) (body : Nat → State → State × CmdEnd) : State :=
  let s := s.updEntry k (fun e => { e with started := true })
  if !(paramLenOk op h.paramLen && fits) then s.finish k .badLength []
  else
    match body k s with
    | (t, .done st data) => if st != .badParam && !s.opPermitted h op then s.finish k .notPermitted [] else t.finish k st data
    | (t, .waits o) => if s.opPermitted h op then t.updEntry k (fun e => { e with wait := o }) else s.finish k .notPermitted []

/-- An entry comes to its execution: here, or relayed, or later where its path is busy (R350, R357). What the hub may not take on this path
is not relayed either (R29, R479). [Log entry 18: DESIGN CHOICE] -/
def State.start (s : State) (k : Nat) (h : CmdHdr) (op : Nat) (params : List Byte) (fits : Bool) (body : Nat → State → State × CmdEnd) : State :=
  if s.blocked k then s
  else if s.forThisHub h then s.execute k h op fits body
  else if s.opPermitted h op then s.relay k h op params false
  else (s.updEntry k (fun e => { e with started := true })).finish k .notPermitted []

/-- A read that is to be executed again (R346), as its packet came with room for its receipt. -/
def reread (h : CmdHdr) (op room : Nat) : Reread :=
  { path := h.path.val, hostSeq := h.hostSeq.toNat, room := room, opcode := op, tag := h.tag.toNat, dstPc := h.dstPc.toNat,
    route := h.route.val, timeoutMs := h.timeoutMs.toNat, relayedAt := none }

/-- A read is the one that path and HOST_SEQ name. -/
def Reread.is (x : Reread) (path hostSeq : Nat) : Bool := x.path == path && x.hostSeq == hostSeq

/-- The read waits among those that are executed again, once. -/
def State.holdRead (s : State) (x : Reread) : State :=
  { s with cmd := { s.cmd with rereads := s.cmd.rereads.filter (fun y => !y.is x.path x.hostSeq) ++ [x] } }

/-- A read executed again ends: its receipt is a new one (R346). -/
def State.answerRead (s : State) (x : Reread) (st : Status) (data : List Byte) (remote : Bool) : State :=
  let r : Receipt :=
    { opcode := x.opcode, tag := x.tag, hostSeq := x.hostSeq, status := st, reissued := false,
      remote := remote, stale := false, noEffect := false, cut := false, phase := false, data := data }
  let s := { s with cmd := { s.cmd with rereads := s.cmd.rereads.filter (fun y => !y.is x.path x.hostSeq) } }
  (s.handReceipt x.path x.room r).1

/-- A read opcode executed again without an entry (R346): here, or at the hub it names, to which it goes as a new command. [Log entries 19: DEDUCED,
235: DESIGN CHOICE] -/
def State.readAgain (s : State) (h : CmdHdr) (op : Nat) (params : List Byte) (fits : Bool) (body : Nat → State → State × CmdEnd) : State :=
  let x := (s.cmd.rereads.find? (fun y => y.is h.path.val h.hostSeq.toNat)).getD (reread h op 4080)
  if !s.forThisHub h then
    if s.opPermitted h op then
      let r := s.sendCommand h op params false
      if r.2 then (r.1.holdRead { x with relayedAt := some s.boot.ticks }).bump Cnt.HUB_RELAYED else r.1.answerRead x .unreachable [] false
    else s.answerRead x .notPermitted [] false
  else if !(paramLenOk op h.paramLen && fits) then s.answerRead x .badLength [] false
  else
    match body 512 s with
    | (t, .done st data) => if st != .badParam && !s.opPermitted h op then s.answerRead x .notPermitted [] false else t.answerRead x st data false
    | (t, .waits _) => if s.opPermitted h op then t else s.answerRead x .notPermitted [] false

/-- A repeat of a RUNNING entry (R346): BUSY_RETRY with REISSUED; a relayed one is sent again with REPEAT = 1 (R359). -/
def State.repeatBusy (s : State) (h : CmdHdr) (params : List Byte) (k : Nat) : State :=
  match mget s.cmd.book k with
  | none => s
  | some e =>
    let s := s.bump Cnt.HUB_REPEATS_REISSUED
    let r := { e.receipt true with status := .busyRetry, data := [] }
    if h.path.val = 66 then (s.answerRemote e.originPc e.originPath e.route e.via r).1
    else
      let s := (s.handReceipt h.path.val e.room r).1
      if e.relayed then s.relay k h e.opcode params true else s

/-- THE FRAME OF EVERY OPCODE: a packet with that opcode comes to a path that takes packets and is checked, admitted, entered
and executed (R343 to R350, R357). `params` are the bytes of its parameters (R340); `fits` says that the lists of the command have the counts its length allows. [Log entries 17: DESIGN CHOICE, 18: DESIGN CHOICE] -/
def State.runOpcode (s : State) (h : CmdHdr) (op : Nat) (params : List Byte) (fits : Bool) (body : Nat → State → State × CmdEnd) : State :=
  if !s.ready then s.emit (.held h.path.val)
  else if !hdrLengthOk h then s.refusePacket h op .badLength false
  else if !hdrFieldsOk h then s.refusePacket h op .badParam false
  else if !s.skUp then s.refusePacket h op .hwFault false
  else
    match s.admission h op with
    | .refuse st stale => s.refusePacket h op st stale
    | .again => s.readAgain h op params fits body
    | .reissue k => (s.bump Cnt.HUB_REPEATS_REISSUED).deliver k true
    | .busy k => s.repeatBusy h params k
    | .resume k => s.start k h op params fits body
    | .new =>
      if s.entryFree h.path.val then
        match s.enter h op params 4080 with
        | some (k, s) => s.start k h op params fits body
        | none => s.refusePacket h op .busyRetry false
      else s.refusePacket h op .busyRetry false

end Machine
end Sys2Proof
end

