-- ==== Sys2Proof/Machine/Timing.lean ====
section
/-!
DEFINITION. Shared operations of the round: rivalry (R52), the loop (R58 to R61), record flooding (R51), sending, taking a
master (R63), and the end of a swap (R73).
-/
namespace Sys2Proof
namespace Machine

def State.setRt (s : State) (r : RoundSt) : State := { s with rt := r }

/-- The hub's own time set to an arrival within the round. -/
def State.at (s : State) (ns : Nat) : State := s.setRt { s.rt with ns := ns }

/-- Epoch in force (R80). -/
def State.epoch (s : State) : Nat := s.get Reg.TIMING_EPOCH

/-- The master followed (R80). -/
def State.master (s : State) : Nat := s.get Reg.MASTER_SEEN_MASTER_PC

/-- MASTER_PRIORITY of the hub (R52); it counts as 0 while both copies of the stored round are lost (R461). -/
def State.priority (s : State) : Nat := if s.mem.roundLost then 0 else s.get Reg.ROUND_CFG_MASTER_PRIORITY

/-- A timing state taken: TIMING_STATE_CHANGED at each change (R82), the round counts of the state from 0. -/
def State.setTiming (s : State) (t : Nat) : State :=
  let old := s.timing
  if old = t then s
  else
    let s := (s.set Reg.TIMING_STATE t).setRt { s.rt with stateRounds := 0, goodRounds := 0, badRounds := 0, missedHdrs := 0 }
    s.notice 0x8010 [old, t]

/-- A rival of this epoch, priority and postcode wins over a master of that epoch, priority and postcode (R52). -/
def winsOver (epoch pri pc hEpoch hPri hPc : Nat) : Bool :=
  if serialBefore 16 hEpoch epoch then true
  else if epoch ≠ hEpoch then false
  else if pc = hPc then false
  else if hPri ≠ pri then decide (hPri < pri)
  else decide (pc < hPc)

/-- A rival with this epoch, priority and postcode wins over the master the hub holds (R52); where the hub holds none, any
does. [Log entry 41: DESIGN CHOICE] -/
def State.rivalWins (s : State) (epoch pri pc : Nat) : Bool :=
  !s.rt.masterKnown || winsOver epoch pri pc s.epoch s.rt.masterPri s.master

/-- A rival wins over the master already accepted for the next boundary, where there is one (R52, R75). -/
def State.winsPending (s : State) (epoch pri pc : Nat) : Bool :=
  match s.rt.accepted with
  | some a => winsOver epoch pri pc a.epoch a.pri a.master
  | none => true

/-- An epoch is current or winning for a header (R58). A header carries no priority, so only its epoch is weighed. [Log entry 47: DEDUCED] -/
def State.epochFits (s : State) (epoch : Nat) : Bool :=
  !s.rt.masterKnown || epoch == s.epoch || serialBefore 16 s.epoch epoch

/-- The hop delay d of a port, where it has been accepted (R57). -/
def State.hopDelay (s : State) (p : PortId) : Option Nat :=
  if s.flag (Reg.HOP_DELAY_VALID p.code) then some (s.get (Reg.HOP_DELAY_D_NS p.code)) else none

/-- A port qualifies as timing parent (R58). Until the collection mark the header of the boundary just past may still come, so
only the one before counts as missing. -/
def State.qualifies (s : State) (p : PortId) : Bool :=
  match mget s.rt.hdrs p.code with
  | some h => decide (h.age ≤ if s.rt.mark = 0 then 2 else 1) && s.epochFits h.epoch && (h.tstate == 2 || h.tstate == 4) && (s.hopDelay p).isSome &&
      decide (h.distance ≤ 254)
  | none => false

/-- DISTANCE in the last header of a port; 255 without one. -/
def State.distanceOf (s : State) (p : PortId) : Nat :=
  match mget s.rt.hdrs p.code with
  | some h => h.distance
  | none => 255

/-- The port in use as parent (R58). -/
def State.parent (s : State) : Option PortId := PortId.ofCode (s.get Reg.TIMING_PARENT)

/-- The qualifying port of smallest DISTANCE, ties in port order; a qualifying parent is kept unless another is at least 2
smaller (R58). -/
def State.bestParent (s : State) : Option PortId :=
  let best := allPorts.foldl (fun (o : Option PortId) p =>
    if s.qualifies p then
      match o with
      | some q => if s.distanceOf p < s.distanceOf q then some p else o
      | none => some p
    else o) none
  match s.parent, best with
  | some q, some n => if s.qualifies q && !decide (s.distanceOf n + 2 ≤ s.distanceOf q) then some q else some n
  | _, o => o

/-- A parent taken, with the hub's own DISTANCE (R58). -/
def State.setParent (s : State) (p : Option PortId) : State :=
  match p with
  | some p => (s.set Reg.TIMING_PARENT p.code).set Reg.TIMING_DISTANCE (min 254 (s.distanceOf p + 1))
  | none => (s.set Reg.TIMING_PARENT 3).set Reg.TIMING_DISTANCE 255

/-- The limits of i and p: 25 core clocks, in 1/65,536 (R59). -/
def loopLimit : Int := 25 * 65536

/-- L for the next round out of i and p (R59). -/
def loopLen (i p : Int) : Nat := (125000 * 65536 + i + p).toNat

/-- L of a round for which no sample came (R60): 125,000 in FREE, else 125,000 + i with p = 0. [Log entry 197: DESIGN CHOICE] -/
def State.restLen (s : State) : Nat := if s.timing = 0 then 125000 * 65536 else loopLen s.rt.i 0

/-- A loop sample (R59): i, p and L of the next round, which takes force at the boundary (R76), E_NS and FREQ, and the counts of R60. [Log entry 50: DEDUCED] -/
def State.loopSample (s : State) (e : Int) : State :=
  let i := clampInt (-loopLimit) loopLimit (s.rt.i + e * 256)
  let p := clampInt (-loopLimit) loopLimit (e * 8192)
  let s := s.setRt { s.rt with
    i := i, p := p, lNext := some (loopLen i p),
    goodRounds := if -8 ≤ e ∧ e ≤ 8 then s.rt.goodRounds + 1 else 0,
    badRounds := if e < -250 ∨ 250 < e then 4 else if e < -32 ∨ 32 < e then s.rt.badRounds + 1 else 0 }
  (s.setS Reg.PHASE_ERR_E_NS e).setS Reg.FREQ_FREQ_PPB (i * 8000 / 65536)

/-- i frozen and p = 0 from the next round on (R60, R76). -/
def State.freeze (s : State) : State := s.setRt { s.rt with p := 0, lNext := some (loopLen s.rt.i 0), pullIn := false }

/-- Slice tables from before a step are discarded: engines run the open table until one sealed after it takes force (R215). -/
def openTables (m : List (Nat × EngineSt)) : List (Nat × EngineSt) := m.map (fun e => (e.1, { e.2 with table := [], next := none }))

/-- A direction without its sheets: the round cut by a step has none, and those sealed for another round number are gone (R75). -/
def DirSt.cut (d : DirSt) (port : Nat) : DirSt := { d with sheet := Sheet.init port, next := none, spec := none, short := none }

/-- The mark of the round that a nanosecond count has passed (R45). -/
def markAt (ns : Nat) : Nat := if ns < 100000 then 0 else if ns < 118000 then 1 else 2

/-- A step of the round number and nanosecond count to a parent's time (R60), counted in STEPS; the cut round is discarded with no
sheet (R75). -/
def State.step60 (s : State) (ns : Int) : State :=
  let r := (ns / 125000).toNat
  let n := (ns % 125000).toNat
  let s := { s with eng := { s.eng with engines := openTables s.eng.engines }, tun := { s.tun with
    dirA := s.tun.dirA.cut 0, dirB := s.tun.dirB.cut 1, dirC := s.tun.dirC.cut 2 } }
  (s.setRt { s.rt with round := r % 2 ^ 47, ns := n, mark := markAt n, stepped := true, atFloor := false }).bump Cnt.ROUND_STEPS

/-- Nanoseconds of a postmark from round 0. -/
def postmarkTotal (q : Nat) : Int := (q / 131072 : Nat) * 125000 + (q % 131072 : Nat)

/-- FREE entered by hold-over expiry or for want of a parent (R60). -/
def State.enterFree (s : State) : State :=
  let s := (s.freeze.setParent none).setTiming 0
  s.setRt { s.rt with
    lNext := some (125000 * 65536), masterKnown := false, silent := 0, floor := max s.rt.floor (s.rt.storedRound + 16000),
    epochFloor := if serialBefore 16 s.rt.epochFloor s.rt.storedEpoch then s.rt.storedEpoch else s.rt.epochFloor }

/-- ACQUIRE entered with a parent; a step is due (R60). -/
def State.enterAcquire (s : State) (p : PortId) : State :=
  let s := (s.setParent (some p)).setTiming 1
  s.setRt { s.rt with stepped := false, pullIn := false }

/-- HOLDOVER entered with i frozen (R60, R52). -/
def State.enterHoldover (s : State) : State := s.freeze.setTiming 3

/-- A record the hub sends for a round (R49): HOPS 320, its own postcode and priority. Its blocks and CRC-16 come as it is sent. -/
def State.record (s : State) (epoch round subject aux : Nat) : Rec :=
  { hops := 320, epoch := BitVec.ofNat 16 epoch, round := Fin.ofNat (2 ^ 47) round, origin := BitVec.ofNat 16 s.postcode,
    subject := BitVec.ofNat 16 subject, aux := BitVec.ofNat 16 aux, priority := Fin.ofNat 16 s.priority, blocks := [], consecutive := true,
    flagged := false, crc := 0 }

/-- A BEAT, TAKEOVER or CLAIM has crossed a port's link, so that the neighbour there accepts its epoch too (R51, R63). [Log entry 198: DEDUCED] -/
def State.noteKnown (s : State) (p : PortId) (type epoch : Nat) : State :=
  if type ≤ 3 then s.setRt { s.rt with known := mput s.rt.known p.code (epoch, 0) } else s

/-- Blocks of the striped stream dealt over the lanes of TX_MASK in turn (R86): the place of the next one in the group. [Log entry 218: DESIGN CHOICE] -/
def State.dealt (s : State) (p : PortId) (n : Nat) : State := s.updPort p (fun x => { x with dealt := x.dealt + n })

/-- A record sent on every ACTIVE trunk port but one (R51). -/
def State.flood (s : State) (type : Nat) (r : Rec) (but : Option PortId) : State :=
  forAll allPorts s (fun s q =>
    if s.active q && but != some q then ((s.emit (.record q type (framedRec type r))).dealt q 3).noteKnown q type r.epoch.toNat else s)

/-- The identity of a record (R51). -/
def recId (type : Nat) (r : Rec) : RecId := ⟨type, r.epoch.toNat, r.round.val, r.origin.toNat⟩

/-- A record the hub makes is sent on every ACTIVE port, and known as its own. -/
def State.sendRecord (s : State) (type : Nat) (r : Rec) : State :=
  (s.setRt { s.rt with flooded := recId type r :: s.rt.flooded }).flood type r none

/-- A record due at the next boundary. -/
def State.sendLater (s : State) (o : RecOut) : State := s.setRt { s.rt with sends := s.rt.sends ++ [o] }

/-- The floors of R53 raised by a record or header received since start-up. [Log entries 47: DEDUCED, 48: DEDUCED] -/
def State.raiseFloor (s : State) (round epoch : Nat) : State :=
  s.setRt { s.rt with
    floor := max s.rt.floor round,
    epochFloor := if serialBefore 16 s.rt.epochFloor epoch then epoch else s.rt.epochFloor }

/-- A flooded record arrives (R51, R90): discarded where it is not intact, where HOPS is 0 or where a copy came before;
otherwise relayed with HOPS one less, and acted on; it raises the floors of R53. -/
def State.takeRecord (s : State) (p : PortId) (ns : Ns) (type : Nat) (r : Rec) (act : State → State) : State :=
  if !s.streams p then s
  else
    let s := s.at ns.val
    if !recIntact type r then s.bump (Cnt.TRK_CONTROL_DISCARDED p.code)
    else if r.hops.val = 0 then s.bump Cnt.ROUND_RECORDS_DISCARDED
    else if s.rt.flooded.contains (recId type r) then s
    else
      let s := s.setRt { s.rt with flooded := recId type r :: s.rt.flooded }
      let s := s.flood type { r with hops := Fin.ofNat 512 (r.hops.val - 1) } (some p)
      act ((s.noteKnown p type r.epoch.toNat).raiseFloor r.round.val r.epoch.toNat)

/-- SWAP_ENDED and the receipt of ROUND_MASTER_SWAP (R73): the swap is over, done or cancelled. [Log entry 44: DESIGN CHOICE] -/
def State.endSwap (s : State) (st : Status) (round epoch : Nat) : State :=
  match s.rt.swap with
  | none => s
  | some w =>
    let s := s.setRt { s.rt with swap := none, go := if st == .ok then s.rt.go else none }
    let s := if st == .ok then s.bump Cnt.ROUND_SWAPS_DONE else s.bump Cnt.ROUND_SWAPS_CANCELLED
    let s := s.notice 0x8012 [st.code]
    match w.cmd with
    | some (k, seq) =>
      match mget s.cmd.book k with
      | some e =>
        if e.state == .running && e.opcode = 0x0110 && e.hostSeq = seq
        then s.finish k st (leBytes 8 round ++ leBytes 2 epoch ++ leBytes 2 0) else s
      | none => s
    | none => s

/-- The hub's swap is under way (R74): from the boundary of S to the collection mark of E−1. -/
def State.swapUnder (s : State) : Bool :=
  match s.rt.swap with
  | some w => w.e == 0 || decide (s.rt.round + 1 < w.e) || (decide (s.rt.round + 1 = w.e) && s.rt.mark == 0)
  | none => false

/-- A swap that a TAKEOVER, or another new master, overtakes (R75). -/
def State.overtakeSwap (s : State) : State := s.endSwap .busyRetry s.rt.round s.epoch

/-- The GO held names this record's originator as the master of its epoch (R71). -/
def State.goNames (s : State) (r : Rec) : Bool :=
  match s.rt.go with
  | some g => g.epoch == r.epoch.toNat && g.master == r.origin.toNat
  | none => false

/-- A master accepted for the next boundary (R63). Where it is not the one that a GO names, it wins over the swap and its GO (R75).
[Log entry 199: DEDUCED] -/
def State.accept (s : State) (r : Rec) (takeover : Bool) : State :=
  let s := s.setRt { s.rt with accepted := some ⟨r.epoch.toNat, r.origin.toNat, r.priority.val, takeover⟩ }
  if s.goNames r then s else (s.overtakeSwap).setRt { s.overtakeSwap.rt with go := none }

/-- A beat, or a CLAIM that counts as one, kept where it reaches the hub by the collection mark of the round it names (R64),
with BEAT_ARRIVAL (R65). -/
def State.noteBeat (s : State) (r : Rec) : State :=
  let inRound := decide (r.round.val = s.rt.round) && s.rt.mark == 0
  let ahead := decide (r.round.val = s.rt.round + 1)
  if inRound || ahead then
    let arrival : Int := if ahead then (s.rt.ns : Int) - 125000 else s.rt.ns
    let s := s.setS Reg.BEAT_ARRIVAL_NS arrival
    s.setRt { s.rt with beats := (⟨r.round.val, r.epoch.toNat, r.origin.toNat⟩ :: s.rt.beats).take 4 }
  else s.bump Cnt.ROUND_BEATS_LATE

/-- The beat of a round is held. -/
def State.beatOf (s : State) (round : Nat) : Option BeatSeen := s.rt.beats.find? (fun b => b.round == round)

/-- Two beats have one master reference: one epoch, or E−1 and E across an accepted GO (R66). -/
def State.sameReference (s : State) (a b : BeatSeen) : Bool :=
  a.epoch == b.epoch ||
  (match s.rt.go with
   | some g => g.epoch == b.epoch && g.e == b.round
   | none => false)

/-- The sheet for round M may carry ISO frames (R66). -/
def State.isoAllowed (s : State) (m : Nat) : Bool :=
  match s.beatOf (m - 2), s.beatOf (m - 1) with
  | some a, some b => decide (2 ≤ m) && s.sameReference a b
  | _, _ => false

/-- A deadline of R70 has passed at the collection mark for the phase the swap stands in. [Log entry 43: DEDUCED] -/
def Swap.overdue (w : Swap) (round mark : Nat) : Bool :=
  (w.phase == .awaitAgree || w.phase == .awaitGo || w.phase == .awaitReady) && decide (1 ≤ mark) && decide (w.round + 1 ≤ round)

/-- The check of the deadlines (R70, R76): the master owes a SWAP_CANCEL at the seal mark, and the swap ends with TIMEOUT. [Log entry 43: DEDUCED] -/
def State.checkSwap (s : State) : State :=
  match s.rt.swap with
  | none => s
  | some w =>
    if w.overdue s.rt.round s.rt.mark then
      let s := if w.asMaster then s.setRt { s.rt with cancelDue := some w.peer } else s
      s.endSwap .timeout s.rt.round s.epoch
    else s

/-- The epoch of a new master, taken at a boundary: the hubs that the record reached by the same flood take it at theirs (R63). [Log entry 198: DEDUCED] -/
def State.takeEpoch (s : State) (epoch : Nat) : State :=
  (s.set Reg.TIMING_EPOCH epoch).setRt { s.rt with
    known := (allPorts.filter (fun p => s.active p)).map (fun p => (p.code, (epoch, 0))) }

/-- The role of round master taken at a boundary: STATE, MASTER_PC, EPOCH, HUB_ROLES; i stays frozen and L is 125,000 + i (R60, R76). -/
def State.becomeMaster (s : State) (epoch : Nat) (named : Option (Nat × Nat)) : State :=
  let old := s.master
  let known := s.rt.masterKnown
  let s := (s.freeze.takeEpoch epoch).set Reg.MASTER_SEEN_MASTER_PC s.postcode
  let s := (s.set Reg.TIMING_DISTANCE 0).set Reg.TIMING_PARENT 3
  let s := s.setFlag Reg.HUB_ROLES_ROUND_MASTER true
  let s := s.setRt { s.rt with
    named := named, masterKnown := true, masterPri := s.priority, accepted := none, silent := 0, atFloor := false,
    l := loopLen s.rt.i 0, claimAux := none, takeover := false }
  let s := s.setTiming 4
  if known && old = s.postcode then s else s.notice 0x8011 [s.postcode, epoch]

/-- The successors named in a beat are shown (R55, R80): the originator's own postcode names none. -/
def State.showSuccessors (s : State) (origin deputy reserve : Nat) : State :=
  let s := (s.set Reg.SUCCESSORS_SEEN_DEPUTY_PC deputy).set Reg.SUCCESSORS_SEEN_RESERVE_PC reserve
  (s.setFlag Reg.TIMING_DEP_VALID (deputy != origin)).setFlag Reg.TIMING_RES_VALID (reserve != origin)

/-- The deputy and reserve the master names (R55, R67, R71). [Log entry 46: DESIGN CHOICE] -/
def State.successors (s : State) : Nat × Nat :=
  match s.rt.named with
  | some n => n
  | none => ((if s.flag Reg.ROUND_CFG_DEP_EN then s.get Reg.SUCCESSORS_DEPUTY_CFG else s.postcode),
             (if s.flag Reg.ROUND_CFG_RES_EN then s.get Reg.SUCCESSORS_RESERVE_CFG else s.postcode))

/-- The role of round master lost (R52, R74): HOLDOVER with i frozen and p = 0. -/
def State.loseRole (s : State) : State :=
  let s := (s.setFlag Reg.HUB_ROLES_ROUND_MASTER false).enterHoldover
  s.setRt { s.rt with l := loopLen s.rt.i 0, named := none, raise := 0 }

/-- A follower's new master takes force at a boundary (R63, R68): epoch, MASTER_PC and MASTER_CHANGED; a master that lost
enters HOLDOVER, and a claim or takeover of the hub's own that waited for the boundary is withdrawn (R53, R67). [Log entry 46: DESIGN CHOICE] -/
def State.takeMaster (s : State) (a : Accepted) : State :=
  let changed := decide (s.master ≠ a.master) || !s.rt.masterKnown
  let s := (s.takeEpoch a.epoch).set Reg.MASTER_SEEN_MASTER_PC a.master
  let s := s.setRt { s.rt with accepted := none, masterKnown := true, masterPri := a.pri, claimAux := none, takeover := false }
  let s := if s.timing = 4 then s.loseRole.setParent none else s
  if changed then s.notice 0x8011 [a.master, a.epoch] else s

end Machine
end Sys2Proof
end

