-- ==== Sys2Proof/Machine/Round.lean ====
section
/-!
DEFINITION. The round: the meanings of the round-control records, the swap, the delay records, the timing states, and the
timing part of a header, of the marks and of the boundary (R43 to R82).
-/
namespace Sys2Proof
namespace Machine

/-- A valid beat has come, whatever round it names: it ends the silence of R53 and withdraws a claim that waits for the boundary. -/
def State.hears (s : State) : State := s.setRt { s.rt with heard := true, silent := 0, claimAux := none }

/-- A BEAT (R64, R79): a winning rival's is accepted; the known master's counts, and names its successors; any other is
discarded. -/
def State.actBeat (s : State) (r : Rec) : State :=
  if s.rivalWins r.epoch.toNat r.priority.val r.origin.toNat && s.winsPending r.epoch.toNat r.priority.val r.origin.toNat then
    (((s.accept r false).hears.noteBeat r).showSuccessors r.origin.toNat r.aux.toNat r.subject.toNat)
  else if r.epoch.toNat = s.epoch && r.origin.toNat = s.master then
    ((s.setRt { s.rt with masterPri := r.priority.val }).hears.noteBeat r).showSuccessors r.origin.toNat r.aux.toNat r.subject.toNat
  else
    match s.rt.accepted with
    | some a => if a.epoch = r.epoch.toNat && a.master = r.origin.toNat
        then (s.hears.noteBeat r).showSuccessors r.origin.toNat r.aux.toNat r.subject.toNat
        else s.bump Cnt.ROUND_RECORDS_DISCARDED
    | none => s.bump Cnt.ROUND_RECORDS_DISCARDED

def execBeat (p : PortId) (ns : Ns) (r : Rec) (s : State) : Result :=
  .next (s.takeRecord p ns 0x01 r (fun s => s.actBeat r))

/-- A TAKEOVER (R68; counted in TAKEOVERS where it is accepted, as where the hub sends it, DEDUCED): accepted from the deputy or reserve named in the last beat with EPOCH one above; it counts as no beat. [Log entry 53: DEDUCED] -/
def execTakeover (p : PortId) (ns : Ns) (r : Rec) (s : State) : Result :=
  .next (s.takeRecord p ns 0x02 r (fun s =>
    let named := (s.flag Reg.TIMING_DEP_VALID && s.get Reg.SUCCESSORS_SEEN_DEPUTY_PC == r.origin.toNat) ||
                 (s.flag Reg.TIMING_RES_VALID && s.get Reg.SUCCESSORS_SEEN_RESERVE_PC == r.origin.toNat)
    if named && decide (r.epoch.toNat = (s.epoch + 1) % 65536) && s.winsPending r.epoch.toNat r.priority.val r.origin.toNat then
      (s.bump Cnt.ROUND_TAKEOVERS).accept r true
    else s.bump Cnt.ROUND_RECORDS_DISCARDED))

/-- A CLAIM (R52, R54): a hub in FREE whose floor lies above an AUX = 1 claim's round sends RAISE at its next boundary; a
winning claim is accepted and counts as the beat of its round. [Log entry 41: DESIGN CHOICE] -/
def execClaim (p : PortId) (ns : Ns) (r : Rec) (s : State) : Result :=
  .next (s.takeRecord p ns 0x03 r (fun s =>
    let s := if s.timing = 0 && decide (r.aux.toNat = 1) && decide (r.round.val < s.rt.floor)
      then s.sendLater ⟨0x04, r.epoch.toNat, s.rt.floor, r.origin.toNat, 0⟩ else s
    if s.rivalWins r.epoch.toNat r.priority.val r.origin.toNat && s.winsPending r.epoch.toNat r.priority.val r.origin.toNat then
      (s.accept r false).hears.noteBeat r
    else if r.origin.toNat = s.master && r.epoch.toNat = s.epoch then s.hears.noteBeat r
    else s.bump Cnt.ROUND_RECORDS_DISCARDED))

/-- A RAISE (R54): the master of its epoch takes the highest round above its own at its next boundary, also where that is the
number the boundary brings anyway. -/
def execRaise (p : PortId) (ns : Ns) (r : Rec) (s : State) : Result :=
  .next (s.takeRecord p ns 0x04 r (fun s =>
    if s.timing = 4 && r.subject.toNat = s.postcode then
      if r.epoch.toNat = s.epoch && decide (s.rt.round < r.round.val)
      then s.setRt { s.rt with raise := max s.rt.raise r.round.val }
      else s.bump Cnt.ROUND_RECORDS_DISCARDED
    else s))

/-- The retry offset a refusal carries: 0 stands for NOT_PERMITTED, another for BUSY_RETRY (R50, R73). [Log entry 54: DEDUCED] -/
def State.refuseSwap (s : State) (peer aux : Nat) : State := s.sendLater ⟨0x13, s.epoch, s.rt.round + 1, peer, aux⟩

/-- A takeover, claim or swap is under way (R72). -/
def State.roundBusy (s : State) : Bool :=
  s.rt.swap.isSome || s.rt.takeover || s.rt.claimAux.isSome || s.rt.accepted.isSome

/-- A candidate may not take the role (R72). -/
def State.notCandidate (s : State) : Bool := s.priority == 0 || !s.addrValid || s.timing != 2

/-- A SWAP_OFFER (R70, R72, R75): the named candidate answers at the next boundary. An ASK of its own that has not left is
not sent; one sent at the same boundary is cancelled with the offer. [Log entry 54: DEDUCED] -/
def execSwapOffer (p : PortId) (ns : Ns) (r : Rec) (s : State) : Result :=
  .next (s.takeRecord p ns 0x10 r (fun s =>
    if r.subject.toNat ≠ s.postcode then s
    else if r.origin.toNat ≠ s.master then s.bump Cnt.ROUND_RECORDS_DISCARDED
    else
      match s.rt.swap with
      | some w =>
        if !w.asMaster && w.phase == .requestDue && w.peer = r.origin.toNat then
          s.setRt { s.rt with swap := some { w with phase := .agreeDue, round := s.rt.round, offer := true } }
        else if !w.asMaster && w.phase == .awaitGo && !w.offer && w.round = r.round.val then
          let retry := if r.origin.toNat < s.postcode then w.round + 4 else w.round + 16
          (s.setRt { s.rt with swapRetry := retry }).endSwap .busyRetry retry s.epoch
        else s.refuseSwap r.origin.toNat 16
      | none =>
        if s.notCandidate then s.refuseSwap r.origin.toNat 0
        else if s.roundBusy then s.refuseSwap r.origin.toNat 16
        else
          s.setRt { s.rt with
            swap := some ⟨false, true, r.origin.toNat, r.priority.val, .agreeDue, s.rt.round, 0, 0, none⟩ }))

/-- A SWAP_ASK (R70, R72, R75): the master answers GO or REFUSE at the next boundary. Of two candidates the winner of R52 is
served; an OFFER of the master's own stands. [Log entry 54: DEDUCED] -/
def execSwapAsk (p : PortId) (ns : Ns) (r : Rec) (s : State) : Result :=
  .next (s.takeRecord p ns 0x11 r (fun s =>
    if r.subject.toNat ≠ s.postcode then s
    else if s.timing ≠ 4 then s.refuseSwap r.origin.toNat 0
    else
      match s.rt.swap with
      | some w =>
        if w.asMaster && w.offer && w.peer = r.origin.toNat && w.phase == .awaitAgree && w.round = r.round.val then
          let retry := if r.origin.toNat < s.postcode then w.round + 4 else w.round + 16
          (s.setRt { s.rt with swapRetry := retry }).endSwap .busyRetry retry s.epoch
        else if w.asMaster && !w.offer && w.phase == .goDue && w.round = s.rt.round &&
            (decide (w.peerPri < r.priority.val) || (w.peerPri == r.priority.val && decide (r.origin.toNat < w.peer))) then
          let s := s.refuseSwap w.peer 16
          s.setRt { s.rt with swap := some { w with peer := r.origin.toNat, peerPri := r.priority.val } }
        else s.refuseSwap r.origin.toNat 16
      | none =>
        let unlocked := s.rt.hdrs.any (fun h => h.2.sender == r.origin.toNat && h.2.tstate != 2)
        if unlocked then s.refuseSwap r.origin.toNat 0
        else if s.roundBusy then s.refuseSwap r.origin.toNat 16
        else
          s.setRt { s.rt with
            swap := some ⟨true, false, r.origin.toNat, r.priority.val, .goDue, s.rt.round, 0, 0, none⟩ }))

/-- A SWAP_AGREE (R70): the master sends GO at the next boundary. -/
def execSwapAgree (p : PortId) (ns : Ns) (r : Rec) (s : State) : Result :=
  .next (s.takeRecord p ns 0x12 r (fun s =>
    match s.rt.swap with
    | some w =>
      if r.subject.toNat = s.postcode && w.asMaster && w.phase == .awaitAgree && w.peer = r.origin.toNat &&
          s.rt.round ≤ w.round + 1 then
        s.setRt { s.rt with swap := some { w with phase := .goDue, peerPri := r.priority.val } }
      else if r.subject.toNat = s.postcode then s.bump Cnt.ROUND_RECORDS_DISCARDED else s
    | none => if r.subject.toNat = s.postcode then s.bump Cnt.ROUND_RECORDS_DISCARDED else s))

/-- A SWAP_REFUSE (R72, R73): the swap ends, NOT_PERMITTED where AUX is 0, else BUSY_RETRY with the first round of retry. -/
def execSwapRefuse (p : PortId) (ns : Ns) (r : Rec) (s : State) : Result :=
  .next (s.takeRecord p ns 0x13 r (fun s =>
    match s.rt.swap with
    | some w =>
      if r.subject.toNat = s.postcode && w.peer = r.origin.toNat && (w.phase == .awaitAgree || w.phase == .awaitGo) then
        if r.aux.toNat = 0 then s.endSwap .notPermitted s.rt.round s.epoch
        else s.endSwap .busyRetry (r.round.val + r.aux.toNat) s.epoch
      else if r.subject.toNat = s.postcode then s.bump Cnt.ROUND_RECORDS_DISCARDED else s
    | none => if r.subject.toNat = s.postcode then s.bump Cnt.ROUND_RECORDS_DISCARDED else s))

/-- A SWAP_GO (R63, R71): every hub takes the named master and epoch at E; the candidate owes SWAP_READY. The reserve is the old
deputy; where the old master named none, the deputy postcode last seen, which is the old master's own. [Log entry 200: DESIGN CHOICE] -/
def execSwapGo (p : PortId) (ns : Ns) (r : Rec) (s : State) : Result :=
  .next (s.takeRecord p ns 0x14 r (fun s =>
    if r.origin.toNat = s.master && r.epoch.toNat = (s.epoch + 1) % 65536 then
      let s := s.setRt { s.rt with
        go := some ⟨r.round.val, r.epoch.toNat, r.subject.toNat, r.aux.toNat, s.get Reg.SUCCESSORS_SEEN_DEPUTY_PC⟩ }
      match s.rt.swap with
      | some w =>
        if r.subject.toNat = s.postcode && !w.asMaster && w.phase == .awaitGo then
          s.setRt { s.rt with
            swap := some { w with phase := .readyDue, round := s.rt.round, e := r.round.val, epoch := r.epoch.toNat } }
        else s
      | none => s
    else s.bump Cnt.ROUND_RECORDS_DISCARDED))

/-- A SWAP_READY (R70): the master knows that the candidate will take the role at E. -/
def execSwapReady (p : PortId) (ns : Ns) (r : Rec) (s : State) : Result :=
  .next (s.takeRecord p ns 0x15 r (fun s =>
    match s.rt.swap with
    | some w =>
      if r.subject.toNat = s.postcode && w.asMaster && w.phase == .awaitReady && w.peer = r.origin.toNat then
        s.setRt { s.rt with swap := some { w with phase := .awaitE } }
      else if r.subject.toNat = s.postcode then s.bump Cnt.ROUND_RECORDS_DISCARDED else s
    | none => if r.subject.toNat = s.postcode then s.bump Cnt.ROUND_RECORDS_DISCARDED else s))

/-- The time until which a CANCEL stops a swap at this hub: the seal mark of G+2, the round before E (R70). -/
def State.cancelInTime (s : State) (e : Nat) : Bool :=
  decide (s.rt.round + 1 < e) || (decide (s.rt.round + 1 = e) && decide (s.rt.mark < 2))

/-- A SWAP_CANCEL (R70): the swap is not done at this hub, where it comes before the seal mark of G+2. [Log entry 44: DESIGN CHOICE] -/
def execSwapCancel (p : PortId) (ns : Ns) (r : Rec) (s : State) : Result :=
  .next (s.takeRecord p ns 0x16 r (fun s =>
    let inTime := match s.rt.go with
      | some g => s.cancelInTime g.e
      | none => true
    if inTime then
      let s := s.setRt { s.rt with go := none }
      match s.rt.swap with
      | some w => if w.peer = r.origin.toNat || w.peer = r.subject.toNat then s.endSwap .timeout s.rt.round s.epoch else s
      | none => s
    else s))

/-- SWAP_DEADLINE (R70): the check the collection mark makes. [Log entry 43: DEDUCED] -/
def execSwapDeadline (s : State) : Result := .next s.checkSwap

/-- SWAP_PARTY_RESET (R74): the survivor owes SWAP_CANCEL by the seal mark, and the swap ends as not done, where it is
before the collection mark of E−1. -/
def execSwapPartyReset (s : State) : Result :=
  .next (match s.rt.swap with
    | none => s
    | some w =>
      if s.swapUnder then
        (s.setRt { s.rt with cancelDue := some w.peer }).endSwap .timeout s.rt.round s.epoch
      else s)

/-- DELAY_ASK (R57): answered with the turnaround measured; not relayed. -/
def execDelayAsk (p : PortId) (seq : Byte) (turnaround : BitVec 32) (s : State) : Result :=
  .next (if s.streams p then (s.emit (.delay p true seq.toNat turnaround.toNat)).dealt p 3 else s)

/-- The delay record of a port. -/
def State.delay (s : State) (p : PortId) : DelaySt := (mget s.rt.delays p.code).getD ⟨0, none, []⟩

/-- [Log entry 52: DESIGN CHOICE] -/
def State.setDelay (s : State) (p : PortId) (d : DelaySt) : State :=
  s.setRt { s.rt with delays := mput s.rt.delays p.code d }

/-- Numbers put in rising order. -/
def insertInt (x : Int) : List Int → List Int
  | [] => [x]
  | y :: ys => if x ≤ y then x :: y :: ys else y :: insertInt x ys

/-- The median of accepted samples (R57): the middle one in rising order, of an even number the lower of the two. [Log entry 45: DESIGN CHOICE] -/
def medianInt (l : List Int) : Int :=
  let sorted := l.foldr insertInt []
  (sorted[(sorted.length - 1) / 2]?).getD 0

/-- The delay correction of a port (R57, R80). -/
def State.asym (s : State) (p : PortId) : Int :=
  match p with
  | .a => s.getS Reg.ASYM_ASYM_A
  | .b => s.getS Reg.ASYM_ASYM_B
  | .c => s.getS Reg.ASYM_ASYM_C

/-- DELAY_ANSWER (R57, R79): the sample is accepted within 0 to 50,000 ns and 100 ns of the median, and d follows. -/
def execDelayAnswer (p : PortId) (seq : Byte) (turnaround : BitVec 32) (ns : Ns) (s : State) : Result :=
  .next (if !s.streams p then s
    else
      let s := s.at ns.val
      let d := s.delay p
      match d.asked with
      | some t1 =>
        if d.seq = seq.toNat then
          let sample := (postmarkDiff s.now t1 - (turnaround.toNat : Int)) / 2 + s.asym p
          let ok := decide (0 ≤ sample) && decide (sample ≤ 50000) &&
            (d.samples.isEmpty || (decide (medianInt d.samples - 100 ≤ sample) && decide (sample ≤ medianInt d.samples + 100)))
          if ok then
            let l := (sample :: d.samples).take 8
            let s := s.setDelay p ⟨d.seq, none, l⟩
            (s.setFlag (Reg.HOP_DELAY_VALID p.code) true).set (Reg.HOP_DELAY_D_NS p.code) (medianInt l).toNat
          else (s.setDelay p { d with asked := none }).bump Cnt.ROUND_DELAY_DISCARDED
        else s.bump Cnt.ROUND_DELAY_DISCARDED
      | none => s.bump Cnt.ROUND_DELAY_DISCARDED)

/-- DELAY_ANSWER_TIMEOUT (R57): an ask under way is given up and counted. -/
def execDelayAnswerTimeout (p : PortId) (s : State) : Result :=
  .next (match (s.delay p).asked with
    | some _ => (s.setDelay p { s.delay p with asked := none }).bump Cnt.ROUND_DELAY_DISCARDED
    | none => s)

/-- An ask sent and t1 stamped (R57). -/
def State.askDelay (s : State) (p : PortId) : State :=
  let d := s.delay p
  let q := (d.seq + 1) % 256
  ((s.setDelay p ⟨q, some s.now, d.samples⟩).emit (.delay p false q 0)).dealt p 3

/-- HOP_DELAY_MEASURE (R57). [Log entry 52: DESIGN CHOICE] -/
def execHopDelayMeasure (p : PortId) (ns : Ns) (s : State) : Result :=
  .next (if s.active p then (s.at ns.val).askDelay p else s)

/-- A hub may claim (R53, R67). From FREE, after 64 rounds in which no valid BEAT came, it carries AUX = 1 and needs a valid postcode;
from LOCKED or HOLDOVER, after 64 missed beats, it carries AUX = 0. -/
def State.mayClaim (s : State) : Bool :=
  decide (0 < s.priority) && s.addrValid && !s.rt.heard && s.rt.accepted.isNone &&
  ((s.timing == 0 && decide (64 ≤ s.rt.silent)) || ((s.timing == 2 || s.timing == 3) && decide (64 ≤ s.rt.missed)))

/-- BEAT_SILENCE_CLAIM (R53, R67): a claim at the next boundary, where its conditions hold. -/
def execBeatSilenceClaim (s : State) : Result :=
  .next (if s.mayClaim then s.setRt { s.rt with claimAux := some (if s.timing = 0 then 1 else 0) } else s)

/-- A successor's own state lets it take over (R52, R67): LOCKED or HOLDOVER, MASTER_PRIORITY above 0, no master accepted. -/
def State.mayTakeOver (s : State) : Bool :=
  (s.timing == 2 || s.timing == 3) && decide (0 < s.priority) && s.rt.accepted.isNone

/-- DEPUTY_TAKEOVER (R67): the named deputy, LOCKED or HOLDOVER, after two missed beats in a row. [Log entry 53: DEDUCED] -/
def execDeputyTakeover (s : State) : Result :=
  .next (if s.mayTakeOver && s.flag Reg.TIMING_DEP_VALID && decide (2 ≤ s.rt.missed) &&
      s.get Reg.SUCCESSORS_SEEN_DEPUTY_PC == s.postcode
    then s.setRt { s.rt with takeover := true } else s)

/-- RESERVE_TAKEOVER (R67): the named reserve, after three missed beats and no TAKEOVER of the deputy. [Log entry 53: DEDUCED] -/
def execReserveTakeover (s : State) : Result :=
  .next (if s.mayTakeOver && s.flag Reg.TIMING_RES_VALID && decide (3 ≤ s.rt.missed) &&
      s.get Reg.SUCCESSORS_SEEN_RESERVE_PC == s.postcode
    then s.setRt { s.rt with takeover := true } else s)

/-- No header of this boundary has come from the parent within its window (R61). [Log entry 51: DESIGN CHOICE] -/
def State.parentMissing (s : State) : Bool :=
  match s.parent with
  | some p =>
    match mget s.rt.hdrs p.code with
    | some h => !(decide (h.age = 0) && h.inWindow)
    | none => true
  | none => true

/-- LOCK_LOSS (R60): one of the exits of LOCKED holds. The row comes when the window of a boundary closes, so a header that
is missing then is the second in a row where the last boundary's was missing. -/
def State.lockLost (s : State) : Bool :=
  decide (2 ≤ s.rt.missedHdrs) || (decide (1 ≤ s.rt.missedHdrs) && s.parentMissing) || decide (4 ≤ s.rt.badRounds) ||
  (match s.parent with
   | some p => !s.qualifies p
   | none => true)

/-- [Log entry 51: DESIGN CHOICE] -/
def execLockLoss (s : State) : Result :=
  .next (if s.timing = 2 && s.lockLost then (s.bump Cnt.ROUND_LOCK_LOSSES).enterHoldover else s)

/-- LOCKED_ENTRY (R60): 64 rounds in a row at |e| ≤ 8 ns, in ACQUIRE or pull-in. -/
def execLockedEntry (s : State) : Result :=
  .next (if decide (64 ≤ s.rt.goodRounds) && (s.timing = 1 || (s.timing = 3 && s.rt.pullIn)) then
      let s := s.setTiming 2
      s.setRt { s.rt with pullIn := false }
    else s)

/-- ACQUIRE_TIMEOUT (R60): 4,000 rounds without LOCKED; another qualifying parent, or FREE. -/
def execAcquireTimeout (s : State) : Result :=
  .next (if s.timing = 1 && decide (4000 ≤ s.rt.stateRounds) then
      let other := allPorts.find? (fun q => s.qualifies q && s.parent != some q)
      match other with
      | some q => (s.setParent (some q)).setRt { s.rt with stepped := false, stateRounds := 0, goodRounds := 0 }
      | none => s.enterFree
    else s)

/-- HOLDOVER_EXPIRED (R60): 8,000 rounds without a parent. -/
def execHoldoverExpired (s : State) : Result :=
  .next (if s.timing = 3 && decide (8000 ≤ s.rt.stateRounds) && !s.rt.pullIn then
      (s.bump Cnt.ROUND_HOLDOVER_EXPIRED).enterFree
    else s)

/-- ENERGY written to MRAM (R389). -/
def State.storeEnergy (s : State) : State :=
  let p := s.power
  { s with power := { p with pathA := { p.pathA with stored := p.pathA.energy }, pathB := { p.pathB with stored := p.pathB.energy } } }

/-- The round number and epoch written to MRAM (R53), and ENERGY with them (R389). -/
def State.storeRound (s : State) : State :=
  let s := s.setRt { s.rt with storedRound := s.rt.round, storedEpoch := s.epoch, storedAge := 0 }
  { s.storeEnergy with mem := { s.mem with roundLost := false } }

/-- ROUND_NUMBER_WRITE (R53). -/
def execRoundNumberWrite (s : State) : Result := .next s.storeRound

/-- What a header says of its sender's epoch (R63): a later boundary's header that contradicts what was known of it ends that. -/
def State.checkKnown (s : State) (p : PortId) (epoch : Nat) : State :=
  match mget s.rt.known p.code with
  | some k => if k.1 ≠ epoch && decide (1 ≤ k.2) then s.setRt { s.rt with known := mdel s.rt.known p.code } else s
  | none => s

/-- The timing part of a round header with a valid postmark (R58 to R61). `off` is its arrival from the hub's own boundary. [Log entry 50: DEDUCED] -/
def State.headerSample (s : State) (p : PortId) (h : Header) : State :=
  let q := h.postmark.toNat
  let txNs := postmarkTotal q
  let s := (s.raiseFloor (q / 131072) h.epoch.toNat).checkKnown p h.epoch.toNat
  let d : Int := ((s.hopDelay p).getD 0 : Nat)
  let e := postmarkTotal s.now - (txNs + d)
  let off : Int := if 62500 < s.rt.ns then (s.rt.ns : Int) - 125000 else s.rt.ns
  let inWindow := decide (d - 1000 ≤ off) && decide (off ≤ d + 1000)
  let windowed := decide (s.timing = 2) || (decide (s.timing = 3) && s.rt.pullIn)
  let s := s.setRt { s.rt with
    hdrs := mput s.rt.hdrs p.code
      ⟨0, h.epoch.toNat, h.master.toNat, h.distance.toNat, h.tstate.val, h.sender.toNat, inWindow || !windowed, decide (62500 < s.rt.ns)⟩ }
  if !s.qualifies p then s
  else if s.timing = 0 then
    let s := s.enterAcquire p
    (s.step60 (txNs + d)).loopSample 0
  else if s.timing = 1 then
    if s.parent = some p then
      if s.rt.stepped then (s.setParent (some p)).loopSample e else (s.step60 (txNs + d)).loopSample 0
    else s
  else if (s.timing = 2 || s.timing = 3) && h.epoch.toNat ≠ s.epoch && (e < -1000 || 1000 < e) && s.bestParent = some p then
    s.enterAcquire p
  else if s.timing = 2 then
    if s.parent = some p then
      if inWindow then (s.setParent (some p)).loopSample e else s.bump Cnt.ROUND_HEADERS_OUT_OF_WINDOW
    else if s.bestParent = some p && (s.parent.any fun q => s.qualifies q) then s.setParent (some p) else s
  else if s.timing = 3 then
    if s.rt.pullIn then
      if s.parent = some p then
        if !inWindow then s.bump Cnt.ROUND_HEADERS_OUT_OF_WINDOW
        else if e < -250 || 250 < e then s.freeze.setParent none
        else (s.setParent (some p)).loopSample e
      else s
    else if s.bestParent = some p then
      if e < -250 || 250 < e then s.enterAcquire p
      else
        let s := s.setParent (some p)
        (s.setRt { s.rt with pullIn := true, goodRounds := 0 }).loopSample e
    else s
  else s

/-- The timing part of a round header: a postmark with an invalid nanosecond count is discarded and counted (R47, R79). -/
def State.headerTiming (s : State) (p : PortId) (h : Header) : State :=
  if 125000 ≤ postmarkNs h.postmark then s.bump Cnt.ROUND_RECORDS_DISCARDED else s.headerSample p h

/-- No header at all came from a port at the boundary that ends (R61). [Log entry 49: DEDUCED] -/
def State.noHeader (s : State) (p : Nat) : Bool :=
  decide (p < 3) && (match mget s.rt.hdrs p with
    | some h => decide (h.age ≠ 0)
    | none => true)

/-- What the boundary makes of headers that did not come (R61): L for the round that begins (R59, R76), the counts of rounds in a row of
R60, and the round counts of the state. A round that had no sample and no header of the parent gives no e: p is 0 and L is that of
`restLen`. [Log entries 49: DEDUCED, 197: DESIGN CHOICE] -/
def State.headersAtBoundary (s : State) : State :=
  let late := s.parent.isSome && s.parentMissing
  let s := if s.noHeader s.rt.hdrParent then s.bump Cnt.ROUND_HEADERS_MISSED else s
  s.setRt { s.rt with
    missedHdrs := if late then s.rt.missedHdrs + 1 else 0,
    p := if late then 0 else s.rt.p,
    l := s.rt.lNext.getD (if late || s.parent.isNone then s.restLen else s.rt.l),
    lNext := none,
    goodRounds := if late then 0 else s.rt.goodRounds,
    badRounds := if late then 0 else s.rt.badRounds,
    known := (s.rt.known.map (fun k => (k.1, (k.2.1, k.2.2 + 1)))).filter (fun k => decide (k.2.2 ≤ 2)),
    stateRounds := s.rt.stateRounds + 1,
    storedAge := s.rt.storedAge + 1,
    hdrs := s.rt.hdrs.map (fun h => (h.1, { h.2 with age := if h.2.early then 0 else h.2.age + 1, early := false })) }

/-- The records due at this boundary leave (R54, R70); a RAISE carries the hub's floor as it stands now. -/
def State.sendDue (s : State) : State :=
  forAll s.rt.sends (s.setRt { s.rt with sends := [] }) (fun s o =>
    s.sendRecord o.type (s.record o.epoch (if o.type = 0x04 then s.rt.floor else o.round) o.subject o.aux))

/-- The swap at a boundary (R70): the record of its phase leaves and the next wait begins. The reserve that goes with a GO is the old
deputy, and where the old master named none, its own postcode (R71). [Log entry 200: DESIGN CHOICE] -/
def State.swapAtBoundary (s : State) : State :=
  match s.rt.swap with
  | none => s
  | some w =>
    let n := s.rt.round
    match w.phase with
    | .requestDue =>
      let s := s.sendRecord (if w.asMaster then 0x10 else 0x11) (s.record s.epoch n w.peer 0)
      s.setRt { s.rt with swap := some { w with phase := if w.asMaster then .awaitAgree else .awaitGo, round := n } }
    | .agreeDue =>
      let s := s.sendRecord 0x12 (s.record s.epoch n w.peer 0)
      s.setRt { s.rt with swap := some { w with phase := .awaitGo, round := n } }
    | .goDue =>
      let e := n + 3
      let epoch := (s.epoch + 1) % 65536
      let s := s.sendRecord 0x14 (s.record epoch e w.peer s.postcode)
      s.setRt { s.rt with
        go := some ⟨e, epoch, w.peer, s.postcode, s.successors.1⟩,
        swap := some { w with phase := .awaitReady, round := n, e := e, epoch := epoch } }
    | .readyDue =>
      let s := s.sendRecord 0x15 (s.record s.epoch n w.peer 0)
      s.setRt { s.rt with swap := some { w with phase := .awaitE, round := n } }
    | _ => s

/-- A GO takes force at the boundary of E (R63, R71): the candidate becomes master, the old master a follower. [Log entry 42: DEDUCED] -/
def State.goAtBoundary (s : State) : State :=
  match s.rt.go with
  | none => s
  | some g =>
    if g.e ≠ s.rt.round then s
    else if g.master = s.postcode then
      let s := s.becomeMaster g.epoch (some (g.deputy, g.reserve))
      s.endSwap .ok g.e g.epoch
    else
      let s := s.takeMaster ⟨g.epoch, g.master, 0, false⟩
      s.endSwap .ok g.e g.epoch

/-- A claim, takeover or raise of the hub's own takes force at this boundary (R53, R54, R67). The Bool says whether a CLAIM
left in place of the beat. -/
def State.ownClaim (s : State) : State × Bool :=
  match s.rt.claimAux with
  | some aux =>
    let may := s.mayClaim
    let s := s.setRt { s.rt with claimAux := none }
    if !may then (s, false)
    else if s.timing = 0 then
      let s := s.setRt { s.rt with round := s.rt.floor }
      let s := s.becomeMaster ((s.rt.epochFloor + 1) % 65536) none
      (s.sendRecord 0x03 (s.record s.epoch s.rt.round s.postcode aux), true)
    else if s.timing = 2 || s.timing = 3 then
      let s := s.becomeMaster ((s.epoch + 1) % 65536) none
      (s.sendRecord 0x03 (s.record s.epoch s.rt.round s.postcode aux), true)
    else (s, false)
  | none =>
    if s.rt.takeover && !s.mayTakeOver then (s.setRt { s.rt with takeover := false }, false)
    else if s.rt.takeover then
      let s := s.setRt { s.rt with takeover := false }
      let reserve := if s.flag Reg.TIMING_RES_VALID then s.get Reg.SUCCESSORS_SEEN_RESERVE_PC else s.postcode
      let s := s.becomeMaster ((s.epoch + 1) % 65536) (some (reserve, s.postcode))
      let s := (s.bump Cnt.ROUND_TAKEOVERS).overtakeSwap
      (s.sendRecord 0x02 (s.record s.epoch s.rt.round s.postcode 0), false)
    else if s.timing = 4 && s.rt.raise ≠ 0 then
      let s := (s.setRt { s.rt with round := s.rt.raise, raise := 0 }).bump Cnt.ROUND_STEPS
      let s := s.takeEpoch ((s.epoch + 1) % 65536)
      (s.sendRecord 0x03 (s.record s.epoch s.rt.round s.postcode 1), true)
    else (s.setRt { s.rt with raise := 0 }, false)

/-- The beat of the master at its boundary (R55, R64); its own beat counts as received. -/
def State.sendBeat (s : State) (claimed : Bool) : State :=
  if s.timing ≠ 4 then s
  else
    let n := s.successors
    let s := s.setRt { s.rt with beats := (⟨s.rt.round, s.epoch, s.postcode⟩ :: s.rt.beats).take 4, heard := true }
    if claimed then s
    else (s.sendRecord 0x01 (s.record s.epoch s.rt.round n.2 n.1)).showSuccessors s.postcode n.1 n.2

/-- The round number after the boundary: one more, or the floor where that is higher and the hub still counts from it (R44, R53). -/
def State.advanceRound (s : State) : State :=
  let n := (s.rt.round + 1) % 2 ^ 47
  s.setRt { s.rt with round := if s.timing = 0 && s.rt.atFloor then max n s.rt.floor else n, ns := 0, mark := 0 }

/-- In HOLDOVER the hub chooses its parent at each boundary (R60): a parent that no longer qualifies ends the pull-in, and
the rounds without a parent are counted while there is none. -/
def State.chooseAtBoundary (s : State) : State :=
  if s.timing ≠ 3 then s
  else
    let best := s.bestParent
    let s := if best = s.parent then s else (if s.rt.pullIn then s.freeze else s)
    let s := s.setParent best
    if best.isSome then s.setRt { s.rt with stateRounds := 0 } else s

/-- The parent of a boundary, whose header is looked for (R61). -/
def State.noteParent (s : State) : State := s.setRt { s.rt with hdrParent := s.get Reg.TIMING_PARENT }

/-- The round number at a boundary, before anything else changes there (R44, R53, R61). -/
def State.roundAdvances (s : State) : State := s.advanceRound.headersAtBoundary.chooseAtBoundary.noteParent

/-- The masters of a boundary, and the records sent there, with the configuration of the round in force (R53, R54, R60 to R71,
R76). -/
def State.timingBoundary (s : State) : State :=
  let s := match s.rt.accepted with
    | some a => s.takeMaster a
    | none => s
  let s := s.goAtBoundary
  let r := s.ownClaim
  ((r.1.sendBeat r.2).swapAtBoundary).sendDue

/-- RND_PULSE at a mark (R78): at a boundary in modes 1 and 2, at the other marks in mode 2. -/
def State.pulse (s : State) (boundary : Bool) : State :=
  let m := s.get Reg.PULSE_CFG_MODE
  if boundary && (m = 1 || m = 2) then s.emit (.pulse 1000)
  else if !boundary && m = 2 then s.emit (.pulse 250) else s

/-- The timing part of the collection mark (R64, R70, R76). -/
def State.timingCollection (s : State) : State :=
  let s := s.setRt { s.rt with ns := 100000, mark := 1 }
  let s := if (s.beatOf s.rt.round).isSome then s.setRt { s.rt with missed := 0 }
    else (s.bump Cnt.ROUND_BEATS_MISSED).setRt { s.rt with missed := s.rt.missed + 1 }
  let s := s.setRt { s.rt with silent := if s.rt.heard then 0 else s.rt.silent + 1, heard := false }
  (s.pulse false).checkSwap

/-- The timing part of the seal mark (R70, R76): a SWAP_CANCEL that is due leaves. -/
def State.timingSeal (s : State) : State :=
  let s := (s.setRt { s.rt with ns := 118000, mark := 2 }).pulse false
  match s.rt.cancelDue with
  | some peer =>
    let s := s.setRt { s.rt with cancelDue := none, go := none }
    s.sendRecord 0x16 (s.record s.epoch s.rt.round peer 0)
  | none => s

/-- ROUND_MASTER_SWAP (R70, R72, R73). -/
def execRoundMasterSwap (h : CmdHdr) (peer : Postcode) (mode : Byte) (s : State) : Result :=
  .next (s.runOpcode h 0x0110 (leBytes 2 peer.toNat ++ [mode, 0]) true (fun k s =>
    let data (n : Nat) := leBytes 8 n ++ leBytes 2 s.epoch ++ leBytes 2 0
    let asMaster := mode.toNat == 0
    if peer.toNat = s.postcode || 1 < mode.toNat then (s, .done .badParam (data s.rt.round))
    else if asMaster && s.timing ≠ 4 then (s, .done .notPermitted (data s.rt.round))
    else if !asMaster && (s.timing = 4 || s.notCandidate || peer.toNat ≠ s.master) then (s, .done .notPermitted (data s.rt.round))
    else if s.rt.round < s.rt.swapRetry then (s, .done .busyRetry (data s.rt.swapRetry))
    else if s.roundBusy then (s, .done .busyRetry (data (s.rt.round + 1)))
    else if asMaster && s.rt.hdrs.any (fun x => x.2.sender == peer.toNat && x.2.tstate != 2) then
      (s, .done .notPermitted (data s.rt.round))
    else
      let cmd := (mget s.cmd.book k).map (fun e => (k, e.hostSeq))
      (s.setRt { s.rt with swap := some ⟨asMaster, asMaster, peer.toNat, 0, .requestDue, s.rt.round, 0, 0, cmd⟩ }, .waits 0)))

/-- The six registers of R82 from one instant: NOW_LO, NOW_HI, NOW_NS, TIMING, MASTER_SEEN, SUCCESSORS_SEEN. -/
def State.timingWords (s : State) : List Byte :=
  leBytes 4 (s.rt.round % 2 ^ 32) ++ leBytes 4 (s.rt.round / 2 ^ 32) ++ leBytes 4 s.rt.ns ++
  leBytes 4 (s.word Reg.TIMING).toNat ++ leBytes 4 (s.word Reg.MASTER_SEEN).toNat ++ leBytes 4 (s.word Reg.SUCCESSORS_SEEN).toNat

/-- ROUND_QUERY (R82). -/
def execRoundQuery (h : CmdHdr) (s : State) : Result :=
  .next (s.runOpcode h 0x0111 [] true (fun _ s => (s, .done .ok s.timingWords)))

end Machine
end Sys2Proof
end

