-- ==== Sys2Proof/Machine/LinkKeys.lean ====
section
/-!
DEFINITION. The keying of a trunk port (R434 to R440) as the port's own states use it: which slot, whether the port may be
enabled, commissioning mode, and the pair record at entry to ACTIVE.
-/
namespace Sys2Proof
namespace Machine

/-- LINK_SLOT of a port (R434). -/
def State.linkSlot (s : State) (p : PortId) : Nat :=
  match p with
  | .a => s.get Reg.LINK_SLOT_SLOT_A
  | .b => s.get Reg.LINK_SLOT_SLOT_B
  | .c => s.get Reg.LINK_SLOT_SLOT_C

/-- A slot is LOADED with the PIPES bit of a port (R424, R434). A PENDING slot still holds the key in force. -/
def State.slotServes (s : State) (slot : Nat) (p : PortId) : Bool :=
  (s.get (Reg.SLOT_ATTR_STATE slot) == 1 || s.get (Reg.SLOT_ATTR_STATE slot) == 2) && bitOf (s.get (Reg.SLOT_ATTR_DEST slot)) p.code

/-- COMMISSION_BLOCK of the policy word (R446). -/
def State.commissionBlocked (s : State) : Bool := bitOf (s.get Reg.SEC_STATE_POLICY) 2

/-- The port runs in commissioning mode (R435). -/
def State.commissioning (s : State) (p : PortId) : Bool := s.linkSlot p == 0 && !s.commissionBlocked

/-- None of the four pipes of a port's two directions failed the self-test of the last CIPHER power-up (R433, R439). -/
def State.pipesOk (s : State) (p : PortId) : Bool := bitsOf s.sec.pipesFailed (4 * p.code) 4 == 0

/-- A write of EN = 1 is permitted (R434, R437, R439). -/
def State.mayEnable (s : State) (p : PortId) : Bool :=
  (if s.linkSlot p = 0 then !s.commissionBlocked else s.slotServes (s.linkSlot p) p) &&
  !s.flag (Reg.LINK_USES_MISMATCH p.code) && decide (s.get (Reg.LINK_USES_PAIRS p.code) < 4096) && s.pipesOk p

/-- Causes of LINK_KEY_FAULT in the order R452 lists them. -/
inductive KeyCause | mismatch | wear | exhausted | rolloverDue | pipe
deriving DecidableEq, Repr

/-- [Log entry 26: DESIGN CHOICE] -/
def KeyCause.code : KeyCause → Nat | .mismatch => 0 | .wear => 1 | .exhausted => 2 | .rolloverDue => 3 | .pipe => 4

def State.keyFault (s : State) (p : PortId) (c : KeyCause) : State := s.notice 0x80D2 [p.code, c.code]

/-- The record of pairs is emptied (R437). [Log entry 186: DESIGN CHOICE] -/
def State.clearPairs (s : State) (p : PortId) : State :=
  (s.updPort p (fun x => { x with pairs := [] })).set (Reg.LINK_USES_PAIRS p.code) 0

end Machine
end Sys2Proof
end

