-- ==== Sys2Proof/Machine/Shadow.lean ====
section
/-!
DEFINITION. Writes as they take force (R11, R371): a masked write, the RW shadows, the staged sets due at a boundary, and the
configuration of the next round as it is known now (R167, R215).
-/
namespace Sys2Proof
namespace Machine

/-- A write of SUCCESSORS or of its enables ends the successors a new master took over: the register decides again (R55). [Log entry 46: DESIGN CHOICE] -/
def State.rewriteSuccessors (s : State) (a : Nat) (mask : Word) : State :=
  if (a = Reg.SUCCESSORS ∧ mask ≠ 0) ∨ (a = Reg.ROUND_CFG ∧ mask &&& 0x30 ≠ 0) then s.setRt { s.rt with named := none } else s

/-- A masked write put in force. -/
def State.applyWrite (s : State) (a : Nat) (mask value : Word) : State :=
  (s.rewriteSuccessors a mask).setWord a ((s.word a &&& ~~~mask) ||| (value &&& mask))

/-- The RW shadows take force (R11). -/
def State.applyShadows (s : State) : State :=
  { forAll s.shadow s (fun s e => s.applyWrite e.1 e.2.1 e.2.2) with shadow := [] }

/-- A staging set's entries take force. -/
def State.applyEntries (s : State) (x : StageSet) : State :=
  forAll x.entries s (fun s e => s.applyWrite e.1 e.2.1 e.2.2)

/-- The sets armed for a round that passed their final check, in ascending number (R370, R371). -/
def State.dueSets (s : State) (round : Nat) : List (Nat × StageSet) :=
  s.cmd.sets.filter (fun e => e.2.state == .armed && e.2.round == round && e.2.passed)

/-- The configuration of the next round as known now: shadows first, then the sets that passed (R167, R371). -/
def State.preview (s : State) : State :=
  forAll (s.dueSets (s.round + 1)) s.applyShadows (fun s e => s.applyEntries e.2)

/-- A write of an RW field: merged into its register's shadow (R11). -/
def State.shadowWrite (s : State) (a : Nat) (mask value : Word) : State :=
  let old := (mget s.shadow a).getD (0, 0)
  { s with shadow := mput s.shadow a (old.1 ||| mask, (old.2 &&& ~~~mask) ||| (value &&& mask)) }

end Machine
end Sys2Proof
end

