-- ==== Sys2Proof/Machine/Sheet.lean ====
section
/-!
DEFINITION. Round sheets (R153 to R168): capacity, the fill, credit trim, the image, the slots that go out, and rounds that
run short.
-/
namespace Sys2Proof
namespace Machine

/-- The owners that are aggregates (R155). -/
def ownerReg : Nat := 0xFFF0
def ownerMgmt : Nat := 0xFFF1
def ownerTransit : Nat := 0xFFF2
/-- No sheet owner. -/
def ownerNone : Nat := 0xFFFF

def State.dir (s : State) (p : PortId) : DirSt := s.tun.dir p
def State.setDir (s : State) (p : PortId) (d : DirSt) : State := { s with tun := s.tun.setDir p d }
def State.updDir (s : State) (p : PortId) (f : DirSt → DirSt) : State := s.setDir p (f (s.dir p))

/-- The slots of a width and rate (R153): 2,880 at x4 full, in proportion. -/
def slotsOf (lanes : Nat) (full : Bool) : Nat := lanes * (if full then 720 else 360)

/-- C of a trunk direction for a mask (R153); 0 while the port is not ACTIVE. -/
def State.capacityFor (s : State) (p : PortId) (mask : Nat) : Nat :=
  if s.active p then slotsOf (popCount mask 4) (s.flag (Reg.TRK_PORT_STATE_RATE p.code)) else 0

/-- C now (R153). -/
def State.capacity (s : State) (p : PortId) : Nat := s.capacityFor p (s.get (Reg.TRK_PORT_STATE_TX_MASK p.code))

/-- The TX_MASK the next boundary applies, as known now (R106). -/
def State.nextMask (s : State) (p : PortId) : Nat :=
  match (s.port p).change with
  | some c => if c.round = s.round + 1 then c.mask else s.get (Reg.TRK_PORT_STATE_TX_MASK p.code)
  | none => s.get (Reg.TRK_PORT_STATE_TX_MASK p.code)

/-- The planned capacity of R158: LANE_PLAN's width at full rate where FULL_EN is 1. -/
def State.plannedCapacity (s : State) (p : PortId) : Nat :=
  slotsOf (popCount (s.get (Reg.LANE_PLAN_POWERED p.code)) 4) (s.flag (Reg.TRK_PORT_CFG_FULL_EN p.code))

/-- A slot's start in nanoseconds (R156). -/
def slotStart (cap k : Nat) : Nat := k * 125000 / cap

/-- The last slot in transmission at a time of the round (R168), on the schedule the direction runs now. -/
def DirSt.lastAt (d : DirSt) (capNow t : Nat) : Nat :=
  match d.short with
  | none => d.sheet.cap * t / 125000
  | some h => (match h.last with | some k => k + 1 | none => 0) + capNow * (t - h.tc) / 125000

/-- The slots of the sheet that are still carried: all, or those a short round leaves (R168). -/
def DirSt.carried (d : DirSt) (k : Nat) : Bool :=
  decide (k < d.sheet.cap) &&
  (match d.short with
   | none => true
   | some h =>
     match h.last with
     | some l => decide (k ≤ l + h.n)
     | none => decide (k < h.n))

/-- When a slot starts, on the schedule the direction runs now (R156, R168): those a short round still carries follow t_c at the spacing of the
capacity in force. -/
def DirSt.startOf (d : DirSt) (capNow k : Nat) : Nat :=
  match d.short with
  | none => slotStart d.sheet.cap k
  | some h =>
    let first := match h.last with | some l => l + 1 | none => 0
    if k < first ∨ capNow = 0 then slotStart d.sheet.cap k else h.tc + (k - first) * 125000 / capNow

/-- The number of carried slots. -/
def DirSt.carriedCount (d : DirSt) : Nat :=
  match d.short with
  | none => d.sheet.cap
  | some h => min d.sheet.cap ((match h.last with | some l => l + 1 | none => 0) + h.n)

/-- The capacity of a direction changed at `t` nanoseconds into the round: CAP follows, and a sheet sealed for more runs short
(R168). -/
def State.capacityChanged (s : State) (p : PortId) (t : Nat) : State :=
  let old := s.get (Reg.DIR_STATE_CAP p.code)
  let c := s.capacity p
  let s := s.set (Reg.DIR_STATE_CAP p.code) c
  let d := s.dir p
  if c < old ∧ c < d.sheet.cap then
    let before := d.carriedCount
    let first := d.short.isNone
    let d := { d with short := some ⟨some (d.lastAt old t), t, c * (125000 - t) / 125000⟩ }
    let s := s.setDir p d
    let s := if first then s.bump (Cnt.TUNNEL_SHORT_ROUNDS p.code) else s
    let s := s.setFlag (Reg.DIR_STATE_SHORT p.code) true
    s.bump (Cnt.TUNNEL_SLOTS_CUT p.code) (before - d.carriedCount)
  else s

/-- The egress a flow's envelopes take under the steering state (R131). -/
def State.flowEgress (s : State) (f : Flow) : Option PortId :=
  match s.route { dstPc := f.dstPc, srcPc := f.srcPc, cls := f.cls, twin := false, side := false, turned := false, from_ := none } with
  | .port p _ _ => some p
  | _ => none

/-- The allotment of a flow for the next round, as known now (R157, R167). -/
def Flow.allotNext (f : Flow) : Allot := f.next.getD f.allot

/-- Members of a waterfill: owner, weight and want. -/
abbrev Member := Nat × Nat × Nat

/-- The rest of a waterfill when none can be met (R162 step 3): shares, then the slots that rounding leaves over, one each by
descending weight, in list order. -/
def fillRest (free : Nat) (ms : List Member) : List (Nat × Nat) :=
  let w := (ms.map (fun m => m.2.1)).sum
  let share := fun (m : Member) => free * m.2.1 / w
  let left := free - (ms.map share).sum
  let byWeight := ((List.range 16).reverse.flatMap (fun k => ms.filter (fun m => m.2.1 == k))).map (·.1)
  let lucky := byWeight.take left
  ms.map (fun m => (m.1, share m + (if lucky.contains m.1 then 1 else 0)))

/-- waterfill of R162 over the members whose want is not yet met; the number bounds the repeats of step 1. -/
def waterfillLoop : Nat → Nat → List Member → List (Nat × Nat)
  | 0, _, _ => []
  | n + 1, free, ms =>
    if ms = [] then []
    else
      let w := (ms.map (fun m => m.2.1)).sum
      let met := ms.filter (fun m => decide (m.2.2 ≤ free * m.2.1 / w))
      if met = [] then fillRest free ms
      else
        met.map (fun m => (m.1, m.2.2)) ++
        waterfillLoop n (free - (met.map (fun m => m.2.2)).sum) (ms.filter (fun m => !decide (m.2.2 ≤ free * m.2.1 / w)))

/-- waterfill(set, weights, want) (R162): slots by owner. -/
def waterfill (free : Nat) (ms : List Member) : List (Nat × Nat) :=
  waterfillLoop (ms.length + 1) free (ms.filter (fun m => decide (0 < m.2.2)))

/-- A member's slots in a waterfill's answer. -/
def slotsFor (r : List (Nat × Nat)) (owner : Nat) : Nat := ((r.filter (fun e => e.1 == owner)).map (·.2)).sum

/-- Runs before they are placed: owner, class, GRANT, slots; `free` is what is left. -/
structure Fill where
  free : Nat
  runs : List (Nat × SvcClass × Nat × Nat)
  shed : List Nat
deriving DecidableEq, Repr

/-- take(owner, slots) of R161. -/
def Fill.take (f : Fill) (owner : Nat) (cls : SvcClass) (grant n : Nat) : Fill :=
  { f with free := f.free - n, runs := if n = 0 then f.runs else f.runs ++ [(owner, cls, grant, n)] }

/-- The ISO runs of a port in R156 order: by SHED, then index. `alt` chooses the alternate runs. -/
def State.isoRuns (s : State) (p : PortId) (alt : Bool) : List (Nat × Nat) :=
  let of (k : Nat) : List (Nat × Nat) :=
    (s.tun.flows.filter (fun e => e.2.cls == .iso && s.get (Reg.ISO_ALLOT_SHED e.1) == k)).filterMap (fun e =>
      let port := if alt then s.get (Reg.ISO_ALLOT_ALT_PORT e.1) else s.get (Reg.ISO_ALLOT_PRI_PORT e.1)
      let n := if alt then s.get (Reg.ISO_ALLOT_ALT e.1) else s.get (Reg.ISO_ALLOT_PRI e.1)
      if port = p.code ∧ 0 < n then some (e.1, n) else none)
  (List.range 8).flatMap of

/-- The flows of a class leaving by a port in the next round, index and record: those whose removal is due at its boundary are left out
(R167). -/
def State.flowsBy (s : State) (p : PortId) (c : SvcClass) : List (Nat × Flow) :=
  s.tun.flows.filter (fun e => e.2.cls == c && !e.2.removing && s.flowEgress e.2 == some p)

/-- The ASSURED flows leaving by a port. -/
def State.assuredFlows (s : State) (p : PortId) : List (Nat × Flow) := s.flowsBy p .assured

/-- The BULK flows leaving by a port. -/
def State.bulkFlows (s : State) (p : PortId) : List (Nat × Flow) := s.flowsBy p .bulk

/-- Flows by descending PRIORITY of an allotment, then ascending index. -/
def byPriority (of : Flow → Allot) (fs : List (Nat × Flow)) : List (Nat × Flow) :=
  (List.range 8).reverse.flatMap (fun k => fs.filter (fun e => (of e.2).priority == k))

/-- The fixed part of the fill (items 1 to 5 of R156). -/
def State.fillFixed (s : State) (p : PortId) (cap : Nat) (gated : Bool) : Fill :=
  let f : Fill := ⟨cap, [], []⟩
  let f := f.take ownerReg .registered 0 (min (s.get (Reg.DIR_CFG_REG_MIN p.code)) f.free)
  let f := f.take ownerMgmt .assured 0 (min (s.get (Reg.DIR_CFG_MGMT_MIN p.code)) f.free)
  let iso (grant : Nat) (f : Fill) (r : Nat × Nat) : Fill :=
    if r.2 ≤ f.free then f.take r.1 .iso grant r.2 else { f with shed := f.shed ++ [r.1] }
  let f := if gated then f else (s.isoRuns p true).foldl (iso 1) ((s.isoRuns p false).foldl (iso 0) f)
  let fs := byPriority Flow.allotNext (s.assuredFlows p)
  let m := (fs.map (fun e => e.2.allotNext.min)).sum
  if m ≤ f.free then fs.foldl (fun f e => f.take e.1 .assured 0 e.2.allotNext.min) f
  else
    let free := f.free
    let share := fun (e : Nat × Flow) => e.2.allotNext.min * free / m
    let left := free - (fs.map share).sum
    let lucky := ((fs.filter (fun e => decide (share e < e.2.allotNext.min))).map (·.1)).take left
    fs.foldl (fun f e => f.take e.1 .assured 3 (share e + (if lucky.contains e.1 then 1 else 0))) f

/-- Borrowing by ASSURED flows of one priority; the MGMT aggregate stands first at 7 (R157, R161). -/
def State.fillPriority (s : State) (p : PortId) (f : Fill) (pri : Nat) : Fill :=
  let fs := (s.assuredFlows p).filter (fun e => e.2.allotNext.priority == pri)
  let mgmt : List Member :=
    if pri = 7 then [(ownerMgmt, 1, min (s.dir p).dMgmt 64 - s.get (Reg.DIR_CFG_MGMT_MIN p.code))] else []
  let ms : List Member :=
    mgmt ++ fs.map (fun e => (e.1, 1, min e.2.demand e.2.allotNext.ceil - e.2.allotNext.min))
  let r := waterfill f.free ms
  ms.foldl (fun f m => f.take m.1 .assured 2 (slotsFor r m.1)) f

/-- Borrowing (items 6 to 8 of R156). [Log entry 80: DEDUCED] -/
def State.fillBorrowed (s : State) (p : PortId) (f : Fill) : Fill :=
  let d := s.dir p
  let f := f.take ownerReg .registered 2 (min (d.dReg - s.get (Reg.DIR_CFG_REG_MIN p.code)) f.free)
  let f := [7, 6, 5, 4, 3, 2, 1, 0].foldl (fun f k => s.fillPriority p f k) f
  let want (a : Allot) (demand : Nat) : Nat := if a.ceil = 0 then demand else min demand a.ceil
  let ms : List Member :=
    (s.bulkFlows p).map (fun e => (e.1, e.2.allotNext.weight, want e.2.allotNext e.2.demand)) ++
    [(ownerTransit, s.get (Reg.DIR_CFG_TRANSIT_WEIGHT p.code), d.dTransit)]
  let r := waterfill f.free ms
  ms.foldl (fun f m => f.take m.1 .bulk 2 (slotsFor r m.1)) f

/-- Slots taken away from one class, from the end of the list given (the sheet reversed). -/
def takeAway (cls : SvcClass) (borrowed : Bool) : List (Nat × SvcClass × Nat × Nat) → Nat → List (Nat × SvcClass × Nat × Nat) × Nat
  | [], n => ([], n)
  | r :: rs, n =>
    if r.2.1 = cls ∧ (r.2.2.1 = 2) = (borrowed = true) then
      let k := min n r.2.2.2
      let rest := takeAway cls borrowed rs (n - k)
      ((r.1, r.2.1, r.2.2.1, r.2.2.2 - k) :: rest.1, rest.2)
    else
      let rest := takeAway cls borrowed rs n
      (r :: rest.1, rest.2)

/-- A class held to its grant (R164): borrowed runs first, then fixed ones, from the end of the sheet. -/
def trimClass (cls : SvcClass) (grant : Nat) (runs : List (Nat × SvcClass × Nat × Nat)) : List (Nat × SvcClass × Nat × Nat) :=
  let slots := ((runs.filter (fun r => r.2.1 == cls)).map (fun r => r.2.2.2)).sum
  let excess := slots - grant / 8
  let a := takeAway cls true runs.reverse excess
  let b := takeAway cls false a.1 a.2
  b.1.reverse

/-- Runs in their places from slot 0; empty runs fall out (R155). [Log entry 80: DEDUCED] -/
def placeRuns (first : Nat) : List (Nat × SvcClass × Nat × Nat) → List Run
  | [] => []
  | r :: rs => if r.2.2.2 = 0 then placeRuns first rs
               else ⟨r.1, r.2.1, r.2.2.1, first, r.2.2.2⟩ :: placeRuns (first + r.2.2.2) rs

/-- The sheet of the next round from a configuration, before the credit check (R161): `cfg` is the machine with the
configuration of that round in force. The second part says that runs beyond 1,022 were left out, the third which flows are
shed. -/
def State.buildSheet (cfg : State) (p : PortId) (gated : Bool) : Sheet × Bool × List Nat :=
  let mask := cfg.nextMask p
  let cap := cfg.capacityFor p mask
  let f := cfg.fillBorrowed p (cfg.fillFixed p cap gated)
  let runs := f.runs.take 1022
  ({ round := (cfg.round + 1) % 2 ^ 47, port := p.code, full := cfg.flag (Reg.TRK_PORT_STATE_RATE p.code), gated := gated, mask := mask,
     cap := cap, runs := placeRuns 0 runs }, decide (1022 < f.runs.length), f.shed)

/-- The runs of a sheet as they were before placing. -/
def Sheet.loose (h : Sheet) : List (Nat × SvcClass × Nat × Nat) := h.runs.map (fun r => (r.owner, r.cls, r.grant, r.count))

/-- The credit check of R164 with the grants for the next round. -/
def Sheet.trim (h : Sheet) (a r b : Nat) : Sheet :=
  { h with runs := placeRuns 0 (trimClass .bulk b (trimClass .registered r (trimClass .assured a h.loose))) }

/-- The run a slot lies in. -/
def Sheet.runAt (h : Sheet) (k : Nat) : Option Run := h.runs.find? (fun r => decide (r.first ≤ k) && decide (k < r.first + r.count))

/-- Slots of an owner in a sheet. -/
def Sheet.slotsOfOwner (h : Sheet) (o : Nat) : Nat := ((h.runs.filter (fun r => r.owner == o)).map (·.count)).sum

/-- Slots of a class in a sheet (R121). -/
def Sheet.slotsOfClass (h : Sheet) (c : SvcClass) : Nat := ((h.runs.filter (fun r => r.cls == c)).map (·.count)).sum

/-- The image of a sheet (R155). -/
def Sheet.image (h : Sheet) : List Byte :=
  bigBytes 6 h.round ++ bigBytes 1 (h.port * 64 + (if h.full then 32 else 0) + (if h.gated then 16 else 0) + h.mask % 16) ++ bigBytes 1 0 ++
  bigBytes 2 h.cap ++ bigBytes 2 h.runs.length ++ bigBytes 4 0 ++
  h.runs.flatMap (fun r => bigBytes 2 r.owner ++ bigBytes 1 (r.cls.code * 64 + r.grant * 16) ++ bigBytes 1 0 ++ bigBytes 2 r.first ++ bigBytes 2 r.count)

/-- SHEET_CRC (R155). -/
def Sheet.crc (h : Sheet) : Nat := (crc32c h.image).toNat

/-- Slots whose OWNER or GRANT differs between two sheets (R224). [Log entry 78: DESIGN CHOICE] -/
def slotsDiffering (a b : Sheet) : Nat :=
  ((List.range (max a.cap b.cap)).filter (fun k =>
    (a.runAt k).map (fun r => (r.owner, r.grant)) != (b.runAt k).map (fun r => (r.owner, r.grant)))).length

/-- Word w of the image SHEET_SELECT chooses (R172). -/
def State.sheetImageWord (s : State) (w : Nat) : Word :=
  let d := match PortId.ofCode (s.get Reg.SHEET_SELECT_PORT) with
    | some p => s.dir p
    | none => DirSt.init 3
  let h := if s.flag Reg.SHEET_SELECT_WHICH then d.next.getD d.sheet else d.sheet
  let bs := (h.image.drop (4 * w)).take 4
  BitVec.ofNat 32 (leNat (bs ++ List.replicate (4 - bs.length) 0).reverse)

/-- MIN of the ASSURED tunnels in OPENING that are to send by a direction (R147, R158): their flow records come with the answer, their slots are
committed from the request. [Log entry 229: DEDUCED] -/
def State.openingMins (s : State) (p : PortId) : List Nat :=
  (s.tun.boxes.filter (fun e => e.2.state == .opening && e.2.cls == .assured && (e.2.near || e.2.twoWay) && e.2.peerPc != s.postcode &&
    (match s.route { dstPc := e.2.peerPc, srcPc := s.postcode, cls := .assured, twin := false, side := false, turned := false, from_ := none } with
     | .port q _ _ => q == p
     | _ => false))).map (fun e => e.2.min)

/-- The committed slots of a direction (R158). -/
def State.committed (s : State) (p : PortId) : Nat :=
  s.get (Reg.DIR_CFG_REG_MIN p.code) + s.get (Reg.DIR_CFG_MGMT_MIN p.code) + ((s.isoRuns p false).map (·.2)).sum +
  ((s.isoRuns p true).map (·.2)).sum + ((s.assuredFlows p).map (fun e => e.2.allotNext.min)).sum + (s.openingMins p).sum

/-- The number of fixed runs of a direction (R158). -/
def State.fixedRuns (s : State) (p : PortId) : Nat :=
  2 + (s.isoRuns p false).length + (s.isoRuns p true).length + ((s.assuredFlows p).filter (fun e => decide (0 < e.2.allotNext.min))).length +
  ((s.openingMins p).filter (fun n => decide (0 < n))).length

/-- The two conditions of R158 on a direction. [Log entry 82: DEDUCED] -/
def State.commitOk (s : State) (p : PortId) : Bool :=
  decide (s.committed p ≤ s.plannedCapacity p) && decide (s.fixedRuns p ≤ 1000)

end Machine
end Sys2Proof
end

