-- ==== Sys2Proof/Machine/LaneOps.lean ====
section
/-!
DEFINITION. Shared operations of the lane layer: masks and widths (R96, R97), taps (R98, R99), lane states (R101) and the entry
to each port state (R95).
-/
namespace Sys2Proof
namespace Machine

/-- The mask of the lanes that satisfy a test. [Log entry 187: DESIGN CHOICE] -/
def laneMask (p : Nat → Bool) : Nat := ([0, 1, 2, 3].map (fun n => if p n then 2 ^ n else 0)).sum

/-- A mask's lanes without another's. -/
def maskSub (a b : Nat) : Nat := (a % 16).land (15 - b % 16)

/-- The lowest `n` lanes of a mask. -/
def lowLanes (m : Nat) : Nat → Nat
  | 0 => 0
  | n + 1 =>
    let l := lowLanes m n
    match [0, 1, 2, 3].find? (fun i => bitOf m i && !bitOf l i) with
    | some i => setBit l i true
    | none => l

/-- RX_CHOSEN of R96: four of four, the two lowest of two or three, the one. -/
def widthOf (m : Nat) : Nat :=
  let c := popCount m 4
  if c = 4 then 15 else if c = 3 ∨ c = 2 then lowLanes m 2 else m % 16

/-- The lowest-numbered locked lane (R92). -/
def PortSt.firstLocked (x : PortSt) : Nat := (([0, 1, 2, 3].find? (fun n => bitOf x.locked n))).getD 4

/-- Lanes whose TRAIN messages carry another NONCE than that of the lowest-numbered locked lane (R92). -/
def PortSt.mismatched (x : PortSt) : Nat :=
  match mget x.nonces x.firstLocked with
  | some c => ((x.nonces.filter (fun e => e.2 != c)).map (fun e => 2 ^ e.1)).sum
  | none => 0

/-- The usable receive lanes of a port (R96): locked, enabled, of the NONCE and skew that R92 and R94 ask for, and not degraded. [Log entries 57: DEDUCED, 59: DEDUCED] -/
def State.usable (s : State) (p : PortId) : Nat :=
  let x := s.port p
  maskSub (maskSub (maskSub (x.locked.land (s.get (Reg.TRK_PORT_CFG_LANES_EN p.code))) x.mismatched) x.unused) x.degraded

def State.rxMask (s : State) (p : PortId) : Nat := s.get (Reg.TRK_PORT_STATE_RX_MASK p.code)
def State.txMask (s : State) (p : PortId) : Nat := s.get (Reg.TRK_PORT_STATE_TX_MASK p.code)
def State.fullRate (s : State) (p : PortId) : Bool := s.flag (Reg.TRK_PORT_STATE_RATE p.code)

/-- Lane n's field of LANE_STATE and LANE_STATE_TX. -/
def rxLane (p : PortId) (n : Nat) : Fld := ⟨Reg.LANE_STATE p.code, 4 * n, 4⟩
def txLane (p : PortId) (n : Nat) : Fld := ⟨Reg.LANE_STATE_TX p.code, 4 * n, 4⟩

/-- LANE_STATE and LANE_STATE_TX follow the masks (R101); IDLE and QUIET stay as they were set. -/
def State.syncLanes (s : State) (p : PortId) : State :=
  let off := s.portState p == 0
  forAll [0, 1, 2, 3] s (fun s n =>
    let x := s.port p
    let r := s.get (rxLane p n)
    let rx := if bitOf (s.rxMask p) n then 1 else if r = 3 ∨ r = 4 then r else if bitOf x.locked n then 2 else 0
    let t := s.get (txLane p n)
    let tx := if off then 0 else if bitOf (s.txMask p) n then 1 else if t = 3 ∨ t = 4 then t
      else if bitOf x.farLocked n then 2 else 0
    (s.set (rxLane p n) rx).set (txLane p n) tx)

/-- The masks in force changed: WIDTH_CHANGED with the postmark of the change (R114). A new TX_MASK goes out with MASK_NEW in the next
group (R87, R103). -/
def State.setMasks (s : State) (p : PortId) (tx rx : Nat) : State :=
  if s.txMask p = tx ∧ s.rxMask p = rx then s.syncLanes p
  else
    let s := s.updPort p (fun x => if s.txMask p = tx then x else { x with maskNew := true, dealt := 0 })
    let s := (s.set (Reg.TRK_PORT_STATE_TX_MASK p.code) tx).set (Reg.TRK_PORT_STATE_RX_MASK p.code) rx
    ((s.syncLanes p).notice 0x8022 [p.code, tx, rx, s.now]).capacityChanged p s.rt.ns

/-- The taps of preset 1 to 5 (R99): c(−2), c(−1), c(0), c(+1), c(+2). -/
def presetTaps (n : Nat) : List Int :=
  if n = 1 then [0, 0, 64, 0, 0] else if n = 2 then [0, -6, 58, 0, 0] else if n = 3 then [0, -8, 52, -4, 0]
  else if n = 4 then [2, -10, 48, -4, 0] else [2, -12, 44, -6, 0]

/-- The fields of TAPS_Ln in the order of `presetTaps`. -/
def tapFields (p : PortId) (n : Nat) : List Fld :=
  [Reg.TAPS_CM2 p.code n, Reg.TAPS_CM1 p.code n, Reg.TAPS_C0 p.code n, Reg.TAPS_CP1 p.code n, Reg.TAPS_CP2 p.code n]

/-- A lane's taps as signed numbers; c(0) is unsigned (R112). -/
def State.taps (s : State) (p : PortId) (n : Nat) : List Int :=
  [s.getS (Reg.TAPS_CM2 p.code n), s.getS (Reg.TAPS_CM1 p.code n), (s.get (Reg.TAPS_C0 p.code n) : Nat),
   s.getS (Reg.TAPS_CP1 p.code n), s.getS (Reg.TAPS_CP2 p.code n)]

def State.setTaps (s : State) (p : PortId) (n : Nat) (v : List Int) : State :=
  forAll ((tapFields p n).zip v) s (fun s x => s.setS x.1 x.2)

/-- Every lane's taps at TX_PRESET (R99). -/
def State.presetAll (s : State) (p : PortId) : State :=
  forAll [0, 1, 2, 3] s (fun s n => s.setTaps p n (presetTaps (s.get (Reg.TRK_PORT_CFG_TX_PRESET p.code))))

/-- Lane messages queued on the lanes of a mask (R88). One that waits there for the same TYPE gives way, but for a TAP_ACK and a
LANE_POWER, of which several may wait; the same message is not queued twice. -/
def PortSt.queueMsg (x : PortSt) (mask kind : Nat) (fields : List Nat) (left : Nat) : PortSt :=
  let keep := x.pend.filter (fun m => !(bitOf mask m.lane && m.kind == kind && (kind != 0x12 && kind != 0x14 || m.fields == fields)))
  { x with pend := keep ++ ([0, 1, 2, 3].filter (fun n => bitOf mask n)).map (fun n => ⟨n, kind, fields, left⟩) }

/-- The place of a lane message's TYPE in the order of R88. -/
def laneRank (kind : Nat) : Nat := ([0x13, 0x12, 0x11, 0x14, 0x10].idxOf kind)

/-- The message that goes first on a lane, where one is pending (R88). -/
def PortSt.firstMsg (x : PortSt) (lane : Nat) : Option LaneMsg :=
  (x.pend.filter (fun m => m.lane == lane)).foldl (fun (o : Option LaneMsg) m =>
    match o with
    | some b => if laneRank m.kind < laneRank b.kind then some m else o
    | none => some m) none

/-- The fields of the TRAIN message the port now sends (R88). -/
def State.trainFields (s : State) (p : PortId) : List Nat :=
  let x := s.port p
  let cap := s.flag (Reg.TRK_PORT_CFG_FULL_EN p.code) && !x.forceHalf
  [x.locked, x.chosen, if x.ready then 1 else 0, if cap then 1 else 0, if x.stepGo then 1 else 0, x.nonce, s.portState p]

/-- The TRAIN message brought up to date: below ACTIVE every group carries it (R95), in ACTIVE the next one does. [Log entry 204: DESIGN CHOICE] -/
def State.sendTrain (s : State) (p : PortId) : State :=
  if s.active p then s.updPort p (fun x => x.queueMsg (s.get (Reg.TRK_PORT_CFG_LANES_EN p.code)) 0x10 [] 1) else s

/-- The lanes a port's transmitter powers (R86, R95, R101). -/
def State.poweredLanes (s : State) (p : PortId) : List Nat :=
  if s.portState p = 0 then []
  else [0, 1, 2, 3].filter (fun n => bitOf (s.get (Reg.TRK_PORT_CFG_LANES_EN p.code)) n && decide (s.get (txLane p n) < 3))

/-- The group of one lane (R85, R87, R88): its mark, and the first message pending there, below ACTIVE a TRAIN, else FILL. -/
def State.sendGroup (s : State) (p : PortId) (n : Nat) : State :=
  let x := s.port p
  let out := fun (s : State) (kind : Nat) (fields : List Nat) =>
    s.emit (.group p n (s.txMask p) (s.fullRate p) x.maskNew x.groups kind (if kind = 0x10 then s.trainFields p else fields))
  match x.firstMsg n with
  | some m =>
    (out s m.kind m.fields).updPort p (fun x => { x with pend := x.pend.flatMap (fun e =>
      if e = m then (if m.left = 1 then [] else [{ m with left := m.left - 1 }]) else [e]) })
  | none => if s.active p then out s 0x01 [] else out s 0x10 []

/-- A TAP_REQ of the hub's own receiver (R98, R100): in the TUNE states, without a module, a new one on a chosen lane whose last was
acknowledged, as the receiver's own algorithm has it. [Log entry 60: DESIGN CHOICE] -/
def State.askTaps (s : State) (p : PortId) (n : Nat) : State :=
  let x := s.port p
  let last := (mget x.tapAsk n).getD (255, true)
  if (s.portState p == 3 || s.portState p == 6) && s.get (Reg.TRK_PORT_CFG_MEDIUM p.code) == 1 && bitOf x.chosen n && !x.ready && last.2 then
    let d := s.draw
    match Config.tapStep d.1 with
    | some (a, b, c, e, f) =>
      let q := (last.1 + 1) % 256
      d.2.updPort p (fun x => ({ x with tapAsk := mput x.tapAsk n (q, false) }).queueMsg (2 ^ n) 0x11 [q, 0, n, a.val, b.val, c.val, e.val, f.val] 1)
    | none => d.2
  else s

/-- One codeword group on every lane a port powers (R85 to R88). -/
def State.sendGroups (s : State) (p : PortId) : State :=
  if s.portState p = 0 then s
  else
    let s := forAll [0, 1, 2, 3] s (fun s n => s.askTaps p n)
    let s := forAll (s.poweredLanes p) s (fun s n => s.sendGroup p n)
    s.updPort p (fun x => { x with groups := (x.groups + 1) % 2 ^ 32, maskNew := false, dealt := 0 })

/-- A codeword group on every trunk port, which an idle step stands for (R85). [Log entry 1: DESIGN CHOICE] -/
def State.groupTick (s : State) : State := forAll allPorts s (fun s p => s.sendGroups p)

/-- The lane that the next striped block of a port goes on (R86). -/
def State.dealLane (s : State) (p : PortId) : Nat :=
  let l := [0, 1, 2, 3].filter (fun n => bitOf (s.txMask p) n)
  (l[(s.port p).dealt % l.length]?).getD 0

/-- A port state taken (R95): LINK_UP on entering ACTIVE and LINK_DOWN on leaving it (R114). -/
def State.setPortState (s : State) (p : PortId) (st : Nat) : State :=
  let old := s.portState p
  let s := (s.set (Reg.TRK_PORT_STATE_STATE p.code) st).capacityChanged p s.rt.ns
  let s := s.sendTrain p
  if old = 9 ∧ st ≠ 9 then (s.updPort p (fun x => { x with activeRounds := 0 })).notice 0x8021 [p.code]
  else if old ≠ 9 ∧ st = 9 then
    s.notice 0x8020 [p.code, s.get (Reg.TRK_PORT_STATE_RATE p.code), s.txMask p, s.rxMask p]
  else s

/-- The port's memory of a bring-up forgotten. -/
def PortSt.forget (x : PortSt) : PortSt :=
  { x with
    farNonce := 0, nonces := [], locked := 0, unused := 0, degraded := 0, chosen := 0, halfChosen := 0, restoreAsk := 0, rxPower := [],
    farLocked := 0, farChosen := 0, farReady := false, farFullCap := false, farStepGo := false, ready := false, stepGo := false,
    tapSeq := [], tapAsk := [], marks := [], badWords := [], badHdrs := [], marksMissed := [], clean := [], discarding := false,
    alignWaited := false, pend := [], maskNew := false, dealt := 0, change := none,
    parts := [], headerSeen := false, late := none, neighbourAge := 2, breaks := [], root := 0 }

/-- Both masks to none. -/
def State.clearMasks (s : State) (p : PortId) : State :=
  let s := forAll [0, 1, 2, 3] s (fun s n => (s.set (rxLane p n) 0).set (txLane p n) 0)
  s.setMasks p 0 0

/-- The rate HUNT runs at (R95, R108): half; with a module, that of the application selected, which is full where the module advertises
it, but for a port that may not run at full rate and a module that advertises half rate too. [Log entry 205: DESIGN CHOICE] -/
def State.huntFull (s : State) (p : PortId) : Bool :=
  let m := (s.port p).module
  let may := s.flag (Reg.TRK_PORT_CFG_FULL_EN p.code) && !(s.port p).forceHalf
  s.get (Reg.TRK_PORT_CFG_MEDIUM p.code) == 0 && m.full && (may || !m.half)

/-- SKEW of every lane, not measured yet (R112). -/
def State.clearSkew (s : State) (p : PortId) : State := s.setWord (Reg.SKEW p.code) 0xFFFFFFFF#32

/-- The hub manages the module of a port (R107, R108): MEDIUM 0 with a module present. -/
def State.managed (s : State) (p : PortId) : Bool :=
  s.flag (Reg.MODULE_STATUS_PRESENT p.code) && s.get (Reg.TRK_PORT_CFG_MEDIUM p.code) == 0

/-- The management of a module begun, by reading its identifier, or ended (R107, R108). -/
def State.manageModule (s : State) (p : PortId) (on : Bool) : State :=
  let s := s.updPort p (fun x => { x with module := ModuleSt.init })
  let s := s.set (Reg.MODULE_STATUS_MSTATE p.code) (if on then 1 else 0)
  let s := (s.set (Reg.MODULE_STATUS_LOS p.code) 0).set (Reg.MODULE_STATUS_TX_FAULT p.code) 0
  if on then s.emit (.module p 1) else s

/-- Entry to HUNT (R92, R95, R99): a new NONCE, the rate of `huntFull`, taps at TX_PRESET. -/
def State.enterHunt (s : State) (p : PortId) : State :=
  let d := s.draw
  let s := d.2.updPort p (fun x => { x.forget with nonce := (Config.nonce d.1).toNat })
  let s := s.setPortState p 1
  let s := (s.set (Reg.TRK_PORT_STATE_RATE p.code) (if s.huntFull p then 1 else 0)).clearMasks p
  (s.clearSkew p).presetAll p

/-- DISABLED: the transmitter is squelched (R95). -/
def State.enterDisabled (s : State) (p : PortId) : State :=
  let s := (s.updPort p PortSt.forget).setPortState p 0
  (s.set (Reg.TRK_PORT_STATE_RATE p.code) 0).clearMasks p

/-- A port held with EN = 0 (R434, R437, R439). -/
def State.holdPort (s : State) (p : PortId) : State :=
  (s.setFlag (Reg.TRK_PORT_CFG_EN p.code) false).enterDisabled p

/-- CHECK entered, at the rate in force (R95). -/
def State.enterCheck (s : State) (p : PortId) : State := s.setPortState p 8

/-- The taps kept on leaving TUNE_HALF (R95, RELOCK_HALF). -/
def State.saveTaps (s : State) (p : PortId) : State :=
  s.updPort p (fun x => { x with tapsHalf := [0, 1, 2, 3].map (fun n => (n, s.word (Reg.TAPS p.code n))), halfChosen := x.chosen })

/-- RATE_STEP (R95): having sent and received STEP_GO, the transmitter goes to full rate at the first group whose GROUP_COUNT is a
multiple of 16, and the receivers hunt again. -/
def State.rateStep (s : State) (p : PortId) : State :=
  let s := s.set (Reg.TRK_PORT_STATE_RATE p.code) 1
  let s := s.updPort p (fun x => { x with
    locked := 0, ready := false, farReady := false, marks := [], badHdrs := [], groups := (x.groups + 15) / 16 * 16 % 2 ^ 32 })
  (s.setPortState p 5).syncLanes p

/-- STEP (R95): STEP_GO where both ends may run at full rate, else CHECK at half rate. A module must advertise both rates
(R108). -/
def State.enterStep (s : State) (p : PortId) : State :=
  let x := s.port p
  let twoRates := s.get (Reg.TRK_PORT_CFG_MEDIUM p.code) == 1 || (x.module.full && x.module.half)
  let s := s.saveTaps p
  if s.flag (Reg.TRK_PORT_CFG_FULL_EN p.code) && x.farFullCap && !x.forceHalf && twoRates then
    let s := (s.updPort p (fun x => { x with stepGo := true })).setPortState p 4
    if x.farStepGo then s.rateStep p else s
  else (s.setPortState p 4).enterCheck p

/-- RELOCK_HALF (R95): half rate again, the taps of TUNE_HALF restored, the lanes of half rate awaited. -/
def State.enterRelockHalf (s : State) (p : PortId) : State :=
  let s := s.set (Reg.TRK_PORT_STATE_RATE p.code) 0
  let s := forAll (s.port p).tapsHalf s (fun s t => s.setWord (Reg.TAPS p.code t.1) t.2)
  let s := s.updPort p (fun x => { x with locked := 0, marks := [], badHdrs := [], chosen := x.halfChosen })
  (s.setPortState p 7).syncLanes p

/-- The chosen lanes of a port are all locked. -/
def PortSt.chosenLocked (x : PortSt) : Bool := x.chosen != 0 && maskSub x.chosen x.locked == 0

/-- TUNE_HALF entered from ALIGN with the lanes chosen under R96. -/
def State.enterTuneHalf (s : State) (p : PortId) : State :=
  let s := s.updPort p (fun x => { x with chosen := if x.chosen = 0 then widthOf (s.usable p) else x.chosen })
  let s := s.setPortState p 3
  s.setMasks p (s.port p).farChosen (s.port p).chosen

/-- What a change of lock or a TRAIN can move (R95): HUNT to ALIGN, ALIGN to
TUNE_HALF once both ends have chosen, RELOCK_FULL to TUNE_FULL, RELOCK_HALF to CHECK, the TUNE states
on to STEP and CHECK, STEP to RELOCK_FULL. -/
def State.advancePort (s : State) (p : PortId) : State :=
  let x := s.port p
  match s.portState p with
  | 1 => if x.locked ≠ 0 ∧ x.farLocked ≠ 0 then s.setPortState p 2 else s
  | 2 => if x.chosen ≠ 0 ∧ x.farChosen ≠ 0 then s.enterTuneHalf p else s
  | 3 => if x.ready && x.farReady then s.enterStep p else s
  | 4 => if x.stepGo && x.farStepGo then s.rateStep p else s
  | 5 => if x.chosenLocked then s.setPortState p 6 else s
  | 6 => if x.ready && x.farReady then s.enterCheck p else s
  | 7 => if x.chosenLocked then (s.setMasks p (s.txMask p) x.chosen).enterCheck p else s
  | _ => s

/-- LANE_PLAN at the entry to ACTIVE (R102): lanes outside it rest from the next boundary that LANE_POWER can announce, and TX_MASK narrows
with them. [Log entry 206: DEDUCED] -/
def State.planOnActive (s : State) (p : PortId) : State :=
  let on := s.get (Reg.LANE_PLAN_POWERED p.code)
  let m := widthOf ((s.txMask p).land on)
  let rest := maskSub (s.get (Reg.TRK_PORT_CFG_LANES_EN p.code)) on
  let n := s.round + (if s.rt.mark < 2 then 1 else 2)
  if rest = 0 ∨ m = 0 then s
  else
    let s := s.updPort p (fun x => x.queueMsg (s.txMask p) 0x14 [rest, 2 + s.get (Reg.LANE_PLAN_REST p.code), n % 2 ^ 32] 0)
    s.updPort p (fun x => { x with change := some ⟨n, m, false⟩ })

/-- The SEAL_COUNTER of the letter whose key serves a port: what tells its link key from another of the same slot (R427, R434). [Log entry 214: DESIGN CHOICE] -/
def State.linkLetter (s : State) (p : PortId) : Nat := ((mget s.sec.slots (s.linkSlot p)).getD SlotSt.init).letter

/-- ACTIVE entered (R95, R116, R435 to R437): counters from 1, the pair of NONCEs recorded. A repeat or equal NONCEs retrain
the port at once, and 4,096 pairs hold it. A TRUNK_RETRAIN that waits completes. In CRYPTO_ERROR no link key is delivered, which
KEY_EVENT tells, and the port is held (R444); nor while the switch–keeper link is down, when the port trains anew (R16, R424). [Log entry 160: DESIGN CHOICE] -/
def State.enterActive (s : State) (p : PortId) : State :=
  if s.linkSlot p ≠ 0 ∧ s.flag Reg.SEC_STATE_CRYPTO_ERROR then
    (s.notice 0x80D0 [s.linkSlot p, s.get (Reg.SLOT_ATTR_STATE (s.linkSlot p)), s.get (Reg.SEAL_COUNTER_VALUE (s.linkSlot p)),
      Status.hwFault.code]).holdPort p
  else if s.linkSlot p ≠ 0 ∧ !s.skUp then s.enterHunt p
  else
  let s := s.updPort p (fun x => { x with
    txCount := 1, rxCount := 0, tagRun := 0, keySlot := s.linkSlot p, keyLetter := s.linkLetter p, keySince := 0, oldKey := false, activeRounds := 0,
    parts := [], forceHalf := false })
  let s := (s.setPortState p 9).planOnActive p
  let s := s.finishWaiters 0x0120 p.code .ok (leBytes 4 (s.word (Reg.TRK_PORT_STATE p.code)).toNat)
  let x := s.port p
  let pair := (x.nonce, x.farNonce)
  if x.nonce = x.farNonce ∨ x.pairs.contains pair then
    (s.bump Cnt.SECURE_LINK_RETRAINS).enterHunt p
  else
    let n := s.get (Reg.LINK_USES_PAIRS p.code) + 1
    let s := (s.updPort p (fun x => { x with pairs := pair :: x.pairs })).set (Reg.LINK_USES_PAIRS p.code) n
    let s := if n = 3584 then s.keyFault p .wear else s
    if 4096 ≤ n then (s.keyFault p .exhausted).holdPort p else s

end Machine
end Sys2Proof
end

