-- ==== Sys2Proof/Machine/Links.lean ====
section
/-!
DEFINITION. The trunk links above the lanes (R115 to R143): round headers, envelopes, break entries and steering, the root and
its standby, and the link part of a boundary.
-/
namespace Sys2Proof
namespace Machine

/-- The port is MISWIRED (R126). [Log entry 63: DEDUCED] -/
def State.miswired (s : State) (p : PortId) : Bool := s.flag (Reg.NEIGHBOUR_MISWIRED p.code)

/-- The words of GROUP_ROUTE that stand above their reset, by group (R130). -/
def State.routeWords (s : State) : List (Nat × Nat) :=
  s.regs.filterMap (fun e => if Reg.GROUP_ROUTE 0 ≤ e.1 ∧ e.1 < Reg.GROUP_ROUTE 1024 then some ((e.1 - Reg.GROUP_ROUTE 0) / 4, e.2.toNat) else none)

/-- The hub holds a branch link: its position is a junction of a valid GROUP_ROUTE entry (R127). -/
def State.holdsBranch (s : State) : Bool :=
  s.routeWords.any (fun w => w.1 != s.group && bitOf w.2 31 &&
    (bitsOf w.2 0 6 == s.position || (bitOf w.2 30 && bitsOf w.2 6 6 == s.position)))

/-- The neighbour's header breaks the ring-order or group rules (R126). [Log entry 63: DEDUCED] -/
def State.wrongNeighbour (s : State) (p : PortId) (h : Header) : Bool :=
  let m := s.ringSize
  let q := h.sender.toNat
  let sameGroup := q / 64 == s.group
  let ordered := s.addrValid && decide (1 ≤ m ∧ m ≤ 64)
  !h.addrValid ||
  (match p with
   | .a => (s.addrValid && !sameGroup) || (ordered && !(q % 64 == (s.position + 1) % m && h.port.val == 1))
   | .b => (s.addrValid && !sameGroup) || (ordered && !(q % 64 == (s.position + m - 1) % m && h.port.val == 0))
   | .c => s.addrValid && sameGroup)

/-- The link a port's break entry names (R126, R127). -/
def State.ownBreak (s : State) (p : PortId) : Nat :=
  let m := if s.ringSize = 0 then 64 else s.ringSize
  match p with
  | .a => breakEntry 0 0 s.position
  | .b => breakEntry 0 0 ((s.position + m - 1) % m)
  | .c => breakEntry 1 0 s.position

/-- Two entries name one link. -/
def sameBreak (a b : Nat) : Bool := breakKind a == breakKind b && breakPos a == breakPos b

/-- Entries by ascending AGE, then POSITION, then KIND. -/
def breakBefore (a b : Nat) : Bool :=
  if breakAge a ≠ breakAge b then decide (breakAge a < breakAge b)
  else if breakPos a ≠ breakPos b then decide (breakPos a < breakPos b)
  else decide (breakKind a ≤ breakKind b)

/-- An entry put into a sorted list that names each link once, with its smallest AGE. [Log entry 64: DEDUCED] -/
def insertBreak (l : List Nat) (e : Nat) : List Nat :=
  if l.any (fun x => sameBreak x e && breakBefore x e) then l
  else
    let l := l.filter (fun x => !sameBreak x e)
    l.takeWhile (fun x => breakBefore x e) ++ e :: l.dropWhile (fun x => breakBefore x e)

/-- Every break entry the hub knows: its own and those of the ring ports' headers (R128). -/
def State.knownBreaks (s : State) : List Nat :=
  let own := (allPorts.filter (fun p => (s.port p).observed)).map s.ownBreak
  (own ++ s.link.portA.breaks ++ s.link.portB.breaks).foldl insertBreak []

/-- The entries held (R128): the first four; RING_BREAK for one that appears and RING_HEALED for one that goes (R129). An entry beyond four
counts in BREAKS_OVERFLOW once, as its link first falls beyond the four kept. [Log entry 219: DESIGN CHOICE] -/
def State.holdBreaks (s : State) : State :=
  let all := s.knownBreaks
  let held := all.take 4
  let past := all.drop 4
  let old := s.link.held
  let s := s.bump Cnt.TOPO_BREAKS_OVERFLOW ((past.filter (fun e => !(s.link.overflow.any (sameBreak e)))).length)
  let s := { s with link := { s.link with held := held, overflow := past } }
  let s := forAll (held.filter (fun e => !(old.any (sameBreak e)))) s (fun s e => s.notice 0x8030 [breakKind e, breakPos e])
  forAll (old.filter (fun e => !(held.any (sameBreak e)))) s (fun s e => s.notice 0x8031 [breakKind e, breakPos e])

/-- A root entry's parts (R136). -/
def rootUp (e : Nat) : Bool := bitOf e 14
def rootPrimary (e : Nat) : Bool := bitOf e 13
def rootAge (e : Nat) : Nat := bitsOf e 6 6
def rootPos (e : Nat) : Nat := bitsOf e 0 6
def rootEntry (up primary : Bool) (age pos : Nat) : Nat :=
  0x8000 + (if up then 0x4000 else 0) + (if primary then 0x2000 else 0) + age % 64 * 64 + pos % 64

/-- The first of two entries is kept (R136); 0 is none. -/
def rootBetter (a b : Nat) : Bool :=
  if b = 0 then true else if a = 0 then false
  else if rootUp a != rootUp b then rootUp a
  else if rootPrimary a != rootPrimary b then rootPrimary a
  else decide (rootAge a ≤ rootAge b)

/-- ROOT_SEEN's entry (R136, R142). [Log entry 66: DEDUCED] -/
def State.rootSeen (s : State) : Nat := s.get Reg.ROOT_SEEN_ENTRY

/-- The hub of the group known to hold ROOT changes: ROOT_CHANGED with its position, or at a yield with that of the hub that yields (R137). [Log entry 73: DEDUCED] -/
def State.rootMoves (s : State) (holder : Option Nat) (tell : Nat) : State :=
  if s.link.rootAt = holder then s
  else ({ s with link := { s.link with rootAt := holder, rootWait := holder.isNone } }).notice 0x8032 [tell]

/-- Who holds ROOT, as the root entries show it at any hub of the group (R136, R137): the sender of an UP entry that is not PRIMARY; the
sender of a PRIMARY one at once where no standby held ROOT, otherwise 8,064 rounds after it was first held, the standby yielding 64 rounds
before. [Log entry 73: DEDUCED] -/
def State.watchRoot (s : State) : State :=
  let e := s.rootSeen
  let n := s.link.primaryRounds
  if !rootUp e then
    (match s.link.rootAt with
     | some q => if s.flag Reg.GROUP_CFG_ROOT_EN && q != s.position then s.rootMoves none q else s
     | none => s)
  else if !rootPrimary e then s.rootMoves (some (rootPos e)) (rootPos e)
  else
    match s.link.rootAt with
    | some q =>
      if q = rootPos e then s else if 8064 ≤ n then s.rootMoves (some (rootPos e)) (rootPos e) else if 8000 ≤ n then s.rootMoves none q else s
    | none => if s.link.rootWait && decide (n < 8064) then s else s.rootMoves (some (rootPos e)) (rootPos e)

/-- The root entry kept from other hubs (R136), with what it shows of the holder of ROOT (R137). [Log entry 66: DEDUCED] -/
def State.keepRoot (s : State) : State :=
  (s.set Reg.ROOT_SEEN_ENTRY (if rootBetter s.link.portA.root s.link.portB.root then s.link.portA.root else s.link.portB.root)).watchRoot

/-- An entry of a header that may be learned: VALID, a position of the ring (R141). -/
def State.entryOk (s : State) (e : Nat) : Bool := bitOf e 15 && decide (e % 64 < s.ringSize)

/-- A round header's neighbour, credits, breaks and root entry taken (R122 to R128, R136). After the seal mark its credits are not used, and
its break and root entries wait for the boundary. -/
def State.takeHeader (s : State) (p : PortId) (h : Header) : State :=
  let wrong := s.wrongNeighbour p h
  let was := s.miswired p
  let s := ((s.setFlag (Reg.NEIGHBOUR_VALID p.code) true).set (Reg.NEIGHBOUR_POSTCODE p.code) h.sender.toNat).setFlag
    (Reg.NEIGHBOUR_MISWIRED p.code) wrong
  let s := if wrong && !was then s.notice 0x8033 [p.code, h.sender.toNat] else s
  let ring := decide (p ≠ .c) && !wrong
  let entries := [h.break0.toNat, h.break1.toNat, h.break2.toNat, h.break3.toNat].filter s.entryOk
  let root := if s.entryOk h.root.toNat && h.root.toNat % 64 != s.position then h.root.toNat else 0
  let intime := decide (s.rt.mark < 2)
  let s := s.updPort p (fun x => { x with
    neighbourAge := 0, headerSeen := x.headerSeen || intime,
    breaks := if !ring then [] else if intime then entries else x.breaks, root := if !ring then 0 else if intime then root else x.root,
    late := if ring && !intime then some (entries, root) else none,
    creditAssured := if intime then h.creditAssured.toNat else x.creditAssured,
    creditRegistered := if intime then h.creditRegistered.toNat else x.creditRegistered,
    creditBulk := if intime then h.creditBulk.toNat else x.creditBulk,
    activeRounds := if wrong then 0 else x.activeRounds })
  s.holdBreaks.keepRoot

/-- ROUND_HEADER (R121, R122). -/
def execRoundHeader (p : PortId) (ns : Ns) (h : Header) (s : State) : Result :=
  .next <|
    if !s.streams p then s
    else
      let s := s.at ns.val
      if !headerCrcOk h || h.version != 1 then s.bump (Cnt.TOPO_HEADER_FAILS p.code)
      else (s.takeHeader p h).headerTiming p h

/-- The hub carries the traffic of R29 only: it has no postcode, or its ring is not configured (R29, R142). -/
def State.confined (s : State) : Bool := !s.addrValid || s.ringSize == 0

/-- What a port carries of arriving envelopes beyond check 5 of R119: none on a ring port of a ring of one hub (R126); box 0 MGMT envelopes
only on a MISWIRED port, in commissioning mode and at a hub confined to R29, and where it is not commissioning alone that says so, only
those of the neighbour itself (R29, R126, R435). [Log entry 220: DEDUCED] -/
def State.envAllowed (s : State) (p : PortId) (e : Env) : Bool :=
  !(s.ringSize == 1 && p != .c) &&
  (!s.commissioning p || (e.dstBox.val == 0 && e.srcBox.val == 0)) &&
  (!(s.miswired p || s.confined) || (e.dstBox.val == 0 && e.srcPc.toNat == s.get (Reg.NEIGHBOUR_POSTCODE p.code)))

/-- Check 5 of R119 on the header's fields; of the two boxes, the rule for box 0 and MGMT is read of DST_BOX. [Log entry 221: DESIGN CHOICE] -/
def envFieldsOk (e : Env) : Bool :=
  e.ver.val == 1 && decide (e.type.val ≤ 2) && decide (e.colour.val ≤ 2) && decide (e.kind.val ≤ 5) &&
  decide (e.length.val ≤ 2048) && (e.cls != .registered || decide (e.length.val ≤ 192)) && !(e.twin && e.turned) &&
  ((e.dstBox.val == 0) == (e.kind.val == 5))

/-- The part held of an envelope's frame. -/
def PortSt.part (x : PortSt) (srcPc srcBox seqStamp : Nat) : Option PartFrame :=
  x.parts.find? (fun f => f.srcPc == srcPc && f.srcBox == srcBox && f.seqStamp == seqStamp)

def PortSt.dropPart (x : PortSt) (srcPc srcBox seqStamp : Nat) : PortSt :=
  { x with parts := x.parts.filter (fun f => !(f.srcPc == srcPc && f.srcBox == srcBox && f.seqStamp == seqStamp)) }

/-- Check 7 of R119: the segment continues its frame. -/
def PortSt.continues (x : PortSt) (e : Env) : Bool :=
  if e.first then e.seg.val == 0
  else
    match x.part e.srcPc.toNat e.srcBox.val e.seqStamp.toNat with
    | some f => e.seg.val == f.seg + 1
    | none => false

/-- A tag that fails (R119, R439): 64 in a row with none passing since ACTIVE hold the port. -/
def State.tagFails (s : State) (p : PortId) : State :=
  let s := (s.bump (Cnt.TOPO_TAG_FAILS p.code)).updPort p (fun x => { x with tagRun := x.tagRun + 1 })
  let x := s.port p
  if x.tagRun = 64 ∧ x.rxCount = 0 then
    ((s.setFlag (Reg.LINK_USES_MISMATCH p.code) true).keyFault p .mismatch).holdPort p
  else s

/-- Check 4 of R119 with the two keys of R440: the new key first, then the old one for counters not above the first accepted
under the new. -/
def PortSt.tagPasses (x : PortSt) (m : EnvMarks) (counter : Nat) : Bool :=
  m.tagOk || (x.oldKey && m.tagOkOther && (x.keySince == 0 || decide (counter < x.keySince)))

/-- ENVELOPE (R21, R119): none is accepted while CIPHER is not powered. The checks in order; an envelope that passes them all goes to the switch. [Log entries 67: DESIGN CHOICE, 68: DESIGN CHOICE] -/
def execEnvelope (p : PortId) (e : Env) (m : EnvMarks) (s : State) : Result :=
  .next <|
    let x := s.port p
    let ahead := (e.hopSeq.toNat + 65536 - x.rxCount % 65536) % 65536
    let counter := x.rxCount + ahead
    if !s.streams p || !s.powered .cipher then s
    else
    let s := s.bump (Cnt.TOPO_ENV_IN p.code)
    if m.flagged then s.bump (Cnt.TOPO_FLAGGED p.code)
    else if !m.crcOk || e.payload.length != e.length.val then s.bump (Cnt.TOPO_CRC_FAILS p.code)
    else if ahead = 0 ∨ 32767 < ahead then s.bump (Cnt.TOPO_REPLAYED p.code)
    else if !x.tagPasses m counter then s.tagFails p
    else
      let s := s.updPort p (fun x => { x with
        rxCount := counter, tagRun := 0, keySince := if x.oldKey && m.tagOk && x.keySince == 0 then counter else x.keySince })
      if !envFieldsOk e || !s.envAllowed p e then s.bump (Cnt.TOPO_BAD_HEADER p.code)
      else if e.hops.val = 0 then s.bump (Cnt.TOPO_HOPS_EXPIRED p.code)
      else if !x.continues e then s.bump (Cnt.TOPO_FRAME_BROKEN p.code)
      else
        let s := s.updPort p (fun x =>
          let x := x.dropPart e.srcPc.toNat e.srcBox.val e.seqStamp.toNat
          if e.last then x else { x with parts := ⟨e.srcPc.toNat, e.srcBox.val, e.seqStamp.toNat, e.seg.val⟩ :: x.parts })
        s

/-- The hub may observe a break on a port (R127): a ring port, or port C while it carries a branch link. -/
def State.observes (s : State) (p : PortId) : Bool := decide (p ≠ .c) || s.holdsBranch

/-- BREAK_OBSERVED (R127). -/
def execBreakObserved (p : PortId) (s : State) : Result :=
  .next <|
    if (!s.active p || s.miswired p) && s.observes p && !(s.port p).observed then
      (s.updPort p (fun x => { x with observed := true, activeRounds := 0 })).holdBreaks
    else s

/-- BREAK_WITHDRAWN (R128). -/
def execBreakWithdrawn (p : PortId) (s : State) : Result :=
  .next <|
    if (s.port p).observed && s.active p && !s.miswired p && decide (8000 ≤ (s.port p).activeRounds) then
      (s.updPort p (fun x => { x with observed := false })).holdBreaks
    else s

/-- STEERING_SNAPSHOT (R129). -/
def execSteeringSnapshot (s : State) : Result := .next { s with link := { s.link with nextSteering := s.link.held } }

/-- ROOT taken or left, with STANDBY_ROOT beside it and ROOT_CHANGED (R137). [Log entries 65: DESIGN CHOICE, 73: DEDUCED] -/
def State.setRoot (s : State) (b : Bool) : State :=
  if s.flag Reg.HUB_ROLES_ROOT = b then s
  else
    let s := s.setFlag Reg.HUB_ROLES_ROOT b
    let s := s.setFlag Reg.HUB_ROLES_STANDBY_ROOT (!b && s.flag Reg.GROUP_CFG_STANDBY_EN)
    ({ s with link := { s.link with rootAt := if b then some s.position else none, rootWait := !b } }).notice 0x8032 [s.position]

/-- HOST_LINK_UP (R137): where the entry held from other hubs does not have UP = 1, a configured root takes ROOT at the next
boundary. -/
def execHostLinkUp (s : State) : Result :=
  .next <|
    let take := s.flag Reg.GROUP_CFG_ROOT_EN && s.addrValid && !rootUp s.rootSeen
    { s with link := { s.link with hostUp := true, hostUpTold := true, hostUpSince := s.round, takeRoot := take } }

/-- HOST_LINK_LOSS (R136): UP = 0 from now on; a configured root no longer serves the group host. [Log entry 65: DESIGN CHOICE] -/
def execHostLinkLoss (s : State) : Result :=
  .next <|
    let s := { s with link := { s.link with hostUp := false, hostUpTold := false, takeRoot := false } }
    if s.flag Reg.GROUP_CFG_ROOT_EN then s.setRoot false else s

/-- CONFIGURED_ROOT_TAKE (R137). -/
def execConfiguredRootTake (s : State) : Result :=
  .next <|
    if s.flag Reg.GROUP_CFG_ROOT_EN && s.addrValid && s.link.hostUp && decide (s.link.hostUpSince + 8064 ≤ s.round)
    then s.setRoot true else s

/-- STANDBY_TAKE (R137). -/
def execStandbyTake (s : State) : Result :=
  .next <| if s.flag Reg.GROUP_CFG_STANDBY_EN && decide (8 ≤ s.link.noUpRounds) then s.setRoot true else s

/-- STANDBY_YIELD (R137). -/
def execStandbyYield (s : State) : Result :=
  .next <|
    if s.flag Reg.GROUP_CFG_STANDBY_EN && s.flag Reg.HUB_ROLES_ROOT && decide (8000 ≤ s.link.primaryRounds)
    then s.setRoot false else s

/-- The steering set takes force and its registers show it (R129, R142). -/
def State.steerAtBoundary (s : State) : State :=
  let l := s.link.nextSteering
  let e := fun (i : Nat) => l[i]?.getD 0
  let s := { s with link := { s.link with steering := l } }
  let s := (s.set (Reg.BREAKS_ENTRY_LO 0) (e 0)).set (Reg.BREAKS_ENTRY_HI 0) (e 1)
  (s.set (Reg.BREAKS_ENTRY_LO 1) (e 2)).set (Reg.BREAKS_ENTRY_HI 1) (e 3)

/-- Lanes a LANE_POWER message moves at its boundary (R102): the far transmitter's lanes become ACTIVE, IDLE or QUIET. [Log entry 62: DESIGN CHOICE] -/
def State.applyRxPower (s : State) (p : PortId) (m : RxPower) : State :=
  let lanes := [0, 1, 2, 3].filter (fun n => bitOf m.mask n)
  let rx := widthOf (maskSub (if m.mode = 1 then (s.rxMask p).lor m.mask else maskSub (s.rxMask p) m.mask) (s.port p).degraded)
  let s := forAll lanes s (fun s n => s.set (rxLane p n) (if m.mode = 1 then 2 else m.mode + 1))
  let s := s.updPort p (fun x => { x with chosen := rx })
  s.setMasks p (s.txMask p) rx

/-- The lanes of a transmitter outside TX_MASK (R101, R102): those outside LANE_PLAN rest as it says, those within it stand by. -/
def State.restLanes (s : State) (p : PortId) : State :=
  let on := s.get (Reg.LANE_PLAN_POWERED p.code)
  let idle := [0, 1, 2, 3].filter (fun n => !bitOf (s.txMask p) n && s.get (txLane p n) != 0)
  let s := forAll idle s (fun s n => s.set (txLane p n) (if bitOf on n then 2 else 3 + s.get (Reg.LANE_PLAN_REST p.code)))
  s.syncLanes p

/-- The lanes of a port at a boundary: changes fixed for it (R102, R105), the per-round counts of R103 and R105. [Log entry 62: DESIGN CHOICE] -/
def State.lanesAtBoundary (s : State) (p : PortId) : State :=
  let s := match (s.port p).change with
    | some c =>
      if c.round = s.round then
        let s := s.updPort p (fun x => { x with change := none })
        if s.active p then (s.setMasks p c.mask (s.rxMask p)).restLanes p else s
      else s
    | none => s
  let due := (s.port p).rxPower.filter (fun m => m.roundLo == s.round % 2 ^ 32)
  let s := s.updPort p (fun x => { x with
    rxPower := x.rxPower.filter (fun m => m.roundLo != s.round % 2 ^ 32),
    pend := x.pend.filter (fun m => !(m.kind == 0x14 && m.fields.getLast? == some (s.round % 2 ^ 32))) })
  let s := if s.active p then forAll due s (fun s m => s.applyRxPower p m) else s
  s.updPort p (fun x => { x with
    badWords := [],
    clean := ([0, 1, 2, 3].filter (fun n => bitOf x.locked n)).map (fun n => (n, (mget x.clean n).getD 0 + 1)) })

/-- A port's neighbour at a boundary (R122, R128, R142): entries a header no longer carries are dropped, those of a late one used, the link's
age counted. [Log entries 66: DEDUCED, 69: DEDUCED] -/
def State.neighbourAtBoundary (s : State) (p : PortId) : State :=
  let x := s.port p
  let s := if 2 ≤ x.neighbourAge then s.setFlag (Reg.NEIGHBOUR_VALID p.code) false else s
  s.updPort p (fun x => { x with
    neighbourAge := x.neighbourAge + 1, headerSeen := false,
    breaks := if 1 ≤ x.neighbourAge then [] else (x.late.map (·.1)).getD x.breaks,
    root := if 1 ≤ x.neighbourAge then 0 else (x.late.map (·.2)).getD x.root, late := none,
    activeRounds := if s.active p && !s.miswired p then x.activeRounds + 1 else 0 })

/-- The roles at a boundary (R137): ROOT due, the counts of the standby, JUNCTION and STANDBY_ROOT from the configuration. [Log entry 71: DEDUCED] -/
def State.rolesAtBoundary (s : State) : State :=
  let up := rootUp s.rootSeen
  let s := { s with link := { s.link with
    noUpRounds := if up then 0 else s.link.noUpRounds + 1,
    primaryRounds := if up && rootPrimary s.rootSeen then s.link.primaryRounds + 1 else 0 } }
  let s := s.setFlag Reg.HUB_ROLES_JUNCTION s.holdsBranch
  let s := if s.link.takeRoot then ({ s with link := { s.link with takeRoot := false } }).setRoot true else s
  let s := if !s.flag Reg.GROUP_CFG_ROOT_EN && !s.flag Reg.GROUP_CFG_STANDBY_EN then s.setRoot false else s
  s.setFlag Reg.HUB_ROLES_STANDBY_ROOT (s.flag Reg.GROUP_CFG_STANDBY_EN && !s.flag Reg.HUB_ROLES_ROOT)

/-- The link part of a boundary before the headers leave. -/
def State.linksAtBoundary (s : State) : State :=
  let s := s.steerAtBoundary
  let s := forAll allPorts s (fun s p => (s.lanesAtBoundary p).neighbourAtBoundary p)
  s.holdBreaks.keepRoot.rolesAtBoundary

/-- The break entries sent on a ring port (R128): own ones with AGE 0, those learned on the other ring port one older. [Log entry 64: DEDUCED] -/
def State.breaksFor (s : State) (p : PortId) : List Nat :=
  match p with
  | .c => []
  | _ =>
    let other := if p = .a then s.link.portB.breaks else s.link.portA.breaks
    let own := (allPorts.filter (fun q => (s.port q).observed)).map s.ownBreak
    let relayed := (other.filter (fun e => breakAge e != 63 && s.link.held.any (sameBreak e))).map
      (fun e => breakEntry (breakKind e) (breakAge e + 1) (breakPos e))
    ((own ++ relayed).foldl insertBreak []).take 4

/-- The root entry sent on a ring port (R136). -/
def State.rootFor (s : State) (p : PortId) : Nat :=
  let own := s.flag Reg.HUB_ROLES_ROOT || (s.flag Reg.GROUP_CFG_ROOT_EN && s.addrValid)
  match p with
  | .c => 0
  | _ =>
    if own then rootEntry s.link.hostUpTold (s.flag Reg.GROUP_CFG_ROOT_EN) 0 s.position
    else
      let e := if p = .a then s.link.portB.root else s.link.portA.root
      if e = 0 ∨ rootAge e = 63 then 0 else rootEntry (rootUp e) (rootPrimary e) (rootAge e + 1) (rootPos e)

/-- The round header a port sends at this boundary (R120, R121). -/
def State.header (s : State) (p : PortId) : Header :=
  let h := (s.dir p).sheet
  let b := s.breaksFor p
  let w := fun (n : Nat) => BitVec.ofNat 16 n
  { version := 1, port := Fin.ofNat 4 p.code, addrValid := s.addrValid, roles := BitVec.ofNat 4 ((s.word Reg.HUB_ROLES).toNat / 2),
    sender := w s.postcode, postmark := postmark s.rt.round s.rt.ns, epoch := w s.epoch, master := w s.master,
    distance := BitVec.ofNat 8 (s.get Reg.TIMING_DISTANCE), tstate := Fin.ofNat 8 s.timing, ringSize := Fin.ofNat 128 s.ringSize,
    creditAssured := w (s.get (Reg.GRANT_AR_ASSURED p.code)), creditRegistered := w (s.get (Reg.GRANT_AR_REGISTERED p.code)),
    creditBulk := w (s.get (Reg.GRANT_B_BULK p.code)), sheetRate := h.full, sheetMask := BitVec.ofNat 4 h.mask,
    slotsIso := w (h.slotsOfClass .iso), slotsAssured := w (h.slotsOfClass .assured), slotsRegistered := w (h.slotsOfClass .registered),
    slotsBulk := w (h.slotsOfClass .bulk), sheetCrc := BitVec.ofNat 32 h.crc, break0 := w (b[0]?.getD 0), break1 := w (b[1]?.getD 0),
    break2 := w (b[2]?.getD 0), break3 := w (b[3]?.getD 0), root := w (s.rootFor p), crc := 0 }

/-- Each ACTIVE port sends its round header (R120). -/
def State.sendHeaders (s : State) : State :=
  forAll allPorts s (fun s p => if s.active p then (s.emit (.header p (framedHeader (s.header p)))).dealt p 9 else s)

end Machine
end Sys2Proof
end

