-- ==== Sys2Proof/Machine/EngOps.lean ====
section
/-!
DEFINITION. Shared operations of the carrier engines (R208 to R210, R213, R217, R221): contexts placed and released, items, and
the fill of a slice table.
-/
namespace Sys2Proof
namespace Machine

/-- An engine's record. -/
def State.engine (s : State) (e : Nat) : EngineSt := (mget s.eng.engines e).getD EngineSt.init
def State.setEngine (s : State) (e : Nat) (x : EngineSt) : State := { s with eng := { s.eng with engines := mput s.eng.engines e x } }
def State.updEngine (s : State) (e : Nat) (f : EngineSt → EngineSt) : State := s.setEngine e (f (s.engine e))

/-- MIN and CEIL of a kind (R228). MGMT has no contexts. -/
def State.kindMin (s : State) (k : Kind) : Nat := s.get (Reg.KIND_CFG_MIN k.code)
def State.kindCeil (s : State) (k : Kind) : Nat := s.get (Reg.KIND_CFG_CEIL k.code)

/-- The contexts of an engine, by index within it. -/
def State.contextsOf (s : State) (e : Nat) : List (Nat × Context) :=
  (s.eng.contexts.filter (fun c => c.1 / 256 == e)).map (fun c => (c.1 % 256, c.2))

/-- MIN_SUM of an engine (R209). -/
def State.minSum (s : State) (e : Nat) : Nat := ((s.contextsOf e).map (fun c => s.kindMin c.2.kind)).sum

/-- ENG_LOAD of an engine (R228). -/
def State.syncEngine (s : State) (e : Nat) : State :=
  (s.set (Reg.ENG_LOAD_CONTEXTS e) (s.contextsOf e).length).set (Reg.ENG_LOAD_MIN_SUM e) (s.minSum e)

/-- CONTEXT's word of a context (R228). -/
def State.syncContext (s : State) (c : Nat) : State :=
  match mget s.eng.contexts c with
  | none => s.setWord (Reg.CONTEXT c) 0
  | some x =>
    let s := ((s.setFlag (Reg.CONTEXT_VALID c) true).set (Reg.CONTEXT_KIND c) x.kind.code).set (Reg.CONTEXT_BOX c) x.box
    ((s.set (Reg.CONTEXT_DEMAND c) x.demand).setFlag (Reg.CONTEXT_CARRIED c) (x.items.any (fun i => decide (0 < i.crossed)))).set
      (Reg.CONTEXT_ITEMS c) x.items.length

def State.setContext (s : State) (c : Nat) (x : Context) : State :=
  ({ s with eng := { s.eng with contexts := mput s.eng.contexts c x } }).syncContext c

/-- The context a box holds. -/
def State.contextOf (s : State) (box : Nat) : Option (Nat × Context) := s.eng.contexts.find? (fun c => c.2.box == box)

/-- The first free context index of an engine. -/
def State.freeIndex (s : State) (e : Nat) : Option Nat := mfree (s.contextsOf e) 256

/-- An engine that may take a context of a kind (R209, R221). -/
def State.engineTakes (s : State) (k : Kind) (e : Nat) : Bool :=
  bitOf (s.get (Reg.KIND_CFG_ENGINES k.code)) e && !bitOf (s.get Reg.ENG_RUN_DISABLED) e && (s.freeIndex e).isSome &&
  decide (s.minSum e + s.kindMin k ≤ 450)

/-- The engine R209 chooses: the smallest resulting MIN_SUM, ties to the lower number. -/
def State.chooseEngine (s : State) (k : Kind) : Option Nat :=
  (List.range 16).foldl (fun (o : Option Nat) e =>
    if s.engineTakes k e then
      match o with
      | some b => if s.minSum e < s.minSum b then some e else o
      | none => some e
    else o) none

/-- A box's context placed (R209); none where no engine qualifies. -/
def State.placeContext (s : State) (k : Kind) (box : Nat) : Option State :=
  match s.chooseEngine k with
  | none => none
  | some e =>
    match s.freeIndex e with
    | none => none
    | some i => some ((s.setContext (256 * e + i) ⟨box, k, [], 0, none, 0, if s.rt.mark < 2 then 1 else 2⟩).syncEngine e)

/-- Items of a context abandoned (R217): the station block is told, they are counted, and told at most once in 8,000 rounds (R230). -/
def State.abandon (s : State) (c : Nat) (n : Nat) : State :=
  match mget s.eng.contexts c with
  | none => s
  | some x =>
    if n = 0 then s
    else
      let s := (s.emit (.bus 9 c 1 [x.box, n])).bump (Cnt.ENGINE_ITEMS_ABANDONED (c / 256)) n
      let due := match x.told with
        | some r => decide (r + 8000 ≤ s.boot.ticks)
        | none => true
      if due then (s.setContext c { x with told := some s.boot.ticks }).notice 0x8061 [c, x.box, s.now] else s

/-- A box's context released, its items abandoned (R208, R226). -/
def State.releaseContext (s : State) (box : Nat) : State :=
  match s.contextOf box with
  | none => s
  | some (c, x) =>
    let s := s.abandon c x.items.length
    let s := { s with eng := { s.eng with contexts := mdel s.eng.contexts c } }
    (s.syncContext c).syncEngine (c / 256)

/-- The engine is in service. -/
def State.engineRuns (s : State) (e : Nat) : Bool := !s.servicePowered && bitOf (s.get Reg.ENG_RUN_RUNNING) e && !bitOf (s.get Reg.ENG_RUN_DISABLED) e

/-- Slices dealt one per context per pass, ascending index (R213): `want` gives each context's slices. -/
def deal (grant : Nat) : Nat → List (Nat × Nat) → SliceTable
  | 0, _ => []
  | n + 1, want =>
    let now := want.filter (fun w => decide (0 < w.2))
    if now = [] then []
    else now.map (fun w => (w.1, grant)) ++ deal grant n (now.map (fun w => (w.1, w.2 - 1)))

/-- Leftover slices go one each to unmet contexts in rotation from one past the last taker (R213). -/
def leftovers (last n : Nat) (unmet : List Nat) : List Nat :=
  (unmet.filter (fun i => decide (last < i)) ++ unmet.filter (fun i => decide (i ≤ last))).take n

/-- Steps 1 and 2 of R162 with equal weights, and the slots left over (R213). -/
def shareLoop : Nat → Nat → List (Nat × Nat) → List (Nat × Nat) × Nat
  | 0, free, _ => ([], free)
  | n + 1, free, ms =>
    if ms = [] then ([], free)
    else
      let share := free / ms.length
      let met := ms.filter (fun m => decide (m.2 ≤ share))
      if met = [] then (ms.map (fun m => (m.1, share)), free - share * ms.length)
      else
        let r := shareLoop n (free - (met.map (·.2)).sum) (ms.filter (fun m => !decide (m.2 ≤ share)))
        (met ++ r.1, r.2)

/-- The slice table of an engine for the next round from a configuration, with the context that took the last leftover
(R213). -/
def State.buildTable (cfg : State) (e : Nat) : SliceTable × Nat :=
  let cs := cfg.contextsOf e
  let fixed := deal 0 500 (cs.map (fun c => (c.1, cfg.kindMin c.2.kind)))
  let free := 500 - fixed.length
  let wants := (cs.map (fun c => (c.1, min c.2.demand (cfg.kindCeil c.2.kind) - cfg.kindMin c.2.kind))).filter (fun w => decide (0 < w.2))
  let r := shareLoop (wants.length + 1) free wants
  let got := fun (i : Nat) => ((r.1.filter (fun x => x.1 == i)).map (·.2)).sum
  let unmet := (wants.filter (fun w => decide (got w.1 < w.2))).map (·.1)
  let last := (cfg.engine e).leftover
  let extra := leftovers last r.2 unmet
  let borrowed := deal 1 500 (wants.map (fun w => (w.1, got w.1 + (if extra.contains w.1 then 1 else 0))))
  ((fixed ++ borrowed).take 500, extra.getLast?.getD last)

/-- Entry k of a table (R213): (191 j) mod 500 = k where j = (411 k) mod 500. -/
def entryAt (t : SliceTable) (k : Nat) : Option (Nat × Nat) := (t[411 * k % 500]?).filter (fun c => decide (c.1 < 256))

/-- A dealt slice that an uncorrectable error made unallotted (R216, R460): it keeps its place. -/
def sliceLost : Nat × Nat := (256, 0)

/-- An entry's 16 bits (R214). -/
def entryCode (o : Option (Nat × Nat)) : Nat :=
  match o with
  | some x => x.2 * 0x4000 + x.1
  | none => 0x8000

/-- Slices a context owns in a table from slice k on. -/
def slicesFrom (t : SliceTable) (i k : Nat) : Nat :=
  ((List.range 500).filter (fun j => decide (k ≤ j) && (entryAt t j).map (·.1) == some i)).length

/-- Word w of the table SLICE_SELECT chooses (R228): 0 until a table has come into force. [Log entry 101: DESIGN CHOICE] -/
def State.sliceImageWord (s : State) (e w : Nat) : Word :=
  let x := s.engine e
  let t := if s.flag Reg.SLICE_SELECT_WHICH then x.next.getD x.table else x.table
  if x.live then BitVec.ofNat 32 (entryCode (entryAt t (2 * w)) * 65536 + entryCode (entryAt t (2 * w + 1))) else 0

end Machine
end Sys2Proof
end

