-- ==== Sys2Proof/Machine/RegOps.lean ====
section
/-!
DEFINITION. Shared operations of the Registry (R235 to R242, R252, R258): boxes and their records, entries and their
accounting, dead letters.
-/
namespace Sys2Proof
namespace Machine

/-- A box's record; box 0 is none of R145's boxes (R146). -/
def State.box (s : State) (b : Nat) : Box := (mget s.tun.boxes b).getD Box.init
def State.setBox (s : State) (b : Nat) (x : Box) : State := { s with tun := { s.tun with boxes := mput s.tun.boxes b x } }
def State.updBox (s : State) (b : Nat) (f : Box → Box) : State := s.setBox b (f (s.box b))

/-- The box carries a tunnel that arrivals may reach: OPEN or DRAINING (R150). -/
def Box.serves (x : Box) : Bool := x.state == .opened || x.state == .draining

/-- A receipt-book record (R241). -/
def State.book (s : State) (b : Nat) : Option BookRec := mget s.reg.book b
def State.setBookRec (s : State) (b : Nat) (r : BookRec) : State := { s with reg := { s.reg with book := mput s.reg.book b r } }
def State.updBookRec (s : State) (b : Nat) (f : BookRec → BookRec) : State :=
  { s with reg := { s.reg with book := mupd s.reg.book b f } }

/-- The send side of a box: its record's, while the box is not FREE (R235, R258). -/
def State.sendSide (s : State) (b : Nat) : Option BookRec :=
  match s.book b with
  | some r => if r.send && (s.box b).state != .free && r.ownInc == (s.box b).inc then some r else none
  | none => none

/-- Entries of a send side: those of the box's current incarnation. -/
def State.entriesOf (s : State) (b : Nat) : List (Nat × Entry) :=
  s.reg.entries.filter (fun e => e.2.box == b && e.2.ownInc == (s.box b).inc)

/-- used(b) (R235, R258). -/
def State.used (s : State) (b : Nat) : Nat := (s.entriesOf b).length

/-- Entries of a box that are HELD, and its dead letters (R264). -/
def State.heldCount (s : State) (b : Nat) : Nat := mcount s.reg.entries (fun e => e.box == b && !e.dead && !e.writing)
def State.deadCount (s : State) (b : Nat) : Nat := mcount s.reg.entries (fun e => e.box == b && e.dead)

/-- `a` is `b` or before it (R238). -/
def seqLe (a b : Nat) : Bool := a == b || serialBefore 32 a b

/-- The sequence after one. -/
def nextSeq (a : Nat) : Nat := (a + 1) % 2 ^ 32

/-- m(b) and r(b) (R258). -/
def State.limitOf (s : State) (r : BookRec) : Nat := if r.apportioned then r.limit else s.get Reg.REG_CFG_DEFAULT_LIMIT
def BookRec.reserveOf (r : BookRec) : Nat := if r.apportioned then r.reserve else 0

/-- The boxes with a send side, with their records. -/
def State.sendSides (s : State) : List (Nat × BookRec) :=
  s.reg.book.filterMap (fun e => match s.sendSide e.1 with | some r => some (e.1, r) | none => none)

/-- Σ r(b) (R258). -/
def State.reservedSum (s : State) : Nat := (s.sendSides.map (fun e => e.2.reserveOf)).sum

/-- Entries no send side owns any more, charged to the pool (R252). -/
def State.orphans (s : State) : Nat :=
  mcount s.reg.entries (fun e => !((s.sendSide e.box).isSome && e.ownInc == (s.box e.box).inc))

/-- pool_used of R258. -/
def State.poolUsed (s : State) : Nat := (s.sendSides.map (fun e => s.used e.1 - e.2.reserveOf)).sum + s.orphans

/-- POOL_FREE of R258. -/
def State.regPoolFree (s : State) : Nat := 8192 - s.reservedSum - s.poolUsed

/-- The Registry's registers follow its entries (R264), and the most entries of the second (R464). -/
def State.syncRegistry (s : State) (b : Nat) : State :=
  let s := s.set Reg.REG_ENTRIES_DEAD (mcount s.reg.entries (fun e => e.dead))
  let used := mcount s.reg.entries (fun e => !e.writing)
  let s := { s.set Reg.REG_ENTRIES_IN_USE used with reg := { s.reg with inUseHigh := max s.reg.inUseHigh used } }
  let s := (s.set Reg.REG_POOL_RESERVED_SUM s.reservedSum).set Reg.REG_POOL_POOL_FREE s.regPoolFree
  let s := (s.set (Reg.USE_HELD b) (s.heldCount b)).set (Reg.USE_DEAD b) (s.deadCount b)
  (s.set Reg.PIGEONHOLES_USED s.reg.pigeons.length).set Reg.PIGEONHOLES_OUT_OF_ORDER ((s.reg.pigeons.filter (fun p => p.gap)).length)

/-- WINDOW of a box (R264). -/
def State.syncWindow (s : State) (b : Nat) : State :=
  match s.book b with
  | none => s
  | some r =>
    ((s.set (Reg.WINDOW_RESERVE b) r.reserveOf).set (Reg.WINDOW_LIMIT b) (if r.send then s.limitOf r else 0)).setFlag
      (Reg.WINDOW_NOTIFY b) r.notify

/-- The entry freed longest ago; those never used come first (R236). -/
def State.takeEntryNo (s : State) : Option (Nat × State) :=
  if s.reg.fresh < 8192 then some (s.reg.fresh, { s with reg := { s.reg with fresh := s.reg.fresh + 1 } })
  else
    match s.reg.freed with
    | k :: rest => some (k, { s with reg := { s.reg with freed := rest } })
    | [] => none

/-- An entry freed. -/
def State.freeEntry (s : State) (k : Nat) : State :=
  match mget s.reg.entries k with
  | none => s
  | some e =>
    ({ s with reg := { s.reg with entries := mdel s.reg.entries k, freed := s.reg.freed ++ [k] } }).syncRegistry e.box

def State.updEntryReg (s : State) (k : Nat) (f : Entry → Entry) : State :=
  { s with reg := { s.reg with entries := mupd s.reg.entries k f } }

/-- A HELD entry becomes a dead letter (R252): counted, and told at the next boundary. -/
def State.makeDead (s : State) (k status outcome : Nat) (fwd : Option (Nat × Nat × Nat)) : State :=
  match mget s.reg.entries k with
  | none => s
  | some e =>
    if e.dead then s
    else
      let f := fwd.getD (0, 0, 0)
      let s := s.updEntryReg k (fun e => { e with
        dead := true, writing := false, dlStatus := status, dlOutcome := outcome, fwdPc := f.1, fwdBox := f.2.1, fwdInc := f.2.2 })
      let s := { s with reg := { s.reg with newDead := s.reg.newDead ++ [k] } }
      (s.bump Cnt.REGISTRY_DEAD_LETTERS).syncRegistry e.box

/-- A void letter for a sequence that is lost (R256): an entry of ORIGIN 3 without payload, which is HELD and sent as any other. It waits for a
free entry till a boundary. [Log entry 232: DESIGN CHOICE] -/
def State.fillSeq (s : State) (e : Entry) : State :=
  let v : Entry :=
    { e with dead := false, writing := false, origin := 3, dlStatus := 0, dlOutcome := 0, fwdPc := 0, fwdBox := 0, fwdInc := 0, originPath := 0,
             originTag := 0, originSeq := 0, payload := [], lastSent := none, sentSince := true, returned := none }
  { s with reg := { s.reg with voids := s.reg.voids ++ [v] } }

/-- An entry write that completed as a reset came (R236): the offer is accepted. -/
def State.completeWrites (s : State) : State :=
  forAll (mkeys s.reg.entries (fun e => e.writing)) s (fun s k =>
    (s.updEntryReg k (fun e => { e with writing := false, acceptedAt := s.now })).bump Cnt.REGISTRY_ACCEPTED)

/-- The 256 bytes of an entry (R237). -/
def Entry.bytes (e : Entry) : List Byte :=
  let le := leBytes
  let head := le 1 ((if e.dead then 2 else 1) + (if e.forwarded then 4 else 0)) ++ le 1 e.origin ++ le 2 e.box ++ le 2 e.ownInc ++ le 2 0 ++
    le 4 e.seq ++ le 2 e.dstPc ++ le 2 e.dstBox ++ le 2 e.dstInc ++ le 2 e.payload.length ++ le 8 e.acceptedAt ++ le 1 e.dlStatus ++
    le 1 e.dlOutcome ++ le 2 e.fwdPc ++ le 2 e.fwdBox ++ le 2 e.fwdInc ++ le 2 e.originPath ++ le 2 e.originTag ++ le 4 e.originSeq ++
    List.replicate 16 0
  let body := e.payload ++ List.replicate (192 - e.payload.length) 0
  head ++ le 4 (crc32c (head ++ body)).toNat ++ body

/-- The 64 bytes of a record (R242); RESERVE and LIMIT are those in force. -/
def State.recordBytes (s : State) (b : Nat) : List Byte :=
  match s.book b with
  | none => List.replicate 64 0
  | some r =>
    let bit := fun (x : Bool) (n : Nat) => if x then n else 0
    let head := leBytes 2 (b + 0x1000 + bit r.send 0x2000 + bit r.recv 0x4000 + bit r.host 0x8000) ++ leBytes 2 r.ownInc ++
      leBytes 2 r.peerPc ++ leBytes 2 r.peerBox ++ leBytes 2 r.peerInc ++ leBytes 2 r.reserveOf ++ leBytes 2 (s.limitOf r) ++
      leBytes 1 (bit r.notify 1 + bit r.doubtValid 2) ++ leBytes 1 0 ++ leBytes 4 r.releasedThru ++ leBytes 4 r.passedThru ++
      leBytes 4 r.consumedThru ++ leBytes 4 r.doubtSeq ++ leBytes 8 r.openedAt ++ List.replicate 20 0
    head ++ leBytes 4 (crc32c head).toNat

/-- What a register field of R267 names: box, kind, switch port, and the classes it takes, none where any of its kind (R294). -/
structure BoxName where
  box : Nat
  kind : Kind
  port : Nat
  classes : List SvcClass
deriving DecidableEq, Repr

/-- The boxes a word of the station blocks names (R267, R316). A host-side box of a network or USB tunnel leaves by P3. -/
def namesAt (a w : Nat) : List BoxName :=
  let one := fun (ok : Bool) (box : Nat) (k : Kind) (port : Nat) => if ok && box != 0 then [BoxName.mk box k port []] else []
  let usb := fun (box port : Nat) (cs : List SvcClass) => if box != 0 then [BoxName.mk box .peripheral port cs] else []
  if Reg.DP_CFG 0 ≤ a ∧ a < Reg.DP_CFG 6 then one true (bitsOf w 0 12) .display 5
  else if Reg.RELAY_NS_0 0 ≤ a ∧ a < Reg.RELAY_NS_0 64 ∧ (a - Reg.RELAY_NS_0 0) % 0x20 = 0 then one (bitOf w 31) (bitsOf w 0 12) .storage 4
  else if Reg.SUB_CFG 0 ≤ a ∧ a < Reg.SUB_CFG 11 then one true (bitsOf w 0 12) .network (if a = Reg.SUB_CFG 10 then 3 else 6)
  else if Reg.VLAN_MAP 0 ≤ a ∧ a < Reg.VLAN_MAP 1024 then one (bitOf w 31) (bitsOf w 0 12) .network (if bitsOf w 24 4 = 10 then 3 else 6)
  else if a = Reg.HUB_TREE then usb (bitsOf w 0 12) 7 [.assured] ++ usb (bitsOf w 16 12) 7 [.bulk, .assured]
  else if a = Reg.HUB_TREE_ISO then usb (bitsOf w 0 12) 7 [.iso]
  else if Reg.ROOT_PORT_0 0 ≤ a ∧ a < Reg.ROOT_PORT_0 16 then
    if (a - Reg.ROOT_PORT_0 0) % 8 = 0 then usb (bitsOf w 0 12) 3 [.assured] ++ usb (bitsOf w 16 12) 3 [.bulk, .assured]
    else usb (bitsOf w 0 12) 3 [.iso]
  else if Reg.BIND 0 ≤ a ∧ a < Reg.BIND 64 then one (bitOf w 31) (bitsOf w 0 12) .field 8
  else []

/-- Every box a field of R267 names. -/
def State.boxNames (s : State) : List BoxName := s.regs.flatMap (fun e => namesAt e.1 e.2.toNat)

/-- The naming of one box. -/
def State.nameOf (s : State) (b : Nat) : Option BoxName := s.boxNames.find? (fun n => n.box == b)

/-- The Ethernet sub-port a word names a box at, with the VID of its map (R285). -/
def subAt (a w b : Nat) : Option (Nat × Nat) :=
  if Reg.SUB_CFG 0 ≤ a ∧ a < Reg.SUB_CFG 11 then (if bitsOf w 0 12 = b then some ((a - Reg.SUB_CFG 0) / 4, 0) else none)
  else if Reg.VLAN_MAP 0 ≤ a ∧ a < Reg.VLAN_MAP 1024 then
    (if bitOf w 31 && bitsOf w 0 12 == b then some (bitsOf w 24 4, bitsOf w 12 12) else none)
  else none

/-- The sub-port that names a box, with the VID of its map, 0 where it is a default box (R286, R287). -/
def State.subOf (s : State) (b : Nat) : Option (Nat × Nat) := s.regs.findSome? (fun e => subAt e.1 e.2.toNat b)

/-- A box may carry a kind and class (R267, R316): a field of that kind names it; or it is a HOST box of registered delivery,
a FIELD box of class REGISTERED that no field names (R242). [Log entries 74: DESIGN CHOICE, 75: DEDUCED] -/
def State.boxFits (s : State) (b : Nat) (k : Kind) (c : SvcClass) : Bool :=
  !s.mem.boxes.contains b &&
  match s.nameOf b with
  | some n => n.kind == k && (n.classes == [] || n.classes.contains c)
  | none => k == .field && c == .registered

end Machine
end Sys2Proof
end

