-- ==== Sys2Proof/Machine/Pool.lean ====
section
/-!
DEFINITION. The buffer's occupancy and its shared pool (R182, R202, R205): what is in use, POOL_FREE, and the congestion alarm that follows it.
-/
namespace Sys2Proof
namespace Machine

/-- MIN_USED, POOL_USED and POOL_FREE (R205). -/
def State.minUsed (s : State) (i t : Nat) : Nat := s.get (Reg.OCCUPANCY_MIN_USED i t)
def State.poolUsedAt (s : State) (i t : Nat) : Nat := s.get (Reg.OCCUPANCY_POOL_USED i t)
def State.poolFree (s : State) : Nat := s.get Reg.SW_STATUS_POOL_FREE

/-- All ports and traffic classes. -/
def allPT : List (Nat × Nat) := (List.range 10).flatMap (fun i => (List.range 8).map (fun t => (i, t)))

/-- The port and class with the largest POOL_USED (R202). -/
def State.largestUse (s : State) : Nat × Nat :=
  allPT.foldl (fun b x => if s.poolUsedAt b.1 b.2 < s.poolUsedAt x.1 x.2 then x else b) (0, 0)

/-- SWITCH_CONGESTION (R202). -/
def State.tellCongestion (s : State) (on : Bool) : State :=
  let b := s.largestUse
  (s.setFlag Reg.SW_STATUS_CONGESTED on).notice 0x8050 [if on then 1 else 0, s.poolFree, b.1, b.2, s.poolUsedAt b.1 b.2]

/-- POOL_FREE set: POOL_LOW, the least of the second and the alarm follow (R202, R205, R464). -/
def State.setPoolFree (s : State) (n : Nat) : State :=
  let s := { s.set Reg.SW_STATUS_POOL_FREE n with sw := { s.sw with poolLow := min s.sw.poolLow n } }
  let s := if n < s.get Reg.POOL_LOW_CELLS then s.set Reg.POOL_LOW_CELLS n else s
  let on := s.flag Reg.SW_STATUS_CONGESTED
  let alarm := s.get Reg.ALARM_CFG_POOL_ALARM
  if !on && decide (n < alarm) then (s.bump Cnt.SWITCH_CONGESTION_EVENTS).tellCongestion true
  else if on && decide (alarm + 4096 ≤ n) then s.tellCongestion false
  else s

end Machine
end Sys2Proof
end

