-- ==== Sys2Proof/Machine/BridgeOps.lean ====
section
/-!
DEFINITION. Shared operations of the bridge: binds and their buses (R316), whether a bus is available, and the bound on registered
transactions (R332).
-/
namespace Sys2Proof
namespace Machine

/-- The bind of a box (R316): its index. -/
def State.bindOf (s : State) (b : Nat) : Option Nat :=
  (List.range 64).find? (fun k => s.flag (Reg.BIND_VALID k) && s.get (Reg.BIND_BOX k) == b)

/-- The bus of a box: 0 to 3 CAN, 4 and 5 RS-485. -/
def State.busOf (s : State) (b : Nat) : Option Nat := (s.bindOf b).map (fun k => s.get (Reg.BIND_BUS k))

/-- The box of a bind. -/
def State.boxOfBind (s : State) (k : Nat) : Option Nat := if s.flag (Reg.BIND_VALID k) then some (s.get (Reg.BIND_BOX k)) else none

def State.canBus (s : State) (n : Nat) : CanBus := (mget s.bridge.can n).getD CanBus.init
def State.setCanBus (s : State) (n : Nat) (x : CanBus) : State := { s with bridge := { s.bridge with can := mput s.bridge.can n x } }
def State.masterBus (s : State) (n : Nat) : MasterBus := (mget s.bridge.master n).getD MasterBus.init
def State.setMasterBus (s : State) (n : Nat) (x : MasterBus) : State := { s with bridge := { s.bridge with master := mput s.bridge.master n x } }

/-- A bus is enabled and not bus-off. -/
def State.busUp (s : State) (bus : Nat) : Bool :=
  s.powered .station && !s.servicePowered &&
  (if bus ≤ 3 then s.flag (Reg.CAN_CFG_EN bus) && s.get (Reg.BUS_STATE_CAN_STATE bus) ≤ 1
   else s.flag (Reg.RS485_CFG_EN (bus - 4)))

/-- A bus has no registered transaction, or for RS-485 no transaction, under way. -/
def State.busIdle (s : State) (bus : Nat) : Bool :=
  if bus ≤ 3 then (s.canBus bus).reg.isNone else (s.masterBus (bus - 4)).cur.isNone

/-- Nanoseconds of a bit at a rate code (R336). -/
def nomBit (c : Nat) : Nat := if c = 0 then 8000 else if c = 1 then 4000 else if c = 2 then 2000 else 1000
def dataBit (c : Nat) : Nat := if c = 0 then 1000 else if c = 1 then 500 else if c = 2 then 250 else if c = 3 then 200 else 125

/-- The bound of R332 on a bus. [Log entry 136: DESIGN CHOICE] -/
def State.busBound (s : State) (bus : Nat) : Bool :=
  if bus ≤ 3 then
    let nom := nomBit (s.get (Reg.CAN_CFG_NOM_RATE bus))
    let t := if s.flag (Reg.CAN_CFG_FD_EN bus) then 50 * nom + 640 * dataBit (s.get (Reg.CAN_CFG_DATA_RATE bus)) else 160 * nom
    decide (s.get (Reg.CAN_CFG_REG_TX_LIMIT bus) * 1000 + t ≤ 1800000)
  else
    let n := bus - 4
    let baud := s.get (Reg.RS485_CFG_BAUD n)
    let bytes := s.get (Reg.RS485_TIMING_REG_MAX_BYTES n)
    s.flag (Reg.RS485_CFG_ROLE n) && bytes != 0 &&
    decide ((17 + bytes) * 11 * 1000000000 + s.get (Reg.RS485_TIMING_RESP_TIMEOUT n) * 10000 * baud ≤ 1800000 * baud)

/-- The receiving box of a REGISTERED tunnel is bound to a bus within its bound (R332); a HOST box needs no bus. -/
def State.busFits (s : State) (b : Nat) (c : SvcClass) (receives : Bool) : Bool :=
  if c = .registered ∧ receives then
    match s.busOf b with
    | some bus => s.busBound bus
    | none => true
  else true

/-- FIELD_EVENT (0x80A0) with its bus and cause: 0 BUS_OFF, 1 BUS_ON, 2 HOLD_DROPPED, 3 REG_OUTCOME (R338). [Log entry 26: DESIGN CHOICE] -/
def State.fieldEvent (s : State) (bus cause : Nat) (rest : List Nat) : State := s.notice 0x80A0 ([bus, cause] ++ rest)

/-- A staged set in CHECKED or ARMED writes a register that satisfies a test (R369). -/
def State.pendingTouches (s : State) (p : Nat → Bool) : Bool :=
  s.cmd.sets.any (fun e => (e.2.state == .checked || e.2.state == .armed) && e.2.entries.any (fun x => p x.1))

/-- A pending set changes what names a box (R259). -/
def State.pendingNames (s : State) (b : Nat) : Bool :=
  s.cmd.sets.any (fun e => (e.2.state == .checked || e.2.state == .armed) && e.2.entries.any (fun x =>
    (namesAt x.1 (x.2.2).toNat).any (fun n => n.box == b) || (namesAt x.1 (s.word x.1).toNat).any (fun n => n.box == b)))

/-- A pigeonhole emptied; its cell is free (R243), to the pool where a lowered minimum no longer covers it (R203). -/
def State.emptyPigeon (s : State) (p : Pigeon) : State :=
  let s := { s with reg := { s.reg with pigeons := s.reg.pigeons.filter (fun x => !(x.box == p.box && x.seq == p.seq)) } }
  let m := s.minUsed p.ingress 7
  let q := s.poolUsedAt p.ingress 7
  let a := min p.minC m
  let b := min (1 - a) q
  let s := (s.set (Reg.OCCUPANCY_MIN_USED p.ingress 7) (m - a)).set (Reg.OCCUPANCY_POOL_USED p.ingress 7) (q - b)
  (s.setPoolFree (s.poolFree + b)).syncRegistry p.box

/-- Every pigeonhole of a box emptied. -/
def State.emptyPigeons (s : State) (b : Nat) : State :=
  let s := forAll (s.reg.pigeons.filter (fun p => p.box == b)) s (fun s p => s.emptyPigeon p)
  { s with reg := { s.reg with waiting := mdel s.reg.waiting b } }

/-- Values and fetches of a box's bind released with its context (R225); those read ahead that answered nothing are counted. -/
def State.releaseValues (s : State) (b : Nat) : State :=
  match s.bindOf b with
  | none => s
  | some k =>
    let gone := s.bridge.values.filter (fun v => v.piece.bind == k)
    let s := { s with bridge := { s.bridge with
      values := s.bridge.values.filter (fun v => v.piece.bind != k), fetches := s.bridge.fetches.filter (fun f => f.piece.bind != k),
      shapes := s.bridge.shapes.filter (fun x => x.piece.bind != k) } }
    s.bump Cnt.ENGINE_RA_UNUSED (gone.filter (fun v => v.ahead && !v.used)).length

end Machine
end Sys2Proof
end

