-- ==== Sys2Proof/Machine/TunOps.lean ====
section
/-!
DEFINITION. Shared operations of tunnels (R144 to R152, R157, R165): box states, incarnations, flow records, their parameters,
and the colour of a frame.
-/
namespace Sys2Proof
namespace Machine

/-- The combinations of R144. -/
def classFits (k : Kind) (c : SvcClass) : Bool :=
  match k, c with
  | .display, .iso => true
  | .display, .assured => true
  | .storage, .assured => true
  | .storage, .bulk => true
  | .network, .assured => true
  | .network, .bulk => true
  | .peripheral, .iso => true
  | .peripheral, .assured => true
  | .peripheral, .bulk => true
  | .field, .assured => true
  | .field, .registered => true
  | .field, .bulk => true
  | .mgmt, .assured => true
  | _, _ => false

/-- Parameters a class uses are in range (R171). -/
def allotOk (c : SvcClass) (a : Allot) : Bool :=
  match c with
  | .assured => decide (a.min ≤ a.ceil) && decide (a.ceil ≤ 2880) && decide (a.priority ≤ 7)
  | .bulk => decide (a.ceil ≤ 2880) && decide (1 ≤ a.weight) && decide (a.weight ≤ 15)
  | _ => true

/-- Parameters a class does not use are held as 0 (R171). -/
def allotHeld (c : SvcClass) (a : Allot) : Allot :=
  match c with
  | .assured => { a with weight := 0 }
  | .bulk => { a with min := 0, priority := 0 }
  | _ => ⟨0, 0, 0, 0⟩

/-- The incarnation after one (R31): 0 is never issued. -/
def nextInc (i : Nat) : Nat := if 4095 ≤ i then 1 else i + 1

/-- RESOURCES (R172). -/
def State.syncResources (s : State) : State :=
  (s.set Reg.RESOURCES_FLOWS_FREE (8192 - s.tun.flows.length - s.mem.flows.length)).set Reg.RESOURCES_BOXES_FREE
    (4095 - mcount s.tun.boxes (fun b => b.state != .free) - s.mem.boxes.length)

/-- A box state taken, with TUNNEL_STATE_CHANGED (R174); it is an activity event (R412). -/
def State.setBoxState (s : State) (b : Nat) (st : BoxState) : State :=
  let x := s.box b
  if x.state = st then s
  else
    let s := (s.setBox b { x with state := st, since := s.round }).syncResources
    (s.notice 0x8040 [b, x.inc, x.state.code, st.code]).activity 0x12

/-- A flow record. -/
def State.setFlow (s : State) (i : Nat) (f : Flow) : State := { s with tun := { s.tun with flows := mput s.tun.flows i f } }
def State.updFlow (s : State) (i : Nat) (f : Flow → Flow) : State := { s with tun := { s.tun with flows := mupd s.tun.flows i f } }

/-- The record of a flow (R151). -/
def State.findFlow (s : State) (srcPc srcBox dstPc dstBox : Nat) : Option (Nat × Flow) :=
  s.tun.flows.find? (fun e => e.2.srcPc == srcPc && e.2.srcBox == srcBox && e.2.dstPc == dstPc && e.2.dstBox == dstBox)

/-- A fresh record; its meter holds one round's worth at each level (R165). [Log entry 77: DESIGN CHOICE] -/
def Flow.fresh (cls : SvcClass) (kind : Nat) (origin : Bool) (box srcPc srcBox dstPc dstBox dstInc : Nat) (allot : Allot) : Flow :=
  { cls := cls, kind := kind, origin := origin, box := box, srcPc := srcPc, srcBox := srcBox, dstPc := dstPc, dstBox := dstBox,
    dstInc := dstInc, allot := allot, next := none, demand := 0, dropped := 0, meter := ⟨allot.min * 2048, allot.ceil * 2048⟩,
    isoBytes := 0, shed := [], removing := false }

/-- A record taken: the lowest free index (R151); one that waits for its reload keeps its index (R460). -/
def State.addFlow (s : State) (f : Flow) : Option (Nat × State) :=
  match mfree (s.mem.flows.foldl (fun m e => mput m e.1 e.2) s.tun.flows) 8192 with
  | some i => some (i, (s.setFlow i f).syncResources)
  | none => none

/-- A record released: its ISO_ALLOT goes back to its reset value, and units of its flow join the transit aggregate (R203). [Log entry 76: DESIGN CHOICE] -/
def State.dropFlow (s : State) (i : Nat) : State :=
  let s := { s with tun := { s.tun with flows := mdel s.tun.flows i }, mem := { s.mem with flows := mdel s.mem.flows i } }
  let s := s.setWord (Reg.ISO_ALLOT i) (resetWord (Reg.ISO_ALLOT i))
  let s := { s with sw := { s.sw with
    units := s.sw.units.map (fun (u : Nat × SwUnit) => if u.2.owner = i then (u.1, { u.2 with owner := ownerTransit }) else u)
    holds := s.sw.holds.map (fun (h : Hold) => if h.owner = i then { h with owner := ownerTransit } else h) } }
  s.syncResources

/-- R158 with one more flow, or one flow changed: its egress direction stays within its planned capacity and run count. -/
def State.commitWith (s : State) (f : Flow) : Bool :=
  match s.flowEgress f with
  | some p => s.commitOk p
  | none => true

/-- The ISO or ASSURED tunnel of a box whose far end is this hub (R147): it has no flow record. -/
def Box.localTunnel (x : Box) (postcode : Nat) : Bool := x.serves && x.peerPc == postcode

/-- A frame's colour by the two-rate meter (R165), with the meter after it. -/
def Meter.colour (m : Meter) (n : Nat) : Colour × Meter :=
  if m.y < n then (.red, m)
  else if m.g < n then (.yellow, { m with y := m.y - n })
  else (.green, ⟨m.g - n, m.y - n⟩)

/-- A meter's refill at a boundary (R165). -/
def Meter.refill (m : Meter) (a : Allot) : Meter :=
  ⟨min (m.g + a.min * 2048) (2 * a.min * 2048), min (m.y + a.ceil * 2048) (2 * a.ceil * 2048)⟩

/-- A record written as its box enters OPENING for a REGISTERED tunnel (R241): sides by who opened and the direction. What the retired record's
pigeonholes still held goes with it. [Log entries 74: DESIGN CHOICE, 110: DESIGN CHOICE] -/
def State.openRecord (s : State) (b : Nat) : State :=
  let x := s.box b
  if x.cls = .registered then
    let r : BookRec :=
      { send := x.near || x.twoWay, recv := !x.near || x.twoWay, host := (s.nameOf b).isNone, ownInc := x.inc, peerPc := x.peerPc,
        peerBox := x.peerBox, peerInc := x.peerInc, apportioned := false, reserve := 0, limit := 0, notify := false,
        doubtValid := false, releasedThru := 0, passedThru := 0, consumedThru := 0, doubtSeq := 0, openedAt := s.now, nextSeq := 1,
        next := none, farPassed := 0, presented := 0, started := false }
    (((s.emptyPigeons b).setBookRec b r).syncWindow b).syncRegistry b
  else s

/-- A box enters OPENING (R145, R147 to R149): incarnation, peer, parameters, context, record; its forwarding record goes. The
context must have been found to fit. -/
def State.openBox (s : State) (b : Nat) (k : Kind) (c : SvcClass) (twoWay near : Bool) (peerPc peerBox peerInc : Nat) (a : Allot) : State :=
  let x := s.box b
  let s := s.setBox b { x with
    inc := nextInc x.inc, fwd := none, peerPc := peerPc, peerBox := peerBox, peerInc := peerInc, kind := k, cls := c, twoWay := twoWay,
    near := near, min := a.min, ceil := a.ceil, weight := a.weight, priority := a.priority, flow := none, meter := none,
    farHeld := none, told := false, closeLost := false, frames := 0, bulkBytes := 0 }
  let s := (s.placeContext k b).getD s
  (s.setBoxState b .opening).openRecord b

/-- A box becomes OPEN (R147): the far incarnation is held, and an end that sends creates its flow record; the meter of a
tunnel within the hub stands with its near box (R165). [Log entry 223: DEDUCED] -/
def State.boxOpens (s : State) (b peerInc : Nat) : State :=
  let x := s.box b
  let a : Allot := ⟨x.min, x.ceil, x.weight, x.priority⟩
  let sends := x.near || x.twoWay
  let s := s.setBox b { x with peerInc := peerInc }
  let s := s.updBookRec b (fun r => { r with peerInc := peerInc })
  let s := if sends && x.peerPc != s.postcode then
      match s.addFlow (Flow.fresh x.cls x.kind.code true b s.postcode b x.peerPc x.peerBox peerInc a) with
      | some (i, s) => s.updBox b (fun x => { x with flow := some i })
      | none => s
    else s.updBox b (fun x => { x with meter := if x.cls = .assured ∧ x.near then some ⟨a.min * 2048, a.ceil * 2048⟩ else none })
  s.setBoxState b .opened

/-- The far end of a draining REGISTERED tunnel has been silent for the 100 ms of R171 (800 rounds): it has reported no count (R253). The end
here waits for it no more (R148). [Log entry 230: DEDUCED] -/
def State.farSilent (s : State) (b : Nat) : Bool :=
  let x := s.box b
  x.cls == .registered && x.farHeld.isNone && decide (x.since + 800 ≤ s.round)

/-- A box becomes FREE (R145, R148, R208): its context, flow records and pigeonholes go; commands that wait on its close
complete, with UNREACHABLE where the far end was not reached. Incarnation, forwarding record and receipt-book record stay. -/
def State.boxFrees (s : State) (b : Nat) : State :=
  let x := s.box b
  let lost := x.closeLost || s.farSilent b
  let s := (s.releaseContext b).releaseValues b
  let s := match x.flow with
    | some i => s.dropFlow i
    | none => s
  let s := s.emptyPigeons b
  let s := s.updBox b (fun x => { x with flow := none, meter := none, farHeld := none, told := false })
  let s := (s.setBoxState b .free).syncRegistry b
  s.finishWaiters 0x0201 b (if lost then .unreachable else .ok) []

/-- A close request towards the peer of a box (R148, R358); `inc` 0 where the peer's is not known. -/
def State.sendClose (s : State) (b inc : Nat) : State :=
  let x := s.box b
  let r := s.sendBox0 x.peerPc (.closeRequest x.peerBox inc b)
  if r.2 then r.1 else r.1.updBox b (fun x => { x with closeLost := true })

/-- A box starts to drain. -/
def State.boxDrains (s : State) (b : Nat) : State := s.setBoxState b .draining

/-- GRANTED of a flow in the sheets in force (R152): of an ISO flow with runs on two ports, the slots of both. [Log entry 231: DESIGN CHOICE] -/
def State.granted (s : State) (i : Nat) : Nat :=
  (allPorts.map (fun p => (s.dir p).sheet.slotsOfOwner i)).sum

/-- The 32-byte flow record (R152). -/
def State.flowBytes (s : State) (i : Nat) (f : Flow) : List Byte :=
  let st := if f.origin then (s.box f.box).state.code else 7
  let eg := match s.flowEgress f with
    | some p => p.code
    | none => 3
  leBytes 2 i ++ leBytes 1 (f.cls.code + f.kind * 16 + (if f.origin then 128 else 0)) ++ leBytes 1 (st + eg * 8) ++ leBytes 2 f.srcPc ++
  leBytes 2 f.srcBox ++ leBytes 2 f.dstPc ++ leBytes 2 f.dstBox ++ leBytes 2 f.dstInc ++ leBytes 2 f.allot.min ++ leBytes 2 f.allot.ceil ++
  leBytes 1 (f.allot.weight + f.allot.priority * 16) ++ leBytes 1 0 ++ leBytes 4 (s.word (Reg.ISO_ALLOT i)).toNat ++ leBytes 2 f.demand ++
  leBytes 2 (s.granted i) ++ leBytes 4 f.dropped

end Machine
end Sys2Proof
end

