-- ==== Sys2Proof/Machine/SwitchOps.lean ====
section
/-!
DEFINITION. Shared operations of the switch core (R175 to R203): traffic classes, charges to the buffer, the admission decision,
mirror copies, the congestion alarm, and the freeing of units.
-/
namespace Sys2Proof
namespace Machine

/-- Cells of a unit (R123, R175). -/
def cellsOf (bytes : Nat) : Nat := max 1 ((bytes + 255) / 256)

/-- MIN_CELLS(i,t) (R181). -/
def State.minCells (s : State) (i t : Nat) : Nat :=
  if t % 2 = 0 then s.get (Reg.MIN_CELLS_MIN_EVEN i (t / 2)) else s.get (Reg.MIN_CELLS_MIN_ODD i (t / 2))

/-- POOL_SIZE of R181. -/
def State.poolSizeOf (s : State) : Nat := 131072 - 640 - s.get Reg.RETIRED_CELLS - (allPT.map (fun x => s.minCells x.1 x.2)).sum

/-- The profile of (i,t) and its fields (R184): ALPHA, START and END of a colour. -/
def State.profileOf (s : State) (i t : Nat) : Nat := s.get ⟨Reg.PROFILE_SEL i, 4 * t, 4⟩
def State.alphaOf (s : State) (i t : Nat) : Nat := s.get (Reg.PROFILE_ALPHA (s.profileOf i t))
def State.startOf (s : State) (i t : Nat) (k : Colour) : Nat := s.get ⟨Reg.PROFILE (s.profileOf i t), 20 - 8 * k.code, 4⟩
def State.endOf (s : State) (i t : Nat) (k : Colour) : Nat := s.get ⟨Reg.PROFILE (s.profileOf i t), 16 - 8 * k.code, 4⟩

/-- limit(i,t) (R183). -/
def State.limitAt (s : State) (i t : Nat) : Nat := s.poolFree * 2 ^ s.alphaOf i t / 8

/-- `a` cells charged to the minimum and `b` to the pool (R185). -/
def State.charge (s : State) (i t a b : Nat) : State :=
  let s := (s.set (Reg.OCCUPANCY_MIN_USED i t) (s.minUsed i t + a)).set (Reg.OCCUPANCY_POOL_USED i t) (s.poolUsedAt i t + b)
  s.setPoolFree (s.poolFree - b)

/-- A unit of the buffer by its number. -/
def State.unit (s : State) (n : Nat) : Option SwUnit := mget s.sw.units n

/-- The mirror copies of a unit (R200). -/
def State.copiesOf (s : State) (n : Nat) : List Copy := (s.sw.copies.filter (fun c => c.2.unit == n)).map (·.2)

/-- Cells of a unit that its copies hold (R200): those that some copy has still to give up. -/
def State.copyHeld (s : State) (n : Nat) : Nat :=
  let cs := s.copiesOf n
  let all := (cs.head?.map (·.cells)).getD 0
  all - cs.foldl (fun m c => min m c.freed) all

/-- Cells of a unit that only its copies hold (R200): those its original has given up and some copy has not. -/
def State.copyOnly (s : State) (n : Nat) : Nat :=
  match s.unit n with
  | some x => s.copyHeld n - (x.cells - x.freed)
  | none => s.copyHeld n

/-- The original gives up its first `k` cells (R196): their charge is released, the pool's first and what a lowered minimum has moved to the
pool there (R203); cells that only a copy holds go on counting against POOL_FREE (R200). [Log entry 222: DESIGN CHOICE] -/
def State.freeCells (s : State) (n k : Nat) : State :=
  match s.unit n with
  | none => s
  | some x =>
    let d := min k x.cells - x.freed
    if d = 0 then s
    else
      let i := x.u.ingress.val
      let b := min d x.poolC
      let a := min (d - b) (s.minUsed i x.tc)
      let p := min (d - a) (s.poolUsedAt i x.tc)
      let only := s.copyOnly n
      let s := (s.set (Reg.OCCUPANCY_MIN_USED i x.tc) (s.minUsed i x.tc - a)).set (Reg.OCCUPANCY_POOL_USED i x.tc) (s.poolUsedAt i x.tc - p)
      let s := { s with sw := { s.sw with
        units := mput s.sw.units n { x with freed := x.freed + d, poolC := x.poolC - b, minC := x.minC - (d - b) } } }
      s.setPoolFree (s.poolFree + p + only - s.copyOnly n)

/-- The start of a port's LFSR (R186). -/
def lfsrSeed (i : Nat) : Nat := 0xACE1 ^^^ i
def State.lfsr (s : State) (i : Nat) : Nat := (mget s.sw.lfsr i).getD (lfsrSeed i)

/-- One step of x^16 + x^14 + x^13 + x^11 + 1 (R186). -/
def lfsrStep (v : Nat) : Nat :=
  let b := (v + v / 4 + v / 8 + v / 32) % 2
  v / 2 + b * 32768

/-- Ingress modes (R177). -/
inductive PortMode | credit | hold | drop
deriving DecidableEq, Repr

def modeOf (i : Nat) : PortMode := if i ≤ 2 then .credit else if i = 5 ∨ i = 6 then .drop else .hold

/-- The admission decision of a unit that is not credited (R185): whether it is admitted, cells from the minimum and from the
pool, and the state with the port's LFSR advanced where a draw was made. -/
def State.decideUnit (s : State) (i t n : Nat) (k : Colour) : (Bool × Nat × Nat) × State :=
  let a := if k = .red then 0 else min n (s.minCells i t - s.minUsed i t)
  let b := n - a
  if b = 0 then ((true, a, b), s)
  else
    let lim := s.limitAt i t
    if s.poolFree < b ∨ lim = 0 then ((false, a, b), s)
    else
      let x := s.poolUsedAt i t + b
      let st := s.startOf i t k
      let en := s.endOf i t k + 1
      if 16 * x < st * lim then ((true, a, b), s)
      else if en * lim ≤ 16 * x then ((false, a, b), s)
      else if modeOf i = .hold then ((true, a, b), s)
      else
        let v := s.lfsr i
        let s := { s with sw := { s.sw with lfsr := mput s.sw.lfsr i (lfsrStep v) } }
        (((!decide (v < 65536 * (16 * x - st * lim) / (lim * (en - st)))), a, b), s)

/-- The windows of a trunk ingress (R188). -/
def State.window (s : State) (i : Nat) : Window := (mget s.sw.windows i).getD Window.init
def State.setWindow (s : State) (i : Nat) (w : Window) : State := { s with sw := { s.sw with windows := mput s.sw.windows i w } }

/-- The cells left of a class. -/
def Cells3.of (c : Cells3) : SvcClass → Nat
  | .assured => c.a
  | .registered => c.r
  | .bulk => c.b
  | .iso => 0

def Cells3.take (c : Cells3) (k : SvcClass) (n : Nat) : Cells3 :=
  match k with
  | .assured => { c with a := c.a - n }
  | .registered => { c with r := c.r - n }
  | .bulk => { c with b := c.b - n }
  | .iso => c

/-- The round's window is the earlier one until d past the boundary (R188). -/
def State.inPrevWindow (s : State) (i : Nat) : Bool :=
  match PortId.ofCode i with
  | some p => s.rt.mark == 0 && decide (s.rt.ns < (s.hopDelay p).getD 0)
  | none => false

/-- A trunk arrival is credited: ISO, or wholly within what is left of its round's grant, which it then uses (R188). -/
def State.credit (s : State) (i : Nat) (c : SvcClass) (n : Nat) : Bool × State :=
  if 2 < i then (false, s)
  else if c = .iso then (true, s)
  else
    let w := s.window i
    let prev := s.inPrevWindow i
    let left := if prev then w.prev.of c else w.cur.of c
    if n ≤ left then
      (true, s.setWindow i (if prev then { w with prev := w.prev.take c n } else { w with cur := w.cur.take c n }))
    else (false, s)

/-- The traffic class of R176. `flow` is the unit's record; `near` the tunnel of a local destination box. -/
def trafficClass (u : UnitIn) (flow : Option Flow) (near : Option Box) : Nat :=
  let byPri := fun (p : Nat) => if 6 ≤ p then 4 else if 4 ≤ p then 3 else 2
  if u.cls = .registered then 7
  else if u.dstBox.val = 0 then 6
  else
    match near, flow with
    | some x, _ =>
      (match x.cls with | .iso => 5 | .assured => byPri x.priority | .bulk => 1 | .registered => 7)
    | none, some f => (match u.cls with | .iso => 5 | .assured => byPri f.allot.priority | _ => 1)
    | none, none => 0

/-- The near box of a tunnel within the hub, by either of its boxes (R165). -/
def State.nearBox (s : State) (b : Nat) : Nat := if (s.box b).near then b else (s.box b).peerBox

/-- The colour of a frame from a station block, and the state with its meter run (R165). [Log entry 223: DEDUCED] -/
def State.colourOf (s : State) (u : UnitIn) (flow : Option (Nat × Flow)) : Colour × State :=
  match u.cls with
  | .registered => (.green, s)
  | .assured =>
    if u.dstBox.val = 0 then (.green, s)
    else
      match flow with
      | some (i, f) =>
        let r := f.meter.colour u.bytes
        (r.1, s.setFlow i { f with meter := r.2 })
      | none =>
        let k := s.nearBox u.srcBox.val
        match (s.box k).meter with
        | some m =>
          let r := m.colour u.bytes
          (r.1, s.updBox k (fun x => { x with meter := some r.2 }))
        | none => (.green, s)
  | .iso =>
    match flow with
    | some (i, f) =>
      let n := f.isoBytes + u.bytes
      (if n ≤ s.get (Reg.ISO_ALLOT_PRI i) * 2048 then .green else .red, s.setFlow i { f with isoBytes := n })
    | none => (.green, s)
  | .bulk =>
    match flow with
    | some (i, f) =>
      let n := f.isoBytes + u.bytes
      (if f.allot.ceil ≠ 0 ∧ f.allot.ceil * 2048 < n then .red else .yellow, s.setFlow i { f with isoBytes := n })
    | none =>
      let x := s.box u.srcBox.val
      let n := x.bulkBytes + u.bytes
      (if x.ceil ≠ 0 ∧ x.ceil * 2048 < n then .red else .yellow, s.updBox u.srcBox.val (fun x => { x with bulkBytes := n }))

/-- The station port of a local box (R190): the port its naming field stands at; box 0 and HOST boxes are served through P9. -/
def State.localPort (s : State) (b : Nat) : Nat := if b = 0 then 9 else ((s.nameOf b).map (·.port)).getD 9

/-- Cells held for copies (R200). -/
def State.copyCells (s : State) : Nat := (((s.sw.copies.map (fun c => c.2.unit)).eraseDups).map (fun n => s.copyHeld n)).sum

/-- A copy of a unit, as it is made now (R200, R201). -/
def State.copyOf (s : State) (k point n : Nat) (x : SwUnit) : Copy :=
  { session := k, point := point, unit := n, cells := x.cells, port := if point = 1 then x.egress else x.u.ingress.val,
    tc := x.tc, colour := x.u.colour.code, payload := x.u.payload, flow := if x.owner < 8192 then x.owner else 0xFFFF, made := s.now,
    srcPc := x.u.srcPc.toNat, srcBox := x.u.srcBox.val, dstPc := x.u.dstPc.toNat, dstBox := x.u.dstBox.val, read := 0, freed := 0 }

/-- A mirror copy made where a destination is set and MIRROR_CELLS allows it (R199, R200). -/
def State.makeCopy (s : State) (k point n : Nat) (x : SwUnit) : State :=
  let t := { s with sw := { s.sw with copies := mput s.sw.copies s.sw.nextCopy (s.copyOf k point n x), nextCopy := s.sw.nextCopy + 1 } }
  if s.get Reg.MIRROR_DEST_MIRROR_CELLS < t.copyCells ∨ s.get Reg.MIRROR_DEST_DEST_PORT = 15 then s.bump Cnt.SWITCH_MIRROR_DROPPED
  else if s.copyOnly n = t.copyOnly n then t
  else t.setPoolFree (t.poolFree + s.copyOnly n - t.copyOnly n)

/-- A session selects a unit at a point: 0 ingress and 2 flow at admission, 1 egress (R199). -/
def State.selects (s : State) (k : Nat) (x : SwUnit) (atEgress : Bool) : Bool :=
  let kind := s.get (Reg.MIRROR_S_SRC_KIND k)
  s.flag (Reg.MIRROR_S_EN k) && (kind == 1) == atEgress &&
  s.get (Reg.MIRROR_S_SRC k) == (if kind = 0 then x.u.ingress.val else if kind = 1 then x.egress else x.owner)

/-- The copies the sessions make of a unit: at admission, or as its last cell is read (R199). A session makes one copy of a unit. -/
def State.mirror (s : State) (n : Nat) (atEgress : Bool) : State :=
  match s.unit n with
  | none => s
  | some x =>
    let ks := [0, 1, 2, 3].filter (fun k => s.selects k x atEgress && !x.copied.contains k)
    if ks = [] then s
    else
      let s := { s with sw := { s.sw with units := mput s.sw.units n { x with copied := x.copied ++ ks } } }
      forAll ks s (fun s k => s.makeCopy k (s.get (Reg.MIRROR_S_SRC_KIND k)) n x)

/-- A session watches an egress (R199): a unit's cells stay there until its last is read and the copy is made. -/
def State.watched (s : State) (egress : Nat) : Bool :=
  [0, 1, 2, 3].any (fun k => s.flag (Reg.MIRROR_S_EN k) && s.get (Reg.MIRROR_S_SRC_KIND k) == 1 && s.get (Reg.MIRROR_S_SRC k) == egress)

/-- A unit leaves the buffer (R196, R200). -/
def State.freeUnit (s : State) (n : Nat) : State :=
  match s.unit n with
  | none => s
  | some x =>
    let s := s.freeCells n x.cells
    { s with sw := { s.sw with units := mdel s.sw.units n, pairs := s.sw.pairs.filter (fun p => p.unit != n || p.input == 10) } }

/-- Mirror copies changed: cells that no copy of the unit holds any more are free again (R200). -/
def State.setCopies (s : State) (n : Nat) (cs : List (Nat × Copy)) : State :=
  let t := { s with sw := { s.sw with copies := cs } }
  if s.copyOnly n = t.copyOnly n then t else t.setPoolFree (t.poolFree + s.copyOnly n - t.copyOnly n)

/-- A copy leaves or is discarded (R200). -/
def State.dropCopy (s : State) (n : Nat) : State :=
  match mget s.sw.copies n with
  | none => s
  | some c =>
    let s := { s with sw := { s.sw with pairs := s.sw.pairs.filter (fun p => p.unit != n || p.input != 10) } }
    s.setCopies c.unit (mdel s.sw.copies n)

/-- Two units are segments of one frame (R118). -/
def sameFrame (a b : UnitIn) : Bool :=
  a.ingress == b.ingress && a.srcPc == b.srcPc && a.srcBox == b.srcBox && a.seqStamp == b.seqStamp && a.twin == b.twin && a.side == b.side

/-- Every held segment of a unit's frame freed (R180). -/
def State.freeFrame (s : State) (u : UnitIn) : State :=
  forAll (mkeys s.sw.units (fun x => !x.whole && sameFrame x.u u)) s (fun s n => s.freeUnit n)

/-- A flow's DROPPED (R152). [Log entry 91: DESIGN CHOICE] -/
def State.dropFromFlow (s : State) (owner : Nat) : State :=
  if owner < 8192 then s.updFlow owner (fun f => { f with dropped := f.dropped + 1 }) else s

/-- Payload bytes that joined an owner's queue in a direction this round (R160). -/
def State.noteJoin (s : State) (egress owner bytes : Nat) : State :=
  match PortId.ofCode egress with
  | some p => s.updDir p (fun d => { d with joined := mput d.joined owner ((mget d.joined owner).getD 0 + bytes) })
  | none => s

/-- A unit placed in the buffer (R179, R190): charged, queued, counted, mirrored; the last segment of a frame makes the whole
frame eligible (R180). -/
def State.placeUnit (s : State) (u : UnitIn) (n t egress owner a b : Nat) : State :=
  let i := u.ingress.val
  let whole := 2 < i || u.last
  let x : SwUnit :=
    { u := u, cells := n, tc := t, egress := egress, owner := owner, minC := a, poolC := b, round := s.round, ns := s.rt.ns, whole := whole,
      sentBytes := 0, read := 0, freed := 0, copied := [] }
  let k := s.sw.nextUnit
  let mark := whole && decide (i ≤ 2)
  let units := s.sw.units.map (fun e => if mark && sameFrame e.2.u u then (e.1, { e.2 with whole := true }) else e)
  let s := { s with sw := { s.sw with units := mput units k x, nextUnit := k + 1 } }
  let s := (s.charge i t a b).bump (Cnt.SWITCH_ADMITTED i t)
  (s.noteJoin egress owner u.bytes).mirror k false

/-- A P9 frame of an engine or the postmaster within the round's budget (R218); registered envelopes have their own limit. [Log entry 97: DESIGN CHOICE] -/
def State.p9Fits (s : State) (u : UnitIn) : Bool :=
  u.ingress.val != 9 || u.cls == .registered || decide (s.eng.p9Used + u.bytes ≤ 62500)

/-- The budget after a P9 frame (R218). [Log entry 97: DESIGN CHOICE] -/
def State.p9Sent (s : State) (u : UnitIn) : State :=
  if u.ingress.val = 9 ∧ u.cls ≠ .registered then { s with eng := { s.eng with p9Used := s.eng.p9Used + u.bytes } } else s

end Machine
end Sys2Proof
end

