-- ==== Sys2Proof/Machine/Switch.lean ====
section
/-!
DEFINITION. The switch core (R175 to R206): admission and routing of units (R131, R150, R190), holds, slots and their yield (R163),
the central scheduler (R192, R193), mirroring, and what boundaries and marks do to queues, grants and demand.
-/
namespace Sys2Proof
namespace Machine

/-- What a unit meets on its way: its egress with traffic class and sheet owner, or its end here. -/
inductive Way
  | go (u : UnitIn) (tc egress owner : Nat)
  | ends
deriving DecidableEq, Repr

/-- A unit arrived by a trunk. -/
def byTrunk (u : UnitIn) : Bool := decide (u.ingress.val ≤ 2)

/-- A box 0 message of a neighbour under ROUTE 2 (R357): a COMMAND whose packet has ROUTE 2, or the RECEIPT sent back the same way. It is for
this hub whatever its DST_PC holds. -/
def neighbourMessage (u : UnitIn) : Bool :=
  byTrunk u && u.dstBox.val == 0 && u.dstPc.toNat == 0 && u.hops.val == 1 &&
  (u.payload[0]? == some 2 || (u.payload[0]? == some 1 && ((u.payload[16]?).map (fun b => b.toNat % 4)) == some 2))

/-- The route asked for a unit (R131). -/
def routeReq (u : UnitIn) : RouteReq :=
  { dstPc := u.dstPc.toNat, srcPc := u.srcPc.toNat, cls := u.cls, twin := u.twin, side := u.side, turned := u.turned,
    from_ := if byTrunk u then PortId.ofCode u.ingress.val else none }

/-- The state with every trunk port ACTIVE and none of its lanes lost, to ask which port an envelope would have left by (R143). -/
def State.allActive (s : State) : State :=
  forAll allPorts s (fun s p => (s.set (Reg.TRK_PORT_STATE_STATE p.code) 9).set (Reg.TRK_PORT_STATE_RX_MASK p.code) 0)

/-- Where a unit goes (R131): nothing is for a hub without a postcode, or goes on by it, but what its neighbour sends to it (R29). -/
def State.wayRoute (s : State) (u : UnitIn) : RouteTo :=
  if neighbourMessage u then .local else if !s.addrValid then .dropUnreachable else s.route (routeReq u)

/-- The port a routing drop is counted at (R143): that of arrival; for what this hub originates the port it would have left by, or
port A where no port was chosen. -/
def State.countPort (s : State) (u : UnitIn) : Nat :=
  if byTrunk u then u.ingress.val
  else
    match s.allActive.route { routeReq u with turned := false } with
    | .port p _ _ => p.code
    | _ => 0

/-- The record of a unit's flow; REGISTERED and MGMT units use aggregates (R151). -/
def State.flowOfUnit (s : State) (u : UnitIn) : Option (Nat × Flow) :=
  if u.cls = .registered || u.dstBox.val == 0 then none
  else s.findFlow u.srcPc.toNat u.srcBox.val u.dstPc.toNat u.dstBox.val

/-- The sheet owner of a unit that leaves by a trunk (R151, R157). -/
def ownerOf (u : UnitIn) (flow : Option (Nat × Flow)) : Nat :=
  if u.cls = .registered then ownerReg
  else if u.dstBox.val = 0 then ownerMgmt
  else match flow with
    | some (i, _) => i
    | none => ownerTransit

/-- The choice of egress of R131 for a unit, its counters, and the transit without a record (R151). [Log entries 70: DEDUCED, 95: DESIGN CHOICE] -/
def State.wayOut (s : State) (u : UnitIn) (tc : Option Nat) : Way × State :=
  let c := s.countPort u
  let flow := s.flowOfUnit u
  match s.wayRoute u with
  | .dropUnreachable => (.ends, s.bump (Cnt.TOPO_UNREACHABLE c))
  | .dropBreak => (.ends, s.bump (Cnt.TOPO_BREAK_DROPPED c))
  | .dropTwin => (.ends, s.bump (Cnt.TOPO_TWIN_DROPPED c))
  | .local =>
    let t := tc.getD (trafficClass u (flow.map (·.2)) (some (s.box u.dstBox.val)))
    (.go u t (s.localPort u.dstBox.val) ownerNone, s)
  | .port p turned red =>
    let u := { u with turned := turned, colour := if red then .red else u.colour, hops := if byTrunk u then Fin.ofNat 512 (u.hops.val - 1) else u.hops }
    let s := s.when red (fun s => s.bump (Cnt.TOPO_TURNED (if byTrunk u then c else p.code)))
    if s.commissioning p && u.dstBox.val != 0 then (.ends, s.bump (Cnt.TOPO_BAD_HEADER p.code))
    else
      let o := ownerOf u flow
      let s := s.when (o == ownerTransit && (u.cls == .iso || u.cls == .assured)) (fun s => s.bump Cnt.TUNNEL_NO_FLOW)
      let s := s.when (byTrunk u) (fun s => s.updFlow o (fun f => if f.origin then f else { f with kind := u.kind.code }))
      (.go u (tc.getD (trafficClass u (flow.map (·.2)) none)) p.code o, s)

/-- The check of R150 for a unit to a box of this hub other than a registered one, then the egress. A forwarding address at this hub is checked
in its turn, and the traffic class stays that of the first box; the number bounds the redirections. [Log entry 224: DESIGN CHOICE] -/
def State.wayFrom (s : State) (u : UnitIn) (tc : Option Nat) : Nat → Way × State
  | 0 => (.ends, s.bump Cnt.TUNNEL_STALE_INC)
  | n + 1 =>
    let b := u.dstBox.val
    if u.dstPc.toNat = s.postcode ∧ b ≠ 0 ∧ u.cls ≠ .registered then
      let x := s.box b
      let inc := u.dstInc.val
      if (x.state = .opened ∨ x.state = .draining) ∧ x.inc = inc then s.wayOut u tc
      else
        match x.fwd with
        | some f =>
          if f.inc = inc then
            let t := tc.getD (trafficClass u none (some x))
            let u := { u with dstPc := BitVec.ofNat 16 f.pc, dstBox := Fin.ofNat 4096 f.box, dstInc := Fin.ofNat 4096 f.fwdInc }
            (s.bump Cnt.TUNNEL_REDIRECTED).wayFrom u (some t) n
          else (.ends, s.bump Cnt.TUNNEL_STALE_INC)
        | none => (.ends, s.bump Cnt.TUNNEL_STALE_INC)
    else s.wayOut u tc

/-- The way of a unit (R131, R150). -/
def State.way (s : State) (u : UnitIn) : Way × State := s.wayFrom u none 4096

/-- An ISO unit finds no run of its flow in the sheet in force of its egress (R191, R66): discarded and counted. [Log entry 81: DESIGN CHOICE] -/
def State.isoDiscard (s : State) (u : UnitIn) (egress owner : Nat) : Option State :=
  match PortId.ofCode egress with
  | none => none
  | some p =>
    let h := (s.dir p).sheet
    if u.cls ≠ .iso ∨ 8192 ≤ owner ∨ h.slotsOfOwner owner ≠ 0 then none
    else
      let s := s.when (!h.gated) (fun s => s.bump (Cnt.TUNNEL_ISO_SHED p.code))
      some (s.dropFromFlow owner)

/-- The counter of a refused unit at a DROP or CREDIT port (R185). -/
def dropCounter (i t : Nat) : Colour → Nat
  | .green => Cnt.SWITCH_DROP_GREEN i t
  | .yellow => Cnt.SWITCH_DROP_YELLOW i t
  | .red => Cnt.SWITCH_DROP_RED i t

/-- A segment whose frame holds no earlier segment any more (R180): its frame can never be whole. [Log entry 89: DESIGN CHOICE] -/
def State.orphanSegment (s : State) (u : UnitIn) : Bool :=
  byTrunk u && !u.first && !(s.sw.units.any (fun e => !e.2.whole && sameFrame e.2.u u))

/-- A unit is dropped: counted, its frame's held segments freed (R180, R185). -/
def State.refuseUnit (s : State) (u : UnitIn) (owner counter : Nat) : State :=
  ((s.bump counter).dropFromFlow owner).freeFrame u

/-- Credit or decision for a unit that has its way (R185, R188). The second part says that a HOLD port holds it. -/
def State.decideWay (s : State) (u : UnitIn) (credited : Bool) (t egress owner : Nat) : State × Bool :=
  let i := u.ingress.val
  let n := cellsOf u.bytes
  if credited then
    let a := min n (s.minCells i t - s.minUsed i t)
    if s.poolFree < n - a then (s.refuseUnit u owner (Cnt.SWITCH_CREDIT_OVERRUN i t), false)
    else (s.placeUnit u n t egress owner a (n - a), false)
  else
    let d := s.decideUnit i t n u.colour
    let s := d.2
    if d.1.1 then (s.placeUnit u n t egress owner d.1.2.1 d.1.2.2, false)
    else if modeOf i = .hold then (s, true)
    else (s.refuseUnit u owner (dropCounter i t u.colour), false)

/-- The port holds a traffic class (R187). -/
def State.holds (s : State) (i t : Nat) : Bool := s.sw.holds.any (fun h => h.ingress == i && h.tc == t)

/-- A hold begins (R187). -/
def State.holdUnit (s : State) (u : UnitIn) (t egress owner : Nat) : State :=
  let i := u.ingress.val
  { s with sw := { s.sw with
    holds := s.sw.holds ++ [⟨i, t, u, egress, owner, s.round⟩], heldNow := if s.sw.heldNow.contains i then s.sw.heldNow else i :: s.sw.heldNow } }

/-- A unit on its way: the discards of R180 and R191, the decision, the hold of R187. [Log entry 89: DESIGN CHOICE] -/
def State.takeUnit (s : State) (u : UnitIn) (credited : Bool) (t egress owner : Nat) : State :=
  if s.orphanSegment u then s
  else
    match s.isoDiscard u egress owner with
    | some s => s
    | none =>
      let r := s.decideWay u credited t egress owner
      if r.2 then r.1.holdUnit u t egress owner else r.1

/-- The frame of a station block as this hub sends it on its way (R115, R165): its colour, HOPS_LEFT 320, and SEQ_STAMP, the postmark's low
32 bits for ISO and the frame number of its tunnel otherwise. Registered and box 0 units have theirs. [Log entry 225: DEDUCED] -/
def State.originate (s : State) (u : UnitIn) : UnitIn × State :=
  if byTrunk u then (u, s)
  else
    let r := s.colourOf u (s.flowOfUnit u)
    let u := { u with colour := r.1, turned := false }
    if u.cls = .registered || u.srcBox.val == 0 then (u, r.2)
    else if u.cls = .iso then ({ u with hops := 320, seqStamp := BitVec.ofNat 32 s.now }, r.2)
    else
      let b := u.srcBox.val
      ({ u with hops := 320, seqStamp := BitVec.ofNat 32 (s.box b).frames }, r.2.updBox b (fun x => { x with frames := (x.frames + 1) % 2 ^ 32 }))

/-- The box of a frame from a station block lets it enter: its tunnel is OPEN (R145, R204). Registered units and box 0 come
from the hub itself. [Log entry 90: DESIGN CHOICE] -/
def State.sourceOpen (s : State) (u : UnitIn) : Bool :=
  byTrunk u || u.cls == .registered || u.srcBox.val == 0 || (s.box u.srcBox.val).state == .opened

/-- A complete unit meets the switch: the credit of its arrival (R188), then its way. A box 0 message under ROUTE 2 is bound to its port
(R357). [Log entry 90: DESIGN CHOICE] -/
def State.admitUnit (s : State) (via : Option PortId) (u : UnitIn) : State :=
  let c := if byTrunk u then s.credit u.ingress.val u.cls (cellsOf u.bytes) else (false, s)
  let r := c.2.originate u
  match via with
  | some p => r.2.takeUnit r.1 c.1 6 p.code ownerMgmt
  | none =>
    match r.2.way r.1 with
    | (.go u t egress owner, s) => s.takeUnit u c.1 t egress owner
    | (.ends, s) => s

/-- A unit whose last cell is written (R179, R185): the block's check and the frame's length first (R180, R204). A box that drains takes no
new frame. [Log entry 90: DESIGN CHOICE] -/
def State.decideWritten (s : State) (via : Option PortId) (u : UnitIn) : State :=
  let i := u.ingress.val
  if 16384 < u.bytes then s.bump (Cnt.SWITCH_OVERSIZE i)
  else if !u.checkOk || (!byTrunk u && u.bytes == 0) then s.bump (Cnt.SWITCH_CHECK_DROPS i)
  else if !s.sourceOpen u then
    (if (s.box u.srcBox.val).state = .draining then s else s.bump (Cnt.SWITCH_CHECK_DROPS i))
  else s.admitUnit via u

/-- The traffic class a unit would take (R176). -/
def State.classOf (s : State) (u : UnitIn) : Nat :=
  trafficClass u ((s.flowOfUnit u).map (·.2)) (if u.dstPc.toNat = s.postcode then some (s.box u.dstBox.val) else none)

/-- Cells of held units in a port's arrival reserve (R179). -/
def State.reserveUsed (s : State) (i : Nat) : Nat :=
  ((s.sw.holds.filter (fun h => h.ingress == i)).map (fun h => cellsOf h.u.bytes)).sum

/-- A HOLD port keeps a unit back in its block (R179, R187): its class is held, or the arrival reserve has no room for it. -/
def State.heldBack (s : State) (u : UnitIn) : Bool :=
  let i := u.ingress.val
  modeOf i == .hold && (s.holds i (s.classOf u) || decide (64 < s.reserveUsed i + cellsOf u.bytes))

/-- The write stage of a port (R178). -/
def State.stageOf (s : State) (i : Nat) : List (Option PortId × UnitIn) := s.sw.stage.filter (fun e => e.2.ingress.val == i)

/-- A port may write a cell in this cell cycle (R178): it has not yet, and fewer than five writes have been made. -/
def State.mayWrite (s : State) (i : Nat) : Bool := !s.sw.wrote.contains i && decide (s.sw.wrote.length < 5)

def State.writes (s : State) (i : Nat) : State := { s with sw := { s.sw with wrote := i :: s.sw.wrote } }

/-- A unit's last cell comes to its port's write stage (R178): it is written at once where the port may write and nothing stands before it.
Where the stage's 8 cells are full, a DROP port drops the unit and a HOLD port holds its block back. [Log entry 92: DESIGN CHOICE] -/
def State.offerWrite (s : State) (via : Option PortId) (u : UnitIn) : State :=
  let i := u.ingress.val
  let n := (s.stageOf i).length
  if n = 0 ∧ s.mayWrite i then (s.writes i).decideWritten via u
  else if n < 8 then { s with sw := { s.sw with stage := s.sw.stage ++ [(via, u)] } }
  else if modeOf i = .hold then s
  else s.bump (Cnt.SWITCH_WRITE_OVERRUN i)

/-- The next unit that P8 or P9 takes from the frames waiting in its block (R187, R218): of the postmaster, the Registry and the bridge in
the order they came, those that are held back or do not fit the round's budget waiting. -/
def State.nextWaiting (s : State) (i : Nat) : Option (Option PortId × UnitIn) :=
  s.eng.pmOut.find? (fun e => e.2.ingress.val == i && !s.heldBack e.2 && s.p9Fits e.2)

/-- The engine that P9 serves next (R218): in rotation from one past the last served, the first whose frame can go. -/
def State.nextEngine (s : State) : Option (Nat × UnitIn) :=
  let order := (List.range 16).map (fun k => (s.eng.p9Last + 1 + k) % 16)
  (order.filterMap (fun e => ((s.engine e).frames.head?).map (fun u => (e, u)))).find? (fun x => !s.heldBack x.2 && s.p9Fits x.2)

/-- P8 or P9 takes the next frame of its block, where its write stage is empty (R178, R218): the postmaster's frames first, then the
engines'. [Log entry 226: DESIGN CHOICE] -/
def State.feedPort (s : State) (i : Nat) : State :=
  if s.stageOf i != [] then s
  else
    match s.nextWaiting i with
    | some e => (({ s with eng := { s.eng with pmOut := s.eng.pmOut.erase e } }).p9Sent e.2).offerWrite e.1 e.2
    | none =>
      if i ≠ 9 then s
      else
        match s.nextEngine with
        | some (e, u) =>
          let s := s.updEngine e (fun x => { x with frames := x.frames.tail, outbox := x.outbox - u.bytes })
          (({ s with eng := { s.eng with p9Last := e } }).p9Sent u).offerWrite none u
        | none => s

/-- A unit of the hub's own waits for P8 or P9 and is taken as soon as the port can (R218). -/
def State.postUnit (s : State) (u : UnitIn) : State :=
  ({ s with eng := { s.eng with pmOut := s.eng.pmOut ++ [(none, u)] } }).feedPort u.ingress.val

/-- UNIT_ADMIT (R185): the unit's last cell comes to its port (R178). What a HOLD port keeps back has no effect, so that it can come again.
A P9 frame of an engine goes through the engine's outbox (R218). By a trunk nothing comes while CIPHER is not powered (R21).
[Log entries 92: DESIGN CHOICE, 97: DESIGN CHOICE] -/
def execUnitAdmit (u : UnitIn) (s : State) : Result :=
  .next <|
    if !s.powered .core || s.servicePowered || (byTrunk u && !s.powered .cipher) then s
    else if s.heldBack u then s
    else if u.ingress.val = 9 && u.cls != .registered then
      match s.contextOf u.srcBox.val with
      | some (c, _) => (s.updEngine (c / 256) (fun x => { x with frames := x.frames ++ [u] })).feedPort 9
      | none => if s.p9Fits u then (s.p9Sent u).offerWrite none u else s
    else s.offerWrite none u

/-- UNIT_INCOMPLETE (R180). -/
def execUnitIncomplete (ingress : Fin 10) (s : State) : Result := .next (s.bump (Cnt.SWITCH_INCOMPLETE ingress.val))

/-- The hold of a port and class. -/
def State.holdAt (s : State) (i t : Nat) : Option Hold := s.sw.holds.find? (fun h => h.ingress == i && h.tc == t)

def State.dropHold (s : State) (i t : Nat) : State :=
  { s with sw := { s.sw with holds := s.sw.holds.filter (fun h => !(h.ingress == i && h.tc == t)) } }

/-- HOLD_RELEASE (R187): the held unit is decided again; admitted, it ends the hold. -/
def execHoldRelease (ingress : Fin 10) (tc : Fin 8) (s : State) : Result :=
  .next <|
    match s.holdAt ingress.val tc.val with
    | none => s
    | some h =>
      let r := s.decideWay h.u false h.tc h.egress h.owner
      if r.2 then r.1 else r.1.dropHold ingress.val tc.val

/-- HOLD_EXPIRED (R187). -/
def execHoldExpired (ingress : Fin 10) (tc : Fin 8) (s : State) : Result :=
  .next <|
    match s.holdAt ingress.val tc.val with
    | none => s
    | some h =>
      if h.since + 8000 ≤ s.round then
        ((s.dropHold ingress.val tc.val).bump (Cnt.SWITCH_HOLD_EXPIRED ingress.val tc.val)).dropFromFlow h.owner
      else s

/-- FRAME_LAST_TIMEOUT (R119): the frame is discarded whole; its segments in the buffer are freed (R180). -/
def execFrameLastTimeout (p : PortId) (srcPc : Postcode) (srcBox : BoxNo) (seqStamp : BitVec 32) (s : State) : Result :=
  .next <|
    match (s.port p).part srcPc.toNat srcBox.val seqStamp.toNat with
    | some _ =>
      let s := (s.updPort p (fun x => x.dropPart srcPc.toNat srcBox.val seqStamp.toNat)).bump (Cnt.TOPO_FRAME_BROKEN p.code)
      forAll (mkeys s.sw.units (fun x => !x.whole && x.u.ingress.val == p.code && x.u.srcPc == srcPc && x.u.srcBox == srcBox &&
        x.u.seqStamp == seqStamp)) s (fun s n => s.freeUnit n)
    | none => s

/-- Payload bytes of the next envelope of a unit: a segment of at most 2,048 (R118). -/
def SwUnit.segment (x : SwUnit) : Nat := min 2048 (x.u.bytes - x.sentBytes)

/-- Blocks of an envelope (R154). -/
def blocksOf (n : Nat) : Nat := 2 + (36 + n + 7) / 8

/-- The first ready unit of an owner at a trunk egress (R163, R194). -/
def State.ready1 (s : State) (p : PortId) (owner : Nat) : Option (Nat × SwUnit) :=
  s.sw.units.find? (fun e => e.2.egress == p.code && e.2.owner == owner && e.2.whole)

/-- The credit of a class in the round's grant still holds so many cells (R125, R163). [Log entry 96: DEDUCED] -/
def DirSt.allows (d : DirSt) (c : SvcClass) (n : Nat) : Bool :=
  match c with
  | .iso => true
  | .assured => decide (d.usedA + n ≤ d.grantA)
  | .registered => decide (d.usedR + n ≤ d.grantR)
  | .bulk => decide (d.usedB + n ≤ d.grantB)

/-- [Log entry 96: DEDUCED] -/
def DirSt.uses (d : DirSt) (c : SvcClass) (n : Nat) : DirSt :=
  match c with
  | .iso => d
  | .assured => { d with usedA := d.usedA + n }
  | .registered => { d with usedR := d.usedR + n }
  | .bulk => { d with usedB := d.usedB + n }

/-- Cells of a unit that its slots have carried (R154). -/
def SwUnit.sentCells (x : SwUnit) : Nat := if x.u.bytes ≤ x.sentBytes then x.cells else x.sentBytes / 256

/-- The envelope of a unit's next segment (R115, R118): FIRST on the first only, LAST on the final one only, SEG going up. -/
def SwUnit.env (x : SwUnit) (counter : Nat) : Env :=
  let k := x.segment
  { ver := 1, type := Fin.ofNat 8 x.u.type.val, cls := x.u.cls, colour := Fin.ofNat 4 x.u.colour.code, twin := x.u.twin, side := x.u.side,
    turned := x.u.turned, first := x.u.first && x.sentBytes == 0, last := x.u.last && decide (x.u.bytes ≤ x.sentBytes + k),
    hops := x.u.hops, seg := Fin.ofNat 8 (x.u.seg.val + x.sentBytes / 2048), length := Fin.ofNat 4096 k, dstPc := x.u.dstPc,
    dstBox := x.u.dstBox, dstInc := x.u.dstInc, srcPc := x.u.srcPc, kind := Fin.ofNat 16 x.u.kind.code, srcBox := x.u.srcBox,
    seqStamp := x.u.seqStamp, hopSeq := BitVec.ofNat 16 counter, payload := (x.u.payload.drop x.sentBytes).take k }

/-- What seals an envelope (R436): the link key, by its slot and the seal counter of its letter, the two NONCEs, the port and the counter. [Log entry 214: DESIGN CHOICE] -/
def State.sealKey (s : State) (p : PortId) (counter : Nat) : List Nat :=
  let x := s.port p
  [x.keySlot, x.keyLetter, x.nonce, x.farNonce, p.code, counter]

/-- A counter that runs out (R438): at 2^47 the host is told, at 0xFFFF_0000_0000 the port retrains; no key slot becomes BLOCKED by it.
[Log entry 13: DEDUCED] -/
def State.counterDue (s : State) (p : PortId) : State :=
  let c := (s.port p).txCount
  if c = 2 ^ 47 then s.keyFault p .rolloverDue
  else if c = 0xFFFF00000000 then (s.bump Cnt.SECURE_LINK_RETRAINS).enterHunt p
  else s

/-- The cells of a unit at a trunk egress whose segments have gone are free, unless a session is to copy the unit there (R196, R199). -/
def State.freeSent (s : State) (n : Nat) : State :=
  match s.unit n with
  | some x => if s.watched x.egress then s else s.freeCells n x.sentCells
  | none => s

/-- One envelope of a unit leaves by a trunk, sealed under the port's next counter (R116, R118, R436); its cells are free, and with its last
segment the unit is gone (R196). -/
def State.sendSegment (s : State) (p : PortId) (n : Nat) (x : SwUnit) : State :=
  let c := (s.port p).txCount
  let e := x.env c
  let s := s.emit (.envelope p e c (s.dealLane p) (sealEnvelope (s.sealKey p c) e))
  let s := (s.updPort p (fun y => { y with txCount := c + 1 })).dealt p (blocksOf e.length.val)
  let s := (s.bump (Cnt.TOPO_ENV_OUT p.code)).updDir p (fun d => d.uses x.u.cls (cellsOf e.length.val))
  let y := { x with sentBytes := x.sentBytes + e.length.val }
  let y := { y with read := max x.read y.sentCells }
  let s := { s with sw := { s.sw with units := mput s.sw.units n y } }
  let s := s.when (decide (y.cells ≤ y.read)) (fun s => s.mirror n true)
  (if y.u.bytes ≤ y.sentBytes then s.freeUnit n else s.freeSent n).counterDue p

/-- The owner's ready envelopes fill its slot: at most 263 blocks and 8 cells (R154). The first number bounds the envelopes;
the second part is how many left. [Log entry 93: DEDUCED] -/
def State.fillSlot (s : State) (p : PortId) (owner : Nat) : Nat → Nat → Nat → State × Nat
  | 0, _, _ => (s, 0)
  | n + 1, blocks, cells =>
    match s.ready1 p owner with
    | none => (s, 0)
    | some (k, x) =>
      let b := blocksOf x.segment
      let c := cellsOf x.segment
      if !s.active p || blocks < b || cells < c || !(s.dir p).allows x.u.cls c then (s, 0)
      else
        let r := (s.sendSegment p k x).fillSlot p owner n (blocks - b) (cells - c)
        (r.1, r.2 + 1)

/-- The flow records of a class. A unit of a flow may wait at another egress than the flow's own, turned back or from before the
steering changed (R190), so the yield order looks at them all. -/
def State.flowsOf (s : State) (c : SvcClass) : List (Nat × Flow) := s.tun.flows.filter (fun e => e.2.cls == c)

/-- The owners of the last place of the yield order, from the rotation's place on (R163). -/
def State.yieldBulk (s : State) (p : PortId) : List Nat :=
  let o := (s.flowsOf .bulk).map (·.1) ++ [ownerTransit]
  let k := (s.dir p).rotation
  o.filter (fun i => decide (k ≤ i)) ++ o.filter (fun i => decide (i < k))

/-- The hub has accepted an epoch and takes it at its next boundary: with a master accepted, or by a GO for the next round (R63). -/
def State.willTake (s : State) (epoch : Nat) : Bool :=
  (s.rt.accepted.any fun a => a.epoch == epoch) || (s.rt.go.any fun g => g.epoch == epoch && g.e == s.rt.round + 1)

/-- Both ends of a link hold one epoch, or an end holds one that the other has accepted: this hub the neighbour's, or the neighbour,
as far as the hub knows it, this hub's (R63). [Log entries 94: DEDUCED, 198: DEDUCED] -/
def State.epochsAgree (s : State) (p : PortId) : Bool :=
  match mget s.rt.hdrs p.code with
  | some h => h.epoch == s.epoch || s.willTake h.epoch ||
      (match mget s.rt.known p.code with
       | some k => k.1 == s.epoch && serialBefore 16 h.epoch s.epoch
       | none => false)
  | none => false

/-- A port carries envelopes of an owner: none on a ring port of a ring of one hub (R126); all in LOCKED, HOLDOVER and MASTER on a link whose
ends agree on the epoch, otherwise those of bring-up, which are MGMT (R60, R63); MGMT alone on a MISWIRED port and at a hub without a
postcode (R29, R126). [Log entry 94: DEDUCED] -/
def State.mayCarry (s : State) (p : PortId) (owner : Nat) : Bool :=
  !(s.ringSize == 1 && p != .c) &&
  (owner == ownerMgmt || (decide (2 ≤ s.timing) && s.epochsAgree p && !s.miswired p && s.addrValid))

/-- The yield order of R163, by the PRIORITY in force. -/
def State.yieldOrder (s : State) (p : PortId) : List Nat :=
  ([ownerReg, ownerMgmt] ++ (byPriority (fun f => f.allot) (s.flowsOf .assured)).map (·.1) ++ s.yieldBulk p).filter (fun o => s.mayCarry p o)

/-- An owner has an envelope that may take a slot not its own: ready, not ISO, and within the grant (R163, R164). -/
def State.mayYield (s : State) (p : PortId) (o : Nat) : Bool :=
  match s.ready1 p o with
  | some (_, x) => x.u.cls != .iso && (s.dir p).allows x.u.cls (cellsOf x.segment)
  | none => false

/-- A slot yields to the first ready envelope within the grant, or leaves empty (R163). -/
def State.yieldSlot (s : State) (p : PortId) : State :=
  match (s.yieldOrder p).find? (fun o => s.mayYield p o) with
  | none => s.bump (Cnt.TUNNEL_SLOTS_IDLE p.code)
  | some o =>
    match s.ready1 p o with
    | none => s
    | some (k, x) =>
      let s := s.when ((s.yieldBulk p).contains o) (fun s => s.updDir p (fun d => { d with rotation := o + 1 }))
      (s.sendSegment p k x).bump (Cnt.TUNNEL_SLOTS_YIELDED p.code)

/-- A run's owner may use its slot: an ISO run on the port the steering does not use for its flow yields (R159). -/
def State.runUsed (s : State) (p : PortId) (r : Run) : Bool :=
  if r.cls = .iso then
    match mget s.tun.flows r.owner with
    | some f => s.flowEgress f == some p
    | none => false
  else true

/-- SLOT_START (R163): a slot the round still carries goes to its owner, or yields. [Log entry 67: DESIGN CHOICE] -/
def execSlotStart (p : PortId) (slot : Fin 2880) (s : State) : Result :=
  .next <|
    let d := s.dir p
    let k := slot.val
    if !s.active p || !s.powered .cipher || !d.carried k then s
    else
      match d.sheet.runAt k with
      | none => s.yieldSlot p
      | some r =>
        if s.runUsed p r && s.mayCarry p r.owner then
          let x := s.fillSlot p r.owner 8 263 8
          if x.2 = 0 then x.1.yieldSlot p else x.1
        else s.yieldSlot p

/-- The units of a frame, by number (R118, R195): those of its segments that stand at one egress, or the one unit. -/
def State.frameOf (s : State) (n : Nat) (x : SwUnit) : List Nat :=
  if x.u.first && x.u.last then [n] else mkeys s.sw.units (fun y => y.egress == x.egress && y.whole && sameFrame y.u x.u)

/-- The payload of a frame, its segments in order (R118). -/
def State.framePayload (s : State) (ns : List Nat) : List Byte :=
  let us := (ns.filterMap s.unit).map (·.u)
  (List.range 8).flatMap (fun k => (us.filter (fun u => u.seg.val == k)).flatMap (·.payload))

/-- The VID of a frame (R285, R287): that of its 802.1Q tag, else the one its map names, 0 if none. -/
def frameVid (payload : List Byte) (map : Nat) : Nat :=
  if (payload.drop 12).take 2 = [0x81, 0x00] then bigNat ((payload.drop 14).take 2) % 4096 else map

/-- PF1 delivers a frame (R287): to queue pair 0, in MODE VLAN to VID mod 32; the descriptor of its last buffer is written back with the bytes
used, DONE, EOP and the VID. [Log entry 122: DESIGN CHOICE] -/
def State.pf1Takes (s : State) (vid : Nat) (payload : List Byte) : State :=
  let q := if s.flag (Reg.SUB_CFG_MODE 10) then vid % 32 else 0
  (s.emit (.frame 3 q payload)).emit (.bytes (256 + q) (leBytes 2 payload.length ++ [3, 0] ++ leBytes 2 vid ++ [0, 0]))

/-- A station egress takes a whole frame. Ethernet frames leave by the sub-port that names the box, or are discarded where its
link is down (R286, R198); PF1's go to a queue pair (R287). -/
def State.stationTakes (s : State) (x : SwUnit) (payload : List Byte) : State :=
  let b := x.u.dstBox.val
  match s.subOf b with
  | none => s.emit (.frame x.egress b payload)
  | some (sub, vid) =>
    if !s.flag (Reg.SUB_STATE_LINK sub) then s.bump (Cnt.SWITCH_EGRESS_DOWN x.egress)
    else
      let s := s.bump (Cnt.ETHER_FRAMES_OUT sub)
      if sub = 10 then s.pf1Takes (frameVid payload vid) payload else s.emit (.frame x.egress sub payload)

/-- The bytes of a copy as an Ethernet frame, from its destination address on (R201, R287): the source address is that of the sub-port, or of
PF1 for HOST. -/
def State.mirrorFrame (s : State) (c : Copy) : List Byte :=
  let snap := s.get (Reg.MIRROR_S_SNAP c.session)
  let room := if snap = 0 then 9172 else 4 * snap
  let last := if s.get Reg.MIRROR_DEST_DEST_PORT = 3 then 0x1A else 0x10 + s.get Reg.MIRROR_DEST_DEST_SUB
  List.replicate 6 0xFF ++ [0x02, 0x48, 0x4B] ++ bigBytes 2 s.postcode ++ bigBytes 1 last ++ [0x88, 0xB5] ++
  [1] ++ bigBytes 1 (c.session * 64 + c.port * 4 + c.point) ++ bigBytes 1 (c.tc * 32 + c.colour * 8 + bitAt (decide (room < c.payload.length)) 0) ++
  [0] ++ bigBytes 2 c.payload.length ++ bigBytes 2 c.flow ++ bigBytes 8 c.made ++ bigBytes 2 c.srcPc ++ bigBytes 2 c.srcBox ++
  bigBytes 2 c.dstPc ++ bigBytes 2 c.dstBox ++ c.payload.take room

/-- UNIT_TRANSFER_DONE (R196), of a unit or copy whose last cell has been read: a station egress takes the whole frame, all of whose segments
have been read, and its cells are free (R195); at a trunk egress the unit stands in the stage until its slot; a copy leaves towards the
analyser (R200, R201). [Log entry 93: DEDUCED] -/
def execUnitTransferDone (unit : Nat) (mirror : Bool) (s : State) : Result :=
  .next <|
    if mirror then
      match mget s.sw.copies unit with
      | none => s
      | some c =>
        if c.read < c.cells then s
        else
          let s := s.emit (.frame (s.get Reg.MIRROR_DEST_DEST_PORT) (s.get Reg.MIRROR_DEST_DEST_SUB) (s.mirrorFrame c))
          (s.bump Cnt.SWITCH_MIRROR_COPIES).dropCopy unit
    else
      match s.unit unit with
      | none => s
      | some x =>
        let ns := s.frameOf unit x
        if x.whole = false ∨ ns.any (fun n => ((s.unit n).map (fun y => decide (y.read < y.cells))).getD true) then s
        else if x.egress ≤ 2 then s.mirror unit true
        else
          let payload := s.framePayload ns
          let s := forAll ns s (fun s n => s.mirror n true)
          forAll ns (s.stationTakes x payload) (fun s n => s.freeUnit n)

/-- MIRROR_COPY_TIMEOUT (R200). -/
def execMirrorCopyTimeout (copy : Nat) (s : State) : Result :=
  .next <|
    match mget s.sw.copies copy with
    | none => s
    | some c => if decide (125000 ≤ postmarkDiff s.now c.made) then (s.dropCopy copy).bump Cnt.SWITCH_MIRROR_DROPPED else s

/-- MIRROR_SET's parameters are in range (R204). -/
def mirrorOk (session en srcKind destPort src snap destSub cells : Nat) : Bool :=
  decide (session ≤ 3) && decide (en ≤ 1) && decide (srcKind ≤ 2) && (if srcKind = 2 then decide (src ≤ 8191) else decide (src ≤ 9)) &&
  (snap == 0 || (decide (16 ≤ snap) && decide (snap ≤ 2293))) &&
  ((destPort == 3 && decide (destSub ≤ 31)) || (destPort == 6 && decide (destSub ≤ 9))) && decide (cells ≤ 16384)

/-- MIRROR_PERMIT of the policy word (R446). -/
def State.mirrorPermit (s : State) : Bool := bitOf (s.get Reg.SEC_STATE_POLICY) 0

/-- MIRROR_SET (R199): in force at the next boundary. -/
def execMirrorSet (h : CmdHdr) (session en srcKind destPort : Byte) (src snap : BitVec 16) (destSub : Byte) (mirrorCells : BitVec 16)
    (s : State) : Result :=
  .next <| s.runOpcode h 0x0205
    ([session, en, srcKind, destPort] ++ leBytes 2 src.toNat ++ leBytes 2 snap.toNat ++ [destSub, 0] ++ leBytes 2 mirrorCells.toNat)
    true (fun _ s =>
    let k := session.toNat
    if !mirrorOk k en.toNat srcKind.toNat destPort.toNat src.toNat snap.toNat destSub.toNat mirrorCells.toNat then (s, .done .badParam [])
    else if !s.mirrorPermit then (s, .done .notPermitted [])
    else
      let w := en.toNat * 2 ^ 31 + srcKind.toNat * 2 ^ 29 + src.toNat * 2 ^ 16 + snap.toNat
      let d := mirrorCells.toNat * 2 ^ 16 + destSub.toNat * 2 ^ 8 + destPort.toNat
      let s := { s with sw := { s.sw with mirror := s.sw.mirror ++ [⟨k, BitVec.ofNat 32 w, BitVec.ofNat 32 d⟩] } }
      (s, .done .ok (leBytes 8 (s.round + 1))))

/-- The owners whose units a trunk egress may fetch now: those of the slot in transmission and of the next, and where the owner of the slot in
transmission has nothing ready, those of the yield order within the grant (R194). -/
def State.fetchOwners (s : State) (p : PortId) : List Nat :=
  let d := s.dir p
  let k := d.lastAt (s.get (Reg.DIR_STATE_CAP p.code)) s.rt.ns
  let owner := fun (j : Nat) => if d.carried j then (d.sheet.runAt j).map (·.owner) else none
  let own := [owner k, owner (k + 1)].filterMap id
  let idle := d.carried k && (match owner k with | some o => (s.ready1 p o).isNone | none => true)
  if idle then own ++ (s.yieldOrder p).filter (fun o => s.mayYield p o) else own

/-- Cells in the transmit stage of a trunk egress (R196). -/
def State.stageFill (s : State) (egress : Nat) : Nat :=
  ((s.sw.units.filter (fun e => e.2.egress == egress)).map (fun e => e.2.read - e.2.sentCells)).sum

/-- The cell up to which a unit is read in one transfer (R194, R195): the end of its segment at a trunk egress, else its last. -/
def SwUnit.readEnd (x : SwUnit) : Nat := if x.egress ≤ 2 then min x.cells ((x.read / 8 + 1) * 8) else x.cells

/-- The context of a unit to P9 takes it (R210): a full queue, or an engine out of service, leaves it in its VOQ. Registered units and those
of box 0 go to the Registry and the postmaster, and one for a box without a context is taken to be discarded. -/
def State.contextTakes (s : State) (u : UnitIn) : Bool :=
  u.cls == .registered || u.dstBox.val == 0 ||
  (match s.contextOf u.dstBox.val with
   | some (c, x) => decide (x.items.length < 32) && s.engineRuns (c / 256)
   | none => true)

/-- A unit may be read towards its egress (R194, R195, R210). -/
def State.eligible (s : State) (x : SwUnit) : Bool :=
  x.whole && decide (x.read < x.cells) &&
  (match PortId.ofCode x.egress with
   | some p => s.active p && (s.fetchOwners p).contains x.owner
   | none => x.egress != 9 || s.contextTakes x.u)

/-- The request of an unmatched input for an egress (R193): highest traffic class first, then the oldest. -/
def State.request (s : State) (input egress : Nat) : Option (Nat × Nat) :=
  let mine := s.sw.units.filter (fun e => e.2.u.ingress.val == input && e.2.egress == egress && s.eligible e.2)
  ([7, 6, 5, 4, 3, 2, 1, 0].filterMap (fun t => (mine.find? (fun e => e.2.tc == t)).map (fun e => (t, e.1)))).head?

/-- Of requests or grants by port number, the one of the highest class, then the first at or after a pointer (R193). -/
def bestOf (ptr : Nat) (l : List (Nat × Nat)) : Option Nat :=
  let top := l.foldl (fun m e => max m e.2) 0
  let best := (l.filter (fun e => e.2 == top)).map (·.1)
  match best.find? (fun i => decide (ptr ≤ i)) with
  | some i => some i
  | none => best.head?

/-- A pair pauses in a cell cycle in which its egress stage is full (R192, R196); what a station egress has taken stands in its block.
[Log entry 227: DESIGN CHOICE] -/
def State.paused (s : State) (q : Pair) : Bool := decide (q.egress ≤ 2) && decide (32 ≤ s.stageFill q.egress)

/-- The pairs that move units, and would read in this cycle (R192). -/
def State.unitPairs (s : State) : List Pair := s.sw.pairs.filter (fun q => q.input != 10)
def State.readers (s : State) : List Pair := s.unitPairs.filter (fun q => !s.paused q)

/-- One iteration of R193 with the reads still free; `first` moves the pointers. Copies take no part in it (R200). [Log entry 228: DEDUCED] -/
def State.matchOnce (s : State) (first : Bool) : State :=
  let ins := (List.range 10).filter (fun i => !s.unitPairs.any (fun q => q.input == i))
  let outs := (List.range 10).filter (fun e => !s.unitPairs.any (fun q => q.egress == e))
  let grants := outs.filterMap (fun e =>
    let rs := ins.filterMap (fun i => (s.request i e).map (fun r => (i, r.1)))
    (bestOf ((mget s.sw.grantPtr e).getD 0) rs).map (fun i => (e, i, ((s.request i e).map (·.1)).getD 0)))
  forAll ins s (fun s i =>
    let mine := (grants.filter (fun g => g.2.1 == i)).map (fun g => (g.1, g.2.2))
    if 5 ≤ s.readers.length then s
    else
      match bestOf ((mget s.sw.acceptPtr i).getD 0) mine with
      | none => s
      | some e =>
        match s.request i e with
        | none => s
        | some r =>
          let w := s.sw
          { s with sw := { w with
              pairs := w.pairs ++ [⟨i, e, r.2⟩]
              grantPtr := if first then mput w.grantPtr e ((i + 1) % 11) else w.grantPtr
              acceptPtr := if first then mput w.acceptPtr i ((e + 1) % 10) else w.acceptPtr } })

/-- P10 presents its next copy where no pair of its own stands (R199, R200). -/
def State.matchCopy (s : State) : State :=
  let dest := s.get Reg.MIRROR_DEST_DEST_PORT
  if s.sw.pairs.any (fun q => q.input == 10) || dest == 15 then s
  else
    match s.sw.copies.find? (fun c => decide (c.2.read < c.2.cells)) with
    | some c => { s with sw := { s.sw with pairs := s.sw.pairs ++ [⟨10, dest, c.1⟩] } }
    | none => s

/-- The segment of a frame that follows at a station egress (R195). -/
def State.nextOfFrame (s : State) (n : Nat) (x : SwUnit) : Option Nat :=
  if x.egress ≤ 2 then none else (s.frameOf n x).find? (fun k => ((s.unit k).map (fun y => decide (y.read < y.cells))).getD false)

/-- A pair of a unit reads one cell; the last cell of its transfer ends the pair, or takes it to the next segment of its frame
(R192, R194, R195). -/
def State.readPair (s : State) (q : Pair) : State :=
  match s.unit q.unit with
  | none => { s with sw := { s.sw with pairs := s.sw.pairs.erase q } }
  | some x =>
    let y := { x with read := x.read + 1 }
    let s := { s with sw := { s.sw with units := mput s.sw.units q.unit y } }
    if y.read < x.readEnd then s
    else
      { s with sw := { s.sw with
        pairs := s.sw.pairs.filterMap (fun r =>
          if r = q then (if y.read < y.cells then none else (s.nextOfFrame q.unit y).map (fun k => { q with unit := k })) else some r) } }

/-- P10's pair reads one cell where a read is to spare and no unit's cell goes to its egress (R200). -/
def State.readCopy (s : State) (taken : List Nat) : State :=
  match s.sw.pairs.find? (fun q => q.input == 10) with
  | none => s
  | some q =>
    match mget s.sw.copies q.unit with
    | none => { s with sw := { s.sw with pairs := s.sw.pairs.erase q } }
    | some c =>
      if 5 ≤ taken.length || taken.contains q.egress then s
      else
        let s := { s with sw := { s.sw with copies := mput s.sw.copies q.unit { c with read := c.read + 1 } } }
        if c.cells ≤ c.read + 1 then { s with sw := { s.sw with pairs := s.sw.pairs.erase q } } else s

/-- The cells read in the cycle before are free (R196): those a station egress has read, unless a session is to copy the unit there, and
those a copy has read. The descriptor of a unit stays until its transfer is done. -/
def State.freeRead (s : State) : State :=
  let s := forAll s.sw.units s (fun s e => if e.2.egress ≤ 2 || s.watched e.2.egress then s else s.freeCells e.1 e.2.read)
  forAll s.sw.copies s (fun s c => if c.2.freed = c.2.read then s else s.setCopies c.2.unit (mput s.sw.copies c.1 { c.2 with freed := c.2.read }))

/-- The ports in the order of write arbitration (R178): P0, P1, P2, then the others in rotation from the one after the last served. -/
def State.writeOrder (s : State) : List Nat :=
  [0, 1, 2] ++ (List.range 7).map (fun k => 3 + (s.sw.writePtr - 3 + 1 + k) % 7)

/-- The buffer's writes of a cell cycle (R178, R179): up to five ports write the first cell of their stages, and the units so completed are
decided in ascending port order. -/
def State.writeCells (s : State) : State :=
  let ports := (s.writeOrder.filter (fun i => match (s.stageOf i).head? with | some e => !s.heldBack e.2 | none => false)).take 5
  let last := (ports.filter (fun i => decide (2 < i))).getLast?
  let s := { s with sw := { s.sw with writePtr := last.getD s.sw.writePtr } }
  forAll ((List.range 10).filter ports.contains) s (fun s i =>
    match (s.stageOf i).head? with
    | some e => (({ s with sw := { s.sw with stage := s.sw.stage.erase e } }).writes i).decideWritten e.1 e.2
    | none => s)

/-- CELL_CYCLE (R178, R192, R193): cells read before are freed, the write stages write, P8 and P9 take what waits in their blocks; then three
iterations of matching, and each pair reads a cell, no more than five in all, a copy only with a read to spare (R200). -/
def execCellCycle (s : State) : Result :=
  .next <|
    if !s.powered .core || s.servicePowered then s
    else
      let s := s.freeRead
      let s := ({ s with sw := { s.sw with wrote := [] } }).writeCells
      let s := (s.feedPort 8).feedPort 9
      let s := (((s.matchOnce true).matchOnce false).matchOnce false).matchCopy
      let now := s.readers.take 5
      (forAll now s (fun s q => s.readPair q)).readCopy (now.map (·.egress))

/-- A lowered minimum: what is in use beyond it counts as pool use (R203); POOL_SIZE and POOL_FREE follow the partition in
force (R181). -/
def State.repartition (s : State) : State :=
  let s := forAll allPT s (fun s x =>
    let e := s.minUsed x.1 x.2 - s.minCells x.1 x.2
    if e = 0 then s
    else (s.set (Reg.OCCUPANCY_MIN_USED x.1 x.2) (s.minUsed x.1 x.2 - e)).set (Reg.OCCUPANCY_POOL_USED x.1 x.2) (s.poolUsedAt x.1 x.2 + e))
  let size := s.poolSizeOf
  let used := (allPT.map (fun x => s.poolUsedAt x.1 x.2)).sum + (((s.sw.copies.map (fun c => c.2.unit)).eraseDups).map (fun n => s.copyOnly n)).sum
  let s := s.set Reg.POOL_SIZE_CELLS size
  if s.poolFree = size - used then s else s.setPoolFree (size - used)

/-- The age limit of a traffic class (R197). -/
def State.ageLimit (s : State) (t : Nat) : Nat :=
  if t % 2 = 0 then s.get (Reg.AGE_LIMIT_EVEN (t / 2)) else s.get (Reg.AGE_LIMIT_ODD (t / 2))

/-- Whole rounds since a unit completed, at a boundary (R197). -/
def State.ageOf (s : State) (x : SwUnit) : Nat := s.round - x.round - (if x.ns = 0 then 0 else 1)

/-- A unit is too old at this boundary (R197): not started, and not TC5 at a trunk egress. -/
def State.tooOld (s : State) (x : SwUnit) : Bool :=
  x.sentBytes == 0 && x.read == 0 && !(x.tc == 5 && decide (x.egress ≤ 2)) && decide (s.ageLimit x.tc < s.ageOf x)

/-- An ISO unit whose run has passed (R191), with the sheets of the round just ended. -/
def State.runPassed (s : State) (x : SwUnit) : Bool :=
  match PortId.ofCode x.egress with
  | none => false
  | some p =>
    let d := s.dir p
    let start := match d.sheet.runs.find? (fun r => r.owner == x.owner) with
      | some r => slotStart d.sheet.cap r.first
      | none => 0
    x.u.cls == .iso && decide (x.owner < 8192) && (decide (x.round + 1 < s.round) || (decide (x.round + 1 = s.round) && decide (x.ns < start)))

/-- A queued unit discarded under a class counter AGED. The held segments of a frame that can no longer be whole go with it (R180). -/
def State.ageUnit (s : State) (n : Nat) (x : SwUnit) (t : Nat) : State :=
  let s := ((s.bump (Cnt.SWITCH_AGED x.u.ingress.val t)).dropFromFlow x.owner).freeUnit n
  if x.whole then s else s.freeFrame x.u

/-- A unit at the boundary (R196): what stood in the stage of a trunk egress goes back and leaves no cell there. -/
def SwUnit.unstaged (x : SwUnit) : SwUnit := if x.egress ≤ 2 then { x with read := x.sentCells } else x

/-- Aging at a boundary, before the new sheets take force (R191, R197); staged trunk units go back (R196). -/
def State.ageAtBoundary (s : State) : State :=
  let s := { s with sw := { s.sw with
    units := s.sw.units.map (fun e => (e.1, e.2.unstaged)), pairs := s.sw.pairs.filter (fun q => q.input == 10 || decide (2 < q.egress)) } }
  let s := forAll s.sw.units s (fun s e => if (s.unit e.1).isSome && s.runPassed e.2 then s.ageUnit e.1 e.2 5 else s)
  forAll s.sw.units s (fun s e => if (s.unit e.1).isSome && s.tooOld e.2 then s.ageUnit e.1 e.2 e.2.tc else s)

/-- The traffic classes of a service class (R189). -/
def classTCs : SvcClass → List Nat
  | .assured => [2, 3, 4, 6]
  | .registered => [7]
  | .bulk => [0, 1]
  | .iso => [5]

/-- G(c) of a trunk port (R189). -/
def State.grantOf (s : State) (i : Nat) (c : SvcClass) : Nat :=
  let room : Int := ((classTCs c).map (fun t =>
    ((s.minCells i t : Int) - (s.minUsed i t : Int)) + max 0 ((s.limitAt i t : Int) - (s.poolUsedAt i t : Int)))).sum
  max (if c = .bulk then 0 else 512) (min (room.toNat / 2) 23040)

/-- The grants of a boundary, sent in its headers, and the windows they are counted against (R188, R189). GRANT_AR and GRANT_B keep what was
sent last, so a port that sends no header leaves them (R205). -/
def State.grantsAtBoundary (s : State) : State :=
  forAll allPorts s (fun s p =>
    let i := p.code
    let g : Cells3 := ⟨s.grantOf i .assured, s.grantOf i .registered, s.grantOf i .bulk⟩
    let w := s.window i
    let s := s.setWindow i { prev := w.cur, cur := w.next.getD Cells3.floor, next := if s.active p then some g else none }
    if s.active p then
      ((s.set (Reg.GRANT_AR_ASSURED i) g.a).set (Reg.GRANT_AR_REGISTERED i) g.r).set (Reg.GRANT_B_BULK i) g.b
    else s)

/-- Mirror settings take force; sessions the policy no longer permits stop and their copies go (R199, R446). -/
def State.mirrorAtBoundary (s : State) : State :=
  let s := forAll s.sw.mirror s (fun s m => (s.setWord (Reg.MIRROR_S m.session) m.word).setWord Reg.MIRROR_DEST m.dest)
  let s := { s with sw := { s.sw with mirror := [] } }
  if s.mirrorPermit then s
  else
    let s := forAll [0, 1, 2, 3] s (fun s k => s.setFlag (Reg.MIRROR_S_EN k) false)
    forAll s.sw.copies s (fun s c => (s.dropCopy c.1).bump Cnt.SWITCH_MIRROR_DROPPED)

/-- HELD_ROUNDS of the round that ends (R187): every port that held a class at any time of it. -/
def State.heldAtBoundary (s : State) : State :=
  let s := forAll (s.sw.heldNow.filter (fun i => decide (i < 10))) s (fun s i => s.bump (Cnt.SWITCH_HELD_ROUNDS i))
  { s with sw := { s.sw with heldNow := (s.sw.holds.map (·.ingress)).eraseDups } }

/-- The switch at a boundary, before the sheets change. -/
def State.switchBefore (s : State) : State := s.heldAtBoundary.ageAtBoundary

/-- The switch at a boundary, with the new configuration in force. -/
def State.switchAfter (s : State) : State := s.repartition.mirrorAtBoundary.grantsAtBoundary

/-- Payload bytes queued for an owner in a direction (R160). -/
def State.queuedBytes (s : State) (p : PortId) (owner : Nat) : Nat :=
  ((s.sw.units.filter (fun e => e.2.egress == p.code && e.2.owner == owner)).map (fun e => e.2.u.bytes - e.2.sentBytes)).sum

/-- D of R160 for an owner, at the collection mark. -/
def State.demandOf (s : State) (p : PortId) (owner : Nat) : Nat :=
  let d := s.dir p
  let q := s.queuedBytes p owner
  let a := (mget d.joined owner).getD 0
  let c := s.get (Reg.DIR_STATE_CAP p.code)
  let left := ((List.range d.sheet.cap).filter (fun k =>
    d.carried k && decide (100000 ≤ d.startOf c k) && (d.sheet.runAt k).map (·.owner) == some owner)).length
  let need := 4 * q + a - 4 * (left * 2048)
  min ((need + 8191) / 8192) 2880

/-- The demand of every flow and aggregate sampled (R160). -/
def State.sampleDemand (s : State) : State :=
  let s := forAll (s.tun.flows.map (·.1)) s (fun s i =>
    s.updFlow i (fun f => { f with demand := match s.flowEgress f with | some p => s.demandOf p i | none => 0 }))
  forAll allPorts s (fun s p => s.updDir p (fun d => { d with
    dReg := s.demandOf p ownerReg, dMgmt := s.demandOf p ownerMgmt, dTransit := s.demandOf p ownerTransit }))

/-- Every unit queued for an egress discarded as its domain goes (R198), and what an ingress block was holding freed. -/
def State.egressDown (s : State) (port : Nat) : State :=
  forAll (mkeys s.sw.units (fun x => x.egress == port)) s (fun s n => (s.freeUnit n).bump (Cnt.SWITCH_EGRESS_DOWN port))

def State.ingressDown (s : State) (port : Nat) : State :=
  { s with sw := { s.sw with
    holds := s.sw.holds.filter (fun h => h.ingress != port), stage := s.sw.stage.filter (fun e => e.2.ingress.val != port) } }

/-- Units of a box's queues: frames from it that leave and frames to it that wait (R145). -/
def State.boxUnits (s : State) (b : Nat) : List Nat :=
  mkeys s.sw.units (fun x => (x.u.srcPc.toNat == s.postcode && x.u.srcBox.val == b) || (x.u.dstPc.toNat == s.postcode && x.u.dstBox.val == b))

def State.boxHeld (s : State) (b : Nat) : Bool :=
  s.sw.holds.any (fun h => h.u.srcPc.toNat == s.postcode && h.u.srcBox.val == b) ||
  s.sw.stage.any (fun e => e.2.srcPc.toNat == s.postcode && e.2.srcBox.val == b)

end Machine
end Sys2Proof
end

