-- ==== Sys2Proof/Machine/Tunnels.lean ====
section
/-!
DEFINITION. Tunnels (R144 to R174): opening, closing and draining of boxes, forwarding, allotment and queries.
-/
namespace Sys2Proof
namespace Machine

/-- A 16-bit operand names a box 1 to 4095. -/
def boxNoOk (b : Nat) : Bool := decide (1 ≤ b) && decide (b ≤ 4095)

/-- An index, 0xFFFF where none (R365). -/
def orNone (i : Option Nat) : Nat := i.getD 0xFFFF

/-- An end that sends into a tunnel towards another hub needs a flow record (R147, R151). -/
def State.flowsFree (s : State) (sends : Bool) (peerPc : Nat) : Bool :=
  !sends || peerPc == s.postcode || decide (s.tun.flows.length + s.mem.flows.length < 8192)

/-- The conditions of R158 with an ASSURED origin flow of a box added. [Log entry 75: DEDUCED] -/
def State.openFits (s : State) (sends : Bool) (c : SvcClass) (k : Kind) (b peerPc peerBox : Nat) (a : Allot) : Bool :=
  if sends && peerPc != s.postcode && c == .assured then
    let f := Flow.fresh c k.code true b s.postcode b peerPc peerBox 0 a
    match s.addFlow f with
    | some (_, t) => t.commitWith f
    | none => false
  else true

/-- The far index of OPEN_ANSWER and the receipt data of TUNNEL_OPEN (R365). [Log entry 83: DESIGN CHOICE] -/
def State.openData (s : State) (b farInc farFlow : Nat) : List Byte :=
  let x := s.box b
  leBytes 2 x.inc ++ leBytes 2 farInc ++ leBytes 2 (orNone x.flow) ++ leBytes 2 farFlow

/-- Receipt data of an open withdrawn (R148). -/
def State.withdrawnData (s : State) (b : Nat) : List Byte := leBytes 2 (s.box b).inc ++ leBytes 2 0xFFFF ++ leBytes 2 0xFFFF ++ leBytes 2 0xFFFF

/-- TUNNEL_OPEN (R147, R171). -/
def execTunnelOpen (h : CmdHdr) (box : BitVec 16) (farPc : Postcode) (farBox : BitVec 16) (kind cls direction priority weight : Byte)
    (min ceil : BitVec 16) (s : State) : Result :=
  .next <| s.runOpcode h 0x0200
    (leBytes 2 box.toNat ++ leBytes 2 farPc.toNat ++ leBytes 2 farBox.toNat ++ [kind, cls, direction, priority, weight, 0] ++
      leBytes 2 min.toNat ++ leBytes 2 ceil.toNat)
    true (fun _ s =>
    let b := box.toNat
    match Kind.ofCode kind.toNat, SvcClass.ofCode cls.toNat with
    | some k, some c =>
      let raw : Allot := ⟨min.toNat, ceil.toNat, weight.toNat, priority.toNat⟩
      let a := allotHeld c raw
      let x := s.box b
      if !boxNoOk b || !boxNoOk farBox.toNat || 1 < direction.toNat || k == .mgmt || !classFits k c || !allotOk c raw then
        (s, .done .badParam [])
      else if x.state = .draining then (s, .done .busyRetry [])
      else if x.state ≠ .free then (s, .done .notPermitted [])
      else if !s.boxFits b k c || !s.busFits b c (direction.toNat == 1) || !s.flowsFree true farPc.toNat || (s.chooseEngine k).isNone then (s, .done .noResource [])
      else if !s.openFits true c k b farPc.toNat farBox.toNat a then (s, .done .noBandwidth [])
      else
        let s := s.openBox b k c (direction.toNat == 1) true farPc.toNat farBox.toNat 0 a
        let m : Box0Msg := .openRequest k.code c.code direction.toNat b (s.box b).inc farBox.toNat a.min a.ceil a.weight a.priority
        ((s.sendBox0 farPc.toNat m).1, .waits b)
    | _, _ => (s, .done .badParam []))

/-- The far hub's refusal of an open request (R147). [Log entries 82: DEDUCED, 83: DESIGN CHOICE] -/
def State.refuseOpen (s : State) (srcPc nearBox nearInc farBox : Nat) (st : Status) : State :=
  ((s.sendBox0 srcPc (.openAnswer st.code farBox (s.box farBox).inc nearBox nearInc 0xFFFF)).1).bump Cnt.TUNNEL_OPEN_REFUSED

/-- The far hub's acceptance answered, for the first time or again (R358). -/
def State.acceptAnswer (s : State) (srcPc nearBox nearInc farBox : Nat) : State :=
  let x := s.box farBox
  (s.sendBox0 srcPc (.openAnswer Status.ok.code farBox x.inc nearBox nearInc (orNone x.flow))).1

/-- A FREE box meets an open request (R147, R209, R267). [Log entry 82: DEDUCED] -/
def State.acceptOpen (s : State) (srcPc nearBox nearInc b : Nat) (k : Kind) (c : SvcClass) (twoWay : Bool) (a : Allot) : State :=
  if !s.boxFits b k c || !s.busFits b c true || !s.flowsFree twoWay srcPc || (s.chooseEngine k).isNone then s.refuseOpen srcPc nearBox nearInc b .noResource
  else if !s.openFits twoWay c k b srcPc nearBox a then s.refuseOpen srcPc nearBox nearInc b .noBandwidth
  else ((s.openBox b k c twoWay false srcPc nearBox nearInc a).boxOpens b nearInc).acceptAnswer srcPc nearBox nearInc b

/-- OPEN_REQUEST (R147, R170, R358). -/
def execOpenRequest (srcPc : Postcode) (kind cls direction : Byte) (nearBox nearInc farBox min ceil : BitVec 16) (weight priority : Byte)
    (s : State) : Result :=
  .next <|
    let b := farBox.toNat
    let q := srcPc.toNat
    let n := nearBox.toNat
    let i := nearInc.toNat
    if !s.listens q then s
    else
    match Kind.ofCode kind.toNat, SvcClass.ofCode cls.toNat with
    | some k, some c =>
      let a := allotHeld c ⟨min.toNat, ceil.toNat, weight.toNat, priority.toNat⟩
      let x := s.box b
      if !boxNoOk b || !boxNoOk n || k == .mgmt then s.refuseOpen q n i b .badParam
      else if !classFits k c then s.refuseOpen q n i b .noResource
      else if x.state = .opened ∧ x.peerPc = q ∧ x.peerBox = n ∧ x.peerInc = i then s.acceptAnswer q n i b
      else if x.state = .opening ∧ x.near ∧ x.peerPc = q ∧ x.peerBox = n then
        if q < s.postcode ∨ (q = s.postcode ∧ n < b) then
          let s := (s.finishWaiters 0x0200 b .busyRetry []).boxFrees b
          s.acceptOpen q n i b k c (direction.toNat == 1) a
        else s.refuseOpen q n i b .busyRetry
      else if x.state ≠ .free then s.refuseOpen q n i b .notPermitted
      else s.acceptOpen q n i b k c (direction.toNat == 1) a
    | _, _ => s.refuseOpen q n i b .noResource

/-- OPEN_ANSWER (R147, R148). -/
def execOpenAnswer (srcPc : Postcode) (status : Byte) (farBox farInc nearBox nearInc farFlow : BitVec 16) (s : State) : Result :=
  .next <|
    let b := nearBox.toNat
    let x := s.box b
    if !s.listens srcPc.toNat then s
    else if x.state = .opening ∧ x.near ∧ x.peerPc = srcPc.toNat ∧ x.peerBox = farBox.toNat ∧ x.inc = nearInc.toNat then
      if status.toNat = 0 then
        let s := s.boxOpens b farInc.toNat
        s.finishWaiters 0x0200 b .ok (s.openData b farInc.toNat farFlow.toNat)
      else (s.finishWaiters 0x0200 b (Status.ofCode status.toNat) []).boxFrees b
    else s.bump Cnt.TUNNEL_OPEN_REFUSED

/-- A forwarding record for a box's current incarnation (R149). -/
def State.setForwardOf (s : State) (b pc box inc : Nat) : State := s.updBox b (fun x => { x with fwd := some ⟨x.inc, pc, box, inc⟩ })

/-- A forwarding address is in range (R171). -/
def State.forwardOk (s : State) (b pc box inc : Nat) : Bool :=
  boxNoOk box && decide (inc ≤ 4095) && !(pc == s.postcode && box == b)

/-- TUNNEL_CLOSE (R148, R170). [Log entry 85: DESIGN CHOICE] -/
def execTunnelClose (h : CmdHdr) (box : BitVec 16) (fwd : Byte) (fwdPc : Postcode) (fwdBox fwdInc : BitVec 16) (s : State) : Result :=
  .next <| s.runOpcode h 0x0201
    (leBytes 2 box.toNat ++ [fwd, 0] ++ leBytes 2 fwdPc.toNat ++ leBytes 2 fwdBox.toNat ++ leBytes 2 fwdInc.toNat)
    true (fun _ s =>
    let b := box.toNat
    let x := s.box b
    let f := fwd.toNat == 1
    if !boxNoOk b || 1 < fwd.toNat || (f && !s.forwardOk b fwdPc.toNat fwdBox.toNat fwdInc.toNat) then (s, .done .badParam [])
    else
      match x.state with
      | .free => (s, .done .notPermitted [])
      | .opening =>
        let s := s.finishWaiters 0x0200 b .notPermitted (s.withdrawnData b)
        let s := s.when f (fun s => s.setForwardOf b fwdPc.toNat fwdBox.toNat fwdInc.toNat)
        let s := (s.boxDrains b).sendClose b (if x.near then 0 else x.peerInc)
        let lost := (s.box b).closeLost
        (s.boxFrees b, .done (if lost then .unreachable else .ok) [])
      | .opened =>
        let s := s.when f (fun s => s.setForwardOf b fwdPc.toNat fwdBox.toNat fwdInc.toNat)
        ((s.boxDrains b).sendClose b x.peerInc, .waits b)
      | .draining =>
        if (s.waiter 0x0201 b).isSome then (s, .done .notPermitted [])
        else (s.when f (fun s => s.setForwardOf b fwdPc.toNat fwdBox.toNat fwdInc.toNat), .waits b))

/-- CLOSE_REQUEST (R148, R358): INC 0 matches the box whose peer is the sender, whatever its incarnation. A box in OPENING withdraws its own open. -/
def execCloseRequest (srcPc : Postcode) (box inc senderBox : BitVec 16) (s : State) : Result :=
  .next <|
    let b := box.toNat
    let x := s.box b
    let i := inc.toNat
    if s.listens srcPc.toNat ∧ x.peerPc = srcPc.toNat ∧ x.peerBox = senderBox.toNat ∧ (i = 0 ∨ i = x.inc) ∧ b ≠ 0 then
      match x.state with
      | .opened => s.boxDrains b
      | .opening =>
        (((s.finishWaiters 0x0200 b .notPermitted (s.withdrawnData b)).boxDrains b).boxFrees b)
      | _ => s
    else s

/-- SET_FORWARD (R149, R171). -/
def execSetForward (h : CmdHdr) (box : BitVec 16) (fwdPc : Postcode) (fwdBox fwdInc : BitVec 16) (s : State) : Result :=
  .next <| s.runOpcode h 0x0204
    (leBytes 2 box.toNat ++ leBytes 2 fwdPc.toNat ++ leBytes 2 fwdBox.toNat ++ leBytes 2 fwdInc.toNat)
    true (fun _ s =>
    let b := box.toNat
    let x := s.box b
    if !boxNoOk b || !s.forwardOk b fwdPc.toNat fwdBox.toNat fwdInc.toNat then (s, .done .badParam [])
    else if x.state = .opened ∨ x.state = .draining then (s.setForwardOf b fwdPc.toNat fwdBox.toNat fwdInc.toNat, .done .ok [])
    else (s, .done .notPermitted []))

/-- DRAIN_COUNT (R253): BOX is this hub's own. [Log entry 86: DESIGN CHOICE] -/
def execDrainCount (srcPc : Postcode) (box held : BitVec 16) (s : State) : Result :=
  .next <|
    let b := box.toNat
    let x := s.box b
    if s.listens srcPc.toNat ∧ x.state = .draining ∧ x.cls = .registered ∧ x.peerPc = srcPc.toNat then s.updBox b (fun x => { x with farHeld := some held.toNat })
    else s

/-- OPENING_TIMEOUT (R145): 100 ms ±1 ms after the box entered OPENING. [Log entry 84: DEDUCED] -/
def execOpeningTimeout (box : BoxNo) (s : State) : Result :=
  .next <|
    let b := box.val
    let x := s.box b
    if x.state = .opening ∧ x.near ∧ x.since + 792 ≤ s.round then
      ((s.finishWaiters 0x0200 b .timeout []).bump Cnt.TUNNEL_OPEN_TIMEOUTS).boxFrees b
    else s

/-- HELD entries of a box's tunnel (R253): those of its current incarnation that are not dead letters. -/
def State.tunnelHeld (s : State) (b : Nat) : List Nat := ((s.entriesOf b).filter (fun e => !e.2.dead)).map (·.1)

/-- How many they are, void letters that wait for an entry among them (R256). -/
def State.heldOf (s : State) (b : Nat) : Nat :=
  (s.tunnelHeld b).length + (s.reg.voids.filter (fun e => e.box == b && e.ownInc == (s.box b).inc)).length

/-- A draining box may become FREE (R145, R253). An end of a REGISTERED tunnel has reported 0 first, or the far end would not learn
of it; one that stays silent is not waited for (R148). [Log entries 87: DEDUCED, 230: DEDUCED] -/
def State.drained (s : State) (b : Nat) : Bool :=
  let x := s.box b
  s.boxUnits b == [] && !s.boxHeld b && s.heldOf b == 0 &&
  (x.cls != .registered || (x.told && (!(!x.near || x.twoWay) || x.farHeld == some 0 || s.farSilent b)))

/-- DRAIN_COMPLETE (R145). -/
def execDrainComplete (box : BoxNo) (s : State) : Result :=
  .next <| if (s.box box.val).state = .draining ∧ s.drained box.val then s.boxFrees box.val else s

/-- DRAIN_DISCARD (R145). -/
def execDrainDiscard (box : BoxNo) (s : State) : Result :=
  .next <|
    let b := box.val
    let x := s.box b
    if x.state = .draining ∧ x.since + 64 ≤ s.round then
      let s := forAll (s.boxUnits b) s (fun s n =>
        match s.unit n with
        | some y =>
          if y.u.cls = .registered then s else ((s.freeUnit n).bump Cnt.TUNNEL_DRAIN_DISCARDED).dropFromFlow y.owner
        | none => s)
      let gone := s.sw.holds.filter (fun h => h.u.srcPc.toNat == s.postcode && h.u.srcBox.val == b && h.u.cls != .registered)
      let s := { s with sw := { s.sw with holds := s.sw.holds.filter (fun h => !gone.contains h) } }
      s.bump Cnt.TUNNEL_DRAIN_DISCARDED gone.length
    else s

/-- DRAIN_LIMIT (R145, R252): what is still held becomes dead letters, and the box FREE. [Log entry 16: DESIGN CHOICE] -/
def execDrainLimit (box : BoxNo) (s : State) : Result :=
  .next <|
    let b := box.val
    let x := s.box b
    if x.state = .draining ∧ x.since + 80000 ≤ s.round then
      let passed := ((s.book b).map (·.farPassed)).getD 0
      let s := forAll (s.tunnelHeld b) s (fun s k =>
        match mget s.reg.entries k with
        | some e => s.makeDead k Status.timeout.code (if seqLe e.seq passed then 2 else 1) none
        | none => s)
      s.boxFrees b
    else s

/-- R158 after a flow's next parameters are set. -/
def State.allotFits (s : State) (i : Nat) : Bool :=
  match mget s.tun.flows i with
  | some f => f.cls != .assured || s.commitWith f
  | none => true

/-- Receipt data of TUNNEL_ALLOT (R365). -/
def State.allotData (s : State) (i : Nat) : List Byte := leBytes 2 i ++ leBytes 2 0 ++ leBytes 8 (s.round + 1)

/-- TUNNEL_ALLOT (R157, R171, R365): in force at the next boundary. DST_INC of a pass record, which the command does not name, is 0 and stays
so. [Log entries 88: DESIGN CHOICE, 231: DESIGN CHOICE] -/
def execTunnelAllot (h : CmdHdr) (op cls : Byte) (flow : BitVec 16) (srcPc : Postcode) (srcBox : BitVec 16) (dstPc : Postcode)
    (dstBox min ceil : BitVec 16) (weight priority : Byte) (s : State) : Result :=
  .next <| s.runOpcode h 0x0202
    ([op, cls] ++ leBytes 2 flow.toNat ++ leBytes 2 srcPc.toNat ++ leBytes 2 srcBox.toNat ++ leBytes 2 dstPc.toNat ++
      leBytes 2 dstBox.toNat ++ leBytes 2 min.toNat ++ leBytes 2 ceil.toNat ++ [weight, priority])
    true (fun _ s =>
    let raw : Allot := ⟨min.toNat, ceil.toNat, weight.toNat, priority.toNat⟩
    let i := flow.toNat
    if op.toNat = 1 then
      match SvcClass.ofCode cls.toNat with
      | none => (s, .done .badParam [])
      | some c =>
        if c = .registered ∨ !allotOk c raw ∨ 4095 < srcBox.toNat ∨ 4095 < dstBox.toNat then (s, .done .badParam [])
        else if (s.findFlow srcPc.toNat srcBox.toNat dstPc.toNat dstBox.toNat).isSome then (s, .done .notPermitted [])
        else
          let f := Flow.fresh c 7 false 0 srcPc.toNat srcBox.toNat dstPc.toNat dstBox.toNat 0 ⟨0, 0, if c = .bulk then weight.toNat else 0, 0⟩
          match s.addFlow { f with next := some (allotHeld c raw) } with
          | none => (s, .done .noResource [])
          | some (j, t) => if t.allotFits j then (t, .done .ok (t.allotData j)) else (s, .done .noBandwidth [])
    else if 2 < op.toNat then (s, .done .badParam [])
    else
      match mget s.tun.flows i with
      | none => (s, .done .badParam [])
      | some f =>
        if f.cls = .iso then (s, .done .notPermitted [])
        else if op.toNat = 2 then
          if f.origin then (s, .done .notPermitted [])
          else (s.updFlow i (fun f => { f with removing := true }), .done .ok (s.allotData i))
        else if !allotOk f.cls raw then (s, .done .badParam [])
        else
          let t := s.updFlow i (fun f => { f with next := some (allotHeld f.cls raw) })
          if t.allotFits i then (t, .done .ok (t.allotData i)) else (s, .done .noBandwidth []))

/-- TUNNEL_QUERY (R152): the record of a flow index or of a box's origin flow; DROPPED starts again. [Log entry 88: DESIGN CHOICE] -/
def execTunnelQuery (h : CmdHdr) (select : Byte) (index : BitVec 16) (s : State) : Result :=
  .next <| s.runOpcode h 0x0203 ([select, 0] ++ leBytes 2 index.toNat) true (fun _ s =>
    let i := if select.toNat = 1 then (s.box index.toNat).flow else if select.toNat = 0 then some index.toNat else none
    match i with
    | none => (s, .done .badParam [])
    | some i =>
      match mget s.tun.flows i with
      | none => (s, .done .badParam [])
      | some f => (s.updFlow i (fun f => { f with dropped := 0 }), .done .ok (s.flowBytes i f)))

/-- Flow records at a boundary: parameters take force, removals and ISO pass records without ports go, meters refill, the
round's counts start again (R157, R165, R365). `applied` says that a staged set applied at this boundary. [Log entry 77: DESIGN CHOICE] -/
def State.flowsAtBoundary (s : State) (applied : Bool) : State :=
  let gone := s.tun.flows.filter (fun e => e.2.removing ||
    (applied && !e.2.origin && e.2.cls == .iso && s.get (Reg.ISO_ALLOT_PRI_PORT e.1) == 3 && s.get (Reg.ISO_ALLOT_ALT_PORT e.1) == 3))
  let s := forAll (gone.map (·.1)) s (fun s i => s.dropFlow i)
  let s := forAll (s.tun.flows.map (·.1)) s (fun s i =>
    s.updFlow i (fun f =>
      let a := f.allotNext
      { f with allot := a, next := none, meter := if f.cls = .assured then f.meter.refill a else f.meter, isoBytes := 0 }))
  { s with tun := { s.tun with boxes := s.tun.boxes.map (fun (e : Nat × Box) =>
      (e.1, { e.2 with bulkBytes := 0, meter := e.2.meter.map (fun m => m.refill ⟨e.2.min, e.2.ceil, 0, 0⟩) })) } }

/-- Each end of a draining REGISTERED tunnel reports its HELD entries once a round (R253). [Log entries 86: DESIGN CHOICE, 193: DEDUCED] -/
def State.drainReports (s : State) : State :=
  forAll s.tun.boxes s (fun s e =>
    if e.2.state = .draining ∧ e.2.cls = .registered then
      let n := s.heldOf e.1
      let s := (s.sendBox0 e.2.peerPc (.drainCount e.2.peerBox n)).1
      s.when (n == 0) (fun s => s.updBox e.1 (fun x => { x with told := true }))
    else s)

end Machine
end Sys2Proof
end

