-- ==== Sys2Proof/Machine/Engines.lean ====
section
/-!
DEFINITION. The carrier engines (R207 to R230): items, slices and their yield, demand, tables at the seal and the boundary, faults
and return.
-/
namespace Sys2Proof
namespace Machine

/-- A context with a ready item. -/
def Context.readyItem (c : Context) : Bool := c.items != []

/-- When a context's oldest carried item arrived, where it holds one. -/
def Context.carriedSince (c : Context) : Option (Nat × Nat) := (c.items.find? (fun i => decide (0 < i.crossed))).map (fun i => (i.round, i.ns))

def earlier (a b : Nat × Nat) : Bool := decide (a.1 < b.1) || (a.1 == b.1 && decide (a.2 < b.2))

/-- The context a yielded slice serves (R216): the oldest carried item, then ready contexts in rotation. -/
def State.yieldTo (s : State) (e : Nat) (except_ : Option Nat) : Option Nat :=
  let cs := (s.contextsOf e).filter (fun c => c.2.readyItem && some c.1 != except_)
  let carried := cs.filterMap (fun c => c.2.carriedSince.map (fun t => (c.1, t)))
  match carried.foldl (fun (o : Option (Nat × (Nat × Nat))) c => match o with
      | some b => if earlier c.2 b.2 then some c else o
      | none => some c) none with
  | some c => some c.1
  | none =>
    let last := (s.engine e).yielded
    match cs.find? (fun c => decide (last < c.1)) with
    | some c => some c.1
    | none => (cs.head?).map (·.1)

/-- A slice is offered under R216: its taker is counted, or it stays idle. -/
def State.offerSlice (s : State) (e : Nat) (except_ : Option Nat) : State :=
  match (if s.engineRuns e then s.yieldTo e except_ else none) with
  | some c => (s.updEngine e (fun x => { x with serving := some c, yielded := c })).bump (Cnt.ENGINE_SLICES_YIELDED e)
  | none => (s.updEngine e (fun x => { x with serving := none })).bump (Cnt.ENGINE_SLICES_IDLE e)

/-- Slice k of an engine starts: its owner runs where it has a ready item (R211, R216). -/
def State.startSlice (s : State) (e k : Nat) : State :=
  let s := s.updEngine e (fun x => { x with slice := k, serving := none })
  if 500 ≤ k then s
  else
    match entryAt (s.engine e).table k with
    | some (c, _) =>
      let has := match mget s.eng.contexts (256 * e + c) with
        | some x => x.readyItem && x.wait == 0
        | none => false
      if has && s.engineRuns e then s.updEngine e (fun x => { x with serving := some c }) else s.offerSlice e none
    | none => s.offerSlice e none

/-- An item comes to its box's context (R210), or its source is held; the second part says whether the context took it. [Log entry 99: DESIGN CHOICE] -/
def State.itemArrives (s : State) (b : Nat) (fromP9 : Bool) (estimate : Nat) : State × Bool :=
  if b = 0 then (s, false)
  else
    match s.contextOf b with
    | none => (if fromP9 then s.bump Cnt.ENGINE_NO_CONTEXT else s, false)
    | some (c, x) =>
      if 32 ≤ x.items.length || !s.engineRuns (c / 256) then (s.bump (Cnt.ENGINE_INBOX_FULL (c / 256)), false)
      else
        let s := s.setContext c { x with items := x.items ++ [⟨s.round, s.rt.ns, estimate, 0, false⟩], arrived := x.arrived + estimate }
        (s, true)

/-- The item in progress at the end of a slice: removed where finished, else saved (R217). -/
def Context.endSlice (x : Context) (finished : Bool) : Context :=
  match x.items with
  | [] => x
  | i :: rest => if finished then { x with items := rest } else { x with items := { i with begun := true } :: rest }

/-- SLICE_END (R217, R218): an item that would write into a full outbox ends its slice at once, and the slice is offered. -/
def execSliceEnd (e : Fin 16) (finished : Bool) (written : Nat) (s : State) : Result :=
  .next <|
    let n := e.val
    let x := s.engine n
    if !s.powered .core || !s.engineRuns n || 500 ≤ x.slice then s
    else
      match x.serving with
      | none => s.startSlice n (x.slice + 1)
      | some c =>
        let full := decide (16384 < x.outbox + written)
        let s := match mget s.eng.contexts (256 * n + c) with
          | some y => s.setContext (256 * n + c) (y.endSlice (finished && !full))
          | none => s
        if full then (s.bump (Cnt.ENGINE_P9_WAITS n)).offerSlice n (some c)
        else
          (s.updEngine n (fun x => { x with outbox := x.outbox + written, worked := x.worked + 1 })).startSlice n (x.slice + 1)

/-- ITEM_ABANDONED (R217): items that have crossed 80 boundaries go; the station block is told. -/
def execItemAbandoned (context : Fin 4096) (s : State) : Result :=
  .next <|
    match mget s.eng.contexts context.val with
    | none => s
    | some x =>
      let old := x.items.filter (fun i => decide (80 ≤ i.crossed))
      if old = [] then s
      else
        let s := s.setContext context.val { x with items := x.items.filter (fun i => !decide (80 ≤ i.crossed)) }
        s.abandon context.val old.length

/-- Every item of an engine abandoned (R221). -/
def State.abandonEngine (s : State) (e : Nat) : State :=
  forAll (s.contextsOf e) s (fun s c =>
    (s.setContext (256 * e + c.1) { c.2 with items := [] }).abandon (256 * e + c.1) c.2.items.length)

/-- ENGINE_FAULT (R221, R230): the third fault within 8,000 rounds disables the engine. FAULT and HUB_FAULT tell it too (R483, R491). -/
def State.engineFaults (s : State) (e : Nat) : State :=
  let s := s.abandonEngine e
  let s := s.set ⟨Reg.ENG_RUN, e, 1⟩ 0
  let s := s.bump (Cnt.ENGINE_RESTARTS e)
  let f := ((s.engine e).faults.filter (fun r => decide (s.round < r + 8000))) ++ [s.round]
  let off := decide (3 ≤ f.length)
  let s := s.updEngine e (fun x => { x with faults := f, replace := off, serving := none, outbox := 0 })
  let s := s.when off (fun s => s.set ⟨Reg.ENG_RUN, 16 + e, 1⟩ 1)
  let s := s.notice 0x8060 [e, f.length, if off then 1 else 0]
  (s.set Reg.RESET_CAUSE_FAULT 3).notice 0x80F2 [3, e]

def execEngineFault (e : Fin 16) (s : State) : Result := .next (if s.powered .core then s.engineFaults e.val else s)

/-- ENGINE_RETURN (R221): the reload ends; a disabled engine stays out, and reloads wait for that of IMAGE (R460). -/
def execEngineReturn (e : Fin 16) (s : State) : Result :=
  .next <|
    if s.powered .core && !s.boot.reloading && !bitOf (s.get Reg.ENG_RUN_DISABLED) e.val then s.set ⟨Reg.ENG_RUN, e.val, 1⟩ 1 else s

/-- The contexts of an engine that was disabled placed again, or their boxes drained (R221). -/
def State.replaceContexts (s : State) (e : Nat) : State :=
  if (s.engine e).replace then
    let s := s.updEngine e (fun x => { x with replace := false })
    forAll (s.contextsOf e) s (fun s c =>
      let s := ({ s with eng := { s.eng with contexts := mdel s.eng.contexts (256 * e + c.1) } }).syncContext (256 * e + c.1)
      let s := s.syncEngine e
      match s.placeContext c.2.kind c.2.box with
      | some s => s
      | none => if (s.box c.2.box).state = .opened ∨ (s.box c.2.box).state = .opening then s.setBoxState c.2.box .draining else s)
  else s

/-- Items cross a boundary (R217). [Log entry 98: DEDUCED] -/
def State.carryItems (s : State) : State :=
  forAll s.eng.contexts s (fun s c =>
    if c.2.items = [] then s
    else
      let s := s.setContext c.1 { c.2 with items := c.2.items.map (fun i => { i with crossed := i.crossed + 1 }) }
      s.bump (Cnt.ENGINE_ITEMS_CARRIED (c.1 / 256)) c.2.items.length)

/-- The contexts of a new round (R212, R215): arrivals are counted afresh, and a context created before the last seal mark may own slices. -/
def State.contextsTurn (s : State) : State :=
  { s with eng := { s.eng with contexts := s.eng.contexts.map (fun c => (c.1, { c.2 with arrived := 0, wait := c.2.wait - 1 })) } }

/-- The postmaster's load of the round that ends (R219, R228). [Log entry 14: DESIGN CHOICE] -/
def State.loadAtBoundary (s : State) : State :=
  let d := s.draw
  let n := (Config.postmasterLoad d.1).val
  let s := d.2.set Reg.PM_STATUS_LOAD_PCT n
  if s.get Reg.PM_STATUS_PEAK_PCT < n then s.set Reg.PM_STATUS_PEAK_PCT n else s

/-- Whether a build is late (R77). -/
def State.drawLate (s : State) : Bool × State := (Config.buildLate s.draw.1, s.draw.2)

/-- The slice tables at a boundary (R77, R215): the sealed ones come into force, in every engine or, where the seal was late or never came, in
none. -/
def State.tablesTurn (s : State) : State :=
  let sealed := (List.range 16).any (fun e => (s.engine e).next.isSome)
  let d := if sealed then s.drawLate else (true, s)
  let s := d.2.when d.1 (fun s => s.bump Cnt.ENGINE_TBL_SEAL_MISSED)
  forAll (List.range 16) s (fun s e => s.updEngine e (fun x => { x with table := if d.1 then x.table else x.next.getD x.table, next := none, live := true }))

/-- The engines at a boundary: use of the round that ends, items carried, tables in force, the first slice. A round of fewer than
125,000 clocks has cut slice 499 (R211); `l` is L of the round that ends. -/
def State.enginesAtBoundary (s : State) (l : Nat) : State :=
  let short := decide (l < 125000 * 65536)
  let s := s.carryItems.contextsTurn.loadAtBoundary
  let s := { s with eng := { s.eng with p9Used := 0 } }
  let s := (forAll (List.range 16) s (fun s e => (s.replaceContexts e).syncEngine e)).tablesTurn
  forAll (List.range 16) s (fun s e =>
    let x := s.engine e
    let s := s.when (short && s.engineRuns e) (fun s => s.bump (Cnt.ENGINE_SLICES_CUT e))
    let s := s.updEngine e (fun x => { x with worked := 0 })
    let s := (s.set (Reg.ENG_USE_WORKED e) x.worked).set (Reg.ENG_USE_BORROWED e) (x.table.filter (fun d => d.2 == 1)).length
    if s.engineRuns e then s.startSlice e 0 else s.updEngine e (fun x => { x with slice := 0, serving := none }))

/-- D of a context at the collection mark (R212). -/
def State.sliceDemand (s : State) (c : Nat) (x : Context) : Nat :=
  let q := (x.items.map (·.estimate)).sum
  let r := if x.wait = 0 then slicesFrom (s.engine (c / 256)).table (c % 256) 400 else 0
  min (s.kindCeil x.kind) ((4 * q + x.arrived - 4 * r + 3) / 4)

/-- The engines at the collection mark: the speculative tables stand from the demand before, or the tables in force where the build is late;
then demand is sampled (R77, R212, R215). -/
def State.enginesAtCollection (s cfg : State) : State :=
  let d := s.drawLate
  let s := d.2.when d.1 (fun s => s.bump Cnt.ENGINE_TBL_SPEC_LATE)
  let s := forAll (List.range 16) s (fun s e => s.updEngine e (fun x => { x with spec := if d.1 then x.table else (State.buildTable cfg e).1 }))
  forAll s.eng.contexts s (fun s c => s.setContext c.1 { c.2 with demand := s.sliceDemand c.1 c.2 })

/-- Entries that differ between two tables by owner or GRANT (R224). [Log entry 78: DESIGN CHOICE] -/
def entriesDiffering (a b : SliceTable) : Nat := ((List.range 500).filter (fun k => entryCode (entryAt a k) != entryCode (entryAt b k))).length

/-- The engines at the seal mark: each table sealed from the configuration of the next round, or the speculative one where the patch is late
(R77, R215, R224). -/
def State.enginesAtSeal (s cfg : State) : State :=
  let d := s.drawLate
  let s := d.2.when d.1 (fun s => s.bump Cnt.ENGINE_TBL_PATCH_LATE)
  forAll (List.range 16) s (fun s e =>
    let r := if d.1 then ((s.engine e).spec, (s.engine e).leftover) else State.buildTable cfg e
    let n := entriesDiffering r.1 (s.engine e).spec
    (s.updEngine e (fun x => { x with next := some r.1, leftover := r.2 })).bump Cnt.ENGINE_SLICES_REPATCHED n)

end Machine
end Sys2Proof
end

