-- ==== Sys2Proof/Machine/Registered.lean ====
section
/-!
DEFINITION. Registered delivery (R231 to R266): offers and acceptance, pigeonholes and passing, receipts and returns, dead letters,
sending and replay, apportionment, and its commands.
-/
namespace Sys2Proof
namespace Machine

def State.setReg (s : State) (r : RegSt) : State := { s with reg := r }

/-- A receipt of a receive side falls due (R247). -/
def State.receiptDue (s : State) (b : Nat) : State :=
  if s.reg.receiptsDue.contains b then s else s.setReg { s.reg with receiptsDue := s.reg.receiptsDue ++ [b] }

/-- An offer's fate (R235): refused with a status, or an entry whose write has started. -/
inductive Offer
  | refused (st : Status)
  | entry (k : Nat)
deriving DecidableEq, Repr

/-- Offers accepted this round and those whose write is under way. [Log entry 102: DESIGN CHOICE] -/
def State.acceptsNow (s : State) : Nat := s.reg.accepts + mcount s.reg.entries (fun e => e.writing)

/-- R235 on an offer of a payload to a box, with its origin fields (R237). [Log entry 102: DESIGN CHOICE] -/
def State.offer (s : State) (b : Nat) (payload : List Byte) (origin path tag oseq : Nat) : Offer × State :=
  if !s.skUp then (.refused .hwFault, s.bump Cnt.REGISTRY_REFUSED_FAULT)
  else if payload.length < 1 ∨ 192 < payload.length then (.refused .badLength, s)
  else
    match s.sendSide b with
    | none => (.refused .notPermitted, s)
    | some r =>
      if (s.box b).state ≠ .opened then (.refused .notPermitted, s)
      else if s.reg.scanning then (.refused .busyRetry, s)
      else if 500 ≤ s.acceptsNow then (.refused .busyRetry, s.bump Cnt.REGISTRY_REFUSED_RATE)
      else if s.limitOf r ≤ s.used b then (.refused .busyRetry, s.bump Cnt.REGISTRY_REFUSED_WINDOW)
      else if r.reserveOf ≤ s.used b ∧ s.regPoolFree = 0 then (.refused .noResource, s.bump Cnt.REGISTRY_REFUSED_POOL)
      else
        match s.takeEntryNo with
        | none => (.refused .noResource, s.bump Cnt.REGISTRY_REFUSED_POOL)
        | some (k, s) =>
          let e : Entry :=
            { dead := false, writing := true, forwarded := false, origin := origin, box := b, ownInc := r.ownInc, seq := r.nextSeq,
              dstPc := r.peerPc, dstBox := r.peerBox, dstInc := r.peerInc, acceptedAt := s.now, dlStatus := 0, dlOutcome := 0,
              fwdPc := 0, fwdBox := 0, fwdInc := 0, originPath := path, originTag := tag, originSeq := oseq, payload := payload,
              lastSent := none, sentSince := true, order := s.reg.order, returned := none }
          let s := s.setReg { s.reg with entries := mput s.reg.entries k e, order := s.reg.order + 1 }
          let s := s.updBookRec b (fun r => { r with nextSeq := nextSeq r.nextSeq, started := true })
          (.entry k, s.syncRegistry b)

/-- A pigeonhole's message by box and sequence. -/
def State.pigeon (s : State) (b q : Nat) : Option Pigeon := s.reg.pigeons.find? (fun p => p.box == b && p.seq == q)

/-- A pigeonhole taken where one is free for the arrival (R243): the 256 in-order ones are kept from the others. -/
def State.holdPigeon (s : State) (b q srcPc srcBox ingress : Nat) (gap again : Bool) (payload : List Byte) : Option State :=
  let l := s.reg.pigeons
  let apart := (l.filter (fun p => p.apart)).length
  if 4096 ≤ l.length || ((gap || again) && decide (3840 ≤ apart)) then none
  else
    let a := min 1 (s.minCells ingress 7 - s.minUsed ingress 7)
    let p : Pigeon := ⟨b, q, srcPc, srcBox, ingress, gap, again, gap || again, again, payload, a⟩
    some (((s.setReg { s.reg with pigeons := l ++ [p] }).charge ingress 7 a (1 - a)).syncRegistry b)

/-- The pigeonholes of a HOST box from the oldest message not acknowledged onwards, without a gap, as far as messages are passed (R245). The
number bounds them. -/
def State.runFrom (s : State) (b thru q : Nat) : Nat → List Pigeon
  | 0 => []
  | n + 1 =>
    match s.pigeon b q with
    | some p => if seqLe q thru then p :: s.runFrom b thru (nextSeq q) n else []
    | none => []

/-- Messages of a HOST box that wait for their acknowledgement (R244, R245), in sequence order. What a restart has taken is waited for. -/
def State.waitingOf (s : State) (b : Nat) : List Pigeon :=
  match s.book b with
  | some r => (s.runFrom b r.passedThru (nextSeq r.consumedThru) 4096).filter (fun p => p.payload != [])
  | none => []

/-- Void letters of a HOST box that come next are consumed (R244, R256): they are handed to no one. The number bounds them. [Log entry 105: DESIGN CHOICE] -/
def State.stepVoids (s : State) (b : Nat) : Nat → State
  | 0 => s
  | n + 1 =>
    match s.book b with
    | none => s
    | some r =>
      match s.pigeon b (nextSeq r.consumedThru) with
      | none => s
      | some p =>
        if r.host && p.payload == [] && seqLe p.seq r.passedThru then
          (((s.setBookRec b { r with consumedThru := p.seq }).emptyPigeon p).receiptDue b).stepVoids b n
        else s

/-- LETTERS_WAITING (R266). -/
def State.tellWaiting (s : State) (b : Nat) : State :=
  let n := (s.waitingOf b).length
  if n = 0 then s.setReg { s.reg with waiting := mdel s.reg.waiting b }
  else (s.setReg { s.reg with waiting := mput s.reg.waiting b s.round }).notice 0x8072 [b, n]

/-- One message passed (R244): PASSED_THRU written; a void letter is consumed with the same write where nothing before it waits. [Log entry 105: DESIGN CHOICE] -/
def State.passOne (s : State) (b : Nat) (r : BookRec) (p : Pigeon) : State :=
  let done := p.payload == [] && r.consumedThru == r.passedThru
  let s := s.setBookRec b { r with passedThru := p.seq, consumedThru := if done then p.seq else r.consumedThru }
  let s := s.bump Cnt.REGISTRY_PASSED
  if done then (s.emptyPigeon p).receiptDue b
  else
    let s := s.setReg { s.reg with pigeons := s.reg.pigeons.map (fun x => if x.box = b ∧ x.seq = p.seq then { x with gap := false } else x) }
    s.syncRegistry b

/-- Every pigeonholed message from P + 1 onwards passed without a gap (R243): at a HOST box all of them, at a bridge box void
letters alone, since the bridge passes a message as it starts its transaction. The number bounds the messages. [Log entry 105: DESIGN CHOICE] -/
def State.passAll (s : State) (b : Nat) : Nat → State
  | 0 => s
  | n + 1 =>
    match s.book b with
    | none => s
    | some r =>
      match s.pigeon b (nextSeq r.passedThru) with
      | none => s
      | some p =>
        if r.host then
          let first := (s.waitingOf b).length == 0
          let s := s.passOne b r p
          let s := if first && p.payload != [] then s.tellWaiting b else s
          s.passAll b n
        else if p.payload = [] ∧ r.passedThru = r.consumedThru then (s.passOne b r p).passAll b n
        else s

/-- Consumption by a bridge (R244, R331): CONSUMED_THRU written, a receipt due, and what may pass next passed. -/
def State.consumeBox (s : State) (b : Nat) : State :=
  ((s.updBookRec b (fun r => { r with consumedThru := r.passedThru })).receiptDue b).passAll b 1024

/-- A bridge box passes its next message as its transaction starts (R244, R246, R331): the payload, where it may pass now. [Log entry 109: DESIGN CHOICE] -/
def State.passToBridge (s : State) (b q : Nat) : Option (List Byte × State) :=
  match s.book b with
  | none => none
  | some r =>
    if r.host || !r.recv || r.passedThru != r.consumedThru || q != nextSeq r.passedThru || !s.skUp then none
    else
      match s.pigeon b q with
      | none => none
      | some p =>
        let s := (s.setBookRec b { r with passedThru := q }).bump Cnt.REGISTRY_PASSED
        some (p.payload, (s.emptyPigeon p).emit (.deliver b p.srcPc p.srcBox q p.payload))

/-- The forwarding address held for an incarnation of a box (R149). -/
def State.fwdFor (s : State) (b inc : Nat) : Option (Nat × Nat × Nat) :=
  ((s.box b).fwd.filter (fun f => f.inc == inc)).map (fun f => (f.pc, f.box, f.fwdInc))

/-- A RETURN to the source of an arrival falls due (R250), counted in RETURNED_SENT: KNOWN says that the record of the incarnation is held and
the sequence is after its PASSED_THRU; a record without a receive side has passed nothing (R243). -/
def State.returnTo (s : State) (srcPc srcBox dstBox seq : Nat) (rec? : Option BookRec) (fwd : Option (Nat × Nat × Nat)) : State :=
  let known := (rec?.map (fun r => !r.recv || serialBefore 32 r.passedThru seq)).getD false
  let d : ReturnDue := ⟨srcPc, srcBox, (rec?.map (·.peerInc)).getD 0, dstBox, seq, known, fwd⟩
  (s.setReg { s.reg with returnsDue := s.reg.returnsDue ++ [d] }).bump Cnt.TUNNEL_RETURNED_SENT

/-- A message that its record shows as passed (R243, R246): at a HOST box where it waits for its acknowledgement it is presented again, otherwise
dropped; the sender gets a receipt, or a RETURN of the sequence in doubt. -/
def State.arriveAgain (s : State) (ingress srcPc srcBox b seq : Nat) (r : BookRec) (payload : List Byte) : State :=
  let s :=
    if r.host && serialBefore 32 r.consumedThru seq && (s.pigeon b seq).isNone then
      match s.holdPigeon b seq srcPc srcBox ingress false true payload with
      | some t =>
        let first := (s.waitingOf b).length == 0
        let t := ((t.activity 0x13).bump Cnt.REGISTRY_REPRESENTED).stepVoids b 1024
        t.when (first && (t.waitingOf b).length != 0) (fun s => s.tellWaiting b)
      | none => s.bump Cnt.REGISTRY_PIGEONHOLES_FULL
    else s.bump Cnt.REGISTRY_DUPLICATES
  if r.doubtValid && r.doubtSeq == seq then s.returnTo srcPc srcBox b seq (some r) (s.fwdFor b r.ownInc) else s.receiptDue b

/-- A REGISTERED DATA arrival at this hub (R243). Arrivals are neither recorded nor passed while the switch–keeper link is down
(R257). [Log entries 103: DEDUCED, 104: DESIGN CHOICE] -/
def State.arriveData (s : State) (ingress srcPc srcBox b inc seq : Nat) (payload : List Byte) : State :=
  let x := s.box b
  let live := x.serves && x.inc == inc
  let rec? := (s.book b).filter (fun r => r.ownInc == inc)
  if !s.skUp then s
  else
    match rec? with
    | none => s.returnTo srcPc srcBox b seq none (s.fwdFor b inc)
    | some r =>
      if live && !r.recv then s.returnTo srcPc srcBox b seq rec? none
      else if !serialBefore 32 r.passedThru seq then s.arriveAgain ingress srcPc srcBox b seq r payload
      else if !live then s.returnTo srcPc srcBox b seq rec? (s.fwdFor b inc)
      else
        let d := (seq + 2 ^ 32 - r.passedThru) % 2 ^ 32
        if d < 1025 then
          if (s.pigeon b seq).isSome then s.bump Cnt.REGISTRY_DUPLICATES
          else
            match s.holdPigeon b seq srcPc srcBox ingress (d != 1) false payload with
            | none => s.bump Cnt.REGISTRY_PIGEONHOLES_FULL
            | some s => ((s.activity 0x13).when (d != 1) (fun s => s.bump Cnt.REGISTRY_HELD_OUT_OF_ORDER)).passAll b 1024
        else s.bump Cnt.REGISTRY_OUT_OF_WINDOW

/-- HELD entries of a send side's incarnation in sequence order. -/
def State.heldEntries (s : State) (b inc : Nat) : List (Nat × Entry) :=
  sortBy (fun (x y : Nat × Entry) => seqLe x.2.seq y.2.seq)
    (s.reg.entries.filter (fun e => e.2.box == b && e.2.ownInc == inc && !e.2.dead && !e.2.writing))

/-- A returned entry takes its place in the tunnel its forwarding address names, where a send side of this hub leads there with
room (R251). -/
def State.forwardEntry (s : State) (k : Nat) (e : Entry) (a : Nat × Nat × Nat) : Option State :=
  let side := s.sendSides.find? (fun r =>
    (s.box r.1).state == .opened && r.2.peerPc == a.1 && r.2.peerBox == a.2.1 && r.2.peerInc == a.2.2)
  match side with
  | none => none
  | some (b, r) =>
    if 1 ≤ s.regPoolFree ∨ s.used b < r.reserveOf then
      let s := s.updEntryReg k (fun e => { e with
        box := b, ownInc := r.ownInc, seq := r.nextSeq, dstPc := r.peerPc, dstBox := r.peerBox, dstInc := r.peerInc, forwarded := true,
        returned := none, lastSent := none, sentSince := true, order := s.reg.order })
      let s := s.setReg { s.reg with order := s.reg.order + 1 }
      let s := s.updBookRec b (fun r => { r with nextSeq := nextSeq r.nextSeq, started := true })
      some (((s.bump Cnt.REGISTRY_FORWARDED).syncRegistry e.box).syncRegistry b)
    else none

/-- Returned entries of one tunnel move in sequence order: those at its head that wait for it (R251). The number bounds them. [Log entry 106: DEDUCED] -/
def State.moveReturned (s : State) (b inc : Nat) : Nat → State
  | 0 => s
  | n + 1 =>
    match s.heldEntries b inc with
    | (k, e) :: _ =>
      match e.returned with
      | some a =>
        let s := match s.forwardEntry k e a with
          | some s => s
          | none => s.makeDead k Status.returned.code 0 (some a)
        s.moveReturned b inc n
      | none => s
    | [] => s

/-- A RETURN applied (R251); it is an MRAM write, which the keeper must be reached for (R16). [Log entry 106: DEDUCED] -/
def State.applyReturn (s : State) (b inc seq : Nat) (known : Bool) (fwd : Option (Nat × Nat × Nat)) : State :=
  if !s.skUp then s
  else
  match s.reg.entries.find? (fun e => e.2.box == b && e.2.seq == seq && !e.2.dead && !e.2.writing && (inc == 0 || e.2.ownInc == inc)) with
  | none => s.bump Cnt.REGISTRY_STALE_RETURNS
  | some (k, e) =>
    let s := s.bump Cnt.REGISTRY_RETURNS_RECEIVED
    let s := match fwd with
      | some a =>
        if known && !e.forwarded then s.updEntryReg k (fun e => { e with returned := some a })
        else s.makeDead k Status.returned.code (if known then 0 else 1) (some a)
      | none => s.makeDead k Status.returned.code (if known then 0 else 1) none
    s.moveReturned b e.ownInc 1024

/-- A delivery receipt applied (R248). RELEASED_THRU lies in MRAM, so nothing is written while the keeper is out of reach. [Log entry 108: DESIGN CHOICE] -/
def State.applyReceipt (s : State) (b inc seq passedThru : Nat) (doubt : Option Nat) : State :=
  if !s.skUp then s
  else
    match s.sendSide b with
    | none => s.bump Cnt.REGISTRY_STALE_RETURNS
    | some r =>
      if r.ownInc ≠ inc ∨ (seq ≠ 0 ∧ !serialBefore 32 seq r.nextSeq) then s.bump Cnt.REGISTRY_STALE_RETURNS
      else
        let s := match doubt with
          | some q =>
            match (s.heldEntries b inc).find? (fun (e : Nat × Entry) => e.2.seq == q) with
            | some (k, _) => s.makeDead k Status.timeout.code 3 none
            | none => s
          | none => s
        let s := s.updBookRec b (fun r => { r with farPassed := passedThru })
        let s :=
          if serialBefore 32 r.releasedThru seq then
            let gone := ((s.heldEntries b inc).filter (fun e => seqLe e.2.seq seq)).map (·.1)
            let s := s.updBookRec b (fun r => { r with releasedThru := seq })
            (forAll gone s (fun s k => s.freeEntry k)).bump Cnt.REGISTRY_RELEASED gone.length
          else s
        let s := if r.notify ∧ !s.reg.notify.contains b then s.setReg { s.reg with notify := s.reg.notify ++ [b] } else s
        s.moveReturned b inc 1024

/-- Envelopes a registered send takes of the round's 1,024 (R239): none within the hub, one where only one ring port is ACTIVE. -/
def State.twinCost (s : State) (dstPc : Nat) : Nat :=
  if dstPc = s.postcode then 0
  else if s.active .a != s.active .b then 1
  else 2

/-- The Registry may issue an envelope now (R239): within the round's limit, and P9 does not hold TC7. Within the hub none is needed. -/
def State.mayIssue (s : State) (dstPc : Nat) : Bool :=
  let n := s.twinCost dstPc
  n == 0 || (decide (s.reg.issued + n ≤ 1024) && !s.holds 9 7)

/-- A registered envelope as a unit of P9 (R239, R134). -/
def twinUnit (type srcPc srcBox dstPc dstBox dstInc seq : Nat) (payload : List Byte) (side : Bool) : UnitIn :=
  { ingress := 9, cls := .registered, type := Fin.ofNat 3 type, kind := .field, colour := .green, payload := payload, seg := 0, twin := true,
    side := side, turned := false, first := true, last := true, hops := 320, srcPc := BitVec.ofNat 16 srcPc, srcBox := Fin.ofNat 4096 srcBox,
    dstPc := BitVec.ofNat 16 dstPc, dstBox := Fin.ofNat 4096 dstBox, dstInc := Fin.ofNat 4096 dstInc, seqStamp := BitVec.ofNat 32 seq,
    checkOk := true }

/-- A twin pair sent to another hub, or its one twin where only one ring port is ACTIVE (R134): units of P9. -/
def State.sendTwins (s : State) (type srcBox dstPc dstBox dstInc seq : Nat) (payload : List Byte) : State :=
  let n := s.twinCost dstPc
  let s := s.setReg { s.reg with issued := s.reg.issued + n }
  let u := twinUnit type s.postcode srcBox dstPc dstBox dstInc seq payload
  if n = 1 then (s.bump Cnt.TOPO_TWIN_SINGLE).postUnit (u (!s.active .a))
  else (s.postUnit (u false)).postUnit (u true)

/-- Why an entry is sent. -/
inductive SendKind | first | again | replay
deriving DecidableEq, Repr

/-- A HELD entry sent (R239, R240, R254); within the hub it passes from entry to receipt book. -/
def State.sendEntry (s : State) (k : Nat) (why : SendKind) : State :=
  match mget s.reg.entries k with
  | none => s
  | some e =>
    let s := s.updEntryReg k (fun e => { e with lastSent := some 0, sentSince := true })
    let s := match why with
      | .first => s.bump Cnt.REGISTRY_FIRST_SENDS
      | .again => s.bump Cnt.REGISTRY_RESENDS
      | .replay => s.bump Cnt.REGISTRY_REPLAYED
    if e.dstPc = s.postcode then s.arriveData 9 s.postcode e.box e.dstBox e.dstInc e.seq e.payload
    else s.sendTwins 0 e.box e.dstPc e.dstBox e.dstInc e.seq e.payload

/-- A receipt sent for a receive side (R247). -/
def State.sendReceipt (s : State) (b : Nat) : State :=
  match s.book b with
  | none => s
  | some r =>
    let s := s.bump Cnt.REGISTRY_RECEIPTS_SENT
    let q := if r.doubtValid then some r.doubtSeq else none
    if r.peerPc = s.postcode then s.applyReceipt r.peerBox r.peerInc r.consumedThru r.passedThru q
    else s.sendTwins 1 b r.peerPc r.peerBox r.peerInc r.consumedThru
      (bigBytes 4 r.passedThru ++ bigBytes 4 r.doubtSeq ++ bigBytes 1 (if r.doubtValid then 1 else 0) ++ List.replicate 7 0)

/-- A RETURN sent (R250). -/
def State.sendReturn (s : State) (d : ReturnDue) : State :=
  let f := d.fwd.getD (0, 0, 0)
  if d.dstPc = s.postcode then s.applyReturn d.dstBox d.dstInc d.seq d.known d.fwd
  else s.sendTwins 2 d.srcBox d.dstPc d.dstBox d.dstInc d.seq
    (bigBytes 1 Status.returned.code ++ bigBytes 1 ((if d.known then 1 else 0) + (if d.fwd.isSome then 2 else 0)) ++ bigBytes 2 f.1 ++
     bigBytes 2 f.2.1 ++ bigBytes 2 f.2.2)

/-- Receipts and returns that are due, as far as the round's limit goes (R239). -/
def State.sendAnswers (s : State) : State :=
  let due := s.reg.receiptsDue
  let s := s.setReg { s.reg with receiptsDue := [] }
  let s := forAll due s (fun s b =>
    if s.mayIssue (((s.book b).map (·.peerPc)).getD 0) then s.sendReceipt b else s.receiptDue b)
  let rets := s.reg.returnsDue
  let s := s.setReg { s.reg with returnsDue := [] }
  forAll rets s (fun s d =>
    if s.mayIssue d.dstPc then s.sendReturn d else s.setReg { s.reg with returnsDue := s.reg.returnsDue ++ [d] })

/-- An entry that has never been sent. -/
def Entry.unsent (e : Entry) : Bool := !e.dead && !e.writing && e.lastSent.isNone && e.sentSince

/-- First sends in acceptance order (R239). -/
def State.sendFirsts (s : State) : State :=
  let l := sortBy (fun (x y : Nat × Entry) => decide (x.2.order ≤ y.2.order)) (s.reg.entries.filter (fun e => e.2.unsent))
  forAll l s (fun s e => if s.mayIssue e.2.dstPc then s.sendEntry e.1 .first else s)

/-- Entries that a replay has still to send. -/
def State.replayLeft (s : State) : Nat := mcount s.reg.entries (fun e => !e.dead && !e.writing && !e.sentSince)

/-- Replay may go on (R254): from the first boundary at which the timing state is LOCKED, HOLDOVER or MASTER. -/
def State.replays (s : State) : Bool := s.reg.replaying && !s.reg.scanning && decide (2 ≤ s.timing)

/-- A HELD entry is due to be sent again: its resend interval is over (R240), or a replay has still to send it (R254). -/
def State.entryDue (s : State) (e : Entry) : Bool :=
  !e.dead && !e.writing &&
  (if e.sentSince then (match e.lastSent with | some n => decide (s.get Reg.REG_CFG_RESEND_ROUNDS ≤ n) | none => false) else s.replays)

/-- The place of an entry among those due: its rank in its box, then the box in rotation (R239). -/
def State.dueKey (s : State) (e : Entry) : Nat × Nat :=
  (mcount s.reg.entries (fun x => x.box == e.box && s.entryDue x && serialBefore 32 x.seq e.seq), (e.box + 4096 - s.reg.rotation) % 4096)

/-- The entries due to be sent again, in the order of R239. -/
def State.dueEntries (s : State) : List (Nat × Entry) :=
  let keyed := (s.reg.entries.filter (fun e => s.entryDue e.2)).map (fun e => (s.dueKey e.2, e))
  (sortBy (fun (x y : (Nat × Nat) × Nat × Entry) => !earlier y.1 x.1) keyed).map (·.2)

/-- An entry due is sent again, where it may be: at most 500 replayed ones in a round (R254). -/
def State.sendDueEntry (s : State) (e : Nat × Entry) : State :=
  if !s.mayIssue e.2.dstPc || (!e.2.sentSince && decide (500 ≤ s.reg.replayedNow)) then s
  else
    let s := s.setReg { s.reg with rotation := (e.2.box + 1) % 4096 }
    if e.2.sentSince then s.sendEntry e.1 .again
    else
      let s := s.setReg { s.reg with replayed := s.reg.replayed + 1, replayedNow := s.reg.replayedNow + 1 }
      s.sendEntry e.1 .replay

/-- A replay that has sent every HELD entry once ends (R254). -/
def State.replayEnds (s : State) : State :=
  if !s.replays then s
  else
    let s := s.set Reg.REPLAY_LEFT s.replayLeft
    if s.replayLeft = 0 then
      ((s.setReg { s.reg with replaying := false }).setFlag Reg.REPLAY_ACTIVE false).notice 0x8074 [s.reg.replayed]
    else s

/-- Resends and replays (R239, R240, R254). -/
def State.sendAgain (s : State) : State := (forAll s.dueEntries s (fun s e => s.sendDueEntry e)).replayEnds

/-- Void letters take entries as these come free (R256); one whose tunnel has ended goes. [Log entry 232: DESIGN CHOICE] -/
def State.placeVoids (s : State) : State :=
  forAll s.reg.voids (s.setReg { s.reg with voids := [] }) (fun s v =>
    if ((s.sendSide v.box).filter (fun r => r.ownInc == v.ownInc)).isNone then s
    else
      match s.takeEntryNo with
      | none => s.setReg { s.reg with voids := s.reg.voids ++ [v] }
      | some (k, s) =>
        (s.setReg { s.reg with entries := mput s.reg.entries k { v with order := s.reg.order }, order := s.reg.order + 1 }).syncRegistry v.box)

/-- Lists of at most `n` elements, in order. -/
def chunks {α : Type} (n : Nat) : Nat → List α → List (List α)
  | 0, _ => []
  | k + 1, l => if l.isEmpty then [] else l.take n :: chunks n k (l.drop n)

/-- DEAD_LETTER for a box: incarnation, then index, sequence, status and outcome of each of the round's (R266); 13 of them fill the 256 bytes
of a notice (R360), so more go in further notices. [Log entry 25: DESIGN CHOICE] -/
def State.tellDead (s : State) (b : Nat) (l : List (Nat × Entry)) : State :=
  forAll (chunks 13 l.length l) s (fun s l => s.notice 0x8070 ([b, ((l.head?).map (·.2.ownInc)).getD 0] ++ l.flatMap (fun e => [e.1, e.2.seq, e.2.dlStatus, e.2.dlOutcome])))

/-- The Registry at a boundary: apportionments take force, the round's acceptances show, notices, then what is to be sent. [Log entry 108: DESIGN CHOICE] -/
def State.registryAtBoundary (s : State) : State :=
  let s := forAll s.reg.book s (fun s e =>
    match e.2.next with
    | some (r, m, n) =>
      ((s.setBookRec e.1 { e.2 with apportioned := true, reserve := r, limit := m, notify := n, next := none }).syncWindow e.1).syncRegistry e.1
    | none => s)
  let a := s.reg.accepts
  let s := s.set Reg.REG_RATE_ACCEPTS a
  let s := if s.get Reg.REG_RATE_PEAK < a then s.set Reg.REG_RATE_PEAK a else s
  let dead := s.reg.newDead.filterMap (fun k => (mget s.reg.entries k).map (fun e => (k, e)))
  let tell := s.reg.notify
  let s := s.setReg { s.reg with
    accepts := 0, issued := 0, replayedNow := 0, newDead := [], notify := []
    entries := s.reg.entries.map (fun (e : Nat × Entry) => (e.1, { e.2 with lastSent := e.2.lastSent.map (· + 1) })) }
  let s := forAll (dead.map (·.2.box)).eraseDups s (fun s b => s.tellDead b (dead.filter (fun e => e.2.box == b)))
  let s := forAll tell s (fun s b => s.notice 0x8071 [b, ((s.book b).map (·.releasedThru)).getD 0])
  if !s.skUp then s
  else s.placeVoids.sendAnswers.sendFirsts.sendAgain

/-- The receipt data of POST_REGISTERED (R365). -/
def Entry.postData (e : Entry) (k : Nat) : List Byte := leBytes 4 e.seq ++ leBytes 2 k ++ leBytes 2 0 ++ leBytes 8 e.acceptedAt

/-- POST_REGISTERED (R235, R237): an execution after a restart finds the entry it wrote and completes with it. [Log entry 107: DESIGN CHOICE] -/
def execPostRegistered (h : CmdHdr) (box : BitVec 16) (payload : Payload) (s : State) : Result :=
  .next <| s.runOpcode h 0x0301 (leBytes 2 box.toNat ++ leBytes 1 payload.length ++ [0] ++ payload) (h.paramLen == 4 + payload.length) (fun i s =>
    let since := ((mget s.cmd.book i).map (·.enteredAt)).getD s.now
    match s.reg.entries.find? (fun e => e.2.origin == 0 && e.2.box == box.toNat && e.2.originPath == h.path.val && e.2.originTag == h.tag.toNat &&
        e.2.originSeq == h.hostSeq.toNat && decide (0 ≤ postmarkDiff e.2.acceptedAt since)) with
    | some (k, e) => if e.writing then (s, .waits k) else (s, .done .accepted (e.postData k))
    | none =>
      match s.offer box.toNat payload 0 h.path.val h.tag.toNat h.hostSeq.toNat with
      | (.refused st, s) => (s, .done st [])
      | (.entry k, s) => (s, .waits k))

/-- A Modbus write that waits for a Registry entry is answered (R327). -/
def State.answerWriter (s : State) (k code : Nat) : State :=
  match mget s.bridge.answers k with
  | some (bus, unit, fn) =>
    ({ s with bridge := { s.bridge with answers := mdel s.bridge.answers k } }).emit (.bus 8 (4 + bus) 2 [unit, fn, code])
  | none => s

/-- An entry write that failed (R235, R236): the offer leaves no trace. Its sequence is given out again; where a later one has been given out
already, a void letter fills it, so that no receiver waits for it. [Log entry 233: DESIGN CHOICE] -/
def State.writeFailed (s : State) (k : Nat) (e : Entry) : State :=
  let s := s.freeEntry k
  match s.book e.box with
  | some r => if r.ownInc = e.ownInc ∧ r.nextSeq = nextSeq e.seq then s.setBookRec e.box { r with nextSeq := e.seq } else s.fillSeq e
  | none => s

/-- ENTRY_WRITE_DONE (R235, R236): the offer is accepted, in the order of acceptance, and first sent, or its entry is free again. The answer a
local master awaits follows (R327). -/
def execEntryWriteDone (entry : Fin 8192) (written : Bool) (s : State) : Result :=
  .next <|
    let k := entry.val
    match mget s.reg.entries k with
    | none => s
    | some e =>
      if !e.writing then s
      else
        if written then
          let e := { e with writing := false, acceptedAt := s.now, order := s.reg.order }
          let s := s.setReg { s.reg with entries := mput s.reg.entries k e, accepts := s.reg.accepts + 1, order := s.reg.order + 1 }
          let s := ((s.bump Cnt.REGISTRY_ACCEPTED).syncRegistry e.box).activity 0x13
          ((s.finishWaiters 0x0301 k .accepted (e.postData k)).answerWriter k 0).sendFirsts
        else
          let s := ((s.writeFailed k e).bump Cnt.REGISTRY_REFUSED_FAULT).answerWriter k 4
          s.finishWaiters 0x0301 k .hwFault []

/-- RESEND (R240): an entry's resend interval is over. Those due are sent in the order of R239, this one and what stands before it. -/
def execResend (entry : Fin 8192) (s : State) : Result :=
  .next <|
    if !s.skUp || !s.powered .core then s
    else
      let l := s.dueEntries
      let l := if l.any (fun e => e.1 == entry.val) then l.takeWhile (fun e => e.1 != entry.val) ++ l.filter (fun e => e.1 == entry.val) else []
      (forAll l s (fun s e => s.sendDueEntry e)).replayEnds

/-- REGISTERED_DATA (R243). -/
def execRegisteredData (ingress : Fin 10) (srcPc : Postcode) (srcBox dstBox : BoxNo) (dstInc : Inc) (seq : BitVec 32) (payload : Payload)
    (s : State) : Result :=
  .next (if s.listens (if ingress.val ≤ 2 then srcPc.toNat else s.postcode) then
    s.arriveData ingress.val srcPc.toNat srcBox.val dstBox.val dstInc.val seq.toNat payload else s)

/-- The code of a bus outcome (R331). -/
def BusOutcome_code : BusOutcome → Nat
  | .done => 0 | .exception => 1 | .noResponse => 2 | .notSent => 3 | .refused => 4

/-- A registered bus transaction ends (R331): consumption; an outcome other than DONE is counted and told. -/
def State.endRegistered (s : State) (b : Nat) (o : BusOutcome) (exception : Nat) : State :=
  match s.book b with
  | none => s
  | some r =>
    if r.host || r.passedThru == r.consumedThru || !s.skUp then s
    else
      let bus := (s.busOf b).getD 0
      let s := if bus ≤ 3 then
          let x := s.canBus bus
          if x.reg = some (b, r.passedThru) then s.setCanBus bus { x with reg := none } else s
        else
          let x := s.masterBus (bus - 4)
          match x.cur with
          | some c => if c.seq = some r.passedThru ∧ c.box = b then s.setMasterBus (bus - 4) { x with cur := none } else s
          | none => s
      let s := if o = .done then (if bus ≤ 3 then s.bump (Cnt.FIELD_FRAMES_TX bus) else s)
        else (s.bump (Cnt.FIELD_REG_NOT_DONE bus)).fieldEvent bus 3 [b, r.passedThru, BusOutcome_code o, exception]
      s.consumeBox b

/-- BRIDGE_CONSUMED (R331). -/
def execBridgeConsumed (box : BoxNo) (outcome : BusOutcome) (exception : Byte) (s : State) : Result :=
  .next (s.endRegistered box.val outcome exception.toNat)

/-- RECEIPT (R248). [Log entry 103: DEDUCED] -/
def execReceipt (srcPc : Postcode) (dstBox : BoxNo) (dstInc : Inc) (seq passedThru doubtSeq : BitVec 32) (doubtValid : Bool) (s : State) : Result :=
  .next (if s.listens srcPc.toNat then
    s.applyReceipt dstBox.val dstInc.val seq.toNat passedThru.toNat (if doubtValid then some doubtSeq.toNat else none) else s)

/-- The hub a RETURN can come from: the destination of the entry it matches, or any other (R251). -/
def State.returnFrom (s : State) (b seq : Nat) : Nat :=
  ((s.reg.entries.find? (fun e => e.2.box == b && e.2.seq == seq)).map (·.2.dstPc)).getD 0

/-- RETURN (R251). [Log entry 103: DEDUCED] -/
def execReturned (dstBox : BoxNo) (dstInc : Inc) (seq : BitVec 32) (known fwd : Bool) (fwdPc : Postcode) (fwdBox : BoxNo) (fwdInc : Inc)
    (s : State) : Result :=
  .next (if s.listens (s.returnFrom dstBox.val seq.toNat) then
    s.applyReturn dstBox.val dstInc.val seq.toNat known (if fwd then some (fwdPc.toNat, fwdBox.val, fwdInc.val) else none) else s)

/-- The next sequence of a send side rebuilt (R238): one past the latest of RELEASED_THRU and the entries of the incarnation. -/
def State.rebuildSeq (s : State) (b : Nat) (r : BookRec) : State :=
  let last := (s.reg.entries.filter (fun e => e.2.box == b && e.2.ownInc == r.ownInc)).foldl
    (fun m e => if serialBefore 32 m e.2.seq then e.2.seq else m) r.releasedThru
  s.setBookRec b { r with nextSeq := nextSeq last }

/-- REGISTRY_SCAN (R254): the scan ends, sequences are rebuilt, and the replay of HELD entries begins. -/
def execRegistryScan (s : State) : Result :=
  .next <|
    if !s.reg.scanning then s
    else
      let s := forAll s.reg.book s (fun s e => if e.2.send then s.rebuildSeq e.1 e.2 else s)
      let n := s.replayLeft
      let s := (s.setReg { s.reg with scanning := false, replaying := decide (n ≠ 0), replayed := 0 }).set Reg.REPLAY_LEFT n
      if n = 0 then (s.setFlag Reg.REPLAY_ACTIVE false).notice 0x8074 [0] else s.setFlag Reg.REPLAY_ACTIVE true

/-- What a reset that restarts the postmaster does to the Registry (R254, R255, R246): a scan is due, HELD entries are to be sent
again, pigeonholes go where CORE lost power, bridge boxes in doubt are resolved, and each receive side owes a receipt. -/
def State.registryRestart (s : State) (coreLost : Bool) : State :=
  let s := if coreLost then s.setReg { s.reg with pigeons := [], waiting := [] } else s
  let s := s.setReg { s.reg with
    scanning := true, replaying := false, replayedNow := 0, receiptsDue := [], returnsDue := [], notify := [], issued := 0, accepts := 0,
    entries := s.reg.entries.map (fun (e : Nat × Entry) => (e.1, { e.2 with sentSince := e.2.dead, lastSent := none })) }
  let s := (s.setFlag Reg.REPLAY_ACTIVE true).set Reg.REPLAY_LEFT s.replayLeft
  forAll s.reg.book s (fun s e =>
    if !e.2.recv then s
    else
      let s := if !e.2.host && e.2.passedThru != e.2.consumedThru then
          let q := e.2.passedThru
          ((s.setBookRec e.1 { e.2 with doubtSeq := q, doubtValid := true, consumedThru := q }).bump Cnt.REGISTRY_IN_DOUBT).notice 0x8073 [e.1, q]
        else s
      s.receiptDue e.1)

/-- LETTERS_WAITING (R266): again every 8,000 rounds while messages wait. -/
def execLettersWaiting (box : BoxNo) (s : State) : Result :=
  .next <|
    match mget s.reg.waiting box.val with
    | some r => if r + 8000 ≤ s.round then s.tellWaiting box.val else s
    | none => s

/-- R259's conditions for a list of items, on the book with them set. -/
def State.apportionOk (s : State) (items : List ApportionItem) : Bool :=
  let item := fun (b : Nat) => (items.filter (fun i => i.box.toNat == b)).getLast?
  let res := fun (e : Nat × BookRec) => match item e.1 with
    | some i => i.r.toNat
    | none => match e.2.next with
      | some n => n.1
      | none => e.2.reserveOf
  let sum := (s.sendSides.map res).sum
  let used := (s.sendSides.map (fun e => s.used e.1 - res e)).sum + s.orphans
  items.all (fun i => decide (i.r.toNat ≤ i.m.toNat) && decide (i.m.toNat ≤ 1024)) && decide (sum ≤ 7168) && decide (sum + used ≤ 8192)

/-- REGISTRY_APPORTION (R259): all items or none, in force at the next boundary. -/
def execRegistryApportion (h : CmdHdr) (items : List ApportionItem) (s : State) : Result :=
  .next <| s.runOpcode h 0x0300
    (leBytes 1 items.length ++ [0] ++ items.flatMap (fun i => leBytes 2 i.box.toNat ++ leBytes 2 i.r.toNat ++ leBytes 2 i.m.toNat ++ [i.notify, 0]))
    (h.paramLen == 2 + 8 * items.length) (fun _ s =>
    if items.length < 1 || 128 < items.length || items.any (fun i => !boxNoOk i.box.toNat || decide (1 < i.notify.toNat)) then
      (s, .done .badParam [])
    else if items.any (fun i => (s.sendSide i.box.toNat).isNone) then (s, .done .notPermitted [])
    else if items.any (fun i => s.pendingNames i.box.toNat) then (s, .done .stageConflict [])
    else if !s.apportionOk items then (s, .done .checkFailed [])
    else
      let s := forAll items s (fun s i =>
        s.updBookRec i.box.toNat (fun r => { r with next := some (i.r.toNat, i.m.toNat, i.notify.toNat == 1) }))
      let after := forAll items s (fun s i =>
        s.updBookRec i.box.toNat (fun r => { r with apportioned := true, reserve := i.r.toNat, limit := i.m.toNat }))
      (s, .done .ok (leBytes 8 (s.round + 1) ++ leBytes 2 after.regPoolFree ++ leBytes 2 0)))

/-- The HOST receive side of a box. -/
def State.hostSide (s : State) (b : Nat) : Option BookRec :=
  match s.book b with
  | some r => if r.host && r.recv && (s.box b).state != .free && r.ownInc == (s.box b).inc then some r else none
  | none => none

/-- One message presented by COLLECT (R365). -/
def Pigeon.collectData (p : Pigeon) : List Byte :=
  leBytes 2 p.box ++ leBytes 1 (if p.shown then 1 else 0) ++ leBytes 1 p.payload.length ++ leBytes 4 p.seq ++ leBytes 2 p.srcPc ++
  leBytes 2 p.srcBox ++ p.payload

/-- COLLECT (R245, R261). -/
def execCollect (h : CmdHdr) (box : BitVec 16) (max : Byte) (s : State) : Result :=
  .next <| s.runOpcode h 0x0302 (leBytes 2 box.toNat ++ [max, 0]) true (fun _ s =>
    let n := max.toNat
    let b := if box.toNat = 0 then ((s.reg.book.map (·.1)).find? (fun b => (s.hostSide b).isSome && s.waitingOf b != [])).getD 0 else box.toNat
    if 4095 < box.toNat ∨ n < 1 ∨ 16 < n then (s, .done .badParam [])
    else if b = 0 then (s, .done .ok (leBytes 4 0))
    else if (s.hostSide b).isNone then (s, .done .notPermitted [])
    else
      let l := (s.waitingOf b).take n
      let s := s.setReg { s.reg with pigeons := s.reg.pigeons.map (fun p => if p.box = b ∧ l.any (fun q => q.seq == p.seq) then { p with shown := true } else p) }
      let s := match l.getLast? with
        | some p => s.updBookRec b (fun r => if serialBefore 32 r.presented p.seq then { r with presented := p.seq } else r)
        | none => s
      (s, .done .ok (leBytes 1 l.length ++ leBytes 3 0 ++ l.flatMap (·.collectData))))

/-- ACK_COLLECTED (R244, R261). -/
def execAckCollected (h : CmdHdr) (box : BitVec 16) (thru : BitVec 32) (s : State) : Result :=
  .next <| s.runOpcode h 0x0303 (leBytes 2 box.toNat ++ [0, 0] ++ leBytes 4 thru.toNat) true (fun _ s =>
    let b := box.toNat
    let q := thru.toNat
    if !boxNoOk b then (s, .done .badParam [])
    else
      match s.hostSide b with
      | none => (s, .done .notPermitted [])
      | some r =>
        if seqLe q r.consumedThru then (s, .done .ok (leBytes 4 r.consumedThru))
        else if !seqLe q r.presented then (s, .done .badParam [])
        else
          let s := s.setBookRec b { r with consumedThru := q }
          let s := forAll (s.reg.pigeons.filter (fun p => p.box == b && seqLe p.seq q)) s (fun s p => s.emptyPigeon p)
          let s := s.stepVoids b 4096
          let s := if s.waitingOf b = [] then s.setReg { s.reg with waiting := mdel s.reg.waiting b } else s
          (s.receiptDue b, .done .ok (leBytes 4 (((s.book b).map (·.consumedThru)).getD q))))

/-- REGISTRY_STATUS (R261). -/
def execRegistryStatus (h : CmdHdr) (box : BitVec 16) (s : State) : Result :=
  .next <| s.runOpcode h 0x0304 (leBytes 2 box.toNat ++ [0, 0]) true (fun _ s =>
    let b := box.toNat
    let w := fun (a : Nat) => leBytes 4 (s.word a).toNat
    if 4095 < b then (s, .done .badParam [])
    else if b = 0 then (s, .done .ok (w Reg.REG_ENTRIES ++ w Reg.REG_POOL ++ w Reg.PIGEONHOLES))
    else (s, .done .ok (s.recordBytes b ++ w (Reg.USE b))))

/-- DEAD_LETTER_READ (R261). -/
def execDeadLetterRead (h : CmdHdr) (box first : BitVec 16) (max : Byte) (s : State) : Result :=
  .next <| s.runOpcode h 0x0305 (leBytes 2 box.toNat ++ leBytes 2 first.toNat ++ [max, 0, 0, 0]) true (fun _ s =>
    let n := max.toNat
    if 4095 < box.toNat ∨ 8191 < first.toNat ∨ n < 1 ∨ 8 < n then (s, .done .badParam [])
    else
      let l := s.reg.entries.filter (fun e => e.2.dead && decide (first.toNat ≤ e.1) && (box.toNat == 0 || e.2.box == box.toNat))
      let next := orNone (((l.drop n).head?).map (·.1))
      let now := l.take n
      (s, .done .ok (leBytes 1 now.length ++ leBytes 1 0 ++ leBytes 2 next ++ now.flatMap (fun e => leBytes 2 e.1 ++ leBytes 2 0 ++ e.2.bytes))))

/-- DEAD_LETTER_CLEAR (R261): every entry DEAD, or none is cleared. -/
def execDeadLetterClear (h : CmdHdr) (entries : List (BitVec 16)) (s : State) : Result :=
  .next <| s.runOpcode h 0x0306 (leBytes 1 entries.length ++ [0] ++ entries.flatMap (fun e => leBytes 2 e.toNat)) (h.paramLen == 2 + 2 * entries.length) (fun _ s =>
    let l := (entries.map (·.toNat)).eraseDups
    let isDead := fun (k : Nat) => match mget s.reg.entries k with
      | some e => e.dead
      | none => false
    if entries.length < 1 || 64 < entries.length || !l.all isDead then (s, .done .badParam [])
    else (forAll l s (fun s k => s.freeEntry k), .done .ok (leBytes 1 l.length ++ leBytes 3 0)))

end Machine
end Sys2Proof
end

