-- ==== Sys2Proof/Machine/Bridge.lean ====
section
/-!
DEFINITION. The field bus bridge (R316 to R338): its messages, CAN routing, transmission and holding, the Modbus server and master, held values
and read-ahead, and the commands of routes and ranges.
-/
namespace Sys2Proof
namespace Machine

def State.setBridge (s : State) (x : BridgeSt) : State := { s with bridge := x }

/-- A frame received on a bus is counted (R237): its number, from 0. [Log entry 135: DESIGN CHOICE] -/
def State.countFrame (s : State) (k : Nat) : Nat × State :=
  let n := (mget s.bridge.frames k).getD 0
  (n, s.setBridge { s.bridge with frames := mput s.bridge.frames k ((n + 1) % 2 ^ 32) })

/-- A bridge message leaves into a tunnel that is not REGISTERED, as a frame of P8 (R321). -/
def State.sendField (s : State) (b : Nat) (msg : List Byte) : State :=
  let x := s.box b
  if x.state ≠ .opened then s
  else
    (s.emit (.bridge b msg)).postUnit
      { ingress := 8, cls := x.cls, type := 0, kind := .field, colour := .green, payload := msg, seg := 0, twin := false, side := false, turned := false,
        first := true, last := true, hops := 320, srcPc := BitVec.ofNat 16 s.postcode, srcBox := Fin.ofNat 4096 b,
        dstPc := BitVec.ofNat 16 x.peerPc, dstBox := Fin.ofNat 4096 x.peerBox, dstInc := Fin.ofNat 4096 x.peerInc, seqStamp := 0, checkOk := true }

/-- The bytes of a CAN message (R319). -/
def CanFrame_bytes (f : CanFrame) (bus : Nat) : List Byte :=
  bigBytes 1 1 ++ bigBytes 1 ((if f.ide then 128 else 0) + (if f.fdf then 64 else 0) + (if f.brs then 32 else 0)) ++ bigBytes 4 f.id.val ++
  bigBytes 1 f.data.length ++ bigBytes 1 bus ++ f.data

/-- The lengths of R319. -/
def canLengthOk (fdf : Bool) (n : Nat) : Bool := decide (n ≤ 8) || (fdf && [12, 16, 20, 24, 32, 48, 64].contains n)

/-- A CAN message read by R319; none where it fails it. -/
def parseCan (m : List Byte) : Option CanFrame :=
  let at_ := fun (i : Nat) => (m.getD i 0).toNat
  let ide := bitOf (at_ 1) 7
  let fdf := bitOf (at_ 1) 6
  let id := bigNat ((m.drop 2).take 4)
  if m.length = 8 + at_ 6 ∧ 8 ≤ m.length ∧ at_ 0 = 1 ∧ at_ 1 % 32 = 0 ∧ id < (if ide then 2 ^ 29 else 2 ^ 11) ∧ canLengthOk fdf (at_ 6) ∧ at_ 7 < 4 then
    some { ide := ide, fdf := fdf, brs := bitOf (at_ 1) 5, id := Fin.ofNat (2 ^ 29) id, data := m.drop 8 }
  else none

/-- The bytes of a Modbus message (R320). -/
def ModbusMsg_bytes (m : ModbusMsg) : List Byte :=
  [m.op, m.function] ++ bigBytes 2 m.tag.toNat ++ [m.farUnit, m.status] ++ bigBytes 2 m.address.toNat ++ bigBytes 2 m.count.toNat ++
  bigBytes 8 m.postmark.toNat ++ m.data

/-- Coils are bits, registers two bytes. -/
def dataBytes (table count : Nat) : Nat := if table ≤ 1 then (count + 7) / 8 else 2 * count

/-- The table a Modbus function fixes (R325). -/
def tableOf (fn : Nat) : Option Nat :=
  if fn = 0x01 ∨ fn = 0x05 ∨ fn = 0x0F then some 0
  else if fn = 0x02 then some 1
  else if fn = 0x04 then some 2
  else if fn = 0x03 ∨ fn = 0x06 ∨ fn = 0x10 then some 3
  else none

def isWriteFn (fn : Nat) : Bool := fn == 0x05 || fn == 0x06 || fn == 0x0F || fn == 0x10

/-- The values of a write function (R320, R325): two bytes where it writes one coil or register. [Log entry 130: PRESUMED] -/
def writeBytes (fn count : Nat) : Nat := if fn = 0x05 ∨ fn = 0x06 then 2 else dataBytes ((tableOf fn).getD 3) count

/-- The data a message of an operation carries (R320). -/
def msgDataLength (op fn status count : Nat) : Nat :=
  if op = 0x10 then writeBytes fn count
  else if op = 0x12 ∧ status = 0 then dataBytes ((tableOf fn).getD 3) count
  else 0

/-- A Modbus message read by R320; none where it fails it. -/
def parseModbus (m : List Byte) : Option ModbusMsg :=
  let at_ := fun (i : Nat) => (m.getD i 0).toNat
  let op := at_ 0
  let fn := at_ 1
  let st := at_ 5
  let count := bigNat ((m.drop 8).take 2)
  let mark := bigNat ((m.drop 10).take 8)
  let answer := op == 0x12 || op == 0x13
  if 18 ≤ m.length ∧ mark % 2 ^ 17 < 125000 ∧ 0x10 ≤ op ∧ op ≤ 0x13 ∧ (tableOf fn).isSome ∧ isWriteFn fn = (op == 0x10 || op == 0x13) ∧ at_ 4 ≤ 247 ∧
      (if answer then st ≤ 0x0B ∨ st = 0xFE ∨ st = 0xFD else st ≤ 1) ∧ (op = 0x11 ∨ op = 0x12 ∨ mark = 0) ∧
      m.length = 18 + msgDataLength op fn st count then
    some { op := BitVec.ofNat 8 op, function := BitVec.ofNat 8 fn, tag := BitVec.ofNat 16 (bigNat ((m.drop 2).take 2)),
           farUnit := BitVec.ofNat 8 (at_ 4), status := BitVec.ofNat 8 st, address := BitVec.ofNat 16 (bigNat ((m.drop 6).take 2)),
           count := BitVec.ofNat 16 count, postmark := BitVec.ofNat 64 mark, data := m.drop 18 }
  else none

/-- A Modbus message sent into a tunnel (R320). -/
def State.sendModbus (s : State) (b : Nat) (m : ModbusMsg) : State := s.sendField b (ModbusMsg_bytes m)

/-- The valid routes in force, by index: bus, IDE, ID and bind (R336). -/
def State.routes (s : State) : List (Nat × Nat × Nat × Nat × Nat) :=
  s.regs.filterMap (fun e =>
    if Reg.ROUTE_0 0 ≤ e.1 ∧ e.1 < Reg.ROUTE_0 4096 ∧ (e.1 - Reg.ROUTE_0 0) % 8 = 0 ∧ bitOf e.2.toNat 31 then
      let i := (e.1 - Reg.ROUTE_0 0) / 8
      some (i, bitsOf e.2.toNat 29 2, s.get (Reg.ROUTE_IDE i), bitsOf e.2.toNat 0 29, s.get (Reg.ROUTE_BIND i))
    else none)

/-- The bind of a received CAN frame (R321). -/
def State.routeOf (s : State) (bus : Nat) (f : CanFrame) : Option Nat :=
  let ide := if f.ide then 1 else 0
  match s.routes.find? (fun r => r.2.1 == bus && r.2.2.1 == ide && r.2.2.2.1 == f.id.val) with
  | some r => some r.2.2.2.2
  | none => if bitOf (s.get Reg.DEFAULT_ROUTE_EN) bus then some (bitsOf (s.get Reg.DEFAULT_ROUTE_BINDS) (6 * bus) 6) else none

/-- HOLD_DROPPED counted, and told at most once per bus per round (R323). -/
def State.dropHeldCan (s : State) (bus n : Nat) : State :=
  if n = 0 then s
  else
    let s := s.bump (Cnt.FIELD_HOLD_DROPPED bus) n
    let x := s.canBus bus
    if x.told then s else (s.setCanBus bus { x with told := true }).fieldEvent bus 2 []

/-- A CAN offer held (R323): the bus's queue of 32, or the frame is dropped. -/
def State.holdCan (s : State) (bus b : Nat) (payload : List Byte) (frame : Nat) : State :=
  let x := s.canBus bus
  if 32 ≤ x.hold.length then s.dropHeldCan bus 1
  else s.setCanBus bus { x with hold := x.hold ++ [⟨b, payload, frame, s.round⟩] }

/-- A CAN frame offered to the Registry: whether it is to be held (R321, R323). -/
def State.offerCan (s : State) (bus b : Nat) (payload : List Byte) (frame : Nat) : Bool × State :=
  match s.offer b payload 1 bus 0 frame with
  | (.entry _, s) => (false, s)
  | (.refused st, s) => (st == .busyRetry || st == .noResource || st == .hwFault, s)

/-- The receive error count of a CAN controller, and what it makes of its state (R317, R336): error-passive above 127. [Log entry 234: PRESUMED] -/
def State.setErrors (s : State) (bus tec rec : Nat) : State :=
  let s := (s.set (Reg.BUS_STATE_TEC bus) (min tec 255)).set (Reg.BUS_STATE_REC bus) (min rec 255)
  s.set (Reg.BUS_STATE_CAN_STATE bus) (if 127 < tec ∨ 127 < rec then 1 else 0)

/-- CAN_FRAME_RX (R317, R321, R334). [Log entry 234: PRESUMED] -/
def execCanFrameRx (bus : Fin 4) (f : CanFrame) (check : CanCheck) (s : State) : Result :=
  .next <|
    let n := bus.val
    let tec := s.get (Reg.BUS_STATE_TEC n)
    let rec_ := s.get (Reg.BUS_STATE_REC n)
    if !s.busUp n then s
    else if check = .bad then (s.bump (Cnt.FIELD_BUS_ERRORS n)).setErrors n tec (rec_ + 1)
    else
      let c := ((s.bump (Cnt.FIELD_FRAMES_RX n)).setErrors n tec (rec_ - 1)).countFrame n
      let s := c.2
      if check = .remoteFrame then s.bump (Cnt.FIELD_REMOTE_DISCARDED n)
      else
        match (s.routeOf n f).bind s.boxOfBind with
        | none => s.bump (Cnt.FIELD_NO_ROUTE n)
        | some b =>
          let bytes := CanFrame_bytes f n
          if (s.box b).cls = .registered then
            if (s.canBus n).hold.any (fun h => h.box == b) then s.holdCan n b bytes c.1
            else
              let r := s.offerCan n b bytes c.1
              if r.1 then r.2.holdCan n b bytes c.1 else r.2
          else s.sendField b bytes

/-- Held CAN frames offered again at a boundary, each box in order (R323). -/
def State.retryHeld (s : State) (bus : Nat) : State :=
  let x := s.canBus bus
  let s := s.setCanBus bus { x with hold := [], told := false }
  forAll x.hold s (fun s h =>
    let keep := fun (s : State) => let y := s.canBus bus; s.setCanBus bus { y with hold := y.hold ++ [h] }
    if (s.canBus bus).hold.any (fun q => q.box == h.box) then keep s
    else
      let r := s.offerCan bus h.box h.payload h.frame
      if r.1 then keep r.2 else r.2)

/-- CAN_HOLD_TIMEOUT (R323). -/
def execCanHoldTimeout (bus : Fin 4) (s : State) : Result :=
  .next <|
    let x := s.canBus bus.val
    let old := x.hold.filter (fun h => decide (h.since + 8000 ≤ s.round))
    (s.setCanBus bus.val { x with hold := x.hold.filter (fun h => !decide (h.since + 8000 ≤ s.round)) }).dropHeldCan bus.val old.length

/-- A frame in a transmit queue: ascending identifier, then arrival (R322). -/
def insertCan (q : CanTx) : List CanTx → List CanTx
  | [] => [q]
  | y :: l => if y.frame.id.val ≤ q.frame.id.val then y :: insertCan q l else q :: y :: l

/-- A registered transaction may start on a bus (R244, R246, R331). -/
def State.busReady (s : State) (bus : Nat) : Bool := s.busUp bus && s.busIdle bus && !s.flag (Reg.BUS_STATE_PFW_HOLD bus)

/-- A registered message meets a CAN bus that can start it (R322, R331): passed, and handed to the controller or consumed as REFUSED. -/
def State.startCan (s : State) (b q bus : Nat) : State :=
  match s.passToBridge b q with
  | none => s
  | some (payload, s) =>
    match parseCan payload with
    | some f =>
      if 3 < bus || (f.fdf && !s.flag (Reg.CAN_CFG_FD_EN bus)) then s.endRegistered b .refused 0
      else
        let x := s.canBus bus
        (s.setCanBus bus { x with reg := some (b, q) }).emit (.bus 8 bus 1 ([b, f.id.val] ++ f.data.map (·.toNat)))
    | none => s.endRegistered b .refused 0

/-- CAN_MESSAGE (R319, R322, R331). A registered message is passed where it can go straight to the controller, as the first frame: `silent` says
that the bus lets it start. It is the one in the box's pigeonhole. -/
def execCanMessage (box : BoxNo) (seq : Option (BitVec 32)) (msg : List Byte) (silent : Bool) (s : State) : Result :=
  .next <|
    let b := box.val
    match s.busOf b with
    | none => s
    | some bus =>
      match seq with
      | some q => if silent && s.busReady bus then s.startCan b q.toNat bus else s
      | none =>
        if 3 < bus then s.bump Cnt.BRIDGE_BAD_MESSAGES
        else
          match parseCan msg with
          | none => s.bump Cnt.BRIDGE_BAD_MESSAGES
          | some f =>
            if f.fdf && !s.flag (Reg.CAN_CFG_FD_EN bus) then s.bump (Cnt.FIELD_SIZE_ERRORS bus)
            else if !s.flag (Reg.CAN_CFG_EN bus) then s.bump (Cnt.FIELD_TX_DROPPED bus)
            else
              let x := s.canBus bus
              if 32 ≤ x.queue.length then s else s.setCanBus bus { x with queue := insertCan ⟨b, f⟩ x.queue }

/-- CAN_TX_COMPLETE (R322): the frame at the head of the queue has gone out. [Log entry 234: PRESUMED] -/
def execCanTxComplete (bus : Fin 4) (s : State) : Result :=
  .next <|
    let x := s.canBus bus.val
    match x.queue with
    | [] => s
    | q :: rest =>
      if !s.busUp bus.val then s
      else
        let s := (s.setCanBus bus.val { x with queue := rest }).bump (Cnt.FIELD_FRAMES_TX bus.val)
        let s := s.setErrors bus.val (s.get (Reg.BUS_STATE_TEC bus.val) - 1) (s.get (Reg.BUS_STATE_REC bus.val))
        s.emit (.bus 8 bus.val 1 ([q.box, q.frame.id.val] ++ q.frame.data.map (·.toNat)))

/-- The registered frame a CAN bus holds ends as NOT_SENT (R331). [Log entry 137: DESIGN CHOICE] -/
def State.withdrawReg (s : State) (bus : Nat) : State :=
  match (s.canBus bus).reg with
  | some (b, _) => s.endRegistered b .notSent 0
  | none => s

/-- BUS_OFF (R317, R333). -/
def execBusOff (bus : Fin 4) (s : State) : Result :=
  .next <|
    if s.busUp bus.val then
      let s := (s.set (Reg.BUS_STATE_CAN_STATE bus.val) 2).bump (Cnt.FIELD_BUS_OFF_EVENTS bus.val)
      (s.fieldEvent bus.val 0 []).withdrawReg bus.val
    else s

/-- BUS_ON (R317): the controller recovers; its error counts start again. [Log entry 134: DESIGN CHOICE] -/
def execBusOn (bus : Fin 4) (s : State) : Result :=
  .next <|
    if s.get (Reg.BUS_STATE_CAN_STATE bus.val) = 2 then
      (((s.set (Reg.BUS_STATE_CAN_STATE bus.val) 0).set (Reg.BUS_STATE_TEC bus.val) 0).set (Reg.BUS_STATE_REC bus.val) 0).fieldEvent bus.val 1 []
    else s

/-- REG_TX_LIMIT_EXPIRY (R331). -/
def execRegTxLimitExpiry (bus : Fin 4) (s : State) : Result := .next (s.withdrawReg bus.val)

/-- The counts Modbus permits (R325). [Log entry 130: PRESUMED] -/
def countOk (fn count : Nat) : Bool :=
  if fn = 0x01 ∨ fn = 0x02 then decide (1 ≤ count) && decide (count ≤ 2000)
  else if fn = 0x03 ∨ fn = 0x04 then decide (1 ≤ count) && decide (count ≤ 125)
  else if fn = 0x05 ∨ fn = 0x06 then count == 1
  else if fn = 0x0F then decide (1 ≤ count) && decide (count ≤ 1968)
  else decide (1 ≤ count) && decide (count ≤ 123)

/-- The byte count of a write is the one Modbus permits, and its values as many (R325). [Log entry 130: PRESUMED] -/
def byteCountOk (r : ModbusReq) : Bool :=
  let fn := r.function.toNat
  let n := writeBytes fn r.count.toNat
  r.data.length == n && (fn == 0x05 || fn == 0x06 || r.byteCount.toNat == n)

/-- The ranges of a server bus and table, for one unit or, for a broadcast, for all (R324). [Log entry 131: DESIGN CHOICE] -/
def State.rangesOf (s : State) (bus : Nat) (unit : Option Nat) (table : Nat) : List Nat :=
  (List.range 64).filter (fun r => s.flag (Reg.RANGE_VALID r) && s.get (Reg.RANGE_BUS r) == bus && s.get (Reg.RANGE_TABLE r) == table &&
    (match unit with | some u => s.get (Reg.RANGE_UNIT r) == u | none => true))

/-- The pieces of a span (R325): range, offset within it, count; none where an address lies in no range. The first number bounds
the pieces. -/
def State.piecesOf (s : State) (rs : List Nat) : Nat → Nat → Nat → Option (List (Nat × Nat × Nat))
  | 0, _, _ => none
  | n + 1, addr, count =>
    if count = 0 then some []
    else
      match rs.find? (fun r => decide (s.get (Reg.RANGE_START r) ≤ addr) && decide (addr < s.get (Reg.RANGE_START r) + s.get (Reg.RANGE_COUNT r))) with
      | none => none
      | some r =>
        let off := addr - s.get (Reg.RANGE_START r)
        let k := min count (s.get (Reg.RANGE_COUNT r) - off)
        (s.piecesOf rs n (addr + k) (count - k)).map (fun l => (r, off, k) :: l)

/-- The bits or registers of a request from the o-th on (R325). -/
def sliceData (table : Nat) (data : List Byte) (o k : Nat) : List Byte :=
  if table ≤ 1 then leBytes ((k + 7) / 8) (leNat data / 2 ^ o % 2 ^ k) else (data.drop (2 * o)).take (2 * k)

/-- An answer to a local master: function and unit, exception code or 0, data. -/
def State.answerMaster (s : State) (bus unit fn code : Nat) (data : List Byte) : State :=
  let s := s.when (code != 0) (fun s => s.bump (Cnt.FIELD_EXCEPTIONS_TX (4 + bus)))
  (s.bump (Cnt.FIELD_FRAMES_TX (4 + bus))).emit (.bus 8 (4 + bus) 2 ([unit, fn, code] ++ data.map (·.toNat)))

/-- Answered with exception 0x06 (R327, R328). -/
def State.answerBusy (s : State) (bus unit fn : Nat) : State := (s.bump Cnt.BRIDGE_BUSY_ANSWERS).answerMaster bus unit fn 6 []

/-- Two pieces share a far address. -/
def Piece.overlaps (p q : Piece) : Bool :=
  p.bind == q.bind && p.farUnit == q.farUnit && p.table == q.table && decide (p.address < q.address + q.count) &&
  decide (q.address < p.address + p.count)

/-- Two pieces of one tunnel share a far address, whatever binds name the tunnel's box. -/
def State.sameFar (s : State) (p q : Piece) : Bool :=
  ({ q with bind := 0 } : Piece).overlaps { p with bind := 0 } && s.boxOfBind q.bind == s.boxOfBind p.bind

/-- A write issued through the bridge: held values and fetches of overlapping addresses are marked (R225, R328). Pieces are told
apart by box, so that the binds of reads and writes of one tunnel agree. -/
def State.noteWrite (s : State) (p : Piece) : State :=
  let same := fun (q : Piece) => s.sameFar p q
  s.setBridge { s.bridge with
    fetches := s.bridge.fetches.map (fun f => if same f.piece then { f with written := true } else f)
    values := s.bridge.values.map (fun v => if same v.piece then { v with written := true } else v) }

/-- A new TAG; 0 is not used. -/
def State.takeTag (s : State) : Nat × State :=
  (s.bridge.nextTag, s.setBridge { s.bridge with nextTag := if 65535 ≤ s.bridge.nextTag then 1 else s.bridge.nextTag + 1 })

/-- The far piece of a part of a range, on the bind of reads or of writes. -/
def State.farPiece (s : State) (r off k : Nat) (write : Bool) : Piece :=
  { bind := if write then s.get (Reg.RANGE_BIND r) else s.get (Reg.RANGE_RD_BIND r), farUnit := s.get (Reg.RANGE_FAR_UNIT r),
    table := s.get (Reg.RANGE_TABLE r), address := s.get (Reg.RANGE_FAR_START r) + off, count := k }

/-- A WRITE message of a piece (R320, R327). -/
def writeMsg (p : Piece) (fn tag : Nat) (data : List Byte) : ModbusMsg :=
  { op := 0x10, function := BitVec.ofNat 8 fn, tag := BitVec.ofNat 16 tag, farUnit := BitVec.ofNat 8 p.farUnit, status := 0,
    address := BitVec.ofNat 16 p.address, count := BitVec.ofNat 16 p.count, postmark := 0, data := data }

/-- The tunnel of a bind is OPEN. -/
def State.bindOpen (s : State) (k : Nat) : Bool :=
  match s.boxOfBind k with
  | some b => (s.box b).state == .opened
  | none => false

/-- A CONFIRMED write to an overlapping address is pending (R327). -/
def State.confirmPending (s : State) (p : Piece) : Bool := s.bridge.confirms.any (fun c => c.result.isNone && s.sameFar c.piece p)

/-- A WRITE sent on a bind's tunnel. -/
def State.issueWrite (s : State) (p : Piece) (fn tag : Nat) (data : List Byte) : State :=
  match s.boxOfBind p.bind with
  | some b => (s.noteWrite p).sendModbus b (writeMsg p fn tag data)
  | none => s

/-- A REGISTERED write (R327): answered once its entry write has completed. -/
def State.writeRegistered (s : State) (bus : Nat) (q : ModbusReq) (p : Piece) (frame : Nat) : State :=
  let u := q.unit.toNat
  let fn := q.function.toNat
  match s.boxOfBind p.bind with
  | none => s.answerMaster bus u fn 0x0A []
  | some b =>
    match s.offer b (ModbusMsg_bytes (writeMsg p fn 0 q.data)) 2 (4 + bus) 0 frame with
    | (.entry k, s) =>
      let s := s.noteWrite p
      s.setBridge { s.bridge with answers := mput s.bridge.answers k (bus, u, fn) }
    | (.refused st, s) =>
      s.answerMaster bus u fn (match st with | .busyRetry => 6 | .noResource => 4 | .hwFault => 4 | _ => 0x0A) []

/-- A CONFIRMED write (R327). [Log entry 133: DESIGN CHOICE] -/
def State.writeConfirmed (s : State) (bus : Nat) (q : ModbusReq) (p : Piece) : State :=
  let u := q.unit.toNat
  let fn := q.function.toNat
  match s.bridge.confirms.find? (fun c => c.bus == bus && c.req == q) with
  | some c =>
    match c.result with
    | none => s.answerBusy bus u fn
    | some r =>
      let s := s.setBridge { s.bridge with confirms := s.bridge.confirms.filter (fun x => x.tag != c.tag) }
      s.answerMaster bus u fn (if r = 0 then 0 else if r ≤ 0x0B then r else 0x0B) []
  | none =>
    if s.confirmPending p then s.answerBusy bus u fn
    else if !s.bindOpen p.bind then s.answerMaster bus u fn 0x0A []
    else
      let t := s.takeTag
      let s := t.2.setBridge { t.2.bridge with confirms := t.2.bridge.confirms ++ [⟨t.1, bus, q, p, none, s.round⟩] }
      (s.issueWrite p fn t.1 q.data).answerBusy bus u fn

/-- A write request whose span lies in ranges (R325, R327). -/
def State.serveWrite (s : State) (bus : Nat) (q : ModbusReq) (table : Nat) (ps : List (Nat × Nat × Nat)) (answered : Bool) (frame : Nat) : State :=
  let u := q.unit.toNat
  let fn := q.function.toNat
  let say := fun (s : State) (code : Nat) => if answered then s.answerMaster bus u fn code [] else s
  let mode := fun (p : Nat × Nat × Nat) => s.get (Reg.RANGE_MODE p.1)
  let busy := fun (p : Nat × Nat × Nat) => s.confirmPending (s.farPiece p.1 p.2.1 p.2.2 true)
  if 1 < ps.length && ps.any (fun p => mode p != 0) then say s 2
  else if ps.any (fun p => busy p && mode p != 2) then (if answered then s.answerBusy bus u fn else s)
  else
    match ps with
    | [p] =>
      let far := s.farPiece p.1 p.2.1 p.2.2 true
      if mode p = 1 then (if 174 < q.data.length then say s 3 else s.writeRegistered bus q far frame)
      else if mode p = 2 then s.writeConfirmed bus q far
      else if !s.bindOpen far.bind then say s 0x0A
      else say (s.issueWrite far fn 0 q.data) 0
    | _ =>
      if ps.any (fun p => !s.bindOpen (s.get (Reg.RANGE_BIND p.1))) then say s 0x0A
      else
        let parts := ps.foldl (fun (a : Nat × List ((Nat × Nat × Nat) × Nat)) p => (a.1 + p.2.2, a.2 ++ [(p, a.1)])) (0, [])
        let s := forAll parts.2 (s.bump Cnt.BRIDGE_CUTS) (fun s x =>
          s.issueWrite (s.farPiece x.1.1 x.1.2.1 x.1.2.2 true) fn 0 (sliceData table q.data x.2 x.1.2.2))
        say s 0

/-- What the four checks of R225 say of a held value: 0 it passes, 2, 3 or 4 the check that fails. A timeout meets the next read in any case
(R328). -/
def State.valueCheck (s : State) (fresh : Nat) (v : HeldValue) : Nat :=
  if v.held = .late then 0
  else if decide ((fresh * 125000 : Nat) < postmarkDiff s.now v.start) then 2
  else if v.written then 3
  else if v.gen ≠ s.get Reg.BRIDGE_GEN_GEN then 4
  else 0

/-- A held value of a piece that passes; one that fails is discarded and counted (R225). -/
def State.findValue (s : State) (fresh : Nat) (p : Piece) : Option HeldValue × State :=
  match s.bridge.values.find? (fun v => v.piece == p) with
  | none => (none, s)
  | some v =>
    let gone := s.setBridge { s.bridge with values := s.bridge.values.filter (fun x => x.piece != p) }
    match s.valueCheck fresh v with
    | 0 => (some v, s)
    | 2 => (none, gone.bump Cnt.ENGINE_RA_STALE)
    | 3 => (none, gone.bump Cnt.ENGINE_RA_WRITTEN)
    | _ => (none, gone.bump Cnt.ENGINE_RA_RECONFIG)

/-- A READ leaves for a piece (R328, R329). -/
def State.issueRead (s : State) (p : Piece) (ahead : Bool) : State :=
  match s.boxOfBind p.bind with
  | none => s
  | some b =>
    if (s.box b).state ≠ .opened then s
    else
      let t := s.takeTag
      let s := t.2
      let f : Fetch := ⟨t.1, p, ahead, s.now, s.get Reg.BRIDGE_GEN_GEN, false, s.round⟩
      let s := s.setBridge { s.bridge with fetches := s.bridge.fetches ++ [f] }
      let s := s.bump (if ahead then Cnt.ENGINE_RA_ISSUED else Cnt.BRIDGE_FETCHES)
      let fn := if p.table = 0 then 1 else if p.table = 1 then 2 else if p.table = 2 then 4 else 3
      s.sendModbus b
        { op := 0x11, function := BitVec.ofNat 8 fn, tag := BitVec.ofNat 16 t.1, farUnit := BitVec.ofNat 8 p.farUnit,
          status := if ahead then 1 else 0, address := BitVec.ofNat 16 p.address, count := BitVec.ofNat 16 p.count,
          postmark := BitVec.ofNat 64 s.now, data := [] }

/-- A read piece of a read-ahead range noted (R329): its shape, at most four to a range, the least recently read replaced. -/
def State.noteShape (s : State) (r : Nat) (p : Piece) : State :=
  if !s.flag (Reg.RANGE_RA r) then s
  else
    let x : Shape := ⟨r, p, s.round, false⟩
    let mine := s.bridge.shapes.filter (fun y => y.range == r)
    if mine.any (fun y => y.piece == p) then
      s.setBridge { s.bridge with shapes := s.bridge.shapes.map (fun y => if y.range = r ∧ y.piece = p then x else y) }
    else if mine.length < 4 then s.setBridge { s.bridge with shapes := s.bridge.shapes ++ [x] }
    else
      let old := mine.foldl (fun (o : Option Shape) y => match o with
        | some z => if y.lastRead < z.lastRead then some y else o
        | none => some y) none
      s.setBridge { s.bridge with shapes := s.bridge.shapes.map (fun y => if some y = old then x else y) }

/-- Bits of pieces joined in address order, or the registers one after the other (R325). -/
def joinData (table : Nat) (l : List (Nat × List Byte)) : List Byte :=
  if table ≤ 1 then
    let r := l.foldl (fun (a : Nat × Nat) x => (a.1 + leNat x.2 % 2 ^ x.1 * 2 ^ a.2, a.2 + x.1)) (0, 0)
    leBytes ((r.2 + 7) / 8) r.1
  else l.flatMap (·.2)

/-- What is held for each piece of a request, in turn (R328). -/
def State.findAll (s : State) : List ((Nat × Nat × Nat) × Piece) → List (Piece × Option HeldValue) × State
  | [] => ([], s)
  | x :: l =>
    let v := s.findValue (s.get (Reg.RANGE_FRESH x.1.1)) x.2
    let r := v.2.findAll l
    ((x.2, v.1) :: r.1, r.2)

/-- A read request whose span lies in ranges (R328). -/
def State.serveRead (s : State) (bus : Nat) (q : ModbusReq) (table : Nat) (ps : List (Nat × Nat × Nat)) : State :=
  let u := q.unit.toNat
  let fn := q.function.toNat
  if ps.any (fun p => !s.flag (Reg.RANGE_RD_VALID p.1)) then s.answerMaster bus u fn 1 []
  else
    let s := s.when (decide (1 < ps.length)) (fun s => s.bump Cnt.BRIDGE_CUTS)
    let far := ps.map (fun p => (p, s.farPiece p.1 p.2.1 p.2.2 false))
    let s := forAll far s (fun s x => s.noteShape x.1.1 x.2)
    let r := s.findAll far
    let s := r.2
    match r.1.findSome? (fun x => match x.2 with | some v => (match v.held with | .exception c => some (x.1, c) | .late => some (x.1, 0x0B) | .values _ => none) | none => none) with
    | some (p, c) =>
      (s.setBridge { s.bridge with values := s.bridge.values.filter (fun v => v.piece != p) }).answerMaster bus u fn c []
    | none =>
      if r.1.all (fun x => x.2.isSome) then
        let vs := r.1.filterMap (fun x => x.2)
        let s := s.bump Cnt.ENGINE_RA_CONFIRMED (vs.filter (·.ahead)).length
        let s := s.when (vs.any (fun v => !v.ahead)) (fun s => s.bump Cnt.BRIDGE_FETCH_ANSWERED)
        let s := s.setBridge { s.bridge with values := s.bridge.values.map (fun v => if vs.any (fun w => w.piece == v.piece) then { v with used := true } else v) }
        let data := joinData table (vs.map (fun v => (v.piece.count, match v.held with | .values bs => bs | _ => [])))
        s.answerMaster bus u fn 0 data
      else
        let s := forAll r.1 s (fun s x =>
          if x.2.isSome || s.bridge.fetches.any (fun f => f.piece == x.1) then s else s.issueRead x.1 false)
        s.answerBusy bus u fn

/-- MODBUS_REQUEST (R324 to R328). [Log entries 130: PRESUMED, 131: DESIGN CHOICE] -/
def execModbusRequest (bus : Fin 2) (r : ModbusReq) (frameOk : Bool) (s : State) : Result :=
  .next <|
    let n := bus.val
    let u := r.unit.toNat
    let fn := r.function.toNat
    if !s.flag (Reg.RS485_CFG_EN n) || s.flag (Reg.RS485_CFG_ROLE n) then s
    else if !frameOk then s.bump (Cnt.FIELD_BUS_ERRORS (4 + n))
    else
      let c := (s.bump (Cnt.FIELD_FRAMES_RX (4 + n))).countFrame (4 + n)
      let s := c.2
      let known := (List.range 64).any (fun k => s.flag (Reg.RANGE_VALID k) && s.get (Reg.RANGE_BUS k) == n && s.get (Reg.RANGE_UNIT k) == u)
      if u = 0 then
        match tableOf fn with
        | none => s
        | some t =>
          match s.piecesOf (s.rangesOf n none t) 65 r.address.toNat r.count.toNat with
          | some ps =>
            if isWriteFn fn && countOk fn r.count.toNat && byteCountOk r && ps.all (fun p => s.get (Reg.RANGE_MODE p.1) == 0) then
              s.serveWrite n r t ps false c.1
            else s
          | none => s
      else if !known then s
      else if fn = 0x16 ∨ fn = 0x17 then (s.bump Cnt.BRIDGE_RMW_REFUSED).answerMaster n u fn 1 []
      else
        match tableOf fn with
        | none => s.answerMaster n u fn 1 []
        | some t =>
          if !countOk fn r.count.toNat || (isWriteFn fn && !byteCountOk r) then s.answerMaster n u fn 3 []
          else
            match s.piecesOf (s.rangesOf n (some u) t) 65 r.address.toNat r.count.toNat with
            | none => s.answerMaster n u fn 2 []
            | some ps =>
              if s.flag Reg.BRIDGE_CFG_COMPAT ∧ 1 < ps.length then (s.bump Cnt.BRIDGE_COMPAT_ERRORS).answerMaster n u fn 2 []
              else if isWriteFn fn then s.serveWrite n r t ps true c.1
              else s.serveRead n r t ps

/-- A value held in place of what was held for its piece (R225): a value read ahead that has answered nothing is counted. -/
def State.holdValue (s : State) (v : HeldValue) : State :=
  let old := s.bridge.values.filter (fun x => x.piece == v.piece)
  let s := s.bump Cnt.ENGINE_RA_UNUSED (old.filter (fun x => x.ahead && !x.used)).length
  s.setBridge { s.bridge with values := s.bridge.values.filter (fun x => x.piece != v.piece) ++ [v] }

/-- READ_ANSWER (R320, R328, R225): held until a matching read, unless the configuration has changed since the fetch. [Log entry 133: DESIGN CHOICE] -/
def execReadAnswer (box : BoxNo) (msg : List Byte) (s : State) : Result :=
  .next <|
    match (parseModbus msg).filter (fun m => m.op == 0x12) with
    | none => s.bump Cnt.BRIDGE_BAD_MESSAGES
    | some m =>
      match s.bridge.fetches.find? (fun f => f.tag == m.tag.toNat && s.boxOfBind f.piece.bind == some box.val) with
      | none => s
      | some f =>
        let st := m.status.toNat
        if st = 0 ∧ m.data.length ≠ dataBytes f.piece.table f.piece.count then s.bump Cnt.BRIDGE_BAD_MESSAGES
        else
          let s := s.setBridge { s.bridge with fetches := s.bridge.fetches.filter (fun x => x.tag != f.tag) }
          if f.gen ≠ s.get Reg.BRIDGE_GEN_GEN then s.bump Cnt.ENGINE_RA_RECONFIG
          else
            let h := if st = 0 then Held.values m.data else .exception (if st ≤ 0x0B then st else 0x0B)
            s.holdValue ⟨f.piece, h, f.ahead, f.start, f.gen, f.written, false⟩

/-- WRITE_ANSWER (R320, R327). -/
def execWriteAnswer (box : BoxNo) (msg : List Byte) (s : State) : Result :=
  .next <|
    match (parseModbus msg).filter (fun m => m.op == 0x13) with
    | none => s.bump Cnt.BRIDGE_BAD_MESSAGES
    | some m =>
      s.setBridge { s.bridge with confirms := s.bridge.confirms.map (fun c =>
        if c.tag = m.tag.toNat ∧ c.result = none ∧ s.boxOfBind c.piece.bind = some box.val then { c with result := some m.status.toNat, since := s.round }
        else c) }

/-- FETCH_TIMEOUT (R327, R328, R334): the next matching request is answered 0x0B. -/
def execFetchTimeout (tag : BitVec 16) (s : State) : Result :=
  .next <|
    let due := fun (since : Nat) => decide (since + s.get Reg.BRIDGE_CFG_FETCH_TIMEOUT ≤ s.round)
    match s.bridge.fetches.find? (fun f => f.tag == tag.toNat && due f.since) with
    | some f =>
      let s := (s.setBridge { s.bridge with fetches := s.bridge.fetches.filter (fun x => x.tag != f.tag) }).bump Cnt.BRIDGE_FETCH_TIMEOUTS
      s.holdValue ⟨f.piece, .late, false, s.now, s.get Reg.BRIDGE_GEN_GEN, false, false⟩
    | none =>
      let mine := fun (c : Confirm) => c.tag == tag.toNat && c.result == none && due c.since
      if s.bridge.confirms.any mine then
        (s.setBridge { s.bridge with confirms := s.bridge.confirms.map (fun c =>
          if mine c then { c with result := some 0xFE, since := s.round } else c) }).bump Cnt.BRIDGE_FETCH_TIMEOUTS
      else s

/-- The shape of a range by its place. -/
def State.shapeAt (s : State) (range shape : Nat) : Option Shape := (s.bridge.shapes.filter (fun x => x.range == range))[shape]?

/-- READ_AHEAD (R329). -/
def execReadAhead (range : Fin 64) (shape : Fin 4) (s : State) : Result :=
  .next <|
    match s.shapeAt range.val shape.val with
    | none => s
    | some x =>
      if s.flag (Reg.RANGE_RA range.val) && !x.sent && decide (x.lastRead + s.get (Reg.RANGE_RA_DELAY range.val) ≤ s.round) then
        let s := s.setBridge { s.bridge with shapes := s.bridge.shapes.map (fun y => if y = x then { y with sent := true } else y) }
        if s.bridge.fetches.any (fun f => f.piece == x.piece) then s else s.issueRead x.piece true
      else s

/-- READ_AHEAD_STOP (R329). -/
def execReadAheadStop (range : Fin 64) (shape : Fin 4) (s : State) : Result :=
  .next <|
    match s.shapeAt range.val shape.val with
    | none => s
    | some x =>
      if x.lastRead + 8 * s.get (Reg.RANGE_RA_DELAY range.val) ≤ s.round then
        s.setBridge { s.bridge with shapes := s.bridge.shapes.erase x }
      else s

/-- CONFIRM_UNCLAIMED (R327). -/
def execConfirmUnclaimed (tag : BitVec 16) (s : State) : Result :=
  .next <|
    match s.bridge.confirms.find? (fun c => c.tag == tag.toNat && c.result.isSome && decide (c.since + 8000 ≤ s.round)) with
    | some c => (s.setBridge { s.bridge with confirms := s.bridge.confirms.filter (fun x => x.tag != c.tag) }).bump Cnt.BRIDGE_CONFIRM_UNCLAIMED
    | none => s

/-- The order of R330. -/
def MbClass.rank : MbClass → Nat | .registered => 0 | .confirmed => 1 | .posted => 2 | .read => 3 | .ahead => 4

/-- A request put on a master bus. -/
def State.putRequest (s : State) (n : Nat) (t : MbTx) : State :=
  (s.bump (Cnt.FIELD_FRAMES_TX (4 + n))).emit
    (.bus 8 (4 + n) 1 ([t.msg.farUnit.toNat, t.msg.function.toNat, t.msg.address.toNat, t.msg.count.toNat] ++ t.msg.data.map (·.toNat)))

/-- A registered message meets an RS-485 bus that can start it (R330, R331): passed, and issued or consumed as REFUSED. -/
def State.startModbus (s : State) (b q bus : Nat) : State :=
  match s.passToBridge b q with
  | none => s
  | some (payload, s) =>
    let n := bus - 4
    match (parseModbus payload).filter (fun m => m.op == 0x10) with
    | none => s.endRegistered b .refused 0
    | some m =>
      if bus ≤ 3 || !s.flag (Reg.RS485_CFG_ROLE n) || decide (s.get (Reg.RS485_TIMING_REG_MAX_BYTES n) < m.data.length) then s.endRegistered b .refused 0
      else
        let x := s.masterBus n
        let t : MbTx := ⟨b, .registered, some q, m, 0⟩
        let s := (s.setMasterBus n { x with cur := some t }).putRequest n t
        if m.farUnit = 0 then s.endRegistered b .done 0 else s

/-- The registered message that waits for a bus (R330, R331): the next to be passed of a box bound to it. -/
def State.nextRegistered (s : State) (bus : Nat) : Option (Nat × Nat) :=
  ((List.range 64).filterMap (fun k =>
    if s.flag (Reg.BIND_VALID k) && s.get (Reg.BIND_BUS k) == bus then
      let b := s.get (Reg.BIND_BOX k)
      match s.book b with
      | some r =>
        if r.recv && !r.host && r.passedThru == r.consumedThru && (s.pigeon b (nextSeq r.passedThru)).isSome then some (b, nextSeq r.passedThru)
        else none
      | none => none
    else none)).head?

/-- The next message a master bus issues, in the order of R330, registered writes first; a broadcast awaits no response. The number bounds the
messages so ended. -/
def State.startMaster (s : State) (n : Nat) : Nat → State
  | 0 => s
  | k + 1 =>
    let x := s.masterBus n
    if x.cur.isSome || !s.busUp (4 + n) then s
    else
      match (s.nextRegistered (4 + n)).filter (fun _ => s.busReady (4 + n) && s.skUp) with
      | some r => (s.startModbus r.1 r.2 (4 + n)).startMaster n k
      | none =>
        match ([1, 2, 3, 4].filterMap (fun c => x.queue.find? (fun t => t.cls.rank == c))).head? with
        | none => s
        | some t =>
          let rest := x.queue.erase t
          let s := (s.setMasterBus n { queue := rest, cur := if t.msg.farUnit = 0 then none else some t }).putRequest n t
          if t.msg.farUnit = 0 then s.startMaster n k else s

/-- An answer message returns on a box's tunnel (R320). -/
def State.answerMessage (s : State) (t : MbTx) (status : Nat) (data : List Byte) : State :=
  match t.cls with
  | .read => s.sendModbus t.box { t.msg with op := 0x12, status := BitVec.ofNat 8 status, data := data }
  | .ahead => s.sendModbus t.box { t.msg with op := 0x12, status := BitVec.ofNat 8 status, data := data }
  | .confirmed => s.sendModbus t.box { t.msg with op := 0x13, status := BitVec.ofNat 8 status, postmark := 0, data := [] }
  | _ => s

/-- The class of a message at a master bus (R330): a WRITE with a TAG is CONFIRMED (R327). [Log entry 132: DEDUCED] -/
def mbClass (m : ModbusMsg) : Option MbClass :=
  if m.op = 0x10 then some (if m.tag = 0 then .posted else .confirmed)
  else if m.op = 0x11 then some (if m.status = 1 then .ahead else .read)
  else none

/-- MASTER_BUS_MESSAGE (R320, R330, R331). A registered message is the one in the box's pigeonhole; `silent` says that the bus is silent, so that
it can start. -/
def execMasterBusMessage (box : BoxNo) (seq : Option (BitVec 32)) (msg : List Byte) (silent : Bool) (s : State) : Result :=
  .next <|
    let b := box.val
    match s.busOf b with
    | none => s
    | some bus =>
      let n := bus - 4
      match seq with
      | some q => if silent && s.busReady bus then s.startModbus b q.toNat bus else s
      | none =>
        match (parseModbus msg).bind (fun m => (mbClass m).map (fun c => (m, c))) with
        | none => s.bump Cnt.BRIDGE_BAD_MESSAGES
        | some (m, c) =>
          if bus ≤ 3 || !s.flag (Reg.RS485_CFG_ROLE n) then s.bump Cnt.BRIDGE_BAD_MESSAGES
          else
            let t : MbTx := ⟨b, c, none, m, 0⟩
            if !s.busUp bus then (s.bump (Cnt.FIELD_TX_DROPPED bus)).answerMessage t 0xFD []
            else
              let x := s.masterBus n
              if 32 ≤ x.queue.length then s else (s.setMasterBus n { x with queue := x.queue ++ [t] }).startMaster n 33

/-- MODBUS_RESPONSE (R330, R331). -/
def execModbusResponse (bus : Fin 2) (exception : Byte) (data : List Byte) (s : State) : Result :=
  .next <|
    let n := bus.val
    let x := s.masterBus n
    match x.cur with
    | none => s
    | some t =>
      let e := exception.toNat
      let s := s.bump (Cnt.FIELD_FRAMES_RX (4 + n))
      let s := s.when (e != 0) (fun s => s.bump (Cnt.FIELD_EXCEPTIONS_RX (4 + n)))
      let s := if t.seq.isSome then s.endRegistered t.box (if e = 0 then .done else .exception) e
        else (s.setMasterBus n { x with cur := none }).answerMessage t e data
      s.startMaster n 33

/-- RESP_TIMEOUT (R330, R331): repeated up to RETRIES times, then 0xFE. -/
def execRespTimeout (bus : Fin 2) (s : State) : Result :=
  .next <|
    let n := bus.val
    let x := s.masterBus n
    match x.cur with
    | none => s
    | some t =>
      let s := s.bump (Cnt.FIELD_RESP_TIMEOUTS (4 + n))
      if t.seq.isSome then (s.endRegistered t.box .noResponse 0).startMaster n 33
      else if t.tries < s.get (Reg.RS485_TIMING_RETRIES n) then
        let t := { t with tries := t.tries + 1 }
        ((s.setMasterBus n { x with cur := some t }).bump (Cnt.FIELD_RETRIES_USED (4 + n))).putRequest n t
      else ((s.setMasterBus n { x with cur := none }).answerMessage t 0xFE []).startMaster n 33

/-- A ROUTE entry's words are in the format of R336. -/
def routeOk (w0 w1 : Nat) : Bool := bitsOf w1 6 25 == 0 && (bitOf w1 31 || decide (bitsOf w0 0 29 < 0x800))

/-- A RANGE entry's words are in the format of R336; the ranges of values apply to a valid entry. -/
def rangeOk (w0 w1 w2 w3 : Nat) : Bool :=
  bitsOf w0 24 3 == 0 && bitsOf w2 7 9 == 0 &&
  (!bitOf w0 31 ||
    (let mode := bitsOf w0 29 2
     let ra := bitOf w0 28
     let unit := bitsOf w0 8 8
     let far := bitsOf w0 0 8
     let start := bitsOf w1 16 16
     let count := bitsOf w1 0 16
     mode != 3 && decide (1 ≤ unit) && decide (unit ≤ 247) && decide (far ≤ 247) && (far != 0 || (mode == 0 && !ra)) &&
     decide (1 ≤ count) && decide (start + count ≤ 65536) && decide (bitsOf w2 16 16 + count ≤ 65536) &&
     (!bitOf w2 6 || decide (1 ≤ bitsOf w3 16 16)) && (!ra || decide (16 ≤ bitsOf w3 0 16))))

/-- No two valid routes have the same bus, IDE and ID (R335). -/
def State.routesApart (s : State) : Bool :=
  let l := s.routes.map (fun r => (r.2.1, r.2.2.1, r.2.2.2.1))
  l.length == l.eraseDups.length

/-- No two valid ranges of one bus, unit and table overlap (R335). -/
def State.rangesApart (s : State) : Bool :=
  let rs := (List.range 64).filter (fun r => s.flag (Reg.RANGE_VALID r))
  rs.all (fun r => rs.all (fun q => r == q || !(s.get (Reg.RANGE_BUS r) == s.get (Reg.RANGE_BUS q) &&
    s.get (Reg.RANGE_UNIT r) == s.get (Reg.RANGE_UNIT q) && s.get (Reg.RANGE_TABLE r) == s.get (Reg.RANGE_TABLE q) &&
    decide (s.get (Reg.RANGE_START r) < s.get (Reg.RANGE_START q) + s.get (Reg.RANGE_COUNT q)) &&
    decide (s.get (Reg.RANGE_START q) < s.get (Reg.RANGE_START r) + s.get (Reg.RANGE_COUNT r)))))

/-- Whole words written at the next boundary. -/
def State.shadowWords (s : State) (l : List (Nat × Word)) : State := forAll l s (fun s w => s.shadowWrite w.1 0xFFFFFFFF w.2)

/-- ROUTE_WRITE (R335). -/
def execRouteWrite (h : CmdHdr) (items : List (BitVec 16 × Word × Word)) (s : State) : Result :=
  .next <| s.runOpcode h 0x0400
    (leBytes 1 items.length ++ [0] ++ items.flatMap (fun i => leBytes 2 i.1.toNat ++ leBytes 4 i.2.1.toNat ++ leBytes 4 i.2.2.toNat))
    (h.paramLen == 2 + 10 * items.length) (fun _ s =>
    if items.length < 1 || 64 < items.length || items.any (fun i => decide (4095 < i.1.toNat) || !routeOk i.2.1.toNat i.2.2.toNat) then
      (s, .done .badParam [])
    else
      let ws := items.flatMap (fun i => [(Reg.ROUTE_0 i.1.toNat, i.2.1), (Reg.ROUTE_4 i.1.toNat, i.2.2)])
      if s.pendingTouches (fun a => ws.any (fun w => w.1 == a)) then (s, .done .stageConflict [])
      else
        let t := s.shadowWords ws
        if t.applyShadows.routesApart then (t, .done .ok (leBytes 8 (s.round + 1))) else (s, .done .checkFailed []))

/-- One entry of ROUTE_READ (R365). -/
def State.routeData (s : State) (i : Nat) : List Byte :=
  leBytes 2 i ++ leBytes 2 0 ++ leBytes 4 (s.word (Reg.ROUTE_0 i)).toNat ++ leBytes 4 (s.word (Reg.ROUTE_4 i)).toNat

/-- ROUTE_READ (R335). -/
def execRouteRead (h : CmdHdr) (mode count : Byte) (first : BitVec 16) (bus ide : Byte) (id : Word) (s : State) : Result :=
  .next <| s.runOpcode h 0x0401
    ([mode, count] ++ leBytes 2 first.toNat ++ [bus, ide, 0, 0] ++ leBytes 4 id.toNat)
    true (fun _ s =>
    if mode.toNat = 0 then
      if count.toNat < 1 ∨ 64 < count.toNat ∨ 4096 < first.toNat + count.toNat then (s, .done .badParam [])
      else (s, .done .ok (((List.range count.toNat).map (fun k => first.toNat + k)).flatMap s.routeData))
    else if mode.toNat = 1 then
      if 3 < bus.toNat ∨ 1 < ide.toNat ∨ 2 ^ 29 ≤ id.toNat then (s, .done .badParam [])
      else
        match s.routes.find? (fun r => r.2.1 == bus.toNat && r.2.2.1 == ide.toNat && r.2.2.2.1 == id.toNat) with
        | some r => (s, .done .ok (s.routeData r.1))
        | none => (s, .done .ok [])
    else (s, .done .badParam []))

/-- RANGE_WRITE (R335). -/
def execRangeWrite (h : CmdHdr) (items : List (Byte × Word × Word × Word × Word)) (s : State) : Result :=
  .next <| s.runOpcode h 0x0402
    (leBytes 1 items.length ++ [0] ++ items.flatMap (fun i =>
      [i.1, 0] ++ leBytes 4 i.2.1.toNat ++ leBytes 4 i.2.2.1.toNat ++ leBytes 4 i.2.2.2.1.toNat ++ leBytes 4 i.2.2.2.2.toNat))
    (h.paramLen == 2 + 18 * items.length) (fun _ s =>
    if items.length < 1 || 16 < items.length || items.any (fun i => decide (63 < i.1.toNat) ||
        !rangeOk i.2.1.toNat i.2.2.1.toNat i.2.2.2.1.toNat i.2.2.2.2.toNat) then (s, .done .badParam [])
    else
      let ws := items.flatMap (fun i => let r := i.1.toNat
        [(Reg.RANGE_0 r, i.2.1), (Reg.RANGE_4 r, i.2.2.1), (Reg.RANGE_8 r, i.2.2.2.1), (Reg.RANGE_C r, i.2.2.2.2)])
      if s.pendingTouches (fun a => ws.any (fun w => w.1 == a)) then (s, .done .stageConflict [])
      else
        let t := s.shadowWords ws
        if t.applyShadows.rangesApart then (t, .done .ok (leBytes 8 (s.round + 1))) else (s, .done .checkFailed []))

/-- A bus that has been disabled or enabled at this boundary (R333, R336): queues of a disabled bus are discarded. -/
def State.busEnables (s : State) : State :=
  let s := forAll [0, 1, 2, 3] s (fun s n =>
    let en := s.flag (Reg.CAN_CFG_EN n) && s.powered .station && !s.servicePowered
    let st := s.get (Reg.BUS_STATE_CAN_STATE n)
    if en ∧ st = 3 then s.set (Reg.BUS_STATE_CAN_STATE n) 0
    else if !en ∧ st ≠ 3 then
      let x := s.canBus n
      ((s.set (Reg.BUS_STATE_CAN_STATE n) 3).setCanBus n { x with queue := [] }).bump (Cnt.FIELD_TX_DROPPED n) x.queue.length
    else s)
  forAll [0, 1] s (fun s n =>
    let x := s.masterBus n
    if (s.flag (Reg.RS485_CFG_EN n) && s.powered .station) || x.queue == [] then s
    else (s.setMasterBus n { x with queue := [] }).bump (Cnt.FIELD_TX_DROPPED (4 + n)) x.queue.length)

/-- The writable words of the FIELD and BRIDGE blocks, by which a change of configuration is known (R225). -/
def State.bridgeConfig (s : State) : List (Nat × Word) :=
  s.regs.filter (fun e => (decide (Reg.CAN_CFG 0 ≤ e.1) && decide (e.1 < Reg.BUS_STATE 0)) ||
    (decide (Reg.BRIDGE_CFG ≤ e.1) && decide (e.1 < Reg.RANGE_0 64)))

/-- The bridge at a boundary: a change of configuration starts a new generation, values and replies of earlier ones go, held
offers are made again (R225, R323, R333). `before` is the configuration before this boundary. -/
def State.bridgeAtBoundary (s : State) (before : List (Nat × Word)) : State :=
  let s := s.busEnables
  let s :=
    if s.bridgeConfig == before then s
    else
      let n := s.bridge.values.length
      let s := s.set Reg.BRIDGE_GEN_GEN (s.get Reg.BRIDGE_GEN_GEN + 1)
      (s.setBridge { s.bridge with values := [] }).bump Cnt.ENGINE_RA_RECONFIG n
  forAll [0, 1, 2, 3] s (fun s n => s.retryHeld n)

/-- PFW_N holds registered transactions back, or no longer (R246, R336). -/
def State.holdRegistered (s : State) (b : Bool) : State := forAll [0, 1, 2, 3, 4, 5] s (fun s n => s.setFlag (Reg.BUS_STATE_PFW_HOLD n) b)

end Machine
end Sys2Proof
end

