-- ==== Sys2Proof/Machine/Media.lean ====
section
/-!
DEFINITION. Display, storage and network stations (R267 to R293): parcels and playout, HPD and AUX, the storage relay, Ethernet
frames and PF1.
-/
namespace Sys2Proof
namespace Machine

/-- A DisplayPort port's record. -/
def State.dp (s : State) (d : Nat) : DpSt := (mget s.media.dp d).getD DpSt.init
def State.setDp (s : State) (d : Nat) (x : DpSt) : State := { s with media := { s.media with dp := mput s.media.dp d x } }
def State.updDp (s : State) (d : Nat) (f : DpSt → DpSt) : State := s.setDp d (f (s.dp d))

/-- DISPLAY_EVENT (R293) with its cause: 0 PLUG, 1 UNPLUG, 2 TRAINED, 3 NO_FIT, 4 RESYNC. [Log entry 26: DESIGN CHOICE] -/
def State.displayEvent (s : State) (d cause : Nat) : State := s.notice 0x8080 [d, cause]

/-- The port is enabled and its domain is powered (R19, R291). -/
def State.dpOn (s : State) (d : Nat) : Bool := s.powered .station && !s.servicePowered && s.flag (Reg.DP_CFG_EN d)

/-- The DISPLAY tunnel of a port, where its box is OPEN. -/
def State.dpTunnel (s : State) (d : Nat) : Option Box :=
  let b := s.get (Reg.DP_CFG_BOX d)
  let x := s.box b
  if b ≠ 0 ∧ x.state = .opened ∧ x.kind = .display then some x else none

/-- The input of this hub at the other end of an output's tunnel (R277). [Log entry 115: DESIGN CHOICE] -/
def State.localInput (s : State) (d : Nat) : Option Nat :=
  match s.dpTunnel d with
  | some x => if x.peerPc = s.postcode then [4, 5].find? (fun i => s.get (Reg.DP_CFG_BOX i) == x.peerBox) else none
  | none => none

/-- A far output's unplug reaches an input: its copy is stale and its HPD goes low (R277). -/
def State.inputUnplug (s : State) (i : Nat) : State :=
  (s.updDp i (fun x => { x with copy := none })).setFlag (Reg.DP_STATE_HPD i) false

/-- A far output's IRQ_HPD reaches an input: a 750 µs low pulse where its HPD is high (R277). -/
def State.inputPulse (s : State) (i : Nat) : State :=
  if s.flag (Reg.DP_STATE_HPD i) then s.emit (.bus 5 i 1 [750]) else s

/-- A decoded HPD event counted and relayed to the far input (R276): kind 2 on port 5 is a relayed event with its code, 0 plug,
1 unplug, 2 IRQ_HPD. [Log entry 115: DESIGN CHOICE] -/
def State.hpdEvent (s : State) (d code : Nat) : State :=
  let s := s.bump (Cnt.DISPLAY_HPD_EVENTS d)
  match s.localInput d with
  | some i => if code = 1 then s.inputUnplug i else if code = 2 then s.inputPulse i else s
  | none => if (s.dpTunnel d).isSome then s.emit (.bus 5 d 2 [code]) else s

/-- A port's link is trained, within MAX_RATE and MAX_LANES (R269). -/
def State.trained (s : State) (n rate lanes : Nat) : State :=
  let s := s.set (Reg.DP_STATE_RATE n) (min rate (s.get (Reg.DP_CFG_MAX_RATE n)))
  let s := s.set (Reg.DP_STATE_LANES n) (min lanes (s.get (Reg.DP_CFG_MAX_LANES n)))
  (s.setFlag (Reg.DP_STATE_TRAINED n) true).displayEvent n 2

/-- HPD_PLUG (R269, R276): the sink is read and the link trained within MAX_RATE and MAX_LANES. -/
def execHpdPlug (d : Fin 4) (rate : Fin 7) (lanes : Fin 3) (s : State) : Result :=
  .next <|
    let n := d.val
    if !s.dpOn n || s.flag (Reg.DP_STATE_HPD n) then s
    else
      let s := (s.setFlag (Reg.DP_STATE_HPD n) true).hpdEvent n 0
      (s.displayEvent n 0).trained n rate.val lanes.val

/-- HPD_UNPLUG (R276, R289): parcels in flight are discarded. -/
def execHpdUnplug (d : Fin 4) (s : State) : Result :=
  .next <|
    let n := d.val
    if !s.dpOn n || !s.flag (Reg.DP_STATE_HPD n) then s
    else
      let s := (((s.setFlag (Reg.DP_STATE_HPD n) false).setFlag (Reg.DP_STATE_TRAINED n) false).set (Reg.DP_STATE_STREAM n) 0).hpdEvent n 1
      (s.updDp n (fun x => { x with held := [], restart := false })).displayEvent n 1

/-- IRQ_HPD (R276). -/
def execIrqHpd (d : Fin 4) (s : State) : Result :=
  .next <| if s.dpOn d.val && s.flag (Reg.DP_STATE_HPD d.val) then s.hpdEvent d.val 2 else s

/-- A byte of a list with some bits cleared. -/
def clearBits (bs : List Byte) (at_ : Nat) (mask : Byte) : List Byte := bs.mapIdx (fun i b => if i = at_ then b &&& ~~~mask else b)

/-- The capability copy as an input shows it (R277): MST_CAP is bit 0 of DPCD 0x00021, and the adaptive-sync capability bit 6 of
0x00007; DPCD 0x00000 to 0x000FF hold no content-protection capability. [Log entry 111: PRESUMED] -/
def capabilityShown (dpcd : List Byte) : List Byte := clearBits (clearBits (dpcd.take 256) 0x21 0x01) 0x07 0x40

/-- CAPABILITY_COPY (R277). -/
def execCapabilityCopy (d : Fin 2) (dpcd edid : List Byte) (s : State) : Result :=
  .next <|
    let n := 4 + d.val
    if s.dpOn n then
      (s.updDp n (fun x => { x with copy := some (capabilityShown dpcd, edid) })).setFlag (Reg.DP_STATE_HPD n) true
    else s

/-- What an input answers on AUX: 0 an answer made at the input, 1 AUX_DEFER, 2 AUX_NACK, 3 the far sink's reply. -/
def State.auxAnswer (s : State) (n code : Nat) (bs : List Byte) : State := (s.emit (.bus 5 n 3 [code])).when (bs != []) (fun s => s.emit (.bytes 5 bs))

/-- AUX_REQUEST (R269, R277, R278): link training is answered at the input, capability from the copy; every other request goes to
the far output as an item. [Log entry 112: DESIGN CHOICE] -/
def execAuxRequest (d : Fin 2) (k : AuxKind) (s : State) : Result :=
  .next <|
    let n := 4 + d.val
    if !s.dpOn n then s
    else
      match k with
      | .malformed => s
      | .linkTraining t =>
        let s := s.auxAnswer n 0 []
        match t with
        | some x => s.trained n x.1.val x.2.val
        | none => s
      | .edidRead =>
        match (s.dp n).copy with
        | some c => s.auxAnswer n 0 c.2
        | none => s.auxAnswer n 1 []
      | .dpcdRead a =>
        if a.val < 256 then
          match (s.dp n).copy with
          | some c => s.auxAnswer n 0 ((c.1.drop a.val).take 1)
          | none => s.auxAnswer n 1 []
        else
          let s := s.when ((s.dp n).aux.isNone) (fun s => (s.updDp n (fun x => { x with aux := some 0 })).emit (.bus 5 n 4 [a.val]))
          s.auxAnswer n 1 []
      | .other =>
        let s := s.when ((s.dp n).aux.isNone) (fun s => (s.updDp n (fun x => { x with aux := some 0 })).emit (.bus 5 n 4 []))
        s.auxAnswer n 1 []

/-- AUX_REPLY (R278, R289): a reply after the item limit finds no request and is discarded. -/
def execAuxReply (d : Fin 2) (reply : List Byte) (s : State) : Result :=
  .next <|
    let n := 4 + d.val
    if s.dpOn n && (s.dp n).aux.isSome then (s.updDp n (fun x => { x with aux := none })).auxAnswer n 3 reply else s

/-- AUX requests cross a boundary; at the item limit the source gets AUX_NACK (R217, R278). [Log entry 112: DESIGN CHOICE] -/
def State.auxAtBoundary (s : State) : State :=
  forAll [4, 5] s (fun s n =>
    match (s.dp n).aux with
    | none => s
    | some k =>
      if 79 ≤ k then ((s.updDp n (fun x => { x with aux := none })).bump (Cnt.DISPLAY_AUX_NACKED n)).auxAnswer n 2 []
      else s.updDp n (fun x => { x with aux := some (k + 1) }))

/-- The parcels an input may send in a round (R274): PRI of its ISO flow; a tunnel of another class or within the hub has no run. [Log entry 113: DESIGN CHOICE] -/
def State.parcelLimit (s : State) (x : Box) : Option Nat :=
  if x.cls = .iso then x.flow.map (fun i => s.get (Reg.ISO_ALLOT_PRI i)) else none

/-- The 16-byte header of a parcel (R271). -/
def parcelHeader (p : Parcel) (msaNew : Bool) : List Byte :=
  let bit := fun (x : Bool) (n : Nat) => if x then n else 0
  bigBytes 8 p.postmark.toNat ++ bigBytes 4 p.streamRate.toNat ++ bigBytes 2 p.line.toNat ++
  bigBytes 1 (bit p.frameStart 1 + bit p.dsc 2 + bit p.sdp 4 + bit msaNew 8) ++ [0]

/-- PARCEL_CLOSE (R270, R271, R274): `pc` is what the input has packed, its `msaNew` that the frame's MSA differs from the one
before. -/
def execParcelClose (d : Fin 2) (pc : Parcel) (s : State) : Result :=
  .next <|
    let n := 4 + d.val
    match s.dpTunnel n with
    | none => s
    | some x =>
      if !s.dpOn n || 2032 < pc.bytes then s
      else
        let y := s.dp n
        let s := s.set (Reg.DP_STATE_STREAM n) (if pc.dsc then 2 else 1)
        let red := match s.parcelLimit x with
          | some m => decide (m ≤ y.sent)
          | none => false
        if red then s.bump (Cnt.DISPLAY_PARCELS_RED n)
        else
          let msa := (pc.frameStart && pc.msaNew) || y.msaFor != x.inc
          let s := s.setDp n { y with sent := y.sent + 1, msaFor := x.inc }
          let s := (s.bump (Cnt.DISPLAY_PARCELS n)).emit (.bus 5 n 0 [x.peerPc, x.peerBox, pc.bytes])
          s.emit (.bytes 5 (parcelHeader pc msa))

/-- When a parcel plays (R272): POSTMARK + PLAYOUT × 125 µs. -/
def State.playAt (s : State) (d : Nat) (postmark : Nat) : Nat := postmark + s.get (Reg.DP_CFG_PLAYOUT d) * 131072

/-- A video frame is blanked, counted once a frame (R273). [Log entry 114: DEDUCED] -/
def State.blankFrame (s : State) (d : Nat) (fresh : Bool) : State :=
  if s.flag (Reg.DP_STATE_BLANKED d) && !fresh then s
  else (s.setFlag (Reg.DP_STATE_BLANKED d) true).bump (Cnt.DISPLAY_BLANKED_FRAMES d)

/-- Bits a round carries on a trained link (R268): 8b/10b to HBR3, 128b/132b from UHBR10. [Log entry 111: PRESUMED] -/
def linkBits (rate lanes : Nat) : Nat :=
  let perLane : Nat :=
    if rate = 0 then 162000 else if rate = 1 then 270000 else if rate = 2 then 540000 else if rate = 3 then 810000
    else if rate = 4 then 1212121 else if rate = 5 then 1636363 else 2424242
  perLane * 2 ^ lanes

/-- The stream needs more than the trained link carries (R274). -/
def State.noFit (s : State) (d : Nat) (p : Parcel) : Bool :=
  decide (linkBits (s.get (Reg.DP_STATE_RATE d)) (s.get (Reg.DP_STATE_LANES d)) < p.streamRate.toNat * p.cycleBits / 256)

/-- PARCEL (R47, R272, R273): held for playout, or late. Without a trained sink it is discarded (R289). A late one has been missed at its time. -/
def execParcel (d : Fin 4) (pc : Parcel) (s : State) : Result :=
  .next <|
    let n := d.val
    if !s.dpOn n || !s.flag (Reg.DP_STATE_TRAINED n) then s
    else if 125000 ≤ postmarkNs pc.postmark then s.bump Cnt.ROUND_RECORDS_DISCARDED
    else if s.playAt n pc.postmark.toNat < s.now then
      (s.bump (Cnt.DISPLAY_LATE_PARCELS n)).blankFrame n (pc.frameStart && !(s.dp n).missed.contains pc.postmark.toNat)
    else s.updDp n (fun x => { x with held := x.held ++ [pc] })

/-- A held parcel's time has come: it plays, or stays dark while the output is blanked (R272 to R274). [Log entry 114: DEDUCED] -/
def State.playParcel (s : State) (d : Nat) (pc : Parcel) (errorNs : Int) : State :=
  let y := s.dp d
  let s := s.setDp d { y with held := y.held.erase pc, line := pc.line.toNat }
  if s.noFit d pc then
    let first := !s.flag (Reg.DP_STATE_BLANKED d)
    (s.setFlag (Reg.DP_STATE_BLANKED d) true).when first (fun s => s.displayEvent d 3)
  else if s.flag (Reg.DP_STATE_BLANKED d) && !pc.frameStart then
    if pc.line.toNat < y.line then s.blankFrame d true else s
  else
    let resync := y.restart && pc.frameStart
    let s := s.when resync (fun s => ((s.updDp d (fun x => { x with restart := false })).bump (Cnt.DISPLAY_RESYNCS d)).displayEvent d 4)
    let s := (s.setFlag (Reg.DP_STATE_BLANKED d) false).updDp d (fun x => { x with missed := [] })
    let s := s.set (Reg.DP_STATE_STREAM d) (if pc.dsc then 2 else 1)
    let s := s.setS (Reg.DP_STATE_PLAYOUT_ERR d) (clampInt (-32767) 32767 errorNs)
    let s := s.when (decide (125000 < errorNs.natAbs)) (fun s => s.updDp d (fun x => { x with restart := true }))
    (s.bump (Cnt.DISPLAY_PARCELS d)).emit (.bus 5 d 5 [pc.postmark.toNat, pc.bytes])

/-- PLAYOUT_TIME (R272, R273): the playout time of the parcel with this POSTMARK comes. -/
def execPlayoutTime (d : Fin 4) (postmark : BitVec 64) (errorNs : Int) (s : State) : Result :=
  .next <|
    let n := d.val
    if !s.dpOn n || !s.flag (Reg.DP_STATE_TRAINED n) || s.now < s.playAt n postmark.toNat then s
    else
      match (s.dp n).held.find? (fun p => p.postmark == postmark) with
      | some pc => s.playParcel n pc errorNs
      | none =>
        ((s.bump (Cnt.DISPLAY_MISSED_PARCELS n)).blankFrame n false).updDp n (fun x => { x with missed := postmark.toNat :: x.missed })

/-- Outputs whose tunnel is no longer OPEN hold NoVideoStream (R289). -/
def State.displayDrained (s : State) : State :=
  forAll [0, 1, 2, 3] s (fun s d =>
    if s.get (Reg.DP_STATE_STREAM d) ≠ 0 ∧ (s.dpTunnel d).isNone then
      ((s.blankFrame d false).set (Reg.DP_STATE_STREAM d) 0).updDp d (fun x => { x with held := [] })
    else s)

/-- STORAGE_EVENT (R293): at a change of SSD_STATE, old and new; at the first timeout of a remote entry, 5 and the entry. -/
def State.setSsd (s : State) (v : Nat) : State :=
  let old := s.get Reg.SSD_STATE_STATE
  if old = v then s else (s.set Reg.SSD_STATE_STATE v).notice 0x8081 [old, v]

/-- SSD_ENUMERATE (R279): a device that is ready at once is ready, another initialises until it is enumerated again or its
timeout ends. [Log entry 117: DESIGN CHOICE] -/
def execSsdEnumerate (classOk behindSwitch ready : Bool) (namespaces : Byte) (sizes : List (BitVec 64)) (gen width : Fin 16) (s : State) : Result :=
  .next <|
    if !s.powered .hostio then s
    else
      let s := (s.set Reg.SSD_STATE_GEN gen.val).set Reg.SSD_STATE_WIDTH width.val
      if !classOk || behindSwitch then s.setSsd 4
      else
        let s := { s with media := { s.media with nsSizes := sizes.map (fun (x : BitVec 64) => x.toNat) } }
        (s.set Reg.SSD_STATE_NAMESPACES namespaces.toNat).setSsd (if ready then 2 else 1)

/-- SSD_READY_TIMEOUT (R279). -/
def execSsdReadyTimeout (s : State) : Result := .next (if s.get Reg.SSD_STATE_STATE = 1 then s.setSsd 3 else s)

/-- NVMe statuses (generic command status): the model's names for what R281 and R283 call by name. [Log entry 118: PRESUMED] -/
def nvInvalidOpcode : Nat := 0x01
def nvInvalidNamespace : Nat := 0x0B
def nvWriteProtected : Nat := 0x20
def nvTransient : Nat := 0x22
def nvRange : Nat := 0x80

/-- The admin and NVM commands of R281 by their NVMe opcodes. -/
def adminOps : List Nat := [0x00, 0x01, 0x02, 0x04, 0x05, 0x06, 0x08, 0x09, 0x0A, 0x0C]
def nvmOps : List Nat := [0x00, 0x01, 0x02, 0x08, 0x09]

/-- Commands that change blocks: Write, Write Zeroes, Dataset Management. [Log entry 118: PRESUMED] -/
def nvWrites (op : Nat) : Bool := op == 0x01 || op == 0x08 || op == 0x09

/-- A completion returned to a VF: kind 0 on port 3. -/
def State.vfDone (s : State) (v : VfSub) (status : Nat) : State := s.emit (.bus 3 v.vf 0 [v.opcode, v.vnsid, v.lba, v.count, status])

/-- The 64-bit START and COUNT of a relay entry. -/
def State.nsStart (s : State) (r : Nat) : Nat := s.get (Reg.RELAY_NS_START_LO r) + 2 ^ 32 * s.get (Reg.RELAY_NS_START_HI r)
def State.nsCount (s : State) (r : Nat) : Nat := s.get (Reg.RELAY_NS_COUNT_LO r) + 2 ^ 32 * s.get (Reg.RELAY_NS_COUNT_HI r)

/-- The relay namespace bound to a VF under a VNSID (R281). -/
def State.nsOf (s : State) (vf vnsid : Nat) : Option Nat :=
  (List.range 64).find? (fun r => s.flag (Reg.RELAY_NS_VALID r) && s.get (Reg.RELAY_NS_VF r) == vf && s.get (Reg.RELAY_NS_VNSID r) == vnsid)

/-- Remote commands of an entry outstanding (R282). -/
def State.remoteCount (s : State) (r : Nat) : Nat := mcount s.media.cmds (fun c => c.remote && c.entry == r)

/-- An NVMe command number taken. -/
def State.addNvme (s : State) (c : NvmeCmd) : State :=
  { s with media := { s.media with cmds := mput s.media.cmds s.media.nextCmd c, nextCmd := s.media.nextCmd + 1 } }

def State.dropNvme (s : State) (n : Nat) : State := { s with media := { s.media with cmds := mdel s.media.cmds n } }

/-- A completion returned to where a command came from: the VF, or the far relay (R282): kind 1 on port 4. A tunnel within the
hub returns it to the VF of the command it answers. -/
def State.nvmeDone (s : State) (c : NvmeCmd) (status : Nat) : State :=
  match c.forFar with
  | none => s.vfDone c.sub status
  | some f =>
    match mget s.media.cmds f.2 with
    | some d =>
      if d.remote && (s.box d.box).peerPc == s.postcode && (s.box d.box).peerBox == f.1 then (s.dropNvme f.2).vfDone d.sub status
      else s.emit (.bus 4 c.entry 1 [f.1, f.2, status])
    | none => s.emit (.bus 4 c.entry 1 [f.1, f.2, status])

/-- A local command issued to the device with its block numbers translated (R280, R282): kind 0 on port 4. -/
def State.issueLocal (s : State) (v : VfSub) (r : Nat) (forFar : Option (Nat × Nat)) : State :=
  let n := s.media.nextCmd
  let s := s.bump Cnt.STORAGE_CMDS_LOCAL
  let s := s.addNvme ⟨v, r, false, 0, 0, forFar, s.round⟩
  s.emit (.bus 4 r 0 [n, v.opcode, s.get (Reg.RELAY_NS_TARGET r), s.nsStart r + v.lba, v.count])

/-- A command on a local or exported entry: range, protection and the device's readiness, then issue. [Log entry 119: DESIGN CHOICE] -/
def State.runLocal (s : State) (v : VfSub) (r : Nat) (forFar : Option (Nat × Nat)) : State :=
  let c : NvmeCmd := ⟨v, r, false, 0, 0, forFar, s.round⟩
  if v.opcode ≠ 0 ∧ s.nsCount r < v.lba + v.count then s.nvmeDone c nvRange
  else if s.get Reg.SSD_STATE_STATE ≠ 2 then s.nvmeDone c nvTransient
  else s.issueLocal v r forFar

/-- An exported entry's command from a far relay (R280, R282): the entry must be VALID, exported and serve that box. [Log entry 119: DESIGN CHOICE] -/
def State.farNvme (s : State) (index box opcode lba count command : Nat) : State :=
  let v : VfSub := ⟨63, false, opcode, 0, lba, count⟩
  let c : NvmeCmd := ⟨v, index, false, 0, 0, some (box, command), s.round⟩
  if !s.flag (Reg.RELAY_NS_VALID index) || s.get (Reg.RELAY_NS_VF index) != 63 || s.get (Reg.RELAY_NS_BOX index) != box then
    s.nvmeDone c nvInvalidNamespace
  else if s.flag (Reg.RELAY_NS_RO_ACCESS index) && nvWrites opcode then s.nvmeDone c nvWriteProtected
  else s.runLocal v index (some (box, command))

/-- A remote command sent over its STORAGE tunnel (R282): kind 2 on port 4; within the hub the far relay is this hub's own. -/
def State.sendRemote (s : State) (v : VfSub) (r : Nat) : State :=
  let b := s.get (Reg.RELAY_NS_BOX r)
  let x := s.box b
  let n := s.media.nextCmd
  let s := (s.bump Cnt.STORAGE_CMDS_REMOTE).addNvme ⟨v, r, true, b, x.inc, none, s.round⟩
  if x.peerPc = s.postcode then s.farNvme (s.get (Reg.RELAY_NS_TARGET r) % 64) x.peerBox v.opcode v.lba v.count n
  else s.emit (.bus 4 r 2 [n, x.peerPc, x.peerBox, s.get (Reg.RELAY_NS_TARGET r), v.opcode, v.lba, v.count])

/-- A VF counted as waiting, once a round (R282). -/
def State.vfWaits (s : State) (vf : Nat) : State :=
  if s.media.waited.contains vf then s
  else ({ s with media := { s.media with waited := vf :: s.media.waited } }).bump Cnt.STORAGE_HELD_SUBMISSIONS

/-- A submission fetched (R281, R282). An Asynchronous Event Request stays outstanding till an event, of which the spec has none. [Log entry 118: PRESUMED] -/
def State.runSubmission (s : State) (v : VfSub) : State :=
  if v.admin then
    if v.opcode = 0x0C then s
    else if adminOps.contains v.opcode then s.vfDone v 0 else (s.bump Cnt.STORAGE_INVALID_OPCODE).vfDone v nvInvalidOpcode
  else if !nvmOps.contains v.opcode then (s.bump Cnt.STORAGE_INVALID_OPCODE).vfDone v nvInvalidOpcode
  else
    match s.nsOf v.vf v.vnsid with
    | none => s.vfDone v nvInvalidNamespace
    | some r =>
      if s.flag (Reg.RELAY_NS_RO_ACCESS r) && nvWrites v.opcode then s.vfDone v nvWriteProtected
      else if !s.flag (Reg.RELAY_NS_REMOTE r) then s.runLocal v r none
      else if (s.box (s.get (Reg.RELAY_NS_BOX r))).state ≠ .opened then s.vfDone v nvTransient
      else if 256 ≤ s.remoteCount r then ({ s with media := { s.media with held := s.media.held ++ [v] } }).vfWaits v.vf
      else s.sendRemote v r

/-- VF_SUBMISSION (R281, R282): behind submissions of the same VF that wait, it waits too. -/
def execVfSubmission (vf : Fin 48) (admin : Bool) (opcode : Byte) (vnsid : Word) (lba count : Nat) (s : State) : Result :=
  .next <|
    let v : VfSub := ⟨vf.val, admin, opcode.toNat, vnsid.toNat, lba, count⟩
    if !s.powered .hostio then s
    else if !admin && s.media.held.any (fun w => w.vf == v.vf && w.vnsid == v.vnsid) then
      ({ s with media := { s.media with held := s.media.held ++ [v] } }).vfWaits v.vf
    else s.runSubmission v

/-- Submissions that waited are fetched as their entries have room (R282). -/
def State.fetchHeld (s : State) : State :=
  forAll s.media.held ({ s with media := { s.media with held := [] } }) (fun s v =>
    if s.media.held.any (fun w => w.vf == v.vf && w.vnsid == v.vnsid) then { s with media := { s.media with held := s.media.held ++ [v] } }
    else s.runSubmission v)

/-- REMOTE_COMPLETION (R283). -/
def execRemoteCompletion (command : Nat) (status : BitVec 16) (s : State) : Result :=
  .next <|
    match mget s.media.cmds command with
    | some c => if c.remote then ((s.dropNvme command).nvmeDone c status.toNat).fetchHeld else s.bump Cnt.STORAGE_LATE_COMPLETIONS
    | none => s.bump Cnt.STORAGE_LATE_COMPLETIONS

/-- A remote command ends with Transient Transport Error (R283), told at the first of its entry in a round (R293). [Log entry 120: DESIGN CHOICE] -/
def State.nvmeTimeout (s : State) (n : Nat) (c : NvmeCmd) : State :=
  let s := (((s.dropNvme n).nvmeDone c nvTransient).bump Cnt.STORAGE_CMD_TIMEOUTS)
  if s.media.told.contains c.entry then s
  else ({ s with media := { s.media with told := c.entry :: s.media.told } }).notice 0x8081 [5, c.entry]

/-- CMD_TIMEOUT (R283): CMD_TIMEOUT seconds of 8,000 rounds after the command left. -/
def execCmdTimeout (command : Nat) (s : State) : Result :=
  .next <|
    match mget s.media.cmds command with
    | some c =>
      if c.remote ∧ c.since + s.get Reg.RELAY_CFG_CMD_TIMEOUT * 8000 ≤ s.round then (s.nvmeTimeout command c).fetchHeld else s
    | none => s

/-- VF_FLR (R288): the VF's commands are aborted; their completions will be late. -/
def execVfFlr (vf : Fin 48) (s : State) : Result :=
  .next <|
    ({ s with media := { s.media with
        cmds := s.media.cmds.filter (fun c => c.2.sub.vf != vf.val || c.2.forFar.isSome),
        held := s.media.held.filter (fun v => v.vf != vf.val) } }).fetchHeld

/-- SSD_COMPLETION (R282, R288): the device's status passes unchanged. -/
def execSsdCompletion (command : Nat) (status : BitVec 16) (s : State) : Result :=
  .next <|
    match mget s.media.cmds command with
    | some c =>
      if c.remote then s.bump Cnt.STORAGE_LATE_COMPLETIONS
      else
        let s := s.when (status != 0) (fun s => s.bump Cnt.STORAGE_SSD_ERRORS)
        ((s.dropNvme command).nvmeDone c status.toNat).fetchHeld
    | none => s.bump Cnt.STORAGE_LATE_COMPLETIONS

/-- SSD_FAULT (R289): the device gives no error of its own, so outstanding commands end with Transient Transport Error. -/
def execSsdFault (s : State) : Result :=
  .next <|
    if s.get Reg.SSD_STATE_STATE = 2 then
      (forAll (s.media.cmds.filter (fun c => !c.2.remote)) (s.setSsd 3) (fun s c =>
        (s.dropNvme c.1).nvmeDone c.2 nvTransient)).fetchHeld
    else s

/-- Remote commands whose tunnel is gone, or has reached its drain limit, complete (R289). -/
def State.storageAtBoundary (s : State) : State :=
  let gone := s.media.cmds.filter (fun c => c.2.remote && (
    let x := s.box c.2.box
    x.inc != c.2.inc || x.state == .free || (x.state == .draining && decide (x.since + 80000 ≤ s.round))))
  let s := forAll gone s (fun s c => s.nvmeTimeout c.1 c.2)
  let s := { s with media := { s.media with waited := [], told := [] } }
  let s := s.fetchHeld
  forAll (s.media.held.map (·.vf)) s (fun s vf => s.vfWaits vf)

/-- An item is of its context's kind (R227). -/
def itemFits (item : RelayItem) (k : Kind) : Bool :=
  match item with
  | .other => true
  | .nvme _ _ _ _ _ => k == .storage
  | .unplug | .irqHpd | .aux => k == .display

/-- ITEM_ARRIVAL (R210, R227): the item of a station block or a protocol envelope joins its context, or its source is held; one of another kind
is not taken. What a far station asks for is done here (R277, R278, R282). MGMT has no context; a P9 envelope for a box without one is
discarded. -/
def execItemArrival (box : BoxNo) (fromP9 : Bool) (estimate : Nat) (item : RelayItem) (s : State) : Result :=
  .next <|
    let r := s.itemArrives box.val fromP9 estimate
    if ((s.contextOf box.val).map (fun c => !itemFits item c.2.kind)).getD false then s
    else if !r.2 then r.1
    else
      let s := r.1
      let port := (List.range 6).find? (fun d => s.get (Reg.DP_CFG_BOX d) == box.val)
      match item with
      | .other => s
      | .nvme index op lba count command => s.farNvme index.val box.val op.toNat lba count command
      | .unplug => (match port with | some d => (if 4 ≤ d then s.inputUnplug d else s) | none => s)
      | .irqHpd => (match port with | some d => (if 4 ≤ d then s.inputPulse d else s) | none => s)
      | .aux => (match port with | some d => (if d < 4 then s.emit (.bus 5 d 6 []) else s) | none => s)

/-- The VLAN_MAP entry of a sub-port and VID (R285). -/
def State.vlanEntry (s : State) (sub vid : Nat) : Option Nat :=
  (List.range 1024).find? (fun v => s.flag (Reg.VLAN_MAP_VALID v) && s.get (Reg.VLAN_MAP_SUB v) == sub && s.get (Reg.VLAN_MAP_VID v) == vid)

/-- The box of a frame and whether its tag goes (R285). -/
def State.mapFrame (s : State) (sub : Nat) (vid : Option (Fin 4096)) : Option (Nat × Bool) :=
  let dflt := s.get (Reg.SUB_CFG_DEFAULT_BOX sub)
  let o : Option (Nat × Bool) :=
    if !s.flag (Reg.SUB_CFG_MODE sub) then some (dflt, false)
    else
      match vid with
      | none => some (dflt, false)
      | some v =>
        if v.val = 0 then some (dflt, false)
        else (s.vlanEntry sub v.val).map (fun k => (s.get (Reg.VLAN_MAP_BOX k), s.flag (Reg.VLAN_MAP_STRIP k)))
  o.filter (fun x => x.1 != 0)

/-- The ingress of a sub-port (R285): FCS and length, PAUSE, map. Kind 0 on port 6 is a frame that goes to a box, without its FCS. [Log entry 121: DESIGN CHOICE] -/
def State.etherIngress (s : State) (sub : Nat) (f : EthFrame) : State :=
  if f.bytes < 64 ∨ f.fcsOk = false then s.bump (Cnt.ETHER_FCS_ERRORS sub)
  else if 9216 < f.bytes then s.bump (Cnt.ETHER_TOO_LONG sub)
  else if f.etherType = 0x8808 then s.bump (Cnt.ETHER_PAUSE_DISCARDED sub)
  else
    match s.mapFrame sub f.vid with
    | none => s.bump (Cnt.ETHER_NO_MAP sub)
    | some (b, strip) => (s.bump (Cnt.ETHER_FRAMES_IN sub)).emit (.bus 6 sub 0 [b, f.bytes - 4 - (if strip then 4 else 0)])

/-- A sub-port takes frames: enabled, its link up, its domain powered. -/
def State.subOn (s : State) (sub : Nat) : Bool :=
  s.powered (if sub = 10 then .hostio else .station) && !s.servicePowered && s.flag (Reg.SUB_CFG_EN sub) && s.flag (Reg.SUB_STATE_LINK sub)

/-- ETHERNET_FRAME (R285). -/
def execEthernetFrame (sub : Fin 11) (f : EthFrame) (s : State) : Result :=
  .next (if s.subOn sub.val then s.etherIngress sub.val f else s)

/-- PF1_TX_DOORBELL (R287): the ring's finished frames enter as ingress of sub-port 10; the head follows the tail. A frame of the
ring carries no FCS, so its check is taken as made. [Log entry 122: DESIGN CHOICE] -/
def execPf1TxDoorbell (q : Fin 32) (tail : Fin 4096) (frames : List EthFrame) (s : State) : Result :=
  .next <|
    if s.subOn 10 then
      let s := { s with media := { s.media with tx := mput s.media.tx q.val (tail.val, tail.val) } }
      forAll frames s (fun s f => s.etherIngress 10 { f with fcsOk := true })
    else
      { s with media := { s.media with tx := mput s.media.tx q.val (((mget s.media.tx q.val).getD (0, 0)).1, tail.val) } }

/-- Units queued for a sub-port whose link is down are discarded (R286, R198). [Log entry 121: DESIGN CHOICE] -/
def State.subDown (s : State) (sub : Nat) : State :=
  forAll (mkeys s.sw.units (fun x => (x.egress == 6 || x.egress == 3) && (s.subOf x.u.dstBox.val).map (·.1) == some sub)) s
    (fun s n => (s.freeUnit n).bump (Cnt.SWITCH_EGRESS_DOWN (if sub = 10 then 3 else 6)))

/-- ETHER_LINK (R284, R286, R293). -/
def execEtherLink (sub : Fin 11) (link : EtherPhy) (remoteFault : Bool) (s : State) : Result :=
  .next <|
    let n := sub.val
    let up := link == .up || (link == .slow && (n < 2 || n == 10))
    let on := up && s.powered (if n = 10 then .hostio else .station) && !s.servicePowered && s.flag (Reg.SUB_CFG_EN n)
    let s := s.setFlag (Reg.SUB_STATE_REMOTE_FAULT n) remoteFault
    if s.flag (Reg.SUB_STATE_LINK n) = on then s
    else
      let s := (s.setFlag (Reg.SUB_STATE_LINK n) on).when (!on) (fun s => s.subDown n)
      s.notice 0x8082 [n, if on then 1 else 0]

/-- The three blocks at a boundary. -/
def State.mediaAtBoundary (s : State) : State :=
  let s := forAll [4, 5] s (fun s n => s.updDp n (fun x => { x with sent := 0 }))
  s.auxAtBoundary.displayDrained.storageAtBoundary

end Machine
end Sys2Proof
end

