-- ==== Sys2Proof/Machine/Packets.lean ====
section
/-!
DEFINITION. A packet's way into the command book on any path (R343, R346, R350).
-/
namespace Sys2Proof
namespace Machine

/-- A packet with its CRC field taken as 0 (R339). -/
def crcBody (p : List Byte) : List Byte := p.take 28 ++ [0, 0, 0, 0] ++ p.drop 32

/-- The header of a packet (R339) that came on a path; fields beyond the bytes received read as 0. -/
def hdrOf (path : Fin 67) (originPc : Postcode) (originPath : Fin 67) (again : Bool) (via : Option PortId) (p : List Byte) : CmdHdr :=
  { path := path, tag := BitVec.ofNat 16 (leAt p 2 2), hostSeq := BitVec.ofNat 32 (leAt p 4 4), length := Fin.ofNat 4097 (leAt p 8 2),
    dstPc := BitVec.ofNat 16 (leAt p 10 2), route := Fin.ofNat 4 (leAt p 12 1 % 4), port := Fin.ofNat 4 (leAt p 12 1 / 4 % 4),
    resync := bitOf (leAt p 12 1) 4, timeoutMs := BitVec.ofNat 16 (leAt p 14 2), crc := BitVec.ofNat 32 (leAt p 28 4),
    originPc := originPc, originPath := originPath, repeat_ := again, via := via }

/-- Checks 1 to 4 of R343 on a packet's bytes; none where all pass. [Log entry 17: DESIGN CHOICE] -/
def packetCheck (h : CmdHdr) (p : List Byte) : Option Status :=
  if p.length < 32 ∨ 4096 < p.length ∨ leAt p 8 2 ≠ p.length then some .badLength
  else if (crc32c (crcBody p)).toNat ≠ leAt p 28 4 then some .badCrc
  else if leAt p 13 1 ≠ 1 ∨ leAt p 12 1 / 32 ≠ 0 ∨ leAt p 16 8 ≠ 0 ∨ leAt p 24 4 ≠ 0 ∨ hdrFieldsOk h = false then some .badParam
  else if (opRow (leAt p 0 2)).isNone then some .badOpcode
  else none

/-- A packet comes to its path (R343, R346, R349): refused, answered from the book, or entered to wait for its execution, which
is the row of its opcode; a read that is executed again waits for that row too. [Log entry 17: DESIGN CHOICE] -/
def State.submit (s : State) (h : CmdHdr) (p : List Byte) (room : Nat) : State :=
  let op := leAt p 0 2
  if !s.ready then s.emit (.held h.path.val)
  else
    match packetCheck h p with
    | some st =>
      let s := s.when (h.path.val == 65 && (st == .badLength || st == .badCrc))
        (fun s => { s with cmd := { s.cmd with mgmt := { s.cmd.mgmt with lastReject := st.code } } })
      s.refusePacket h op st false
    | none =>
      if !s.skUp then s.refusePacket h op .hwFault false
      else
        match s.admission h op with
        | .refuse st stale => s.refusePacket h op st stale
        | .again => s.holdRead (reread h op room)
        | .reissue k => (s.bump Cnt.HUB_REPEATS_REISSUED).deliver k true
        | .resume k => s.repeatBusy h (p.drop 32) k
        | .busy k => s.repeatBusy h (p.drop 32) k
        | .new =>
          if s.entryFree h.path.val then
            match s.enter h op (p.drop 32) room with
            | some (_, s) => s
            | none => s.refusePacket h op .busyRetry false
          else s.refusePacket h op .busyRetry false

end Machine
end Sys2Proof
end

