-- ==== Sys2Proof/Machine/Paths.lean ====
section
/-!
DEFINITION. The paths of commands: the service port (R305 to R310), PF0 (R351 to R354), the management target (R355, R356), and
the messages between hubs (R357 to R361).
-/
namespace Sys2Proof
namespace Machine

def State.setSvc (s : State) (v : Svc) : State :=
  let s := { s with cmd := { s.cmd with svc := v } }
  (s.set Reg.SVC_STATE_RECEIPTS_WAITING (min 32 v.receipts.length)).set Reg.SVC_STATE_NOTICES_WAITING (min 64 v.notices.length)

def State.setMgmt (s : State) (m : Mgmt) : State := { s with cmd := { s.cmd with mgmt := m } }

/-- DEV_STATE given a value, with SVC_EVENT (R315); it is an activity event (R412). -/
def State.setDevState (s : State) (v : Nat) : State :=
  let old := s.get Reg.SVC_STATE_DEV_STATE
  if old = v then s else ((s.set Reg.SVC_STATE_DEV_STATE v).notice 0x8092 [old, v]).activity 0x14

/-- The device is configured and not suspended. [Log entry 34: DESIGN CHOICE] -/
def State.svcConfigured (s : State) : Bool := s.get Reg.SVC_STATE_DEV_STATE == 3

/-- A STALL on EP0. -/
def State.svcStall (s : State) (st : Status) : State :=
  ((s.set Reg.SVC_STATE_LAST_REJECT st.code).bump Cnt.USB_CMD_REJECTED).emit (.refused 64 st)

/-- A packet of the service port as its header says (R339). -/
def svcHdr (p : List Byte) : CmdHdr := hdrOf 64 0 64 false none p

/-- SEND_COMMAND (R307, R308): checks 1 and 2 decide at the data stage; the write into the book then starts, and a later SETUP does not stop
it (R309). While the book does not accept packets the status stage is held (R349). -/
def execSendCommand (packet : List Byte) (s : State) : Result :=
  .next <|
    if !s.svcConfigured then s
    else if packet.length < 32 ∨ 4096 < packet.length then s.svcStall .badLength
    else
      match packetCheck (svcHdr packet) packet with
      | some .badLength => s.svcStall .badLength
      | some .badCrc => s.svcStall .badCrc
      | _ => s.setSvc { s.cmd.svc with packets := s.cmd.svc.packets ++ [packet] }

/-- SVC_STATUS_ACK (R308, R309): the oldest write into the book ends, and the command is accepted, or fails with HW_FAULT. -/
def execSvcStatusAck (written : Bool) (s : State) : Result :=
  .next <|
    match s.cmd.svc.packets with
    | [] => s
    | p :: rest =>
      if !s.ready then s.emit (.held 64)
      else
        let s := s.setSvc { s.cmd.svc with packets := rest }
        if written then s.submit (svcHdr p) p 4080 else s.svcStall .hwFault

/-- DATA_STAGE_PAUSE (R308). -/
def execDataStagePause (partialBytes : Nat) (s : State) : Result :=
  .next (if 0 < partialBytes ∧ s.svcConfigured then s.bump Cnt.USB_CMD_DISCARDED else s)

/-- The newest entry of a path with a tag. [Log entry 33: DESIGN CHOICE] -/
def State.entryByTag (s : State) (path tag : Nat) : Option (Nat × BookEntry) :=
  (s.cmd.book.filter (fun e => e.2.path == path && e.2.tag == tag)).foldl (fun (o : Option (Nat × BookEntry)) e =>
    match o with
    | some b => if b.2.enteredAt ≤ e.2.enteredAt then some e else o
    | none => some e) none

/-- The state and receipt of a tag (R307): 0 UNKNOWN, 1 RUNNING, 2 DONE with the receipt, cut to `room` bytes in all. Reading a
DONE receipt hands it to the path. -/
def State.tagState (s : State) (path tag room : Nat) : List Byte × State :=
  match s.entryByTag path tag with
  | none => (leBytes 4 0, s)
  | some (k, e) =>
    if e.state = .running then (leBytes 4 1, s)
    else
      let s := (s.updEntry k (fun e => { e with delivered := true })).reapBook
      ((leBytes 4 2 ++ (e.receipt true).bytes).take room, s)

/-- GET_RECEIPT (R307); a wLength out of range is a STALL, counted as R312 says of every vendor request. -/
def execGetReceipt (tag : BitVec 16) (wLength : Fin 4097) (s : State) : Result :=
  .next <|
    if !s.svcConfigured then s
    else if wLength.val < 4 then (s.bump Cnt.USB_CMD_REJECTED).emit (.refused 64 .badParam)
    else
      let r := s.tagState 64 tag.toNat wLength.val
      let s := r.2.emit (.bytes 64 r.1)
      if leAt r.1 0 1 = 2 then s.bump Cnt.USB_RECEIPTS_REISSUED else s

/-- The 8-byte state word (R307). -/
def State.stateWord (s : State) (path last receipts notices : Nat) : List Byte :=
  leBytes 1 last ++ leBytes 1 receipts ++ leBytes 1 notices ++ [0] ++ leBytes 4 (s.expected path)

/-- GET_STATE (R307). -/
def execGetState (s : State) : Result :=
  .next <|
    if !s.svcConfigured then s
    else
      let v := s.cmd.svc
      s.emit (.bytes 64 (s.stateWord 64 (s.get Reg.SVC_STATE_LAST_REJECT) (min 32 v.receipts.length) (min 64 v.notices.length)))

/-- The IN buffers filled from the heads of their queues (R306). [Log entry 35: DESIGN CHOICE] -/
def State.fillIn (s : State) : State :=
  if s.svcConfigured then
    s.setSvc { s.cmd.svc with inReceipt := s.cmd.svc.receipts != [], inNotice := s.cmd.svc.notices != [] }
  else s

/-- What a reset and a detach of the service port end (R306, R309): what stands in an IN buffer goes back to the head of its queue, the
sequence numbers start at 0, and no wake is enabled or signalled. A packet whose book write has started goes on. -/
def State.svcQuiet (s : State) (speed : Nat) : State :=
  (s.setSvc { s.cmd.svc with inReceipt := false, inNotice := false, wakeEnabled := false, waking := false, inSeq := 0 }).set Reg.SVC_STATE_SPEED speed

/-- SVC_BUS_RESET (R309): the device is in the default state, in the speed of the reset's signalling (R305, R313). -/
def execSvcBusReset (r : SvcReset) (s : State) : Result :=
  .next <|
    if !s.powered .station then s
    else
      let s := (s.bump Cnt.USB_BUS_RESETS).when (decide (0 < r.partialBytes) && s.svcConfigured) (fun s => s.bump Cnt.USB_CMD_DISCARDED)
      (s.svcQuiet (if r.gen1 then 2 else 1)).setDevState 1

/-- The service port's detach (R309): as a bus reset, and DEV_STATE becomes detached. -/
def State.svcDetach (s : State) : State := (s.svcQuiet 0).setDevState 0

/-- SET_CONFIGURATION (R306, R309): of a device the bus has reset; the sequence numbers start at 0. -/
def execSetConfiguration (wakeEnabled : Bool) (s : State) : Result :=
  .next <|
    if s.get Reg.SVC_STATE_DEV_STATE = 0 ∨ s.get Reg.SVC_STATE_DEV_STATE = 4 then s
    else ((s.setSvc { s.cmd.svc with wakeEnabled := wakeEnabled, inSeq := 0 }).setDevState 3).fillIn

/-- The max packet of EP1 IN (R305). -/
def State.svcPacket (s : State) : Nat := if s.get Reg.SVC_STATE_SPEED = 2 then 1024 else 512

/-- The data packets of an IN transfer: those its bytes fill and one more, of zero length where they fill the others (R306). -/
def inPackets (len max : Nat) : Nat := len / max + 1

/-- A transfer put out by an IN endpoint, with the zero-length packet that ends it where its length is a multiple of the max packet (R306). -/
def State.inTransfer (s : State) (max : Nat) (b : List Byte) : State :=
  (s.emit (.bytes 64 b)).when (b.length % max == 0) (fun s => s.emit (.bytes 64 []))

/-- SVC_IN_TRANSFER (R306): the transfer in the buffer is acknowledged, EP1 IN's data packets are numbered on, and the buffer is filled again. -/
def execSvcInTransfer (receipt : Bool) (s : State) : Result :=
  .next <|
    if !s.svcConfigured then s
    else
      let v := s.cmd.svc
      if receipt then
        match v.receipts with
        | [] => s
        | r :: rest =>
          let q := if s.get Reg.SVC_STATE_SPEED = 2 then (v.inSeq + inPackets r.bytes.length 1024) % 32 else v.inSeq
          (((s.setSvc { v with receipts := rest, inSeq := q }).emit (.receipt 64 r)).inTransfer s.svcPacket r.bytes).fillIn
      else
        match v.notices with
        | [] => s
        | n :: rest => (((s.setSvc { v with notices := rest }).inTransfer 1024 n.bytes).fillIn).flushLost

/-- SVC_REMOTE_WAKE (R310). -/
def execSvcRemoteWake (s : State) : Result :=
  .next <|
    let v := s.cmd.svc
    if s.get Reg.SVC_STATE_DEV_STATE = 4 ∧ v.wakeEnabled ∧ (v.receipts != [] ∨ v.notices != []) then
      (s.setSvc { v with waking := true }).emit (.bus 7 4 1 [])
    else s

/-- SVC_SUSPEND (R313, R413): of an attached device. -/
def execSvcSuspend (s : State) : Result :=
  .next <|
    let d := s.get Reg.SVC_STATE_DEV_STATE
    if d = 0 ∨ 4 ≤ d then s else (s.setSvc { s.cmd.svc with suspended := d }).setDevState 4

/-- SVC_HOST_RESUME (R310): a resume that meets the device's own wake wins. -/
def execSvcHostResume (s : State) : Result :=
  .next <|
    if s.get Reg.SVC_STATE_DEV_STATE = 4 then
      let s := s.when s.cmd.svc.waking (fun s => (s.setSvc { s.cmd.svc with waking := false }).bump Cnt.USB_SVC_WAKES_MERGED)
      (s.setDevState s.cmd.svc.suspended).fillIn
    else s

/-- Free places of a completion ring less the commands of the pair under way (R354). [Log entry 32: DESIGN CHOICE] -/
def State.pf0Room (s : State) (q : Nat) : Bool :=
  let x := s.queue q
  let free := if x.cqSize = 0 then 0 else (x.cqHead + x.cqSize - 1 - x.cqTail) % x.cqSize
  decide (mcount s.cmd.book (fun e => e.path == q && (e.state == .running || !e.delivered)) + s.cmd.rereads.countP (·.path == q) < free)

/-- DONE receipts of a pair that its ring could not take are written as it has room, in the order the commands completed (R349, R354), which
is that of their HOST_SEQ (R350). -/
def State.pf0Deliver (s : State) (q : Nat) : State :=
  let age (e : Nat × BookEntry) : Nat := (s.expected q + 2 ^ 32 - e.2.hostSeq) % 2 ^ 32
  let l := s.cmd.book.filter (fun e => e.2.path == q && e.2.state == .done && !e.2.delivered)
  forAll (sortBy (fun a b => decide (age b ≤ age a)) l) s (fun s e => s.deliver e.1 false)

/-- Submission entries taken in ring order while EN is 1 and there is completion room (R354). [Log entry 32: DESIGN CHOICE] -/
def State.pf0Take : Nat → Fin 64 → State → State
  | 0, _, s => s
  | n + 1, q, s =>
    let x := s.queue q.val
    match x.waiting with
    | [] => s
    | e :: rest =>
      if x.en && s.ready && s.pf0Room q.val then
        let s := s.setQueue q.val { x with waiting := rest, sqHead := if x.sqSize = 0 then 0 else (x.sqHead + 1) % x.sqSize }
        let h := hdrOf (Fin.ofNat 67 q.val) 0 (Fin.ofNat 67 q.val) false none e.packet
        State.pf0Take n q (s.submit h e.packet (min 4080 e.rcptLen.val))
      else s

/-- A pair served: undelivered receipts, then entries (R354). [Log entry 29: DESIGN CHOICE] -/
def State.pf0Serve (s : State) (q : Fin 64) : State := State.pf0Take 1024 q (s.pf0Deliver q.val)

/-- SQ_TAIL (R354): `fetched` are the entries the new tail covers, as the hub reads them from host memory. -/
def execSqTail (q : Fin 64) (tail : Fin 1024) (fetched : List Submission) (s : State) : Result :=
  .next <|
    let x := s.queue q.val
    if !s.powered .hostio then s
    else (s.setQueue q.val { x with sqTail := tail.val, waiting := x.waiting ++ fetched }).pf0Serve q

/-- CQ_HEAD (R354). -/
def execCqHead (q : Fin 64) (head : Fin 1024) (s : State) : Result :=
  .next <|
    if !s.powered .hostio then s else (s.setQueue q.val { s.queue q.val with cqHead := head.val }).pf0Serve q

/-- NR_HEAD (R351, R361). -/
def execNrHead (head : Fin 4096) (s : State) : Result :=
  .next <|
    if !s.powered .hostio then s
    else ({ s with cmd := { s.cmd with pf0 := { s.cmd.pf0 with nrHead := head.val } } }).flushLost

/-- PF0_FLR (R351, R373): BAR0 returns to its reset values; the book and EXPECTED stay. [Log entry 30: DESIGN CHOICE] -/
def execPf0Flr (s : State) : Result := .next (if s.powered .hostio then { s with cmd := { s.cmd with pf0 := Pf0.init } } else s)

/-- PF0_FETCH_TIMEOUT (R354): the packet could not be read, so its completion carries no header of its own. [Log entry 31: DESIGN CHOICE] -/
def execPf0FetchTimeout (q : Fin 64) (sub : Submission) (s : State) : Result :=
  .next <|
    let x := s.queue q.val
    if !s.powered .hostio || !x.en || !s.pf0Room q.val then s
    else
      let s := s.setQueue q.val { x with waiting := x.waiting.erase sub, sqHead := if x.sqSize = 0 then 0 else (x.sqHead + 1) % x.sqSize }
      s.refusePacket (hdrOf (Fin.ofNat 67 q.val) 0 (Fin.ofNat 67 q.val) false none []) 0 .badLength false

/-- A write of a PF0 BAR0 register (R351): the immediate fields; sizes and bases that R374 does not accept leave the ring not
enabled. -/
def ringOk (size lo hi base align : Nat) : Bool :=
  decide (lo ≤ size) && decide (size ≤ hi) && size == 2 ^ size.log2 && base % align == 0

def mergeWord (old mask value : Nat) (width : Nat) : Nat :=
  ((BitVec.ofNat 32 old &&& ~~~ (BitVec.ofNat 32 mask)) ||| (BitVec.ofNat 32 value &&& BitVec.ofNat 32 mask)).toNat % 2 ^ width

def mergeLo (old mask value : Nat) : Nat := old / 2 ^ 32 * 2 ^ 32 + mergeWord (old % 2 ^ 32) mask value 32
def mergeHi (old mask value : Nat) : Nat := mergeWord (old / 2 ^ 32) mask value 32 * 2 ^ 32 + old % 2 ^ 32

/-- A pair's Q_CTRL: EN reads 0 where its rings are not in range (R374). -/
def Pf0Queue.check (x : Pf0Queue) : Pf0Queue :=
  { x with en := x.en && ringOk x.sqSize 16 1024 x.sqBase 32 && ringOk x.cqSize 16 1024 x.cqBase 16 }

/-- [Log entry 30: DESIGN CHOICE] -/
def Pf0Queue.write (x : Pf0Queue) (o mask value : Nat) : Pf0Queue :=
  if o = 0x00 then { x with sqBase := mergeLo x.sqBase mask value }
  else if o = 0x04 then { x with sqBase := mergeHi x.sqBase mask value }
  else if o = 0x08 then { x with sqSize := mergeWord x.sqSize mask value 11 }
  else if o = 0x0C then { x with sqTail := mergeWord x.sqTail mask value 10 }
  else if o = 0x10 then { x with cqBase := mergeLo x.cqBase mask value }
  else if o = 0x14 then { x with cqBase := mergeHi x.cqBase mask value }
  else if o = 0x18 then { x with cqSize := mergeWord x.cqSize mask value 11 }
  else if o = 0x1C then { x with cqHead := mergeWord x.cqHead mask value 10 }
  else if o = 0x20 then
    let w := mergeWord ((if x.en then 1 else 0) + (if x.irqEn then 2 else 0)) mask value 2
    { x with en := bitOf w 0, irqEn := bitOf w 1 }
  else x

def Pf0.write (p : Pf0) (o mask value : Nat) : Pf0 :=
  let p :=
    if o = 0x08 then { p with nrBase := mergeLo p.nrBase mask value }
    else if o = 0x0C then { p with nrBase := mergeHi p.nrBase mask value }
    else if o = 0x10 then { p with nrSize := mergeWord p.nrSize mask value 13 }
    else if o = 0x14 then { p with nrHead := mergeWord p.nrHead mask value 12 }
    else if o = 0x1C then
      let w := mergeWord ((if p.nrEn then 1 else 0) + (if p.nrIrqEn then 2 else 0)) mask value 2
      { p with nrEn := bitOf w 0, nrIrqEn := bitOf w 1 }
    else p
  { p with nrEn := p.nrEn && ringOk p.nrSize 64 4096 p.nrBase 256 }

/-- A write of PF0 BAR0 at a byte offset (R351). [Log entry 36: DESIGN CHOICE] -/
def State.pf0Write (s : State) (o mask value : Nat) : State :=
  if 0x1000 ≤ o ∧ o < 0x2000 then
    let q := (o - 0x1000) / 0x40
    let x := s.queue q
    let y := (x.write ((o - 0x1000) % 0x40) mask value).check
    (s.setQueue q y).pf0Serve (Fin.ofNat 64 q)
  else ({ s with cmd := { s.cmd with pf0 := s.cmd.pf0.write o mask value } }).flushLost

/-- PF0 BAR0 as it reads (R351). -/
def State.pf0Read (s : State) (o : Nat) : Nat :=
  let p := s.cmd.pf0
  let bit := fun (x : Bool) (n : Nat) => if x then n else 0
  if 0x1000 ≤ o ∧ o < 0x2000 then
    let q := (o - 0x1000) / 0x40
    let x := s.queue q
    let r := (o - 0x1000) % 0x40
    if r = 0 then x.sqBase % 2 ^ 32 else if r = 4 then x.sqBase / 2 ^ 32 else if r = 8 then x.sqSize else if r = 0x0C then x.sqTail
    else if r = 0x10 then x.cqBase % 2 ^ 32 else if r = 0x14 then x.cqBase / 2 ^ 32 else if r = 0x18 then x.cqSize
    else if r = 0x1C then x.cqHead else if r = 0x20 then bit x.en 1 + bit x.irqEn 2 else if r = 0x24 then s.expected q else 0
  else if o = 0 then 0x7400484B else if o = 8 then p.nrBase % 2 ^ 32 else if o = 0x0C then p.nrBase / 2 ^ 32 else if o = 0x10 then p.nrSize
  else if o = 0x14 then p.nrHead else if o = 0x18 then p.nrTail else if o = 0x1C then bit p.nrEn 1 + bit p.nrIrqEn 2 else 0

/-- COMMAND_MESSAGE (R357, R359): the packet comes to the remote path. [Log entry 22: DESIGN CHOICE] -/
def execCommandMessage (srcPc : Postcode) (via : Option PortId) (repeat_ : Bool) (originPath : Fin 67) (packet : List Byte) (s : State) : Result :=
  .next (if s.listens srcPc.toNat && (via.isNone || s.powered .cipher) then s.submit (hdrOf 66 srcPc originPath repeat_ via packet) packet 4080 else s)

/-- RECEIPT_MESSAGE (R357, R359). The answer of an entry that still runs at the target is handed on, and its own receipt follows
(R346). [Log entries 23: DEDUCED, 235: DESIGN CHOICE] -/
def execReceiptMessage (srcPc : Postcode) (originPath : Fin 67) (hostSeq : BitVec 32) (status flags : Byte) (data : List Byte) (s : State) : Result :=
  .next <|
    if !s.listens srcPc.toNat then s
    else
    let runs := status.toNat = Status.busyRetry.code && bitOf flags.toNat 0
    match s.cmd.book.find? (fun e => e.2.relayed && e.2.state == .running && e.2.path == originPath.val && e.2.hostSeq == hostSeq.toNat) with
    | some (k, e) =>
      if runs then (s.handReceipt e.path e.room { e.receipt true with status := .busyRetry, remote := true, data := [] }).1
      else
        (s.updEntry k (fun e => { e with farStale := bitOf flags.toNat 2, farNoEffect := bitOf flags.toNat 3, remote := true })).finish k
          (Status.ofCode status.toNat) data
    | none =>
      match s.cmd.rereads.find? (fun x => x.is originPath.val hostSeq.toNat && x.relayedAt.isSome) with
      | some x => if runs then s else s.answerRead x (Status.ofCode status.toNat) data true
      | none => s.bump Cnt.HUB_RELAY_LATE

/-- NOTICE_MESSAGE (R361): handed to the hub's own enabled paths. -/
def execNoticeMessage (code : BitVec 16) (number : BitVec 32) (srcPc : Postcode) (postmark : BitVec 64) (body : List Nat) (s : State) : Result :=
  .next (if !s.listens srcPc.toNat then s else forAll s.noticePaths s (fun s p => s.placeNotice p ⟨code.toNat, number.toNat, srcPc.toNat, postmark.toNat, body⟩))

/-- The wait of a relayed command in periods of 125 µs (R339): TIMEOUT ms, 0 meaning 1,000. -/
def relayWait (timeoutMs : Nat) : Nat := 8 * (if timeoutMs = 0 then 1000 else timeoutMs)

/-- RELAY_TIMEOUT (R359). [Log entries 16: DESIGN CHOICE, 24: DESIGN CHOICE] -/
def execRelayTimeout (path : Fin 67) (hostSeq : BitVec 32) (s : State) : Result :=
  .next <|
    match s.cmd.book.find? (fun e => e.2.relayed && e.2.state == .running && e.2.path == path.val && e.2.hostSeq == hostSeq.toNat) with
    | some (k, e) =>
      if e.relayedAt + relayWait e.timeoutMs ≤ s.boot.ticks then
        ((s.bump Cnt.HUB_RELAY_TIMEOUTS).updEntry k (fun e => { e with remote := true })).finish k .timeout []
      else s
    | none =>
      match s.cmd.rereads.find? (fun x => x.is path.val hostSeq.toNat) with
      | some x =>
        match x.relayedAt with
        | some r => if r + relayWait x.timeoutMs ≤ s.boot.ticks then (s.bump Cnt.HUB_RELAY_TIMEOUTS).answerRead x .timeout [] true else s
        | none => s
      | none => s

/-- REMOTE_ENTRY_FREE (R350). -/
def execRemoteEntryFree (entry : Fin 512) (s : State) : Result :=
  .next <|
    match mget s.cmd.book entry.val with
    | some e =>
      if e.path = 66 ∧ e.state = .done ∧ (80000 : Int) * 125000 ≤ postmarkDiff s.now e.doneAt then
        (s.setBook (mdel s.cmd.book entry.val)).syncBook
      else s
    | none => s

/-- MGMT_APPEND (R355, R356). -/
def execMgmtAppend (bytes : List Byte) (s : State) : Result :=
  .next <| if !s.mgmtAnswers then s.emit (.held 65) else
    let m := s.cmd.mgmt
    let b := m.buffer ++ bytes
    if 4096 < b.length then (s.setMgmt { m with buffer := [] }).bump Cnt.HUB_MGMT_DISCARDED
    else s.setMgmt { m with buffer := b, since := if m.buffer = [] then s.boot.ticks else m.since }

/-- MGMT_SUBMIT (R355); NACKed while the paths take no packets (R349). -/
def execMgmtSubmit (s : State) : Result :=
  .next <| if !s.mgmtAnswers then s.emit (.held 65) else
    if !s.ready then s.emit (.held 65)
    else
      let p := s.cmd.mgmt.buffer
      (s.setMgmt { s.cmd.mgmt with buffer := [] }).submit (hdrOf 65 0 65 false none p) p 4080

/-- MGMT_EMPTY (R355). -/
def execMgmtEmpty (s : State) : Result := .next (if !s.mgmtAnswers then s.emit (.held 65) else s.setMgmt { s.cmd.mgmt with buffer := [] })

/-- MGMT_STATE_READ (R355); in SAFE the target answers it with LAST_REJECT HW_FAULT (R485). -/
def execMgmtStateRead (s : State) : Result :=
  .next <|
    let m := s.cmd.mgmt
    if s.boot.safe && s.keeperAwake then s.emit (.bytes 65 (s.stateWord 65 Status.hwFault.code 0 0))
    else if !s.mgmtAnswers then s.emit (.held 65)
    else
    s.emit (.bytes 65 (s.stateWord 65 m.lastReject m.receipts.length m.notices.length))

/-- MGMT_RECEIPT_READ (R355): read to its last byte, the receipt is released. [Log entry 192: DESIGN CHOICE] -/
def execMgmtReceiptRead (s : State) : Result :=
  .next <| if !s.mgmtAnswers then s.emit (.held 65) else
    match s.cmd.mgmt.receipts with
    | [] => s.emit (.bytes 65 [])
    | r :: rest => ((s.setMgmt { s.cmd.mgmt with receipts := rest }).emit (.receipt 65 r)).emit (.bytes 65 r.bytes)

/-- MGMT_NOTICE_READ (R355, R361). [Log entry 192: DESIGN CHOICE] -/
def execMgmtNoticeRead (s : State) : Result :=
  .next <| if !s.mgmtAnswers then s.emit (.held 65) else
    match s.cmd.mgmt.notices with
    | [] => s.emit (.bytes 65 [])
    | n :: rest => ((s.setMgmt { s.cmd.mgmt with notices := rest }).emit (.bytes 65 n.bytes)).flushLost

/-- MGMT_GET_RECEIPT (R355): up to 4,092 bytes after the state. [Log entry 192: DESIGN CHOICE] -/
def execMgmtGetReceipt (tag : BitVec 16) (s : State) : Result :=
  .next <| if !s.mgmtAnswers then s.emit (.held 65) else
    let r := s.tagState 65 tag.toNat 4096
    r.2.emit (.bytes 65 r.1)

/-- MGMT_ASSEMBLY_TIMEOUT (R356): 1 s after the buffer's first byte. -/
def execMgmtAssemblyTimeout (s : State) : Result :=
  .next <|
    if s.cmd.mgmt.buffer ≠ [] ∧ s.cmd.mgmt.since + 8000 ≤ s.boot.ticks then
      (s.setMgmt { s.cmd.mgmt with buffer := [] }).bump Cnt.HUB_MGMT_DISCARDED
    else s

/-- REMOTE entries age and PF0 rings are served at a boundary: doorbells held while the paths took no packets (R349). -/
def State.pathsAtBoundary (s : State) : State :=
  if s.ready then forAll s.cmd.pf0.queues s (fun s q => if q.2.waiting = [] then s else s.pf0Serve (Fin.ofNat 64 q.1)) else s

end Machine
end Sys2Proof
end

