-- ==== Sys2Proof/Machine/Usb.lean ====
section
/-!
DEFINITION. Tunnelled USB trees and hub ports (R294 to R304, R311).
-/
namespace Sys2Proof
namespace Machine

def State.usbPort (s : State) (n : Nat) : UsbPort := (mget s.usb.ports n).getD UsbPort.init
def State.updUsbPort (s : State) (n : Nat) (f : UsbPort → UsbPort) : State :=
  { s with usb := { s.usb with ports := mput s.usb.ports n (f (s.usbPort n)) } }
def State.tree (s : State) (r : Nat) : TreeSt := (mget s.usb.trees r).getD TreeSt.init
def State.setTree (s : State) (r : Nat) (x : TreeSt) : State := { s with usb := { s.usb with trees := mput s.usb.trees r x } }
def State.setTransfers (s : State) (l : List (Nat × Transfer)) : State := { s with usb := { s.usb with transfers := l } }

/-- Completion codes of the host controller interface that R297 and R300 call by name. [Log entry 123: PRESUMED] -/
def ccSuccess : Nat := 1
/-- [Log entry 123: PRESUMED] -/
def ccTransactionError : Nat := 4
def ccResourceError : Nat := 7
def ccBandwidthError : Nat := 8
/-- [Log entry 123: PRESUMED] -/
def ccMissedService : Nat := 23

/-- CTL_BOX, ISO_BOX and ATTACHED of a tree; 16 is the station side (R294, R313). -/
def ctlBoxFld (r : Nat) : Fld := if r = 16 then Reg.HUB_TREE_CTL_BOX else Reg.ROOT_PORT_CTL_BOX r
def isoBoxFld (r : Nat) : Fld := if r = 16 then Reg.HUB_TREE_ISO_ISO_BOX else Reg.ROOT_PORT_ISO_BOX r
def attachedFld (r : Nat) : Fld := if r = 16 then Reg.HUB_TREE_ISO_ATTACHED else Reg.ROOT_PORT_ATTACHED r

/-- The CTL_BOX tunnel of a tree is OPEN and its end is in service. -/
def State.treeOpen (s : State) (r : Nat) : Bool :=
  let b := s.get (ctlBoxFld r)
  b != 0 && (s.box b).state == .opened && (if r = 16 then s.powered .station else s.powered .hostio && s.flag (Reg.ROOT_PORT_EN r))

def State.attached (s : State) (r : Nat) : Bool := s.flag (attachedFld r)

/-- USB_TREE_EVENT (R315). -/
def State.setAttached (s : State) (r : Nat) (b : Bool) : State :=
  if s.attached r = b then s else (s.setFlag (attachedFld r) b).notice 0x8091 [r, if b then 1 else 0]

/-- A transfer completed to the host (R296): kind 2 on port 3, sub-port the tree. -/
def State.transferDone (s : State) (n : Nat) (x : Transfer) (code : Nat) : State :=
  (s.setTransfers (mdel s.usb.transfers n)).emit (.bus 3 x.tree 2 [n, code])

/-- A port's data state (R301): USB_PORT_EVENT at each change, which is an activity event (R412). -/
def State.setUsbState (s : State) (n st speed : Nat) : State :=
  let old := s.get (Reg.USB_PORT_STATE_STATE n)
  let s := s.set (Reg.USB_PORT_STATE_SPEED n) speed
  if old = st then s else ((s.set (Reg.USB_PORT_STATE_STATE n) st).notice 0x8090 [n, old, st, speed]).activity 0x14

def State.portStateUsb (s : State) (n : Nat) : Nat := s.get (Reg.USB_PORT_STATE_STATE n)
def State.portSpeed (s : State) (n : Nat) : Nat := s.get (Reg.USB_PORT_STATE_SPEED n)

/-- A port leaves what it was doing. -/
def State.clearPort (s : State) (n : Nat) : State := s.updUsbPort n (fun _ => UsbPort.init)

/-- A port OFF (R301). -/
def State.portOff (s : State) (n : Nat) : State := (s.clearPort n).setUsbState n 0 0

/-- TRANSFER_REQUEST (R296, R300): an isochronous transfer is for the first microframe the scheduling threshold leaves. The
request is kind 3 on port 3. [Log entries 124: DEDUCED, 125: DESIGN CHOICE] -/
def execTransferRequest (tree : Fin 16) (k : TransferKind) (s : State) : Result :=
  .next <|
    let r := tree.val
    if !s.attached r then s
    else
      let iso := k == .isoIn || k == .isoOut
      let n := s.usb.next
      let x : Transfer := ⟨r, k, s.boot.ticks, if iso then s.round + s.get Reg.TREE_CFG_ISO_LEAD + 1 else 0, false⟩
      let s := { s with usb := { s.usb with next := n + 1, transfers := mput s.usb.transfers n x } }
      s.emit (.bus 3 r 3 [n])

/-- The transfer's XFER_TIMEOUT has passed (R297). A bulk or interrupt IN transfer may be under NAK, and then none runs. -/
def State.transferLate (s : State) (x : Transfer) : Bool :=
  decide (x.since + s.get Reg.TREE_CFG_XFER_TIMEOUT * 8000 ≤ s.boot.ticks)

def mayNak (k : TransferKind) : Bool := k == .bulkIn || k == .interruptIn

/-- A completion of a transfer that is not pending (R297, R300): discarded and counted, in ISO_MISSED where it is the data of an isochronous IN
transfer that missed its completion time, else in LATE_COMPLETIONS. -/
def State.lateCompletion (s : State) (r transfer : Nat) : State :=
  if s.usb.missed.contains (transfer, r) then
    { s with usb := { s.usb with missed := s.usb.missed.erase (transfer, r) } }.bump (Cnt.USB_ISO_MISSED r)
  else s.bump (Cnt.USB_LATE_COMPLETIONS r)

/-- TRANSFER_COMPLETION (R297, R300, R311): in the round its timeout expires the timeout decides. -/
def execTransferCompletion (tree : Fin 16) (transfer : Nat) (code : Byte) (s : State) : Result :=
  .next <|
    let r := tree.val
    match mget s.usb.transfers transfer with
    | none => s.lateCompletion r transfer
    | some x =>
      if x.tree ≠ r then s.lateCompletion r transfer
      else if x.micro = 0 ∧ !mayNak x.kind ∧ s.transferLate x then
        ((s.transferDone transfer x ccTransactionError).bump (Cnt.USB_XFER_TIMEOUTS r)).bump (Cnt.USB_LATE_COMPLETIONS r)
      else s.transferDone transfer x code.toNat

/-- XFER_TIMEOUT (R297). -/
def execXferTimeout (tree : Fin 16) (transfer : Nat) (s : State) : Result :=
  .next <|
    match mget s.usb.transfers transfer with
    | some x =>
      if x.tree = tree.val ∧ s.transferLate x then (s.transferDone transfer x ccTransactionError).bump (Cnt.USB_XFER_TIMEOUTS tree.val) else s
    | none => s

/-- The run that the isochronous bytes and packets of a microframe need (R300). -/
def isoSlots (bytes packets : Nat) : Nat := (bytes + 16 + 4 * packets + 2047) / 2048

/-- CONFIGURE_ENDPOINT (R300): `bytes` and `packets` are the tree's in a microframe with the endpoint configured. [Log entry 125: DESIGN CHOICE] -/
def execConfigureEndpoint (tree : Fin 16) (bytes packets : Nat) (s : State) : Result :=
  .next <|
    let r := tree.val
    let b := s.get (isoBoxFld r)
    let x := s.box b
    let code :=
      if b = 0 ∨ x.state ≠ .opened then ccResourceError
      else
        match x.flow with
        | some i => if s.get (Reg.ISO_ALLOT_PRI i) < isoSlots bytes packets then ccBandwidthError else ccSuccess
        | none => ccSuccess
    s.emit (.bus 3 r 4 [code])

/-- KEEP_ALIVE_SEND (R298): kind 5 on port 7 towards the tree's far box. [Log entry 155: DESIGN CHOICE] -/
def execKeepAliveSend (tree : Fin 17) (s : State) : Result :=
  .next <|
    let r := tree.val
    let due := match (s.tree r).sentAt with
      | some k => decide (k + 800 ≤ s.boot.ticks)
      | none => true
    if s.treeOpen r && due then
      let x := s.box (s.get (ctlBoxFld r))
      (s.setTree r { s.tree r with sentAt := some s.boot.ticks }).emit (.bus 7 r 5 [x.peerPc, x.peerBox])
    else s

/-- KEEP_ALIVE (R295, R298). [Log entry 155: DESIGN CHOICE] -/
def execKeepAlive (tree : Fin 17) (s : State) : Result :=
  .next <|
    let r := tree.val
    if s.treeOpen r then (s.setTree r { s.tree r with heardAt := s.boot.ticks }).setAttached r true else s

/-- A tree lost at this end (R298). -/
def State.loseTree (s : State) (r : Nat) : State :=
  let s := s.bump (Cnt.USB_TREE_LOST r)
  let s := if r = 16 then
      forAll [0, 1, 2, 3] s (fun s n =>
        if s.portStateUsb n = 3 ∨ s.portStateUsb n = 4 then (s.clearPort n).setUsbState n 2 (s.portSpeed n) else s)
    else forAll (s.usb.transfers.filter (fun x => x.2.tree == r)) s (fun s x => s.transferDone x.1 x.2 ccTransactionError)
  (s.setTree r TreeSt.init).setAttached r false

/-- TREE_LOST (R298). -/
def execTreeLost (tree : Fin 17) (s : State) : Result :=
  .next <|
    let r := tree.val
    if s.attached r && (!s.treeOpen r || decide ((s.tree r).heardAt + 2400 ≤ s.boot.ticks)) then s.loseTree r else s

/-- SET_PORT_FEATURE_PORT_POWER (R301). [Log entry 129: DESIGN CHOICE] -/
def execSetPortFeaturePortPower (n : Fin 4) (s : State) : Result :=
  .next <|
    if s.portStateUsb n.val = 0 ∧ s.flag (Reg.USB_PORT_CFG_EN n.val) ∧ s.powered .station ∧ s.servicePowered = false then s.setUsbState n.val 1 0 else s

/-- CLEAR_PORT_FEATURE_PORT_POWER (R301). [Log entry 129: DESIGN CHOICE] -/
def execClearPortFeaturePortPower (n : Fin 4) (s : State) : Result := .next (s.portOff n.val)

/-- SET_PORT_FEATURE_PORT_RESET (R302): 15 ms of SE0 and the high-speed handshake, or a warm reset, begin. -/
def execSetPortFeaturePortReset (n : Fin 4) (s : State) : Result :=
  .next <|
    if s.portStateUsb n.val = 2 then
      ((s.updUsbPort n.val (fun x => { x with resetting := true })).bump (Cnt.USB_RESETS n.val)).emit (.bus 7 n.val 6 [])
    else s

/-- PORT_RESET_COMPLETE (R302). SS_EN = 0 keeps the port to USB 2.0. -/
def execPortResetComplete (n : Fin 4) (speed : Fin 6) (s : State) : Result :=
  .next <|
    if s.portStateUsb n.val = 2 ∧ (s.usbPort n.val).resetting then
      (s.clearPort n.val).setUsbState n.val 3 (if s.flag (Reg.USB_PORT_CFG_SS_EN n.val) then speed.val else min 3 speed.val)
    else s

/-- CLEAR_PORT_FEATURE_PORT_ENABLE (R301). -/
def execClearPortFeaturePortEnable (n : Fin 4) (s : State) : Result :=
  .next <| if s.portStateUsb n.val = 3 then s.setUsbState n.val 2 (s.portSpeed n.val) else s

/-- SUSPEND_REQUEST (R301). -/
def execSuspendRequest (n : Fin 4) (s : State) : Result :=
  .next <| if s.portStateUsb n.val = 3 then (s.clearPort n.val).setUsbState n.val 4 (s.portSpeed n.val) else s

/-- A wake and a host resume have met: the resume wins (R304). [Log entry 127: DESIGN CHOICE] -/
def State.mergeWake (s : State) (n : Nat) : State := (s.setFlag (Reg.USB_PORT_STATE_WAKE_SEEN n) true).bump (Cnt.USB_WAKES_MERGED n)

/-- A host resume (R303, R304): of a SUSPENDED port it starts; while a wake's change has not reached the host it takes its place. -/
def State.hostResumes (s : State) (n : Nat) : State :=
  if (s.usbPort n).resume = .wake then (s.updUsbPort n (fun x => { x with resume := .none })).mergeWake n
  else if s.portStateUsb n = 4 ∧ (s.usbPort n).resume = .none then
    (s.updUsbPort n (fun x => { x with resume := .host, since := s.boot.ticks })).emit (.bus 7 n 7 [])
  else s

/-- CLEAR_PORT_FEATURE_PORT_SUSPEND (R303). -/
def execClearPortFeaturePortSuspend (n : Fin 4) (s : State) : Result := .next (s.hostResumes n.val)

/-- HOST_RESUME (R303, R304). -/
def execHostResume (n : Fin 4) (s : State) : Result := .next (s.hostResumes n.val)

/-- REMOTE_WAKE (R303, R304): the station side completes the resume; the change goes to the host at the next boundary. -/
def execRemoteWake (n : Fin 4) (s : State) : Result :=
  .next <|
    let k := n.val
    if s.portStateUsb k = 4 then
      let s := s.bump (Cnt.USB_WAKES k)
      if (s.usbPort k).resume = .host then s.mergeWake k
      else (s.updUsbPort k (fun x => { x with resume := .wake, since := s.boot.ticks })).setUsbState k 3 (s.portSpeed k)
    else s

/-- USB_ATTACH (R301, R312): training begins. -/
def execUsbAttach (n : Fin 4) (s : State) : Result :=
  .next <| if s.portStateUsb n.val = 1 then s.updUsbPort n.val (fun x => { x with training := true }) else s

/-- SS_LINK_U0 (R301). [Log entry 126: DESIGN CHOICE] -/
def execSsLinkU0 (n : Fin 4) (gen2 : Bool) (s : State) : Result :=
  .next <|
    if s.portStateUsb n.val = 1 ∧ (s.usbPort n.val).training ∧ s.flag (Reg.USB_PORT_CFG_SS_EN n.val) then
      ((s.clearPort n.val).setUsbState n.val 3 (if gen2 then 5 else 4)).bump (Cnt.USB_CONNECTS n.val)
    else s

/-- USB2_CONNECT (R301). -/
def execUsb2Connect (n : Fin 4) (speed : Fin 3) (s : State) : Result :=
  .next <|
    if s.portStateUsb n.val = 1 ∧ (s.usbPort n.val).training then
      (((s.clearPort n.val).setUsbState n.val 2 (speed.val + 1)).bump (Cnt.USB_FALLBACKS_USB2 n.val)).bump (Cnt.USB_CONNECTS n.val)
    else s

/-- CONNECT_FAIL (R301). -/
def execConnectFail (n : Fin 4) (s : State) : Result :=
  .next <|
    if s.portStateUsb n.val = 1 ∧ (s.usbPort n.val).training then (s.clearPort n.val).bump (Cnt.USB_CONNECT_FAILS n.val) else s

/-- A device goes (R301, R311): a host resume in progress ends with USB Transaction Error (kind 8 on port 7). -/
def State.usbDetaches (s : State) (n : Nat) : State :=
  let s := s.when ((s.usbPort n).resume == .host) (fun s => s.emit (.bus 7 n 8 [ccTransactionError]))
  let s := s.clearPort n
  if 2 ≤ s.portStateUsb n then s.setUsbState n 1 0 else s

/-- USB_DETACH (R301). -/
def execUsbDetach (n : Fin 4) (s : State) : Result := .next (s.usbDetaches n.val)

/-- LINK_RECOVERY_FAIL (R301). [Log entry 126: DESIGN CHOICE] -/
def execLinkRecoveryFail (n : Fin 4) (s : State) : Result :=
  .next <|
    if s.portStateUsb n.val = 3 then (s.setUsbState n.val 2 (s.portSpeed n.val)).bump (Cnt.USB_LINK_ERRORS n.val) else s

/-- Resumes at a boundary: USB 2.0 signalling lasts 160 rounds (20 ms), a U3 exit ends by the next boundary; a wake's change goes
to the host (R303). [Log entry 127: DESIGN CHOICE] -/
def State.resumesAtBoundary (s : State) : State :=
  forAll [0, 1, 2, 3] s (fun s n =>
    let x := s.usbPort n
    match x.resume with
    | .none => s
    | .wake => (s.updUsbPort n (fun x => { x with resume := .none })).emit (.bus 7 n 9 [])
    | .host =>
      if s.portStateUsb n = 4 ∧ (if s.portSpeed n ≤ 3 then x.since + 160 else x.since + 1) ≤ s.boot.ticks then
        (s.clearPort n).setUsbState n 3 (s.portSpeed n)
      else s)

/-- A transfer that missed its microframe (R299, R300). -/
def State.isoMissed (s : State) (n : Nat) (x : Transfer) : State :=
  let s := (s.transferDone n x ccMissedService).bump (Cnt.USB_ISO_MISSED x.tree)
  s.when (x.kind == .isoIn) (fun s => { s with usb := { s.usb with missed := s.usb.missed ++ [(n, x.tree)] } })

/-- The microframes a step of the round number passes over (R299). -/
def State.skips (s : State) (micro : Nat) : Bool := decide (s.usb.lastRound < micro) && decide (micro < s.round)

/-- Isochronous transfers at a boundary (R299, R300): OUT data for microframe k leave at round k − ISO_LEAD; what is not complete at
k + ISO_LEAD, or whose microframe or sending round a step passed over, has missed its microframe. [Log entry 124: DEDUCED] -/
def State.isoAtBoundary (s : State) : State :=
  let lead := s.get Reg.TREE_CFG_ISO_LEAD
  forAll (s.usb.transfers.filter (fun x => x.2.micro != 0)) s (fun s e =>
    let x := e.2
    if s.usb.lastRound + 1 < s.round ∧ s.skips x.micro then s.isoMissed e.1 x
    else if x.kind = .isoOut ∧ x.sent = false then
      if x.micro = s.round + lead then
        (s.setTransfers (mput s.usb.transfers e.1 { x with sent := true })).emit (.bus 3 x.tree 6 [e.1, x.micro])
      else if x.micro < s.round + lead then s.isoMissed e.1 x
      else s
    else if x.micro + lead < s.round then s.isoMissed e.1 x
    else s)

/-- SOF and timestamp packets (R299): microframe and frame number, on each ENABLED port (kind 0 on port 7); none where the round
number was stepped. [Log entry 128: DESIGN CHOICE] -/
def State.sendSof (s : State) : State :=
  let s := if s.round = s.usb.lastRound + 1 then
      forAll [0, 1, 2, 3] s (fun s n =>
        if s.portStateUsb n = 3 then s.emit (.bus 7 n 0 [s.round % 8, s.round / 8 % 2048]) else s)
    else s
  { s with usb := { s.usb with lastRound := s.round } }

/-- Ports whose EN is 0 or whose domain is gone are OFF (R301). -/
def State.usbPortsOff (s : State) : State :=
  forAll [0, 1, 2, 3] s (fun s n =>
    if s.portStateUsb n ≠ 0 ∧ (s.flag (Reg.USB_PORT_CFG_EN n) = false ∨ s.powered .station = false ∨ s.servicePowered) then s.portOff n else s)

/-- The USB block at a boundary, `before` the state whose box fields were in force until now: a tree whose boxes a staged set
changed is lost, to form again (R311). -/
def State.usbAtBoundary (s : State) (before : State) : State :=
  let s := s.usbPortsOff
  let s := forAll (List.range 17) s (fun s r =>
    if s.attached r ∧ (before.get (ctlBoxFld r) ≠ s.get (ctlBoxFld r) ∨ before.get (isoBoxFld r) ≠ s.get (isoBoxFld r)) then s.loseTree r else s)
  s.resumesAtBoundary.isoAtBoundary.sendSof

end Machine
end Sys2Proof
end

