-- ==== Sys2Proof/Machine/Keys.lean ====
section
/-!
DEFINITION. Key slots (R423 to R426), what they hold the trunk ports to (R434, R435), the end of debug (R443) and APPROVED (R446).
-/
namespace Sys2Proof
namespace Machine

def State.setSec (s : State) (x : SecSt) : State := { s with sec := x }

/-- What a slot holds beside SLOT_ATTR. -/
def State.slot (s : State) (n : Nat) : SlotSt := (mget s.sec.slots n).getD SlotSt.init

/-- A slot's attributes (R425). -/
def State.setAttr (s : State) (n state kind dest : Nat) : State :=
  ((s.set (Reg.SLOT_ATTR_STATE n) state).set (Reg.SLOT_ATTR_KIND n) kind).set (Reg.SLOT_ATTR_DEST n) dest

/-- A slot erased, left in a state (R425, R432, R443); OWNED follows slot 2 (R450). A letter that waits for it goes too. -/
def State.eraseSlot (s : State) (n state : Nat) : State :=
  let s := (s.setAttr n state 0 0).setSec { s.sec with slots := mdel s.sec.slots n, due := mdel s.sec.due n }
  s.when (n == 2) (fun s => s.setFlag Reg.SEC_STATE_OWNED false)

/-- KEY_EVENT (R452). [Log entry 157: DESIGN CHOICE] -/
def State.keyEvent (s : State) (n : Nat) (st : Status) : State :=
  s.notice 0x80D0 [n, s.get (Reg.SLOT_ATTR_STATE n), s.get (Reg.SEAL_COUNTER_VALUE n), st.code]

/-- The port's link key, or commissioning mode, serves it (R434, R435). -/
def State.keyed (s : State) (p : PortId) : Bool :=
  if s.linkSlot p = 0 then !s.commissionBlocked else s.slotServes (s.linkSlot p) p

/-- Ports whose keying does not serve are held with EN = 0 (R434). [Log entry 160: DESIGN CHOICE] -/
def State.enforceKeys (s : State) : State :=
  forAll allPorts s (fun s p => if s.flag (Reg.TRK_PORT_CFG_EN p.code) && !s.keyed p then s.holdPort p else s)

/-- APPROVED (R446). -/
def State.syncApproved (s : State) : State :=
  s.setFlag Reg.SEC_STATE_APPROVED
    (!s.flag Reg.SEC_STATE_DEBUG && !s.flag Reg.SEC_STATE_CRYPTO_ERROR && !s.boot.testImage &&
     !bitOf (s.get Reg.SEC_STATE_POLICY) 0 && !allPorts.any (fun p => s.commissioning p))

/-- DEBUG taken, with DEBUG_CHANGED (R443, R452). -/
def State.setDebug (s : State) (b : Bool) : State :=
  if s.flag Reg.SEC_STATE_DEBUG = b then s
  else ((s.setFlag Reg.SEC_STATE_DEBUG b).notice 0x80D3 [if b then 1 else 0]).syncApproved

/-- A letter that waited for a slot goes: the slot is as the key in force leaves it (R425, R443). -/
def State.dropDue (s : State) (n : Nat) : State :=
  let s := s.setSec { s.sec with due := mdel s.sec.due n }
  s.when (decide (n < 64) && s.get (Reg.SLOT_ATTR_STATE n) == 2) (fun s =>
    s.set (Reg.SLOT_ATTR_STATE n) (if s.get (Reg.SLOT_ATTR_DEST n) = 0 then 0 else 1))

/-- Debug ends: slots loaded during it lose their keys, and after a relock read BLOCKED (R425, R443). [Log entry 161: DESIGN CHOICE] -/
def State.debugEnds (s : State) (relock : Bool) : State :=
  if !s.flag Reg.SEC_STATE_DEBUG then s
  else
    let s := s.setDebug false
    let s := forAll (mkeys s.sec.slots (fun x => x.debug)) s (fun s n => s.eraseSlot n (if relock then 3 else 0))
    let s := forAll (mkeys s.sec.due (fun d => d.debug)) s (fun s n => s.dropDue n)
    { s.enforceKeys with boot := { s.boot with testNext := false } }

/-- SELF_TEST_FAILED (R444, R452): test 0 entropy, 1 known answers, 2 pair consistency, 3 a pipe with its number, 4 a slot record. [Log entry 26: DESIGN CHOICE] -/
def State.testFailed (s : State) (test number : Nat) : State :=
  (s.bump Cnt.SECURE_SELF_TEST_FAILS).notice 0x80D4 [test, number]

/-- CRYPTO_ERROR (R444). -/
def State.cryptoError (s : State) (test : Nat) : State :=
  ((s.setFlag Reg.SEC_STATE_CRYPTO_ERROR true).testFailed test 0).syncApproved

/-- The self-tests of the pipes at a CIPHER power-up (R439, R444): ports of a failing pipe are held. -/
def State.pipeTests (s : State) (ok : Nat) : State :=
  let s := (s.set Reg.SELF_TEST_PIPE_OK ok).setSec { s.sec with pipesFailed := 4095 - ok % 4096 }
  let s := forAll (List.range 12) s (fun s n => if bitOf ok n then s else s.testFailed 3 n)
  forAll allPorts s (fun s p => if s.pipesOk p then s else (s.holdPort p).keyFault p .pipe)

end Machine
end Sys2Proof
end

