-- ==== Sys2Proof/Machine/Domains.lean ====
section
/-!
DEFINITION. Power domains (R19 to R22, R409, R410): rail enables, what each domain's removal takes with it, and its return.
-/
namespace Sys2Proof
namespace Machine

def State.setBoot (s : State) (b : BootSt) : State := { s with boot := b }
def State.setPs (s : State) (x : PsSt) : State := { s with ps := x }

/-- A rail enable's level at its pin (R508). -/
def enableFld (d : Domain) : Fld := ⟨Reg.PIN_LEVELS, d.bit + 3, 1⟩
def State.enabled (s : State) (d : Domain) : Bool := s.flag (enableFld d)

def State.raiseEnable (s : State) (d : Domain) : State :=
  (s.setFlag (enableFld d) true).setPs { s.ps with lowered := mdel s.ps.lowered d.bit }

def State.lowerEnable (s : State) (d : Domain) : State :=
  if s.enabled d then (s.setFlag (enableFld d) false).setPs { s.ps with lowered := mput s.ps.lowered d.bit s.boot.ticks } else s

/-- The order of removal of R20, CORE apart, and that of powering (R409). -/
def removalOrder : List Domain := [.cipher, .station, .hostio, .trkC, .trkB, .trkA]
def poweringOrder : List Domain := [.trkA, .trkB, .trkC, .hostio, .station, .cipher]

/-- The trunk port of a domain. -/
def domainPort : Domain → Option PortId | .trkA => some .a | .trkB => some .b | .trkC => some .c | _ => none

/-- HOSTIO goes: the host link and the local SSD with it (R19, R136, R198, R289). The root entry shows UP until the host link has been down
for 1.000 ms, which HOST_LINK_LOSS tells. -/
def State.hostioLost (s : State) : State :=
  let s := { s with link := { s.link with hostUp := false, takeRoot := false } }
  let s := forAll (List.range 16) s (fun s r => if s.attached r then s.loseTree r else s)
  let s := ((s.setSsd 0).set Reg.SSD_STATE_GEN 0).set Reg.SSD_STATE_WIDTH 0
  let s := forAll (s.media.cmds.filter (fun c => c.2.forFar.isSome)) s (fun s c => s.nvmeDone c.2 nvTransient)
  let s := { s with media := { s.media with cmds := [], held := [], tx := [], pf1 := [], nsSizes := [] }, cmd := { s.cmd with pf0 := Pf0.init } }
  let s := s.when (s.flag (Reg.SUB_STATE_LINK 10)) (fun s => (s.setFlag (Reg.SUB_STATE_LINK 10) false).notice 0x8082 [10, 0])
  forAll [3, 4] s (fun s i => (s.egressDown i).ingressDown i)

/-- STATION goes: display, Ethernet, USB data, the service port's data path and the field buses (R19, R198, R301, R309, R486). [Log entries 116: DESIGN CHOICE, 137: DESIGN CHOICE] -/
def State.stationLost (s : State) : State :=
  let s := s.usbPortsOff
  let s := s.when (s.attached 16) (fun s => s.loseTree 16)
  let s := s.svcDetach
  let s := forAll (List.range 6) s (fun s d =>
    let s := s.when (d < 4 && s.flag (Reg.DP_STATE_HPD d)) (fun s => s.displayEvent d 1)
    (((s.setFlag (Reg.DP_STATE_HPD d) false).setFlag (Reg.DP_STATE_TRAINED d) false).set (Reg.DP_STATE_STREAM d) 0).setDp d DpSt.init)
  let s := forAll (List.range 10) s (fun s n =>
    if s.flag (Reg.SUB_STATE_LINK n) then (s.setFlag (Reg.SUB_STATE_LINK n) false).notice 0x8082 [n, 0] else s)
  let s := forAll [0, 1, 2, 3] s (fun s n => s.withdrawReg n)
  let s := forAll [0, 1] s (fun s n =>
    let s := match (s.masterBus n).cur with
      | some c => if c.seq.isSome then s.endRegistered c.box .noResponse 0 else s
      | none => s
    s.setMasterBus n { s.masterBus n with cur := none })
  let s := s.busEnables
  forAll [5, 6, 7, 8] s (fun s i => (s.egressDown i).ingressDown i)

/-- A trunk port's domain goes (R95, R198). -/
def State.trunkLost (s : State) (p : PortId) : State := ((s.enterDisabled p).egressDown p.code).ingressDown p.code

/-- A domain removed: its enable falls, its bit of DOMAIN_ON clears, and its block goes (R19, R20). CORE alone goes with what
`coreLost` says, not here. -/
def State.removeDomain (s : State) (d : Domain) : State :=
  let s := s.lowerEnable d
  let s := s.setPs { s.ps with raise := s.ps.raise.erase d }
  if !s.powered d then s
  else
    let s := s.setPowered d false
    match d with
    | .trkA => s.trunkLost .a
    | .trkB => s.trunkLost .b
    | .trkC => s.trunkLost .c
    | .hostio => s.hostioLost
    | .station => s.stationLost
    | .cipher => s
    | .core => s

/-- DOMAIN_CHANGED where DOMAIN_ON is no longer what it was (R422). -/
def State.tellDomains (s : State) (old : Nat) : State :=
  let now := (s.word Reg.DOMAIN_ON).toNat
  if now = old then s else s.notice 0x80C0 [old, now]

/-- The six domains removed in the order of R20, then CORE where asked. -/
def State.removeAll (s : State) (core : Bool) : State :=
  let old := (s.word Reg.DOMAIN_ON).toNat
  let s := forAll removalOrder s (fun s d => s.removeDomain d)
  let s := s.setPs { s.ps with raise := [] }
  (s.when core (fun s => s.removeDomain .core)).tellDomains old

/-- DOMAIN_REQ asks for a domain (R420). -/
def State.requested (s : State) (d : Domain) : Bool := bitOf (s.word Reg.DOMAIN_REQ).toNat d.bit

/-- DOMAIN_FAULT of a domain (R420). -/
def faultFld (d : Domain) : Fld := ⟨Reg.DOMAIN_FAULT, d.bit, 1⟩

/-- DOMAIN_REQ asks for a domain, and SERVICE_POWERED (R401) and recovery, in which only the service port runs (R479), allow it. [Log entry 177: DESIGN CHOICE] -/
def State.wanted (s : State) (d : Domain) : Bool :=
  s.requested d && (!(s.servicePowered || s.get Reg.BOOT_STATE_STAGE == 5) || d == .station)

/-- A domain may be powered now: CORE is, it has no fault, and its enable fell long enough ago (R20, R410, R499, R510). [Log entry 149: DESIGN CHOICE] -/
def State.mayPower (s : State) (d : Domain) : Bool :=
  s.powered .core && s.wanted d && !s.powered d && !s.enabled d && !s.flag (faultFld d) &&
  (match mget s.ps.lowered d.bit with
   | some t => decide (t + 1 < s.boot.ticks)
   | none => true)

/-- The domains that are to be powered, queued for their enables in the order of R409. -/
def State.queueDomains (s : State) : State :=
  s.setPs { s.ps with raise := poweringOrder.filter (fun d => s.mayPower d || s.ps.raise.contains d) }

/-- DOMAIN_POWER_CHANGE at a boundary (R409): requested-off domains go, requested-on ones are queued. [Log entries 39: DESIGN CHOICE, 149: DESIGN CHOICE] -/
def State.domainsAtBoundary (s : State) : State :=
  if (s.get Reg.BOOT_STATE_STAGE = 4 ∨ s.get Reg.BOOT_STATE_STAGE = 5) ∧ s.get Reg.PS_STATE_STATE ≤ 1 then
    let old := (s.word Reg.DOMAIN_ON).toNat
    let s := forAll removalOrder s (fun s d =>
      if !s.wanted d && (s.powered d || s.enabled d) then s.removeDomain d else s)
    (s.tellDomains old).queueDomains
  else s

/-- RAIL_ENABLE (R409): the next enable rises. -/
def execRailEnable (s : State) : Result :=
  .next <|
    match s.ps.raise with
    | [] => s
    | d :: rest => (s.setPs { s.ps with raise := rest }).raiseEnable d

/-- What a domain's return starts: a trunk port with EN = 1 hunts (R95); the pipes are tested (R444). -/
def State.domainStarts (s : State) (d : Domain) (pipesOk : Nat) : State :=
  match d with
  | .cipher => s.pipeTests pipesOk
  | _ =>
    match domainPort d with
    | some p => if s.flag (Reg.TRK_PORT_CFG_EN p.code) && s.portState p == 0 then s.enterHunt p else s
    | none => s

/-- A write of DOMAIN_REQ is permitted (R20, R409, R420): CORE stays 1, no domain is asked for while CORE is off, and a
SERVICE_POWERED hub takes no write that names HOSTIO, CIPHER or a trunk domain. -/
def State.domainReqOk (s : State) (mask value : Nat) : Bool :=
  !(bitOf mask 1 && !bitOf value 1) && !(s.servicePowered && [2, 3, 4, 5, 7].any (fun i => bitOf mask i && bitOf value i)) &&
  (s.powered .core || !([2, 3, 4, 5, 6, 7].any (fun i => bitOf mask i && bitOf value i)))

/-- DOMAIN_REQ_WRITE (R409, R420); the field is kept in MRAM, so it needs the switch–keeper link (R16). -/
def execDomainReqWrite (mask value : Word) (s : State) : Result :=
  .next <|
    if !s.domainReqOk mask.toNat value.toNat then s.emit (.writeStatus Reg.DOMAIN_REQ .notPermitted)
    else if !s.skUp then s.emit (.writeStatus Reg.DOMAIN_REQ .hwFault)
    else ((s.shadowWrite Reg.DOMAIN_REQ (mask &&& 0xFE) value).activity 0x15).emit (.writeStatus Reg.DOMAIN_REQ .ok)

end Machine
end Sys2Proof
end

