-- ==== Sys2Proof/Machine/Resets.lean ====
section
/-!
DEFINITION. Reset kinds and what each keeps (R473 to R475, R482), fault containment, escalation and SAFE (R483 to R485), and the
restart of the postmaster (R220, R349).
-/
namespace Sys2Proof
namespace Machine

/-- The bits of a word that a reset keeps (R474): fields marked kept. The flow records' ISO_ALLOT comes back from MRAM. [Log entry 170: DESIGN CHOICE] -/
def keptBits (a : Nat) : Word :=
  if Reg.ISO_ALLOT 0 ≤ a ∧ a < Reg.ISO_ALLOT 8192 then 0xFFFFFFFF#32 else maskOf (fun f => f.kept != .no) a

/-- A register shows what a keeper service does, which a CORE_CYCLE leaves running (R474, R487): paths, measurement, PD ports, debug
and the keeper's tests, the recorder's freeze, pins, domains and die links; it holds no counter. After a HUB reset the paths hold
their gates, and so their states and the supply status. [Log entry 170: DESIGN CHOICE] -/
def keeperLive (hub : Bool) (a : Nat) : Bool :=
  a == Reg.DOMAIN_ON || a == Reg.DIE_LINKS || a == Reg.PIN_LEVELS || a == Reg.DIE_TEMP || a == Reg.IN_STATE 0 || a == Reg.IN_STATE 1 ||
  a == Reg.SUPPLY_STATUS ||
  (!hub && ((a / 65536 == 0x30 || a / 65536 == 0x31) && decide (a % 65536 < 0x100) || a == Reg.SEC_STATE || a == Reg.SELF_TEST ||
    a == Reg.REC_STATE))

/-- Fields not marked kept to their reset values, but at addresses that stay live (R474); a counter of R81 form is cleared so. -/
def State.resetFields (s : State) (live : Nat → Bool) : State :=
  forAll s.regs { s with shadow := [] } (fun s e =>
    if live e.1 then s else s.setWord e.1 ((e.2 &&& keptBits e.1) ||| (resetWord e.1 &&& ~~~ (keptBits e.1))))

/-- A trunk port after CORE was lost: only the link-pair record stays (R437). -/
def PortSt.afterCore (x : PortSt) : PortSt := { PortSt.init with pairs := x.pairs }

/-- What CORE's loss of power takes (R474): buffer, pigeonholes, engine contexts, round timer, sheets, links and the blocks. -/
def State.coreLost (s : State) : State :=
  { s with
    rt := { RoundSt.init with
      storedRound := s.rt.storedRound, storedEpoch := s.rt.storedEpoch, storedAge := s.rt.storedAge, floor := s.rt.storedRound + 16000,
      epochFloor := s.rt.storedEpoch }
    sw := SwSt.init
    eng := EngSt.init
    bridge := BridgeSt.init
    media := MediaSt.init
    usb := UsbSt.init
    link := { LinkSt.init with portA := s.link.portA.afterCore, portB := s.link.portB.afterCore, portC := s.link.portC.afterCore }
    tun := { TunSt.init with
      boxes := s.tun.boxes
      flows := (s.mem.flows.foldl (fun m e => mput m e.1 e.2) s.tun.flows).map (fun (e : Nat × Flow) =>
        (e.1, { e.2 with demand := 0, dropped := 0, isoBytes := 0, shed := [], meter := ⟨e.2.allot.min * 2048, e.2.allot.ceil * 2048⟩ })) }
    mem := { MemSt.init with
      boxes := s.mem.boxes, paths := s.mem.paths, roundLost := s.mem.roundLost, fixedMram := s.mem.fixedMram
      revisit := s.mem.revisit.filter (fun e => e.1 == 7), written := s.mem.written.filter (fun e => e.1 == 7)
      passSince := s.mem.passSince }
    reg := { s.reg with pigeons := [], waiting := [] }
    cmd := { s.cmd with lost := [], failures := [], pf0 := Pf0.init, svc := Svc.init, mgmt := Mgmt.init, noticesRound := 0 }
    shadow := [] }

/-- The round timer starts with CORE's clocks: FREE, at the floor (R53, R474); and the scrubber's passes (R466). -/
def State.startTimer (s : State) : State :=
  { s.setRt { s.rt with running := true, round := s.rt.floor, ns := 0, mark := 0 } with
    mem := { s.mem with passSince := (List.range 8).map (fun m => (m, s.boot.ticks)), late := [] } }

/-- PG is driven high (R383). -/
def State.pg (s : State) : Bool := s.flag Reg.SUPPLY_STATUS_PG

/-- PWR_EN_CORE rises where nothing holds it back (R476): the keeper has started and tested itself, PG is high or the hub is
SERVICE_POWERED, no reset holds, no fault waits, and no zeroisation is under way (R445). [Log entry 173: DESIGN CHOICE] -/
def State.tryCore (s : State) : State :=
  let b := s.boot
  if b.keep && b.released && b.tested && s.sec.zeroising.isNone && !b.held && !b.safe && b.waits == [] && !s.enabled .core && (s.pg || s.servicePowered) then
    (s.set Reg.BOOT_STATE_STAGE 1).raiseEnable .core
  else s

/-- RESET_CAUSE of a reset (R489). -/
def State.setCause (s : State) (kind cause : Nat) : State := (s.set Reg.RESET_CAUSE_KIND kind).set Reg.RESET_CAUSE_CAUSE cause

/-- FAULT of RESET_CAUSE, with HUB_FAULT for codes 3 to 7 (R483, R491). -/
def State.faultSeen (s : State) (code : Nat) (detail : List Nat) : State :=
  let s := s.set Reg.RESET_CAUSE_FAULT code
  if 3 ≤ code ∧ code ≤ 7 then s.notice 0x80F2 (code :: detail) else s

/-- What the postmaster's restart does to one entry of the book (R349): a wait on a box goes on from the box, a role swap from the
keeper; other commands run again, or end with INTERNAL and NO_EFFECT where their parameters are gone. [Log entry 178: DESIGN CHOICE] -/
def State.restartEntry (s : State) (k : Nat) : State :=
  match mget s.cmd.book k with
  | none => s
  | some e =>
    if e.state = .done then (if e.delivered then s else s.deliver k false)
    else if e.started && (e.opcode == 0x0200 || e.opcode == 0x0201 || e.opcode == 0x0511) then s
    else if e.body then s.updEntry k (fun e => { e with started := false })
    else (s.updEntry k (fun e => { e with farNoEffect := true })).finish k .internal []

/-- The command book at a restart of the postmaster (R349); reads that were to be executed again were held in CORE only. [Log entry 178: DESIGN CHOICE] -/
def State.restartBook (s : State) : State :=
  forAll (s.cmd.book.map (·.1)) { s with cmd := { s.cmd with rereads := [] } } (fun s k => s.restartEntry k)

/-- STAGE_STATE and STAGE_ROUND brought up to date with a set (R375). -/
def State.syncSet (s : State) (n : Nat) : State :=
  let x := (mget s.cmd.sets n).getD StageSet.init
  let s := ((s.set (Reg.STAGE_STATE_STATE n) x.state.code).set (Reg.STAGE_STATE_CAUSE n) x.cause).set (Reg.STAGE_STATE_ENTRIES n) x.entries.length
  s.set (Reg.STAGE_ROUND_ROUND_LO n) (x.round % 2 ^ 32)

def State.setSet (s : State) (n : Nat) (x : StageSet) : State :=
  ({ s with cmd := { s.cmd with sets := mput s.cmd.sets n x } }).syncSet n

/-- A set FAILED with its CAUSE and ADDRESS (R367, R371). -/
def State.failSet (s : State) (n cause address : Nat) : State :=
  let x := (mget s.cmd.sets n).getD StageSet.init
  (s.setSet n { x with state := .failed, cause := cause, address := address, passed := false }).bump Cnt.HUB_SETS_FAILED

/-- STAGE_FAILED (R361). -/
def State.tellFailed (s : State) (n : Nat) : State :=
  let x := (mget s.cmd.sets n).getD StageSet.init
  s.notice 0x8002 [n, x.cause, x.round, x.address]

/-- Staging sets at a restart (R482): an ARMED set whose round passed becomes FAILED with CAUSE 7. [Log entry 181: DESIGN CHOICE] -/
def State.restartSets (s : State) : State :=
  let s := forAll s.cmd.sets s (fun s e => s.syncSet e.1)
  forAll (mkeys s.cmd.sets (fun x => x.state == .armed && decide (x.round ≤ s.round))) s (fun s n => (s.failSet n 7 0).tellFailed n)

/-- A swap under way that the restart cuts ends as not done, and a master that was reset in it has lost the role (R74). [Log entry 44: DESIGN CHOICE] -/
def State.restartSwap (s : State) : State :=
  if s.swapUnder then
    let s := s.endSwap .timeout s.rt.round s.epoch
    let s := s.setRt { s.rt with cancelDue := none }
    s.when (s.timing == 4) State.loseRole
  else s

/-- Registers that show what MRAM or the tunnels hold, after CORE came back. -/
def State.restoreRegisters (s : State) : State :=
  let s := (s.syncBook).syncResources
  let s := s.set (Reg.MEM_STATE_REVISIT 7) (s.mem.revisit.filter (fun e => e.1 == 7)).length
  forAll s.reg.book s (fun s e => (s.syncWindow e.1).syncRegistry e.1)

/-- Contexts placed for the boxes that stay in OPENING, OPEN and DRAINING (R209, R474); a box that finds no place drains (R221). The
drain limits count again (R145, R474). -/
def State.restoreContexts (s : State) : State :=
  forAll (s.tun.boxes.filter (fun b => b.2.state != .free)) s (fun s b =>
    let s := s.updBox b.1 (fun x => { x with since := s.round })
    match s.placeContext b.2.kind b.1 with
    | some s => s
    | none => if b.2.state = .opened then s.setBoxState b.1 .draining else s)

/-- The postmaster starts (R482): book, Registry, receipt side, staging sets; HUB_STARTED follows when the paths accept packets. -/
def State.postmasterStarts (s : State) (coreLost : Bool) : State :=
  let s := s.when coreLost (fun s => (s.set Reg.ENG_RUN_RUNNING 0xFFFF).restoreRegisters.restoreContexts)
  let s := (s.restartSwap.registryRestart coreLost).restartSets
  (s.set Reg.BOOT_STATE_STAGE 3).setBoot { s.boot with startDue := true }

/-- The paths accept packets again (R349, R476): STAGE 4, the book is worked on, and HUB_STARTED leaves; after a zeroisation ZEROISED
(R445). [Log entry 173: DESIGN CHOICE] -/
def State.becomesReady (s : State) : State :=
  if s.get Reg.BOOT_STATE_STAGE = 3 then
    let s := (s.set Reg.BOOT_STATE_STAGE 4).restartBook
    let s := s.when s.boot.startDue (fun s => s.notice 0x80F0
      [s.get Reg.RESET_CAUSE_KIND, s.get Reg.RESET_CAUSE_CAUSE, s.get Reg.RESET_CAUSE_FAULT, s.get Reg.FW_VERSION_VERSION,
       s.get Reg.BOOT_STATE_RUNNING_SLOT])
    let s := s.when s.sec.zeroised (fun s => s.notice 0x80D5 [s.get Reg.ZEROISE_COUNT_COUNT])
    let s := match s.boot.fallback with
      | some f => s.notice 0x80F1 [f.1, f.2]
      | none => s
    ((s.setBoot { s.boot with startDue := false, fallback := none }).setSec { s.sec with zeroised := false }).restartIdle
  else s

/-- CORE is on its way out: everything its blocks held goes (R20, R474), and its die's temperature is not read (R464). -/
def State.dropCore (s : State) : State :=
  let s := (s.completeWrites.removeAll true).coreLost.set Reg.DIE_TEMP_SWITCH 0x8000
  s.setPs { s.ps with attempt := false, raise := [] }

/-- A CORE_CYCLE (R473, R474): CORE and the six domains go, fields and counters return to their reset values, and CORE's enable
rises again when it may. [Log entry 170: DESIGN CHOICE] -/
def State.coreCycle (s : State) (cause : Nat) : State :=
  let s := (s.when (cause == 3) (fun s => s.debugEnds false)).dropCore
  let s := (s.bump Cnt.HUB_CORE_CYCLES).resetFields (keeperLive false)
  let s := (s.setCause 2 cause).setBoot { s.boot with due := none, failed := [], reloading := false }
  let s := s.set Reg.PS_STATE_STATE 0
  s.tryCore

/-- A HUB reset (R473, R474): as a CORE_CYCLE, and the keeper starts again; the paths hold their gates, debug ends, and a freeze of the
recorder with it. [Log entry 170: DESIGN CHOICE] -/
def State.hubReset (s : State) (cause : Nat) : State :=
  let s := (s.debugEnds false).dropCore
  let s := (s.bump Cnt.HUB_HUB_RESETS).resetFields (keeperLive true)
  let s := { s with
    pd := { PdSt.init with ports := s.pd.ports.map (fun (e : Nat × PdPort) => (e.1, { PdPort.init with pdos := e.2.pdos, trips := e.2.trips })) }
    ps := { PsSt.init with lowered := s.ps.lowered }
    recorder := { s.recorder with data := s.recorder.waiting.getD s.recorder.data, waiting := none }
    sec := { s.sec with invalid := [], lockUntil := 0 } }
  let s := forAll [0, 1, 2, 3] s (fun s n => s.emit (.vbus n false 5000))
  (s.setCause 1 cause).setBoot { s.boot with
    due := none, failed := [], reloading := false, released := false, tested := false, waits := [], safe := false }

/-- SAFE (R484, R485): CORE and the six domains are off, and the keeper alone runs. -/
def State.enterSafe (s : State) : State :=
  let s := (s.dropCore.bump Cnt.HUB_SAFE_ENTRIES).resetFields (keeperLive false)
  s.setBoot { s.boot with safe := true, safeSince := s.boot.ticks, bigFaults := [], due := none, waits := [] }

/-- Times within a window that ends now. -/
def recentTicks (l : List Nat) (now window : Nat) : List Nat := l.filter (fun t => decide (now < t + window)) ++ [now]

/-- A HUB reset or CORE_CYCLE caused by codes 4, 5, 8 to 10 or by escalation (R484): the third within 80,000 rounds is SAFE. -/
def State.bigFault (s : State) (kind cause : Nat) : State :=
  let l := recentTicks s.boot.bigFaults s.boot.ticks 80000
  let s := s.setBoot { s.boot with bigFaults := l }
  if 3 ≤ l.length then s.enterSafe else if kind = 1 then s.hubReset cause else s.coreCycle cause

/-- The other slot booted again after a trial that failed (R481): FW_FALLBACK and a HUB reset with CAUSE 6. [Log entry 176: DESIGN CHOICE] -/
def State.trialFallback (s : State) : State :=
  let old := s.get Reg.BOOT_STATE_ACTIVE_SLOT
  let s := (s.set Reg.BOOT_STATE_ACTIVE_SLOT (1 - old)).setFlag Reg.BOOT_STATE_TRIAL false
  (s.setBoot { s.boot with fallback := some (old, 0) }).hubReset 6

/-- A POSTMASTER reset (R220, R473, R474): everything but the postmaster runs on. A test image that waits is loaded (R481);
once debug has ended the image of the running slot takes its place (R443). -/
def State.postmasterReset (s : State) (cause : Nat) : State :=
  let s := (s.completeWrites.bump Cnt.HUB_POSTMASTER_RESTARTS).setCause 0 cause
  if s.flag Reg.BOOT_STATE_TRIAL then s.trialFallback
  else
    let s := s.when (cause == 3) (fun s => s.debugEnds false)
    let test := s.flag Reg.SEC_STATE_DEBUG && (s.boot.testImage || s.boot.testNext)
    let s := (s.setBoot { s.boot with due := none, testImage := test, testNext := false }).syncApproved
    (s.set Reg.FW_VERSION_VERSION (if test then s.boot.testVersion else s.boot.version)).postmasterStarts false

/-- A POSTMASTER reset caused by a fault (R483, R484): three within 8,000 rounds make a HUB reset. -/
def State.postmasterFault (s : State) (code : Nat) : State :=
  let l := recentTicks s.boot.pmFaults s.boot.ticks 8000
  let s := (s.faultSeen code []).setBoot { s.boot with pmFaults := l }
  if s.flag Reg.BOOT_STATE_TRIAL || l.length < 3 then s.postmasterReset (16 + code)
  else
    let s := (s.bump Cnt.HUB_POSTMASTER_RESTARTS).setBoot { s.boot with pmFaults := [] }
    ((s.faultSeen 12 []).bigFault 1 28)

/-- The postmaster runs: CORE is powered and the image started (R476). -/
def State.postmasterRuns (s : State) : Bool := s.powered .core && decide (3 ≤ s.get Reg.BOOT_STATE_STAGE) && s.get Reg.PS_STATE_STATE != 2

/-- A postmaster restart has begun in this round, whose paths take no packets yet. -/
def State.restarting (s : State) : Bool := s.get Reg.BOOT_STATE_STAGE == 3 && s.get Reg.RESET_CAUSE_KIND == 0

/-- LOCKSTEP_MISMATCH (R220, R483); one that meets a watchdog's restart in the same round names the fault, and is no second reset
(R487). [Log entry 166: DESIGN CHOICE] -/
def execLockstepMismatch (s : State) : Result :=
  .next <|
    if !s.postmasterRuns then s
    else
      let s := s.bump Cnt.ENGINE_LOCKSTEP_FAULTS
      if s.restarting then (s.faultSeen 1 []).setCause 0 17 else s.postmasterFault 1

/-- POSTMASTER_WATCHDOG (R483); one that meets a mismatch's restart in the same round is not counted (R487). [Log entry 166: DESIGN CHOICE] -/
def execPostmasterWatchdog (s : State) : Result :=
  .next (if s.postmasterRuns && !s.restarting then (s.bump Cnt.HUB_WATCHDOG_TRIPS).postmasterFault 2 else s)

/-- A fault that removes CORE and waits for its end (R79, R483): code 8 a supply, 9 REFCLK, 10 the die temperature, 11 an undervoltage
trip. -/
def State.removeCore (s : State) (code : Nat) : State :=
  let s := (s.faultSeen code []).dropCore
  s.setBoot { s.boot with waits := if s.boot.waits.contains code then s.boot.waits else s.boot.waits ++ [code], since := s.boot.ticks }

/-- What CORE waited for is over (R483): CORE_CYCLE, counted towards SAFE for codes 8 to 10. [Log entry 171: DESIGN CHOICE] -/
def State.endWait (s : State) (code : Nat) : State :=
  if s.boot.waits.contains code && !s.boot.safe && !s.boot.held then
    let s := s.setBoot { s.boot with waits := s.boot.waits.erase code }
    if s.boot.waits ≠ [] then s
    else if code = 11 then s.coreCycle 27 else s.bigFault 2 (16 + code)
  else s

/-- REFCLK_ABSENT (R79, R483). -/
def execRefclkAbsent (s : State) : Result := .next (if s.powered .core || s.enabled .core then s.removeCore 9 else s)

/-- REFCLK_RETURN (R483). -/
def execRefclkReturn (s : State) : Result := .next (s.endWait 9)

/-- DIE_OVERTEMP (R483). -/
def execDieOvertemp (s : State) : Result := .next (if s.powered .core then s.removeCore 10 else s)

/-- OVERTEMP_RECOVERY (R483). -/
def execOvertempRecovery (s : State) : Result := .next (s.endWait 10)

/-- CORE_FAULT_CYCLE (R483): 100 ms after the fault of CORE's supply. -/
def execCoreFaultCycle (s : State) : Result :=
  .next (if s.boot.since + 800 ≤ s.boot.ticks then s.endWait 8 else s)

/-- SAFE_END (R483, R485): after 3,600 s a HUB reset, which counts towards SAFE. -/
def execSafeEnd (s : State) : Result :=
  .next (if s.boot.safe && decide (s.boot.safeSince + 28800000 ≤ s.boot.ticks) then 
    (((s.setBoot { s.boot with safe := false }).set Reg.RESET_CAUSE_FAULT 12).bigFault 1 28) else s)

/-- DOMAIN_SUPPLY_GOOD (R410): CORE's return starts its clocks, the round timer and the image read. [Log entry 194: DESIGN CHOICE] -/
def execDomainSupplyGood (d : Domain) (pipesOk : BitVec 12) (s : State) : Result :=
  .next <|
    if !s.enabled d || s.powered d then s
    else if d = .core then
      let s := ((s.setPowered .core true).set Reg.BOOT_STATE_STAGE 2).startTimer
      (s.setBoot { s.boot with slot := s.get Reg.BOOT_STATE_ACTIVE_SLOT, failed := [] }).notice 0x80C0
        [(s.word Reg.DOMAIN_ON).toNat - 2, (s.word Reg.DOMAIN_ON).toNat]
    else if !s.powered .core then s
    else
      let old := (s.word Reg.DOMAIN_ON).toNat
      ((s.setPowered d true).tellDomains old).domainStarts d pipesOk.toNat

/-- A domain faulted (R410): its enable falls, it stays off until its bit is cleared; CORE takes the six others first and waits. -/
def State.domainFaults (s : State) (d : Domain) : State :=
  let s := ((s.setFlag (faultFld d) true).bump Cnt.PSTATE_RAIL_FAULTS).notice 0x80C4 [d.bit]
  if d = .core then (s.removeCore 8)
  else
    let old := (s.word Reg.DOMAIN_ON).toNat
    ((s.faultSeen 7 [d.bit]).removeDomain d).tellDomains old

/-- DOMAIN_SUPPLY_TIMEOUT (R410). -/
def execDomainSupplyTimeout (d : Domain) (s : State) : Result :=
  .next (if s.enabled d && !s.powered d then s.domainFaults d else s)

/-- DOMAIN_SUPPLY_LOSS (R410). -/
def execDomainSupplyLoss (d : Domain) (s : State) : Result := .next (if s.powered d then s.domainFaults d else s)

/-- SK_LINK_DOWN (R16, R18). -/
def execSkLinkDown (s : State) : Result :=
  .next <|
    if !s.skUp then s
    else
      let s := (s.setFlag Reg.DIE_LINKS_SK_UP false).setFlag Reg.DIE_LINKS_SK_FAULT true
      (s.setBoot { s.boot with skDownSince := s.boot.ticks }).faultSeen 5 []

/-- SK_LINK_UP (R16): entries whose transmission was under way are sent again, as resends that are due (R240). -/
def execSkLinkUp (s : State) : Result :=
  .next <|
    if s.skUp || !s.boot.released then s
    else
      let s := s.setFlag Reg.DIE_LINKS_SK_UP true
      s.setReg { s.reg with entries := s.reg.entries.map (fun (e : Nat × Entry) => (e.1, { e.2 with lastSent := e.2.lastSent.map (fun _ => 8000) })) }

/-- SK_LINK_TIMEOUT (R483): down for 8,000 rounds. -/
def execSkLinkTimeout (s : State) : Result :=
  .next (if !s.skUp && s.boot.released && decide (s.boot.skDownSince + 8000 ≤ s.boot.ticks) then s.bigFault 1 21 else s)

end Machine
end Sys2Proof
end

