-- ==== Sys2Proof/Machine/Recorder.lean ====
section
/-!
DEFINITION. The event recorder (R462 to R466): its update once a second, freeze, thaw and reading.
-/
namespace Sys2Proof
namespace Machine

def State.setRecorder (s : State) (r : RecorderSt) : State := { s with recorder := r }

/-- The recorder is frozen (R470). -/
def State.frozen (s : State) : Bool := s.flag Reg.REC_STATE_FROZEN

/-- What the next update adds to: MRAM's contents, or while frozen what waits for the thaw (R465). -/
def RecorderSt.live (r : RecorderSt) : RecData := r.waiting.getD r.data

/-- A change of the recorder's contents, in MRAM or waiting. -/
def State.changeRecord (s : State) (f : RecData → RecData) : State :=
  if s.frozen then s.setRecorder { s.recorder with waiting := some (f s.recorder.live) }
  else s.setRecorder { s.recorder with data := f s.recorder.data }

/-- OPERATING_LO, HOURS and the count itself after a second (R462, R470). -/
def State.setSeconds (s : State) (n : Nat) : State :=
  ((s.setRecorder { s.recorder with seconds := n }).set Reg.OPERATING_LO_VALUE (n % 2 ^ 32)).set Reg.HOURS_VALUE (n / 3600)

/-- The bin of a value (R463). -/
def binOf (low width v : Int) : Nat :=
  if v < low then 0
  else
    let i := (v - low) / width + 1
    if 31 ≤ i then 31 else i.toNat

/-- A histogram's configuration (R464): SOURCE, LOW, WIDTH. -/
def State.histSource (s : State) (h : Nat) : Nat := s.get (Reg.HIST_CFG_SOURCE h)
def State.histLow (s : State) (h : Nat) : Int := s.getS (Reg.HIST_CFG_LOW h)
def State.histWidth (s : State) (h : Nat) : Nat := s.get (Reg.HIST_CFG_WIDTH h)

/-- A bin counted up, to at most 0xFFFF_FFFF (R462). -/
def Hist.add (x : Hist) (i : Nat) : Hist := { x with bins := mput x.bins i (min 0xFFFFFFFF ((mget x.bins i).getD 0 + 1)) }

/-- An extreme passed (R463): the larger where `up`. -/
def RecData.extreme (d : RecData) (k : Nat) (up : Bool) (e : Extreme) : RecData :=
  match mget d.extremes k with
  | some x => if (up && decide (x.value < e.value)) || (!up && decide (e.value < x.value)) then { d with extremes := mput d.extremes k e } else d
  | none => { d with extremes := mput d.extremes k e }

/-- One histogram's update for its value of the second. [Log entry 169: DESIGN CHOICE] -/
def State.updateHist (s : State) (d : RecData) (h : Nat) (v : Int) : RecData :=
  let x := (mget d.hists h).getD ⟨0, []⟩
  let e : Extreme := ⟨v, s.recorder.seconds, s.get Reg.POWER_CYCLES_VALUE, s.now⟩
  let d := { d with hists := mput d.hists h (x.add (binOf (s.histLow h) (s.histWidth h) v)) }
  (d.extreme (2 * h) true e).extreme (2 * h + 1) false e

/-- Sources that run in CORE (R464). -/
def coreSource (code : Nat) : Bool := [1, 7, 8, 9, 10, 12, 13].contains code

/-- CORE's clocks stand: CORE is off, or the hub is Dormant or waking (R388, R415, R416). -/
def State.coreStopped (s : State) : Bool := !s.powered .core || decide (2 ≤ s.get Reg.PS_STATE_STATE)

/-- One more value of a source (R464). -/
def SrcAcc.add (a : Option SrcAcc) (v : Int) (bad : Bool) : SrcAcc :=
  match a with
  | none => ⟨1, v, v, v, bad⟩
  | some a => ⟨a.count + 1, a.sum + v, min a.low v, max a.high v, a.bad || bad⟩

/-- A source gives a value in the second under way (R464). -/
def State.sampleSource (s : State) (code : Nat) (v : Int) (bad : Bool) : State :=
  s.setRecorder { s.recorder with second := mput s.recorder.second code (SrcAcc.add (mget s.recorder.second code) v bad) }

/-- A die's sensor reading is valid (R464, R468): −55 to +150 °C in tenths of a degree. -/
def tempValid (v : Int) : Bool := decide (-550 ≤ v) && decide (v ≤ 1500)

/-- The value of a source for the second (R464), as its row says: maximum, mean, minimum or sum; a mean is rounded towards 0. None where the
second gives none. [Log entry 169: DESIGN CHOICE] -/
def State.sourceValue (s : State) (x : RecorderSample) (stopped : Bool) (code : Nat) : Option Int :=
  let a := (mget s.recorder.second code).filter (fun a => !a.bad)
  let keeper := signedOf 16 x.keeperTemp.toNat
  if stopped && coreSource code then none
  else match code with
    | 2 => if stopped then (if tempValid keeper then some keeper else none) else a.map (·.high)
    | 3 | 4 | 6 => a.map (fun a => a.sum.tdiv a.count)
    | 5 => a.map (·.low)
    | 7 => some (min s.sw.poolLow (s.get Reg.SW_STATUS_POOL_FREE))
    | 8 => some (max s.reg.inUseHigh (s.get Reg.REG_ENTRIES_IN_USE))
    | 10 => some s.mem.fixedCore
    | 11 => some s.mem.fixedMram
    | 12 => some (s.link.portA.badInSecond + s.link.portB.badInSecond + s.link.portC.badInSecond)
    | 14 => some x.usbMw
    | _ => a.map (·.high)

/-- A new second begins: what the sources gave in the last one goes. -/
def State.newSecond (s : State) : State :=
  let s := { s with
    recorder := { s.recorder with second := [] }
    sw := { s.sw with poolLow := s.get Reg.SW_STATUS_POOL_FREE }
    reg := { s.reg with inUseHigh := s.get Reg.REG_ENTRIES_IN_USE }
    mem := { s.mem with fixedCore := 0, fixedMram := 0 } }
  forAll allPorts s (fun s p => s.updPort p (fun x => { x with badInSecond := 0 }))

/-- RECORDER_UPDATE (R462 to R464): a second has passed. While CORE is off the keeper reads its own die's sensor, and skips the CORE
sources. [Log entry 169: DESIGN CHOICE] -/
def execRecorderUpdate (sample : RecorderSample) (s : State) : Result :=
  .next <|
    if !s.boot.keep || !s.boot.released then s
    else
      let stopped := s.coreStopped
      let s := s.setSeconds ((s.recorder.seconds + 1) % 2 ^ 40)
      let s := s.changeRecord (fun d =>
        let d := { d with seconds := d.seconds + 1 }
        (List.range 64).foldl (fun d h =>
          match s.sourceValue sample stopped (s.histSource h) with
          | some v => if s.histSource h = 0 then d else s.updateHist d h v
          | none => d) d)
      (s.when stopped (fun s => s.set Reg.DIE_TEMP_KEEPER sample.keeperTemp.toNat)).newSecond

/-- A histogram and its extremes cleared (R460, R464). -/
def RecData.clearHist (d : RecData) (h seconds : Nat) : RecData :=
  { d with hists := mput d.hists h ⟨seconds, []⟩, extremes := mdel (mdel d.extremes (2 * h)) (2 * h + 1) }

/-- A clearing under R464, which a freeze holds back (R465). -/
def State.clearHist (s : State) (h : Nat) : State := s.changeRecord (fun d => d.clearHist h s.recorder.seconds)

/-- What MRAM has lost is gone from the recorder, frozen or not (R460). -/
def State.loseRecorded (s : State) (f : RecData → RecData) : State :=
  s.setRecorder { s.recorder with data := f s.recorder.data, waiting := s.recorder.waiting.map f }

/-- An extreme cleared (R460). -/
def RecData.clearExtreme (d : RecData) (k : Nat) : RecData := { d with extremes := mdel d.extremes k }

/-- Histograms whose configuration changed at a boundary are cleared (R464). -/
def State.histsAtBoundary (s : State) (before : State) : State :=
  forAll (List.range 64) s (fun s h =>
    if before.histSource h = s.histSource h ∧ before.histLow h = s.histLow h ∧ before.histWidth h = s.histWidth h then s else s.clearHist h)

/-- The thaw (R465): what waited is written. -/
def State.thaw (s : State) : State :=
  let s := s.setRecorder { s.recorder with data := s.recorder.live, waiting := none }
  (s.setFlag Reg.REC_STATE_FROZEN false).set Reg.REC_STATE_PATH 0

/-- An automatic thaw with its cause (R465, R472): 0 time limit, 1 PFW_N, 2 zeroisation. -/
def State.autoThaw (s : State) (cause : Nat) : State :=
  if s.frozen then
    let p := s.get Reg.REC_STATE_PATH
    (s.thaw.bump Cnt.RECORDER_AUTO_THAWS).notice 0x80E2 [p, cause]
  else s

/-- RECORDER_AUTO_THAW (R465): after 480,000 rounds. -/
def execRecorderAutoThaw (s : State) : Result :=
  .next (if decide (s.recorder.frozenAt + 480000 ≤ s.boot.ticks) then s.autoThaw 0 else s)

/-- RECORDER_FREEZE (R465). -/
def execRecorderFreeze (h : CmdHdr) (s : State) : Result :=
  .next <| s.runOpcode h 0x0700 [] true (fun _ s =>
    let p := h.path.val
    if s.frozen then
      if s.get Reg.REC_STATE_PATH = p then (s, .done .ok (leBytes 8 s.recorder.frozenMark)) else (s, .done .busyRetry [])
    else
      let s := (s.setFlag Reg.REC_STATE_FROZEN true).set Reg.REC_STATE_PATH p
      (s.setRecorder { s.recorder with frozenMark := s.now, frozenAt := s.boot.ticks, frozenSeconds := s.recorder.seconds }, .done .ok (leBytes 8 s.now)))

/-- RECORDER_THAW (R465). -/
def execRecorderThaw (h : CmdHdr) (s : State) : Result :=
  .next <| s.runOpcode h 0x0702 [] true (fun _ s =>
    if s.frozen && s.get Reg.REC_STATE_PATH == h.path.val then (s.thaw, .done .ok []) else (s, .done .notPermitted []))

/-- A record of RECORDER_READ, as it stood at the freeze (R465, R466). -/
def State.recordAt (s : State) (i : Nat) : List Byte :=
  let d := s.recorder.data
  if i = 0 then
    leBytes 2 0 ++ leBytes 2 0 ++ leBytes 8 s.recorder.frozenSeconds ++ leBytes 4 (s.recorder.frozenSeconds / 3600) ++
    leBytes 4 (s.get Reg.POWER_CYCLES_VALUE) ++ leBytes 4 d.seconds ++ leBytes 8 s.recorder.frozenMark
  else if i ≤ 64 then
    let h := i - 1
    let x := (mget d.hists h).getD ⟨0, []⟩
    leBytes 2 i ++ leBytes 1 (s.histSource h) ++ [0] ++ leBytes 4 (s.get (Reg.HIST_CFG_LOW h)) ++ leBytes 4 (s.histWidth h) ++ leBytes 4 0 ++
    leBytes 8 x.clearedS ++ (List.range 32).flatMap (fun b => leBytes 4 ((mget x.bins b).getD 0))
  else
    let k := i - 65
    let flag := fun (valid : Nat) => leBytes 2 i ++ leBytes 1 (k / 2) ++ leBytes 1 (valid + 2 * (k % 2))
    match mget d.extremes k with
    | some e => flag 1 ++ leBytes 4 (fieldOf 32 e.value) ++ leBytes 8 e.atS ++ leBytes 4 e.atCycle ++ leBytes 4 0 ++ leBytes 8 e.atMark
    | none => flag 0 ++ List.replicate 28 0

/-- Whole records from an index while they fit (R466): the records and the index after them. -/
def State.recordsFrom (s : State) : Nat → Nat → Nat → List Byte × Nat
  | 0, i, _ => ([], i)
  | n + 1, i, room =>
    let r := s.recordAt i
    if room < r.length then ([], i)
    else
      let q := State.recordsFrom s n (i + 1) (room - r.length)
      (r ++ q.1, q.2)

/-- RECORDER_READ (R466). -/
def execRecorderRead (h : CmdHdr) (first count : BitVec 16) (s : State) : Result :=
  .next <| s.runOpcode h 0x0701 (leBytes 2 first.toNat ++ leBytes 2 count.toNat) true (fun _ s =>
    let f := first.toNat
    let c := count.toNat
    if !s.frozen || s.get Reg.REC_STATE_PATH != h.path.val then (s, .done .notPermitted [])
    else if 192 < f || c = 0 || 193 < f + c then (s, .done .badParam [])
    else
      let q := s.recordsFrom c f (4080 - 4)
      (s, .done .ok (leBytes 2 (q.2 - f) ++ leBytes 2 q.2 ++ q.1)))

/-- OPERATING_LO_READ (R470): OPERATING_HI from the same instant. [Log entry 40: DESIGN CHOICE] -/
def execOperatingLoRead (s : State) : Result :=
  .next ((s.set Reg.OPERATING_HI_VALUE (s.recorder.seconds / 2 ^ 32)).emit (.value Reg.OPERATING_LO (s.word Reg.OPERATING_LO)))

end Machine
end Sys2Proof
end

