-- ==== Sys2Proof/Machine/Power.lean ====
section
/-!
DEFINITION. The two input paths (R377 to R389): path states, trips and cool-downs, PG, the power-fail warning and the undervoltage trip,
measurement and energy.
-/
namespace Sys2Proof
namespace Machine

def State.setPower (s : State) (p : PowerSt) : State := { s with power := p }
def State.path (s : State) (x : Nat) : PathSt := if x = 0 then s.power.pathA else s.power.pathB
def State.updPath (s : State) (x : Nat) (f : PathSt → PathSt) : State :=
  if x = 0 then s.setPower { s.power with pathA := f s.power.pathA } else s.setPower { s.power with pathB := f s.power.pathB }

/-- STATE of a path by its code (R379): 0 OFF, 1 RAMP, 2 ON, 3 BLOCKING, 4 COOL, 5 LATCHED. -/
def State.pathState (s : State) (x : Nat) : Nat := s.get (Reg.IN_STATE_STATE x)

/-- The keeper runs: it commands the gates (R379, R476). -/
def State.keeperRuns (s : State) : Bool := s.keeperAwake

/-- What the hub holds of a PD port (R390 to R404). -/
def State.pdPort (s : State) (n : Nat) : PdPort := (mget s.pd.ports n).getD PdPort.init
def State.updPd (s : State) (n : Nat) (f : PdPort → PdPort) : State :=
  { s with pd := { s.pd with ports := mput s.pd.ports n (f (s.pdPort n)) } }

/-- TYPEC of a port (R406): 0 unattached, 1 attach wait, 2 attached Source, 3 attached Sink, 4 error recovery, 5 CC open. -/
def State.typec (s : State) (n : Nat) : Nat := s.get (Reg.PD_PORT_TYPEC n)

/-- An input is ON. -/
def State.anyOn (s : State) : Bool := s.pathState 0 == 2 || s.pathState 1 == 2

/-- The current the hub requests as Sink, in 10 mA units (R393, R400). -/
def State.sinkCurrent (s : State) (n : Nat) : Nat := if n = 4 ∧ s.anyOn = false then (s.pdPort 4).partner else 10

/-- The service port requests anew where an input comes ON or the last one goes (R400); out of SERVICE_POWERED at the next boundary (R401). -/
def State.requestAgain (s : State) (was : Bool) : State :=
  s.when (s.anyOn != was && !s.servicePowered && s.typec 4 == 3 && s.flag (Reg.PD_PORT_CONTRACT 4))
    (fun s => s.emit (.pd 4 "Request" [(5000, 10 * s.sinkCurrent 4)]))

/-- PG as R383 drives it; the hub that waited for it after an undervoltage trip starts again (R473, R476, R483). -/
def State.syncPg (s : State) : State :=
  let pg := s.power.busGood && (s.flag (Reg.IN_STATE_PATH_GOOD 0) || s.flag (Reg.IN_STATE_PATH_GOOD 1))
  let rises := pg && !s.pg
  let s := (s.setFlag Reg.SUPPLY_STATUS_PG pg).setFlag Reg.PIN_LEVELS_PG pg
  if rises then (s.endWait 11).tryCore else s

/-- A path state taken (R379): the gate follows it, PWRIN_EVENT tells of it (R408), PATH_GOOD and the timer end with RAMP and ON, and
the cool-down with COOL. -/
def State.setPath (s : State) (x new : Nat) : State :=
  let old := s.pathState x
  if old = new then s
  else
    let on := s.anyOn
    let s := s.set (Reg.IN_STATE_STATE x) new
    let s := s.emit (.gate x (new == 1 || new == 2))
    let s := s.when (new != 2) (fun s => s.setFlag (Reg.IN_STATE_PATH_GOOD x) false)
    let s := s.when (new != 1 && new != 2) (fun s =>
      (s.setFlag (Reg.IN_STATE_TIMER_RUN x) false).setFlag (Reg.IN_STATE_LIMITING x) false)
    let s := s.when (old == 3) (fun s => s.setFlag (Reg.IN_STATE_REVERSE x) false)
    let s := s.when (old == 4) (fun s => s.set (Reg.IN_STATE_COOL_MS x) 0)
    let s := s.when (new == 2) (fun s => s.updPath x (fun p => { p with onSince := s.boot.ticks }))
    (s.notice 0x80B0 [x, old, new, s.get (Reg.IN_STATE_LAST_FAULT x)]).syncPg.requestAgain on

/-- PATH_GOOD set where the path is ON and its timer does not run (R383). -/
def State.markGood (s : State) (x : Nat) : State :=
  if s.pathState x = 2 ∧ s.flag (Reg.IN_STATE_TIMER_RUN x) = false then (s.setFlag (Reg.IN_STATE_PATH_GOOD x) true).syncPg else s

/-- ON from RAMP: the timer goes on only while the limit is engaged (R380, R383). -/
def State.rampDone (s : State) (x : Nat) : State :=
  let s := s.setPath x 2
  (s.setFlag (Reg.IN_STATE_TIMER_RUN x) (s.flag (Reg.IN_STATE_LIMITING x))).markGood x

/-- RAMP entered: the timer starts with the FAULT_TIME in force; a ramp already complete passes to ON at once (R379, R380). -/
def State.startRamp (s : State) (x : Nat) (rampMet : Bool) : State :=
  let s := s.updPath x (fun p => { p with faultTime := some (s.get (Reg.IN_CFG_FAULT_TIME x)) })
  let s := (s.setPath x 1).setFlag (Reg.IN_STATE_TIMER_RUN x) true
  if rampMet then s.rampDone x else s

/-- A retry (R382). -/
def State.retryRamp (s : State) (x : Nat) (rampMet : Bool) : State :=
  let s := s.set (Reg.IN_STATE_RETRIES x) (min 15 (s.get (Reg.IN_STATE_RETRIES x) + 1))
  (s.bump (Cnt.PWRIN_RETRIES x)).startRamp x rampMet

/-- An OFF path that may ramp does (R379). -/
def State.tryRamp (s : State) (x : Nat) (rampMet : Bool) : State :=
  if s.pathState x = 0 ∧ s.flag (Reg.IN_CFG_EN x) ∧ (s.path x).inWindow ∧ s.kpUp ∧ s.keeperRuns then s.startRamp x rampMet else s

/-- A trip (R380 to R382) after `tOn` tenths of a millisecond on the timer: cool-down of max(100 ms, 99 × t_on), or LATCHED when the
retries are spent. [Log entries 138: DESIGN CHOICE, 142: DESIGN CHOICE] -/
def State.trip (s : State) (x tOn : Nat) (fast : Bool) : State :=
  let s := s.bump (if fast then Cnt.PWRIN_FAST_TRIPS x else Cnt.PWRIN_TIMER_TRIPS x)
  let s := s.set (Reg.IN_STATE_LAST_FAULT x) (if fast then 2 else 1)
  let most := s.get (Reg.IN_CFG_RETRY_MAX x)
  if most ≠ 15 ∧ most ≤ s.get (Reg.IN_STATE_RETRIES x) then (s.bump (Cnt.PWRIN_LATCHES x)).setPath x 5
  else
    let cool := max 1000 (99 * tOn)
    let s := s.setPath x 4
    let s := s.set (Reg.IN_STATE_COOL_MS x) (cool / 10)
    s.updPath x (fun p => { p with coolUntil := s.boot.ticks + (cool * 8 + 9) / 10 })

/-- The FAULT_TIME a running timer ends at (R380): where it started in RAMP that of its start, else the one in force. -/
def State.timerEnd (s : State) (x : Nat) : Nat := (s.path x).faultTime.getD (s.get (Reg.IN_CFG_FAULT_TIME x))

/-- INPUT_WINDOW_EXIT (R379, R402): OFF from any state but LATCHED; a trip of the same cycle stands. While the keeper–power link is down
the gate stays (R17). [Log entry 139: DESIGN CHOICE] -/
def execInputWindowExit (x : InputId) (high withTrip : Bool) (s : State) : Result :=
  .next <|
    let n := x.code
    let s := s.bump (if high then Cnt.PWRIN_OV_EVENTS n else Cnt.PWRIN_UV_EVENTS n)
    let s := s.updPath n (fun p => { p with inWindow := false })
    if withTrip && s.flag (Reg.IN_STATE_TIMER_RUN n) then s.trip n (s.timerEnd n) false
    else if s.pathState n = 5 ∨ s.kpUp = false then s
    else s.setPath n 0

/-- INPUT_WINDOW_ENTRY (R379): an OFF path ramps; a COOL path whose cool-down has ended retries. -/
def execInputWindowEntry (x : InputId) (rampMet : Bool) (s : State) : Result :=
  .next <|
    let n := x.code
    let s := s.updPath n (fun p => { p with inWindow := true })
    if s.pathState n = 4 ∧ (s.path n).coolUntil ≤ s.boot.ticks ∧ s.kpUp then s.retryRamp n rampMet else s.tryRamp n rampMet

/-- A write of EN is permitted (R386). -/
def State.enWriteOk (s : State) (x : Nat) (en : Bool) : Bool := en || s.flag (Reg.IN_CFG_EN (1 - x)) || s.servicePowered

/-- EN in force (R379): a path without it is OFF. -/
def State.writeEn (s : State) (x : Nat) (en : Bool) : State :=
  let s := s.setFlag (Reg.IN_CFG_EN x) en
  if en then s.tryRamp x false else if s.kpUp then s.setPath x 0 else s

/-- PATH_EN_WRITE (R386); the field is kept in MRAM, so it needs the switch–keeper link (R16). -/
def execPathEnWrite (x : InputId) (en : Bool) (s : State) : Result :=
  .next <|
    if !s.enWriteOk x.code en then s.emit (.writeStatus (Reg.IN_CFG x.code) .notPermitted)
    else if !s.skUp then s.emit (.writeStatus (Reg.IN_CFG x.code) .hwFault)
    else (s.writeEn x.code en).emit (.writeStatus (Reg.IN_CFG x.code) .ok)

/-- RAMP_COMPLETE (R379, R383). -/
def execRampComplete (x : InputId) (s : State) : Result := .next (if s.pathState x.code = 1 then s.rampDone x.code else s)

/-- CURRENT_LIMIT_ENGAGE (R380): in ON the timer starts; PATH_GOOD stays where it is set (R383). -/
def execCurrentLimitEngage (x : InputId) (s : State) : Result :=
  .next <|
    let n := x.code
    if s.pathState n = 1 then s.setFlag (Reg.IN_STATE_LIMITING n) true
    else if s.pathState n = 2 then
      let s := s.setFlag (Reg.IN_STATE_LIMITING n) true
      if s.flag (Reg.IN_STATE_TIMER_RUN n) then s
      else
        (s.updPath n (fun p => { p with faultTime := none })).setFlag (Reg.IN_STATE_TIMER_RUN n) true
    else s

/-- CURRENT_LIMIT_RELEASE (R380, R383). -/
def execCurrentLimitRelease (x : InputId) (s : State) : Result :=
  .next <|
    let n := x.code
    let s := s.setFlag (Reg.IN_STATE_LIMITING n) false
    if s.pathState n = 2 then (s.setFlag (Reg.IN_STATE_TIMER_RUN n) false).markGood n else s

/-- FAULT_TIMER_EXPIRY (R380): `tOn` in tenths of a millisecond. -/
def execFaultTimerExpiry (x : InputId) (tOn : Nat) (s : State) : Result :=
  .next (if s.flag (Reg.IN_STATE_TIMER_RUN x.code) && decide (s.timerEnd x.code ≤ tOn) then s.trip x.code tOn false else s)

/-- FAST_TRIP (R381). -/
def execFastTrip (x : InputId) (tOn : Nat) (s : State) : Result :=
  .next <|
    let n := x.code
    if s.pathState n = 1 ∨ s.pathState n = 2 then s.trip n (if s.flag (Reg.IN_STATE_TIMER_RUN n) then tOn else 0) true else s

/-- REVERSE_CURRENT (R379). -/
def execReverseCurrent (x : InputId) (s : State) : Result :=
  .next <|
    let n := x.code
    if s.pathState n = 2 ∧ s.kpUp then ((s.bump (Cnt.PWRIN_REVERSE_EVENTS n)).setPath n 3).setFlag (Reg.IN_STATE_REVERSE n) true else s

/-- BLOCKING_RECOVERY (R379). -/
def execBlockingRecovery (x : InputId) (rampMet : Bool) (s : State) : Result :=
  .next <|
    let n := x.code
    if s.pathState n = 3 ∧ s.kpUp then (if rampMet then (s.setPath n 2).markGood n else s.startRamp n false) else s

/-- SWITCH_SHORT (R379). [Log entry 141: DESIGN CHOICE] -/
def execSwitchShort (x : InputId) (s : State) : Result :=
  .next <|
    let n := x.code
    if s.pathState n = 0 then (s.set (Reg.IN_STATE_LAST_FAULT n) 3).setPath n 5 else s

/-- COOL_DOWN_END (R382): no retry while the keeper–power link is down (R17) or the input is out of its window. [Log entry 16: DESIGN CHOICE] -/
def execCoolDownEnd (x : InputId) (rampMet : Bool) (s : State) : Result :=
  .next <|
    let n := x.code
    if s.pathState n = 4 ∧ (s.path n).coolUntil ≤ s.boot.ticks ∧ (s.path n).inWindow ∧ s.kpUp ∧ s.keeperRuns then s.retryRamp n rampMet else s

/-- RETRY_COUNT_RESET (R382). [Log entry 140: DEDUCED] -/
def execRetryCountReset (x : InputId) (s : State) : Result :=
  .next <|
    let n := x.code
    if s.pathState n = 2 ∧ (s.path n).onSince + 8000 ≤ s.boot.ticks then s.set (Reg.IN_STATE_RETRIES n) 0 else s

/-- LATCH_RELEASE (R379). [Log entry 140: DEDUCED] -/
def execLatchRelease (x : InputId) (s : State) : Result := .next (if s.pathState x.code = 5 then s.setPath x.code 0 else s)

/-- BUS_GOOD_CHANGE (R383). -/
def execBusGoodChange (good : Bool) (s : State) : Result := .next ((s.setPower { s.power with busGood := good }).syncPg)

/-- PFW (R384, R405). -/
def State.pfw (s : State) : Bool := s.flag Reg.SUPPLY_STATUS_PFW

def State.setPfw (s : State) (b : Bool) : State :=
  let s := (s.setFlag Reg.SUPPLY_STATUS_PFW b).setFlag Reg.PIN_LEVELS_PFW_N (!b)
  (s.holdRegistered b).notice 0x80B1 [s.get Reg.VOUT_VOUT]

/-- POWER_FAIL_WARNING (R384): PFW_N low, VBUS off, no new registered bus transaction; the round, its epoch and ENERGY are stored (R53,
R389), and a frozen recorder thaws (R465). -/
def execPowerFailWarning (s : State) : Result :=
  .next <|
    if s.pfw || !s.keeperRuns then s
    else
      let s := (s.bump Cnt.PWRIN_PFW_EVENTS).setPfw true
      let s := forAll [0, 1, 2, 3] s (fun s n => s.emit (.vbus n false 0))
      let s := { s with pd := { s.pd with ports := s.pd.ports.map (fun (e : Nat × PdPort) => (e.1, { e.2 with trans := none })) } }
      (s.storeEnergy.when s.rt.running (fun s => s.storeRound)).autoThaw 1

/-- A path has been ON for 10 ms. -/
def State.onFor10ms (s : State) (x : Nat) : Bool := s.pathState x == 2 && decide ((s.path x).onSince + 80 ≤ s.boot.ticks)

/-- PFW_RELEASE (R384): attached sources have their VBUS again. -/
def execPfwRelease (s : State) : Result :=
  .next <|
    if s.pfw && (s.onFor10ms 0 || s.onFor10ms 1) then
      forAll [0, 1, 2, 3] (s.setPfw false) (fun s n =>
        if s.get (Reg.PD_PORT_TYPEC n) = 2 ∧ s.flag (Reg.PD_PORT_ROLE n) then s.emit (.vbus n true 5000) else s)
    else s

/-- UNDERVOLTAGE_TRIP (R384, R418, R483): Dormant ends with no wake record. -/
def execUndervoltageTrip (s : State) : Result :=
  .next <|
    if !s.keeperRuns then s
    else
      let s := (s.setPower { s.power with busGood := false }).syncPg
      let s := (s.bump Cnt.PWRIN_UV_TRIPS).setFlag Reg.SUPPLY_STATUS_UV_SEEN true
      (s.set Reg.PS_STATE_STATE 0).removeCore 11

/-- A period of 125 µs (R382): COOL_MS counts down. [Log entry 15: DESIGN CHOICE] -/
def State.tick (s : State) : State :=
  let s := s.setBoot { s.boot with ticks := s.boot.ticks + 1 }
  forAll [0, 1] s (fun s x =>
    if s.pathState x = 4 then s.set (Reg.IN_STATE_COOL_MS x) (((s.path x).coolUntil - s.boot.ticks + 7) / 8) else s)

/-- POWER of a sample in mW (R388, R389): 4 mV × 3 mA is 12 µW; the fraction of a milliwatt falls away towards zero. [Log entry 138: DESIGN CHOICE] -/
def powerMw (vin : Nat) (cur : Int) : Int := (12 * (vin : Int) * cur).tdiv 1000

/-- ENERGY in mJ (R389): a unit of the count is 12 µW × 125 µs = 1.5 nJ. -/
def energyMj (n : Nat) : Nat := n * 3 / 2000000 % 2 ^ 48

/-- One path's sample (R388, R389). -/
def State.samplePath (s : State) (x : Nat) (vin cur : BitVec 14) (late untimed : Bool) : State :=
  let c := signedOf 14 cur.toNat
  let s := (s.set (Reg.MEASURE_VIN x) vin.toNat).set (Reg.MEASURE_CURRENT x) cur.toNat
  let s := (s.setFlag (Reg.MEASURE_STALE x) false).setFlag (Reg.MEASURE_MISSING x) late
  let s := (s.setFlag (Reg.MEASURE_UNTIMED x) untimed).setS (Reg.MEASURE_POWER x) (powerMw vin.toNat c)
  let s := s.when late (fun s => s.bump (Cnt.PWRIN_SAMPLES_MISSING x))
  let s := s.when (decide (0 < c)) (fun s => s.updPath x (fun p => { p with energy := p.energy + vin.toNat * c.toNat }))
  s.set (Reg.MEASURE_ENERGY_LO x) (energyMj (s.path x).energy % 2 ^ 32)

/-- The samples of one instant (R388); under R17 the last ones are marked STALE. [Log entry 143: DEDUCED] -/
def State.powerSample (s : State) (p : PowerSample) (untimed : Bool) : State :=
  let bit := fun (b : Bool) (n : Nat) => if b then n else 0
  let s := if s.kpUp then
      let s := (s.samplePath 0 p.vinA p.curA p.late untimed).samplePath 1 p.vinB p.curB p.late untimed
      (s.set Reg.VOUT_VOUT p.vout.toNat).set Reg.VOUT_FLAGS (bit p.late 2 + bit untimed 1)
    else
      ((s.setFlag (Reg.MEASURE_STALE 0) true).setFlag (Reg.MEASURE_STALE 1) true).set Reg.VOUT_FLAGS
        (4 + s.get Reg.VOUT_FLAGS % 4)
  forAll [0, 1, 2, 3, 4] s (fun s n =>
    (s.set (Reg.PD_PORT_VBUS n) ((p.vbus.getD n 0).toNat)).set (Reg.PD_PORT_FLAGS n) (bit p.late 2 + bit untimed 1))

/-- The samples of the path and of VOUT go to the recorder (R464): VIN and VOUT in mV, the sum of both inputs' power in mW. Those that R17 leaves
stale give nothing. -/
def State.samplePower (s : State) : State :=
  if !s.kpUp then s
  else
    let s := (s.sampleSource 3 (4 * s.get (Reg.MEASURE_VIN 0)) false).sampleSource 4 (4 * s.get (Reg.MEASURE_VIN 1)) false
    (s.sampleSource 5 (4 * s.get Reg.VOUT_VOUT) false).sampleSource 6 (s.getS (Reg.MEASURE_POWER 0) + s.getS (Reg.MEASURE_POWER 1)) false

/-- The die temperatures read at a boundary (R464, R468, R508): SWITCH shows 0x8000 for an invalid reading. -/
def State.readTemps (s : State) (switchTemp keeperTemp : BitVec 16) : State :=
  let a := signedOf 16 switchTemp.toNat
  let b := signedOf 16 keeperTemp.toNat
  let s := (s.set Reg.DIE_TEMP_SWITCH (if tempValid a then switchTemp.toNat else 0x8000)).set Reg.DIE_TEMP_KEEPER keeperTemp.toNat
  (s.sampleSource 1 a (!tempValid a)).sampleSource 2 b (!tempValid b)

/-- The other sources that a round gives a value of (R464): LOAD_PCT and |PHASE_ERR|. -/
def State.sampleRound (s : State) : State :=
  let e := s.getS Reg.PHASE_ERR_E_NS
  (s.sampleSource 9 (s.get Reg.PM_STATUS_LOAD_PCT) false).sampleSource 13 (if e < 0 then -e else e) false

/-- KEEPER_SAMPLE (R388). [Log entry 15: DESIGN CHOICE] -/
def execKeeperSample (sample : PowerSample) (s : State) : Result :=
  .next (if s.coreStopped && s.keeperRuns then (s.tick.powerSample sample true).samplePower else s)

/-- ENERGY_LO_READ (R389). [Log entry 40: DESIGN CHOICE] -/
def execEnergyLoRead (x : InputId) (s : State) : Result :=
  .next <|
    let n := x.code
    (s.set (Reg.MEASURE_ENERGY_HI n) (energyMj (s.path n).energy / 2 ^ 32)).emit (.value (Reg.MEASURE_8 n) (s.word (Reg.MEASURE_8 n)))

/-- KP_LINK_DOWN (R17, R18). [Log entries 142: DESIGN CHOICE, 143: DEDUCED] -/
def execKpLinkDown (s : State) : Result :=
  .next <|
    if !s.kpUp then s
    else
      let s := (s.setFlag Reg.DIE_LINKS_KP_UP false).setFlag Reg.DIE_LINKS_KP_FAULT true
      let s := ((s.setFlag (Reg.MEASURE_STALE 0) true).setFlag (Reg.MEASURE_STALE 1) true).set Reg.VOUT_FLAGS (4 + s.get Reg.VOUT_FLAGS % 4)
      s.faultSeen 6 []

/-- What a path does once the keeper commands it again (R17): the window and EN decide. [Log entry 142: DESIGN CHOICE] -/
def State.resumePath (s : State) (x : Nat) : State :=
  let st := s.pathState x
  if s.flag (Reg.IN_CFG_EN x) = false ∧ st ≠ 0 then s.setPath x 0
  else if (s.path x).inWindow = false ∧ st ≠ 5 ∧ st ≠ 0 then s.setPath x 0
  else if st = 4 ∧ (s.path x).coolUntil ≤ s.boot.ticks then s.retryRamp x false
  else s.tryRamp x false

/-- KP_LINK_UP (R17). -/
def execKpLinkUp (s : State) : Result :=
  .next <|
    if s.kpUp || !s.boot.released then s
    else forAll [0, 1] (s.setFlag Reg.DIE_LINKS_KP_UP true) (fun s x => s.resumePath x)

/-- A path's registers and energy as PWRIN_STATUS gives them (R404). -/
def State.pathBytes (s : State) (x : Nat) : List Byte :=
  leBytes 4 (s.word (Reg.IN_CFG x)).toNat ++ leBytes 4 (s.word (Reg.IN_STATE x)).toNat ++ leBytes 4 (s.word (Reg.MEASURE_0 x)).toNat ++
  leBytes 4 (s.word (Reg.MEASURE_4 x)).toNat ++ leBytes 6 (energyMj (s.path x).energy) ++ leBytes 2 0

/-- PWRIN_STATUS (R404). -/
def execPwrinStatus (h : CmdHdr) (s : State) : Result :=
  .next <| s.runOpcode h 0x0500 [] true (fun _ s =>
    (s, .done .ok (s.pathBytes 0 ++ s.pathBytes 1 ++ leBytes 4 (s.word Reg.VOUT).toNat ++ leBytes 4 (s.word Reg.SUPPLY_STATUS).toNat)))

/-- PWRIN_RETRY_CLEAR (R404): LATCHED to OFF; with the input in its window the path ramps again. [Log entry 140: DEDUCED] -/
def execPwrinRetryClear (h : CmdHdr) (input : Byte) (s : State) : Result :=
  .next <| s.runOpcode h 0x0501 [input, 0, 0, 0] true (fun _ s =>
    let n := input.toNat
    if 1 < n then (s, .done .badParam [])
    else if s.pathState n ≠ 5 then (s, .done .notPermitted [])
    else (((s.setPath n 0).set (Reg.IN_STATE_RETRIES n) 0).tryRamp n false, .done .ok []))

end Machine
end Sys2Proof
end

