-- ==== Sys2Proof/Machine/Pd.lean ====
section
/-!
DEFINITION. USB power (R390 to R404): the source ports and their budget, PD messages, VBUS protection, role swaps, and the service port.
-/
namespace Sys2Proof
namespace Machine

def State.sourceEn (s : State) (n : Nat) : Bool := s.flag (Reg.PD_PORT_SOURCE_EN n)

/-- Causes of PD_EVENT in the order R408 lists them. -/
inductive PdCause | attach | detach | contract | swapDone | swapRefused | hardReset | vbusFault | budgetCut | servicePower
deriving DecidableEq, Repr

/-- [Log entry 26: DESIGN CHOICE] -/
def PdCause.code : PdCause → Nat
  | .attach => 0 | .detach => 1 | .contract => 2 | .swapDone => 3 | .swapRefused => 4 | .hardReset => 5 | .vbusFault => 6
  | .budgetCut => 7 | .servicePower => 8

/-- PD_EVENT (R408). -/
def State.pdEvent (s : State) (n : Nat) (c : PdCause) : State :=
  s.notice 0x80B2 [n, c.code, (s.word (Reg.PD_PORT_0 n)).toNat, (s.word (Reg.PD_PORT_4 n)).toNat]

/-- A message sent on a port, with the supplies it names. -/
def State.pdSend (s : State) (n : Nat) (m : String) (supplies : List (Nat × Nat) := []) : State := s.emit (.pd n m supplies)

/-- Power of an offer's largest PDO in mW. -/
def offerPower (l : List (Nat × Nat)) : Nat := (l.map (fun o => o.1 * o.2 / 1000)).foldl max 0

/-- alloc(p) of R391 in mW. -/
def State.alloc (s : State) (n : Nat) : Nat :=
  if 4 ≤ n ∨ s.sourceEn n = false then 0
  else if s.typec n = 3 then 0
  else if s.typec n = 2 then offerPower (s.pdPort n).offer
  else 4500

/-- Σ alloc over the other ports. -/
def State.allocOthers (s : State) (n : Nat) : Nat := (([0, 1, 2, 3].filter (fun q => q != n)).map (fun q => s.alloc q)).sum
def State.allocSum (s : State) : Nat := ([0, 1, 2, 3].map (fun q => s.alloc q)).sum
def State.budget (s : State) : Nat := s.get Reg.PD_BUDGET_WATTS * 1000
def State.maxW (s : State) (n : Nat) : Nat := s.get (Reg.PD_PORT_MAX_W n) * 1000

/-- P of R391, in mW. -/
def State.offerMost (s : State) (n : Nat) : Nat := min (s.maxW n) (s.budget - s.allocOthers n)

/-- The PDOs R391 offers for a power in mW, as (mV, mA). -/
def pdosFor (p : Nat) : List (Nat × Nat) :=
  [5000, 9000, 15000, 20000].filterMap (fun v =>
    let i := min 3000 (p * 1000 / v / 10 * 10)
    if v ≠ 5000 ∧ i < 1000 then none else some (v, i))

/-- A fixed-supply PDO of a policy as (mV, mA): voltage in 50 mV units in [19:10], current in 10 mA units in [9:0]. [Log entry 144: PRESUMED] -/
def pdoOf (w : Word) : Nat × Nat := (bitsOf w.toNat 10 10 * 50, bitsOf w.toNat 0 10 * 10)

/-- The policy PDOs up to the first 0 (R404). -/
def pdoList (l : List Word) : List (Nat × Nat) := (l.takeWhile (fun w => w != 0)).map pdoOf

/-- ALLOC shows alloc(p) in 0.5 W units (R406); a part of a unit counts as one. [Log entry 138: DESIGN CHOICE] -/
def State.showAlloc (s : State) (n : Nat) : State := s.set (Reg.PD_PORT_ALLOC n) ((s.alloc n + 499) / 500)

/-- A change that may make an allocation fall (R392). -/
def State.withAlloc (s : State) (n : Nat) (f : State → State) : State :=
  let old := s.alloc n
  let s := (f s).showAlloc n
  if s.alloc n < old then { s with pd := { s.pd with fell := true } } else s

/-- An offer of at most a power made to the partner (R391, R392). -/
def State.makeOffer (s : State) (n p : Nat) : State :=
  let own := s.flag (Reg.PD_PORT_OVERRIDE_EN n)
  let l := if own then pdoList (s.pdPort n).pdos else pdosFor p
  let s := s.withAlloc n (fun s => s.updPd n (fun x => { x with
    offer := l, offerAt := s.boot.ticks, requested := false, cut := !own && decide (p < s.maxW n) }))
  (s.setFlag (Reg.PD_PORT_OVERRIDE n) own).pdSend n "Source_Capabilities" l

/-- VBUS of a source port: on at a voltage, unless PFW_N is low or the hub is SERVICE_POWERED (R384, R395, R401). -/
def State.vbusOn (s : State) (n mv : Nat) : State := if s.pfw || s.servicePowered then s.emit (.vbus n false 0) else s.emit (.vbus n true mv)
def State.vbusOff (s : State) (n : Nat) : State := s.emit (.vbus n false 0)

/-- A contract ends. -/
def State.endContract (s : State) (n : Nat) : State :=
  (((s.setFlag (Reg.PD_PORT_CONTRACT n) false).set (Reg.PD_PORT_VOLTAGE n) 0).set (Reg.PD_PORT_CURRENT n) 0).updPd n
    (fun x => { x with trans := none })

/-- A contract holds (R393). -/
def State.makeContract (s : State) (n mv cur : Nat) : State :=
  (((s.setFlag (Reg.PD_PORT_CONTRACT n) true).set (Reg.PD_PORT_VOLTAGE n) (mv / 50)).set (Reg.PD_PORT_CURRENT n) cur).pdEvent n .contract

/-- Receipt data of PD_ROLE_SWAP (R399). -/
def State.roleData (s : State) (n : Nat) : List Byte := leBytes 4 (s.get (Reg.PD_PORT_ROLE n))

/-- A swap ends; the hub's command for it completes (R397 to R399). -/
def State.endPdSwap (s : State) (n : Nat) (st : Status) : State :=
  let s := (s.updPd n (fun x => { x with swap := none })).setFlag (Reg.PD_PORT_SWAPPING n) false
  s.finishWaiters 0x0511 n st (s.roleData n)

/-- A swap under way ends as not done, with the roles before it (R398). -/
def State.abortSwap (s : State) (n : Nat) (st : Status) : State :=
  match (s.pdPort n).swap with
  | some w => (s.setFlag (Reg.PD_PORT_ROLE n) w.wasSource).endPdSwap n st
  | none => s

/-- What detach and a trip end on a port; its data side detaches with it (R301, R309). [Log entry 146: DESIGN CHOICE] -/
def State.leavePort (s : State) (n typec : Nat) : State :=
  let s := (s.abortSwap n .busyRetry).endContract n
  let s := if n = 4 then s.svcDetach else s.usbDetaches n
  let s := s.when (n < 4) (fun s => (s.setFlag (Reg.PD_PORT_ROLE n) true).vbusOff n)
  let s := s.setFlag (Reg.PD_PORT_OVERRIDE n) false
  s.withAlloc n (fun s => (s.set (Reg.PD_PORT_TYPEC n) typec).updPd n (fun x => { x with
    offer := [], requested := true, cut := false, hardResets := 0, dualRole := false, partner := 0, lastId := none, retries := 0 }))

/-- TYPEC of a port without a partner: its CC pins are open where it may not source (R390). -/
def State.restTypec (s : State) (n : Nat) : Nat := if n < 4 ∧ s.sourceEn n = false then 5 else 0

/-- TYPEC_ATTACH (R390, R391, R400): `asSource` is the hub's role; the service port is a Sink only. OVER_CURRENT ends as a port sources
again. [Log entry 237: DESIGN CHOICE] -/
def execTypecAttach (p : Fin 5) (asSource : Bool) (rp : Fin 3) (s : State) : Result :=
  .next <|
    let n := p.val
    if !s.keeperRuns || 2 ≤ s.typec n then s
    else if n = 4 then
      ((((s.set (Reg.PD_PORT_TYPEC 4) 3).set (Reg.PD_PORT_RP_SEEN 4) rp.val).updPd 4 (fun x => { x with offerAt := s.boot.ticks })).pdEvent 4 .attach).activity 0x14
    else if !asSource || !s.sourceEn n || s.flag (Reg.PD_PORT_FAULT_OFF n) then s
    else
      let p := s.offerMost n
      let s := ((s.set (Reg.PD_PORT_TYPEC n) 2).setFlag (Reg.PD_PORT_ROLE n) true).setFlag (Reg.USB_PORT_STATE_OVER_CURRENT n) false
      (((s.vbusOn n 5000).makeOffer n p).pdEvent n .attach).activity 0x14

/-- TYPEC_DETACH (R301, R309, R390, R402): the data side of the port detaches with it. -/
def execTypecDetach (p : Fin 5) (s : State) : Result :=
  .next <|
    let n := p.val
    if s.typec n = 0 ∨ 4 ≤ s.typec n then s
    else
      let s := (s.leavePort n (s.restTypec n)).set (Reg.PD_PORT_RP_SEEN n) 0
      let s := s.when (n == 4 && s.servicePowered) (fun s =>
        ((s.setFlag (Reg.PD_PORT_SERVICE_POWERED 4) false).setFlag Reg.PIN_LEVELS_SVC_PWR_EN false).dropCore)
      (s.pdEvent n .detach).activity 0x14

/-- Error recovery (R394, R396): the port attaches again after 1 s. -/
def State.recoverPort (s : State) (n : Nat) : State :=
  (s.leavePort n 4).updPd n (fun x => { x with recoverAt := s.boot.ticks + 8000 })

/-- A hard reset (R394, R398): the contract and a swap end, and a source restores vSafe5V and offers again. `sent` counts those the
partner has not answered; after the second, error recovery. [Log entry 144: PRESUMED] -/
def State.hardReset (s : State) (n : Nat) (sent : Bool) : State :=
  let s := (s.bump (Cnt.PD_HARD_RESETS n)).when sent (fun s => s.pdSend n "Hard_Reset")
  let s := ((s.abortSwap n .busyRetry).endContract n).pdEvent n .hardReset
  let c := if sent then (s.pdPort n).hardResets + 1 else 0
  let s := s.updPd n (fun x => { x with hardResets := c, lastId := none, retries := 0 })
  if 2 < c then s.recoverPort n
  else if n < 4 ∧ s.flag (Reg.PD_PORT_ROLE n) then
    let s := (s.set (Reg.PD_PORT_TYPEC n) 2).vbusOff n
    (s.vbusOn n 5000).makeOffer n (s.offerMost n)
  else s

/-- An attached port. -/
def State.attachedPd (s : State) (n : Nat) : Bool := s.typec n == 2 || s.typec n == 3

/-- A PD message comes (R394, R403): with a CRC that fails it is discarded; else it is acknowledged, and discarded where it repeats the ID
acknowledged last. -/
def State.pdReceive (s : State) (m : PdMsg) (f : State → State) : State :=
  let n := m.port.val
  if !s.attachedPd n then s
  else if !m.crcOk then s.bump (Cnt.PD_MSGS_DISCARDED n)
  else
    let t := s.pdSend n "GoodCRC"
    if (s.pdPort n).lastId == some m.id.val then t.bump (Cnt.PD_MSGS_DISCARDED n)
    else f (t.updPd n (fun x => { x with lastId := some m.id.val, retries := 0 }))

/-- The port is an attached Source (R406). -/
def State.isSource (s : State) (n : Nat) : Bool := s.typec n == 2

/-- OFFER_REQUEST_TIMEOUT (R392): 1 s after a new offer without a Request within it. -/
def execOfferRequestTimeout (p : Fin 4) (s : State) : Result :=
  .next <|
    let x := s.pdPort p.val
    if s.isSource p.val && !x.requested && decide (x.offerAt + 8000 ≤ s.boot.ticks) then s.hardReset p.val true else s

/-- A budget is accepted (R392, R406). -/
def State.budgetOk (s : State) (w : Nat) : Bool :=
  decide (18 ≤ w) && decide (w ≤ 240) && decide (9 * ([0, 1, 2, 3].filter (fun n => s.sourceEn n)).length ≤ 2 * w)

/-- PD_BUDGET_WRITE (R392); the field is kept in MRAM, so it needs the switch–keeper link (R16). -/
def execPdBudgetWrite (mask value : Word) (s : State) : Result :=
  .next <|
    let w := (((s.word Reg.PD_BUDGET &&& ~~~mask) ||| (value &&& mask)).toNat) % 256
    if !s.budgetOk w then s.emit (.writeStatus Reg.PD_BUDGET .badParam)
    else if !s.skUp then s.emit (.writeStatus Reg.PD_BUDGET .hwFault)
    else (s.shadowWrite Reg.PD_BUDGET (mask &&& 0xFF) value).emit (.writeStatus Reg.PD_BUDGET .ok)

/-- REQUEST (R393, R395, R402): judged against the last offer; `current` in 10 mA units. [Log entry 144: PRESUMED] -/
def execRequest (m : PdMsg) (object : Fin 16) (current : Nat) (s : State) : Result :=
  .next <| s.pdReceive m (fun s =>
    let n := m.port.val
    if !s.isSource n then s.pdSend n "Not_Supported"
    else
      match (s.pdPort n).offer[object.val - 1]? with
      | some (mv, ma) =>
        if object.val = 0 ∨ ma < current * 10 then s.pdSend n "Reject"
        else
          let s := (s.updPd n (fun x => { x with requested := true, hardResets := 0 })).pdSend n "Accept"
          let now := if s.flag (Reg.PD_PORT_CONTRACT n) then s.get (Reg.PD_PORT_VOLTAGE n) * 50 else 5000
          if mv = now then (s.pdSend n "PS_RDY").makeContract n mv current
          else (s.updPd n (fun x => { x with trans := some (mv, current) })).vbusOn n mv
      | none => s.pdSend n "Reject")

/-- A Request of a Sink (R393, R400). -/
def State.sinkRequests (s : State) (n : Nat) : State := s.pdSend n "Request" [(5000, 10 * s.sinkCurrent n)]

/-- SOURCE_CAPABILITIES (R393, R400): `amps5V` is the current offered at 5 V in 10 mA units. -/
def execSourceCapabilities (m : PdMsg) (amps5V : Nat) (dualRole : Bool) (s : State) : Result :=
  .next <| s.pdReceive m (fun s =>
    let n := m.port.val
    let s := s.updPd n (fun x => { x with partner := amps5V, dualRole := dualRole, hardResets := 0 })
    if s.isSource n then s else s.sinkRequests n)

/-- GET_SOURCE_CAP (R393): as Source the last offer, as Sink the one R391 would make now. -/
def execGetSourceCap (m : PdMsg) (s : State) : Result :=
  .next <| s.pdReceive m (fun s =>
    let n := m.port.val
    if n = 4 then s.pdSend n "Not_Supported"
    else s.pdSend n "Source_Capabilities" (if s.isSource n then (s.pdPort n).offer
      else if s.flag (Reg.PD_PORT_OVERRIDE_EN n) then pdoList (s.pdPort n).pdos else pdosFor (s.offerMost n)))

/-- GET_SINK_CAP (R393). -/
def execGetSinkCap (m : PdMsg) (s : State) : Result :=
  .next <| s.pdReceive m (fun s => s.pdSend m.port.val "Sink_Capabilities" [(5000, if m.port.val = 4 then 3000 else 100)])

/-- A swap accepted (R397): a source drops VBUS and says so. -/
def State.acceptSwap (s : State) (n : Nat) (byHub : Bool) : State :=
  let src := s.isSource n
  let s := (s.updPd n (fun x => { x with swap := some ⟨byHub, src, true⟩ })).setFlag (Reg.PD_PORT_SWAPPING n) true
  if src then (s.vbusOff n).pdSend n "PS_RDY" else s

/-- A swap refused (R397). -/
def State.refusePdSwap (s : State) (n : Nat) (m : String) : State :=
  ((s.pdSend n m).bump (Cnt.PD_SWAPS_REFUSED n)).pdEvent n .swapRefused

/-- PR_SWAP received (R397, R402). -/
def execPrSwap (m : PdMsg) (s : State) : Result :=
  .next <| s.pdReceive m (fun s =>
    let n := m.port.val
    if n = 4 then s.pdSend n "Reject"
    else
      let x := s.pdPort n
      let accept := s.flag (Reg.PD_PORT_ACCEPT_PR_SWAP n)
      match x.swap with
      | some w =>
        if w.accepted then s
        else if w.wasSource then s.pdSend n "Wait"
        else (s.pdSend n "Accept").acceptSwap n true
      | none =>
        if s.isSource n then
          if accept && s.flag (Reg.PD_PORT_CONTRACT n) then (s.pdSend n "Accept").acceptSwap n false else s.refusePdSwap n "Reject"
        else if accept && s.sourceEn n then
          if 4500 ≤ s.offerMost n then (s.pdSend n "Accept").acceptSwap n false else s.refusePdSwap n "Wait"
        else s.refusePdSwap n "Reject")

/-- DR_SWAP, VCONN_SWAP, unlisted messages and SOFT_RESET (R393, R394). -/
def execDrSwap (m : PdMsg) (s : State) : Result := .next (s.pdReceive m (fun s => s.pdSend m.port.val "Reject"))
def execVconnSwap (m : PdMsg) (s : State) : Result := .next (s.pdReceive m (fun s => s.pdSend m.port.val "Reject"))
def execUnlistedPdMessage (m : PdMsg) (s : State) : Result := .next (s.pdReceive m (fun s => s.pdSend m.port.val "Not_Supported"))

/-- The protocol layer of a port resets (R394): message IDs and retries start again. -/
def State.pdLayerReset (s : State) (n : Nat) : State := s.updPd n (fun x => { x with lastId := none, retries := 0 })

/-- SOFT_RESET (R393, R394): it resets the protocol layer before its own ID is looked at. [Log entries 144: PRESUMED, 146: DESIGN CHOICE] -/
def execSoftReset (m : PdMsg) (s : State) : Result :=
  .next <| (s.when m.crcOk (fun s => s.pdLayerReset m.port.val)).pdReceive m (fun s =>
    let n := m.port.val
    let s := (s.bump (Cnt.PD_SOFT_RESETS n)).pdSend n "Accept"
    if s.isSource n then s.makeOffer n (s.offerMost n) else s)

/-- HARD_RESET received (R394, R398). -/
def execHardReset (p : Fin 5) (s : State) : Result := .next (if s.attachedPd p.val then s.hardReset p.val false else s)

/-- The final PS_RDY of a swap (R397): the roles change. -/
def State.swapDone (s : State) (n : Nat) (w : PdSwap) : State :=
  let s := s.endContract n
  let s := if w.wasSource then
      s.withAlloc n (fun s => ((s.setFlag (Reg.PD_PORT_ROLE n) false).set (Reg.PD_PORT_TYPEC n) 3).updPd n (fun x => { x with offer := [], cut := false, requested := true }))
    else
      let p := s.offerMost n
      let s := ((s.setFlag (Reg.PD_PORT_ROLE n) true).set (Reg.PD_PORT_TYPEC n) 2).vbusOn n 5000
      (s.pdSend n "PS_RDY").makeOffer n p
  ((s.bump (Cnt.PD_SWAPS_DONE n)).endPdSwap n .ok).pdEvent n .swapDone

/-- PS_RDY (R397): as Sink, the requested supply is there. -/
def execPsRdy (m : PdMsg) (s : State) : Result :=
  .next <| s.pdReceive m (fun s =>
    let n := m.port.val
    match (s.pdPort n).swap with
    | some w => if w.accepted then s.swapDone n w else s
    | none => if s.isSource n then s else s.makeContract n 5000 (s.sinkCurrent n))

/-- SWAP_ANSWER (R397, R399): 0 Accept, 1 Reject, 2 Wait. -/
def execSwapAnswer (m : PdMsg) (answer : Fin 3) (s : State) : Result :=
  .next <| s.pdReceive m (fun s =>
    let n := m.port.val
    match (s.pdPort n).swap with
    | some w =>
      if !w.byHub || w.accepted then s
      else if answer.val = 0 then s.acceptSwap n true
      else
        ((s.bump (Cnt.PD_SWAPS_REFUSED n)).endPdSwap n (if answer.val = 1 then .notPermitted else .busyRetry)).pdEvent n .swapRefused
    | none => s)

/-- PD_TIMER_EXPIRY (R394, R399). A message without GoodCRC is sent again, twice at most, and then a Soft_Reset; a timer that ends a swap, an
unanswered Soft_Reset or any other wait leads to Hard Reset. [Log entries 144: PRESUMED, 146: DESIGN CHOICE] -/
def execPdTimerExpiry (e : PdExpiry) (s : State) : Result :=
  .next <|
    let n := e.port.val
    let x := s.pdPort n
    if !s.attachedPd n then s
    else if e.timer = .goodCrc ∧ x.retries < 2 then
      ((s.bump (Cnt.PD_MSG_RETRIES n)).updPd n (fun x => { x with retries := x.retries + 1 })).pdSend n "Retry"
    else if e.timer = .goodCrc ∧ x.swap = none then ((s.bump (Cnt.PD_SOFT_RESETS n)).pdLayerReset n).pdSend n "Soft_Reset"
    else (s.abortSwap n .timeout).hardReset n true

/-- VBUS_TRANSITION_DONE (R395). -/
def execVbusTransitionDone (p : Fin 4) (s : State) : Result :=
  .next <|
    let n := p.val
    match (s.pdPort n).trans with
    | some (mv, cur) => ((s.updPd n (fun x => { x with trans := none })).pdSend n "PS_RDY").makeContract n mv cur
    | none => s

/-- VBUS_TRANSITION_TIMEOUT (R395). -/
def execVbusTransitionTimeout (p : Fin 4) (s : State) : Result :=
  .next <|
    let n := p.val
    if (s.pdPort n).trans.isSome then (s.bump (Cnt.PD_VBUS_FAULTS n)).hardReset n true else s

/-- A trip of a port's VBUS (R396): the third within 60 s sets FAULT_OFF and opens the CC pins. -/
def State.vbusTrip (s : State) (n : Nat) : State :=
  let s := ((s.vbusOff n).setFlag (Reg.USB_PORT_STATE_OVER_CURRENT n) true).bump (Cnt.PD_VBUS_FAULTS n)
  let l := recentTicks (s.pdPort n).trips s.boot.ticks 480000
  let s := (s.recoverPort n).updPd n (fun x => { x with trips := l })
  let s := s.when (decide (3 ≤ l.length)) (fun s => (s.setFlag (Reg.PD_PORT_FAULT_OFF n) true).set (Reg.PD_PORT_TYPEC n) 5)
  s.pdEvent n .vbusFault

/-- VBUS_OVERCURRENT, VBUS_OVERVOLTAGE (R396). -/
def execVbusOvercurrent (p : Fin 4) (s : State) : Result := .next (if s.isSource p.val then s.vbusTrip p.val else s)
def execVbusOvervoltage (p : Fin 4) (s : State) : Result := .next (if s.isSource p.val then s.vbusTrip p.val else s)

/-- VBUS_UNDERVOLTAGE (R396): outside a transition, Hard Reset. -/
def execVbusUndervoltage (p : Fin 4) (s : State) : Result :=
  .next (if s.isSource p.val && (s.pdPort p.val).trans.isNone then s.hardReset p.val true else s)

/-- VBUS_BEFORE_ENABLE (R396): at a Source attach; VBUS is never raised. -/
def execVbusBeforeEnable (p : Fin 4) (s : State) : Result := .next (if s.typec p.val ≤ 2 ∧ s.sourceEn p.val then s.vbusTrip p.val else s)

/-- ERROR_RECOVERY_END (R396). -/
def execErrorRecoveryEnd (p : Fin 5) (s : State) : Result :=
  .next <|
    if s.typec p.val = 4 ∧ (s.pdPort p.val).recoverAt ≤ s.boot.ticks then s.withAlloc p.val (fun s => s.set (Reg.PD_PORT_TYPEC p.val) (s.restTypec p.val)) else s

/-- SERVICE_POWERED entered (R401). -/
def State.serviceEnters (s : State) : State :=
  let s := (s.setFlag (Reg.PD_PORT_SERVICE_POWERED 4) true).setFlag Reg.PIN_LEVELS_SVC_PWR_EN true
  (s.pdEvent 4 .servicePower).tryCore

/-- The hub may enter SERVICE_POWERED (R401): its inputs are off, and it does not run on what they gave. [Log entry 148: DESIGN CHOICE] -/
def State.mayServe (s : State) : Bool := !s.servicePowered && !s.anyOn && !s.powered .core

/-- SERVICE_POWER_ENTRY (R401): a 5 V contract of 3.00 A or more holds. -/
def execServicePowerEntry (s : State) : Result :=
  .next <|
    if s.mayServe && s.typec 4 == 3 && s.flag (Reg.PD_PORT_CONTRACT 4) && decide (300 ≤ s.get (Reg.PD_PORT_CURRENT 4))
    then s.serviceEnters else s

/-- SERVICE_NO_CAPS (R401): no capabilities within 1 s of attach, with Rp at the 3.0 A level. [Log entry 148: DESIGN CHOICE] -/
def execServiceNoCaps (s : State) : Result :=
  .next <|
    if s.mayServe && s.typec 4 == 3 && !s.flag (Reg.PD_PORT_CONTRACT 4) && (s.pdPort 4).partner == 0 &&
      s.get (Reg.PD_PORT_RP_SEEN 4) == 2 && decide ((s.pdPort 4).offerAt + 8000 ≤ s.boot.ticks)
    then s.serviceEnters else s

/-- SERVICE_POWER_EXIT (R401): at the boundary after an input reached ON. [Log entry 148: DESIGN CHOICE] -/
def State.serviceExit (s : State) : State :=
  if s.servicePowered && s.anyOn then
    let s := (s.setFlag (Reg.PD_PORT_SERVICE_POWERED 4) false).setFlag Reg.PIN_LEVELS_SVC_PWR_EN false
    (s.sinkRequests 4).pdEvent 4 .servicePower
  else s

/-- A policy takes force (R404): FAULT_OFF ends, and a port that may no longer source opens its CC pins. [Log entry 147: DESIGN CHOICE] -/
def State.applyPolicy (s : State) (n : Nat) (x : PdPolicy) : State :=
  let s := s.updPd n (fun y => { y with next := none, pdos := [x.pdo0, x.pdo1, x.pdo2, x.pdo3], trips := [] })
  let was := s.typec n
  let s := s.when (n < 4 && !x.sourceEn && was != 3) (fun s => s.when (was == 2) (fun s => (s.leavePort n 5).pdEvent n .detach))
  let s := s.withAlloc n (fun s =>
    let s := ((s.set (Reg.PD_PORT_MAX_W n) x.maxW.toNat).set (Reg.PD_PORT_PRIORITY n) x.priority.toNat).setFlag (Reg.PD_PORT_OVERRIDE_EN n) x.override_
    let s := (s.setFlag (Reg.PD_PORT_ACCEPT_PR_SWAP n) x.acceptPrSwap).setFlag (Reg.PD_PORT_SOURCE_EN n) x.sourceEn
    let s := s.setFlag (Reg.PD_PORT_FAULT_OFF n) false
    if 4 ≤ n then s
    else if !x.sourceEn && s.typec n != 3 then s.set (Reg.PD_PORT_TYPEC n) 5
    else if x.sourceEn && s.typec n == 5 then s.set (Reg.PD_PORT_TYPEC n) 0
    else s)
  if n < 4 ∧ s.isSource n ∧ (x.override_ ∨ s.flag (Reg.PD_PORT_OVERRIDE n)) then s.makeOffer n (s.offerMost n) else s

/-- Attached Source ports under R391, in an order of R392. [Log entry 145: DESIGN CHOICE] -/
def State.budgetPorts (s : State) (down : Bool) : List Nat :=
  let l := [0, 1, 2, 3].filter (fun n => s.isSource n && !s.flag (Reg.PD_PORT_OVERRIDE_EN n))
  let pri := fun n => s.get (Reg.PD_PORT_PRIORITY n)
  if down then sortBy (fun a b => decide (pri a < pri b) || (pri a == pri b && decide (b ≤ a))) l
  else sortBy (fun a b => decide (pri b < pri a) || (pri a == pri b && decide (a ≤ b))) l

/-- OFFER_ADJUST at a boundary (R392): cuts until the sum fits, or new offers where an allocation fell. No cut takes a port's default
power. [Log entry 145: DESIGN CHOICE] -/
def State.adjustOffers (s : State) : State :=
  let s := if s.budget < s.allocSum then
      forAll (s.budgetPorts true) s (fun s n =>
        if s.budget < s.allocSum then ((s.makeOffer n (max 4500 (s.offerMost n))).bump (Cnt.PD_BUDGET_CUTS n)).pdEvent n .budgetCut else s)
    else if s.pd.fell then
      forAll (s.budgetPorts false) s (fun s n => if (s.pdPort n).cut then s.makeOffer n (s.offerMost n) else s)
    else s
  { s with pd := { s.pd with fell := false } }

/-- The ports at a boundary: policies, then offers, then the service port. -/
def State.pdAtBoundary (s : State) : State :=
  let s := forAll [0, 1, 2, 3, 4] s (fun s n =>
    match (s.pdPort n).next with
    | some x => s.applyPolicy n x
    | none => s)
  s.adjustOffers.serviceExit

/-- PD_STATUS (R404). -/
def State.policyBytes (s : State) (n : Nat) : List Byte :=
  let bit := fun (b : Bool) (v : Nat) => if b then v else 0
  leBytes 1 (bit (s.sourceEn n) 1 + bit (s.flag (Reg.PD_PORT_ACCEPT_PR_SWAP n)) 2 + bit (s.flag (Reg.PD_PORT_OVERRIDE_EN n)) 4) ++
  leBytes 1 (s.get (Reg.PD_PORT_MAX_W n)) ++ leBytes 1 (s.get (Reg.PD_PORT_PRIORITY n)) ++ [0] ++
  (List.range 4).flatMap (fun i => leBytes 4 (((s.pdPort n).pdos.getD i 0).toNat)) ++ leBytes 8 0

def execPdStatus (h : CmdHdr) (port : Byte) (s : State) : Result :=
  .next <| s.runOpcode h 0x0510 [port, 0, 0, 0] true (fun _ s =>
    let n := port.toNat
    if 4 < n then (s, .done .badParam [])
    else (s, .done .ok (leBytes 4 (s.word (Reg.PD_PORT_0 n)).toNat ++ leBytes 4 (s.word (Reg.PD_PORT_4 n)).toNat ++
      leBytes 4 (s.word (Reg.PD_PORT_8 n)).toNat ++ leBytes 4 0 ++ s.policyBytes n)))

/-- PD_ROLE_SWAP (R399). -/
def execPdRoleSwap (h : CmdHdr) (port : Byte) (s : State) : Result :=
  .next <| s.runOpcode h 0x0511 [port, 0, 0, 0] true (fun _ s =>
    let n := port.toNat
    if 3 < n then (s, .done .badParam [])
    else
      let x := s.pdPort n
      if x.swap.isSome then (s, .done .busyRetry (s.roleData n))
      else if !s.flag (Reg.PD_PORT_CONTRACT n) || !x.dualRole || (!s.isSource n && (!s.sourceEn n || decide (s.offerMost n < 4500))) then
        (s, .done .notPermitted (s.roleData n))
      else
        let s := (s.updPd n (fun x => { x with swap := some ⟨true, s.isSource n, false⟩ })).setFlag (Reg.PD_PORT_SWAPPING n) true
        (s.pdSend n "PR_Swap", .waits n))

/-- The PDOs of a policy are fixed supplies in ascending voltage from 5 V, each within 20 V, 3.00 A and MAX_W (R404). -/
def pdosOk (x : PdPolicy) : Bool :=
  let ws := [x.pdo0, x.pdo1, x.pdo2, x.pdo3].takeWhile (fun w => w != 0)
  let l := ws.map pdoOf
  if ws == [] then !x.override_
  else
    ws.all (fun w => w.toNat / 2 ^ 30 == 0) && (l.map (·.1)).head? == some 5000 &&
    ((l.map (·.1)).zip ((l.map (·.1)).drop 1)).all (fun v => decide (v.1 < v.2)) &&
    l.all (fun o => decide (o.1 ≤ 20000) && decide (o.2 ≤ 3000) && decide (o.1 * o.2 ≤ x.maxW.toNat * 1000000))

/-- Σ of the override allocations with 4.5 W for every other sourcing port, a record in place (R404). -/
def State.overrideSum (s : State) (n : Nat) (x : PdPolicy) : Nat :=
  ([0, 1, 2, 3].map (fun q =>
    if q = n then (if x.override_ then offerPower (pdoList [x.pdo0, x.pdo1, x.pdo2, x.pdo3]) else if x.sourceEn then 4500 else 0)
    else if s.flag (Reg.PD_PORT_OVERRIDE_EN q) then offerPower (pdoList (s.pdPort q).pdos)
    else if s.sourceEn q then 4500 else 0)).sum

/-- PD_POLICY (R404). -/
def execPdPolicy (h : CmdHdr) (port : Byte) (policy : PdPolicy) (s : State) : Result :=
  .next <| s.runOpcode h 0x0512 ([port, 0, 0, 0] ++ policyBytes policy) true (fun _ s =>
    let n := port.toNat
    if 4 < n || !policy.reservedOk || decide (policy.maxW.toNat < 5) || decide (60 < policy.maxW.toNat) || decide (3 < policy.priority.toNat) ||
      (n == 4 && (policy.sourceEn || policy.acceptPrSwap)) then (s, .done .badParam [])
    else if !pdosOk policy || decide (s.budget < s.overrideSum n policy) then (s, .done .checkFailed [])
    else (s.updPd n (fun x => { x with next := some policy }), .done .ok []))

end Machine
end Sys2Proof
end

