-- ==== Sys2Proof/Machine/PState.lean ====
section
/-!
DEFINITION. Power states (R411 to R422): the idle timer, the refusers, Dormant, the wake events and waking.
-/
namespace Sys2Proof
namespace Machine

def State.psState (s : State) : Nat := s.get Reg.PS_STATE_STATE

/-- The refusers of R413 in order: each code with its condition. [Log entry 150: DEDUCED] -/
def State.refusers (s : State) : List (Nat × Bool) :=
  [ (1, s.flag Reg.HUB_ROLES_ROOT || s.flag Reg.HUB_ROLES_STANDBY_ROOT || s.flag Reg.HUB_ROLES_ROUND_MASTER || s.flag Reg.HUB_ROLES_JUNCTION)
  , (2, allPorts.any (fun p => s.portState p == 9) && !s.flag Reg.DORMANT_CFG_RING_OK)
  , (3, s.tun.boxes.any (fun b => b.2.state != .free))
  , (4, s.reg.entries.any (fun e => !e.2.dead) || !s.reg.pigeons.isEmpty || s.flag Reg.REPLAY_ACTIVE)
  , (5, s.cmd.book.any (fun e => e.2.state == .running || !e.2.delivered))
  , (6, s.cmd.sets.any (fun x => x.2.state == .checked || x.2.state == .armed))
  , (7, s.pfw || s.pathState 0 == 1 || s.pathState 0 == 4 || s.pathState 1 == 1 || s.pathState 1 == 4)
  , (8, [0, 1, 2, 3].any (fun n => s.portStateUsb n == 3) || s.get Reg.SVC_STATE_DEV_STATE == 3)
  , (9, s.flag Reg.SEC_STATE_DEBUG)
  , (10, s.get Reg.FW_STAGED_RECEIVED != 0) ]

/-- The first refuser whose condition holds (R413). -/
def State.refuser (s : State) : Option Nat := (s.refusers.find? (fun r => r.2)).map (·.1)

/-- A refusal at an attempt (R413): recorded, counted, told at most once in 8,000 rounds, and the timer restarts. -/
def State.dormantRefused (s : State) (code : Nat) : State :=
  let s := (s.set Reg.PS_STATE_LAST_REFUSER code).bump Cnt.PSTATE_REFUSALS
  let s := s.bump (Cnt.PSTATE_REFUSER (code - 1))
  let due := match s.ps.refusedAt with
    | some t => decide (t + 8000 ≤ s.boot.ticks)
    | none => true
  (s.when due (fun s => (s.setPs { s.ps with refusedAt := some s.boot.ticks }).notice 0x80C2 [code])).restartIdle

/-- DORMANT_ATTEMPT at a boundary (R411, R413): ENTERING, or a refusal. [Log entry 153: DESIGN CHOICE] -/
def State.dormantAttempt (s : State) : State :=
  if s.ps.attempt && s.psState == 0 then
    let s := s.setPs { s.ps with attempt := false }
    match s.refuser with
    | some c => s.dormantRefused c
    | none =>
      let s := (s.set Reg.PS_STATE_STATE 1).setPs { s.ps with entered := s.round }
      s.notice 0x80C1 [s.round + 8]
  else s

/-- The idle timer at a boundary (R412): whole seconds of 8,000 rounds. -/
def State.idleAtBoundary (s : State) : State :=
  if s.get Reg.PS_STATE_IDLE_LEFT = 0 then s
  else if s.ps.idleRounds + 1 < 8000 then s.setPs { s.ps with idleRounds := s.ps.idleRounds + 1 }
  else (s.setPs { s.ps with idleRounds := 0 }).set Reg.PS_STATE_IDLE_LEFT (s.get Reg.PS_STATE_IDLE_LEFT - 1)

/-- IDLE_EXPIRY (R412). -/
def execIdleExpiry (s : State) : Result :=
  .next <|
    if s.ready && s.psState == 0 && s.get Reg.PS_STATE_IDLE_LEFT == 0 && s.flag Reg.DORMANT_CFG_EN then
      s.setPs { s.ps with attempt := true }
    else s

/-- GO as it is written (R412, R418): the answer, and an attempt at the next boundary; none while the hub is ENTERING. [Log entry 153: DESIGN CHOICE] -/
def State.writeGo (s : State) : State × Status :=
  if !s.flag Reg.DORMANT_CFG_EN then (s, .notPermitted)
  else if s.psState = 0 then ((s.restartIdle).setPs { s.restartIdle.ps with attempt := true }, .ok)
  else (s, .ok)

/-- GO (R412). -/
def execGo (s : State) : Result :=
  .next (if s.powered .core && decide (s.psState < 2) then s.writeGo.1.emit (.writeStatus Reg.DORMANT_CFG s.writeGo.2) else s)

/-- CORE's clocks stop and the six domains go (R411); the round is stored (R53). [Log entry 152: DESIGN CHOICE] -/
def State.enterDormant (s : State) : State :=
  let ports := [0, 1, 2, 3].filter (fun n => s.portStateUsb n == 4)
  let s := ((s.bump Cnt.PSTATE_DORMANT_ENTRIES).set Reg.PS_STATE_STATE 2).storeRound.removeAll false
  let s := s.setRt { s.rt with running := false }
  s.setPs { s.ps with dormantAt := s.boot.ticks, suspended := ports }

/-- DORMANT_ENTRY (R411, R413): at the boundary 8 rounds after the entry into ENTERING. -/
def execDormantEntry (s : State) : Result :=
  .next <|
    if s.psState = 1 ∧ s.ps.entered + 8 ≤ s.round then
      match s.refuser with
      | some c => s.activity c
      | none => s.enterDormant
    else s

/-- WAKE_CFG EN of a wake code (R415). -/
def State.wakeOn (s : State) (code : Nat) : Bool := bitOf (s.word Reg.WAKE_CFG).toNat code

/-- A wake event (R414, R415, R417): in Dormant it wakes the hub; in WAKING it is seen too; before the clocks stop it aborts the entry. [Log entry 151: DESIGN CHOICE] -/
def State.wake (s : State) (code detail also : Nat) : State :=
  if !s.wakeOn code then s
  else if s.psState = 1 then s.activity (16 + code)
  else if s.psState = 3 then s.set Reg.LAST_WAKE_ALSO (setBit (s.get Reg.LAST_WAKE_ALSO) (code - 1) true)
  else if s.psState = 2 then
    let seen := (List.range 6).foldl (fun n i => if code ≤ i && bitOf also i && s.wakeOn (i + 1) then setBit n i true else n) 0
    let s := ((s.set Reg.LAST_WAKE_SOURCE code).set Reg.LAST_WAKE_DETAIL detail).set Reg.LAST_WAKE_ALSO seen
    ((s.bump Cnt.PSTATE_WAKES).set Reg.PS_STATE_STATE 3).queueDomains
  else s

/-- WAKE_MGMT (R415): in Dormant an SMBus transfer is held, and an I3C match is not acknowledged. [Log entry 151: DESIGN CHOICE] -/
def execWakeMgmt (m : MgmtMatch) (also : BitVec 6) (s : State) : Result :=
  .next <|
    if m.dynamic || m.address.val == s.get Reg.MGMT_CFG_MGMT_ADDR then
      let t := s.wake 1 m.address.val also.toNat
      if s.psState = 2 ∧ t.psState = 3 then t.emit (if m.dynamic then .refused 65 .busyRetry else .held 65) else t
    else s

/-- WAKE_SERVICE (R415). -/
def execWakeService (also : BitVec 6) (s : State) : Result := .next (s.wake 2 4 also.toNat)

/-- WAKE_PORT_ATTACH (R415). -/
def execWakePortAttach (p : Fin 4) (also : BitVec 6) (s : State) : Result := .next (s.wake 3 p.val also.toNat)

/-- WAKE_REMOTE (R415): a hub port that is, or at the entry was, SUSPENDED. [Log entry 152: DESIGN CHOICE] -/
def execWakeRemote (n : Fin 4) (also : BitVec 6) (s : State) : Result :=
  .next (if s.portStateUsb n.val = 4 || (decide (2 ≤ s.psState) && s.ps.suspended.contains n.val) then s.wake 4 n.val also.toNat else s)

/-- WAKE_SUPPLY (R415). -/
def execWakeSupply (x : InputId) (also : BitVec 6) (s : State) : Result := .next (s.wake 5 x.code also.toNat)

/-- WAKE_TIMER (R415): WAKE_AFTER seconds on the keeper oscillator, 1 % early at most; 0 disables it. [Log entry 151: DESIGN CHOICE] -/
def execWakeTimer (also : BitVec 6) (s : State) : Result :=
  .next <|
    let w := s.get Reg.WAKE_CFG_WAKE_AFTER
    if w ≠ 0 ∧ s.psState = 2 ∧ s.ps.dormantAt + w * 7920 ≤ s.boot.ticks then s.wake 6 0 also.toNat else s

/-- WAKE_READY (R416, R417): RUN, with the round timer in FREE, and WOKEN. -/
def execWakeReady (seconds : Word) (s : State) : Result :=
  .next <|
    if s.psState = 3 ∧ s.powered .core then
      let s := (s.set Reg.PS_STATE_STATE 0).setWord Reg.LAST_DORMANT_S seconds
      let s := s.setRt { RoundSt.init with
        storedRound := s.rt.storedRound, storedEpoch := s.rt.storedEpoch, storedAge := s.rt.storedAge,
        floor := s.rt.storedRound + 16000, epochFloor := s.rt.epochFloor }
      let s := s.startTimer.enterFree
      (s.setPs { s.ps with attempt := false, suspended := [] }).restartIdle.queueDomains.notice 0x80C3
        [(s.word Reg.LAST_WAKE).toNat, (s.word Reg.LAST_DORMANT_S).toNat]
    else s

/-- PSTATE_STATUS (R422). -/
def execPstateStatus (h : CmdHdr) (s : State) : Result :=
  .next <| s.runOpcode h 0x0521 [] true (fun _ s =>
    (s, .done .ok ([Reg.DOMAIN_ON, Reg.DOMAIN_REQ, Reg.DOMAIN_FAULT, Reg.DORMANT_CFG, Reg.WAKE_CFG, Reg.PS_STATE, Reg.LAST_WAKE,
      Reg.LAST_DORMANT_S].flatMap (fun a => leBytes 4 (s.word a).toNat))))

end Machine
end Sys2Proof
end

