-- ==== Sys2Proof/Machine/Sha.lean ====
section
/-!
DEFINITION. SHA-384 (FIPS 180-4), which R426, R428 and R441 apply to public keys and records. The standard's constants are
fraction bits of roots of the first primes; they are worked out here from the primes.
-/
namespace Sys2Proof
namespace Machine

/-- The first primes: up to `k` more, found by trial division from `n` on within `fuel` numbers. -/
def primesFrom (fuel k n : Nat) (found : List Nat) : List Nat :=
  match fuel, k with
  | 0, _ => found
  | _, 0 => found
  | fuel + 1, k + 1 =>
    if found.all (fun p => n % p != 0) then primesFrom fuel k (n + 1) (found ++ [n]) else primesFrom fuel (k + 1) (n + 1) found

/-- The 80 primes up to 409. -/
def shaPrimes : List Nat := primesFrom 408 80 2 []

/-- The whole part of the `k`-th root of `n`, bit by bit below 2^`bits`. -/
def rootBelow (k n : Nat) : Nat → Nat → Nat
  | 0, r => r
  | b + 1, r => rootBelow k n b (if (r + 2 ^ b) ^ k ≤ n then r + 2 ^ b else r)

/-- The first 64 fraction bits of the `k`-th root of `p`. -/
def rootFraction (k p : Nat) : BitVec 64 := BitVec.ofNat 64 (rootBelow k (p * 2 ^ (64 * k)) 70 0)

/-- The message with its padding as 64-bit words: a one bit, zeros, and the length in bits in the last 128. -/
def shaWords (bs : List Byte) : List (BitVec 64) :=
  let zeros := (128 - (bs.length + 17) % 128) % 128
  let m := bigNat (bs ++ 0x80 :: List.replicate zeros 0 ++ bigBytes 16 (8 * bs.length))
  let words := (bs.length + 17 + zeros) / 8
  (List.range words).map (fun i => BitVec.ofNat 64 (m / 2 ^ (64 * (words - 1 - i))))

/-- Two right rotations and a third term of a word, added without carry. -/
def mixWord (x third : BitVec 64) (m n : Nat) : BitVec 64 := x.rotateRight m ^^^ x.rotateRight n ^^^ third

/-- The steps of one block: each takes its constant and the head of the sixteen schedule words that are due, and adds a new word at
their end. -/
def shaSteps : List (BitVec 64) → List (BitVec 64) → List (BitVec 64) → List (BitVec 64)
  | k :: ks, [a, b, c, d, e, f, g, h], w :: due =>
    let next := mixWord (due.getD 13 0) (due.getD 13 0 >>> 6) 19 61 + due.getD 8 0 + mixWord (due.getD 0 0) (due.getD 0 0 >>> 7) 1 8 + w
    let pick := (e &&& f) ^^^ (~~~e &&& g)
    let most := (a &&& b) ^^^ (a &&& c) ^^^ (b &&& c)
    let t := h + mixWord e (e.rotateRight 41) 14 18 + pick + k + w
    shaSteps ks [t + mixWord a (a.rotateRight 39) 28 34 + most, a, b, c, d + t, e, f, g] (due ++ [next])
  | _, v, _ => v

/-- The hash value after so many blocks of sixteen words. -/
def shaBlocks (ks : List (BitVec 64)) : Nat → List (BitVec 64) → List (BitVec 64) → List (BitVec 64)
  | 0, v, _ => v
  | n + 1, v, ws => shaBlocks ks n (List.zipWith (· + ·) v (shaSteps ks v (ws.take 16))) (ws.drop 16)

/-- SHA-384 of a byte string: 48 bytes. [Log entry 10: PRESUMED] -/
def sha384 (bs : List Byte) : List Byte :=
  let ws := shaWords bs
  let start := ((shaPrimes.drop 8).take 8).map (rootFraction 2)
  ((shaBlocks (shaPrimes.map (rootFraction 3)) (ws.length / 16) start ws).take 6).flatMap (fun x => bigBytes 8 x.toNat)

end Machine
end Sys2Proof
end

