-- ==== Sys2Proof/Machine/Security.lean ====
section
/-!
DEFINITION. Sealed key letters (R427 to R432), key changes on live links (R440), slot records (R426), attestation (R441), debug tokens
(R442, R443), self-tests (R444), zeroisation (R445) and the policy word (R446).
-/
namespace Sys2Proof
namespace Machine

/-- The public key in a slot (R426): of slots 0, 1 and 3 the hub's own, of others the letter's. -/
def State.slotPub (s : State) (n : Nat) : List Byte :=
  if n = 0 || n = 1 || n = 3 then leBytes 96 (Config.pubKey n (if n = 1 then s.sec.generation else 0)).toNat
  else ((s.slot n).pub ++ List.replicate 96 0).take 96

/-- A slot record (R426). -/
def State.slotRecord (s : State) (n : Nat) : List Byte :=
  let st := s.get (Reg.SLOT_ATTR_STATE n)
  let kind := s.get (Reg.SLOT_ATTR_KIND n)
  let x := s.slot n
  let pub := s.slotPub n
  leBytes 1 n ++ leBytes 1 st ++ leBytes 2 kind ++ leBytes 4 (s.get (Reg.SLOT_ATTR_DEST n)) ++
  leBytes 4 (s.get (Reg.SEAL_COUNTER_VALUE n)) ++ leBytes 8 x.effective ++
  (if st = 0 then leBytes 8 0 else if kind = 0 then leBytes 8 x.kcv else (sha384 pub).take 8) ++
  (if st = 0 || kind = 0 then leBytes 96 0 else pub)

/-- KEY_SLOT_INFO (R426). -/
def execKeySlotInfo (h : CmdHdr) (slot : Byte) (s : State) : Result :=
  .next <| s.runOpcode h 0x0601 [slot, 0, 0, 0] true (fun _ s =>
    if 63 < slot.toNat then (s, .done .badParam []) else (s, .done .ok (s.slotRecord slot.toNat)))

/-- What a letter says, by the layout of R428. -/
structure LetterHead where
  version : Nat
  slot : Nat
  op : Nat
  kind : Nat
  dest : Nat
  claim : Nat
  keyLen : Nat
  sealCounter : Nat
  effectiveRound : Nat
  policy : Nat
deriving DecidableEq, Repr

/-- The head of a letter read from its bytes 0 to 19 (R428). -/
def letterHead (l : Letter) : LetterHead :=
  let b := l.bytes
  { version := leAt b 0 1, slot := leAt b 1 1, op := leAt b 2 1, kind := leAt b 3 1, dest := leAt b 4 2, claim := leAt b 6 1, keyLen := leAt b 7 1,
    sealCounter := leAt b 8 4, effectiveRound := leAt b 12 6, policy := leAt b 18 2 }

/-- The owner's claim (R429). -/
def LetterHead.ownerClaim (x : LetterHead) : Bool := x.claim == 1

/-- Check 1 of R430 on a letter: its length, its fields, its reserved bits and the rules of R424 and R429. [Log entry 159: DESIGN CHOICE] -/
def letterForm (paramLen round : Nat) (l : Letter) : Bool :=
  let x := letterHead l
  let er := x.effectiveRound
  x.version == 1 && decide (x.op ≤ 2) && decide (x.claim ≤ 1) &&
  (if x.op = 0 then (x.kind == 0 && (x.dest == 1 || x.dest == 2 || x.dest == 4) && x.slot != 2) || (x.kind == 2 && x.dest == 8)
   else x.kind == 0 && x.dest == 0 && (l.bytes.drop 68).take 112 == List.replicate 112 0) &&
  x.keyLen == (if x.op ≠ 0 then 0 else if x.kind = 0 then 32 else 96) &&
  (!x.ownerClaim || (x.slot == 2 && x.op == 0 && x.kind == 2)) &&
  (if x.op = 2 then decide (x.policy < 8) else x.policy == 0) &&
  decide (paramLen = 276 + x.keyLen) && decide (l.bytes.length = paramLen) &&
  (er == 0 || (decide (round + 2 ≤ er) && decide (er ≤ round + 28800000)))

/-- SLOT writable (R423, R428). [Log entry 159: DESIGN CHOICE] -/
def LetterHead.slotWritable (x : LetterHead) : Bool :=
  if x.op = 2 then x.slot == 0xFF else x.slot == 2 || (decide (4 ≤ x.slot) && decide (x.slot ≤ 63))

/-- The seal counter a letter names (R427). -/
def LetterHead.counter (x : LetterHead) : Nat := if x.op = 2 then 65 else x.slot

/-- A SEAL_INVALID of a check (R430): counted and told; eight within 8,000 rounds start the lockout (R431). [Log entry 158: DESIGN CHOICE] -/
def State.sealInvalid (s : State) (check : Nat) : State :=
  let s := (s.bump Cnt.SECURE_LETTERS_REFUSED).notice 0x80D1 [check]
  let l := recentTicks s.sec.invalid s.boot.ticks 8000
  if 8 ≤ l.length then
    (s.setFlag Reg.SEC_STATE_LOCKOUT true).setSec { s.sec with invalid := [], lockUntil := s.boot.ticks + 80000 }
  else s.setSec { s.sec with invalid := l }

/-- What R430 finds of a letter: 0 where it passes, else the number of the check that fails, with its status. [Log entries 158: DESIGN CHOICE, 159: DESIGN CHOICE] -/
def State.letterCheck (s : State) (h : CmdHdr) (l : Letter) : Nat × Status :=
  let x := letterHead l
  if !letterForm h.paramLen s.round l then (1, .badParam)
  else if !x.slotWritable then (2, .notPermitted)
  else if x.ownerClaim && !((h.path.val == 64 || h.path.val == 65) && s.get (Reg.SLOT_ATTR_STATE 2) == 0) then (2, .notPermitted)
  else if s.flag Reg.SEC_STATE_LOCKOUT then (7, .notPermitted)
  else if s.flag Reg.SEC_STATE_CRYPTO_ERROR then (2, .hwFault)
  else if !l.deviceOk then (3, .sealInvalid)
  else if !(l.signatureOk && (x.ownerClaim || s.flag Reg.SEC_STATE_DEBUG || s.flag Reg.SEC_STATE_OWNED)) then (4, .sealInvalid)
  else if x.sealCounter ≤ s.get (Reg.SEAL_COUNTER_VALUE x.counter) then (5, .sealInvalid)
  else if !l.tagOk then (6, .sealInvalid)
  else (0, .ok)

/-- A letter accepted (R432): the counter takes its value, and what it does waits for its round. [Log entry 156: DESIGN CHOICE] -/
def State.acceptLetter (s : State) (l : Letter) : State :=
  let x := letterHead l
  let er := x.effectiveRound
  let round := if er = 0 then s.round + 1 else er
  let slot := x.slot
  let s := (s.bump Cnt.SECURE_LETTERS_ACCEPTED).set (Reg.SEAL_COUNTER_VALUE x.counter) x.sealCounter
  let d : LetterDue :=
    { round := round, letter := x.sealCounter, op := x.op, kind := x.kind, dest := x.dest, kcv := l.kcv.toNat, pub := l.pub,
      policy := x.policy, debug := s.flag Reg.SEC_STATE_DEBUG }
  if x.op = 2 then s.setSec { s.sec with due := mput s.sec.due 64 d }
  else
    let s := s.setSec { s.sec with due := mput s.sec.due slot d, slots := mput s.sec.slots slot { s.slot slot with effective := round } }
    if er = 0 then s else (s.set (Reg.SLOT_ATTR_STATE slot) 2).keyEvent slot .ok

/-- KEY_LETTER (R430, R432). -/
def execKeyLetter (h : CmdHdr) (l : Letter) (s : State) : Result :=
  .next <| s.runOpcode h 0x0600 l.bytes true (fun _ s =>
    match s.letterCheck h l with
    | (0, _) =>
      (s.acceptLetter l, .done .ok (leBytes 4 (letterHead l).slot ++ leBytes 4 (letterHead l).sealCounter))
    | (7, st) => (s.notice 0x80D1 [0], .done st [])
    | (n, st) => (if st = .sealInvalid then s.sealInvalid n else s, .done st []))

/-- The ports whose link key a slot holds. -/
def State.portsOf (s : State) (slot : Nat) : List PortId := allPorts.filter (fun p => s.linkSlot p == slot && slot != 0)

/-- Both keys of an ACTIVE port are valid (R440). -/
def State.bothKeys (s : State) (p : PortId) : State :=
  if s.portState p = 9 then s.updPort p (fun x => { x with oldKey := true, keySince := if x.oldKey then x.keySince else 0 }) else s

/-- The key in the slot of a port changed (R437, R439, R440): its pairs go; where it is a link key for the port, a MISMATCH ends, the
transmitter takes it, and the old key goes 8 rounds on. -/
def State.linkKeyChanged (s : State) (p : PortId) (round : Nat) : State :=
  let s := s.clearPairs p
  if !s.slotServes (s.linkSlot p) p then s
  else
    let s := ((s.setFlag (Reg.LINK_USES_MISMATCH p.code) false).bothKeys p).updPort p (fun x =>
      { x with keySlot := s.linkSlot p, keyLetter := s.linkLetter p })
    s.setSec { s.sec with oldKeys := mput s.sec.oldKeys p.code (round + 8) }

/-- KEY_EFFECTIVE (R432, R446): a letter takes force. [Log entries 156: DESIGN CHOICE, 157: DESIGN CHOICE, 160: DESIGN CHOICE] -/
def State.takeLetter (s : State) (n : Nat) (d : LetterDue) : State :=
  let s := s.setSec { s.sec with due := mdel s.sec.due n }
  if d.op = 2 then s.set Reg.SEC_STATE_POLICY d.policy
  else if d.op = 1 then
    let s := s.eraseSlot n 0
    let s := s.setSec { s.sec with slots := mput s.sec.slots n { SlotSt.init with effective := d.round } }
    (forAll (s.portsOf n) s (fun s p => s.clearPairs p)).keyEvent n .ok
  else
    let s := (s.setAttr n 1 d.kind d.dest).setSec { s.sec with slots := mput s.sec.slots n ⟨d.round, d.letter, d.kcv, d.pub, d.debug⟩ }
    let s := s.when (n == 2) (fun s => s.setFlag Reg.SEC_STATE_OWNED true)
    let s := forAll (s.portsOf n) s (fun s p => s.linkKeyChanged p d.round)
    s.keyEvent n (if s.flag Reg.SEC_STATE_CRYPTO_ERROR then .hwFault else .ok)

/-- Keys at a boundary (R432, R440): old keys whose time has come go; letters due take force, while the keeper can be reached (R16);
those of the next round make both keys valid. [Log entries 156: DESIGN CHOICE, 160: DESIGN CHOICE] -/
def State.keysAtBoundary (s : State) : State :=
  let old := s.sec.oldKeys.filter (fun e => decide (e.2 ≤ s.round))
  let s := forAll allPorts s (fun s p =>
    if old.any (fun e => e.1 == p.code) then s.updPort p (fun x => { x with oldKey := false, keySince := 0 }) else s)
  let s := s.setSec { s.sec with oldKeys := s.sec.oldKeys.filter (fun e => decide (s.round < e.2)) }
  let s := if s.skUp then
      forAll (s.sec.due.filter (fun d => decide (d.2.round ≤ s.round))) s (fun s d => s.takeLetter d.1 d.2)
    else s
  let s := forAll (s.sec.due.filter (fun d => d.2.round == s.round + 1 && d.2.op == 0 && d.2.kind == 0)) s (fun s d =>
    forAll (s.portsOf d.1) s (fun s p => if s.slotServes d.1 p then s.bothKeys p else s))
  s.enforceKeys.syncApproved

/-- LOCKOUT_END (R431). -/
def execLockoutEnd (s : State) : Result :=
  .next (if s.flag Reg.SEC_STATE_LOCKOUT && decide (s.sec.lockUntil ≤ s.boot.ticks) then s.setFlag Reg.SEC_STATE_LOCKOUT false else s)

/-- The identity part that IDENTIFY, TOPO_SCAN and ATTEST share (R364, R441): VENDOR, PART, REVISION. -/
def State.identBytes (s : State) : List Byte :=
  leBytes 2 (s.get Reg.HUB_ID_VENDOR) ++ leBytes 2 (s.get Reg.HUB_ID_PART) ++ leBytes 1 (s.get Reg.HUB_REV_REVISION)

def serialBytes : List Byte := leBytes 16 Config.serial.toNat

/-- SLOTS_DIGEST (R441). -/
def State.slotsDigest (s : State) : List Byte :=
  sha384 ((List.range 64).flatMap (fun n => s.slotRecord n) ++ leBytes 4 (s.get (Reg.SEAL_COUNTER_VALUE 64)) ++
    leBytes 4 (s.get (Reg.SEAL_COUNTER_VALUE 65)) ++ leBytes 2 (s.get Reg.SEC_STATE_POLICY))

/-- Bytes 0 to 175 of an attestation report (R441). -/
def State.report (s : State) (nonce : List Byte) : List Byte :=
  let bit := fun (f : Fld) (n : Nat) => if s.flag f then n else 0
  leBytes 1 1 ++ leBytes 3 (bit Reg.SEC_STATE_DEBUG 1 + bit Reg.SEC_STATE_APPROVED 2 + bit Reg.SEC_STATE_OWNED 4) ++
  s.identBytes ++ leBytes 3 0 ++ serialBytes ++ leBytes 4 (if s.addrValid then s.postcode else 0) ++ leBytes 8 s.now ++
  leBytes 4 (s.get Reg.FW_VERSION_VERSION) ++ bigBytes 48 (Config.imageDigest (if s.boot.testImage then s.boot.testNo else s.boot.image)).toNat ++ s.slotsDigest ++ nonce.take 32 ++
  leBytes 4 (s.get Reg.ZEROISE_COUNT_COUNT)

/-- ATTEST (R441): the signature is a free value. -/
def execAttest (h : CmdHdr) (nonce : List Byte) (s : State) : Result :=
  .next <| s.runOpcode h 0x0602 nonce (nonce.length == 32) (fun _ s =>
    if s.flag Reg.SEC_STATE_CRYPTO_ERROR then (s, .done .notPermitted [])
    else
      let d := s.draw
      let cert := Config.certLen.val + 1
      (d.2, .done .ok (s.report nonce ++ bigBytes 96 (Config.signature d.1).toNat ++ leBytes 4 cert ++
        (List.range cert).map Config.certByte)))

/-- The response locks debug again (R442). -/
def tokenRelocks (t : Token) : Bool := t.bytes == [0]

/-- The form of a debug token (R442): its length, VERSION and reserved bytes. -/
def tokenForm (t : Token) : Bool := t.bytes.length == 160 && leAt t.bytes 0 1 == 1 && leAt t.bytes 1 3 == 0

/-- An AES-256 key of a slot erased, or one that waits for it (R443); its counter stays, and a public key's letter waits on. -/
def State.eraseAes (s : State) (n : Nat) : State :=
  let waits := match mget s.sec.due n with
    | some d => d.op == 0 && d.kind == 2
    | none => false
  let s := s.setSec { s.sec with due := s.sec.due.filter (fun d => !(d.1 == n && d.2.op == 0 && d.2.kind == 0)) }
  if s.get (Reg.SLOT_ATTR_KIND n) = 2 then s.when (s.get (Reg.SLOT_ATTR_STATE n) == 2 && !waits) (fun s => s.set (Reg.SLOT_ATTR_STATE n) 1)
  else
    (s.setAttr n (if waits then 2 else 0) 0 0).setSec { s.sec with slots := if waits then s.sec.slots else mdel s.sec.slots n }

/-- Debug unlocked (R443): AES-256 keys go, and every trunk port is held. -/
def State.unlockDebug (s : State) : State :=
  let s := forAll ((List.range 64).filter (fun n => 4 ≤ n && (s.get (Reg.SLOT_ATTR_STATE n) != 0 || (mget s.sec.due n).isSome))) s
    (fun s n => s.eraseAes n)
  (forAll allPorts s (fun s p => s.holdPort p)).setDebug true

/-- The checks of a debug token (R442): 0 where it passes, else as R430's, 6 for NOT_AFTER. [Log entries 158: DESIGN CHOICE, 161: DESIGN CHOICE] -/
def State.tokenCheck (s : State) (h : CmdHdr) (t : Token) : Nat × Status :=
  if !(h.paramLen == t.bytes.length && (tokenRelocks t || tokenForm t)) then (1, .badParam)
  else if s.flag Reg.SEC_STATE_LOCKOUT then (7, .notPermitted)
  else if h.path.val == 66 then (2, .notPermitted)
  else if s.flag Reg.SEC_STATE_CRYPTO_ERROR then (2, .hwFault)
  else if tokenRelocks t then (0, .ok)
  else if !t.deviceOk then (3, .sealInvalid)
  else if !(t.signatureOk && (s.flag Reg.SEC_STATE_OWNED || s.get (Reg.SLOT_ATTR_STATE 2) == 0)) then (4, .sealInvalid)
  else if leAt t.bytes 4 4 ≤ s.get (Reg.SEAL_COUNTER_VALUE 64) then (5, .sealInvalid)
  else if leAt t.bytes 8 8 < s.round then (6, .sealInvalid)
  else (0, .ok)

/-- DEBUG_UNLOCK (R442, R443). -/
def execDebugUnlock (h : CmdHdr) (t : Token) (s : State) : Result :=
  .next <| s.runOpcode h 0x0604 t.bytes true (fun _ s =>
    match s.tokenCheck h t with
    | (0, _) =>
      if tokenRelocks t then (s.debugEnds true, .done .ok (leBytes 4 0))
      else ((s.set (Reg.SEAL_COUNTER_VALUE 64) (leAt t.bytes 4 4)).unlockDebug, .done .ok (leBytes 4 1))
    | (7, st) => (s.notice 0x80D1 [0], .done st [])
    | (n, st) => (if st = .sealInvalid then s.sealInvalid n else s, .done st []))

/-- ENTROPY_HEALTH_FAIL (R444). -/
def execEntropyHealthFail (s : State) : Result := .next (if s.keeperRuns then s.cryptoError 0 else s)

/-- KEEPER_SELF_TEST_DONE (R444, R476): CRYPTO_ERROR ends where the tests of a start pass. -/
def execKeeperSelfTestDone (tests : KeeperTests) (s : State) : Result :=
  .next <|
    if s.boot.released && !s.boot.tested then
      let s := (s.setBoot { s.boot with tested := true }).setFlag Reg.SELF_TEST_KEEPER_OK (tests == .passed)
      (match tests with
       | .passed => (s.setFlag Reg.SEC_STATE_CRYPTO_ERROR false).syncApproved
       | .entropy => s.cryptoError 0
       | .answers => s.cryptoError 1).tryCore
    else s

/-- ZEROISE (R445). [Log entry 162: DESIGN CHOICE] -/
def execZeroise (h : CmdHdr) (confirm : Word) (s : State) : Result :=
  .next <| s.runOpcode h 0x0603 (leBytes 4 confirm.toNat) true (fun k s =>
    if confirm.toNat ≠ 0x5A45524F then (s, .done .badParam [])
    else if h.path.val = 66 && !bitOf (s.get Reg.SEC_STATE_POLICY) 1 then (s, .done .notPermitted [])
    else (s.setSec { s.sec with zeroising := some (s.sec.zeroising.getD k) }, .waits 0))

/-- Fields marked "after zeroisation" to their reset values, and the allotments of the flows with them (R445); "Kept" ones stay. [Log entry 163: DESIGN CHOICE] -/
def State.zeroiseFields (s : State) : State :=
  forAll s.regs s (fun s e =>
    let m := if Reg.ISO_ALLOT 0 ≤ e.1 ∧ e.1 < Reg.ISO_ALLOT 8192 then 0xFFFFFFFF#32 else maskOf (fun f => f.kept == .kept) e.1
    s.setWord e.1 ((e.2 &&& ~~~m) ||| (resetWord e.1 &&& m)))

/-- The command of an entry was RUNNING when a zeroisation was accepted (R445). -/
def BookEntry.before (e z : BookEntry) : Bool :=
  e.state == .running && e.opcode != 0x0603 && e.path != z.path && decide (e.enteredAt ≤ z.enteredAt)

/-- The erasure may begin: commands RUNNING on other paths have completed (R445). [Log entry 162: DESIGN CHOICE] -/
def State.mayErase (s : State) : Bool :=
  match s.sec.zeroising with
  | none => false
  | some k =>
    match mget s.cmd.book k with
    | some z => !s.cmd.book.any (fun e => e.2.before z)
    | none => true

/-- What a zeroisation erases (R445): keys, counters, policy, link pairs, Registry, books, sets, boxes and the fields so marked. [Log entry 163: DESIGN CHOICE] -/
def State.eraseAll (s : State) : State :=
  let s := forAll ((List.range 64).filter (fun n => n == 2 || decide (4 ≤ n))) s (fun s n => s.eraseSlot n 0)
  let s := s.zeroiseFields
  let s := forAll allPorts s (fun s p => s.clearPairs p)
  { s with
    reg := RegSt.init
    tun := TunSt.init
    cmd := { s.cmd with book := [], expected := [], sets := [] }
    pd := PdSt.init
    mem := { s.mem with boxes := [], paths := [], flows := [] }
    sec := { s.sec with slots := [], due := [], oldKeys := [], invalid := [] } }

/-- ZEROISATION_COMPLETE (R444, R445): slot 1 generated again, the receipt, and a HUB reset. [Log entry 162: DESIGN CHOICE] -/
def execZeroisationComplete (pairConsistent : Bool) (s : State) : Result :=
  .next <|
    if s.mayErase && s.keeperRuns then
      let s := s.bump Reg.ZEROISE_COUNT
      let s := s.finishWaiters 0x0603 0 .ok (leBytes 4 (s.get Reg.ZEROISE_COUNT_COUNT))
      let s := s.autoThaw 2
      let s := s.eraseAll
      let s := s.setSec { s.sec with generation := s.sec.generation + 1, zeroising := none }
      let s := if pairConsistent then s.setAttr 1 1 1 0x20 else (s.cryptoError 2).setAttr 1 0 0 0
      let s := s.hubReset 4
      s.setSec { s.sec with zeroised := true }
    else s

end Machine
end Sys2Proof
end

