-- ==== Sys2Proof/Machine/Memory.lean ====
section
/-!
DEFINITION. Memory integrity (R453 to R461): corrections and the revisit lists, the scrubber, retired cells and spares, and the
outcome of an uncorrectable error for each memory and region.
-/
namespace Sys2Proof
namespace Machine

def State.setMem (s : State) (x : MemSt) : State := { s with mem := x }

/-- A memory is in use: those of the switch die while CORE is powered, MRAM while the keeper runs (R453). -/
def State.memOn (s : State) (m : Nat) : Bool := if m = 7 then s.keeperRuns else s.powered .core

/-- Words of a memory (R453): of 64, 64, 32, 32, 64, 64, 64 and 128 bits; ENGINE and POSTMASTER are read 8 bytes at an access. [Log entry 165: DESIGN CHOICE] -/
def memWords (m : Nat) : Nat := [4194304, 262144, 32768, 65536, 1048576, 524288, 262144, 262144].getD m 1

/-- REVISIT of a memory (R455, R469). -/
def State.syncRevisit (s : State) (m : Nat) : State := s.set (Reg.MEM_STATE_REVISIT m) (s.mem.revisit.filter (fun e => e.1 == m)).length

/-- A correction counted (R455), and for the recorder (R464). -/
def State.countCorrected (s : State) (m : Nat) : State :=
  let s := s.bump (Cnt.MEMORY_CORRECTED m)
  if m = 7 then s.setMem { s.mem with fixedMram := s.mem.fixedMram + 1 } else s.setMem { s.mem with fixedCore := s.mem.fixedCore + 1 }

/-- CORRECTABLE_ERROR (R455): counted, and the word joins the revisit list; memory 2 is not scrubbed and has none. -/
def execCorrectableError (m : MemNo) (address : Fin (2 ^ 27)) (s : State) : Result :=
  .next <|
    let n := m.val
    if !s.memOn n then s
    else
      let s := s.countCorrected n
      if n = 2 ∨ s.mem.revisit.contains (n, address.val) then s
      else if 16 ≤ (s.mem.revisit.filter (fun e => e.1 == n)).length then s.bump (Cnt.MEMORY_REVISIT_OVERFLOW n)
      else (s.setMem { s.mem with revisit := s.mem.revisit ++ [(n, address.val)] }).syncRevisit n

/-- MEMORY_ERROR (R460, R472), at most 16 in a round. -/
def State.memoryError (s : State) (m address kind region : Nat) (more : List Nat) : State :=
  if 16 ≤ s.mem.told then s
  else (s.setMem { s.mem with told := s.mem.told + 1 }).notice 0x80E0 ([m, address, kind, region] ++ more)

/-- CELL_RETIRE (R459): the pool shrinks by one cell; at 1,024 retired cells MEMORY_FAULT, and no more are retired. -/
def State.retireCell (s : State) : State :=
  let n := s.get Reg.RETIRED_CELLS
  if 1024 ≤ n then s
  else
    let s := (s.set Reg.RETIRED_CELLS (n + 1)).setPoolFree (s.poolFree - 1)
    s.when (n + 1 == 1024) (fun s => s.notice 0x80E1 [0, 1024])

/-- A sticky MRAM word moved to a spare (R458, R459). -/
def State.useSpare (s : State) : State :=
  let n := s.get Reg.MRAM_SPARES_USED
  if 256 ≤ n then s
  else (s.set Reg.MRAM_SPARES_USED (n + 1)).when (n + 1 == 256) (fun s => s.notice 0x80E1 [7, 256])

/-- A word found sticky (R458). -/
def State.sticky (s : State) (m address : Nat) : State :=
  let s := (s.bump (Cnt.MEMORY_STICKY m)).setMem { s.mem with written := s.mem.written.erase (m, address) }
  if m = 0 then s.retireCell else if m = 7 then s.useSpare else s.memoryError m address 0 0 []

/-- The pass goes on after a visit that was no revisit (R456, R466). -/
def State.passOn (s : State) (m address : Nat) : State :=
  let next := (address + 1) % memWords m
  let s := s.setMem { s.mem with position := mput s.mem.position m next }
  if next = 0 then
    s.setMem { s.mem with
      passes := mput s.mem.passes m ((mget s.mem.passes m).getD 0 + 1), passSince := mput s.mem.passSince m s.boot.ticks
      late := s.mem.late.filter (· != m) }
  else s

/-- SCRUB_VISIT (R456 to R458, R467): `overtaken` says that a functional write came between the read and the write-back. [Log entry 164: DESIGN CHOICE] -/
def execScrubVisit (m : MemNo) (address : Fin (2 ^ 27)) (corrected overtaken : Bool) (s : State) : Result :=
  .next <|
    let n := m.val
    let a := address.val
    if n = 2 || !s.memOn n then s
    else
      let s := if s.mem.revisit.contains (n, a) then (s.setMem { s.mem with revisit := s.mem.revisit.erase (n, a) }).syncRevisit n
        else s.passOn n a
      if !corrected then s.setMem { s.mem with written := s.mem.written.erase (n, a) }
      else
        let s := (s.countCorrected n).when (!overtaken) (fun s => s.bump (Cnt.MEMORY_SCRUB_WRITES n))
        if s.mem.written.contains (n, a) then s.sticky n a
        else if overtaken then s
        else s.setMem { s.mem with written := (n, a) :: s.mem.written }

/-- A pass has run for longer than its PERIOD of seconds, and is not counted yet (R457). -/
def State.passLate (s : State) (m : Nat) : Bool :=
  decide ((mget s.mem.passSince m).getD 0 + 8000 * s.get (Reg.SCRUB_CFG_PERIOD m) ≤ s.boot.ticks) && !s.mem.late.contains m

/-- SCRUB_LATE (R457). -/
def execScrubLate (m : MemNo) (s : State) : Result :=
  .next <|
    if m.val ≠ 2 && s.memOn m.val && s.passLate m.val then
      (s.bump (Cnt.MEMORY_SCRUB_LATE m.val)).setMem { s.mem with late := m.val :: s.mem.late }
    else s

/-- SCRUB_STATUS (R466). -/
def execScrubStatus (h : CmdHdr) (s : State) : Result :=
  .next <| s.runOpcode h 0x0710 [] true (fun _ s =>
    (s, .done .ok ((List.range 8).flatMap (fun m =>
      leBytes 4 (s.word (Reg.SCRUB_CFG m)).toNat ++ leBytes 4 (s.word (Reg.MEM_STATE m)).toNat ++
      leBytes 4 ((mget s.mem.position m).getD 0) ++ leBytes 4 ((mget s.mem.passes m).getD 0)) ++
      leBytes 4 (s.word Reg.RETIRED).toNat ++ leBytes 4 (s.word Reg.MRAM_SPARES).toNat)))

/-- A unit lost in the buffer (R460): discarded and counted in its flow's DROPPED; a station frame under transfer ends with its protocol's
error mark. [Log entry 167: DESIGN CHOICE] -/
def State.loseUnit (s : State) (n : Nat) : State :=
  match s.unit n with
  | none => s
  | some x => ((s.when (decide (2 < x.egress) && decide (0 < x.read)) (fun s => s.emit (.brokenFrame x.egress ((s.subOf x.u.dstBox.val).map (·.1) |>.getD x.u.dstBox.val)))).dropFromFlow x.owner).freeUnit n

/-- The units that stand behind a broken link (R460): its VOQ, and where it leaves by a trunk its owner list, from that unit on. -/
def State.behindLink (s : State) (n : Nat) : List Nat :=
  match s.unit n with
  | none => []
  | some x => (mkeys s.sw.units (fun y => y.egress == x.egress &&
      ((y.u.ingress == x.u.ingress && y.tc == x.tc) || (decide (x.egress ≤ 2) && y.owner == x.owner)))).filter (fun k => decide (n ≤ k))

/-- A sheet's run unallotted for the rest of the round, its ISO envelopes dropped (R460). -/
def State.loseRun (s : State) (p : PortId) (k : Nat) : State :=
  match (s.dir p).sheet.runs[k]? with
  | none => s
  | some r =>
    let s := s.updDir p (fun d => { d with sheet := { d.sheet with runs := d.sheet.runs.eraseIdx k } })
    if r.cls = .iso then forAll (mkeys s.sw.units (fun u => u.egress == p.code && u.owner == r.owner)) s (fun s n => s.loseUnit n) else s

/-- A Registry entry lost (R256): a dead letter without payload where the header is readable, else counted; a HELD sequence is
filled by a void letter. -/
def State.loseEntry (s : State) (k : Nat) (readable : Bool) : State :=
  match mget s.reg.entries k with
  | none => s
  | some e =>
    let s := s.when (!e.dead && !e.writing) (fun s => s.fillSeq e)
    if readable then
      let s := s.updEntryReg k (fun e => { e with payload := [] })
      if e.dead then s else s.makeDead k Status.hwFault.code 1 none
    else ((s.bump Cnt.REGISTRY_VOID_LETTERS).notice 0x8070 [k]).freeEntry k

/-- A receipt-book record lost (R233, R460). -/
def State.loseRecord (s : State) (b : Nat) : State :=
  let s := s.setReg { s.reg with book := mdel s.reg.book b }
  if (s.box b).state = .opened then s.boxDrains b else s

/-- A kept field's register after both copies were lost: its kept bits as after zeroisation (R461). [Log entry 168: DESIGN CHOICE] -/
def State.loseKept (s : State) (a : Nat) : State :=
  s.setWord a ((s.word a &&& ~~~ (keptBits a)) ||| (resetWord a &&& keptBits a))

/-- The number of a region in MEMORY_ERROR: its place in the table of R460, then that of R461; a kept field names its block. [Log entry 164: DESIGN CHOICE] -/
def ErrRegion_code : ErrRegion → Nat
  | .bufferUnit _ => 1 | .descriptorUnit _ => 2 | .descriptorLink _ => 3 | .sheetRun _ _ => 4 | .sliceEntry _ _ => 5 | .flow _ => 6
  | .engine _ => 7 | .postmaster => 8 | .image => 9 | .registryEntry _ _ => 10 | .bookRecord _ => 11 | .commandEntry _ => 12
  | .stagingSet _ => 13 | .keySlot _ => 14 | .histogram _ => 15 | .extreme _ => 16 | .dualOne _ => 17 | .dualSeal _ => 18
  | .dualBox _ => 19 | .dualExpected _ => 20 | .dualHubAddr => 21 | .dualRound => 22 | .dualEnergy _ => 23
  | .dualKept a => 0x100 + a.toNat / 65536

/-- The memory a region lies in (R460, R461). -/
def ErrRegion_mem : ErrRegion → Nat
  | .bufferUnit _ => 0 | .descriptorUnit _ | .descriptorLink _ => 1 | .sheetRun _ _ | .sliceEntry _ _ => 2 | .flow _ => 3
  | .engine _ => 4 | .postmaster => 5 | .image => 6 | _ => 7

/-- Both copies of a dual record are lost. -/
def bothLost : ErrRegion → Bool
  | .dualSeal _ | .dualBox _ | .dualExpected _ | .dualHubAddr | .dualRound | .dualEnergy _ | .dualKept _ => true
  | _ => false

/-- What an uncorrectable error does (R460, R461), once it is counted and told. [Log entry 166: DESIGN CHOICE] -/
def State.regionLost (s : State) (r : ErrRegion) : State :=
  match r with
  | .bufferUnit n => s.loseUnit n
  | .descriptorUnit n => s.loseUnit n
  | .descriptorLink n => forAll (s.behindLink n) s (fun s k => s.loseUnit k)
  | .sheetRun p k => s.loseRun p k
  | .sliceEntry e k => s.updEngine e.val (fun x => { x with table := x.table.set (411 * k.val % 500) sliceLost })
  | .flow i =>
    match mget s.tun.flows i.val with
    | some f => { s with
        tun := { s.tun with flows := mdel s.tun.flows i.val }
        mem := { s.mem with flows := mput s.mem.flows i.val { f with demand := 0, dropped := 0 } } }
    | none => s
  | .engine e => s.engineFaults e.val
  | .postmaster => s.when s.postmasterRuns (fun s => s.postmasterFault 1)
  | .image => (s.faultSeen 4 []).setBoot { s.boot with reloading := true }
  | .registryEntry i readable => s.loseEntry i.val readable
  | .bookRecord b => s.loseRecord b.val
  | .commandEntry i => (s.setBook (mdel s.cmd.book i.val)).syncBook
  | .stagingSet n => s.failSet n.val 8 0
  | .keySlot n => (((s.eraseSlot n.val 0).keyEvent n.val .hwFault).testFailed 4 n.val).enforceKeys.syncApproved
  | .histogram h => s.loseRecorded (fun d => d.clearHist h.val s.recorder.seconds)
  | .extreme k => s.loseRecorded (fun d => d.clearExtreme k.val)
  | .dualOne _ => s.bump Cnt.MEMORY_DUAL_RESTORED
  | .dualSeal c => s.set (Reg.SEAL_COUNTER_VALUE c.val) 0xFFFFFFFF
  | .dualBox b =>
    let s := if (s.box b.val).state = .free then s else s.boxFrees b.val
    let s := { s with
      tun := { s.tun with boxes := mdel s.tun.boxes b.val }
      mem := { s.mem with boxes := if s.mem.boxes.contains b.val then s.mem.boxes else b.val :: s.mem.boxes } }
    s.syncResources
  | .dualExpected p => s.setMem { s.mem with paths := if s.mem.paths.contains p.val then s.mem.paths else p.val :: s.mem.paths }
  | .dualHubAddr => s.setWord Reg.HUB_ADDR 0
  | .dualRound => s.setMem { s.mem with roundLost := true }
  | .dualEnergy x =>
    (s.updPath x.code (fun p => { p with energy := 0, stored := 0 })).set (Reg.MEASURE_ENERGY_LO x.code) 0
  | .dualKept a => s.loseKept a.toNat

/-- What MEMORY_ERROR adds for a command-book entry: PATH and HOST_SEQ (R460). -/
def State.regionMore (s : State) : ErrRegion → List Nat
  | .commandEntry i => ((mget s.cmd.book i.val).map (fun e => [e.path, e.hostSeq])).getD []
  | _ => []

/-- A buffer cell's second uncorrectable error within 8,000 rounds retires it (R459). A cell holds 32 words. [Log entry 165: DESIGN CHOICE] -/
def State.cellFails (s : State) (address : Nat) : State :=
  let c := address / 32
  let again := match mget s.mem.cells c with
    | some t => decide (s.boot.ticks < t + 8000)
    | none => false
  if again then (s.setMem { s.mem with cells := mdel s.mem.cells c }).retireCell
  else s.setMem { s.mem with cells := mput s.mem.cells c s.boot.ticks }

/-- UNCORRECTABLE_ERROR (R454, R460, R461). -/
def execUncorrectableError (m : MemNo) (address : Fin (2 ^ 27)) (r : ErrRegion) (s : State) : Result :=
  .next <|
    let n := m.val
    if !s.memOn n || ErrRegion_mem r ≠ n then s
    else
      let s := (s.bump (Cnt.MEMORY_UNCORRECTABLE n)).set (Reg.MEM_STATE_LAST_ADDR n) address.val
      let s := s.memoryError n address.val (if bothLost r then 2 else 1) (ErrRegion_code r) (s.regionMore r)
      let s := s.regionLost r
      s.when (n == 0) (fun s => s.cellFails address.val)

/-- FLOW_RELOAD at a boundary (R460), and a new round's MEMORY_ERRORs. -/
def State.memoryAtBoundary (s : State) : State :=
  { s with
    tun := { s.tun with flows := s.mem.flows.foldl (fun m e => mput m e.1 e.2) s.tun.flows }
    mem := { s.mem with flows := [], told := 0 } }

/-- IMAGE_RELOAD_DONE (R483): a failed reload makes a HUB reset. -/
def execImageReloadDone (passed : Bool) (s : State) : Result :=
  .next <|
    if s.boot.reloading && s.powered .core then
      let s := s.setBoot { s.boot with reloading := false }
      if passed then s else s.bigFault 1 20
    else s

end Machine
end Sys2Proof
end

