-- ==== Sys2Proof/Machine/Boot.lean ====
section
/-!
DEFINITION. POWER_ON and the start-up sequence (R473 to R476), the boot image (R477 to R481), RESET_N (R488), RESET_HUB (R475) and the
loss of KEEP (R236, R488).
-/
namespace Sys2Proof
namespace Machine

/-- Everything but what MRAM holds is gone (R473, R474): domains, blocks, paths, PD contracts, registers not kept. -/
def State.loseVolatile (s : State) : State :=
  let s := (s.debugEnds false).dropCore.resetFields (fun _ => false)
  let keepPath := fun (p : PathSt) => ({ PathSt.init with energy := p.stored, stored := p.stored } : PathSt)
  let s := { s with
    power := { PowerSt.init with pathA := keepPath s.power.pathA, pathB := keepPath s.power.pathB }
    pd := { PdSt.init with ports := s.pd.ports.map (fun (e : Nat × PdPort) => (e.1, { PdPort.init with pdos := e.2.pdos })) }
    ps := PsSt.init
    recorder := { s.recorder with waiting := none }
    sec := { s.sec with invalid := [], lockUntil := 0 } }
  let s := forAll [0, 1] s (fun s x => s.set (Reg.MEASURE_ENERGY_LO x) (energyMj (s.path x).energy % 2 ^ 32))
  s.setFlag Reg.PIN_LEVELS_RESET_N (!s.boot.held)

/-- The keeper's own memory of the hub's life after the loss of KEEP: what MRAM holds of it stays. [Log entry 174: DESIGN CHOICE] -/
def State.bootAfterLoss (s : State) : BootSt :=
  { BootSt.init with ticks := s.boot.ticks, held := s.boot.held, vid := s.boot.vid, image := s.boot.image, fallback := s.boot.fallback }

/-- POWER_ON (R473, R474, R476). [Log entry 2: DESIGN CHOICE] -/
def execPowerOn (s : State) : Result :=
  .next <|
    if s.boot.keep then s
    else (s.loseVolatile.setCause 3 1).setBoot { s.loseVolatile.bootAfterLoss with keep := true }

/-- Entry writes under way as KEEP goes are complete or not done (R236, R488): a free value for each. [Log entry 9: DESIGN CHOICE] -/
def State.cutWrites (s : State) : State :=
  forAll (mkeys s.reg.entries (fun e => e.writing)) s (fun s k =>
    let d := s.draw
    if Config.writeDone d.1 then d.2.updEntryReg k (fun e => { e with writing := false }) else d.2.freeEntry k)

/-- KEEP_LOSS (R236, R443, R445, R488). -/
def execKeepLoss (s : State) : Result :=
  .next <|
    if !s.boot.keep then s
    else
      let s := s.cutWrites.loseVolatile
      let s := forAll [0, 1] s (fun s x => s.emit (.gate x false))
      let s := forAll [0, 1, 2, 3] s (fun s n => s.emit (.vbus n false 0))
      (s.setSec { s.sec with zeroising := s.sec.zeroising.map (fun _ => 512) }).setBoot s.bootAfterLoss

/-- A dual record checked as the keeper starts (R461, R476). [Log entry 168: DESIGN CHOICE] -/
def State.checkDual (s : State) (r : ErrRegion) : State :=
  match r with
  | .dualOne _ => s.regionLost r
  | _ => if bothLost r then (s.memoryError 7 0 2 (ErrRegion_code r) []).regionLost r else s

/-- KEEPER_RELEASE (R390, R400, R461, R462, R476). -/
def execKeeperRelease (lost : List ErrRegion) (s : State) : Result :=
  .next <|
    if !s.boot.keep || s.boot.released || s.boot.held then s
    else
      let s := s.setBoot { s.boot with released := true }
      let s := forAll lost s (fun s r => s.checkDual r)
      let s := s.setFlag (Reg.PD_PORT_DEAD_BATTERY 4) false
      let s := forAll [0, 1, 2, 3] s (fun s n => s.set (Reg.PD_PORT_TYPEC n) (s.restTypec n))
      s.when (s.get Reg.RESET_CAUSE_KIND == 3) (fun s =>
        s.setWord Reg.POWER_CYCLES (s.word Reg.POWER_CYCLES + 1))

/-- The header fields are as R477 gives them. -/
def imageHeaderOk (x : ImageFacts) : Bool :=
  let b := x.header
  b.length == 256 && leAt b 0 4 == 0x57464B48 && leAt b 4 2 == 1 && leAt b 6 2 == 0 && leAt b 8 2 == 0x7400 && leAt b 10 2 == 0xB0 &&
  decide (1 ≤ leAt b 16 4) && decide (leAt b 16 4 ≤ 2097152) && leAt b 22 2 == 0 && (b.drop 72).take 88 == List.replicate 88 0

/-- FW_VERSION, LENGTH and SVC_VID of an image (R477). -/
def imageVersion (x : ImageFacts) : Nat := leAt x.header 12 4
def imageLength (x : ImageFacts) : Nat := leAt x.header 16 4
def imageSvcVid (x : ImageFacts) : Nat := leAt x.header 20 2

/-- The first check of R478 that an image read at boot fails, in the order listed: 1 answer, 2 header, 3 signature under VENDOR_ROOT, 4
digest; 0 where it passes. The test root is never accepted there (R443). -/
def bootCheck (x : ImageFacts) : Nat :=
  if !x.answers then 1 else if !imageHeaderOk x then 2 else if x.signer != .vendor then 3 else if !x.digestOk then 4 else 0

/-- A slot passed (R478): its image runs, and service is restored (R482). [Log entries 173: DESIGN CHOICE, 177: DESIGN CHOICE] -/
def State.imageStarts (s : State) (slot : Nat) (image : ImageFacts) : State :=
  let d := s.draw
  let s := (d.2.set Reg.BOOT_STATE_RUNNING_SLOT slot).set Reg.FW_VERSION_VERSION (imageVersion image)
  let s := s.setBoot { s.boot with
    vid := imageSvcVid image, version := imageVersion image, image := d.1, testImage := false, testNext := false,
    trialSince := s.boot.ticks }
  s.syncApproved.postmasterStarts true

/-- A slot failed a check (R478): the other slot is tried, or recovery entered (R479), whose paths accept packets (R349). [Log entries 176: DESIGN CHOICE, 177: DESIGN CHOICE] -/
def State.slotFails (s : State) (slot check : Nat) : State :=
  let s := (s.bump Cnt.HUB_BOOT_FAILS).setFlag Reg.BOOT_STATE_FALLBACK true
  let s := s.setBoot { s.boot with
    failed := s.boot.failed ++ [slot], fallback := some ((s.boot.fallback).getD (slot, check)) }
  if s.boot.failed.contains (1 - slot) then (s.set Reg.BOOT_STATE_STAGE 5).restartBook
  else s.setBoot { s.boot with slot := 1 - slot }

/-- The slot is being read now (R476). -/
def State.reading (s : State) (slot : Nat) : Bool := s.get Reg.BOOT_STATE_STAGE == 2 && s.powered .core && s.boot.slot == slot

/-- IMAGE_VERIFIED (R478, R479, R482): the test root is never accepted at boot (R443). -/
def execImageVerified (slot : Fin 2) (image : ImageFacts) (s : State) : Result :=
  .next <|
    if !s.reading slot.val then s
    else if bootCheck image ≠ 0 then s.slotFails slot.val (bootCheck image)
    else s.imageStarts slot.val image

/-- BOOT_FLASH_TIMEOUT (R478). -/
def execBootFlashTimeout (slot : Fin 2) (s : State) : Result := .next (if s.reading slot.val then s.slotFails slot.val 1 else s)

/-- TRIAL_END (R481). -/
def execTrialEnd (s : State) : Result :=
  .next <|
    if s.flag Reg.BOOT_STATE_TRIAL && s.postmasterRuns && decide (s.boot.trialSince + 80000 ≤ s.boot.ticks) then
      s.setFlag Reg.BOOT_STATE_TRIAL false
    else s

/-- RESET_N_ASSERT (R473, R487, R488): the hub is held in a HUB reset. [Log entry 172: DESIGN CHOICE] -/
def execResetNAssert (s : State) : Result :=
  .next <|
    let s := s.setFlag Reg.PIN_LEVELS_RESET_N false
    if s.boot.held then s
    else
      let s := s.setBoot { s.boot with held := true, due := none }
      if s.boot.keep then (s.debugEnds false).dropCore.set Reg.PS_STATE_STATE 0 else s

/-- RESET_N_RELEASE (R473, R488): the HUB reset goes on to start-up. [Log entry 172: DESIGN CHOICE] -/
def execResetNRelease (s : State) : Result :=
  .next <|
    let s := s.setFlag Reg.PIN_LEVELS_RESET_N true
    if !s.boot.held then s
    else
      let s := s.setBoot { s.boot with held := false }
      if s.boot.keep then s.hubReset 2 else s

/-- An entry that is DONE, and whose receipt waits until its path accepts packets after the reset (R475). -/
def State.doneAfterReset (s : State) (k : Nat) (data : List Byte) : State :=
  s.updEntry k (fun e => { e with state := .done, status := .ok, data := data, doneAt := s.now, body := false })

/-- RESET_HUB (R475). -/
def execResetHub (h : CmdHdr) (kind : Byte) (s : State) : Result :=
  .next <| s.runOpcode h 0x0030 [kind, 0, 0, 0] true (fun k s =>
    let n := kind.toNat
    if 2 < n then (s, .done .badParam [])
    else if s.sec.zeroising.isSome || (n == 2 && s.servicePowered) then (s, .done .notPermitted [])
    else ((s.doneAfterReset k []).setBoot { s.boot with due := some ⟨n, 3⟩ }, .waits 0))

/-- The reset that is due begins at the boundary (R475, R481); a RESET_HUB ends the disabling of engines (R221). -/
def State.resetAtBoundary (s : State) : State :=
  match s.boot.due with
  | none => s
  | some d =>
    let s := s.setBoot { s.boot with due := none }
    if d.kind = 0 then (s.postmasterReset d.cause).when (d.cause == 3) (fun s => s.set Reg.ENG_RUN_DISABLED 0) else if d.kind = 1 then s.hubReset d.cause else s.coreCycle d.cause

/-- FW_STAGE_IMAGE (R480). [Log entry 175: DESIGN CHOICE] -/
def execFwStageImage (h : CmdHdr) (offset : Word) (data : List Byte) (verified : Bool) (s : State) : Result :=
  .next <| s.runOpcode h 0x0F00 (leBytes 4 offset.toNat ++ data) (data.length + 4 == h.paramLen) (fun _ s =>
    let o := offset.toNat
    let n := s.get Reg.FW_STAGED_RECEIVED
    if o ≠ 0 ∧ o ≠ n then (s, .done .badParam [])
    else if 2097408 < o + data.length then (s, .done .noResource [])
    else if !verified then (if o = 0 then s.set Reg.FW_STAGED_RECEIVED 0 else s, .done .hwFault [])
    else (s.set Reg.FW_STAGED_RECEIVED (o + data.length), .done .ok (leBytes 4 (o + data.length))))

/-- FW_ACTIVATE (R481). [Log entry 175: DESIGN CHOICE] -/
def execFwActivate (h : CmdHdr) (slot : Byte) (image : ImageFacts) (s : State) : Result :=
  .next <| s.runOpcode h 0x0F01 [slot, 0, 0, 0] true (fun k s =>
    let n := s.get Reg.FW_STAGED_RECEIVED
    let version := leBytes 4 (imageVersion image)
    if 1 < slot.toNat then (s, .done .badParam [])
    else if slot.toNat ≠ 1 - s.get Reg.BOOT_STATE_RUNNING_SLOT || n == 0 || s.flag Reg.BOOT_STATE_TRIAL then (s, .done .notPermitted [])
    else if !image.answers then (s, .done .hwFault [])
    else if !imageHeaderOk image || n != 256 + imageLength image || !image.digestOk then (s, .done .checkFailed [])
    else if image.signer = .none then (s, .done .sealInvalid [])
    else if image.signer = .testRoot then
      if s.flag Reg.SEC_STATE_DEBUG then
        let d := s.draw
        ((d.2.doneAfterReset k version).setBoot { d.2.boot with
          testNext := true, testVersion := imageVersion image, testNo := d.1, due := some ⟨0, 5⟩ }, .waits 0)
      else (s, .done .sealInvalid [])
    else
      let s := ((s.set Reg.BOOT_STATE_ACTIVE_SLOT slot.toNat).setFlag Reg.BOOT_STATE_TRIAL true).set Reg.FW_STAGED_RECEIVED 0
      ((s.doneAfterReset k version).setBoot { s.boot with due := some ⟨1, 5⟩ }, .waits 0))

end Machine
end Sys2Proof
end

