-- ==== Sys2Proof/Machine/Lanes.lean ====
section
/-!
DEFINITION. The meanings of the lane layer's commands (R83 to R114): lock, marks, lane messages, the port states' limits,
degrade and restore, the module, and TRUNK_RETRAIN and TRUNK_STATUS.
-/
namespace Sys2Proof
namespace Machine

/-- PORT_ENABLE (R95): EN takes force at once. EN = 1 needs a key or commissioning mode (R434, R437, R439). -/
def State.portEnable (s : State) (p : PortId) (en : Bool) : State :=
  if en then
    if s.mayEnable p then
      let s := s.setFlag (Reg.TRK_PORT_CFG_EN p.code) true
      if s.powered (PortId.domain p) && s.portState p == 0 then s.enterHunt p else s
    else s.emit (.writeStatus (Reg.TRK_PORT_CFG p.code) .notPermitted)
  else s.holdPort p

def execPortEnable (p : PortId) (en : Bool) (s : State) : Result := .next (s.portEnable p en)

/-- RX_LOCKED has changed: in ALIGN, before its 2 ms have passed, the lanes are chosen anew once it is stable again (R95). -/
def State.lockChanged (s : State) (p : PortId) : State :=
  if s.portState p = 2 ∧ !(s.port p).alignWaited then s.updPort p (fun x => { x with chosen := 0 }) else s

/-- BLOCK_LOCK (R91, R92): the lane has read a GROUP_MARK and is known by the transmitter's number. [Log entry 207: DEDUCED] -/
def execBlockLock (p : PortId) (lane : Fin 4) (s : State) : Result :=
  .next <|
    if s.portState p = 0 then s
    else
      let s := s.updPort p (fun x => { x with
        locked := setBit x.locked lane.val true, clean := mdel x.clean lane.val, marksMissed := mdel x.marksMissed lane.val,
        badHdrs := mdel x.badHdrs lane.val })
      (((s.lockChanged p).syncLanes p).sendTrain p).advancePort p

/-- A lane's lock lost: counted, its marks, NONCE and skew forgotten (R91, R110, R112). -/
def State.loseLock (s : State) (p : PortId) (lane : Nat) : State :=
  if bitOf (s.port p).locked lane then
    let s := s.updPort p (fun x => { x with
      locked := setBit x.locked lane false, clean := mdel x.clean lane, marks := mdel x.marks lane,
      marksMissed := mdel x.marksMissed lane, badHdrs := mdel x.badHdrs lane, nonces := mdel x.nonces lane })
    let s := (s.bump (Cnt.TRK_LOCK_LOSSES p.code lane)).set ⟨Reg.SKEW p.code, 8 * lane, 8⟩ 255
    ((s.lockChanged p).syncLanes p).sendTrain p
  else s

/-- BLOCK_LOCK_LOSS (R91). -/
def execBlockLockLoss (p : PortId) (lane : Fin 4) (s : State) : Result := .next (s.loseLock p lane.val)

/-- The stream's width follows a mark with MASK_NEW, which also ends a discard (R87, R103); a restore asked for is then
complete (R105). [Log entry 58: DEDUCED] -/
def State.newMask (s : State) (p : PortId) (mask : Nat) : State :=
  let x := s.port p
  let done := decide (x.restoreAsk ≠ 0 ∧ mask = x.restoreAsk)
  let s := if done then s.bump (Cnt.TRK_RESTORES p.code) else s
  let s := s.updPort p (fun x => { x with
    discarding := false, restoreAsk := if done then 0 else x.restoreAsk, chosen := mask, degraded := maskSub x.degraded mask })
  s.setMasks p (s.txMask p) mask

/-- The skew measured at a mark (R94, R112): a lane beyond 250 ns is counted and not chosen, one within it may be. 255 stands for no
measurement, so a longer skew shows as 254. [Log entries 59: DEDUCED, 208: DESIGN CHOICE] -/
def State.takeSkew (s : State) (p : PortId) (lane skew : Nat) : State :=
  let s := s.set ⟨Reg.SKEW p.code, 8 * lane, 8⟩ (min skew 254)
  let far := decide (250 < skew)
  let s := s.updPort p (fun x => { x with unused := setBit x.unused lane far })
  if far then
    let s := s.bump (Cnt.TRK_SKEW_EXCEEDED p.code lane)
    if s.portState p = 9 then s else s.updPort p (fun x => { x with chosen := widthOf (setBit x.chosen lane false) })
  else s

/-- A valid mark's effects: skew (R94), the group's corrections (R113), blocks discarded (R103), and the mask where it is new. [Log entries 61: DESIGN CHOICE, 203: DESIGN CHOICE] -/
def State.takeMark (s : State) (p : PortId) (lane mask : Nat) (maskNew : Bool) (skew : Nat) (g : GroupStats) : State :=
  let s := s.takeSkew p lane skew
  let s := (s.bump (Cnt.TRK_CORRECTED_SYMBOLS p.code lane) g.symbols).bump (Cnt.TRK_CORRECTED_CW p.code lane) g.codewords
  let s := s.updPort p (fun x => { x with badHdrs := mdel x.badHdrs lane })
  let s := if (s.port p).discarding then s.bump (Cnt.TRK_BLOCKS_DISCARDED p.code) g.blocks else s
  if maskNew && s.portState p == 9 then s.newMask p mask else s

/-- GROUP_MARK (R87, R110): a mark whose count is not one past the last, whose PORT is none or whose RATE is not the link's (R83) is
ignored, and two in a row lose the lock. [Log entry 61: DESIGN CHOICE] -/
def execGroupMark (p : PortId) (lane farPort : Fin 4) (txMask : BitVec 4) (rate maskNew : Bool) (groupCount : BitVec 32)
    (skew : Nat) (stats : GroupStats) (s : State) : Result :=
  .next <|
    let x := s.port p
    let n := lane.val
    let count := groupCount.toNat
    if !bitOf x.locked n then s
    else
      let follows := match mget x.marks n with
        | some c => count == (c + 1) % 2 ^ 32
        | none => true
      let s := s.updPort p (fun x => { x with marks := mput x.marks n count })
      if follows && farPort.val != 3 && rate == s.fullRate p then
        (s.updPort p (fun x => { x with marksMissed := mdel x.marksMissed n })).takeMark p n txMask.toNat maskNew skew stats
      else
        let missed := (mget x.marksMissed n).getD 0 + 1
        if 2 ≤ missed then s.loseLock p n
        else s.updPort p (fun x => { x with marksMissed := mput x.marksMissed n missed })

/-- CODEWORD_UNCORRECTABLE (R91, R93): `headers` sync headers of the codeword count as invalid; the sixteenth since the lane's last mark,
all of them within the last 64, loses the lock. [Log entry 209: DEDUCED] -/
def execCodewordUncorrectable (p : PortId) (lane : Fin 4) (headers : Nat) (s : State) : Result :=
  .next <|
    let n := lane.val
    let s := (s.bump (Cnt.TRK_UNCORRECTABLE_CW p.code n)).bump (Cnt.TRK_BAD_HEADERS p.code n) headers
    let bad := (mget (s.port p).badHdrs n).getD 0 + headers
    let s := s.updPort p (fun x => { x with
      badInSecond := x.badInSecond + 1, badWords := mput x.badWords n ((mget x.badWords n).getD 0 + 1), clean := mdel x.clean n, badHdrs := mput x.badHdrs n bad })
    if 16 ≤ bad then s.loseLock p n else s

/-- TRAIN (R88, R90, R92): one of an unlisted TYPE is discarded; a lane with another NONCE than the lowest locked lane's is counted once
it shows it, and not used. Below ACTIVE the TX_MASK follows the far RX_CHOSEN (R96). [Log entry 210: DESIGN CHOICE] -/
def execTrain (p : PortId) (lane : Fin 4) (m : TrainMsg) (s : State) : Result :=
  .next <|
    let x := s.port p
    if s.portState p = 0 then s
    else if m.type != 0x10 then s.bump (Cnt.TRK_CONTROL_DISCARDED p.code)
    else
    let s := s.updPort p (fun x => { x with nonces := mput x.nonces lane.val m.nonce.toNat })
    if bitOf (s.port p).mismatched lane.val then
      s.when (!bitOf x.mismatched lane.val) (fun s => s.bump (Cnt.TRK_LANE_MISMATCH p.code))
    else
      let s := s.updPort p (fun x => { x with
        farNonce := m.nonce.toNat, farLocked := m.rxLocked.toNat, farChosen := m.rxChosen.toNat, farReady := m.ready,
        farFullCap := m.fullCap, farStepGo := m.stepGo })
      let st := s.portState p
      let s := if 3 ≤ st ∧ st ≤ 8 then s.setMasks p m.rxChosen.toNat (s.rxMask p) else s.syncLanes p
      s.advancePort p

/-- Lower and upper limits of the five taps (R98). -/
def tapLimits : List (Int × Int) := [(0, 8), (-16, 0), (32, 64), (-16, 0), (-8, 8)]

/-- The sum of absolute values (R98). -/
def absSum (v : List Int) : Int := (v.map (fun x => if x < 0 then -x else x)).sum

/-- One tap's step: the new taps and the status reported, 0 held, 1 updated, 2 at the lower limit, 3 at the upper (R100). [Log entry 55: DESIGN CHOICE] -/
def stepTap (v : List Int) (i code : Nat) : List Int × Nat :=
  if code = 1 ∨ code = 2 then
    let d : Int := if code = 1 then 1 else -1
    let n := (v[i]?.getD 0) + d
    let w := v.set i n
    let lim := tapLimits[i]?.getD (0, 0)
    if lim.1 ≤ n ∧ n ≤ lim.2 ∧ absSum w ≤ 64 then (w, 1) else (v, if code = 1 then 3 else 2)
  else (v, 0)

/-- The five codes of a request applied in field order. [Log entry 55: DESIGN CHOICE] -/
def stepTaps (v : List Int) (codes : List Nat) : List Int × List Nat :=
  ((List.range 5).zip codes).foldl (fun r ic => let t := stepTap r.1 ic.1 ic.2; (t.1, r.2 ++ [t.2])) (v, [])

/-- A TAP_REQ the transmitter may act on (R88, R90, R100): of its TYPE, in a TUNE state, with listed codes. With a module the TUNE states run
without tap requests (R108), and one that comes is discarded and counted as in a state that takes none. [Log entry 211: DESIGN CHOICE] -/
def State.tapReqOk (s : State) (p : PortId) (t : TapReq) : Bool :=
  t.type == 0x11 && (s.portState p == 3 || s.portState p == 6) && s.get (Reg.TRK_PORT_CFG_MEDIUM p.code) == 1 && decide (t.preset.val ≤ 5) &&
  t.cm2.val != 3 && t.cm1.val != 3 && t.c0.val != 3 && t.cp1.val != 3 && t.cp2.val != 3

/-- The statuses of a TAP_ACK in one number, two bits a tap. -/
def packTaps (l : List Nat) : Nat := l.foldl (fun n x => n * 4 + x % 4) 0

/-- TAP_REQ (R100). The last request applied on a lane is kept with its answer, which goes in that lane's next group. A PRESET is answered
with 0b01 for all five taps. [Log entry 212: DESIGN CHOICE] -/
def execTapReq (p : PortId) (t : TapReq) (s : State) : Result :=
  .next <|
    let n := t.lane.val
    if !s.tapReqOk p t then s.bump (Cnt.TRK_CONTROL_DISCARDED p.code)
    else
      match (mget (s.port p).tapSeq n).filter (fun v => v % 256 == t.seq.toNat) with
      | some v => s.updPort p (fun x => x.queueMsg (2 ^ n) 0x12 [t.seq.toNat, n, v / 256] 1)
      | none =>
        let r := if t.preset.val ≠ 0 then (presetTaps t.preset.val, [1, 1, 1, 1, 1])
                 else stepTaps (s.taps p n) [t.cm2.val, t.cm1.val, t.c0.val, t.cp1.val, t.cp2.val]
        let s := s.setTaps p n r.1
        let a := packTaps r.2
        s.updPort p (fun x => ({ x with tapSeq := mput x.tapSeq n (t.seq.toNat + 256 * a) }).queueMsg (2 ^ n) 0x12 [t.seq.toNat, n, a] 1)

/-- TAP_ACK (R100): the request of that SEQ is answered, so the next may go. [Log entry 60: DESIGN CHOICE] -/
def execTapAck (p : PortId) (seq : Byte) (lane : Fin 4) (_t : TapStatus) (s : State) : Result :=
  .next <|
    if s.portState p = 3 ∨ s.portState p = 6 then
      s.updPort p (fun x => { x with tapAsk := mupd x.tapAsk lane.val (fun a => (a.1, a.2 || a.1 == seq.toNat)) })
    else s.bump (Cnt.TRK_CONTROL_DISCARDED p.code)

/-- A change of TX_MASK that waits for its boundary, after a degrade (R105, R111): a restore is cancelled; a plan applies to the lanes
left, without those the degrade took out of the mask. [Log entry 213: DEDUCED] -/
def MaskAt.afterDegrade (c : MaskAt) (old new : Nat) : Option MaskAt :=
  if c.restore then none else some { c with mask := widthOf (maskSub c.mask (maskSub old new)) }

/-- WIDTH_REQ (R102, R103, R105, R106): the first copy acts. A degrade takes the new mask at once and cancels a restore; a restore, within
the lanes of LANE_PLAN, is fixed for the boundary two rounds on. -/
def execWidthReq (p : PortId) (rxChosen : BitVec 4) (restore : Bool) (ns : Ns) (s : State) : Result :=
  .next <|
    if s.portState p ≠ 9 then s.bump (Cnt.TRK_CONTROL_DISCARDED p.code)
    else
      let s := s.at ns.val
      let m := rxChosen.toNat
      if restore then
        let m := widthOf (m.land (s.get (Reg.LANE_PLAN_POWERED p.code)))
        if (s.port p).change.isSome || popCount m 4 ≤ popCount (s.txMask p) 4 then s
        else s.updPort p (fun x => { x with change := some ⟨s.round + 2, m, true⟩ })
      else if s.txMask p = m then s
      else (s.updPort p (fun x => { x with change := x.change.bind (·.afterDegrade (s.txMask p) m) })).setMasks p m (s.rxMask p)

/-- LANE_POWER (R102): the change is kept for its boundary. [Log entry 62: DESIGN CHOICE] -/
def execLanePower (p : PortId) (mask : BitVec 4) (mode : Fin 4) (roundLo : BitVec 32) (s : State) : Result :=
  .next <|
    if s.portState p ≠ 9 ∨ mode.val = 0 then s.bump (Cnt.TRK_CONTROL_DISCARDED p.code)
    else
      let m : RxPower := ⟨roundLo.toNat, mask.toNat, mode.val⟩
      s.updPort p (fun x => { x with rxPower := if x.rxPower.contains m then x.rxPower else x.rxPower ++ [m] })

/-- HUNT_RESTART (R95). -/
def execHuntRestart (p : PortId) (s : State) : Result :=
  .next <|
    if s.portState p = 1 then
      ((s.updPort p (fun x => { x with locked := 0, unused := 0, nonces := [], badHdrs := [], marks := [], marksMissed := [] })).bump
        (Cnt.TRK_HUNT_RESTARTS p.code)).syncLanes p
    else s

/-- The lanes of R96 chosen in ALIGN. -/
def State.chooseAlign (s : State) (p : PortId) : State :=
  s.updPort p (fun x => { x with chosen := widthOf (s.usable p) })

/-- ALIGN_STABLE (R95). -/
def execAlignStable (p : PortId) (s : State) : Result :=
  .next <| if s.portState p = 2 && !(s.port p).alignWaited then (s.chooseAlign p).advancePort p else s

/-- ALIGN_TIMEOUT (R95): 2 ms after entry the lanes then locked are chosen and the far RX_CHOSEN is awaited; at the end of the 1 ms more the
port hunts again. -/
def execAlignTimeout (p : PortId) (s : State) : Result :=
  .next <|
    if s.portState p ≠ 2 then s
    else if (s.port p).alignWaited ∨ s.usable p = 0 then s.enterHunt p
    else ((s.updPort p (fun x => { x with alignWaited := true })).chooseAlign p).advancePort p

/-- READY set (R95). -/
def State.setReady (s : State) (p : PortId) : State :=
  ((s.updPort p (fun x => { x with ready := true })).sendTrain p).advancePort p

/-- TUNE_READY (R95). -/
def execTuneReady (p : PortId) (s : State) : Result :=
  .next <| if s.portState p = 3 ∨ s.portState p = 6 then s.setReady p else s

/-- TUNE_TIMEOUT (R95 to R97): lanes not ready leave RX_CHOSEN. -/
def execTuneTimeout (p : PortId) (readyLanes : BitVec 4) (s : State) : Result :=
  .next <|
    let left := widthOf (((s.port p).chosen.land (s.usable p)).land readyLanes.toNat)
    if s.portState p = 3 then
      if left = 0 then s.enterHunt p
      else ((s.updPort p (fun x => { x with chosen := left })).setMasks p (s.txMask p) left).setReady p
    else if s.portState p = 6 then
      if slotsOf (popCount (s.port p).halfChosen 4) false < slotsOf (popCount left 4) true then
        ((s.updPort p (fun x => { x with chosen := left })).setMasks p (s.txMask p) left).setReady p
      else s.enterRelockHalf p
    else s

/-- STEP_TIMEOUT (R95). -/
def execStepTimeout (p : PortId) (s : State) : Result :=
  .next <| if s.portState p = 4 then (s.updPort p (fun x => { x with stepGo := false })).enterCheck p else s

/-- RELOCK_FULL_TIMEOUT (R95). -/
def execRelockFullTimeout (p : PortId) (s : State) : Result :=
  .next <| if s.portState p = 5 then (s.bump (Cnt.TRK_STEP_FAILS p.code)).enterRelockHalf p else s

/-- RELOCK_HALF_TIMEOUT (R95). -/
def execRelockHalfTimeout (p : PortId) (s : State) : Result :=
  .next <| if s.portState p = 7 then s.enterHunt p else s

/-- CHECK_COMPLETE (R95). [Log entry 56: DESIGN CHOICE] -/
def execCheckComplete (p : PortId) (passed : Bool) (s : State) : Result :=
  .next <|
    if s.portState p ≠ 8 then s
    else if passed then s.enterActive p
    else
      let s := s.bump (Cnt.TRK_CHECK_FAILS p.code)
      if s.fullRate p then s.enterRelockHalf p else s.enterHunt p

/-- DIRECTION_LOST (R95). -/
def execDirectionLost (p : PortId) (s : State) : Result :=
  .next <| if s.portState p = 9 then s.enterHunt p else s

/-- LANE_DEGRADE (R103, R105): RX_CHOSEN under R96 without the lanes, an IDLE spare counting as usable; the stream discarded
until MASK_NEW; a restore asked for cancelled. A lane degrades that has lost its lock, shows 8 uncorrectable codewords in the round, or is
out of the skew that R94 allows. [Log entries 57: DEDUCED, 59: DEDUCED] -/
def execLaneDegrade (p : PortId) (lanes : BitVec 4) (ns : Ns) (s : State) : Result :=
  .next <|
    let x := s.port p
    let fails := laneMask (fun n => !bitOf x.locked n || decide (8 ≤ (mget x.badWords n).getD 0) || bitOf x.unused n)
    let bad := (lanes.toNat.land (s.rxMask p)).land fails
    if s.portState p ≠ 9 ∨ bad = 0 then s
    else
      let s := (s.at ns.val).bump (Cnt.TRK_DEGRADES p.code) (popCount bad 4)
      let s := s.updPort p (fun x => { x with
        degraded := x.degraded.lor bad, discarding := true, restoreAsk := 0,
        clean := x.clean.filter (fun e => !bitOf bad e.1) })
      let x := s.port p
      let spare := maskSub (laneMask (fun n => s.get (rxLane p n) == 3)) (x.degraded.lor x.unused)
      let new := widthOf (((s.rxMask p).land (s.usable p)).lor spare)
      s.updPort p (fun x => ({ x with chosen := new }).queueMsg (s.txMask p) 0x13 [new, 0] 3)

/-- LANE_RESTORE (R105): with STANDBY lanes that have held lock cleanly for 8,000 rounds, a wider RX_CHOSEN is asked for. Lanes that the
far plan keeps out of use rest IDLE or QUIET here (R102), so they are not STANDBY. -/
def execLaneRestore (p : PortId) (s : State) : Result :=
  .next <|
    let x := s.port p
    let good := laneMask (fun n => s.get (rxLane p n) == 2 && bitOf x.locked n && decide (8000 ≤ (mget x.clean n).getD 0))
    let out := (maskSub 15 (s.get (Reg.TRK_PORT_CFG_LANES_EN p.code))).lor (x.unused.lor x.mismatched)
    let new := widthOf (maskSub ((s.rxMask p).lor good) out)
    if s.portState p = 9 ∧ !x.discarding ∧ popCount (s.rxMask p) 4 < popCount new 4 then
      s.updPort p (fun x => ({ x with restoreAsk := new }).queueMsg (s.txMask p) 0x13 [new, 1] 3)
    else s

/-- MSTATE set, with MODULE_EVENT at a change (R114). -/
def State.setModule (s : State) (p : PortId) (st : Nat) : State :=
  if s.get (Reg.MODULE_STATUS_MSTATE p.code) = st then s
  else (s.set (Reg.MODULE_STATUS_MSTATE p.code) st).notice 0x8023 [p.code, s.get (Reg.MODULE_STATUS_PRESENT p.code), st]

/-- MODULE_PRES_CHANGE (R107, R108, R110). -/
def execModulePresChange (p : PortId) (present : Bool) (s : State) : Result :=
  .next <|
    if s.flag (Reg.MODULE_STATUS_PRESENT p.code) = present then s
    else
      let s := s.setFlag (Reg.MODULE_STATUS_PRESENT p.code) present
      let manage := present && s.get (Reg.TRK_PORT_CFG_MEDIUM p.code) == 0
      (s.manageModule p manage).notice 0x8023 [p.code, if present then 1 else 0, if manage then 1 else 0]

/-- MODULE_INT (R110): the hub services the module by polling it. -/
def execModuleInt (p : PortId) (s : State) : Result :=
  .next <| if s.managed p then s.emit (.module p 3) else s

/-- MOD_PWR_MAX in half watts: 1.5 W and 0.5 W a step (R112). -/
def State.modulePowerMax (s : State) (p : PortId) : Nat := 3 + s.get (Reg.TRK_PORT_CFG_MOD_PWR_MAX p.code)

/-- MODULE_REPLY (R108): the identification selects an application or finds none, readiness ends initialising, a poll refreshes
LOS, TX fault and the data kept. -/
def execModuleReply (p : PortId) (r : ModuleReply) (s : State) : Result :=
  .next <|
    if !s.managed p then s
    else
      let s := s.updPort p (fun x => { x with module := { x.module with fails := 0 } })
      match r with
      | .ident full half power =>
        if s.get (Reg.MODULE_STATUS_MSTATE p.code) ≠ 1 then s
        else if (!full && !half) || decide (s.modulePowerMax p < power) then s.setModule p 3
        else (s.updPort p (fun x => { x with module := { x.module with full := full, half := half, lowPower := false } })).emit (.module p 2)
      | .ready => if s.get (Reg.MODULE_STATUS_MSTATE p.code) = 1 then s.setModule p 2 else s
      | .polled los fault data =>
        let s := (s.set (Reg.MODULE_STATUS_LOS p.code) los.toNat).set (Reg.MODULE_STATUS_TX_FAULT p.code) fault.toNat
        s.updPort p (fun x => { x with module := { x.module with data := data } })

/-- MODULE_TRANSACTION_TIMEOUT (R108). -/
def execModuleTransactionTimeout (p : PortId) (s : State) : Result :=
  .next <|
    if !s.managed p then s
    else
    let s := s.bump (Cnt.TRK_MODULE_ERRORS p.code)
    let s := s.updPort p (fun x => { x with module := { x.module with fails := x.module.fails + 1 } })
    if 3 ≤ (s.port p).module.fails then s.setModule p 4 else s

/-- MODULE_READY_TIMEOUT (R108): the module is UNSUITABLE and goes back to low power. -/
def execModuleReadyTimeout (p : PortId) (s : State) : Result :=
  .next <|
    if s.managed p && s.get (Reg.MODULE_STATUS_MSTATE p.code) == 1 then
      let s := s.updPort p (fun x => { x with module := { x.module with lowPower := true, full := false, half := false } })
      ((s.bump (Cnt.TRK_MODULE_ERRORS p.code)).emit (.module p 4)).setModule p 3
    else s

/-- MODULE_POLL (R108). -/
def execModulePoll (p : PortId) (s : State) : Result :=
  .next <| if s.managed p && s.get (Reg.MODULE_STATUS_MSTATE p.code) == 2 then s.emit (.module p 3) else s

/-- TRUNK_RETRAIN (R114): the port goes through HUNT, and the command waits for ACTIVE or its 100 ms. A port held with EN = 0
or without power stays as it is. -/
def execTrunkRetrain (h : CmdHdr) (port forceHalf : Byte) (s : State) : Result :=
  .next <| s.runOpcode h 0x0120 [port, forceHalf, 0, 0] true (fun _ s =>
    match PortId.ofCode port.toNat with
    | some p =>
      if 1 < forceHalf.toNat then (s, .done .badParam [])
      else if s.flag (Reg.TRK_PORT_CFG_EN p.code) && s.powered (PortId.domain p) then
        ((s.updPort p (fun x => { x with forceHalf := forceHalf.toNat == 1 })).enterHunt p, .waits p.code)
      else (s, .waits p.code)
    | none => (s, .done .badParam []))

/-- TRUNK_RETRAIN_TIMEOUT (R110). -/
def execTrunkRetrainTimeout (p : PortId) (s : State) : Result :=
  .next (s.finishWaiters 0x0120 p.code .timeout (leBytes 4 (s.word (Reg.TRK_PORT_STATE p.code)).toNat))

/-- TRUNK_STATUS (R114, R364). -/
def execTrunkStatus (h : CmdHdr) (port : Byte) (s : State) : Result :=
  .next <| s.runOpcode h 0x0121 [port, 0, 0, 0] true (fun _ s =>
    match PortId.ofCode port.toNat with
    | some p =>
      let regs := (List.range 11).flatMap (fun i => leBytes 4 (s.word (Reg.TRK_PORT_CFG p.code + 4 * i)).toNat)
      let data := (s.port p).module.data.take 32
      (s, .done .ok (regs ++ data ++ List.replicate (32 - data.length) 0))
    | none => (s, .done .badParam []))

end Machine
end Sys2Proof
end

