-- ==== Sys2Proof/Machine/Regs.lean ====
section
/-!
DEFINITION. Reading and writing feature registers by access class (R8 to R13): the ranges the field maps give, what a read latches
or clears, what a write does, and the opcodes READ_FEATURE, WRITE_FEATURE and READ_BLOCK (R364).
-/
namespace Sys2Proof
namespace Machine

/-- The range of a field in an array of registers: first address, stride, number, lowest bit, lowest and highest value, and one
value beyond them that is in range too. -/
structure Bound where
  base : Nat
  stride : Nat
  count : Nat
  lsb : Nat
  lo : Nat
  hi : Nat
  also : Option Nat
deriving DecidableEq, Repr

/-- The ranges of the round, trunk, tunnel, switch and Registry fields (R80, R112, R142, R172, R205, R264). -/
def boundsA : List Bound :=
  [ ⟨Reg.PULSE_CFG, 4, 1, 0, 0, 2, none⟩
  , ⟨Reg.TRK_PORT_CFG 0, 0x10000, 3, 12, 0, 13, none⟩, ⟨Reg.TRK_PORT_CFG 0, 0x10000, 3, 8, 1, 5, none⟩
  , ⟨Reg.GROUP_CFG, 4, 1, 16, 0, 64, none⟩, ⟨Reg.GROUP_CFG, 4, 1, 8, 0, 2, none⟩
  , ⟨Reg.DIR_CFG 0, 4, 3, 24, 1, 15, none⟩, ⟨Reg.DIR_CFG 0, 4, 3, 16, 1, 16, none⟩, ⟨Reg.DIR_CFG 0, 4, 3, 0, 1, 64, none⟩
  , ⟨Reg.SHEET_SELECT, 4, 1, 0, 0, 2, none⟩
  , ⟨Reg.AGE_LIMIT 0, 4, 4, 16, 1, 65535, none⟩, ⟨Reg.AGE_LIMIT 0, 4, 4, 0, 1, 65535, none⟩
  , ⟨Reg.PROFILE 0, 4, 16, 24, 0, 6, none⟩
  , ⟨Reg.REG_CFG, 4, 1, 16, 0, 1024, none⟩, ⟨Reg.REG_CFG, 4, 1, 0, 16, 8000, none⟩ ]

/-- The ranges of the station, USB and bridge fields (R291, R313, R336). -/
def boundsB : List Bound :=
  [ ⟨Reg.DP_CFG 0, 4, 6, 28, 0, 6, none⟩, ⟨Reg.DP_CFG 0, 4, 6, 26, 0, 2, none⟩, ⟨Reg.DP_CFG 0, 4, 4, 16, 2, 64, none⟩
  , ⟨Reg.RELAY_CFG, 4, 1, 0, 1, 60, none⟩
  , ⟨Reg.RELAY_NS_0 0, 0x20, 64, 22, 0, 47, some 63⟩, ⟨Reg.RELAY_NS_0 0, 0x20, 64, 18, 0, 8, none⟩
  , ⟨Reg.SUB_CFG 0, 4, 2, 28, 0, 2, none⟩
  , ⟨Reg.VLAN_MAP 0, 4, 1024, 24, 0, 10, none⟩, ⟨Reg.VLAN_MAP 0, 4, 1024, 12, 0, 4094, none⟩
  , ⟨Reg.TREE_CFG, 4, 1, 8, 2, 32, none⟩, ⟨Reg.TREE_CFG, 4, 1, 0, 1, 60, none⟩
  , ⟨Reg.CAN_CFG 0, 4, 4, 27, 0, 3, none⟩, ⟨Reg.CAN_CFG 0, 4, 4, 24, 0, 4, none⟩, ⟨Reg.CAN_CFG 0, 4, 4, 0, 100, 1500, none⟩
  , ⟨Reg.RS485_CFG 0, 4, 2, 28, 0, 2, none⟩, ⟨Reg.RS485_CFG 0, 4, 2, 0, 1200, 12000000, none⟩
  , ⟨Reg.RS485_TIMING 0, 4, 2, 16, 10, 65535, none⟩, ⟨Reg.RS485_TIMING 0, 4, 2, 8, 0, 174, none⟩
  , ⟨Reg.BRIDGE_CFG, 4, 1, 16, 80, 8000, none⟩
  , ⟨Reg.BIND 0, 4, 64, 28, 0, 5, none⟩
  , ⟨Reg.RANGE_0 0, 0x10, 64, 29, 0, 2, none⟩, ⟨Reg.RANGE_0 0, 0x10, 64, 8, 0, 247, none⟩, ⟨Reg.RANGE_0 0, 0x10, 64, 0, 0, 247, none⟩ ]

/-- The ranges of the command, power and scrubber fields (R375, R405, R406, R420, R469). -/
def boundsC : List Bound :=
  [ ⟨Reg.MGMT_CFG, 4, 1, 0, 0x08, 0x77, none⟩
  , ⟨Reg.IN_CFG 0, 4, 2, 20, 0, 5, none⟩, ⟨Reg.IN_CFG 0, 4, 2, 10, 1, 1000, none⟩, ⟨Reg.IN_CFG 0, 4, 2, 0, 4, 80, none⟩
  , ⟨Reg.PD_BUDGET, 4, 1, 0, 18, 240, none⟩
  , ⟨Reg.DORMANT_CFG, 4, 1, 0, 1, 65535, none⟩
  , ⟨Reg.SCRUB_CFG 0, 4, 8, 0, 1, 65535, none⟩ ]

/-- Every range the field maps give beside a field's width. [Log entry 184: DESIGN CHOICE] -/
def bounds : List Bound := boundsA ++ boundsB ++ boundsC

/-- A bound is of the field at an address and lowest bit. -/
def Bound.applies (b : Bound) (a lsb : Nat) : Bool :=
  decide (b.base ≤ a) && (a - b.base) % b.stride == 0 && decide ((a - b.base) / b.stride < b.count) && b.lsb == lsb

/-- A value is in a bound. -/
def Bound.holds (b : Bound) (v : Nat) : Bool := (decide (b.lo ≤ v) && decide (v ≤ b.hi)) || b.also == some v

/-- A field's value is in its range. -/
def fieldInRange (a lsb v : Nat) : Bool := bounds.all (fun b => !b.applies a lsb || b.holds v)

/-- A mask touches a field. -/
def FieldRow.touched (f : FieldRow) (mask : Word) : Bool := (mask &&& BitVec.ofNat 32 f.mask) != 0

/-- Every field of an address that a mask touches is in range in a word. -/
def wordInRange (a : Nat) (mask word : Word) : Bool :=
  (fieldsOf a).all (fun f => !f.touched mask || fieldInRange a f.lsb (bitsOf word.toNat f.lsb f.width))

/-- A mask touches a field of an access class. -/
def touchesClass (c : Access) (a : Nat) (mask : Word) : Bool := (fieldsOf a).any (fun f => f.acc == c && f.touched mask)

/-- The word a register reads as (R10, R13, R80, R155, R214): most stand in the register file, some follow from the state. [Log entry 101: DESIGN CHOICE] -/
def State.readWord (s : State) (a : Nat) : Word :=
  if a = Reg.NOW_LO then BitVec.ofNat 32 s.rt.round
  else if Reg.SHEET_IMAGE 0 ≤ a ∧ a < Reg.SHEET_IMAGE 2048 then s.sheetImageWord ((a - Reg.SHEET_IMAGE 0) / 4)
  else if Reg.SLICE_IMAGE 0 0 ≤ a ∧ a < Reg.SLICE_IMAGE 16 0 ∧ (rowOf a).isSome then
    s.sliceImageWord (s.get Reg.SLICE_SELECT_ENGINE) ((a - Reg.SLICE_IMAGE 0 0) % 0x400 / 4)
  else s.word a

/-- What a read does beside returning a value: it latches the rest of a wide count from the same instant (R80, R389, R470), or
restarts the RC fields, POOL_LOW from POOL_FREE (R10, R205). [Log entry 40: DESIGN CHOICE] -/
def State.afterRead (s : State) (a : Nat) : State :=
  if a = Reg.NOW_LO then (s.set Reg.NOW_HI_ROUND_HI (s.rt.round / 2 ^ 32)).set Reg.NOW_NS_NS s.rt.ns
  else if a = Reg.MEASURE_8 0 then s.set (Reg.MEASURE_ENERGY_HI 0) (energyMj (s.path 0).energy / 2 ^ 32)
  else if a = Reg.MEASURE_8 1 then s.set (Reg.MEASURE_ENERGY_HI 1) (energyMj (s.path 1).energy / 2 ^ 32)
  else if a = Reg.OPERATING_LO then s.set Reg.OPERATING_HI_VALUE (s.recorder.seconds / 2 ^ 32)
  else if a = Reg.POOL_LOW then s.set Reg.POOL_LOW_CELLS s.poolFree
  else if accMask .rc a = 0 then s
  else s.setWord a (s.word a &&& ~~~(accMask .rc a))

/-- RC_READ (R10). [Log entry 38: DESIGN CHOICE] -/
def execRcRead (address : Word) (s : State) : Result :=
  .next <|
    let a := address.toNat
    if addressOk a then (s.afterRead a).emit (.value a (s.readWord a)) else s

/-- NOW_LO_READ (R80). -/
def execNowLoRead (s : State) : Result := .next ((s.afterRead Reg.NOW_LO).emit (.value Reg.NOW_LO (s.readWord Reg.NOW_LO)))

/-- READ_FEATURE (R364). -/
def execReadFeature (h : CmdHdr) (address : Word) (s : State) : Result :=
  .next <| s.runOpcode h 0x0010 (leBytes 4 address.toNat) true (fun _ s =>
    let a := address.toNat
    if addressOk a then (s.afterRead a, .done .ok (leBytes 4 (s.readWord a).toNat)) else (s, .done .badParam []))

/-- READ_BLOCK (R364): every register from the same instant, which is the one before its reads latch or clear anything: over NOW_LO,
NOW_HI and NOW_NS it returns in the two latter what an earlier read of NOW_LO latched (R80). [Log entry 201: DESIGN CHOICE] -/
def execReadBlock (h : CmdHdr) (block offset count : BitVec 16) (s : State) : Result :=
  .next <| s.runOpcode h 0x0012 (leBytes 2 block.toNat ++ leBytes 2 offset.toNat ++ leBytes 2 count.toNat) true (fun _ s =>
    let a := block.toNat * 65536 + offset.toNat
    let n := count.toNat
    if !addressOk a || n < 1 || 1020 < n || 0xFFFC < offset.toNat + 4 * (n - 1) then (s, .done .badParam [])
    else
      let l := (List.range n).map (fun k => a + 4 * k)
      (forAll l s (fun s a => s.afterRead a), .done .ok (l.flatMap (fun a => leBytes 4 (s.readWord a).toNat))))

/-- The word a masked write is judged on: the bits under the mask new, the others as the shadow or the register has them (R364). -/
def State.writtenWord (s : State) (a : Nat) (mask value : Word) : Word :=
  let sh := (mget s.shadow a).getD (0, 0)
  let w := (s.word a &&& ~~~sh.1) ||| (sh.2 &&& sh.1)
  (w &&& ~~~mask) ||| (value &&& mask)

/-- Check 8 of R343 for a write. [Log entry 37: DEDUCED] -/
def State.writeInRange (s : State) (a : Nat) (mask value : Word) : Bool :=
  wordInRange a mask (s.writtenWord a mask value) &&
  (a != Reg.PD_BUDGET || (mask &&& 0xFF) == 0 || s.budgetOk ((s.writtenWord a mask value).toNat % 256))

/-- The trunk port whose PORT_CFG an address is. -/
def portOfCfg (a : Nat) : Option PortId := allPorts.find? (fun p => Reg.TRK_PORT_CFG p.code == a)

/-- Check 9 of R343 for a write: no field of class RO, RC or SW (R10), and what the chapters permit (R386, R401, R412, R420, R434). [Log entry 37: DEDUCED] -/
def State.writePermitted (s : State) (a : Nat) (mask value : Word) : Bool :=
  !(touchesClass .ro a mask || touchesClass .rc a mask || touchesClass .sw a mask) &&
  (match portOfCfg a with
   | some p => !(mask.getLsbD 0 && value.getLsbD 0) || s.mayEnable p
   | none => true) &&
  (a != Reg.IN_CFG 0 || !mask.getLsbD 31 || s.enWriteOk 0 (value.getLsbD 31)) &&
  (a != Reg.IN_CFG 1 || !mask.getLsbD 31 || s.enWriteOk 1 (value.getLsbD 31)) &&
  (a != Reg.DOMAIN_REQ || s.domainReqOk mask.toNat value.toNat) &&
  (a != Reg.DORMANT_CFG || !(mask.getLsbD 29 && value.getLsbD 29) || s.flag Reg.DORMANT_CFG_EN)

/-- The immediate part of a permitted write (R10): EN of a port or a path acts, other immediate fields take their value. -/
def State.writeImmediate (s : State) (a : Nat) (mask value : Word) : State :=
  let m := mask &&& accMask .rwImm a
  if m = 0 then s
  else
    match portOfCfg a with
    | some p => s.portEnable p (value.getLsbD 0)
    | none =>
      if a = Reg.IN_CFG 0 then s.writeEn 0 (value.getLsbD 31)
      else if a = Reg.IN_CFG 1 then s.writeEn 1 (value.getLsbD 31)
      else s.applyWrite a m value

/-- The write-one-to-clear part of a write (R10). [Log entry 39: DESIGN CHOICE] -/
def State.writeClear (s : State) (a : Nat) (mask value : Word) : State :=
  let m := mask &&& value &&& accMask .w1c a
  if m = 0 then s else s.setWord a (s.word a &&& ~~~m)

/-- The registers of R414 whose writes are activity. -/
def activityWrite (a : Nat) (mask : Word) : Bool :=
  a == Reg.DOMAIN_REQ || a == Reg.WAKE_CFG || (a == Reg.DORMANT_CFG && mask &&& ~~~(accMask .wo a) != 0)

/-- A permitted write (R10, R11): the shadowed part, the immediate part, the bits cleared, GO, and the activity it is. -/
def State.writeAct (s : State) (a : Nat) (mask value : Word) : State :=
  let m := mask &&& accMask .rw a
  let s := if m = 0 then s else s.shadowWrite a m value
  let s := ((s.writeImmediate a mask value).writeClear a mask value)
  let s := if (mask &&& value &&& accMask .wo a) = 0 then s else s.writeGo.1
  s.when (activityWrite a mask) (fun s => s.activity 0x15)

/-- A write of a feature register (R8, R10, R13, R343): its status and effect. A write that touches no field, reserved bits and
reserved offsets alone, is ignored and ends OK; one of a kept field writes MRAM and so needs the switch–keeper link (R16). [Log entries 37: DEDUCED, 202: DESIGN CHOICE] -/
def State.writeFeature (s : State) (a : Nat) (mask value : Word) : State × Status :=
  if !addressOk a || !s.writeInRange a mask value then (s, .badParam)
  else if !s.writePermitted a mask value then (s, .notPermitted)
  else if !s.skUp && mask &&& keptBits a != 0 then (s, .hwFault)
  else (s.writeAct a mask value, .ok)

/-- WRITE_FEATURE (R364). -/
def execWriteFeature (h : CmdHdr) (address mask value : Word) (s : State) : Result :=
  .next <| s.runOpcode h 0x0011 (leBytes 4 address.toNat ++ leBytes 4 mask.toNat ++ leBytes 4 value.toNat) true (fun _ s =>
    let r := s.writeFeature address.toNat mask value
    (r.1, .done r.2 []))

/-- REGISTER_WRITE (R10, R351, R287): a feature register, a register of PF0 BAR0, or a word of PF1 BAR0. [Log entry 36: DESIGN CHOICE] -/
def execRegisterWrite (space : RegSpace) (address mask value : Word) (s : State) : Result :=
  .next <|
    let a := address.toNat
    match space with
    | .feature =>
      if s.ready && s.get Reg.BOOT_STATE_STAGE == 4 then
        let r := s.writeFeature a mask value
        r.1.emit (.writeStatus a r.2)
      else s
    | .pf0 => if s.powered .hostio && a % 4 == 0 then s.pf0Write a mask.toNat value.toNat else s
    | .pf1 =>
      if s.powered .hostio && a % 4 == 0 && decide (0x1000 ≤ a) && decide (a < 0x1800) then
        { s with media := { s.media with pf1 := mput s.media.pf1 a ((((mget s.media.pf1 a).getD 0) &&& ~~~mask) ||| (value &&& mask)) } }
      else s

end Machine
end Sys2Proof
end

