-- ==== Sys2Proof/Machine/Staging.lean ====
section
/-!
DEFINITION. Staging sets (R367 to R372): STAGE, the checks of CHECK and of the final check, APPLY, DISCARD, STAGE_STATUS, and the
boundary at which sets take force. A check answers with its CAUSE and the addresses it involves where it fails.
-/
namespace Sys2Proof
namespace Machine

/-- A staging set; EMPTY where none is held. -/
def State.stageSet (s : State) (n : Nat) : StageSet := (mget s.cmd.sets n).getD StageSet.init

/-- The entries of a set under way: MASK and VALUE by address. -/
abbrev Entries := List (Nat × (Word × Word))

/-- A failed check: CAUSE and the addresses involved. -/
abbrev CheckFail := Nat × List Nat

/-- Failures of a test over items, each with its own addresses. -/
def failsOf {α : Type} (cause : Nat) (l : List α) (bad : α → Bool) (at_ : α → List Nat) : List CheckFail :=
  (l.filter bad).map (fun x => (cause, at_ x))

/-- An entry merged with what the set holds at its address (R368): bits under the new MASK take the new VALUE. -/
def mergeEntry (l : Entries) (e : StageEntry) : Entries :=
  let a := e.address.toNat
  let old := (mget l a).getD (0, 0)
  mput l a (old.1 ||| e.mask, (old.2 &&& ~~~e.mask) ||| (e.value &&& e.mask))

/-- An address names a field of class SW or RW, and the mask no other (R368). [Log entry 189: DESIGN CHOICE] -/
def stageable (a : Nat) (mask : Word) : Bool :=
  addressOk a && (touchesClass .sw a mask || touchesClass .rw a mask || touchesClass .rwImm a mask) &&
  !(touchesClass .ro a mask || touchesClass .rc a mask || touchesClass .w1c a mask || touchesClass .wo a mask)

/-- The value of an entry lies in its fields' ranges, the other bits as they stand in force (R368). -/
def State.entryInRange (s : State) (e : Nat × (Word × Word)) : Bool :=
  wordInRange e.1 e.2.1 ((s.word e.1 &&& ~~~e.2.1) ||| (e.2.2 &&& e.2.1)) &&
  (e.1 != Reg.DOMAIN_REQ || s.domainReqOk e.2.1.toNat e.2.2.toNat)

/-- Whether the entries write SECURE:LINK_SLOT alone (R435). [Log entry 188: DESIGN CHOICE] -/
def linkSlotOnly (l : Entries) : Bool := l.all (fun e => e.1 == Reg.LINK_SLOT)

/-- A staging command over a commissioning port may act on a set (R435). [Log entry 188: DESIGN CHOICE] -/
def State.stagePermitted (s : State) (h : CmdHdr) (l : Entries) : Bool := !s.overCommissioning h || linkSlotOnly l

/-- STAGE (R368). -/
def execStage (h : CmdHdr) (set flags : Byte) (entries : List StageEntry) (s : State) : Result :=
  .next <| s.runOpcode h 0x0020 (stageParams set flags entries) (h.paramLen == 4 + 12 * entries.length) (fun _ s =>
    let n := set.toNat
    let x := s.stageSet n
    let l := entries.foldl mergeEntry (if bitOf flags.toNat 0 then [] else x.entries)
    if 3 < n || entries.length < 1 || 338 < entries.length then (s, .done .badParam [])
    else if entries.any (fun e => !stageable e.address.toNat e.mask) ||
        (l.filter (fun e => entries.any (fun y => y.address.toNat == e.1))).any (fun e => !s.entryInRange e) then (s, .done .badParam [])
    else if x.state == .armed || x.state == .failed || !s.stagePermitted h l then (s, .done .notPermitted [])
    else if 1024 < l.length then (s, .done .noResource [])
    else (s.setSet n { x with state := .openSet, entries := l, passed := false }, .done .ok (leBytes 2 l.length ++ leBytes 2 0)))

/-- The register words of an array that stand in the register file, by index. -/
def State.indices (s : State) (base stride count : Nat) : List Nat :=
  s.regs.filterMap (fun e => if base ≤ e.1 ∧ e.1 < base + stride * count ∧ (e.1 - base) % stride = 0 then some ((e.1 - base) / stride) else none)

/-- The indices of an array whose words the entries write. -/
def touchedIndices (l : Entries) (base stride words count : Nat) : List Nat :=
  (l.filterMap (fun e =>
    if base ≤ e.1 ∧ e.1 < base + stride * count ∧ (e.1 - base) % stride < 4 * words then some ((e.1 - base) / stride) else none)).eraseDups

/-- CAUSE 1: the values the entries give (R102, R171, R230, R368, R449, R468). [Log entries 182: DESIGN CHOICE, 185: DESIGN CHOICE] -/
def State.checkRange (s cfg : State) (l : Entries) : List CheckFail :=
  failsOf 1 l (fun e => !s.entryInRange e) (fun e => [e.1]) ++
  failsOf 1 [0, 1, 2] (fun p => !([1, 2, 4] : List Nat).contains (popCount (cfg.get (Reg.LANE_PLAN_POWERED p)) 4)) (fun p => [Reg.LANE_PLAN p]) ++
  failsOf 1 (touchedIndices l (Reg.ISO_ALLOT 0) 4 1 8192)
    (fun f => decide (2880 < cfg.get (Reg.ISO_ALLOT_PRI f)) || decide (2880 < cfg.get (Reg.ISO_ALLOT_ALT f))) (fun f => [Reg.ISO_ALLOT f]) ++
  failsOf 1 [0, 1, 2, 3, 4]
    (fun k => cfg.get (Reg.KIND_CFG_ENGINES k) == 0 || decide (64 < cfg.get (Reg.KIND_CFG_MIN k)) || cfg.get (Reg.KIND_CFG_CEIL k) == 0 ||
      decide (500 < cfg.get (Reg.KIND_CFG_CEIL k))) (fun k => [Reg.KIND_CFG k]) ++
  failsOf 1 allPorts (fun p => decide (0 < cfg.linkSlot p) && decide (cfg.linkSlot p < 4)) (fun _ => [Reg.LINK_SLOT]) ++
  failsOf 1 (List.range 64) (fun k => decide (14 < cfg.histSource k)) (fun k => [Reg.HIST_CFG_0 k]) ++
  failsOf 1 (List.range 64) (fun k => cfg.histWidth k == 0) (fun k => [Reg.HIST_CFG_8 k]) ++
  failsOf 1 (List.range 64) (fun k => cfg.flag (Reg.RANGE_VALID k) &&
      !rangeOk (cfg.word (Reg.RANGE_0 k)).toNat (cfg.word (Reg.RANGE_4 k)).toNat (cfg.word (Reg.RANGE_8 k)).toNat (cfg.word (Reg.RANGE_C k)).toNat)
    (fun k => [Reg.RANGE_0 k, Reg.RANGE_4 k, Reg.RANGE_8 k, Reg.RANGE_C k]) ++
  failsOf 1 (cfg.indices (Reg.VLAN_MAP 0) 4 1024) (fun v => cfg.flag (Reg.VLAN_MAP_VALID v) && cfg.get (Reg.VLAN_MAP_VID v) == 0)
    (fun v => [Reg.VLAN_MAP v])

/-- CAUSE 2 among the ring's configuration (R141): every junction position below RING_SIZE; while that is 0, no entry of GROUP_ROUTE but
one all 0. [Log entry 182: DESIGN CHOICE] -/
def State.checkTopo (cfg : State) : List CheckFail :=
  let m := cfg.ringSize
  failsOf 2 [()] (fun _ => (cfg.flag Reg.GROUP_CFG_ROOT_EN && cfg.flag Reg.GROUP_CFG_STANDBY_EN) ||
    (m != 0 && cfg.addrValid && decide (m ≤ cfg.position))) (fun _ => [Reg.GROUP_CFG]) ++
  failsOf 2 (cfg.indices (Reg.GROUP_ROUTE 0) 4 1024)
    (fun g => if m = 0 then cfg.routeValid g || cfg.junction1 g != 0 || cfg.junction2 g != 0
      else decide (m ≤ cfg.junction1 g) || decide (m ≤ cfg.junction2 g))
    (fun g => [Reg.GROUP_CFG, Reg.GROUP_ROUTE g])

/-- The addresses whose words name a box (R267). -/
def State.namingAddresses (cfg : State) (b : Nat) : List Nat :=
  (cfg.regs.filter (fun e => (namesAt e.1 e.2.toNat).any (fun n => n.box == b))).map (·.1)

/-- The boxes that more than one field names (R267). -/
def State.boxesNamedTwice (cfg : State) : List Nat :=
  let l := cfg.boxNames.map (·.box)
  (l.filter (fun b => decide (1 < l.count b))).eraseDups

/-- The valid local relay entries in force, and the valid ones of a VF (R280). -/
def State.relayEntries (cfg : State) (remote : Bool) : List Nat :=
  (cfg.indices (Reg.RELAY_NS_0 0) 0x20 64).filter (fun r => cfg.flag (Reg.RELAY_NS_VALID r) && (remote || !cfg.flag (Reg.RELAY_NS_REMOTE r)))

/-- The registers of a relay entry. -/
def relayWords (r : Nat) : List Nat :=
  [Reg.RELAY_NS_0 r, Reg.RELAY_NS_4 r, Reg.RELAY_NS_8 r, Reg.RELAY_NS_C r, Reg.RELAY_NS_10 r, Reg.RELAY_NS_14 r]

/-- Two relay entries bound RW overlap in blocks of one namespace (R280). -/
def State.relayOverlap (cfg : State) (r q : Nat) : Bool :=
  r != q && !cfg.flag (Reg.RELAY_NS_RO_ACCESS r) && !cfg.flag (Reg.RELAY_NS_RO_ACCESS q) && cfg.get (Reg.RELAY_NS_TARGET r) == cfg.get (Reg.RELAY_NS_TARGET q) &&
  decide (cfg.nsStart r < cfg.nsStart q + cfg.nsCount q) && decide (cfg.nsStart q < cfg.nsStart r + cfg.nsCount r)

/-- A local entry's range lies beyond its namespace (R280), where the device has told its namespaces. [Log entry 183: DESIGN CHOICE] -/
def State.relayBeyond (cfg : State) (r : Nat) : Bool :=
  cfg.get Reg.SSD_STATE_STATE == 2 &&
  (match cfg.get (Reg.RELAY_NS_TARGET r) with
   | 0 => true
   | t + 1 => decide ((cfg.media.nsSizes[t]?).getD 0 < cfg.nsStart r + cfg.nsCount r))

/-- The three cases of R280. -/
def State.checkRelay (cfg : State) : List CheckFail :=
  let l := cfg.relayEntries false
  let v := (cfg.relayEntries true).filter (fun r => cfg.get (Reg.RELAY_NS_VF r) != 63)
  failsOf 2 l (fun r => l.any (fun q => cfg.relayOverlap r q)) relayWords ++
  failsOf 2 v (fun r => v.any (fun q => r != q && cfg.get (Reg.RELAY_NS_VF r) == cfg.get (Reg.RELAY_NS_VF q) &&
    cfg.get (Reg.RELAY_NS_VNSID r) == cfg.get (Reg.RELAY_NS_VNSID q))) (fun r => [Reg.RELAY_NS_0 r]) ++
  failsOf 1 v (fun r => cfg.get (Reg.RELAY_NS_VNSID r) == 0) (fun r => [Reg.RELAY_NS_0 r]) ++
  failsOf 1 l (fun r => cfg.relayBeyond r) relayWords

/-- CAUSE 2 among ISO_ALLOT, PROFILE, KIND_CFG, LINK_SLOT, HIST_CFG, PD_BUDGET, routes and ranges (R171, R184, R230, R335, R392, R449, R468). -/
def State.checkAgree (cfg : State) (l : Entries) : List CheckFail :=
  let runBad (port n : Nat) : Bool := port == 3 && n != 0
  failsOf 2 (touchedIndices l (Reg.ISO_ALLOT 0) 4 1 8192)
    (fun f => runBad (cfg.get (Reg.ISO_ALLOT_PRI_PORT f)) (cfg.get (Reg.ISO_ALLOT_PRI f)) ||
      runBad (cfg.get (Reg.ISO_ALLOT_ALT_PORT f)) (cfg.get (Reg.ISO_ALLOT_ALT f)) ||
      (cfg.get (Reg.ISO_ALLOT_PRI f) != 0 && cfg.get (Reg.ISO_ALLOT_ALT f) != 0 &&
        cfg.get (Reg.ISO_ALLOT_PRI_PORT f) == cfg.get (Reg.ISO_ALLOT_ALT_PORT f))) (fun f => [Reg.ISO_ALLOT f]) ++
  failsOf 2 (List.range 16)
    (fun n => decide (cfg.get (Reg.PROFILE_END_G n) < cfg.get (Reg.PROFILE_START_G n)) ||
      decide (cfg.get (Reg.PROFILE_END_Y n) < cfg.get (Reg.PROFILE_START_Y n)) ||
      decide (cfg.get (Reg.PROFILE_END_R n) < cfg.get (Reg.PROFILE_START_R n))) (fun n => [Reg.PROFILE n]) ++
  failsOf 2 [0, 1, 2, 3, 4] (fun k => decide (cfg.get (Reg.KIND_CFG_CEIL k) < cfg.get (Reg.KIND_CFG_MIN k))) (fun k => [Reg.KIND_CFG k]) ++
  failsOf 2 allPorts (fun p => decide (4 ≤ cfg.linkSlot p) && !bitOf (cfg.get (Reg.SLOT_ATTR_DEST (cfg.linkSlot p))) p.code) (fun _ => [Reg.LINK_SLOT]) ++
  failsOf 2 (List.range 64) (fun k => decide (2 ^ 31 - 1 < cfg.histLow k + 30 * (cfg.histWidth k : Int)))
    (fun k => [Reg.HIST_CFG_4 k, Reg.HIST_CFG_8 k]) ++
  failsOf 2 [()] (fun _ => (mget l Reg.PD_BUDGET).isSome && !cfg.budgetOk (cfg.get Reg.PD_BUDGET_WATTS)) (fun _ => [Reg.PD_BUDGET]) ++
  failsOf 2 cfg.routes (fun r => (r.2.2.1 == 0 && decide (0x800 ≤ r.2.2.2.1)) ||
      cfg.routes.any (fun q => q.1 != r.1 && q.2.1 == r.2.1 && q.2.2.1 == r.2.2.1 && q.2.2.2.1 == r.2.2.2.1))
    (fun r => [Reg.ROUTE_0 r.1, Reg.ROUTE_4 r.1]) ++
  failsOf 2 [()] (fun _ => !cfg.rangesApart)
    (fun _ => ((List.range 64).filter (fun k => cfg.flag (Reg.RANGE_VALID k))).flatMap (fun k => [Reg.RANGE_0 k, Reg.RANGE_4 k]))

/-- The partition of the buffer (R181): CAUSE 3. -/
def State.checkCells (cfg : State) : List CheckFail :=
  let all := (List.range 10).flatMap (fun i => (List.range 4).map (fun k => Reg.MIN_CELLS i k))
  let assured (i : Nat) : List Nat := [Reg.MIN_CELLS i 1, Reg.MIN_CELLS i 2, Reg.MIN_CELLS i 3]
  failsOf 3 allPT (fun x => decide (32767 < cfg.minCells x.1 x.2)) (fun x => [Reg.MIN_CELLS x.1 (x.2 / 2)]) ++
  failsOf 3 [()] (fun _ => decide (114048 < (allPT.map (fun x => cfg.minCells x.1 x.2)).sum)) (fun _ => all) ++
  failsOf 3 [0, 1, 2] (fun i => decide (cfg.minCells i 7 < 512)) (fun i => [Reg.MIN_CELLS i 3]) ++
  failsOf 3 [0, 1, 2] (fun i => decide (cfg.minCells i 2 + cfg.minCells i 3 + cfg.minCells i 4 + cfg.minCells i 6 < 512)) assured

/-- The two conditions of R158 on each direction, and MIN_SUM of each engine (R209, R230): CAUSE 3. -/
def State.checkCapacity (cfg : State) : List CheckFail :=
  failsOf 3 allPorts (fun p => !cfg.commitOk p)
    (fun p => [Reg.TRK_PORT_CFG p.code, Reg.LANE_PLAN p.code, Reg.DIR_CFG p.code] ++
      ((cfg.isoRuns p false) ++ (cfg.isoRuns p true)).map (fun r => Reg.ISO_ALLOT r.1)) ++
  failsOf 3 (List.range 16) (fun e => decide (450 < cfg.minSum e)) (fun _ => [0, 1, 2, 3, 4].map (fun k => Reg.KIND_CFG k))

/-- The open REGISTERED tunnels' receiving buses (R332) and the input ramps (R386): CAUSE 4. -/
def State.checkTimes (cfg : State) : List CheckFail :=
  let open_ := cfg.tun.boxes.filter (fun b => b.2.serves && b.2.cls == .registered && ((cfg.book b.1).map (·.recv)).getD false)
  failsOf 4 open_ (fun b => match cfg.busOf b.1 with | some n => !cfg.busBound n | none => false)
    (fun b => match cfg.busOf b.1 with
      | some n => if n ≤ 3 then [Reg.CAN_CFG n] else [Reg.RS485_CFG (n - 4), Reg.RS485_TIMING (n - 4)]
      | none => []) ++
  failsOf 4 [0, 1] (fun x => decide (cfg.get (Reg.IN_CFG_FAULT_TIME x) * 2 ^ cfg.get (Reg.IN_CFG_SLEW x) ≤ 1440)) (fun x => [Reg.IN_CFG x])

/-- A run may only be given to a flow of class ISO (R171): CAUSE 5. -/
def State.checkResource (cfg : State) (l : Entries) : List CheckFail :=
  failsOf 5 (touchedIndices l (Reg.ISO_ALLOT 0) 4 1 8192)
    (fun f => match mget cfg.tun.flows f with | some x => x.cls != .iso | none => true) (fun f => [Reg.ISO_ALLOT f])

/-- Every check of the configuration `cfg` that stands once the entries are applied, in the order of CAUSE (R369). [Log entry 179: DEDUCED] -/
def State.stageFails (s cfg : State) (l : Entries) : List CheckFail :=
  s.checkRange cfg l ++ cfg.checkTopo ++ failsOf 2 cfg.boxesNamedTwice (fun _ => true) (fun b => cfg.namingAddresses b) ++ cfg.checkRelay ++
  cfg.checkAgree l ++ cfg.checkCells ++ cfg.checkCapacity ++ cfg.checkTimes ++ cfg.checkResource l

/-- The lowest number of a list. -/
def lowest : List Nat → Nat
  | [] => 0
  | [a] => a
  | a :: b :: l => min a (lowest (b :: l))

/-- ADDRESS of a failure (R369): the lowest entry of the set among the addresses involved, else the lowest of these. -/
def failAddress (l : Entries) (involved : List Nat) : Nat :=
  let mine := involved.filter (fun a => (mget l a).isSome)
  lowest (if mine = [] then involved else mine)

/-- The first failure of a set on a configuration: CAUSE and ADDRESS. [Log entry 179: DEDUCED] -/
def State.stageResult (s : State) (l : Entries) : Option (Nat × Nat) :=
  let cfg := forAll l s (fun s e => s.applyWrite e.1 e.2.1 e.2.2)
  (s.stageFails cfg l).head?.map (fun f => (f.1, failAddress l f.2))

/-- The first address a set shares with another that satisfies a test (R369, R370). -/
def State.sharedAddress (s : State) (n : Nat) (l : Entries) (p : StageSet → Bool) : Option Nat :=
  (l.map (·.1)).find? (fun a => s.cmd.sets.any (fun e => e.1 != n && p e.2 && (mget e.2.entries a).isSome))

/-- A set in CHECKED or ARMED (R369). -/
def StageSet.pending (x : StageSet) : Bool := x.state == .checked || x.state == .armed

/-- CHECK (R367, R369). [Log entries 179: DEDUCED, 180: DESIGN CHOICE] -/
def execCheck (h : CmdHdr) (set : Byte) (s : State) : Result :=
  .next <| s.runOpcode h 0x0021 [set, 0, 0, 0] true (fun _ s =>
    let n := set.toNat
    let x := s.stageSet n
    let data (cause address : Nat) : List Byte := leBytes 1 cause ++ leBytes 3 0 ++ leBytes 4 address
    let failed (c a : Nat) : State :=
      s.setSet n { x with state := if x.state == .failed then .failed else .openSet, cause := c, address := a }
    if 3 < n then (s, .done .badParam [])
    else if x.state == .empty || x.state == .armed || !s.stagePermitted h x.entries then (s, .done .notPermitted [])
    else
      match s.stageResult x.entries with
      | some (c, a) => (failed c a, .done .checkFailed (data c a))
      | none =>
        match s.sharedAddress n x.entries StageSet.pending with
        | some a => (failed 6 a, .done .stageConflict (data 6 a))
        | none => (s.setSet n { x with state := .checked, cause := 0, address := 0 }, .done .ok (data 0 0)))

/-- The lanes of a plan in force or to come (R102): those that must wake from IDLE, from QUIET, and those that go to rest in another
state than they are in; the new TX_MASK is of the lanes the plan powers that are up or wake (R96, R106). -/
structure PlanStep where
  wakeIdle : Nat
  wakeQuiet : Nat
  leave : Nat
  rest : Nat
  mask : Nat
deriving DecidableEq, Repr

/-- What a change of LANE_PLAN moves on a port. [Log entry 187: DESIGN CHOICE] -/
def State.planStep (s cfg : State) (p : PortId) : PlanStep :=
  let on := cfg.get (Reg.LANE_PLAN_POWERED p.code)
  let rest := 3 + cfg.get (Reg.LANE_PLAN_REST p.code)
  let st (n : Nat) : Nat := s.get (txLane p n)
  let up := laneMask (fun n => bitOf on n && (st n == 1 || st n == 3 || st n == 4))
  { wakeIdle := laneMask (fun n => bitOf on n && st n == 3), wakeQuiet := laneMask (fun n => bitOf on n && st n == 4),
    leave := laneMask (fun n => !bitOf on n && st n != rest && st n != 0), rest := rest, mask := widthOf up }

/-- The earliest round a set may name (R102, R370). -/
def State.earliest (s : State) (l : Entries) : Nat :=
  let cfg := forAll l s (fun s e => s.applyWrite e.1 e.2.1 e.2.2)
  let least (p : PortId) : Nat :=
    if (mget l (Reg.LANE_PLAN p.code)).isSome && s.active p then
      let x := s.planStep cfg p
      if x.wakeQuiet ≠ 0 then 4 else if x.wakeIdle ≠ 0 then 3 else 2
    else 2
  s.round + max (least .a) (max (least .b) (least .c))

/-- APPLY (R370). [Log entry 180: DESIGN CHOICE] -/
def execApply (h : CmdHdr) (set : Byte) (round : BitVec 48) (s : State) : Result :=
  .next <| s.runOpcode h 0x0022 ([set, 0] ++ leBytes 6 round.toNat) true (fun _ s =>
    let n := set.toNat
    let r := round.toNat
    let x := s.stageSet n
    if 3 < n || s.round + 28800000 < r then (s, .done .badParam [])
    else if x.state != .checked || !s.stagePermitted h x.entries then (s, .done .notPermitted [])
    else if r < s.earliest x.entries then (s.setSet n { x with cause := 4 }, .done .checkFailed [])
    else if (s.sharedAddress n x.entries (fun y => y.state == .armed && y.round == r)).isSome then (s, .done .stageConflict [])
    else (s.setSet n { x with state := .armed, round := r, passed := false }, .done .ok (leBytes 8 r)))

/-- The collection mark of N − 1 has passed for an ARMED set (R372). -/
def State.tooLateToDiscard (s : State) (x : StageSet) : Bool :=
  decide (x.round ≤ s.round) || (decide (x.round = s.round + 1) && decide (1 ≤ s.rt.mark)) || x.passed

/-- DISCARD (R367, R372). [Log entry 180: DESIGN CHOICE] -/
def execDiscard (h : CmdHdr) (set : Byte) (s : State) : Result :=
  .next <| s.runOpcode h 0x0023 [set, 0, 0, 0] true (fun _ s =>
    let n := set.toNat
    let x := s.stageSet n
    if 3 < n then (s, .done .badParam [])
    else if (x.state == .armed && s.tooLateToDiscard x) || !s.stagePermitted h x.entries then (s, .done .notPermitted [])
    else if x.state == .empty then (s, .done .ok [])
    else (s.setSet n { x with state := .empty, entries := [], passed := false }, .done .ok []))

/-- A set as STAGE_STATUS gives it (R364). -/
def State.stageBytes (s : State) (n : Nat) : List Byte :=
  let x := s.stageSet n
  leBytes 1 n ++ leBytes 1 x.state.code ++ leBytes 1 x.cause ++ leBytes 1 0 ++ leBytes 2 x.entries.length ++ leBytes 2 0 ++ leBytes 8 x.round ++
  leBytes 4 x.address

/-- STAGE_STATUS (R364). -/
def execStageStatus (h : CmdHdr) (set : Byte) (s : State) : Result :=
  .next <| s.runOpcode h 0x0024 [set, 0, 0, 0] true (fun _ s =>
    let l := if set.toNat = 0xFF then [0, 1, 2, 3] else [set.toNat]
    if 3 < set.toNat && set.toNat != 0xFF then (s, .done .badParam [])
    else if l.any (fun n => !s.stagePermitted h (s.stageSet n).entries) then (s, .done .notPermitted [])
    else (s, .done .ok (l.flatMap s.stageBytes)))

/-- A final check that failed: FAILED, and STAGE_FAILED waits for the next boundary (R371). -/
def State.failAtMark (s : State) (n cause address : Nat) : State :=
  let s := s.failSet n cause address
  { s with cmd := { s.cmd with failures := s.cmd.failures ++ [[n, cause, (s.stageSet n).round, address]] } }

/-- The final check of a set against the configuration as it will stand with the sets before it that passed (R371). -/
def State.finalCheck (s : State) (n : Nat) : State :=
  let x := s.stageSet n
  match s.preview.stageResult x.entries with
  | some (c, a) => s.failAtMark n c a
  | none => s.setSet n { x with passed := true }

/-- The final checks of the collection mark (R371), made by the postmaster while it runs. -/
def State.finalChecks (s : State) : State :=
  if s.get Reg.BOOT_STATE_STAGE = 4 then
    forAll (mkeys s.cmd.sets (fun x => x.state == .armed && x.round == s.round + 1 && !x.passed)) s (fun s n => s.finalCheck n)
  else s

/-- STAGE_FAILED of the collection mark before (R371). -/
def State.tellFailures (s : State) : State :=
  forAll s.cmd.failures { s with cmd := { s.cmd with failures := [] } } (fun s b => s.notice 0x8002 b)

/-- An entry takes force (R371): its staged and shadowed fields, and its immediate fields where they are permitted. -/
def State.applyStaged (s : State) (e : Nat × (Word × Word)) : State :=
  let s := s.applyWrite e.1 (e.2.1 &&& (accMask .sw e.1 ||| accMask .rw e.1)) e.2.2
  if (e.2.1 &&& accMask .rwImm e.1) ≠ 0 ∧ s.writePermitted e.1 (e.2.1 &&& accMask .rwImm e.1) e.2.2 then
    s.writeImmediate e.1 e.2.1 e.2.2
  else s

/-- STAGE_APPLY (R371): the set's entries take force, the set is EMPTY, and STAGE_APPLIED leaves. [Log entry 189: DESIGN CHOICE] -/
def State.applySet (s : State) (n : Nat) : State :=
  let x := s.stageSet n
  let s := forAll x.entries s (fun s e => s.applyStaged e)
  let s := (s.setSet n { x with state := .empty, entries := [], round := s.round, passed := false }).bump Cnt.HUB_SETS_APPLIED
  s.notice 0x8001 [n, x.entries.length, s.round]

/-- An armed set at its boundary, or at the first after its round was skipped (R371, R372). While the postmaster restarts it is late. -/
def State.setAtBoundary (s : State) (n : Nat) : State :=
  let x := s.stageSet n
  if s.get Reg.BOOT_STATE_STAGE ≠ 4 then (s.failSet n 7 0).tellFailed n
  else if x.passed ∧ x.round = s.round then s.applySet n
  else
    match s.stageResult x.entries with
    | some (c, a) => (s.failSet n c a).tellFailed n
    | none => s.applySet n

/-- The sets whose boundary has come, in ascending number (R370 to R372). -/
def State.setsDue (s : State) : List Nat := mkeys s.cmd.sets (fun x => x.state == .armed && decide (x.round ≤ s.round))

/-- [Log entry 181: DESIGN CHOICE] -/
def State.stagesAtBoundary (s : State) : State := forAll s.setsDue s (fun s n => s.setAtBoundary n)

/-- LINK_SLOT changed at a boundary (R435, R437, R439): the port's pairs go, and a port that leaves commissioning mode for a LOADED key
retrains; a MISMATCH found in commissioning mode, where no slot can have a letter, ends with it. [Log entry 186: DESIGN CHOICE] -/
def State.linkSlotsAtBoundary (s before : State) : State :=
  forAll allPorts s (fun s p =>
    if s.linkSlot p = before.linkSlot p then s
    else
      let s := (s.clearPairs p).when (before.linkSlot p == 0) (fun s => s.setFlag (Reg.LINK_USES_MISMATCH p.code) false)
      if before.commissioning p ∧ s.slotServes (s.linkSlot p) p ∧ s.flag (Reg.TRK_PORT_CFG_EN p.code) ∧ s.powered (PortId.domain p) then s.enterHunt p
      else s)

/-- A change of MEDIUM in force begins or ends the management of a module that is present (R107). -/
def State.mediumAtBoundary (s before : State) : State :=
  forAll allPorts s (fun s p =>
    if s.managed p = before.managed p then s
    else (s.manageModule p (s.managed p)).notice 0x8023 [p.code, 1, if s.managed p then 1 else 0])

/-- The staged plan of a port that is armed, with its round, where one is (R102). -/
def State.planArmed (s : State) (p : PortId) : Option (Nat × Entries) :=
  (s.cmd.sets.find? (fun e => e.2.state == .armed && decide (s.round < e.2.round) && decide (e.2.round ≤ s.round + 3) &&
    (mget e.2.entries (Reg.LANE_PLAN p.code)).isSome)).map (fun e => (e.2.round, e.2.entries))

/-- LANE_POWER_SEND at a seal mark (R102): the messages leave from the seal mark the wake needs, and at that of N − 1 the change of
TX_MASK is fixed. They go out on every ACTIVE lane in each group until the boundary. -/
def State.lanePowerSend (s : State) (p : PortId) : State :=
  match s.planArmed p with
  | none => s
  | some (n, l) =>
    let x := s.planStep (forAll l s (fun s e => s.applyWrite e.1 e.2.1 e.2.2)) p
    let lead := if x.wakeQuiet ≠ 0 then 3 else if x.wakeIdle ≠ 0 then 2 else 1
    if s.active p ∧ n ≤ s.round + lead then
      let wake := x.wakeIdle + x.wakeQuiet
      let s := s.when (wake != 0) (fun s => s.updPort p (fun y => y.queueMsg (s.txMask p) 0x14 [wake, 1, n % 2 ^ 32] 0))
      let s := s.when (x.leave != 0) (fun s => s.updPort p (fun y => y.queueMsg (s.txMask p) 0x14 [x.leave, x.rest - 1, n % 2 ^ 32] 0))
      s.when (n == s.round + 1 && x.mask != 0) (fun s => s.updPort p (fun y => { y with change := some ⟨n, x.mask, false⟩ }))
    else s

end Machine
end Sys2Proof
end

