-- ==== Sys2Proof/Machine/General.lean ====
section
/-!
DEFINITION. The general opcodes (R363, R364): NOP, IDENTIFY, HUB_STATUS, TOPO_SCAN and ASSIGN_POSTCODE (R29).
-/
namespace Sys2Proof
namespace Machine

/-- A register's word as 4 bytes, least significant first (R6). -/
def State.wordBytes (s : State) (a : Nat) : List Byte := leBytes 4 (s.word a).toNat

/-- The 32 bytes of IDENTIFY (R3, R364). -/
def State.identifyBytes (s : State) : List Byte :=
  s.identBytes ++ leBytes 1 0 ++ s.wordBytes Reg.FW_VERSION ++ serialBytes ++ leBytes 2 s.postcode ++
  leBytes 1 ((if s.addrValid then 1 else 0) + 2 * ((s.word Reg.HUB_ROLES).toNat % 32)) ++ leBytes 3 0

/-- NOP (R364). -/
def execNop (h : CmdHdr) (bytes : List Byte) (s : State) : Result :=
  .next <| s.runOpcode h 0x0001 bytes (bytes.length == h.paramLen) (fun _ s => (s, .done .ok bytes))

/-- IDENTIFY (R364). -/
def execIdentify (h : CmdHdr) (s : State) : Result :=
  .next <| s.runOpcode h 0x0002 [] true (fun _ s => (s, .done .ok s.identifyBytes))

/-- HUB_STATUS (R364); it clears no RC field. -/
def execHubStatus (h : CmdHdr) (s : State) : Result :=
  .next <| s.runOpcode h 0x0003 [] true (fun _ s =>
    (s, .done .ok (([Reg.DOMAIN_ON, Reg.DIE_LINKS, Reg.TIMING, Reg.TRK_PORT_STATE 0, Reg.TRK_PORT_STATE 1, Reg.TRK_PORT_STATE 2,
      Reg.BOOK_STATE, Reg.STAGE_STATE 0, Reg.STAGE_STATE 1, Reg.STAGE_STATE 2, Reg.STAGE_STATE 3, Reg.PM_STATUS] : List Nat).flatMap
      s.wordBytes)))

/-- TOPO_SCAN (R364). -/
def execTopoScan (h : CmdHdr) (s : State) : Result :=
  .next <| s.runOpcode h 0x0100 [] true (fun _ s =>
    (s, .done .ok (s.identifyBytes ++ ([0, 1, 2] : List Nat).flatMap (fun p =>
      s.wordBytes (Reg.TRK_PORT_STATE p) ++ s.wordBytes (Reg.NEIGHBOUR p) ++ s.wordBytes (Reg.HOP_DELAY p)))))

/-- ASSIGN_POSTCODE (R29, R364). [Log entry 190: DESIGN CHOICE] -/
def execAssignPostcode (h : CmdHdr) (postcode : Postcode) (force : Byte) (serial : BitVec 128) (s : State) : Result :=
  .next <| s.runOpcode h 0x0101 (leBytes 2 postcode.toNat ++ [force, 0] ++ leBytes 16 serial.toNat) true (fun _ s =>
    if 1 < force.toNat then (s, .done .badParam [])
    else if serial ≠ Config.serial ∨ (s.addrValid ∧ force.toNat = 0) then (s, .done .notPermitted [])
    else
      ((s.set Reg.HUB_ADDR_POSTCODE postcode.toNat).setFlag Reg.HUB_ADDR_VALID true,
        .done .ok (leBytes 2 postcode.toNat ++ leBytes 2 0)))

end Machine
end Sys2Proof
end

