-- ==== Sys2Proof/Machine/Boundary.lean ====
section
/-!
DEFINITION. The three marks of a round (R41, R76, R77): the boundary, the collection mark and the seal mark, with all that
takes force, is sampled or is frozen at each.
-/
namespace Sys2Proof
namespace Machine

/-- Rounds run: the round timer counts, in CORE's power, in RUN or ENTERING (R44, R411). -/
def State.rounds (s : State) : Bool := s.rt.running && s.powered .core && decide (s.psState < 2)

/-- The grants the next round runs under (R124, R125): the header's credit, or the floor where none came by the seal mark. -/
def State.sealGrants (s : State) (p : PortId) : State :=
  let x := s.port p
  if x.headerSeen then
    s.updDir p (fun d => { d with nextA := x.creditAssured, nextR := x.creditRegistered, nextB := x.creditBulk })
  else
    let s := s.when (s.active p) (fun s => s.bump (Cnt.TOPO_FLOOR_USED p.code))
    s.updDir p (fun d => { d with nextA := 512, nextR := 512, nextB := 0 })

/-- A sheet without its ISO runs (R66, R224): the others close up. -/
def Sheet.gate (h : Sheet) : Sheet := { h with gated := true, runs := placeRuns 0 (h.loose.filter (fun r => r.2.1 != .iso)) }

/-- The checks of a sheet at its seal (R224), for the round it is to run in: gating (R66), then the credit check (R164), which is counted
where it takes slots. -/
def State.confirm (s : State) (p : PortId) (h : Sheet) (round : Nat) (gated : Bool) : Sheet × State :=
  let d := s.dir p
  let h := { (if gated then h.gate else h) with round := round % 2 ^ 47, gated := gated }
  let t := h.trim d.nextA d.nextR d.nextB
  (t, s.when (t != h) (fun s => s.bump (Cnt.TUNNEL_CREDIT_TRIMMED p.code)))

/-- A direction's sheet comes into force, with the grants it was sealed under (R125, R166). -/
def DirSt.turn (d : DirSt) (h : Sheet) : DirSt :=
  { d with
    sheet := h, next := none, spec := none, short := none, joined := [], grantA := d.nextA, grantR := d.nextR, grantB := d.nextB,
    usedA := 0, usedR := 0, usedB := 0 }

/-- A direction's sheet at a boundary (R76, R77, R166): the sealed one, or where its seal was late or never came the sheet of the round before
again, after the checks of R224. [Log entries 14: DESIGN CHOICE, 79: DEDUCED] -/
def State.sheetTurns (s : State) (p : PortId) : State :=
  let late := if (s.dir p).next.isSome then s.drawLate else (true, s.sealGrants p)
  let d := late.2.dir p
  let r := if late.1 then (late.2.bump Cnt.ROUND_SEAL_MISSED).confirm p d.sheet s.round (!s.isoAllowed s.round) else (d.next.getD d.sheet, late.2)
  let s := r.2.updDir p (fun d => d.turn r.1)
  (s.setFlag (Reg.DIR_STATE_SHORT p.code) false).set (Reg.DIR_STATE_CAP p.code) 0

/-- The sheets at a boundary. -/
def State.sheetsTurn (s : State) : State := forAll allPorts s (fun s p => s.sheetTurns p)

/-- A sheet sealed for more than the capacity now in force runs short from its boundary (R168); DIR_STATE shows the round. -/
def State.sheetsShort (s : State) : State :=
  forAll allPorts s (fun s p =>
    let h := (s.dir p).sheet
    let c := s.capacity p
    let s := s.set (Reg.DIR_STATE_CAP p.code) c
    let s := (s.set (Reg.DIR_STATE_SEALED_CAP p.code) h.cap).setFlag (Reg.DIR_STATE_GATED p.code) h.gated
    if c < h.cap then
      let s := s.updDir p (fun d => { d with short := some ⟨none, 0, c⟩ })
      let s := (s.bump (Cnt.TUNNEL_SHORT_ROUNDS p.code)).bump (Cnt.TUNNEL_SLOTS_CUT p.code) (h.cap - c)
      s.setFlag (Reg.DIR_STATE_SHORT p.code) true
    else s)

/-- A round ends and the next one's number stands; a postmaster that restarts has its tasks carried (R77, R226); what waited in the round that ends is judged by the sheet it ran (R187, R191,
R197); then the new sheets stand. -/
def State.boundaryTurns (s : State) : State :=
  let s := s.when s.restarting (fun s => s.bump Cnt.ROUND_CARRIED)
  let s := { s with cmd := { s.cmd with noticesRound := 0 } }
  (s.tick.roundAdvances.tellFailures.switchBefore).sheetsTurn.memoryAtBoundary

/-- The configuration of the round comes into force: RW shadows, then the staged sets of the round (R11, R371), and what follows
from a link key or a lane plan that changed. [Log entry 191: DESIGN CHOICE] -/
def State.boundaryApplies (s before : State) : State :=
  let s := s.applyShadows.stagesAtBoundary
  (s.linkSlotsAtBoundary before).mediumAtBoundary before

/-- The round itself begins: masters, keys, links, capacities, flows, grants and headers (R63, R76, R120, R189). -/
def State.boundaryBegins (s : State) (applied : Bool) : State :=
  let s := (s.timingBoundary.pulse true).keysAtBoundary.linksAtBoundary.sheetsShort
  (s.flowsAtBoundary applied).switchAfter.sendHeaders

/-- The units that work by the round (R211, R225, R239, R253, R299, R464). [Log entry 191: DESIGN CHOICE] -/
def State.boundaryWorks (s before : State) : State :=
  let s := ((s.histsAtBoundary before).registryAtBoundary).drainReports.enginesAtBoundary before.rt.l
  (s.bridgeAtBoundary before.bridgeConfig).mediaAtBoundary.usbAtBoundary before

/-- Power, paths and resets at a boundary (R388, R392, R409, R413, R475). -/
def State.boundaryPower (s : State) (sample : PowerSample) (switchTemp keeperTemp : BitVec 16) : State :=
  let s := ((s.powerSample sample false).samplePower.readTemps switchTemp keeperTemp).sampleRound
  let s := s.pdAtBoundary.becomesReady.pathsAtBoundary.domainsAtBoundary
  s.idleAtBoundary.dormantAttempt.flushLost.resetAtBoundary

/-- ROUND_BOUNDARY (R76). [Log entries 14: DESIGN CHOICE, 191: DESIGN CHOICE] -/
def execRoundBoundary (sample : PowerSample) (switchTemp keeperTemp : BitVec 16) (s : State) : Result :=
  .next <|
    if s.rounds then
      let t := s.boundaryTurns
      let applied := t.setsDue != []
      let t := ((t.boundaryApplies s).boundaryBegins applied).boundaryWorks s
      t.boundaryPower sample switchTemp keeperTemp
    else s

/-- The speculative sheets stand, from the demand sampled before and under the latest grant held; where a build is late the patch starts from
the sheet in force (R77, R166). [Log entries 14: DESIGN CHOICE, 78: DESIGN CHOICE] -/
def State.speculate (s cfg : State) : State :=
  let gated := !s.isoAllowed (s.round + 1)
  forAll allPorts s (fun s p =>
    let late := s.drawLate
    let s := late.2.when late.1 (fun s => s.bump Cnt.ROUND_SPEC_LATE)
    let x := s.port p
    let fresh := (State.buildSheet cfg p gated).1.trim x.creditAssured x.creditRegistered x.creditBulk
    s.updDir p (fun d => { d with spec := some (if late.1 then d.sheet else fresh) }))

/-- COLLECTION_MARK (R76): beat presence and swap deadlines (R64, R70), speculation, demand (R160, R212) and the final checks of
staged sets (R371). [Log entry 14: DESIGN CHOICE] -/
def execCollectionMark (s : State) : Result :=
  .next <|
    if s.rounds then
      let s := s.timingCollection
      let cfg := s.preview
      ((s.speculate cfg).enginesAtCollection cfg).sampleDemand.finalChecks
    else s

/-- ISO_SHED_NOTICE (R174) for a flow whose run on a port is shed for the first round, or stands again. -/
def State.shedNotice (s : State) (p : PortId) (shed : List Nat) (i : Nat) : State :=
  match mget s.tun.flows i with
  | none => s
  | some f =>
    let was := f.shed.contains p.code
    let is := shed.contains i
    if was == is then s
    else
      let s := s.updFlow i (fun f => { f with shed := if is then p.code :: f.shed else f.shed.filter (· != p.code) })
      s.notice 0x8041 [p.code, i, s.round + 1]

/-- SHEET_SEAL of one direction (R164, R166, R167): the patched sheet, or the speculative one where the patch is late (R77), after the checks of
R224. [Log entries 14: DESIGN CHOICE, 79: DEDUCED] -/
def State.sealSheet (s cfg : State) (gated : Bool) (p : PortId) : State :=
  let s := s.sealGrants p
  let spec := (s.dir p).spec.getD (s.dir p).sheet
  let late := s.drawLate
  let b := State.buildSheet cfg p gated
  let s := late.2.when late.1 (fun s => s.bump Cnt.ROUND_PATCH_LATE)
  let s := s.when (!late.1 && b.2.1) (fun s => s.bump (Cnt.TUNNEL_RUNS_FULL p.code))
  let r := s.confirm p (if late.1 then spec else b.1) (s.round + 1) gated
  let s := (r.2.bump Cnt.ENGINE_SLOTS_REPATCHED (slotsDiffering r.1 spec)).updDir p (fun d => { d with next := some r.1 })
  if gated then s
  else
    let flows := (((cfg.isoRuns p false) ++ (cfg.isoRuns p true)).map (·.1)).eraseDups
    forAll flows s (fun s i => s.shedNotice p (flows.filter (fun i => r.1.slotsOfOwner i == 0)) i)

/-- SEAL_MARK (R76): a due SWAP_CANCEL, lanes that wake, the sheets (R66, R166) and the slice tables (R215). [Log entry 14: DESIGN CHOICE] -/
def execSealMark (s : State) : Result :=
  .next <|
    if s.rounds then
      let s := forAll allPorts s.timingSeal (fun s p => s.lanePowerSend p)
      let cfg := s.preview
      let gated := !s.isoAllowed (s.round + 1)
      let s := s.when gated (fun s => s.bump Cnt.ROUND_ISO_GATED_ROUNDS)
      (forAll allPorts s (fun s p => s.sealSheet cfg gated p)).enginesAtSeal cfg
    else s

end Machine
end Sys2Proof
end

