-- ==== Sys2Proof/Machine/Dispatch.lean ====
section
/-!
DEFINITION. The dispatch of every command to its meaning, one arm per row of the opcode table.
-/
namespace Sys2Proof
namespace Machine

/-- [Log entry 195: DESIGN CHOICE] -/
def exec (i : Instr) (s : State) : Host.Outcome State Fault Refusal :=
  match i with
  | .registerWrite space address mask value => Sys2Proof.Machine.execRegisterWrite space address mask value s
  | .rcRead address => Sys2Proof.Machine.execRcRead address s
  | .nowLoRead => Sys2Proof.Machine.execNowLoRead s
  | .energyLoRead x => Sys2Proof.Machine.execEnergyLoRead x s
  | .operatingLoRead => Sys2Proof.Machine.execOperatingLoRead s
  | .skLinkDown => Sys2Proof.Machine.execSkLinkDown s
  | .skLinkUp => Sys2Proof.Machine.execSkLinkUp s
  | .kpLinkDown => Sys2Proof.Machine.execKpLinkDown s
  | .kpLinkUp => Sys2Proof.Machine.execKpLinkUp s
  | .skLinkTimeout => Sys2Proof.Machine.execSkLinkTimeout s
  | .roundBoundary sample switchTemp keeperTemp => Sys2Proof.Machine.execRoundBoundary sample switchTemp keeperTemp s
  | .collectionMark => Sys2Proof.Machine.execCollectionMark s
  | .sealMark => Sys2Proof.Machine.execSealMark s
  | .roundHeader p ns h => Sys2Proof.Machine.execRoundHeader p ns h s
  | .beat p ns r => Sys2Proof.Machine.execBeat p ns r s
  | .takeover p ns r => Sys2Proof.Machine.execTakeover p ns r s
  | .claim p ns r => Sys2Proof.Machine.execClaim p ns r s
  | .raise p ns r => Sys2Proof.Machine.execRaise p ns r s
  | .swapOffer p ns r => Sys2Proof.Machine.execSwapOffer p ns r s
  | .swapAsk p ns r => Sys2Proof.Machine.execSwapAsk p ns r s
  | .swapAgree p ns r => Sys2Proof.Machine.execSwapAgree p ns r s
  | .swapRefuse p ns r => Sys2Proof.Machine.execSwapRefuse p ns r s
  | .swapGo p ns r => Sys2Proof.Machine.execSwapGo p ns r s
  | .swapReady p ns r => Sys2Proof.Machine.execSwapReady p ns r s
  | .swapCancel p ns r => Sys2Proof.Machine.execSwapCancel p ns r s
  | .swapDeadline => Sys2Proof.Machine.execSwapDeadline s
  | .swapPartyReset => Sys2Proof.Machine.execSwapPartyReset s
  | .delayAsk p seq turnaround => Sys2Proof.Machine.execDelayAsk p seq turnaround s
  | .delayAnswer p seq turnaround ns => Sys2Proof.Machine.execDelayAnswer p seq turnaround ns s
  | .delayAnswerTimeout p => Sys2Proof.Machine.execDelayAnswerTimeout p s
  | .hopDelayMeasure p ns => Sys2Proof.Machine.execHopDelayMeasure p ns s
  | .beatSilenceClaim => Sys2Proof.Machine.execBeatSilenceClaim s
  | .deputyTakeover => Sys2Proof.Machine.execDeputyTakeover s
  | .reserveTakeover => Sys2Proof.Machine.execReserveTakeover s
  | .lockLoss => Sys2Proof.Machine.execLockLoss s
  | .lockedEntry => Sys2Proof.Machine.execLockedEntry s
  | .acquireTimeout => Sys2Proof.Machine.execAcquireTimeout s
  | .holdoverExpired => Sys2Proof.Machine.execHoldoverExpired s
  | .roundNumberWrite => Sys2Proof.Machine.execRoundNumberWrite s
  | .refclkAbsent => Sys2Proof.Machine.execRefclkAbsent s
  | .refclkReturn => Sys2Proof.Machine.execRefclkReturn s
  | .roundMasterSwap h peer mode => Sys2Proof.Machine.execRoundMasterSwap h peer mode s
  | .roundQuery h => Sys2Proof.Machine.execRoundQuery h s
  | .portEnable p en => Sys2Proof.Machine.execPortEnable p en s
  | .blockLock p lane => Sys2Proof.Machine.execBlockLock p lane s
  | .blockLockLoss p lane => Sys2Proof.Machine.execBlockLockLoss p lane s
  | .groupMark p lane farPort txMask rate maskNew groupCount skew blocks => Sys2Proof.Machine.execGroupMark p lane farPort txMask rate maskNew groupCount skew blocks s
  | .codewordUncorrectable p lane headers => Sys2Proof.Machine.execCodewordUncorrectable p lane headers s
  | .train p lane m => Sys2Proof.Machine.execTrain p lane m s
  | .tapReq p t => Sys2Proof.Machine.execTapReq p t s
  | .tapAck p seq lane t => Sys2Proof.Machine.execTapAck p seq lane t s
  | .widthReq p rxChosen restore ns => Sys2Proof.Machine.execWidthReq p rxChosen restore ns s
  | .lanePower p mask mode roundLo => Sys2Proof.Machine.execLanePower p mask mode roundLo s
  | .huntRestart p => Sys2Proof.Machine.execHuntRestart p s
  | .alignStable p => Sys2Proof.Machine.execAlignStable p s
  | .alignTimeout p => Sys2Proof.Machine.execAlignTimeout p s
  | .tuneTimeout p readyLanes => Sys2Proof.Machine.execTuneTimeout p readyLanes s
  | .stepTimeout p => Sys2Proof.Machine.execStepTimeout p s
  | .relockFullTimeout p => Sys2Proof.Machine.execRelockFullTimeout p s
  | .relockHalfTimeout p => Sys2Proof.Machine.execRelockHalfTimeout p s
  | .checkComplete p passed => Sys2Proof.Machine.execCheckComplete p passed s
  | .directionLost p => Sys2Proof.Machine.execDirectionLost p s
  | .laneDegrade p lanes ns => Sys2Proof.Machine.execLaneDegrade p lanes ns s
  | .laneRestore p => Sys2Proof.Machine.execLaneRestore p s
  | .modulePresChange p present => Sys2Proof.Machine.execModulePresChange p present s
  | .moduleInt p => Sys2Proof.Machine.execModuleInt p s
  | .moduleReply p r => Sys2Proof.Machine.execModuleReply p r s
  | .moduleTransactionTimeout p => Sys2Proof.Machine.execModuleTransactionTimeout p s
  | .moduleReadyTimeout p => Sys2Proof.Machine.execModuleReadyTimeout p s
  | .modulePoll p => Sys2Proof.Machine.execModulePoll p s
  | .trunkRetrain h port forceHalf => Sys2Proof.Machine.execTrunkRetrain h port forceHalf s
  | .trunkRetrainTimeout p => Sys2Proof.Machine.execTrunkRetrainTimeout p s
  | .trunkStatus h port => Sys2Proof.Machine.execTrunkStatus h port s
  | .envelope p e m => Sys2Proof.Machine.execEnvelope p e m s
  | .frameLastTimeout p srcPc srcBox seqStamp => Sys2Proof.Machine.execFrameLastTimeout p srcPc srcBox seqStamp s
  | .breakObserved p => Sys2Proof.Machine.execBreakObserved p s
  | .breakWithdrawn p => Sys2Proof.Machine.execBreakWithdrawn p s
  | .steeringSnapshot => Sys2Proof.Machine.execSteeringSnapshot s
  | .hostLinkUp => Sys2Proof.Machine.execHostLinkUp s
  | .hostLinkLoss => Sys2Proof.Machine.execHostLinkLoss s
  | .configuredRootTake => Sys2Proof.Machine.execConfiguredRootTake s
  | .standbyTake => Sys2Proof.Machine.execStandbyTake s
  | .standbyYield => Sys2Proof.Machine.execStandbyYield s
  | .tunnelOpen h box farPc farBox kind cls direction priority weight min ceil => Sys2Proof.Machine.execTunnelOpen h box farPc farBox kind cls direction priority weight min ceil s
  | .tunnelClose h box fwd fwdPc fwdBox fwdInc => Sys2Proof.Machine.execTunnelClose h box fwd fwdPc fwdBox fwdInc s
  | .setForward h box fwdPc fwdBox fwdInc => Sys2Proof.Machine.execSetForward h box fwdPc fwdBox fwdInc s
  | .tunnelAllot h op cls flow srcPc srcBox dstPc dstBox min ceil weight priority => Sys2Proof.Machine.execTunnelAllot h op cls flow srcPc srcBox dstPc dstBox min ceil weight priority s
  | .tunnelQuery h select index => Sys2Proof.Machine.execTunnelQuery h select index s
  | .openRequest srcPc kind cls direction nearBox nearInc farBox min ceil weight priority => Sys2Proof.Machine.execOpenRequest srcPc kind cls direction nearBox nearInc farBox min ceil weight priority s
  | .openAnswer srcPc status farBox farInc nearBox nearInc farFlow => Sys2Proof.Machine.execOpenAnswer srcPc status farBox farInc nearBox nearInc farFlow s
  | .closeRequest srcPc box inc senderBox => Sys2Proof.Machine.execCloseRequest srcPc box inc senderBox s
  | .drainCount srcPc box held => Sys2Proof.Machine.execDrainCount srcPc box held s
  | .openingTimeout box => Sys2Proof.Machine.execOpeningTimeout box s
  | .drainComplete box => Sys2Proof.Machine.execDrainComplete box s
  | .drainDiscard box => Sys2Proof.Machine.execDrainDiscard box s
  | .drainLimit box => Sys2Proof.Machine.execDrainLimit box s
  | .slotStart p slot => Sys2Proof.Machine.execSlotStart p slot s
  | .unitAdmit u => Sys2Proof.Machine.execUnitAdmit u s
  | .unitIncomplete ingress => Sys2Proof.Machine.execUnitIncomplete ingress s
  | .holdRelease ingress tc => Sys2Proof.Machine.execHoldRelease ingress tc s
  | .holdExpired ingress tc => Sys2Proof.Machine.execHoldExpired ingress tc s
  | .unitTransferDone unit mirror => Sys2Proof.Machine.execUnitTransferDone unit mirror s
  | .mirrorCopyTimeout copy => Sys2Proof.Machine.execMirrorCopyTimeout copy s
  | .mirrorSet h session en srcKind destPort src snap destSub mirrorCells => Sys2Proof.Machine.execMirrorSet h session en srcKind destPort src snap destSub mirrorCells s
  | .itemArrival box fromP9 estimate item => Sys2Proof.Machine.execItemArrival box fromP9 estimate item s
  | .sliceEnd e finished written => Sys2Proof.Machine.execSliceEnd e finished written s
  | .itemAbandoned context => Sys2Proof.Machine.execItemAbandoned context s
  | .lockstepMismatch => Sys2Proof.Machine.execLockstepMismatch s
  | .postmasterWatchdog => Sys2Proof.Machine.execPostmasterWatchdog s
  | .engineFault e => Sys2Proof.Machine.execEngineFault e s
  | .engineReturn e => Sys2Proof.Machine.execEngineReturn e s
  | .postRegistered h box payload => Sys2Proof.Machine.execPostRegistered h box payload s
  | .entryWriteDone entry written => Sys2Proof.Machine.execEntryWriteDone entry written s
  | .resend entry => Sys2Proof.Machine.execResend entry s
  | .registeredData ingress srcPc srcBox dstBox dstInc seq payload => Sys2Proof.Machine.execRegisteredData ingress srcPc srcBox dstBox dstInc seq payload s
  | .bridgeConsumed box outcome exception => Sys2Proof.Machine.execBridgeConsumed box outcome exception s
  | .receipt srcPc dstBox dstInc seq passedThru doubtSeq doubtValid => Sys2Proof.Machine.execReceipt srcPc dstBox dstInc seq passedThru doubtSeq doubtValid s
  | .returned dstBox dstInc seq known fwd fwdPc fwdBox fwdInc => Sys2Proof.Machine.execReturned dstBox dstInc seq known fwd fwdPc fwdBox fwdInc s
  | .registryScan => Sys2Proof.Machine.execRegistryScan s
  | .lettersWaiting box => Sys2Proof.Machine.execLettersWaiting box s
  | .registryApportion h items => Sys2Proof.Machine.execRegistryApportion h items s
  | .collect h box max => Sys2Proof.Machine.execCollect h box max s
  | .ackCollected h box thru => Sys2Proof.Machine.execAckCollected h box thru s
  | .registryStatus h box => Sys2Proof.Machine.execRegistryStatus h box s
  | .deadLetterRead h box first max => Sys2Proof.Machine.execDeadLetterRead h box first max s
  | .deadLetterClear h entries => Sys2Proof.Machine.execDeadLetterClear h entries s
  | .parcelClose d pc => Sys2Proof.Machine.execParcelClose d pc s
  | .parcel d pc => Sys2Proof.Machine.execParcel d pc s
  | .playoutTime d postmark errorNs => Sys2Proof.Machine.execPlayoutTime d postmark errorNs s
  | .hpdPlug d rate lanes => Sys2Proof.Machine.execHpdPlug d rate lanes s
  | .hpdUnplug d => Sys2Proof.Machine.execHpdUnplug d s
  | .irqHpd d => Sys2Proof.Machine.execIrqHpd d s
  | .capabilityCopy d dpcd edid => Sys2Proof.Machine.execCapabilityCopy d dpcd edid s
  | .auxRequest d k => Sys2Proof.Machine.execAuxRequest d k s
  | .auxReply d reply => Sys2Proof.Machine.execAuxReply d reply s
  | .ssdEnumerate classOk behindSwitch ready namespaces sizes gen width => Sys2Proof.Machine.execSsdEnumerate classOk behindSwitch ready namespaces sizes gen width s
  | .ssdReadyTimeout => Sys2Proof.Machine.execSsdReadyTimeout s
  | .vfSubmission vf admin opcode vnsid lba count => Sys2Proof.Machine.execVfSubmission vf admin opcode vnsid lba count s
  | .remoteCompletion command status => Sys2Proof.Machine.execRemoteCompletion command status s
  | .cmdTimeout command => Sys2Proof.Machine.execCmdTimeout command s
  | .vfFlr vf => Sys2Proof.Machine.execVfFlr vf s
  | .ethernetFrame sub f => Sys2Proof.Machine.execEthernetFrame sub f s
  | .pf1TxDoorbell q tail frames => Sys2Proof.Machine.execPf1TxDoorbell q tail frames s
  | .etherLink sub link remoteFault => Sys2Proof.Machine.execEtherLink sub link remoteFault s
  | .transferRequest tree k => Sys2Proof.Machine.execTransferRequest tree k s
  | .transferCompletion tree transfer code => Sys2Proof.Machine.execTransferCompletion tree transfer code s
  | .xferTimeout tree transfer => Sys2Proof.Machine.execXferTimeout tree transfer s
  | .configureEndpoint tree bytes packets => Sys2Proof.Machine.execConfigureEndpoint tree bytes packets s
  | .keepAliveSend tree => Sys2Proof.Machine.execKeepAliveSend tree s
  | .keepAlive tree => Sys2Proof.Machine.execKeepAlive tree s
  | .treeLost tree => Sys2Proof.Machine.execTreeLost tree s
  | .setPortFeaturePortPower n => Sys2Proof.Machine.execSetPortFeaturePortPower n s
  | .clearPortFeaturePortPower n => Sys2Proof.Machine.execClearPortFeaturePortPower n s
  | .setPortFeaturePortReset n => Sys2Proof.Machine.execSetPortFeaturePortReset n s
  | .clearPortFeaturePortEnable n => Sys2Proof.Machine.execClearPortFeaturePortEnable n s
  | .suspendRequest n => Sys2Proof.Machine.execSuspendRequest n s
  | .clearPortFeaturePortSuspend n => Sys2Proof.Machine.execClearPortFeaturePortSuspend n s
  | .hostResume n => Sys2Proof.Machine.execHostResume n s
  | .remoteWake n => Sys2Proof.Machine.execRemoteWake n s
  | .usbAttach n => Sys2Proof.Machine.execUsbAttach n s
  | .ssLinkU0 n gen2 => Sys2Proof.Machine.execSsLinkU0 n gen2 s
  | .usb2Connect n speed => Sys2Proof.Machine.execUsb2Connect n speed s
  | .connectFail n => Sys2Proof.Machine.execConnectFail n s
  | .usbDetach n => Sys2Proof.Machine.execUsbDetach n s
  | .linkRecoveryFail n => Sys2Proof.Machine.execLinkRecoveryFail n s
  | .sendCommand packet => Sys2Proof.Machine.execSendCommand packet s
  | .getReceipt tag wLength => Sys2Proof.Machine.execGetReceipt tag wLength s
  | .getState => Sys2Proof.Machine.execGetState s
  | .svcStatusAck written => Sys2Proof.Machine.execSvcStatusAck written s
  | .dataStagePause partialBytes => Sys2Proof.Machine.execDataStagePause partialBytes s
  | .svcBusReset partialBytes => Sys2Proof.Machine.execSvcBusReset partialBytes s
  | .setConfiguration wakeEnabled => Sys2Proof.Machine.execSetConfiguration wakeEnabled s
  | .svcInTransfer receipt => Sys2Proof.Machine.execSvcInTransfer receipt s
  | .svcRemoteWake => Sys2Proof.Machine.execSvcRemoteWake s
  | .canFrameRx bus f remote => Sys2Proof.Machine.execCanFrameRx bus f remote s
  | .canMessage box seq f wellFormed => Sys2Proof.Machine.execCanMessage box seq f wellFormed s
  | .canHoldTimeout bus => Sys2Proof.Machine.execCanHoldTimeout bus s
  | .busOff bus => Sys2Proof.Machine.execBusOff bus s
  | .busOn bus => Sys2Proof.Machine.execBusOn bus s
  | .regTxLimitExpiry bus => Sys2Proof.Machine.execRegTxLimitExpiry bus s
  | .modbusRequest bus r frameOk => Sys2Proof.Machine.execModbusRequest bus r frameOk s
  | .readAnswer box m => Sys2Proof.Machine.execReadAnswer box m s
  | .writeAnswer box m => Sys2Proof.Machine.execWriteAnswer box m s
  | .fetchTimeout tag => Sys2Proof.Machine.execFetchTimeout tag s
  | .readAhead range shape => Sys2Proof.Machine.execReadAhead range shape s
  | .readAheadStop range shape => Sys2Proof.Machine.execReadAheadStop range shape s
  | .confirmUnclaimed tag => Sys2Proof.Machine.execConfirmUnclaimed tag s
  | .masterBusMessage box seq m wellFormed => Sys2Proof.Machine.execMasterBusMessage box seq m wellFormed s
  | .modbusResponse bus exception data => Sys2Proof.Machine.execModbusResponse bus exception data s
  | .respTimeout bus => Sys2Proof.Machine.execRespTimeout bus s
  | .routeWrite h items => Sys2Proof.Machine.execRouteWrite h items s
  | .routeRead h mode count first bus ide id => Sys2Proof.Machine.execRouteRead h mode count first bus ide id s
  | .rangeWrite h items => Sys2Proof.Machine.execRangeWrite h items s
  | .sqTail q tail fetched => Sys2Proof.Machine.execSqTail q tail fetched s
  | .cqHead q head => Sys2Proof.Machine.execCqHead q head s
  | .pf0Flr => Sys2Proof.Machine.execPf0Flr s
  | .pf0FetchTimeout q sub => Sys2Proof.Machine.execPf0FetchTimeout q sub s
  | .commandMessage srcPc via repeat_ originPath packet => Sys2Proof.Machine.execCommandMessage srcPc via repeat_ originPath packet s
  | .receiptMessage srcPc originPath hostSeq status flags data => Sys2Proof.Machine.execReceiptMessage srcPc originPath hostSeq status flags data s
  | .noticeMessage code number srcPc postmark body => Sys2Proof.Machine.execNoticeMessage code number srcPc postmark body s
  | .relayTimeout path hostSeq => Sys2Proof.Machine.execRelayTimeout path hostSeq s
  | .remoteEntryFree entry => Sys2Proof.Machine.execRemoteEntryFree entry s
  | .mgmtAppend bytes => Sys2Proof.Machine.execMgmtAppend bytes s
  | .mgmtSubmit => Sys2Proof.Machine.execMgmtSubmit s
  | .mgmtEmpty => Sys2Proof.Machine.execMgmtEmpty s
  | .mgmtStateRead => Sys2Proof.Machine.execMgmtStateRead s
  | .mgmtReceiptRead => Sys2Proof.Machine.execMgmtReceiptRead s
  | .mgmtNoticeRead => Sys2Proof.Machine.execMgmtNoticeRead s
  | .mgmtGetReceipt tag => Sys2Proof.Machine.execMgmtGetReceipt tag s
  | .mgmtAssemblyTimeout => Sys2Proof.Machine.execMgmtAssemblyTimeout s
  | .nop h bytes => Sys2Proof.Machine.execNop h bytes s
  | .identify h => Sys2Proof.Machine.execIdentify h s
  | .hubStatus h => Sys2Proof.Machine.execHubStatus h s
  | .readFeature h address => Sys2Proof.Machine.execReadFeature h address s
  | .writeFeature h address mask value => Sys2Proof.Machine.execWriteFeature h address mask value s
  | .readBlock h block offset count => Sys2Proof.Machine.execReadBlock h block offset count s
  | .stage h set flags entries => Sys2Proof.Machine.execStage h set flags entries s
  | .check h set => Sys2Proof.Machine.execCheck h set s
  | .apply h set round => Sys2Proof.Machine.execApply h set round s
  | .discard h set => Sys2Proof.Machine.execDiscard h set s
  | .stageStatus h set => Sys2Proof.Machine.execStageStatus h set s
  | .resetHub h kind => Sys2Proof.Machine.execResetHub h kind s
  | .topoScan h => Sys2Proof.Machine.execTopoScan h s
  | .assignPostcode h postcode force serial => Sys2Proof.Machine.execAssignPostcode h postcode force serial s
  | .pwrinStatus h => Sys2Proof.Machine.execPwrinStatus h s
  | .pwrinRetryClear h input => Sys2Proof.Machine.execPwrinRetryClear h input s
  | .pdStatus h port => Sys2Proof.Machine.execPdStatus h port s
  | .pdRoleSwap h port => Sys2Proof.Machine.execPdRoleSwap h port s
  | .pdPolicy h port policy => Sys2Proof.Machine.execPdPolicy h port policy s
  | .pstateStatus h => Sys2Proof.Machine.execPstateStatus h s
  | .keyLetter h l => Sys2Proof.Machine.execKeyLetter h l s
  | .keySlotInfo h slot => Sys2Proof.Machine.execKeySlotInfo h slot s
  | .attest h nonce => Sys2Proof.Machine.execAttest h nonce s
  | .zeroise h confirm => Sys2Proof.Machine.execZeroise h confirm s
  | .zeroisationComplete pairConsistent => Sys2Proof.Machine.execZeroisationComplete pairConsistent s
  | .debugUnlock h t => Sys2Proof.Machine.execDebugUnlock h t s
  | .recorderFreeze h => Sys2Proof.Machine.execRecorderFreeze h s
  | .recorderRead h first count => Sys2Proof.Machine.execRecorderRead h first count s
  | .recorderThaw h => Sys2Proof.Machine.execRecorderThaw h s
  | .scrubStatus h => Sys2Proof.Machine.execScrubStatus h s
  | .fwStageImage h offset data verified => Sys2Proof.Machine.execFwStageImage h offset data verified s
  | .fwActivate h slot image => Sys2Proof.Machine.execFwActivate h slot image s
  | .inputWindowExit x high withTrip => Sys2Proof.Machine.execInputWindowExit x high withTrip s
  | .inputWindowEntry x rampMet => Sys2Proof.Machine.execInputWindowEntry x rampMet s
  | .pathEnWrite x en => Sys2Proof.Machine.execPathEnWrite x en s
  | .rampComplete x => Sys2Proof.Machine.execRampComplete x s
  | .currentLimitEngage x => Sys2Proof.Machine.execCurrentLimitEngage x s
  | .currentLimitRelease x => Sys2Proof.Machine.execCurrentLimitRelease x s
  | .faultTimerExpiry x tOn => Sys2Proof.Machine.execFaultTimerExpiry x tOn s
  | .fastTrip x tOn => Sys2Proof.Machine.execFastTrip x tOn s
  | .reverseCurrent x => Sys2Proof.Machine.execReverseCurrent x s
  | .blockingRecovery x rampMet => Sys2Proof.Machine.execBlockingRecovery x rampMet s
  | .switchShort x => Sys2Proof.Machine.execSwitchShort x s
  | .coolDownEnd x rampMet => Sys2Proof.Machine.execCoolDownEnd x rampMet s
  | .retryCountReset x => Sys2Proof.Machine.execRetryCountReset x s
  | .latchRelease x => Sys2Proof.Machine.execLatchRelease x s
  | .busGoodChange good => Sys2Proof.Machine.execBusGoodChange good s
  | .powerFailWarning => Sys2Proof.Machine.execPowerFailWarning s
  | .pfwRelease => Sys2Proof.Machine.execPfwRelease s
  | .undervoltageTrip => Sys2Proof.Machine.execUndervoltageTrip s
  | .keeperSample sample => Sys2Proof.Machine.execKeeperSample sample s
  | .typecAttach p asSource rp => Sys2Proof.Machine.execTypecAttach p asSource rp s
  | .typecDetach p => Sys2Proof.Machine.execTypecDetach p s
  | .offerRequestTimeout p => Sys2Proof.Machine.execOfferRequestTimeout p s
  | .pdBudgetWrite mask value => Sys2Proof.Machine.execPdBudgetWrite mask value s
  | .request p object current => Sys2Proof.Machine.execRequest p object current s
  | .sourceCapabilities p amps5V dualRole => Sys2Proof.Machine.execSourceCapabilities p amps5V dualRole s
  | .getSourceCap p => Sys2Proof.Machine.execGetSourceCap p s
  | .getSinkCap p => Sys2Proof.Machine.execGetSinkCap p s
  | .prSwap p => Sys2Proof.Machine.execPrSwap p s
  | .drSwap p => Sys2Proof.Machine.execDrSwap p s
  | .vconnSwap p => Sys2Proof.Machine.execVconnSwap p s
  | .softReset p => Sys2Proof.Machine.execSoftReset p s
  | .hardReset p => Sys2Proof.Machine.execHardReset p s
  | .psRdy p => Sys2Proof.Machine.execPsRdy p s
  | .swapAnswer p answer => Sys2Proof.Machine.execSwapAnswer p answer s
  | .unlistedPdMessage p => Sys2Proof.Machine.execUnlistedPdMessage p s
  | .pdTimerExpiry p => Sys2Proof.Machine.execPdTimerExpiry p s
  | .vbusTransitionDone p => Sys2Proof.Machine.execVbusTransitionDone p s
  | .vbusTransitionTimeout p => Sys2Proof.Machine.execVbusTransitionTimeout p s
  | .vbusOvercurrent p => Sys2Proof.Machine.execVbusOvercurrent p s
  | .vbusOvervoltage p => Sys2Proof.Machine.execVbusOvervoltage p s
  | .vbusUndervoltage p => Sys2Proof.Machine.execVbusUndervoltage p s
  | .vbusBeforeEnable p => Sys2Proof.Machine.execVbusBeforeEnable p s
  | .errorRecoveryEnd p => Sys2Proof.Machine.execErrorRecoveryEnd p s
  | .servicePowerEntry => Sys2Proof.Machine.execServicePowerEntry s
  | .serviceNoCaps => Sys2Proof.Machine.execServiceNoCaps s
  | .domainReqWrite mask value => Sys2Proof.Machine.execDomainReqWrite mask value s
  | .railEnable => Sys2Proof.Machine.execRailEnable s
  | .domainSupplyGood d pipesOk => Sys2Proof.Machine.execDomainSupplyGood d pipesOk s
  | .domainSupplyTimeout d => Sys2Proof.Machine.execDomainSupplyTimeout d s
  | .domainSupplyLoss d => Sys2Proof.Machine.execDomainSupplyLoss d s
  | .coreFaultCycle => Sys2Proof.Machine.execCoreFaultCycle s
  | .idleExpiry => Sys2Proof.Machine.execIdleExpiry s
  | .go => Sys2Proof.Machine.execGo s
  | .dormantEntry => Sys2Proof.Machine.execDormantEntry s
  | .wakeMgmt address also => Sys2Proof.Machine.execWakeMgmt address also s
  | .wakeService also => Sys2Proof.Machine.execWakeService also s
  | .wakePortAttach p also => Sys2Proof.Machine.execWakePortAttach p also s
  | .wakeRemote n also => Sys2Proof.Machine.execWakeRemote n also s
  | .wakeSupply x also => Sys2Proof.Machine.execWakeSupply x also s
  | .wakeTimer also => Sys2Proof.Machine.execWakeTimer also s
  | .wakeReady seconds => Sys2Proof.Machine.execWakeReady seconds s
  | .lockoutEnd => Sys2Proof.Machine.execLockoutEnd s
  | .entropyHealthFail => Sys2Proof.Machine.execEntropyHealthFail s
  | .keeperSelfTestDone tests => Sys2Proof.Machine.execKeeperSelfTestDone tests s
  | .correctableError m address => Sys2Proof.Machine.execCorrectableError m address s
  | .uncorrectableError m address r => Sys2Proof.Machine.execUncorrectableError m address r s
  | .scrubVisit m address corrected overtaken => Sys2Proof.Machine.execScrubVisit m address corrected overtaken s
  | .scrubLate m => Sys2Proof.Machine.execScrubLate m s
  | .imageReloadDone passed => Sys2Proof.Machine.execImageReloadDone passed s
  | .recorderUpdate sample => Sys2Proof.Machine.execRecorderUpdate sample s
  | .recorderAutoThaw => Sys2Proof.Machine.execRecorderAutoThaw s
  | .resetNAssert => Sys2Proof.Machine.execResetNAssert s
  | .resetNRelease => Sys2Proof.Machine.execResetNRelease s
  | .powerOn => Sys2Proof.Machine.execPowerOn s
  | .keeperRelease lost => Sys2Proof.Machine.execKeeperRelease lost s
  | .imageVerified slot image => Sys2Proof.Machine.execImageVerified slot image s
  | .bootFlashTimeout slot => Sys2Proof.Machine.execBootFlashTimeout slot s
  | .trialEnd => Sys2Proof.Machine.execTrialEnd s
  | .dieOvertemp => Sys2Proof.Machine.execDieOvertemp s
  | .overtempRecovery => Sys2Proof.Machine.execOvertempRecovery s
  | .safeEnd => Sys2Proof.Machine.execSafeEnd s
  | .tuneReady p => Sys2Proof.Machine.execTuneReady p s
  | .cellCycle => Sys2Proof.Machine.execCellCycle s
  | .ssdCompletion command status => Sys2Proof.Machine.execSsdCompletion command status s
  | .ssdFault => Sys2Proof.Machine.execSsdFault s
  | .canTxComplete bus => Sys2Proof.Machine.execCanTxComplete bus s
  | .svcSuspend => Sys2Proof.Machine.execSvcSuspend s
  | .svcHostResume => Sys2Proof.Machine.execSvcHostResume s
  | .nrHead head => Sys2Proof.Machine.execNrHead head s
  | .keepLoss => Sys2Proof.Machine.execKeepLoss s
  | .portResetComplete n speed => Sys2Proof.Machine.execPortResetComplete n speed s

end Machine
end Sys2Proof
end

