-- ==== Sys2Proof/Machine/Step.lean ====
section
/-!
DEFINITION. One step: the command at the front of the queue takes its effect; with no command waiting a codeword group passes.
-/
namespace Sys2Proof
namespace Machine

/-- One step: the command at the front runs with the rest of the queue; on an empty queue the time of one codeword group passes on every trunk port (R85). [Log entry 1: DESIGN CHOICE] -/
def step (s : State) : Host.Outcome State Fault Refusal :=
  match s.pending with
  | [] => .next s.groupTick
  | c :: rest => exec c { s with pending := rest }

/-- The machine with the command that a word of the opcode table spells at the front of its queue. [Log entry 2: DESIGN CHOICE] -/
def State.withFetchWord (s : State) (nbits w : Nat) : State :=
  match decodeTableWord nbits w with
  | some c => { s with pending := c :: s.pending }
  | none => s

end Machine
end Sys2Proof
end

