-- ==== Sys2Proof/Safety.lean ====
section
/-!
DEFINITION. The terms in which statements about runs are made: the parts of the state, what it is for a part to be left as it
was, and the canonical form of the register file.
-/
namespace Sys2Proof
namespace Machine

/-- The parts of the state that a frame speaks of; the queue of waiting commands is none of them. -/
inductive Part
  | regs | shadow | out | seed | rt | cmd | link | tun | sw | eng | reg | bridge | media | usb | power | pd | ps | sec | mem
  | recorder | boot
deriving DecidableEq, Repr

/-- The part stands in `t` as it stood in `s`. -/
def Part.same (s t : State) : Part → Prop
  | .regs => t.regs = s.regs
  | .shadow => t.shadow = s.shadow
  | .out => t.out = s.out
  | .seed => t.seed = s.seed
  | .rt => t.rt = s.rt
  | .cmd => t.cmd = s.cmd
  | .link => t.link = s.link
  | .tun => t.tun = s.tun
  | .sw => t.sw = s.sw
  | .eng => t.eng = s.eng
  | .reg => t.reg = s.reg
  | .bridge => t.bridge = s.bridge
  | .media => t.media = s.media
  | .usb => t.usb = s.usb
  | .power => t.power = s.power
  | .pd => t.pd = s.pd
  | .ps => t.ps = s.ps
  | .sec => t.sec = s.sec
  | .mem => t.mem = s.mem
  | .recorder => t.recorder = s.recorder
  | .boot => t.boot = s.boot

/-- The register file in its canonical form: addresses strictly rising, and no entry equal to the register's reset word. -/
def State.regsWf (s : State) : Prop := mwf s.regs = true ∧ ∀ e ∈ s.regs, e.2 ≠ resetWord e.1

/-- What every operation over the state keeps, with the parts it may change: the queue of waiting commands stands, the
register file keeps its canonical form, what the hub has put out is never taken back, the counter of free values never goes
back, and every part that is not named stands. -/
structure Within (parts : List Part) (s t : State) : Prop where
  queue : t.pending = s.pending
  form : s.regsWf → t.regsWf
  outGrows : s.out <:+ t.out
  seedGrows : s.seed ≤ t.seed
  frame : ∀ p, p ∉ parts → Part.same s t p

/-- The state a meaning answers; the state it began in where it answers none. -/
def after (o : Result) (s : State) : State :=
  match o with
  | .next t => t
  | _ => s

/-- The command answers a next state, and that state is as the test says. -/
def Does (c : Instr) (s : State) (post : State → Prop) : Prop := ∃ t, exec c s = .next t ∧ post t

/-- The two cases of a command: where the guard holds it answers a state as the test says; where not, the state as it was. -/
def Acts (c : Instr) (s : State) (guard : Prop) (post : State → Prop) : Prop :=
  (guard → Does c s post) ∧ (¬ guard → exec c s = .next s)

/-- Every register outside a list of addresses reads as it did. -/
def RegsBut (l : List Nat) (s t : State) : Prop := ∀ a, a ∉ l → t.word a = s.word a

/-- The port, time, TYPE and record of a command that is a flooded round-control record (R49, R51). -/
def recordOf : Instr → Option (PortId × Ns × Nat × Rec)
  | .beat p ns r => some (p, ns, 0x01, r)
  | .takeover p ns r => some (p, ns, 0x02, r)
  | .claim p ns r => some (p, ns, 0x03, r)
  | .raise p ns r => some (p, ns, 0x04, r)
  | .swapOffer p ns r => some (p, ns, 0x10, r)
  | .swapAsk p ns r => some (p, ns, 0x11, r)
  | .swapAgree p ns r => some (p, ns, 0x12, r)
  | .swapRefuse p ns r => some (p, ns, 0x13, r)
  | .swapGo p ns r => some (p, ns, 0x14, r)
  | .swapReady p ns r => some (p, ns, 0x15, r)
  | .swapCancel p ns r => some (p, ns, 0x16, r)
  | _ => none

/-- A flooded record comes to an ACTIVE port whole, with hops left, and is the first copy (R51, R90). -/
def Heard (s : State) (p : PortId) (type : Nat) (r : Rec) : Prop :=
  s.streams p = true ∧ recIntact type r = true ∧ r.hops.val ≠ 0 ∧ s.rt.flooded.contains (recId type r) = false

/-- The state once such a record has been noted and relayed, and the floors raised to what it names (R51, R53). -/
def State.relayed (s : State) (p : PortId) (ns : Ns) (type : Nat) (r : Rec) : State :=
  let u := (s.at ns.val).setRt { (s.at ns.val).rt with flooded := recId type r :: s.rt.flooded }
  let u := u.flood type { r with hops := Fin.ofNat 512 (r.hops.val - 1) } (some p)
  (u.noteKnown p type r.epoch.toNat).raiseFloor r.round.val r.epoch.toNat

/-- The message of a command that is a USB Power Delivery message which comes to a port (R391, R394), but Soft_Reset. -/
def pdMsgOf : Instr → Option PdMsg
  | .request m _ _ => some m
  | .sourceCapabilities m _ _ => some m
  | .getSourceCap m => some m
  | .getSinkCap m => some m
  | .drSwap m => some m
  | .vconnSwap m => some m
  | .unlistedPdMessage m => some m
  | .prSwap m => some m
  | .psRdy m => some m
  | .swapAnswer m _ => some m
  | _ => none

/-- A message of USB Power Delivery comes whole to an attached port, and is not the repeat of the last one (R394). -/
def PdHeard (s : State) (m : PdMsg) : Prop :=
  s.attachedPd m.port.val = true ∧ m.crcOk = true ∧ (s.pdPort m.port.val).lastId ≠ some m.id.val

/-- The state once such a message has been answered with GoodCRC and its MessageID kept (R394). -/
def State.pdHeard (s : State) (m : PdMsg) : State :=
  (s.pdSend m.port.val "GoodCRC").updPd m.port.val (fun x => { x with lastId := some m.id.val, retries := 0 })

/-- Every part but power. -/
def allButPower : List Part :=
  [.regs, .shadow, .out, .seed, .rt, .cmd, .link, .tun, .sw, .eng, .reg, .bridge, .media, .usb, .pd, .ps, .sec, .mem, .recorder, .boot]

/-- Every part but seed, power, pd, sec, recorder. -/
def powerDownParts : List Part :=
  [.regs, .shadow, .out, .rt, .cmd, .link, .tun, .sw, .eng, .reg, .bridge, .media, .usb, .ps, .mem, .boot]

/-- Every part of the state. -/
def allParts : List Part :=
  [.regs, .shadow, .out, .seed, .rt, .cmd, .link, .tun, .sw, .eng, .reg, .bridge, .media, .usb, .power, .pd, .ps, .sec, .mem, .recorder, .boot]

/-- The parts a command may change, whatever the state and the operands; every other part stands. -/
def touches : Instr → List Part
  | .registerWrite _ _ _ _ => allParts
  | .rcRead _ => [.regs, .out]
  | .nowLoRead => [.regs, .out]
  | .energyLoRead _ => [.regs, .out]
  | .operatingLoRead => [.regs, .out]
  | .skLinkDown => [.regs, .out, .cmd, .eng, .boot]
  | .skLinkUp => [.regs, .reg]
  | .kpLinkDown => [.regs, .out, .cmd, .eng]
  | .kpLinkUp => allParts
  | .skLinkTimeout => allButPower
  | .roundBoundary _ _ _ => allParts
  | .collectionMark => [.regs, .shadow, .out, .seed, .rt, .cmd, .tun, .eng]
  | .sealMark => [.regs, .out, .seed, .rt, .cmd, .link, .tun, .eng]
  | .roundHeader _ _ _ => [.regs, .out, .rt, .cmd, .link, .tun, .eng]
  | .beat _ _ _ => [.regs, .out, .rt, .cmd, .link, .eng]
  | .takeover _ _ _ => [.regs, .out, .rt, .cmd, .link, .eng]
  | .claim _ _ _ => [.regs, .out, .rt, .cmd, .link, .eng]
  | .raise _ _ _ => [.regs, .out, .rt, .link]
  | .swapOffer _ _ _ => [.regs, .out, .rt, .cmd, .link, .eng]
  | .swapAsk _ _ _ => [.regs, .out, .rt, .cmd, .link, .eng]
  | .swapAgree _ _ _ => [.regs, .out, .rt, .link]
  | .swapRefuse _ _ _ => [.regs, .out, .rt, .cmd, .link, .eng]
  | .swapGo _ _ _ => [.regs, .out, .rt, .link]
  | .swapReady _ _ _ => [.regs, .out, .rt, .link]
  | .swapCancel _ _ _ => [.regs, .out, .rt, .cmd, .link, .eng]
  | .swapDeadline => [.regs, .out, .rt, .cmd, .eng]
  | .swapPartyReset => [.regs, .out, .rt, .cmd, .eng]
  | .delayAsk _ _ _ => [.out, .link]
  | .delayAnswer _ _ _ _ => [.regs, .rt]
  | .delayAnswerTimeout _ => [.regs, .rt]
  | .hopDelayMeasure _ _ => [.out, .rt, .link]
  | .beatSilenceClaim => [.rt]
  | .deputyTakeover => [.rt]
  | .reserveTakeover => [.rt]
  | .lockLoss => [.regs, .out, .rt, .cmd, .eng]
  | .lockedEntry => [.regs, .out, .rt, .cmd, .eng]
  | .acquireTimeout => [.regs, .out, .rt, .cmd, .eng]
  | .holdoverExpired => [.regs, .out, .rt, .cmd, .eng]
  | .roundNumberWrite => [.rt, .power, .mem]
  | .refclkAbsent => powerDownParts
  | .refclkReturn => allButPower
  | .roundMasterSwap _ _ _ => [.regs, .out, .rt, .cmd, .eng, .ps, .mem]
  | .roundQuery _ => [.regs, .out, .cmd, .eng, .ps, .mem]
  | .portEnable _ _ => [.regs, .out, .seed, .cmd, .link, .tun, .eng]
  | .blockLock _ _ => [.regs, .out, .cmd, .link, .tun, .eng]
  | .blockLockLoss _ _ => [.regs, .out, .link]
  | .groupMark _ _ _ _ _ _ _ _ _ => [.regs, .out, .cmd, .link, .tun, .eng]
  | .codewordUncorrectable _ _ _ => [.regs, .link]
  | .train _ _ _ => [.regs, .out, .cmd, .link, .tun, .eng]
  | .tapReq _ _ => [.regs, .link]
  | .tapAck _ _ _ _ => [.regs, .link]
  | .widthReq _ _ _ _ => [.regs, .out, .rt, .cmd, .link, .tun, .eng]
  | .lanePower _ _ _ _ => [.regs, .link]
  | .huntRestart _ => [.regs, .link]
  | .alignStable _ => [.regs, .out, .cmd, .link, .tun, .eng]
  | .alignTimeout _ => [.regs, .out, .seed, .cmd, .link, .tun, .eng]
  | .tuneTimeout _ _ => [.regs, .out, .seed, .cmd, .link, .tun, .eng]
  | .stepTimeout _ => [.regs, .out, .cmd, .link, .tun, .eng]
  | .relockFullTimeout _ => [.regs, .out, .cmd, .link, .tun, .eng]
  | .relockHalfTimeout _ => [.regs, .out, .seed, .cmd, .link, .tun, .eng]
  | .checkComplete _ _ => [.regs, .out, .seed, .cmd, .link, .tun, .eng]
  | .directionLost _ => [.regs, .out, .seed, .cmd, .link, .tun, .eng]
  | .laneDegrade _ _ _ => [.regs, .rt, .link]
  | .laneRestore _ => [.link]
  | .modulePresChange _ _ => [.regs, .out, .cmd, .link, .eng]
  | .moduleInt _ => [.out]
  | .moduleReply _ _ => [.regs, .out, .cmd, .link, .eng]
  | .moduleTransactionTimeout _ => [.regs, .out, .cmd, .link, .eng]
  | .moduleReadyTimeout _ => [.regs, .out, .cmd, .link, .eng]
  | .modulePoll _ => [.out]
  | .trunkRetrain _ _ _ => [.regs, .out, .seed, .cmd, .link, .tun, .eng, .ps, .mem]
  | .trunkRetrainTimeout _ => [.regs, .out, .cmd, .eng]
  | .trunkStatus _ _ => [.regs, .out, .cmd, .eng, .ps, .mem]
  | .envelope _ _ _ => [.regs, .out, .cmd, .link, .tun, .eng]
  | .frameLastTimeout _ _ _ _ => [.regs, .out, .cmd, .link, .sw, .eng]
  | .breakObserved _ => [.regs, .out, .cmd, .link, .eng]
  | .breakWithdrawn _ => [.regs, .out, .cmd, .link, .eng]
  | .steeringSnapshot => [.link]
  | .hostLinkUp => [.link]
  | .hostLinkLoss => [.regs, .out, .cmd, .link, .eng]
  | .configuredRootTake => [.regs, .out, .cmd, .link, .eng]
  | .standbyTake => [.regs, .out, .cmd, .link, .eng]
  | .standbyYield => [.regs, .out, .cmd, .link, .eng]
  | .tunnelOpen _ _ _ _ _ _ _ _ _ _ _ => [.regs, .out, .cmd, .tun, .sw, .eng, .reg, .ps, .mem]
  | .tunnelClose _ _ _ _ _ _ => [.regs, .out, .cmd, .tun, .sw, .eng, .reg, .bridge, .ps, .mem]
  | .setForward _ _ _ _ _ => [.regs, .out, .cmd, .tun, .eng, .ps, .mem]
  | .tunnelAllot _ _ _ _ _ _ _ _ _ _ _ _ => [.regs, .out, .cmd, .tun, .eng, .ps, .mem]
  | .tunnelQuery _ _ _ => [.regs, .out, .cmd, .tun, .eng, .ps, .mem]
  | .openRequest _ _ _ _ _ _ _ _ _ _ _ => [.regs, .out, .cmd, .tun, .sw, .eng, .reg, .bridge, .ps, .mem]
  | .openAnswer _ _ _ _ _ _ _ => [.regs, .out, .cmd, .tun, .sw, .eng, .reg, .bridge, .ps, .mem]
  | .closeRequest _ _ _ _ => [.regs, .out, .cmd, .tun, .sw, .eng, .reg, .bridge, .ps, .mem]
  | .drainCount _ _ _ => [.tun]
  | .openingTimeout _ => [.regs, .out, .cmd, .tun, .sw, .eng, .reg, .bridge, .ps, .mem]
  | .drainComplete _ => [.regs, .out, .cmd, .tun, .sw, .eng, .reg, .bridge, .ps, .mem]
  | .drainDiscard _ => [.regs, .out, .cmd, .tun, .sw, .eng]
  | .drainLimit _ => [.regs, .out, .cmd, .tun, .sw, .eng, .reg, .bridge, .ps, .mem]
  | .slotStart _ _ => [.regs, .out, .seed, .cmd, .link, .tun, .sw, .eng]
  | .unitAdmit _ => [.regs, .out, .cmd, .tun, .sw, .eng]
  | .unitIncomplete _ => [.regs]
  | .holdRelease _ _ => [.regs, .out, .cmd, .tun, .sw, .eng]
  | .holdExpired _ _ => [.regs, .tun, .sw]
  | .unitTransferDone _ _ => [.regs, .out, .cmd, .sw, .eng]
  | .mirrorCopyTimeout _ => [.regs, .out, .cmd, .sw, .eng]
  | .mirrorSet _ _ _ _ _ _ _ _ _ => [.regs, .out, .cmd, .sw, .eng, .ps, .mem]
  | .itemArrival _ _ _ _ => [.regs, .out, .eng, .media]
  | .sliceEnd _ _ _ => [.regs, .eng]
  | .itemAbandoned _ => [.regs, .out, .cmd, .eng]
  | .lockstepMismatch => allButPower
  | .postmasterWatchdog => allButPower
  | .engineFault _ => [.regs, .out, .cmd, .eng]
  | .engineReturn _ => [.regs]
  | .postRegistered _ _ _ => [.regs, .out, .cmd, .eng, .reg, .ps, .mem]
  | .entryWriteDone _ _ => [.regs, .out, .cmd, .tun, .sw, .eng, .reg, .bridge, .ps]
  | .resend _ => [.regs, .out, .cmd, .tun, .sw, .eng, .reg, .ps]
  | .registeredData _ _ _ _ _ _ _ => [.regs, .out, .cmd, .sw, .eng, .reg, .ps]
  | .bridgeConsumed _ _ _ => [.regs, .out, .cmd, .sw, .eng, .reg, .bridge]
  | .receipt _ _ _ _ _ _ _ => [.regs, .reg]
  | .returned _ _ _ _ _ _ _ _ => [.regs, .reg]
  | .registryScan => [.regs, .out, .cmd, .eng, .reg]
  | .lettersWaiting _ => [.regs, .out, .cmd, .eng, .reg]
  | .registryApportion _ _ => [.regs, .out, .cmd, .eng, .reg, .ps, .mem]
  | .collect _ _ _ => [.regs, .out, .cmd, .eng, .reg, .ps, .mem]
  | .ackCollected _ _ _ => [.regs, .out, .cmd, .sw, .eng, .reg, .ps, .mem]
  | .registryStatus _ _ => [.regs, .out, .cmd, .eng, .ps, .mem]
  | .deadLetterRead _ _ _ _ => [.regs, .out, .cmd, .eng, .ps, .mem]
  | .deadLetterClear _ _ => [.regs, .out, .cmd, .eng, .reg, .ps, .mem]
  | .parcelClose _ _ => [.regs, .out, .media]
  | .parcel _ _ => [.regs, .media]
  | .playoutTime _ _ _ => [.regs, .out, .cmd, .eng, .media]
  | .hpdPlug _ _ _ => [.regs, .out, .cmd, .eng, .media]
  | .hpdUnplug _ => [.regs, .out, .cmd, .eng, .media]
  | .irqHpd _ => [.regs, .out, .media]
  | .capabilityCopy _ _ _ => [.regs, .media]
  | .auxRequest _ _ => [.regs, .out, .cmd, .eng, .media]
  | .auxReply _ _ => [.out, .media]
  | .ssdEnumerate _ _ _ _ _ _ _ => [.regs, .out, .cmd, .eng, .media]
  | .ssdReadyTimeout => [.regs, .out, .cmd, .eng]
  | .vfSubmission _ _ _ _ _ _ => [.regs, .out, .media]
  | .remoteCompletion _ _ => [.regs, .out, .media]
  | .cmdTimeout _ => [.regs, .out, .cmd, .eng, .media]
  | .vfFlr _ => [.regs, .out, .media]
  | .ethernetFrame _ _ => [.regs, .out]
  | .pf1TxDoorbell _ _ _ => [.regs, .out, .media]
  | .etherLink _ _ _ => [.regs, .out, .cmd, .sw, .eng]
  | .transferRequest _ _ => [.out, .usb]
  | .transferCompletion _ _ _ => [.regs, .out, .usb]
  | .xferTimeout _ _ => [.regs, .out, .usb]
  | .configureEndpoint _ _ _ => [.out]
  | .keepAliveSend _ => [.out, .usb]
  | .keepAlive _ => [.regs, .out, .cmd, .eng, .usb]
  | .treeLost _ => [.regs, .out, .cmd, .eng, .usb, .ps]
  | .setPortFeaturePortPower _ => [.regs, .out, .cmd, .eng, .ps]
  | .clearPortFeaturePortPower _ => [.regs, .out, .cmd, .eng, .usb, .ps]
  | .setPortFeaturePortReset _ => [.regs, .out, .usb]
  | .clearPortFeaturePortEnable _ => [.regs, .out, .cmd, .eng, .ps]
  | .suspendRequest _ => [.regs, .out, .cmd, .eng, .usb, .ps]
  | .clearPortFeaturePortSuspend _ => [.regs, .out, .usb]
  | .hostResume _ => [.regs, .out, .usb]
  | .remoteWake _ => [.regs, .out, .cmd, .eng, .usb, .ps]
  | .usbAttach _ => [.usb]
  | .ssLinkU0 _ _ => [.regs, .out, .cmd, .eng, .usb, .ps]
  | .usb2Connect _ _ => [.regs, .out, .cmd, .eng, .usb, .ps]
  | .connectFail _ => [.regs, .usb]
  | .usbDetach _ => [.regs, .out, .cmd, .eng, .usb, .ps]
  | .linkRecoveryFail _ => [.regs, .out, .cmd, .eng, .ps]
  | .sendCommand _ => [.regs, .out, .cmd]
  | .getReceipt _ _ => [.regs, .out, .cmd]
  | .getState => [.out]
  | .svcStatusAck _ => [.regs, .out, .cmd, .eng, .ps, .mem]
  | .dataStagePause _ => [.regs]
  | .svcBusReset _ => [.regs, .out, .cmd, .eng, .ps]
  | .setConfiguration _ => [.regs, .out, .cmd, .eng, .ps]
  | .svcInTransfer _ => [.regs, .out, .cmd, .eng]
  | .svcRemoteWake => [.regs, .out, .cmd]
  | .canFrameRx _ _ _ => [.regs, .out, .cmd, .tun, .sw, .eng, .reg, .bridge]
  | .canMessage _ _ _ _ => [.regs, .out, .cmd, .sw, .eng, .reg, .bridge]
  | .canHoldTimeout _ => [.regs, .out, .cmd, .eng, .bridge]
  | .busOff _ => [.regs, .out, .cmd, .sw, .eng, .reg, .bridge]
  | .busOn _ => [.regs, .out, .cmd, .eng]
  | .regTxLimitExpiry _ => [.regs, .out, .cmd, .sw, .eng, .reg, .bridge]
  | .modbusRequest _ _ _ => [.regs, .out, .cmd, .tun, .sw, .eng, .reg, .bridge]
  | .readAnswer _ _ => [.regs, .bridge]
  | .writeAnswer _ _ => [.regs, .bridge]
  | .fetchTimeout _ => [.regs, .bridge]
  | .readAhead _ _ => [.regs, .out, .cmd, .tun, .sw, .eng, .bridge]
  | .readAheadStop _ _ => [.bridge]
  | .confirmUnclaimed _ => [.regs, .bridge]
  | .masterBusMessage _ _ _ _ => [.regs, .out, .cmd, .tun, .sw, .eng, .reg, .bridge, .ps]
  | .modbusResponse _ _ _ => [.regs, .out, .cmd, .tun, .sw, .eng, .reg, .bridge, .ps]
  | .respTimeout _ => [.regs, .out, .cmd, .tun, .sw, .eng, .reg, .bridge, .ps]
  | .routeWrite _ _ => [.regs, .shadow, .out, .cmd, .eng, .ps, .mem]
  | .routeRead _ _ _ _ _ _ _ => [.regs, .out, .cmd, .eng, .ps, .mem]
  | .rangeWrite _ _ => [.regs, .shadow, .out, .cmd, .eng, .ps, .mem]
  | .sqTail _ _ _ => [.regs, .out, .cmd, .eng, .ps, .mem]
  | .cqHead _ _ => [.regs, .out, .cmd, .eng, .ps, .mem]
  | .pf0Flr => [.cmd]
  | .pf0FetchTimeout _ _ => [.regs, .out, .cmd, .eng]
  | .commandMessage _ _ _ _ _ => [.regs, .out, .cmd, .eng, .ps, .mem]
  | .receiptMessage _ _ _ _ _ _ => [.regs, .out, .cmd, .eng]
  | .noticeMessage _ _ _ _ _ => [.regs, .out, .cmd]
  | .relayTimeout _ _ => [.regs, .out, .cmd, .eng]
  | .remoteEntryFree _ => [.regs, .cmd]
  | .mgmtAppend _ => [.regs, .out, .cmd]
  | .mgmtSubmit => [.regs, .out, .cmd, .eng, .ps, .mem]
  | .mgmtEmpty => [.out, .cmd]
  | .mgmtStateRead => [.out]
  | .mgmtReceiptRead => [.out, .cmd]
  | .mgmtNoticeRead => [.regs, .out, .cmd, .eng]
  | .mgmtGetReceipt _ => [.regs, .out, .cmd]
  | .mgmtAssemblyTimeout => [.regs, .cmd]
  | .nop _ _ => [.regs, .out, .cmd, .eng, .ps, .mem]
  | .identify _ => [.regs, .out, .cmd, .eng, .ps, .mem]
  | .hubStatus _ => [.regs, .out, .cmd, .eng, .ps, .mem]
  | .readFeature _ _ => [.regs, .out, .cmd, .eng, .ps, .mem]
  | .writeFeature _ _ _ _ => allParts
  | .readBlock _ _ _ _ => [.regs, .out, .cmd, .eng, .ps, .mem]
  | .stage _ _ _ _ => [.regs, .out, .cmd, .eng, .ps, .mem]
  | .check _ _ => [.regs, .out, .cmd, .eng, .ps, .mem]
  | .apply _ _ _ => [.regs, .out, .cmd, .eng, .ps, .mem]
  | .discard _ _ => [.regs, .out, .cmd, .eng, .ps, .mem]
  | .stageStatus _ _ => [.regs, .out, .cmd, .eng, .ps, .mem]
  | .resetHub _ _ => [.regs, .out, .cmd, .eng, .ps, .mem, .boot]
  | .topoScan _ => [.regs, .out, .cmd, .eng, .ps, .mem]
  | .assignPostcode _ _ _ _ => [.regs, .out, .cmd, .eng, .ps, .mem]
  | .pwrinStatus _ => [.regs, .out, .cmd, .eng, .ps, .mem]
  | .pwrinRetryClear _ _ => allParts
  | .pdStatus _ _ => [.regs, .out, .cmd, .eng, .ps, .mem]
  | .pdRoleSwap _ _ => [.regs, .out, .cmd, .eng, .pd, .ps, .mem]
  | .pdPolicy _ _ _ => [.regs, .out, .cmd, .eng, .pd, .ps, .mem]
  | .pstateStatus _ => [.regs, .out, .cmd, .eng, .ps, .mem]
  | .keyLetter _ _ => [.regs, .out, .cmd, .eng, .ps, .sec, .mem]
  | .keySlotInfo _ _ => [.regs, .out, .cmd, .eng, .ps, .mem]
  | .attest _ _ => [.regs, .out, .seed, .cmd, .eng, .ps, .mem]
  | .zeroise _ _ => [.regs, .out, .cmd, .eng, .ps, .sec, .mem]
  | .zeroisationComplete _ => allButPower
  | .debugUnlock _ _ => [.regs, .out, .cmd, .link, .tun, .eng, .ps, .sec, .mem, .boot]
  | .recorderFreeze _ => [.regs, .out, .cmd, .eng, .ps, .mem, .recorder]
  | .recorderRead _ _ _ => [.regs, .out, .cmd, .eng, .ps, .mem]
  | .recorderThaw _ => [.regs, .out, .cmd, .eng, .ps, .mem, .recorder]
  | .scrubStatus _ => [.regs, .out, .cmd, .eng, .ps, .mem]
  | .fwStageImage _ _ _ _ => [.regs, .out, .cmd, .eng, .ps, .mem]
  | .fwActivate _ _ _ => [.regs, .out, .seed, .cmd, .eng, .ps, .mem, .boot]
  | .inputWindowExit _ _ _ => allParts
  | .inputWindowEntry _ _ => allParts
  | .pathEnWrite _ _ => allParts
  | .rampComplete _ => allParts
  | .currentLimitEngage _ => [.regs, .power]
  | .currentLimitRelease _ => allButPower
  | .faultTimerExpiry _ _ => allParts
  | .fastTrip _ _ => allParts
  | .reverseCurrent _ => allParts
  | .blockingRecovery _ _ => allParts
  | .switchShort _ => allParts
  | .coolDownEnd _ _ => allParts
  | .retryCountReset _ => [.regs]
  | .latchRelease _ => allParts
  | .busGoodChange _ => allParts
  | .powerFailWarning => [.regs, .out, .rt, .cmd, .eng, .power, .pd, .mem, .recorder]
  | .pfwRelease => [.regs, .out, .cmd, .eng]
  | .undervoltageTrip => allParts
  | .keeperSample _ => [.regs, .power, .recorder, .boot]
  | .typecAttach _ _ _ => [.regs, .out, .cmd, .eng, .pd, .ps]
  | .typecDetach _ => [.regs, .shadow, .out, .rt, .cmd, .link, .tun, .sw, .eng, .reg, .bridge, .media, .usb, .pd, .ps, .mem]
  | .offerRequestTimeout _ => [.regs, .out, .cmd, .eng, .usb, .pd, .ps]
  | .pdBudgetWrite _ _ => [.shadow, .out]
  | .request _ _ _ => [.regs, .out, .cmd, .eng, .pd]
  | .sourceCapabilities _ _ _ => [.regs, .out, .pd]
  | .getSourceCap _ => [.regs, .out, .pd]
  | .getSinkCap _ => [.regs, .out, .pd]
  | .prSwap _ => [.regs, .out, .cmd, .eng, .pd]
  | .drSwap _ => [.regs, .out, .pd]
  | .vconnSwap _ => [.regs, .out, .pd]
  | .softReset _ => [.regs, .out, .pd]
  | .hardReset _ => [.regs, .out, .cmd, .eng, .usb, .pd, .ps]
  | .psRdy _ => [.regs, .out, .cmd, .eng, .pd]
  | .swapAnswer _ _ => [.regs, .out, .cmd, .eng, .pd]
  | .unlistedPdMessage _ => [.regs, .out, .pd]
  | .pdTimerExpiry _ => [.regs, .out, .cmd, .eng, .usb, .pd, .ps]
  | .vbusTransitionDone _ => [.regs, .out, .cmd, .eng, .pd]
  | .vbusTransitionTimeout _ => [.regs, .out, .cmd, .eng, .usb, .pd, .ps]
  | .vbusOvercurrent _ => [.regs, .out, .cmd, .eng, .usb, .pd, .ps]
  | .vbusOvervoltage _ => [.regs, .out, .cmd, .eng, .usb, .pd, .ps]
  | .vbusUndervoltage _ => [.regs, .out, .cmd, .eng, .usb, .pd, .ps]
  | .vbusBeforeEnable _ => [.regs, .out, .cmd, .eng, .usb, .pd, .ps]
  | .errorRecoveryEnd _ => [.regs, .pd]
  | .servicePowerEntry => [.regs, .out, .cmd, .eng, .ps]
  | .serviceNoCaps => [.regs, .out, .cmd, .eng, .ps]
  | .domainReqWrite _ _ => [.regs, .shadow, .out, .ps]
  | .railEnable => [.regs, .ps]
  | .domainSupplyGood _ _ => [.regs, .out, .seed, .rt, .cmd, .link, .tun, .eng, .sec, .mem, .boot]
  | .domainSupplyTimeout _ => powerDownParts
  | .domainSupplyLoss _ => powerDownParts
  | .coreFaultCycle => allButPower
  | .idleExpiry => [.ps]
  | .go => [.regs, .out, .ps]
  | .dormantEntry => [.regs, .out, .rt, .cmd, .link, .tun, .sw, .eng, .reg, .bridge, .media, .usb, .power, .ps, .mem]
  | .wakeMgmt _ _ => [.regs, .out, .ps]
  | .wakeService _ => [.regs, .ps]
  | .wakePortAttach _ _ => [.regs, .ps]
  | .wakeRemote _ _ => [.regs, .ps]
  | .wakeSupply _ _ => [.regs, .ps]
  | .wakeTimer _ => [.regs, .ps]
  | .wakeReady _ => [.regs, .out, .rt, .cmd, .eng, .ps, .mem]
  | .lockoutEnd => [.regs]
  | .entropyHealthFail => [.regs, .out, .cmd, .eng]
  | .keeperSelfTestDone _ => [.regs, .out, .cmd, .eng, .ps, .boot]
  | .correctableError _ _ => [.regs, .mem]
  | .uncorrectableError _ _ _ => allParts
  | .scrubVisit _ _ _ _ => [.regs, .out, .cmd, .sw, .eng, .mem]
  | .scrubLate _ => [.regs, .mem]
  | .imageReloadDone _ => allButPower
  | .recorderUpdate _ => [.regs, .link, .sw, .reg, .mem, .recorder]
  | .recorderAutoThaw => [.regs, .out, .cmd, .eng, .recorder]
  | .resetNAssert => [.regs, .shadow, .out, .rt, .cmd, .link, .tun, .sw, .eng, .reg, .bridge, .media, .usb, .ps, .sec, .mem, .boot]
  | .resetNRelease => allButPower
  | .powerOn => allParts
  | .keeperRelease _ => allParts
  | .imageVerified _ _ => [.regs, .out, .seed, .rt, .cmd, .tun, .eng, .reg, .ps, .boot]
  | .bootFlashTimeout _ => [.regs, .out, .cmd, .eng, .boot]
  | .trialEnd => [.regs]
  | .dieOvertemp => powerDownParts
  | .overtempRecovery => allButPower
  | .safeEnd => allButPower
  | .tuneReady _ => [.regs, .out, .cmd, .link, .tun, .eng]
  | .cellCycle => [.regs, .out, .cmd, .tun, .sw, .eng]
  | .ssdCompletion _ _ => [.regs, .out, .media]
  | .ssdFault => [.regs, .out, .cmd, .eng, .media]
  | .canTxComplete _ => [.regs, .out, .bridge]
  | .svcSuspend => [.regs, .out, .cmd, .eng, .ps]
  | .svcHostResume => [.regs, .out, .cmd, .eng, .ps]
  | .nrHead _ => [.regs, .out, .cmd, .eng]
  | .keepLoss => allParts
  | .portResetComplete _ _ => [.regs, .out, .cmd, .eng, .usb, .ps]

/-- The header, the opcode and the parameters of a command that is a command packet's opcode (R340, R364); no other command has one. -/
def packetOf : Instr → Option (CmdHdr × Nat × List Byte)
  | .registerWrite _ _ _ _ => none
  | .rcRead _ => none
  | .nowLoRead => none
  | .energyLoRead _ => none
  | .operatingLoRead => none
  | .skLinkDown => none
  | .skLinkUp => none
  | .kpLinkDown => none
  | .kpLinkUp => none
  | .skLinkTimeout => none
  | .roundBoundary _ _ _ => none
  | .collectionMark => none
  | .sealMark => none
  | .roundHeader _ _ _ => none
  | .beat _ _ _ => none
  | .takeover _ _ _ => none
  | .claim _ _ _ => none
  | .raise _ _ _ => none
  | .swapOffer _ _ _ => none
  | .swapAsk _ _ _ => none
  | .swapAgree _ _ _ => none
  | .swapRefuse _ _ _ => none
  | .swapGo _ _ _ => none
  | .swapReady _ _ _ => none
  | .swapCancel _ _ _ => none
  | .swapDeadline => none
  | .swapPartyReset => none
  | .delayAsk _ _ _ => none
  | .delayAnswer _ _ _ _ => none
  | .delayAnswerTimeout _ => none
  | .hopDelayMeasure _ _ => none
  | .beatSilenceClaim => none
  | .deputyTakeover => none
  | .reserveTakeover => none
  | .lockLoss => none
  | .lockedEntry => none
  | .acquireTimeout => none
  | .holdoverExpired => none
  | .roundNumberWrite => none
  | .refclkAbsent => none
  | .refclkReturn => none
  | .roundMasterSwap h peer mode => some (h, 0x0110, leBytes 2 peer.toNat ++ [mode, 0])
  | .roundQuery h => some (h, 0x0111, [])
  | .portEnable _ _ => none
  | .blockLock _ _ => none
  | .blockLockLoss _ _ => none
  | .groupMark _ _ _ _ _ _ _ _ _ => none
  | .codewordUncorrectable _ _ _ => none
  | .train _ _ _ => none
  | .tapReq _ _ => none
  | .tapAck _ _ _ _ => none
  | .widthReq _ _ _ _ => none
  | .lanePower _ _ _ _ => none
  | .huntRestart _ => none
  | .alignStable _ => none
  | .alignTimeout _ => none
  | .tuneTimeout _ _ => none
  | .stepTimeout _ => none
  | .relockFullTimeout _ => none
  | .relockHalfTimeout _ => none
  | .checkComplete _ _ => none
  | .directionLost _ => none
  | .laneDegrade _ _ _ => none
  | .laneRestore _ => none
  | .modulePresChange _ _ => none
  | .moduleInt _ => none
  | .moduleReply _ _ => none
  | .moduleTransactionTimeout _ => none
  | .moduleReadyTimeout _ => none
  | .modulePoll _ => none
  | .trunkRetrain h port forceHalf => some (h, 0x0120, [port, forceHalf, 0, 0])
  | .trunkRetrainTimeout _ => none
  | .trunkStatus h port => some (h, 0x0121, [port, 0, 0, 0])
  | .envelope _ _ _ => none
  | .frameLastTimeout _ _ _ _ => none
  | .breakObserved _ => none
  | .breakWithdrawn _ => none
  | .steeringSnapshot => none
  | .hostLinkUp => none
  | .hostLinkLoss => none
  | .configuredRootTake => none
  | .standbyTake => none
  | .standbyYield => none
  | .tunnelOpen h box farPc farBox kind cls direction priority weight min ceil =>
    some (h, 0x0200, leBytes 2 box.toNat ++ leBytes 2 farPc.toNat ++ leBytes 2 farBox.toNat ++ [kind, cls, direction, priority, weight, 0] ++ leBytes 2 min.toNat ++ leBytes 2 ceil.toNat)
  | .tunnelClose h box fwd fwdPc fwdBox fwdInc =>
    some (h, 0x0201, leBytes 2 box.toNat ++ [fwd, 0] ++ leBytes 2 fwdPc.toNat ++ leBytes 2 fwdBox.toNat ++ leBytes 2 fwdInc.toNat)
  | .setForward h box fwdPc fwdBox fwdInc =>
    some (h, 0x0204, leBytes 2 box.toNat ++ leBytes 2 fwdPc.toNat ++ leBytes 2 fwdBox.toNat ++ leBytes 2 fwdInc.toNat)
  | .tunnelAllot h op cls flow srcPc srcBox dstPc dstBox min ceil weight priority =>
    some (h, 0x0202, [op, cls] ++ leBytes 2 flow.toNat ++ leBytes 2 srcPc.toNat ++ leBytes 2 srcBox.toNat ++ leBytes 2 dstPc.toNat ++ leBytes 2 dstBox.toNat ++ leBytes 2 min.toNat ++ leBytes 2 ceil.toNat ++ [weight, priority])
  | .tunnelQuery h select index => some (h, 0x0203, [select, 0] ++ leBytes 2 index.toNat)
  | .openRequest _ _ _ _ _ _ _ _ _ _ _ => none
  | .openAnswer _ _ _ _ _ _ _ => none
  | .closeRequest _ _ _ _ => none
  | .drainCount _ _ _ => none
  | .openingTimeout _ => none
  | .drainComplete _ => none
  | .drainDiscard _ => none
  | .drainLimit _ => none
  | .slotStart _ _ => none
  | .unitAdmit _ => none
  | .unitIncomplete _ => none
  | .holdRelease _ _ => none
  | .holdExpired _ _ => none
  | .unitTransferDone _ _ => none
  | .mirrorCopyTimeout _ => none
  | .mirrorSet h session en srcKind destPort src snap destSub mirrorCells =>
    some (h, 0x0205, [session, en, srcKind, destPort] ++ leBytes 2 src.toNat ++ leBytes 2 snap.toNat ++ [destSub, 0] ++ leBytes 2 mirrorCells.toNat)
  | .itemArrival _ _ _ _ => none
  | .sliceEnd _ _ _ => none
  | .itemAbandoned _ => none
  | .lockstepMismatch => none
  | .postmasterWatchdog => none
  | .engineFault _ => none
  | .engineReturn _ => none
  | .postRegistered h box payload => some (h, 0x0301, leBytes 2 box.toNat ++ leBytes 1 payload.length ++ [0] ++ payload)
  | .entryWriteDone _ _ => none
  | .resend _ => none
  | .registeredData _ _ _ _ _ _ _ => none
  | .bridgeConsumed _ _ _ => none
  | .receipt _ _ _ _ _ _ _ => none
  | .returned _ _ _ _ _ _ _ _ => none
  | .registryScan => none
  | .lettersWaiting _ => none
  | .registryApportion h items =>
    some (h, 0x0300, leBytes 1 items.length ++ [0] ++ items.flatMap (fun i => leBytes 2 i.box.toNat ++ leBytes 2 i.r.toNat ++ leBytes 2 i.m.toNat ++ [i.notify, 0]))
  | .collect h box max => some (h, 0x0302, leBytes 2 box.toNat ++ [max, 0])
  | .ackCollected h box thru => some (h, 0x0303, leBytes 2 box.toNat ++ [0, 0] ++ leBytes 4 thru.toNat)
  | .registryStatus h box => some (h, 0x0304, leBytes 2 box.toNat ++ [0, 0])
  | .deadLetterRead h box first max => some (h, 0x0305, leBytes 2 box.toNat ++ leBytes 2 first.toNat ++ [max, 0, 0, 0])
  | .deadLetterClear h entries => some (h, 0x0306, leBytes 1 entries.length ++ [0] ++ entries.flatMap (fun e => leBytes 2 e.toNat))
  | .parcelClose _ _ => none
  | .parcel _ _ => none
  | .playoutTime _ _ _ => none
  | .hpdPlug _ _ _ => none
  | .hpdUnplug _ => none
  | .irqHpd _ => none
  | .capabilityCopy _ _ _ => none
  | .auxRequest _ _ => none
  | .auxReply _ _ => none
  | .ssdEnumerate _ _ _ _ _ _ _ => none
  | .ssdReadyTimeout => none
  | .vfSubmission _ _ _ _ _ _ => none
  | .remoteCompletion _ _ => none
  | .cmdTimeout _ => none
  | .vfFlr _ => none
  | .ethernetFrame _ _ => none
  | .pf1TxDoorbell _ _ _ => none
  | .etherLink _ _ _ => none
  | .transferRequest _ _ => none
  | .transferCompletion _ _ _ => none
  | .xferTimeout _ _ => none
  | .configureEndpoint _ _ _ => none
  | .keepAliveSend _ => none
  | .keepAlive _ => none
  | .treeLost _ => none
  | .setPortFeaturePortPower _ => none
  | .clearPortFeaturePortPower _ => none
  | .setPortFeaturePortReset _ => none
  | .clearPortFeaturePortEnable _ => none
  | .suspendRequest _ => none
  | .clearPortFeaturePortSuspend _ => none
  | .hostResume _ => none
  | .remoteWake _ => none
  | .usbAttach _ => none
  | .ssLinkU0 _ _ => none
  | .usb2Connect _ _ => none
  | .connectFail _ => none
  | .usbDetach _ => none
  | .linkRecoveryFail _ => none
  | .sendCommand _ => none
  | .getReceipt _ _ => none
  | .getState => none
  | .svcStatusAck _ => none
  | .dataStagePause _ => none
  | .svcBusReset _ => none
  | .setConfiguration _ => none
  | .svcInTransfer _ => none
  | .svcRemoteWake => none
  | .canFrameRx _ _ _ => none
  | .canMessage _ _ _ _ => none
  | .canHoldTimeout _ => none
  | .busOff _ => none
  | .busOn _ => none
  | .regTxLimitExpiry _ => none
  | .modbusRequest _ _ _ => none
  | .readAnswer _ _ => none
  | .writeAnswer _ _ => none
  | .fetchTimeout _ => none
  | .readAhead _ _ => none
  | .readAheadStop _ _ => none
  | .confirmUnclaimed _ => none
  | .masterBusMessage _ _ _ _ => none
  | .modbusResponse _ _ _ => none
  | .respTimeout _ => none
  | .routeWrite h items =>
    some (h, 0x0400, leBytes 1 items.length ++ [0] ++ items.flatMap (fun i => leBytes 2 i.1.toNat ++ leBytes 4 i.2.1.toNat ++ leBytes 4 i.2.2.toNat))
  | .routeRead h mode count first bus ide id => some (h, 0x0401, [mode, count] ++ leBytes 2 first.toNat ++ [bus, ide, 0, 0] ++ leBytes 4 id.toNat)
  | .rangeWrite h items =>
    some (h, 0x0402, leBytes 1 items.length ++ [0] ++ items.flatMap (fun i => [i.1, 0] ++ leBytes 4 i.2.1.toNat ++ leBytes 4 i.2.2.1.toNat ++ leBytes 4 i.2.2.2.1.toNat ++ leBytes 4 i.2.2.2.2.toNat))
  | .sqTail _ _ _ => none
  | .cqHead _ _ => none
  | .pf0Flr => none
  | .pf0FetchTimeout _ _ => none
  | .commandMessage _ _ _ _ _ => none
  | .receiptMessage _ _ _ _ _ _ => none
  | .noticeMessage _ _ _ _ _ => none
  | .relayTimeout _ _ => none
  | .remoteEntryFree _ => none
  | .mgmtAppend _ => none
  | .mgmtSubmit => none
  | .mgmtEmpty => none
  | .mgmtStateRead => none
  | .mgmtReceiptRead => none
  | .mgmtNoticeRead => none
  | .mgmtGetReceipt _ => none
  | .mgmtAssemblyTimeout => none
  | .nop h bytes => some (h, 0x0001, bytes)
  | .identify h => some (h, 0x0002, [])
  | .hubStatus h => some (h, 0x0003, [])
  | .readFeature h address => some (h, 0x0010, leBytes 4 address.toNat)
  | .writeFeature h address mask value => some (h, 0x0011, leBytes 4 address.toNat ++ leBytes 4 mask.toNat ++ leBytes 4 value.toNat)
  | .readBlock h block offset count => some (h, 0x0012, leBytes 2 block.toNat ++ leBytes 2 offset.toNat ++ leBytes 2 count.toNat)
  | .stage h set flags entries => some (h, 0x0020, stageParams set flags entries)
  | .check h set => some (h, 0x0021, [set, 0, 0, 0])
  | .apply h set round => some (h, 0x0022, [set, 0] ++ leBytes 6 round.toNat)
  | .discard h set => some (h, 0x0023, [set, 0, 0, 0])
  | .stageStatus h set => some (h, 0x0024, [set, 0, 0, 0])
  | .resetHub h kind => some (h, 0x0030, [kind, 0, 0, 0])
  | .topoScan h => some (h, 0x0100, [])
  | .assignPostcode h postcode force serial => some (h, 0x0101, leBytes 2 postcode.toNat ++ [force, 0] ++ leBytes 16 serial.toNat)
  | .pwrinStatus h => some (h, 0x0500, [])
  | .pwrinRetryClear h input => some (h, 0x0501, [input, 0, 0, 0])
  | .pdStatus h port => some (h, 0x0510, [port, 0, 0, 0])
  | .pdRoleSwap h port => some (h, 0x0511, [port, 0, 0, 0])
  | .pdPolicy h port policy => some (h, 0x0512, [port, 0, 0, 0] ++ policyBytes policy)
  | .pstateStatus h => some (h, 0x0521, [])
  | .keyLetter h l => some (h, 0x0600, l.bytes)
  | .keySlotInfo h slot => some (h, 0x0601, [slot, 0, 0, 0])
  | .attest h nonce => some (h, 0x0602, nonce)
  | .zeroise h confirm => some (h, 0x0603, leBytes 4 confirm.toNat)
  | .zeroisationComplete _ => none
  | .debugUnlock h t => some (h, 0x0604, t.bytes)
  | .recorderFreeze h => some (h, 0x0700, [])
  | .recorderRead h first count => some (h, 0x0701, leBytes 2 first.toNat ++ leBytes 2 count.toNat)
  | .recorderThaw h => some (h, 0x0702, [])
  | .scrubStatus h => some (h, 0x0710, [])
  | .fwStageImage h offset data _ => some (h, 0x0F00, leBytes 4 offset.toNat ++ data)
  | .fwActivate h slot _ => some (h, 0x0F01, [slot, 0, 0, 0])
  | .inputWindowExit _ _ _ => none
  | .inputWindowEntry _ _ => none
  | .pathEnWrite _ _ => none
  | .rampComplete _ => none
  | .currentLimitEngage _ => none
  | .currentLimitRelease _ => none
  | .faultTimerExpiry _ _ => none
  | .fastTrip _ _ => none
  | .reverseCurrent _ => none
  | .blockingRecovery _ _ => none
  | .switchShort _ => none
  | .coolDownEnd _ _ => none
  | .retryCountReset _ => none
  | .latchRelease _ => none
  | .busGoodChange _ => none
  | .powerFailWarning => none
  | .pfwRelease => none
  | .undervoltageTrip => none
  | .keeperSample _ => none
  | .typecAttach _ _ _ => none
  | .typecDetach _ => none
  | .offerRequestTimeout _ => none
  | .pdBudgetWrite _ _ => none
  | .request _ _ _ => none
  | .sourceCapabilities _ _ _ => none
  | .getSourceCap _ => none
  | .getSinkCap _ => none
  | .prSwap _ => none
  | .drSwap _ => none
  | .vconnSwap _ => none
  | .softReset _ => none
  | .hardReset _ => none
  | .psRdy _ => none
  | .swapAnswer _ _ => none
  | .unlistedPdMessage _ => none
  | .pdTimerExpiry _ => none
  | .vbusTransitionDone _ => none
  | .vbusTransitionTimeout _ => none
  | .vbusOvercurrent _ => none
  | .vbusOvervoltage _ => none
  | .vbusUndervoltage _ => none
  | .vbusBeforeEnable _ => none
  | .errorRecoveryEnd _ => none
  | .servicePowerEntry => none
  | .serviceNoCaps => none
  | .domainReqWrite _ _ => none
  | .railEnable => none
  | .domainSupplyGood _ _ => none
  | .domainSupplyTimeout _ => none
  | .domainSupplyLoss _ => none
  | .coreFaultCycle => none
  | .idleExpiry => none
  | .go => none
  | .dormantEntry => none
  | .wakeMgmt _ _ => none
  | .wakeService _ => none
  | .wakePortAttach _ _ => none
  | .wakeRemote _ _ => none
  | .wakeSupply _ _ => none
  | .wakeTimer _ => none
  | .wakeReady _ => none
  | .lockoutEnd => none
  | .entropyHealthFail => none
  | .keeperSelfTestDone _ => none
  | .correctableError _ _ => none
  | .uncorrectableError _ _ _ => none
  | .scrubVisit _ _ _ _ => none
  | .scrubLate _ => none
  | .imageReloadDone _ => none
  | .recorderUpdate _ => none
  | .recorderAutoThaw => none
  | .resetNAssert => none
  | .resetNRelease => none
  | .powerOn => none
  | .keeperRelease _ => none
  | .imageVerified _ _ => none
  | .bootFlashTimeout _ => none
  | .trialEnd => none
  | .dieOvertemp => none
  | .overtempRecovery => none
  | .safeEnd => none
  | .tuneReady _ => none
  | .cellCycle => none
  | .ssdCompletion _ _ => none
  | .ssdFault => none
  | .canTxComplete _ => none
  | .svcSuspend => none
  | .svcHostResume => none
  | .nrHead _ => none
  | .keepLoss => none
  | .portResetComplete _ _ => none

/-- A packet of these parameters passes every check and its execution begins at once on this hub (R343 to R350, R357): `k` is its entry and
`u` the state in which its effect is taken. -/
structure OpensWith (s : State) (h : CmdHdr) (op : Nat) (params : List Byte) (k : Nat) (u : State) : Prop where
  ready : s.ready = true
  lengthOk : hdrLengthOk h = true
  fieldsOk : hdrFieldsOk h = true
  linkUp : s.skUp = true
  new : s.admission h op = .new
  room : s.entryFree h.path.val = true
  here : ∃ v, s.enter h op params 4080 = some (k, v) ∧ v.blocked k = false ∧ v.forThisHub h = true ∧
    u = v.updEntry k (fun e => { e with started := true })
  paramsOk : paramLenOk op h.paramLen = true
  permitted : u.opPermitted h op = true

/-- The command is a packet that opens so. -/
def Opens (c : Instr) (s : State) (k : Nat) (u : State) : Prop :=
  match packetOf c with
  | some (h, op, params) => OpensWith s h op params k u
  | none => False

end Machine
end Sys2Proof
end

