-- ==== Sys2Proof/Certificates/Slice0/Obligations.lean ====
section
/-!
DEFINITION. What is stated of the model: the step and its frame, reset, the command book's sequence numbers, the registers, and then
family by family that every command of the table completes and what state it completes in.
-/
open Sys2Proof Sys2Proof.Machine

/-- A command at the front of the queue runs on the state with the rest of the queue. On an empty queue a codeword group passes on
every trunk port: that an empty queue stands for this time is the model's own choice (DESIGN CHOICE, log entry 1). -/
def Obligations.StepRunsFront : Prop :=
  (∀ (c : Instr) (s : State), step { s with pending := c :: s.pending } = exec c s) ∧
    ∀ s : State, s.pending = [] → step s = .next s.groupTick

/-- Every step takes exactly the front command from the queue, and what the hub has put out only grows. -/
def Obligations.StepConsumes : Prop :=
  ∀ s : State, ∃ t, step s = .next t ∧ t.pending = s.pending.tail ∧ s.out <:+ t.out ∧ s.seed ≤ t.seed

/-- Every command of the table, in every state, ends in a next state; it changes no part of the state outside the parts `touches`
names for it, leaves the waiting commands alone, takes back nothing the hub has put out, and never moves the counter of free
values back. -/
def Obligations.CommandFrame : Prop :=
  ∀ (c : Instr) (s : State), ∃ t, exec c s = .next t ∧ Within (touches c) s t

/-- The register file keeps its canonical form through every step: addresses strictly rising, no entry equal to the reset word of
its register, so that equal register contents are equal data. -/
def Obligations.RegisterFormKept : Prop :=
  ∀ s t : State, s.regsWf → step s = .next t → t.regsWf

/-- Reset leaves no command waiting, nothing put out, no staging set, no book entry and no shadow; the register file is in its canonical
form; every register holds the value of its Reset column (`resetWord`), but for the attributes of the key slots loaded since
manufacture (R423), which are LOADED with the kinds and the DEST of R423.
Rests on the model's choices of log entries 4. -/
def Obligations.ResetState : Prop :=
  State.reset.regsWf ∧ State.reset.pending = [] ∧ State.reset.out = [] ∧ State.reset.shadow = [] ∧
    State.reset.cmd.sets = [] ∧ State.reset.cmd.book = [] ∧
    (∀ a, a ≠ Reg.SLOT_ATTR 0 → a ≠ Reg.SLOT_ATTR 1 → a ≠ Reg.SLOT_ATTR 3 → State.reset.word a = resetWord a) ∧
    (∀ i ∈ ([0, 1, 3] : List Nat), State.reset.get (Reg.SLOT_ATTR_STATE i) = 1) ∧
    State.reset.get (Reg.SLOT_ATTR_KIND 0) = 1 ∧ State.reset.get (Reg.SLOT_ATTR_KIND 1) = 1 ∧ State.reset.get (Reg.SLOT_ATTR_KIND 3) = 2 ∧
    State.reset.get (Reg.SLOT_ATTR_DEST 0) = 16 ∧ State.reset.get (Reg.SLOT_ATTR_DEST 1) = 32 ∧ State.reset.get (Reg.SLOT_ATTR_DEST 3) = 8

/-- How a path handles the HOST_SEQ of a packet that passes the checks before it (R343, R346, R350): not before the hub takes
packets; a DONE entry's receipt again; a RUNNING entry with BUSY_RETRY; a sequence number that has passed, or another
command under a held number, refused with BAD_PARAM and STALE; one still to come refused with BAD_PARAM; RESYNC on a path with a
RUNNING entry refused with BUSY_RETRY. The commands spoken of are not read opcodes, not the remote path, and no entry waits
to begin.
Rests on the model's choices of log entries 3, 37. -/
def Obligations.HostSequence : Prop :=
  ∀ (s : State) (h : CmdHdr) (mask value address : Word),
    (s.ready = false → exec (.writeFeature h address mask value) s = .next (s.emit (.held h.path.val))) ∧
    (s.ready = true → hdrLengthOk h = true → hdrFieldsOk h = true → s.skUp = true → h.path.val ≠ 66 →
      (∀ k e, s.findEntry h.path.val h.hostSeq.toNat h.originPc.toNat h.originPath.val = some (k, e) →
        (e.opcode ≠ 0x0011 ∨ e.crc ≠ h.crc.toNat →
          exec (.writeFeature h address mask value) s = .next (s.refusePacket h 0x0011 .badParam true)) ∧
        (e.opcode = 0x0011 → e.crc = h.crc.toNat → e.state = .done →
          exec (.writeFeature h address mask value) s = .next ((s.bump Cnt.HUB_REPEATS_REISSUED).deliver k true)) ∧
        (e.opcode = 0x0011 → e.crc = h.crc.toNat → e.state = .running → e.started = true →
          exec (.writeFeature h address mask value) s = .next (s.repeatBusy h (leBytes 4 address.toNat ++ leBytes 4 mask.toNat ++ leBytes 4 value.toNat) k))) ∧
      (s.findEntry h.path.val h.hostSeq.toNat h.originPc.toNat h.originPath.val = none →
        s.mem.paths.contains h.path.val = false → h.hostSeq.toNat ≠ s.expected h.path.val →
        (h.resync = false → serialBefore 32 h.hostSeq.toNat (s.expected h.path.val) = true →
          exec (.writeFeature h address mask value) s = .next (s.refusePacket h 0x0011 .badParam true)) ∧
        (h.resync = false → serialBefore 32 h.hostSeq.toNat (s.expected h.path.val) = false →
          exec (.writeFeature h address mask value) s = .next (s.refusePacket h 0x0011 .badParam false)) ∧
        (h.resync = true → s.pathRunning h.path.val = true →
          exec (.writeFeature h address mask value) s = .next (s.refusePacket h 0x0011 .busyRetry false))))

/-- An offset that is no multiple of 4, or a block that R9 does not list, ends every command that names it in BAD_PARAM with no
effect: READ_FEATURE, WRITE_FEATURE, READ_BLOCK and STAGE, and a direct write is answered so. -/
def Obligations.BadAddressHasNoEffect : Prop :=
  ∀ (s u : State) (h : CmdHdr) (k : Nat) (a : Word), a.toNat % 4 ≠ 0 ∨ blockRows (a.toNat / 65536) = none →
    (Opens (.readFeature h a) s k u → exec (.readFeature h a) s = .next (u.finish k .badParam [])) ∧
    (∀ mask value, Opens (.writeFeature h a mask value) s k u → exec (.writeFeature h a mask value) s = .next (u.finish k .badParam [])) ∧
    (∀ block offset count, block ++ offset = a → Opens (.readBlock h block offset count) s k u →
      exec (.readBlock h block offset count) s = .next (u.finish k .badParam [])) ∧
    (∀ set flags entries, (∃ e ∈ entries, e.address = a) → h.paramLen = 4 + 12 * entries.length → Opens (.stage h set flags entries) s k u →
      exec (.stage h set flags entries) s = .next (u.finish k .badParam [])) ∧
    (∀ mask value, s.ready = true → s.get Reg.BOOT_STATE_STAGE = 4 →
      exec (.registerWrite .feature a mask value) s = .next (s.emit (.writeStatus a.toNat .badParam)))

/-- Of two writes that reach one RW shadow in a round the later is in force at the boundary, bit by bit under the masks; until then a
read returns what it did. -/
def Obligations.LaterShadowWins : Prop :=
  ∀ (s : State) (a : Nat) (m1 v1 m2 v2 : Word), s.regsWf → s.shadow = [] →
    ((s.shadowWrite a m1 v1).shadowWrite a m2 v2).applyShadows.word a =
      (s.word a &&& ~~~(m1 ||| m2)) ||| (v1 &&& m1 &&& ~~~m2) ||| (v2 &&& m2) ∧
    ∀ b, ((s.shadowWrite a m1 v1).shadowWrite a m2 v2).readWord b = s.readWord b

/-- NOP, IDENTIFY, HUB_STATUS and TOPO_SCAN that open complete with OK and the bytes of R364.
READ_FEATURE, READ_BLOCK and WRITE_FEATURE that open: a register that exists answers with the word as it stood, RC fields
cleared after it (R10); one that does not ends in BAD_PARAM with no effect (R8).
Rests on the model's choices of log entries 37, 40. -/
def Obligations.QueryAndRegisterOpcodesComplete : Prop :=
  (∀ (s u : State) (h : CmdHdr) (k : Nat),
    (∀ bytes, Opens (.nop h bytes) s k u → bytes.length = h.paramLen → exec (.nop h bytes) s = .next (u.finish k .ok bytes)) ∧
    (Opens (.identify h) s k u → exec (.identify h) s = .next (u.finish k .ok u.identifyBytes)) ∧
    (Opens (.hubStatus h) s k u → exec (.hubStatus h) s = .next (u.finish k .ok
      (([Reg.DOMAIN_ON, Reg.DIE_LINKS, Reg.TIMING, Reg.TRK_PORT_STATE 0, Reg.TRK_PORT_STATE 1, Reg.TRK_PORT_STATE 2,
        Reg.BOOK_STATE, Reg.STAGE_STATE 0, Reg.STAGE_STATE 1, Reg.STAGE_STATE 2, Reg.STAGE_STATE 3, Reg.PM_STATUS] : List Nat).flatMap
        u.wordBytes))) ∧
    (Opens (.topoScan h) s k u → exec (.topoScan h) s = .next (u.finish k .ok (u.identifyBytes ++ ([0, 1, 2] : List Nat).flatMap (fun p =>
      u.wordBytes (Reg.TRK_PORT_STATE p) ++ u.wordBytes (Reg.NEIGHBOUR p) ++ u.wordBytes (Reg.HOP_DELAY p)))))) ∧
  (∀ (s u : State) (h : CmdHdr) (k : Nat),
    (∀ address : Word, Opens (.readFeature h address) s k u →
      (addressOk address.toNat = true → exec (.readFeature h address) s =
        .next ((u.afterRead address.toNat).finish k .ok (leBytes 4 (u.readWord address.toNat).toNat))) ∧
      (addressOk address.toNat = false → exec (.readFeature h address) s = .next (u.finish k .badParam []))) ∧
    (∀ block offset count : BitVec 16, Opens (.readBlock h block offset count) s k u →
      addressOk (block.toNat * 65536 + offset.toNat) = true → 1 ≤ count.toNat → count.toNat ≤ 1020 →
      offset.toNat + 4 * (count.toNat - 1) ≤ 0xFFFC →
      exec (.readBlock h block offset count) s =
        .next ((forAll ((List.range count.toNat).map (fun i => block.toNat * 65536 + offset.toNat + 4 * i)) u (fun s a => s.afterRead a)).finish k .ok
          (((List.range count.toNat).map (fun i => block.toNat * 65536 + offset.toNat + 4 * i)).flatMap (fun a => leBytes 4 (u.readWord a).toNat)))) ∧
    (∀ block offset count : BitVec 16, Opens (.readBlock h block offset count) s k u →
      (addressOk (block.toNat * 65536 + offset.toNat) = false ∨ count.toNat < 1 ∨ 1020 < count.toNat ∨ 0xFFFC < offset.toNat + 4 * (count.toNat - 1)) →
      exec (.readBlock h block offset count) s = .next (u.finish k .badParam [])) ∧
    (∀ address mask value : Word, Opens (.writeFeature h address mask value) s k u →
      exec (.writeFeature h address mask value) s =
        .next ((u.writeFeature address.toNat mask value).1.finish k (u.writeFeature address.toNat mask value).2 [])))

/-- STAGE, CHECK, APPLY, DISCARD and STAGE_STATUS that open, each where its set is in a state that takes it (R367 to R372).
Rests on the model's choices of log entries 179, 180, 188, 189. -/
def Obligations.StagingCommandsComplete : Prop :=
  ∀ (s u : State) (h : CmdHdr) (k : Nat) (set : Byte), set.toNat ≤ 3 →
    (∀ (flags : Byte) (entries : List StageEntry) (l : List (Nat × (Word × Word))), Opens (.stage h set flags entries) s k u →
      l = entries.foldl mergeEntry (if bitOf flags.toNat 0 then [] else (u.stageSet set.toNat).entries) →
      h.paramLen = 4 + 12 * entries.length → 1 ≤ entries.length → entries.length ≤ 338 → l.length ≤ 1024 →
      (∀ e ∈ entries, stageable e.address.toNat e.mask = true) →
      (∀ e ∈ l, (∃ y ∈ entries, y.address.toNat = e.1) → u.entryInRange e = true) →
      (u.stageSet set.toNat).state ≠ .armed → (u.stageSet set.toNat).state ≠ .failed → u.stagePermitted h l = true →
      exec (.stage h set flags entries) s = .next
        ((u.setSet set.toNat { u.stageSet set.toNat with state := .openSet, entries := l, passed := false }).finish k .ok
          (leBytes 2 l.length ++ leBytes 2 0))) ∧
    (∀ (flags : Byte) (entries : List StageEntry) (l : List (Nat × (Word × Word))), Opens (.stage h set flags entries) s k u →
      l = entries.foldl mergeEntry (if bitOf flags.toNat 0 then [] else (u.stageSet set.toNat).entries) →
      h.paramLen = 4 + 12 * entries.length →
      ((entries = [] ∨ 338 < entries.length ∨ (∃ e ∈ entries, stageable e.address.toNat e.mask = false) ∨
          (∃ e ∈ l, (∃ y ∈ entries, y.address.toNat = e.1) ∧ u.entryInRange e = false)) →
        exec (.stage h set flags entries) s = .next (u.finish k .badParam [])) ∧
      (1 ≤ entries.length → entries.length ≤ 338 → (∀ e ∈ entries, stageable e.address.toNat e.mask = true) →
        (∀ e ∈ l, (∃ y ∈ entries, y.address.toNat = e.1) → u.entryInRange e = true) →
        ((u.stageSet set.toNat).state = .armed ∨ (u.stageSet set.toNat).state = .failed ∨ u.stagePermitted h l = false →
          exec (.stage h set flags entries) s = .next (u.finish k .notPermitted [])) ∧
        ((u.stageSet set.toNat).state ≠ .armed → (u.stageSet set.toNat).state ≠ .failed → u.stagePermitted h l = true → 1024 < l.length →
          exec (.stage h set flags entries) s = .next (u.finish k .noResource [])))) ∧
    (Opens (.check h set) s k u → (u.stageSet set.toNat).state ≠ .empty → (u.stageSet set.toNat).state ≠ .armed →
      u.stagePermitted h (u.stageSet set.toNat).entries = true →
      (u.stageResult (u.stageSet set.toNat).entries = none →
        u.sharedAddress set.toNat (u.stageSet set.toNat).entries StageSet.pending = none →
        exec (.check h set) s = .next
          ((u.setSet set.toNat { u.stageSet set.toNat with state := .checked, cause := 0, address := 0 }).finish k .ok
            (leBytes 1 0 ++ leBytes 3 0 ++ leBytes 4 0))) ∧
      (∀ a, u.stageResult (u.stageSet set.toNat).entries = none →
        u.sharedAddress set.toNat (u.stageSet set.toNat).entries StageSet.pending = some a →
        exec (.check h set) s = .next
          ((u.setSet set.toNat { u.stageSet set.toNat with
              state := if (u.stageSet set.toNat).state == .failed then .failed else .openSet, cause := 6, address := a }).finish k
            .stageConflict (leBytes 1 6 ++ leBytes 3 0 ++ leBytes 4 a))) ∧
      (∀ c a, u.stageResult (u.stageSet set.toNat).entries = some (c, a) →
        exec (.check h set) s = .next
          ((u.setSet set.toNat { u.stageSet set.toNat with
              state := if (u.stageSet set.toNat).state == .failed then .failed else .openSet, cause := c, address := a }).finish k
            .checkFailed (leBytes 1 c ++ leBytes 3 0 ++ leBytes 4 a)))) ∧
    (Opens (.check h set) s k u → ((u.stageSet set.toNat).state = .empty ∨ (u.stageSet set.toNat).state = .armed ∨
        u.stagePermitted h (u.stageSet set.toNat).entries = false) →
      exec (.check h set) s = .next (u.finish k .notPermitted [])) ∧
    (∀ round : BitVec 48, Opens (.apply h set round) s k u →
      (u.round + 28800000 < round.toNat → exec (.apply h set round) s = .next (u.finish k .badParam [])) ∧
      (round.toNat ≤ u.round + 28800000 → ((u.stageSet set.toNat).state ≠ .checked ∨
          u.stagePermitted h (u.stageSet set.toNat).entries = false) →
        exec (.apply h set round) s = .next (u.finish k .notPermitted [])) ∧
      (round.toNat ≤ u.round + 28800000 → (u.stageSet set.toNat).state = .checked →
        u.stagePermitted h (u.stageSet set.toNat).entries = true →
        (round.toNat < u.earliest (u.stageSet set.toNat).entries → exec (.apply h set round) s = .next
          ((u.setSet set.toNat { u.stageSet set.toNat with cause := 4 }).finish k .checkFailed [])) ∧
        (u.earliest (u.stageSet set.toNat).entries ≤ round.toNat →
          (u.sharedAddress set.toNat (u.stageSet set.toNat).entries (fun y => y.state == .armed && y.round == round.toNat)).isSome = true →
          exec (.apply h set round) s = .next (u.finish k .stageConflict [])))) ∧
    (Opens (.discard h set) s k u →
      (((u.stageSet set.toNat).state = .armed ∧ u.tooLateToDiscard (u.stageSet set.toNat) = true) ∨
          u.stagePermitted h (u.stageSet set.toNat).entries = false →
        exec (.discard h set) s = .next (u.finish k .notPermitted [])) ∧
      ((u.stageSet set.toNat).state = .empty → u.stagePermitted h (u.stageSet set.toNat).entries = true →
        exec (.discard h set) s = .next (u.finish k .ok []))) ∧
    (Opens (.stageStatus h set) s k u → u.stagePermitted h (u.stageSet set.toNat).entries = false →
      exec (.stageStatus h set) s = .next (u.finish k .notPermitted [])) ∧
    (∀ all : Byte, Opens (.stageStatus h all) s k u →
      (all.toNat = 0xFF → (∀ n ∈ [0, 1, 2, 3], u.stagePermitted h (u.stageSet n).entries = true) →
        exec (.stageStatus h all) s = .next (u.finish k .ok ([0, 1, 2, 3].flatMap u.stageBytes))) ∧
      (3 < all.toNat → all.toNat ≠ 0xFF → exec (.stageStatus h all) s = .next (u.finish k .badParam []))) ∧
    (∀ round : BitVec 48, Opens (.apply h set round) s k u → round.toNat ≤ u.round + 28800000 → (u.stageSet set.toNat).state = .checked →
      u.stagePermitted h (u.stageSet set.toNat).entries = true → u.earliest (u.stageSet set.toNat).entries ≤ round.toNat →
      u.sharedAddress set.toNat (u.stageSet set.toNat).entries (fun y => y.state == .armed && y.round == round.toNat) = none →
      exec (.apply h set round) s = .next
        ((u.setSet set.toNat { u.stageSet set.toNat with state := .armed, round := round.toNat, passed := false }).finish k .ok
          (leBytes 8 round.toNat))) ∧
    (Opens (.discard h set) s k u → (u.stageSet set.toNat).state ≠ .empty → u.stagePermitted h (u.stageSet set.toNat).entries = true →
      ((u.stageSet set.toNat).state = .armed → u.tooLateToDiscard (u.stageSet set.toNat) = false) →
      exec (.discard h set) s = .next
        ((u.setSet set.toNat { u.stageSet set.toNat with state := .empty, entries := [], passed := false }).finish k .ok [])) ∧
    (Opens (.stageStatus h set) s k u → u.stagePermitted h (u.stageSet set.toNat).entries = true →
      exec (.stageStatus h set) s = .next (u.finish k .ok (u.stageBytes set.toNat)))

/-- RESET_HUB and ASSIGN_POSTCODE that open (R475, R29, R364).
ROUND_MASTER_SWAP and ROUND_QUERY that open (R70, R72, R73, R82).
Rests on the model's choices of log entries 6, 190. -/
def Obligations.HubAndRoundCommandsComplete : Prop :=
  (∀ (s u : State) (h : CmdHdr) (k : Nat),
    (∀ kind : Byte, Opens (.resetHub h kind) s k u →
      (kind.toNat ≤ 2 → u.sec.zeroising = none → (kind.toNat = 2 → u.servicePowered = false) →
        exec (.resetHub h kind) s = .next
          (((u.doneAfterReset k []).setBoot { u.boot with due := some ⟨kind.toNat, 3⟩ }).updEntry k (fun e => { e with wait := 0 }))) ∧
      (2 < kind.toNat → exec (.resetHub h kind) s = .next (u.finish k .badParam [])) ∧
      (kind.toNat ≤ 2 → (u.sec.zeroising ≠ none ∨ (kind.toNat = 2 ∧ u.servicePowered = true)) →
        exec (.resetHub h kind) s = .next (u.finish k .notPermitted []))) ∧
    (∀ (postcode : Postcode) (force : Byte) (serial : BitVec 128), Opens (.assignPostcode h postcode force serial) s k u →
      (force.toNat ≤ 1 → serial = Config.serial → (u.addrValid = true → force.toNat = 1) →
        exec (.assignPostcode h postcode force serial) s = .next
          (((u.set Reg.HUB_ADDR_POSTCODE postcode.toNat).setFlag Reg.HUB_ADDR_VALID true).finish k .ok
            (leBytes 2 postcode.toNat ++ leBytes 2 0))) ∧
      (1 < force.toNat → exec (.assignPostcode h postcode force serial) s = .next (u.finish k .badParam [])) ∧
      (force.toNat ≤ 1 → (serial ≠ Config.serial ∨ (u.addrValid = true ∧ force.toNat = 0)) →
        exec (.assignPostcode h postcode force serial) s = .next (u.finish k .notPermitted [])))) ∧
  (∀ (s u : State) (h : CmdHdr) (k : Nat),
    (∀ (peer : Postcode) (mode : Byte), Opens (.roundMasterSwap h peer mode) s k u → (1 < mode.toNat ∨ peer.toNat = u.postcode) →
      exec (.roundMasterSwap h peer mode) s = .next (u.finish k .badParam (leBytes 8 u.rt.round ++ leBytes 2 u.epoch ++ leBytes 2 0))) ∧
    (∀ (peer : Postcode) (mode : Byte), Opens (.roundMasterSwap h peer mode) s k u → mode.toNat ≤ 1 → peer.toNat ≠ u.postcode →
      ((mode.toNat = 0 → u.timing = 4) ∧ (mode.toNat = 1 → u.timing ≠ 4 ∧ u.notCandidate = false ∧ peer.toNat = u.master) →
        u.rt.swapRetry ≤ u.rt.round → u.roundBusy = false →
        (mode.toNat = 0 → ∀ x ∈ u.rt.hdrs, x.2.sender = peer.toNat → x.2.tstate = 2) →
        exec (.roundMasterSwap h peer mode) s = .next
          ((u.setRt { u.rt with swap := some ⟨mode.toNat == 0, mode.toNat == 0, peer.toNat, 0, .requestDue, u.rt.round, 0, 0,
            (mget u.cmd.book k).map (fun e => (k, e.hostSeq))⟩ }).updEntry k (fun e => { e with wait := 0 }))) ∧
      ((mode.toNat = 0 ∧ u.timing ≠ 4) ∨ (mode.toNat = 1 ∧ (u.timing = 4 ∨ u.notCandidate = true ∨ peer.toNat ≠ u.master)) →
        exec (.roundMasterSwap h peer mode) s = .next (u.finish k .notPermitted (leBytes 8 u.rt.round ++ leBytes 2 u.epoch ++ leBytes 2 0))) ∧
      ((mode.toNat = 0 → u.timing = 4) → (mode.toNat = 1 → u.timing ≠ 4 ∧ u.notCandidate = false ∧ peer.toNat = u.master) →
        (u.rt.round < u.rt.swapRetry → exec (.roundMasterSwap h peer mode) s = .next
          (u.finish k .busyRetry (leBytes 8 u.rt.swapRetry ++ leBytes 2 u.epoch ++ leBytes 2 0))) ∧
        (u.rt.swapRetry ≤ u.rt.round → u.roundBusy = true → exec (.roundMasterSwap h peer mode) s = .next
          (u.finish k .busyRetry (leBytes 8 (u.rt.round + 1) ++ leBytes 2 u.epoch ++ leBytes 2 0))) ∧
        (u.rt.swapRetry ≤ u.rt.round → u.roundBusy = false → mode.toNat = 0 →
          (∃ x ∈ u.rt.hdrs, x.2.sender = peer.toNat ∧ x.2.tstate ≠ 2) → exec (.roundMasterSwap h peer mode) s = .next
          (u.finish k .notPermitted (leBytes 8 u.rt.round ++ leBytes 2 u.epoch ++ leBytes 2 0))))) ∧
    (Opens (.roundQuery h) s k u → exec (.roundQuery h) s = .next (u.finish k .ok u.timingWords)))

/-- TRUNK_RETRAIN sends an enabled, powered port through HUNT and waits for it, and leaves another port as it is; TRUNK_STATUS
answers the port's registers and the module's data (R114). -/
def Obligations.TrunkCommandsComplete : Prop :=
  (∀ (s u : State) (h : CmdHdr) (k : Nat) (port forceHalf : Byte),
    (Opens (.trunkRetrain h port forceHalf) s k u → (PortId.ofCode port.toNat = none ∨ 1 < forceHalf.toNat) →
      exec (.trunkRetrain h port forceHalf) s = .next (u.finish k .badParam [])) ∧
    (Opens (.trunkStatus h port) s k u → PortId.ofCode port.toNat = none →
      exec (.trunkStatus h port) s = .next (u.finish k .badParam []))) ∧
  ∀ (s u : State) (h : CmdHdr) (k : Nat) (port : Byte) (p : PortId), PortId.ofCode port.toNat = some p →
    (∀ forceHalf : Byte, Opens (.trunkRetrain h port forceHalf) s k u → forceHalf.toNat ≤ 1 →
      (u.flag (Reg.TRK_PORT_CFG_EN p.code) = true → u.powered (PortId.domain p) = true →
        exec (.trunkRetrain h port forceHalf) s = .next
          (((u.updPort p (fun x => { x with forceHalf := forceHalf.toNat == 1 })).enterHunt p).updEntry k
            (fun e => { e with wait := p.code }))) ∧
      (u.flag (Reg.TRK_PORT_CFG_EN p.code) = false ∨ u.powered (PortId.domain p) = false →
        exec (.trunkRetrain h port forceHalf) s = .next (u.updEntry k (fun e => { e with wait := p.code })))) ∧
    (Opens (.trunkStatus h port) s k u →
      exec (.trunkStatus h port) s = .next (u.finish k .ok
        ((List.range 11).flatMap (fun i => leBytes 4 (u.word (Reg.TRK_PORT_CFG p.code + 4 * i)).toNat) ++
          (u.port p).module.data.take 32 ++ List.replicate (32 - ((u.port p).module.data.take 32).length) 0)))

/-- TUNNEL_OPEN, TUNNEL_CLOSE, SET_FORWARD, TUNNEL_ALLOT, TUNNEL_QUERY and MIRROR_SET that open: the checks of each in order and its
effect (R145 to R152, R157, R171, R199).
Rests on the model's choices of log entries 72, 74, 75, 77, 85, 88, 196. -/
def Obligations.TunnelCommandsComplete : Prop :=
  ∀ (s u : State) (h : CmdHdr) (k : Nat),
    (∀ (box farBox min ceil : BitVec 16) (farPc : Postcode) (kind cls direction priority weight : Byte) (c : Instr),
      c = .tunnelOpen h box farPc farBox kind cls direction priority weight min ceil → Opens c s k u →
      (Kind.ofCode kind.toNat = none ∨ SvcClass.ofCode cls.toNat = none → exec c s = .next (u.finish k .badParam [])) ∧
      (∀ (x : Kind) (y : SvcClass) (a : Allot), Kind.ofCode kind.toNat = some x → SvcClass.ofCode cls.toNat = some y →
        a = allotHeld y ⟨min.toNat, ceil.toNat, weight.toNat, priority.toNat⟩ →
        (boxNoOk box.toNat = false ∨ boxNoOk farBox.toNat = false ∨ 1 < direction.toNat ∨ x = .mgmt ∨ classFits x y = false ∨
            allotOk y ⟨min.toNat, ceil.toNat, weight.toNat, priority.toNat⟩ = false → exec c s = .next (u.finish k .badParam [])) ∧
        (boxNoOk box.toNat = true → boxNoOk farBox.toNat = true → direction.toNat ≤ 1 → x ≠ .mgmt → classFits x y = true →
          allotOk y ⟨min.toNat, ceil.toNat, weight.toNat, priority.toNat⟩ = true →
          ((u.box box.toNat).state = .draining → exec c s = .next (u.finish k .busyRetry [])) ∧
          ((u.box box.toNat).state = .opening ∨ (u.box box.toNat).state = .opened → exec c s = .next (u.finish k .notPermitted [])) ∧
          ((u.box box.toNat).state = .free →
            (u.boxFits box.toNat x y = false ∨ u.busFits box.toNat y (direction.toNat == 1) = false ∨
                u.flowsFree true farPc.toNat = false ∨ u.chooseEngine x = none → exec c s = .next (u.finish k .noResource [])) ∧
            (u.boxFits box.toNat x y = true → u.busFits box.toNat y (direction.toNat == 1) = true → u.flowsFree true farPc.toNat = true →
              (u.chooseEngine x).isSome = true →
              (u.openFits true y x box.toNat farPc.toNat farBox.toNat a = false → exec c s = .next (u.finish k .noBandwidth [])) ∧
              (u.openFits true y x box.toNat farPc.toNat farBox.toNat a = true → ∀ v : State,
                v = u.openBox box.toNat x y (direction.toNat == 1) true farPc.toNat farBox.toNat 0 a →
                exec c s = .next
                  ((v.sendBox0 farPc.toNat (.openRequest x.code y.code direction.toNat box.toNat (v.box box.toNat).inc farBox.toNat
                    a.min a.ceil a.weight a.priority)).1.updEntry k (fun e => { e with wait := box.toNat })))))))) ∧
    (∀ (box fwdBox fwdInc : BitVec 16) (fwd : Byte) (fwdPc : Postcode) (c : Instr) (v : State),
      c = .tunnelClose h box fwd fwdPc fwdBox fwdInc → Opens c s k u →
      (boxNoOk box.toNat = false ∨ 1 < fwd.toNat ∨
          (fwd.toNat = 1 ∧ u.forwardOk box.toNat fwdPc.toNat fwdBox.toNat fwdInc.toNat = false) →
        exec c s = .next (u.finish k .badParam [])) ∧
      (boxNoOk box.toNat = true → fwd.toNat ≤ 1 →
        (fwd.toNat = 1 → u.forwardOk box.toNat fwdPc.toNat fwdBox.toNat fwdInc.toNat = true) →
        ((u.box box.toNat).state = .free → exec c s = .next (u.finish k .notPermitted [])) ∧
        ((u.box box.toNat).state = .opened →
          v = (if fwd.toNat = 1 then u.setForwardOf box.toNat fwdPc.toNat fwdBox.toNat fwdInc.toNat else u) →
          exec c s = .next
            (((v.boxDrains box.toNat).sendClose box.toNat (u.box box.toNat).peerInc).updEntry k (fun e => { e with wait := box.toNat }))) ∧
        ((u.box box.toNat).state = .opening → ∀ w : State, w = u.finishWaiters 0x0200 box.toNat .notPermitted (u.withdrawnData box.toNat) →
          (∀ x : State, x = (if fwd.toNat = 1 then w.setForwardOf box.toNat fwdPc.toNat fwdBox.toNat fwdInc.toNat else w) →
            v = (x.boxDrains box.toNat).sendClose box.toNat (if (u.box box.toNat).near then 0 else (u.box box.toNat).peerInc)) →
          exec c s = .next ((v.boxFrees box.toNat).finish k (if (v.box box.toNat).closeLost then .unreachable else .ok) [])) ∧
        ((u.box box.toNat).state = .draining →
          (u.waiter 0x0201 box.toNat ≠ none → exec c s = .next (u.finish k .notPermitted [])) ∧
          (u.waiter 0x0201 box.toNat = none →
            v = (if fwd.toNat = 1 then u.setForwardOf box.toNat fwdPc.toNat fwdBox.toNat fwdInc.toNat else u) →
            exec c s = .next (v.updEntry k (fun e => { e with wait := box.toNat })))))) ∧
    (∀ (box fwdBox fwdInc : BitVec 16) (fwdPc : Postcode) (c : Instr), c = .setForward h box fwdPc fwdBox fwdInc → Opens c s k u →
      (boxNoOk box.toNat = false ∨ u.forwardOk box.toNat fwdPc.toNat fwdBox.toNat fwdInc.toNat = false →
        exec c s = .next (u.finish k .badParam [])) ∧
      (boxNoOk box.toNat = true → u.forwardOk box.toNat fwdPc.toNat fwdBox.toNat fwdInc.toNat = true →
        ((u.box box.toNat).state = .opened ∨ (u.box box.toNat).state = .draining → exec c s = .next
          ((u.setForwardOf box.toNat fwdPc.toNat fwdBox.toNat fwdInc.toNat).finish k .ok [])) ∧
        ((u.box box.toNat).state = .free ∨ (u.box box.toNat).state = .opening → exec c s = .next (u.finish k .notPermitted [])))) ∧
    (∀ (op cls weight priority : Byte) (flow srcBox dstBox min ceil : BitVec 16) (srcPc dstPc : Postcode) (c : Instr) (raw : Allot),
      c = .tunnelAllot h op cls flow srcPc srcBox dstPc dstBox min ceil weight priority → Opens c s k u →
      raw = ⟨min.toNat, ceil.toNat, weight.toNat, priority.toNat⟩ →
      (2 < op.toNat → exec c s = .next (u.finish k .badParam [])) ∧
      (op.toNat = 0 ∨ op.toNat = 2 →
        (mget u.tun.flows flow.toNat = none → exec c s = .next (u.finish k .badParam [])) ∧
        (∀ f : Flow, mget u.tun.flows flow.toNat = some f →
          (f.cls = .iso ∨ (op.toNat = 2 ∧ f.origin = true) → exec c s = .next (u.finish k .notPermitted [])) ∧
          (f.cls ≠ .iso → op.toNat = 2 → f.origin = false → exec c s = .next
            ((u.updFlow flow.toNat (fun f => { f with removing := true })).finish k .ok (u.allotData flow.toNat))) ∧
          (f.cls ≠ .iso → op.toNat = 0 →
            (allotOk f.cls raw = false → exec c s = .next (u.finish k .badParam [])) ∧
            (allotOk f.cls raw = true → ∀ v : State, v = u.updFlow flow.toNat (fun f => { f with next := some (allotHeld f.cls raw) }) →
              (v.allotFits flow.toNat = false → exec c s = .next (u.finish k .noBandwidth [])) ∧
              (v.allotFits flow.toNat = true → exec c s = .next (v.finish k .ok (v.allotData flow.toNat))))))) ∧
      (op.toNat = 1 →
        (SvcClass.ofCode cls.toNat = none → exec c s = .next (u.finish k .badParam [])) ∧
        (∀ y : SvcClass, SvcClass.ofCode cls.toNat = some y →
          (y = .registered ∨ allotOk y raw = false ∨ 4095 < srcBox.toNat ∨ 4095 < dstBox.toNat →
            exec c s = .next (u.finish k .badParam [])) ∧
          (y ≠ .registered → allotOk y raw = true → srcBox.toNat ≤ 4095 → dstBox.toNat ≤ 4095 →
            (u.findFlow srcPc.toNat srcBox.toNat dstPc.toNat dstBox.toNat ≠ none → exec c s = .next (u.finish k .notPermitted [])) ∧
            (u.findFlow srcPc.toNat srcBox.toNat dstPc.toNat dstBox.toNat = none → ∀ added : Option (Nat × State),
              added = u.addFlow { Flow.fresh y 7 false 0 srcPc.toNat srcBox.toNat dstPc.toNat dstBox.toNat 0
                ⟨0, 0, if y = .bulk then weight.toNat else 0, 0⟩ with next := some (allotHeld y raw) } →
              (added = none → exec c s = .next (u.finish k .noResource [])) ∧
              (∀ (j : Nat) (v : State), added = some (j, v) →
                (v.allotFits j = false → exec c s = .next (u.finish k .noBandwidth [])) ∧
                (v.allotFits j = true → exec c s = .next (v.finish k .ok (v.allotData j))))))))) ∧
    (∀ (select : Byte) (index : BitVec 16) (flow : Option Nat), Opens (.tunnelQuery h select index) s k u →
      (select.toNat = 0 → flow = some index.toNat) → (select.toNat = 1 → flow = (u.box index.toNat).flow) → (1 < select.toNat → flow = none) →
      ((flow = none ∨ (∃ i, flow = some i ∧ mget u.tun.flows i = none) →
        exec (.tunnelQuery h select index) s = .next (u.finish k .badParam []))) ∧
      (∀ (i : Nat) (f : Flow), flow = some i → mget u.tun.flows i = some f →
        exec (.tunnelQuery h select index) s = .next ((u.updFlow i (fun f => { f with dropped := 0 })).finish k .ok (u.flowBytes i f)))) ∧
    (∀ (session en srcKind destPort destSub : Byte) (src snap mirrorCells : BitVec 16) (c : Instr),
      c = .mirrorSet h session en srcKind destPort src snap destSub mirrorCells → Opens c s k u →
      (mirrorOk session.toNat en.toNat srcKind.toNat destPort.toNat src.toNat snap.toNat destSub.toNat mirrorCells.toNat = false →
        exec c s = .next (u.finish k .badParam [])) ∧
      (mirrorOk session.toNat en.toNat srcKind.toNat destPort.toNat src.toNat snap.toNat destSub.toNat mirrorCells.toNat = true →
        (u.mirrorPermit = true → exec c s = .next
          (({ u with sw := { u.sw with mirror := u.sw.mirror ++ [⟨session.toNat,
              BitVec.ofNat 32 (en.toNat * 2 ^ 31 + srcKind.toNat * 2 ^ 29 + src.toNat * 2 ^ 16 + snap.toNat),
              BitVec.ofNat 32 (mirrorCells.toNat * 2 ^ 16 + destSub.toNat * 2 ^ 8 + destPort.toNat)⟩] } } : State).finish k .ok
            (leBytes 8 (u.round + 1)))) ∧
        (u.mirrorPermit = false → exec c s = .next (u.finish k .notPermitted []))))

/-- REGISTRY_APPORTION, POST_REGISTERED, COLLECT, ACK_COLLECTED, REGISTRY_STATUS, DEAD_LETTER_READ and DEAD_LETTER_CLEAR that open
(R235, R244, R245, R259, R261).
Rests on the model's choices of log entries 102, 107. -/
def Obligations.RegistryCommandsComplete : Prop :=
  ∀ (s u : State) (h : CmdHdr) (k : Nat),
    (∀ items : List ApportionItem, Opens (.registryApportion h items) s k u → h.paramLen = 2 + 8 * items.length →
      (items = [] ∨ 128 < items.length ∨ (∃ i ∈ items, boxNoOk i.box.toNat = false ∨ 1 < i.notify.toNat) →
        exec (.registryApportion h items) s = .next (u.finish k .badParam []))) ∧
    (∀ items : List ApportionItem, Opens (.registryApportion h items) s k u → h.paramLen = 2 + 8 * items.length → 1 ≤ items.length → items.length ≤ 128 →
      (∀ i ∈ items, boxNoOk i.box.toNat = true ∧ i.notify.toNat ≤ 1) →
      ((∃ i ∈ items, u.sendSide i.box.toNat = none) →
        exec (.registryApportion h items) s = .next (u.finish k .notPermitted [])) ∧
      ((∀ i ∈ items, (u.sendSide i.box.toNat).isSome = true) → (∃ i ∈ items, u.pendingNames i.box.toNat = true) →
        exec (.registryApportion h items) s = .next (u.finish k .stageConflict [])) ∧
      ((∀ i ∈ items, (u.sendSide i.box.toNat).isSome = true) → (∀ i ∈ items, u.pendingNames i.box.toNat = false) →
        (u.apportionOk items = false → exec (.registryApportion h items) s = .next (u.finish k .checkFailed [])) ∧
        (u.apportionOk items = true → ∀ v w : State,
          v = forAll items u (fun s i => s.updBookRec i.box.toNat (fun r =>
            { r with next := some (i.r.toNat, i.m.toNat, i.notify.toNat == 1) })) →
          w = forAll items v (fun s i => s.updBookRec i.box.toNat (fun r =>
            { r with apportioned := true, reserve := i.r.toNat, limit := i.m.toNat })) →
          exec (.registryApportion h items) s = .next
            (v.finish k .ok (leBytes 8 (v.round + 1) ++ leBytes 2 w.regPoolFree ++ leBytes 2 0))))) ∧
    (∀ (box : BitVec 16) (payload : Payload) (since : Nat) (found : Option (Nat × Entry)), Opens (.postRegistered h box payload) s k u →
      h.paramLen = 4 + payload.length → since = ((mget u.cmd.book k).map (·.enteredAt)).getD u.now →
      found = u.reg.entries.find? (fun e => e.2.origin == 0 && e.2.box == box.toNat && e.2.originPath == h.path.val &&
        e.2.originTag == h.tag.toNat && e.2.originSeq == h.hostSeq.toNat && decide (0 ≤ postmarkDiff e.2.acceptedAt since)) →
      (∀ n e, found = some (n, e) →
        (e.writing = true → exec (.postRegistered h box payload) s = .next (u.updEntry k (fun e => { e with wait := n }))) ∧
        (e.writing = false → exec (.postRegistered h box payload) s = .next (u.finish k .accepted (e.postData n)))) ∧
      (found = none →
        (∀ st v, u.offer box.toNat payload 0 h.path.val h.tag.toNat h.hostSeq.toNat = (.refused st, v) →
          exec (.postRegistered h box payload) s = .next (v.finish k st [])) ∧
        (∀ n v, u.offer box.toNat payload 0 h.path.val h.tag.toNat h.hostSeq.toNat = (.entry n, v) →
          exec (.postRegistered h box payload) s = .next (v.updEntry k (fun e => { e with wait := n }))))) ∧
    (∀ (box : BitVec 16) (max : Byte), Opens (.collect h box max) s k u → (4095 < box.toNat ∨ max.toNat = 0 ∨ 16 < max.toNat) →
      exec (.collect h box max) s = .next (u.finish k .badParam [])) ∧
    (∀ (box : BitVec 16) (max : Byte), Opens (.collect h box max) s k u → box.toNat ≤ 4095 → 1 ≤ max.toNat → max.toNat ≤ 16 →
      (box.toNat = 0 → (∀ e ∈ u.reg.book, u.waitingOf e.1 = [] ∨ u.hostSide e.1 = none) → exec (.collect h box max) s = .next (u.finish k .ok (leBytes 4 0))) ∧
      (1 ≤ box.toNat → u.hostSide box.toNat = none → exec (.collect h box max) s = .next (u.finish k .notPermitted [])) ∧
      (∀ b : Nat, 1 ≤ b → (box.toNat = b ∨ (box.toNat = 0 ∧
          (u.reg.book.map (·.1)).find? (fun b => (u.hostSide b).isSome && u.waitingOf b != []) = some b)) →
        (u.hostSide b).isSome = true → ∀ (l : List Pigeon) (v : State), l = (u.waitingOf b).take max.toNat →
        v = u.setReg { u.reg with pigeons := u.reg.pigeons.map (fun p =>
          if p.box = b ∧ l.any (fun q => q.seq == p.seq) then { p with shown := true } else p) } →
        exec (.collect h box max) s = .next
          ((match l.getLast? with
            | some p => v.updBookRec b (fun r => if serialBefore 32 r.presented p.seq then { r with presented := p.seq } else r)
            | none => v).finish k .ok (leBytes 1 l.length ++ leBytes 3 0 ++ l.flatMap Pigeon.collectData)))) ∧
    (∀ (box : BitVec 16) (thru : BitVec 32), Opens (.ackCollected h box thru) s k u →
      (boxNoOk box.toNat = false → exec (.ackCollected h box thru) s = .next (u.finish k .badParam [])) ∧
      (boxNoOk box.toNat = true → u.hostSide box.toNat = none →
        exec (.ackCollected h box thru) s = .next (u.finish k .notPermitted [])) ∧
      (∀ r, boxNoOk box.toNat = true → u.hostSide box.toNat = some r →
        (seqLe thru.toNat r.consumedThru = true →
          exec (.ackCollected h box thru) s = .next (u.finish k .ok (leBytes 4 r.consumedThru))) ∧
        (seqLe thru.toNat r.consumedThru = false → seqLe thru.toNat r.presented = false →
          exec (.ackCollected h box thru) s = .next (u.finish k .badParam [])) ∧
        (seqLe thru.toNat r.consumedThru = false → seqLe thru.toNat r.presented = true → ∀ v w x : State,
          v = u.setBookRec box.toNat { r with consumedThru := thru.toNat } →
          w = (forAll (v.reg.pigeons.filter (fun p => p.box == box.toNat && seqLe p.seq thru.toNat)) v (fun s p => s.emptyPigeon p)).stepVoids
            box.toNat 4096 →
          x = (if w.waitingOf box.toNat = [] then w.setReg { w.reg with waiting := mdel w.reg.waiting box.toNat } else w) →
          exec (.ackCollected h box thru) s = .next
            ((x.receiptDue box.toNat).finish k .ok (leBytes 4 (((x.book box.toNat).map (·.consumedThru)).getD thru.toNat)))))) ∧
    (∀ box : BitVec 16, Opens (.registryStatus h box) s k u →
      (box.toNat = 0 → exec (.registryStatus h box) s = .next (u.finish k .ok
        (leBytes 4 (u.word Reg.REG_ENTRIES).toNat ++ leBytes 4 (u.word Reg.REG_POOL).toNat ++ leBytes 4 (u.word Reg.PIGEONHOLES).toNat))) ∧
      (1 ≤ box.toNat → box.toNat ≤ 4095 → exec (.registryStatus h box) s = .next (u.finish k .ok
        (u.recordBytes box.toNat ++ leBytes 4 (u.word (Reg.USE box.toNat)).toNat))) ∧
      (4095 < box.toNat → exec (.registryStatus h box) s = .next (u.finish k .badParam []))) ∧
    (∀ (box first : BitVec 16) (max : Byte), Opens (.deadLetterRead h box first max) s k u →
      (4095 < box.toNat ∨ 8191 < first.toNat ∨ max.toNat = 0 ∨ 8 < max.toNat) →
      exec (.deadLetterRead h box first max) s = .next (u.finish k .badParam [])) ∧
    (∀ (box first : BitVec 16) (max : Byte), Opens (.deadLetterRead h box first max) s k u →
      box.toNat ≤ 4095 → first.toNat ≤ 8191 → 1 ≤ max.toNat → max.toNat ≤ 8 → ∀ l : List (Nat × Entry),
      l = u.reg.entries.filter (fun e => e.2.dead && decide (first.toNat ≤ e.1) && (box.toNat == 0 || e.2.box == box.toNat)) →
      exec (.deadLetterRead h box first max) s = .next (u.finish k .ok
        (leBytes 1 (l.take max.toNat).length ++ leBytes 1 0 ++ leBytes 2 (orNone (((l.drop max.toNat).head?).map (·.1))) ++
          (l.take max.toNat).flatMap (fun e => leBytes 2 e.1 ++ leBytes 2 0 ++ e.2.bytes)))) ∧
    (∀ entries : List (BitVec 16), Opens (.deadLetterClear h entries) s k u → h.paramLen = 2 + 2 * entries.length →
      (1 ≤ entries.length → entries.length ≤ 64 →
        (∀ x ∈ entries, ∃ e, mget u.reg.entries x.toNat = some e ∧ e.dead = true) →
        exec (.deadLetterClear h entries) s = .next
          ((forAll (entries.map (·.toNat)).eraseDups u (fun s n => s.freeEntry n)).finish k .ok
            (leBytes 1 (entries.map (·.toNat)).eraseDups.length ++ leBytes 3 0))) ∧
      (entries = [] ∨ 64 < entries.length ∨ (∃ x ∈ entries, ∀ e, mget u.reg.entries x.toNat = some e → e.dead = false) →
        exec (.deadLetterClear h entries) s = .next (u.finish k .badParam [])))

/-- ROUTE_WRITE, ROUTE_READ and RANGE_WRITE that open (R335): the whole list takes force at the next boundary or nothing changes. -/
def Obligations.BridgeTableCommandsComplete : Prop :=
  ∀ (s u : State) (h : CmdHdr) (k : Nat),
    (∀ (items : List (BitVec 16 × Word × Word)) (ws : List (Nat × Word)), Opens (.routeWrite h items) s k u → h.paramLen = 2 + 10 * items.length →
      ws = items.flatMap (fun i => [(Reg.ROUTE_0 i.1.toNat, i.2.1), (Reg.ROUTE_4 i.1.toNat, i.2.2)]) →
      ((items = [] ∨ 64 < items.length ∨ (∃ i ∈ items, 4095 < i.1.toNat ∨ routeOk i.2.1.toNat i.2.2.toNat = false)) →
        exec (.routeWrite h items) s = .next (u.finish k .badParam [])) ∧
      (1 ≤ items.length → items.length ≤ 64 → (∀ i ∈ items, i.1.toNat ≤ 4095 ∧ routeOk i.2.1.toNat i.2.2.toNat = true) →
        u.pendingTouches (fun a => ws.any (fun w => w.1 == a)) = true →
        exec (.routeWrite h items) s = .next (u.finish k .stageConflict []))) ∧
    (∀ (items : List (BitVec 16 × Word × Word)) (ws : List (Nat × Word)), Opens (.routeWrite h items) s k u → h.paramLen = 2 + 10 * items.length →
      1 ≤ items.length → items.length ≤ 64 → (∀ i ∈ items, i.1.toNat ≤ 4095 ∧ routeOk i.2.1.toNat i.2.2.toNat = true) →
      ws = items.flatMap (fun i => [(Reg.ROUTE_0 i.1.toNat, i.2.1), (Reg.ROUTE_4 i.1.toNat, i.2.2)]) →
      u.pendingTouches (fun a => ws.any (fun w => w.1 == a)) = false →
      ((u.shadowWords ws).applyShadows.routesApart = true →
        exec (.routeWrite h items) s = .next ((u.shadowWords ws).finish k .ok (leBytes 8 (u.round + 1)))) ∧
      ((u.shadowWords ws).applyShadows.routesApart = false →
        exec (.routeWrite h items) s = .next (u.finish k .checkFailed []))) ∧
    (∀ (mode count bus ide : Byte) (first : BitVec 16) (id : Word), Opens (.routeRead h mode count first bus ide id) s k u →
      (mode.toNat = 0 → 1 ≤ count.toNat → count.toNat ≤ 64 → first.toNat + count.toNat ≤ 4096 →
        exec (.routeRead h mode count first bus ide id) s = .next (u.finish k .ok
          (((List.range count.toNat).map (fun i => first.toNat + i)).flatMap u.routeData))) ∧
      (mode.toNat = 1 → bus.toNat ≤ 3 → ide.toNat ≤ 1 → id.toNat < 2 ^ 29 →
        exec (.routeRead h mode count first bus ide id) s = .next (u.finish k .ok
          (match u.routes.find? (fun r => r.2.1 == bus.toNat && r.2.2.1 == ide.toNat && r.2.2.2.1 == id.toNat) with
           | some r => u.routeData r.1
           | none => []))) ∧
      (mode.toNat = 0 → (count.toNat = 0 ∨ 64 < count.toNat ∨ 4096 < first.toNat + count.toNat) →
        exec (.routeRead h mode count first bus ide id) s = .next (u.finish k .badParam [])) ∧
      (mode.toNat = 1 → (3 < bus.toNat ∨ 1 < ide.toNat ∨ 2 ^ 29 ≤ id.toNat) →
        exec (.routeRead h mode count first bus ide id) s = .next (u.finish k .badParam [])) ∧
      (1 < mode.toNat → exec (.routeRead h mode count first bus ide id) s = .next (u.finish k .badParam []))) ∧
    (∀ (items : List (Byte × Word × Word × Word × Word)) (ws : List (Nat × Word)), Opens (.rangeWrite h items) s k u →
      h.paramLen = 2 + 18 * items.length →
      ws = items.flatMap (fun i => [(Reg.RANGE_0 i.1.toNat, i.2.1), (Reg.RANGE_4 i.1.toNat, i.2.2.1),
        (Reg.RANGE_8 i.1.toNat, i.2.2.2.1), (Reg.RANGE_C i.1.toNat, i.2.2.2.2)]) →
      ((items = [] ∨ 16 < items.length ∨ (∃ i ∈ items, 63 < i.1.toNat ∨
          rangeOk i.2.1.toNat i.2.2.1.toNat i.2.2.2.1.toNat i.2.2.2.2.toNat = false)) →
        exec (.rangeWrite h items) s = .next (u.finish k .badParam [])) ∧
      (1 ≤ items.length → items.length ≤ 16 →
        (∀ i ∈ items, i.1.toNat ≤ 63 ∧ rangeOk i.2.1.toNat i.2.2.1.toNat i.2.2.2.1.toNat i.2.2.2.2.toNat = true) →
        u.pendingTouches (fun a => ws.any (fun w => w.1 == a)) = true →
        exec (.rangeWrite h items) s = .next (u.finish k .stageConflict []))) ∧
    (∀ (items : List (Byte × Word × Word × Word × Word)) (ws : List (Nat × Word)), Opens (.rangeWrite h items) s k u →
      h.paramLen = 2 + 18 * items.length → 1 ≤ items.length → items.length ≤ 16 →
      (∀ i ∈ items, i.1.toNat ≤ 63 ∧ rangeOk i.2.1.toNat i.2.2.1.toNat i.2.2.2.1.toNat i.2.2.2.2.toNat = true) →
      ws = items.flatMap (fun i => [(Reg.RANGE_0 i.1.toNat, i.2.1), (Reg.RANGE_4 i.1.toNat, i.2.2.1),
        (Reg.RANGE_8 i.1.toNat, i.2.2.2.1), (Reg.RANGE_C i.1.toNat, i.2.2.2.2)]) →
      u.pendingTouches (fun a => ws.any (fun w => w.1 == a)) = false →
      ((u.shadowWords ws).applyShadows.rangesApart = true →
        exec (.rangeWrite h items) s = .next ((u.shadowWords ws).finish k .ok (leBytes 8 (u.round + 1)))) ∧
      ((u.shadowWords ws).applyShadows.rangesApart = false →
        exec (.rangeWrite h items) s = .next (u.finish k .checkFailed [])))

/-- PWRIN_STATUS, PWRIN_RETRY_CLEAR, PD_STATUS, PD_ROLE_SWAP, PD_POLICY and PSTATE_STATUS that open (R399, R404, R422).
Rests on the model's choices of log entries 140. -/
def Obligations.PowerCommandsComplete : Prop :=
  ∀ (s u : State) (h : CmdHdr) (k : Nat),
    (Opens (.pwrinStatus h) s k u → exec (.pwrinStatus h) s = .next (u.finish k .ok
      (u.pathBytes 0 ++ u.pathBytes 1 ++ leBytes 4 (u.word Reg.VOUT).toNat ++ leBytes 4 (u.word Reg.SUPPLY_STATUS).toNat))) ∧
    (∀ input : Byte, Opens (.pwrinRetryClear h input) s k u →
      (input.toNat ≤ 1 → u.pathState input.toNat = 5 →
        exec (.pwrinRetryClear h input) s = .next
          ((((u.setPath input.toNat 0).set (Reg.IN_STATE_RETRIES input.toNat) 0).tryRamp input.toNat false).finish k .ok [])) ∧
      (input.toNat ≤ 1 → u.pathState input.toNat ≠ 5 → exec (.pwrinRetryClear h input) s = .next (u.finish k .notPermitted [])) ∧
      (1 < input.toNat → exec (.pwrinRetryClear h input) s = .next (u.finish k .badParam []))) ∧
    (∀ port : Byte, Opens (.pdStatus h port) s k u →
      (port.toNat ≤ 4 → exec (.pdStatus h port) s = .next (u.finish k .ok
        (leBytes 4 (u.word (Reg.PD_PORT_0 port.toNat)).toNat ++ leBytes 4 (u.word (Reg.PD_PORT_4 port.toNat)).toNat ++
          leBytes 4 (u.word (Reg.PD_PORT_8 port.toNat)).toNat ++ leBytes 4 0 ++ u.policyBytes port.toNat))) ∧
      (4 < port.toNat → exec (.pdStatus h port) s = .next (u.finish k .badParam []))) ∧
    (∀ port : Byte, Opens (.pdRoleSwap h port) s k u →
      (port.toNat ≤ 3 → (u.pdPort port.toNat).swap = none → u.flag (Reg.PD_PORT_CONTRACT port.toNat) = true →
        (u.pdPort port.toNat).dualRole = true →
        (u.isSource port.toNat = true ∨ (u.sourceEn port.toNat = true ∧ 4500 ≤ u.offerMost port.toNat)) → ∀ v : State,
        v = (u.updPd port.toNat (fun x => { x with swap := some ⟨true, u.isSource port.toNat, false⟩ })).setFlag
          (Reg.PD_PORT_SWAPPING port.toNat) true →
        exec (.pdRoleSwap h port) s = .next ((v.pdSend port.toNat "PR_Swap").updEntry k (fun e => { e with wait := port.toNat }))) ∧
      (port.toNat ≤ 3 → (u.pdPort port.toNat).swap ≠ none →
        exec (.pdRoleSwap h port) s = .next (u.finish k .busyRetry (u.roleData port.toNat))) ∧
      (port.toNat ≤ 3 → (u.pdPort port.toNat).swap = none →
        (u.flag (Reg.PD_PORT_CONTRACT port.toNat) = false ∨ (u.pdPort port.toNat).dualRole = false ∨
          (u.isSource port.toNat = false ∧ (u.sourceEn port.toNat = false ∨ u.offerMost port.toNat < 4500))) →
        exec (.pdRoleSwap h port) s = .next (u.finish k .notPermitted (u.roleData port.toNat))) ∧
      (3 < port.toNat → exec (.pdRoleSwap h port) s = .next (u.finish k .badParam []))) ∧
    (∀ (port : Byte) (policy : PdPolicy), Opens (.pdPolicy h port policy) s k u →
      (4 < port.toNat ∨ policy.reservedOk = false ∨ policy.maxW.toNat < 5 ∨ 60 < policy.maxW.toNat ∨ 3 < policy.priority.toNat ∨
        (port.toNat = 4 ∧ (policy.sourceEn = true ∨ policy.acceptPrSwap = true))) →
      exec (.pdPolicy h port policy) s = .next (u.finish k .badParam [])) ∧
    (∀ (port : Byte) (policy : PdPolicy), Opens (.pdPolicy h port policy) s k u → port.toNat ≤ 4 → policy.reservedOk = true →
      5 ≤ policy.maxW.toNat → policy.maxW.toNat ≤ 60 → policy.priority.toNat ≤ 3 →
      (port.toNat = 4 → policy.sourceEn = false ∧ policy.acceptPrSwap = false) →
      (pdosOk policy = true → u.overrideSum port.toNat policy ≤ u.budget →
        exec (.pdPolicy h port policy) s = .next ((u.updPd port.toNat (fun x => { x with next := some policy })).finish k .ok [])) ∧
      (pdosOk policy = false ∨ u.budget < u.overrideSum port.toNat policy →
        exec (.pdPolicy h port policy) s = .next (u.finish k .checkFailed []))) ∧
    (Opens (.pstateStatus h) s k u → exec (.pstateStatus h) s = .next (u.finish k .ok
      (([Reg.DOMAIN_ON, Reg.DOMAIN_REQ, Reg.DOMAIN_FAULT, Reg.DORMANT_CFG, Reg.WAKE_CFG, Reg.PS_STATE, Reg.LAST_WAKE,
        Reg.LAST_DORMANT_S] : List Nat).flatMap (fun a => leBytes 4 (u.word a).toNat))))

/-- KEY_LETTER, KEY_SLOT_INFO, ATTEST, ZEROISE and DEBUG_UNLOCK that open (R426, R430, R441, R442, R445): the signature of a report and
the certificate are free values.
Rests on the model's choices of log entries 7, 8, 11, 156, 158, 159, 161, 162. -/
def Obligations.SecurityCommandsComplete : Prop :=
  ∀ (s u : State) (h : CmdHdr) (k : Nat),
    (∀ l : Letter, Opens (.keyLetter h l) s k u →
      (∀ st, u.letterCheck h l = (0, st) → exec (.keyLetter h l) s = .next ((u.acceptLetter l).finish k .ok
        (leBytes 4 (letterHead l).slot ++ leBytes 4 (letterHead l).sealCounter))) ∧
      (∀ st, u.letterCheck h l = (7, st) → exec (.keyLetter h l) s = .next ((u.notice 0x80D1 [0]).finish k st [])) ∧
      (∀ n st, n ≠ 0 → n ≠ 7 → u.letterCheck h l = (n, st) → exec (.keyLetter h l) s = .next
        ((if st = .sealInvalid then u.sealInvalid n else u).finish k st []))) ∧
    (∀ slot : Byte, Opens (.keySlotInfo h slot) s k u →
      (slot.toNat ≤ 63 → exec (.keySlotInfo h slot) s = .next (u.finish k .ok (u.slotRecord slot.toNat))) ∧
      (63 < slot.toNat → exec (.keySlotInfo h slot) s = .next (u.finish k .badParam []))) ∧
    (∀ nonce : List Byte, Opens (.attest h nonce) s k u → nonce.length = 32 →
      (u.flag Reg.SEC_STATE_CRYPTO_ERROR = false → exec (.attest h nonce) s = .next
        (u.draw.2.finish k .ok (u.report nonce ++ bigBytes 96 (Config.signature u.draw.1).toNat ++
          leBytes 4 (Config.certLen.val + 1) ++ (List.range (Config.certLen.val + 1)).map Config.certByte))) ∧
      (u.flag Reg.SEC_STATE_CRYPTO_ERROR = true → exec (.attest h nonce) s = .next (u.finish k .notPermitted []))) ∧
    (∀ confirm : Word, Opens (.zeroise h confirm) s k u →
      (confirm.toNat = 0x5A45524F → (h.path.val = 66 → bitOf (u.get Reg.SEC_STATE_POLICY) 1 = true) →
        exec (.zeroise h confirm) s = .next
          ((u.setSec { u.sec with zeroising := some (u.sec.zeroising.getD k) }).updEntry k (fun e => { e with wait := 0 }))) ∧
      (confirm.toNat ≠ 0x5A45524F → exec (.zeroise h confirm) s = .next (u.finish k .badParam [])) ∧
      (confirm.toNat = 0x5A45524F → h.path.val = 66 → bitOf (u.get Reg.SEC_STATE_POLICY) 1 = false →
        exec (.zeroise h confirm) s = .next (u.finish k .notPermitted []))) ∧
    (∀ t : Token, Opens (.debugUnlock h t) s k u →
      (∀ st, u.tokenCheck h t = (0, st) →
        (tokenRelocks t = true → exec (.debugUnlock h t) s = .next ((u.debugEnds true).finish k .ok (leBytes 4 0))) ∧
        (tokenRelocks t = false → exec (.debugUnlock h t) s = .next
          (((u.set (Reg.SEAL_COUNTER_VALUE 64) (leAt t.bytes 4 4)).unlockDebug).finish k .ok (leBytes 4 1)))) ∧
      (∀ st, u.tokenCheck h t = (7, st) → exec (.debugUnlock h t) s = .next ((u.notice 0x80D1 [0]).finish k st [])) ∧
      (∀ n st, n ≠ 0 → n ≠ 7 → u.tokenCheck h t = (n, st) → exec (.debugUnlock h t) s = .next
        ((if st = .sealInvalid then u.sealInvalid n else u).finish k st [])))

/-- RECORDER_FREEZE, RECORDER_READ, RECORDER_THAW and SCRUB_STATUS that open (R465, R466).
FW_STAGE_IMAGE and FW_ACTIVATE that open (R480, R481).
Rests on the model's choices of log entries 11, 158, 175. -/
def Obligations.RecorderAndFirmwareCommandsComplete : Prop :=
  (∀ (s u : State) (h : CmdHdr) (k : Nat),
    (Opens (.recorderFreeze h) s k u →
      (u.frozen = false → ∀ v : State, v = (u.setFlag Reg.REC_STATE_FROZEN true).set Reg.REC_STATE_PATH h.path.val →
        exec (.recorderFreeze h) s = .next
          ((v.setRecorder { v.recorder with frozenMark := v.now, frozenAt := v.boot.ticks, frozenSeconds := v.recorder.seconds }).finish k .ok (leBytes 8 v.now))) ∧
      (u.frozen = true → u.get Reg.REC_STATE_PATH = h.path.val →
        exec (.recorderFreeze h) s = .next (u.finish k .ok (leBytes 8 u.recorder.frozenMark))) ∧
      (u.frozen = true → u.get Reg.REC_STATE_PATH ≠ h.path.val → exec (.recorderFreeze h) s = .next (u.finish k .busyRetry []))) ∧
    (∀ first count : BitVec 16, Opens (.recorderRead h first count) s k u →
      (u.frozen = true → u.get Reg.REC_STATE_PATH = h.path.val → first.toNat ≤ 192 → 1 ≤ count.toNat → first.toNat + count.toNat ≤ 193 →
        exec (.recorderRead h first count) s = .next (u.finish k .ok
          (leBytes 2 ((u.recordsFrom count.toNat first.toNat (4080 - 4)).2 - first.toNat) ++
            leBytes 2 (u.recordsFrom count.toNat first.toNat (4080 - 4)).2 ++ (u.recordsFrom count.toNat first.toNat (4080 - 4)).1))) ∧
      (u.frozen = false ∨ u.get Reg.REC_STATE_PATH ≠ h.path.val →
        exec (.recorderRead h first count) s = .next (u.finish k .notPermitted [])) ∧
      (u.frozen = true → u.get Reg.REC_STATE_PATH = h.path.val →
        (192 < first.toNat ∨ count.toNat = 0 ∨ 193 < first.toNat + count.toNat) →
        exec (.recorderRead h first count) s = .next (u.finish k .badParam []))) ∧
    (Opens (.recorderThaw h) s k u →
      (u.frozen = true → u.get Reg.REC_STATE_PATH = h.path.val → exec (.recorderThaw h) s = .next (u.thaw.finish k .ok [])) ∧
      (u.frozen = false ∨ u.get Reg.REC_STATE_PATH ≠ h.path.val → exec (.recorderThaw h) s = .next (u.finish k .notPermitted []))) ∧
    (Opens (.scrubStatus h) s k u → exec (.scrubStatus h) s = .next (u.finish k .ok
      ((List.range 8).flatMap (fun m => leBytes 4 (u.word (Reg.SCRUB_CFG m)).toNat ++ leBytes 4 (u.word (Reg.MEM_STATE m)).toNat ++
        leBytes 4 ((mget u.mem.position m).getD 0) ++ leBytes 4 ((mget u.mem.passes m).getD 0)) ++
        leBytes 4 (u.word Reg.RETIRED).toNat ++ leBytes 4 (u.word Reg.MRAM_SPARES).toNat)))) ∧
  (∀ (s u : State) (h : CmdHdr) (k : Nat),
    (∀ (offset : Word) (data : List Byte) (verified : Bool), Opens (.fwStageImage h offset data verified) s k u → data.length + 4 = h.paramLen →
      ((offset.toNat = 0 ∨ offset.toNat = u.get Reg.FW_STAGED_RECEIVED) → offset.toNat + data.length ≤ 2097408 →
        (verified = true → exec (.fwStageImage h offset data verified) s = .next
          ((u.set Reg.FW_STAGED_RECEIVED (offset.toNat + data.length)).finish k .ok (leBytes 4 (offset.toNat + data.length)))) ∧
        (verified = false → exec (.fwStageImage h offset data verified) s = .next
          ((if offset.toNat = 0 then u.set Reg.FW_STAGED_RECEIVED 0 else u).finish k .hwFault []))) ∧
      (offset.toNat ≠ 0 → offset.toNat ≠ u.get Reg.FW_STAGED_RECEIVED →
        exec (.fwStageImage h offset data verified) s = .next (u.finish k .badParam [])) ∧
      ((offset.toNat = 0 ∨ offset.toNat = u.get Reg.FW_STAGED_RECEIVED) → 2097408 < offset.toNat + data.length →
        exec (.fwStageImage h offset data verified) s = .next (u.finish k .noResource []))) ∧
    (∀ (slot : Byte) (image : ImageFacts) (n : Nat) (c : Instr), c = .fwActivate h slot image → Opens c s k u →
      n = u.get Reg.FW_STAGED_RECEIVED →
      (1 < slot.toNat → exec c s = .next (u.finish k .badParam [])) ∧
      (slot.toNat ≤ 1 → (slot.toNat ≠ 1 - u.get Reg.BOOT_STATE_RUNNING_SLOT ∨ n = 0 ∨ u.flag Reg.BOOT_STATE_TRIAL = true) →
        exec c s = .next (u.finish k .notPermitted [])) ∧
      (slot.toNat ≤ 1 → slot.toNat = 1 - u.get Reg.BOOT_STATE_RUNNING_SLOT → n ≠ 0 → u.flag Reg.BOOT_STATE_TRIAL = false →
        (image.answers = false → exec c s = .next (u.finish k .hwFault [])) ∧
        (image.answers = true → (imageHeaderOk image = false ∨ n ≠ 256 + imageLength image ∨ image.digestOk = false) →
          exec c s = .next (u.finish k .checkFailed [])) ∧
        (image.answers = true → imageHeaderOk image = true → n = 256 + imageLength image → image.digestOk = true →
          (image.signer = .none ∨ (image.signer = .testRoot ∧ u.flag Reg.SEC_STATE_DEBUG = false) →
            exec c s = .next (u.finish k .sealInvalid [])) ∧
          (image.signer = .testRoot → u.flag Reg.SEC_STATE_DEBUG = true → exec c s = .next
            (((u.draw.2.doneAfterReset k (leBytes 4 (imageVersion image))).setBoot { u.draw.2.boot with
              testNext := true, testVersion := imageVersion image, testNo := u.draw.1, due := some ⟨0, 5⟩ }).updEntry k
                (fun e => { e with wait := 0 }))) ∧
          (image.signer ≠ .none → image.signer ≠ .testRoot → ∀ v : State,
            v = ((u.set Reg.BOOT_STATE_ACTIVE_SLOT slot.toNat).setFlag Reg.BOOT_STATE_TRIAL true).set Reg.FW_STAGED_RECEIVED 0 →
            exec c s = .next
              (((v.doneAfterReset k (leBytes 4 (imageVersion image))).setBoot { v.boot with due := some ⟨1, 5⟩ }).updEntry k
                (fun e => { e with wait := 0 })))))))

/-- A flooded record (R51, R90): it is not heard by a port that does not take the stream (not ACTIVE, or discarding it after a degrade);
one that is not intact is discarded and counted in CONTROL_DISCARDED, one with HOPS 0 in RECORDS_DISCARDED, a later copy has no effect;
the first copy leaves on every other ACTIVE port with HOPS one less. -/
def Obligations.RecordsAreFlooded : Prop :=
  ∀ (s : State) (c : Instr) (p : PortId) (ns : Ns) (type : Nat) (r : Rec), recordOf c = some (p, ns, type, r) →
    (s.streams p = false → exec c s = .next s) ∧
    (s.streams p = true → recIntact type r = false → exec c s = .next ((s.at ns.val).bump (Cnt.TRK_CONTROL_DISCARDED p.code))) ∧
    (s.streams p = true → recIntact type r = true → r.hops.val = 0 → exec c s = .next ((s.at ns.val).bump Cnt.ROUND_RECORDS_DISCARDED)) ∧
    (s.streams p = true → recIntact type r = true → r.hops.val ≠ 0 → s.rt.flooded.contains (recId type r) = true →
      exec c s = .next (s.at ns.val)) ∧
    (Heard s p type r → Does c s (fun t => ∀ q, q ≠ p → s.active q = true →
      Out.record q type (framedRec type { r with hops := Fin.ofNat 512 (r.hops.val - 1) }) ∈ t.out))

/-- What a heard record does beyond being relayed, for BEAT, TAKEOVER, CLAIM and RAISE (R52, R54, R64, R68, R79); `u` is the state in
which it is acted on. A record that passes for a new master must also win over one accepted before it that waits for its boundary.
Rests on the model's choices of log entries 41, 47, 48, 53. -/
def Obligations.MasterRecordsAct : Prop :=
  ∀ (s u : State) (p : PortId) (ns : Ns) (r : Rec),
    (Heard s p 0x01 r → u = s.relayed p ns 0x01 r →
      (u.rivalWins r.epoch.toNat r.priority.val r.origin.toNat = true → u.winsPending r.epoch.toNat r.priority.val r.origin.toNat = true →
        exec (.beat p ns r) s = .next
          (((u.accept r false).hears.noteBeat r).showSuccessors r.origin.toNat r.aux.toNat r.subject.toNat)) ∧
      (u.rivalWins r.epoch.toNat r.priority.val r.origin.toNat = false ∨
          u.winsPending r.epoch.toNat r.priority.val r.origin.toNat = false →
        (r.epoch.toNat = u.epoch → r.origin.toNat = u.master → exec (.beat p ns r) s = .next
          (((u.setRt { u.rt with masterPri := r.priority.val }).hears.noteBeat r).showSuccessors r.origin.toNat r.aux.toNat
            r.subject.toNat)) ∧
        (r.epoch.toNat ≠ u.epoch ∨ r.origin.toNat ≠ u.master →
          (∀ a, u.rt.accepted = some a → a.epoch = r.epoch.toNat → a.master = r.origin.toNat → exec (.beat p ns r) s = .next
            ((u.hears.noteBeat r).showSuccessors r.origin.toNat r.aux.toNat r.subject.toNat)) ∧
          ((∀ a, u.rt.accepted = some a → a.epoch ≠ r.epoch.toNat ∨ a.master ≠ r.origin.toNat) →
            exec (.beat p ns r) s = .next (u.bump Cnt.ROUND_RECORDS_DISCARDED))))) ∧
    (Heard s p 0x02 r → u = s.relayed p ns 0x02 r → ∀ named : Prop,
      (named ↔ (u.flag Reg.TIMING_DEP_VALID = true ∧ u.get Reg.SUCCESSORS_SEEN_DEPUTY_PC = r.origin.toNat) ∨
        (u.flag Reg.TIMING_RES_VALID = true ∧ u.get Reg.SUCCESSORS_SEEN_RESERVE_PC = r.origin.toNat)) →
      (named → r.epoch.toNat = (u.epoch + 1) % 65536 → u.winsPending r.epoch.toNat r.priority.val r.origin.toNat = true →
        exec (.takeover p ns r) s = .next ((u.bump Cnt.ROUND_TAKEOVERS).accept r true)) ∧
      (¬ named ∨ r.epoch.toNat ≠ (u.epoch + 1) % 65536 ∨ u.winsPending r.epoch.toNat r.priority.val r.origin.toNat = false →
        exec (.takeover p ns r) s = .next (u.bump Cnt.ROUND_RECORDS_DISCARDED))) ∧
    (Heard s p 0x03 r → ∀ v : State, v = s.relayed p ns 0x03 r →
      u = (if v.timing = 0 ∧ r.aux.toNat = 1 ∧ r.round.val < v.rt.floor
        then v.sendLater ⟨0x04, r.epoch.toNat, v.rt.floor, r.origin.toNat, 0⟩ else v) →
      (u.rivalWins r.epoch.toNat r.priority.val r.origin.toNat = true → u.winsPending r.epoch.toNat r.priority.val r.origin.toNat = true →
        exec (.claim p ns r) s = .next ((u.accept r false).hears.noteBeat r)) ∧
      (u.rivalWins r.epoch.toNat r.priority.val r.origin.toNat = false ∨
          u.winsPending r.epoch.toNat r.priority.val r.origin.toNat = false →
        (r.origin.toNat = u.master → r.epoch.toNat = u.epoch → exec (.claim p ns r) s = .next (u.hears.noteBeat r)) ∧
        (r.origin.toNat ≠ u.master ∨ r.epoch.toNat ≠ u.epoch →
          exec (.claim p ns r) s = .next (u.bump Cnt.ROUND_RECORDS_DISCARDED)))) ∧
    (Heard s p 0x04 r → u = s.relayed p ns 0x04 r →
      (u.timing = 4 → r.subject.toNat = u.postcode → r.epoch.toNat = u.epoch → u.rt.round < r.round.val →
        exec (.raise p ns r) s = .next (u.setRt { u.rt with raise := max u.rt.raise r.round.val })) ∧
      (u.timing = 4 → r.subject.toNat = u.postcode → (r.epoch.toNat ≠ u.epoch ∨ r.round.val ≤ u.rt.round) →
        exec (.raise p ns r) s = .next (u.bump Cnt.ROUND_RECORDS_DISCARDED)) ∧
      ((u.timing ≠ 4 ∨ r.subject.toNat ≠ u.postcode) → exec (.raise p ns r) s = .next u))

/-- What the heard records of a swap do beyond being relayed (R70 to R75): `u` is the state in which each is acted on.
Rests on the model's choices of log entries 44, 54. -/
def Obligations.SwapRecordsAct : Prop :=
  ∀ (s u : State) (p : PortId) (ns : Ns) (r : Rec) (w : Swap),
    (Heard s p 0x10 r → u = s.relayed p ns 0x10 r → r.subject.toNat ≠ u.postcode → exec (.swapOffer p ns r) s = .next u) ∧
    (Heard s p 0x10 r → u = s.relayed p ns 0x10 r → r.subject.toNat = u.postcode →
      (r.origin.toNat = u.master → u.rt.swap = some w → w.asMaster = false → w.phase = .requestDue → w.peer = r.origin.toNat →
        exec (.swapOffer p ns r) s = .next (u.setRt { u.rt with
          swap := some { w with phase := .agreeDue, round := u.rt.round, offer := true } })) ∧
      (r.origin.toNat = u.master → u.rt.swap = some w → w.asMaster = false → w.phase = .awaitGo → w.offer = false →
        w.round = r.round.val → ∀ retry, retry = w.round + (if r.origin.toNat < u.postcode then 4 else 16) →
        exec (.swapOffer p ns r) s = .next ((u.setRt { u.rt with swapRetry := retry }).endSwap .busyRetry retry u.epoch)) ∧
      (r.origin.toNat = u.master → u.rt.swap = some w →
        (w.asMaster = true ∨ (¬ (w.phase = .requestDue ∧ w.peer = r.origin.toNat) ∧
          ¬ (w.phase = .awaitGo ∧ w.offer = false ∧ w.round = r.round.val))) →
        exec (.swapOffer p ns r) s = .next (u.refuseSwap r.origin.toNat 16)) ∧
      (r.origin.toNat ≠ u.master → exec (.swapOffer p ns r) s = .next (u.bump Cnt.ROUND_RECORDS_DISCARDED)) ∧
      (r.origin.toNat = u.master → u.rt.swap = none → u.notCandidate = true →
        exec (.swapOffer p ns r) s = .next (u.refuseSwap r.origin.toNat 0)) ∧
      (r.origin.toNat = u.master → u.rt.swap = none → u.notCandidate = false → u.roundBusy = true →
        exec (.swapOffer p ns r) s = .next (u.refuseSwap r.origin.toNat 16)) ∧
      (r.origin.toNat = u.master → u.rt.swap = none → u.notCandidate = false → u.roundBusy = false →
        exec (.swapOffer p ns r) s = .next (u.setRt { u.rt with
          swap := some ⟨false, true, r.origin.toNat, r.priority.val, .agreeDue, u.rt.round, 0, 0, none⟩ }))) ∧
    (Heard s p 0x11 r → u = s.relayed p ns 0x11 r → r.subject.toNat ≠ u.postcode → exec (.swapAsk p ns r) s = .next u) ∧
    (Heard s p 0x11 r → u = s.relayed p ns 0x11 r → r.subject.toNat = u.postcode →
      (u.timing = 4 → u.rt.swap = some w → w.asMaster = true → ∀ ours theirs : Prop,
        (ours ↔ w.offer = true ∧ w.peer = r.origin.toNat ∧ w.phase = .awaitAgree ∧ w.round = r.round.val) →
        (theirs ↔ w.offer = false ∧ w.phase = .goDue ∧ w.round = u.rt.round ∧
          (w.peerPri < r.priority.val ∨ (w.peerPri = r.priority.val ∧ r.origin.toNat < w.peer))) →
        (ours → ∀ retry, retry = w.round + (if r.origin.toNat < u.postcode then 4 else 16) →
          exec (.swapAsk p ns r) s = .next ((u.setRt { u.rt with swapRetry := retry }).endSwap .busyRetry retry u.epoch)) ∧
        (theirs → ∀ v : State, v = u.refuseSwap w.peer 16 → exec (.swapAsk p ns r) s = .next (v.setRt { v.rt with
          swap := some { w with peer := r.origin.toNat, peerPri := r.priority.val } })) ∧
        (¬ ours → ¬ theirs → exec (.swapAsk p ns r) s = .next (u.refuseSwap r.origin.toNat 16))) ∧
      (u.timing = 4 → u.rt.swap = some w → w.asMaster = false →
        exec (.swapAsk p ns r) s = .next (u.refuseSwap r.origin.toNat 16)) ∧
      (u.timing ≠ 4 → exec (.swapAsk p ns r) s = .next (u.refuseSwap r.origin.toNat 0)) ∧
      (u.timing = 4 → u.rt.swap = none → (∃ x ∈ u.rt.hdrs, x.2.sender = r.origin.toNat ∧ x.2.tstate ≠ 2) →
        exec (.swapAsk p ns r) s = .next (u.refuseSwap r.origin.toNat 0)) ∧
      (u.timing = 4 → u.rt.swap = none → (∀ x ∈ u.rt.hdrs, x.2.sender = r.origin.toNat → x.2.tstate = 2) → u.roundBusy = true →
        exec (.swapAsk p ns r) s = .next (u.refuseSwap r.origin.toNat 16)) ∧
      (u.timing = 4 → u.rt.swap = none → (∀ x ∈ u.rt.hdrs, x.2.sender = r.origin.toNat → x.2.tstate = 2) → u.roundBusy = false →
        exec (.swapAsk p ns r) s = .next (u.setRt { u.rt with
          swap := some ⟨true, false, r.origin.toNat, r.priority.val, .goDue, u.rt.round, 0, 0, none⟩ }))) ∧
    (Heard s p 0x12 r → u = s.relayed p ns 0x12 r →
      (r.subject.toNat = u.postcode → u.rt.swap = some w → w.asMaster = true → w.phase = .awaitAgree → w.peer = r.origin.toNat →
        u.rt.round ≤ w.round + 1 → exec (.swapAgree p ns r) s = .next (u.setRt { u.rt with
          swap := some { w with phase := .goDue, peerPri := r.priority.val } })) ∧
      (r.subject.toNat = u.postcode → u.rt.swap = some w →
        (w.asMaster = false ∨ w.phase ≠ .awaitAgree ∨ w.peer ≠ r.origin.toNat ∨ w.round + 1 < u.rt.round) →
        exec (.swapAgree p ns r) s = .next (u.bump Cnt.ROUND_RECORDS_DISCARDED)) ∧
      (r.subject.toNat = u.postcode → u.rt.swap = none → exec (.swapAgree p ns r) s = .next (u.bump Cnt.ROUND_RECORDS_DISCARDED)) ∧
      (r.subject.toNat ≠ u.postcode → exec (.swapAgree p ns r) s = .next u)) ∧
    (Heard s p 0x13 r → u = s.relayed p ns 0x13 r →
      (r.subject.toNat = u.postcode → u.rt.swap = some w → w.peer = r.origin.toNat → w.phase = .awaitAgree ∨ w.phase = .awaitGo →
        (r.aux.toNat = 0 → exec (.swapRefuse p ns r) s = .next (u.endSwap .notPermitted u.rt.round u.epoch)) ∧
        (r.aux.toNat ≠ 0 → exec (.swapRefuse p ns r) s = .next (u.endSwap .busyRetry (r.round.val + r.aux.toNat) u.epoch))) ∧
      (r.subject.toNat = u.postcode →
        (∀ x, u.rt.swap = some x → x.peer ≠ r.origin.toNat ∨ (x.phase ≠ .awaitAgree ∧ x.phase ≠ .awaitGo)) →
        exec (.swapRefuse p ns r) s = .next (u.bump Cnt.ROUND_RECORDS_DISCARDED)) ∧
      (r.subject.toNat ≠ u.postcode → exec (.swapRefuse p ns r) s = .next u)) ∧
    (Heard s p 0x14 r → u = s.relayed p ns 0x14 r →
      (r.origin.toNat = u.master → r.epoch.toNat = (u.epoch + 1) % 65536 → ∀ g : GoSeen,
        g = ⟨r.round.val, r.epoch.toNat, r.subject.toNat, r.aux.toNat, u.get Reg.SUCCESSORS_SEEN_DEPUTY_PC⟩ →
        (u.rt.swap = some w → r.subject.toNat = u.postcode → w.asMaster = false → w.phase = .awaitGo →
          exec (.swapGo p ns r) s = .next (u.setRt { u.rt with
            go := some g, swap := some { w with phase := .readyDue, round := u.rt.round, e := r.round.val, epoch := r.epoch.toNat } })) ∧
        ((∀ x, u.rt.swap = some x → r.subject.toNat ≠ u.postcode ∨ x.asMaster = true ∨ x.phase ≠ .awaitGo) →
          exec (.swapGo p ns r) s = .next (u.setRt { u.rt with go := some g }))) ∧
      (r.origin.toNat ≠ u.master ∨ r.epoch.toNat ≠ (u.epoch + 1) % 65536 →
        exec (.swapGo p ns r) s = .next (u.bump Cnt.ROUND_RECORDS_DISCARDED))) ∧
    (Heard s p 0x15 r → u = s.relayed p ns 0x15 r →
      (r.subject.toNat = u.postcode → u.rt.swap = some w → w.asMaster = true → w.phase = .awaitReady → w.peer = r.origin.toNat →
        exec (.swapReady p ns r) s = .next (u.setRt { u.rt with swap := some { w with phase := .awaitE } })) ∧
      (r.subject.toNat = u.postcode →
        (∀ x, u.rt.swap = some x → x.asMaster = false ∨ x.phase ≠ .awaitReady ∨ x.peer ≠ r.origin.toNat) →
        exec (.swapReady p ns r) s = .next (u.bump Cnt.ROUND_RECORDS_DISCARDED)) ∧
      (r.subject.toNat ≠ u.postcode → exec (.swapReady p ns r) s = .next u)) ∧
    (Heard s p 0x16 r → u = s.relayed p ns 0x16 r →
      (∀ g, u.rt.go = some g → u.cancelInTime g.e = false → exec (.swapCancel p ns r) s = .next u) ∧
      ((∀ g, u.rt.go = some g → u.cancelInTime g.e = true) → ∀ v : State, v = u.setRt { u.rt with go := none } →
        ((∀ x, u.rt.swap = some x → x.peer ≠ r.origin.toNat ∧ x.peer ≠ r.subject.toNat) →
          exec (.swapCancel p ns r) s = .next v) ∧
        (u.rt.swap = some w → w.peer = r.origin.toNat ∨ w.peer = r.subject.toNat →
          exec (.swapCancel p ns r) s = .next (v.endSwap .timeout v.rt.round v.epoch))))

/-- The delay records (R57): an ask is answered with its turnaround; an answer is accepted within 0 to 50,000 ns and 100 ns of the
median, and D_NS becomes the median of the last eight; any other ends the ask and is counted; an ask given up is counted.
Rests on the model's choices of log entries 3, 45, 52. -/
def Obligations.DelayCommandsAct : Prop :=
  ∀ (s u : State) (p : PortId) (ns : Ns),
    (∀ seq turnaround, Acts (.delayAsk p seq turnaround) s (s.streams p = true)
      (fun t => t = (s.emit (.delay p true seq.toNat turnaround.toNat)).dealt p 3)) ∧
    (∀ seq turnaround, s.streams p = false → exec (.delayAnswer p seq turnaround ns) s = .next s) ∧
    (∀ (seq : Byte) (turnaround : BitVec 32) (t1 : Nat) (x : Int), s.streams p = true → u = s.at ns.val →
      (u.delay p).asked = some t1 → (u.delay p).seq = seq.toNat →
      x = (postmarkDiff u.now t1 - (turnaround.toNat : Int)) / 2 + u.asym p →
      (0 ≤ x → x ≤ 50000 → ((u.delay p).samples = [] ∨
          (medianInt (u.delay p).samples - 100 ≤ x ∧ x ≤ medianInt (u.delay p).samples + 100)) →
        exec (.delayAnswer p seq turnaround ns) s = .next
          (((u.setDelay p ⟨(u.delay p).seq, none, (x :: (u.delay p).samples).take 8⟩).setFlag (Reg.HOP_DELAY_VALID p.code) true).set
            (Reg.HOP_DELAY_D_NS p.code) (medianInt ((x :: (u.delay p).samples).take 8)).toNat)) ∧
      ((x < 0 ∨ 50000 < x ∨ ((u.delay p).samples ≠ [] ∧
          (x < medianInt (u.delay p).samples - 100 ∨ medianInt (u.delay p).samples + 100 < x))) → exec (.delayAnswer p seq turnaround ns) s = .next
        ((u.setDelay p { u.delay p with asked := none }).bump Cnt.ROUND_DELAY_DISCARDED))) ∧
    (∀ seq turnaround, s.streams p = true → u = s.at ns.val → ((u.delay p).asked = none ∨ (u.delay p).seq ≠ seq.toNat) →
      exec (.delayAnswer p seq turnaround ns) s = .next (u.bump Cnt.ROUND_DELAY_DISCARDED)) ∧
    Acts (.delayAnswerTimeout p) s ((s.delay p).asked ≠ none)
      (fun t => t = (s.setDelay p { s.delay p with asked := none }).bump Cnt.ROUND_DELAY_DISCARDED) ∧
    Acts (.hopDelayMeasure p ns) s (s.active p = true) (fun t => t = (s.at ns.val).askDelay p)

/-- The state changes of the round timer (R53, R60, R67): each where its condition holds, and no effect where it does not.
Rests on the model's choices of log entries 43, 44, 51, 53. -/
def Obligations.TimingStatesAct : Prop :=
  ∀ s : State,
    Acts .beatSilenceClaim s (0 < s.priority ∧ s.addrValid = true ∧ s.rt.heard = false ∧ s.rt.accepted = none ∧
        ((s.timing = 0 ∧ 64 ≤ s.rt.silent) ∨ ((s.timing = 2 ∨ s.timing = 3) ∧ 64 ≤ s.rt.missed)))
      (fun t => t = s.setRt { s.rt with claimAux := some (if s.timing = 0 then 1 else 0) }) ∧
    Acts .deputyTakeover s ((s.timing = 2 ∨ s.timing = 3) ∧ 0 < s.priority ∧ s.flag Reg.TIMING_DEP_VALID = true ∧ 2 ≤ s.rt.missed ∧
        s.get Reg.SUCCESSORS_SEEN_DEPUTY_PC = s.postcode ∧ s.rt.accepted = none)
      (fun t => t = s.setRt { s.rt with takeover := true }) ∧
    Acts .reserveTakeover s ((s.timing = 2 ∨ s.timing = 3) ∧ 0 < s.priority ∧ s.flag Reg.TIMING_RES_VALID = true ∧ 3 ≤ s.rt.missed ∧
        s.get Reg.SUCCESSORS_SEEN_RESERVE_PC = s.postcode ∧ s.rt.accepted = none)
      (fun t => t = s.setRt { s.rt with takeover := true }) ∧
    Acts .lockLoss s (s.timing = 2 ∧ s.lockLost = true) (fun t => t = (s.bump Cnt.ROUND_LOCK_LOSSES).enterHoldover) ∧
    Acts .lockedEntry s (64 ≤ s.rt.goodRounds ∧ (s.timing = 1 ∨ (s.timing = 3 ∧ s.rt.pullIn = true)))
      (fun t => t = (s.setTiming 2).setRt { (s.setTiming 2).rt with pullIn := false }) ∧
    Acts .acquireTimeout s (s.timing = 1 ∧ 4000 ≤ s.rt.stateRounds) (fun t =>
      (∀ q, allPorts.find? (fun q => s.qualifies q && s.parent != some q) = some q →
        t = (s.setParent (some q)).setRt { s.rt with stepped := false, stateRounds := 0, goodRounds := 0 }) ∧
      (allPorts.find? (fun q => s.qualifies q && s.parent != some q) = none → t = s.enterFree)) ∧
    Acts .holdoverExpired s (s.timing = 3 ∧ 8000 ≤ s.rt.stateRounds ∧ s.rt.pullIn = false)
      (fun t => t = (s.bump Cnt.ROUND_HOLDOVER_EXPIRED).enterFree) ∧
    Acts .swapDeadline s (∃ w, s.rt.swap = some w ∧ w.overdue s.rt.round s.rt.mark = true) (fun t => ∀ w, s.rt.swap = some w →
      t = (if w.asMaster then s.setRt { s.rt with cancelDue := some w.peer } else s).endSwap .timeout s.rt.round s.epoch) ∧
    Acts .swapPartyReset s (∃ w, s.rt.swap = some w ∧
        (w.e = 0 ∨ s.rt.round + 1 < w.e ∨ (s.rt.round + 1 = w.e ∧ s.rt.mark = 0))) (fun t => ∀ w, s.rt.swap = some w →
      t = (s.setRt { s.rt with cancelDue := some w.peer }).endSwap .timeout s.rt.round s.epoch)

/-- The marks of the round (R76), where rounds run; ROUND_NUMBER_WRITE stores the round, its epoch and ENERGY (R53, R389).
Rests on the model's choices of log entries 14, 78, 79, 191. -/
def Obligations.MarksAct : Prop :=
  ∀ s : State,
    (∀ sample switchTemp keeperTemp, Acts (.roundBoundary sample switchTemp keeperTemp) s (s.rounds = true) (fun t =>
      t = ((((s.boundaryTurns.boundaryApplies s).boundaryBegins (s.boundaryTurns.setsDue != [])).boundaryWorks s).boundaryPower sample
        switchTemp keeperTemp))) ∧
    Acts .collectionMark s (s.rounds = true) (fun t =>
      t = ((s.timingCollection.speculate s.timingCollection.preview).enginesAtCollection s.timingCollection.preview).sampleDemand.finalChecks) ∧
    Acts .sealMark s (s.rounds = true) (fun t => ∀ u : State, u = forAll allPorts s.timingSeal (fun s p => s.lanePowerSend p) →
      t = (forAll allPorts (u.when (!u.isoAllowed (u.round + 1)) (fun s => s.bump Cnt.ROUND_ISO_GATED_ROUNDS))
        (fun s p => s.sealSheet u.preview (!u.isoAllowed (u.round + 1)) p)).enginesAtSeal u.preview) ∧
    Does .roundNumberWrite s (fun t => t.rt.storedRound = s.rt.round ∧ t.rt.storedEpoch = s.epoch ∧ t.rt.storedAge = 0 ∧
      t.power.pathA.stored = s.power.pathA.energy ∧ t.power.pathB.stored = s.power.pathB.energy ∧ t.mem.roundLost = false ∧
      t.regs = s.regs ∧ t.out = s.out)

/-- Lock, marks and codewords (R87, R91, R93, R110): a lane locked is in RX_LOCKED and the port may move on; a lane's lock lost is
counted once; a mark that follows, with the port's RATE, is taken and one that does not is ignored, two in a row losing the lock; a codeword's
headers count as invalid, and 16 of them since the last mark lose the lock.
Rests on the model's choices of log entries 59, 61, 194, 209. -/
def Obligations.LockCommandsAct : Prop :=
  ∀ (s : State) (p : PortId) (lane : Fin 4),
    Acts (.blockLock p lane) s (s.portState p ≠ 0) (fun t => t = ((((s.updPort p (fun x => { x with
      locked := setBit x.locked lane.val true, clean := mdel x.clean lane.val,
      marksMissed := mdel x.marksMissed lane.val, badHdrs := mdel x.badHdrs lane.val })).lockChanged p).syncLanes p).sendTrain p).advancePort
      p) ∧
    Acts (.blockLockLoss p lane) s (bitOf (s.port p).locked lane.val = true) (fun t => t = (((((s.updPort p (fun x => { x with
      locked := setBit x.locked lane.val false, clean := mdel x.clean lane.val, marks := mdel x.marks lane.val,
      marksMissed := mdel x.marksMissed lane.val, badHdrs := mdel x.badHdrs lane.val, nonces := mdel x.nonces lane.val })).bump
        (Cnt.TRK_LOCK_LOSSES p.code lane.val)).set ⟨Reg.SKEW p.code, 8 * lane.val, 8⟩ 255).lockChanged p).syncLanes p).sendTrain p) ∧
    (∀ far mask rate new count skew stats,
      (bitOf (s.port p).locked lane.val = false → exec (.groupMark p lane far mask rate new count skew stats) s = .next s) ∧
      (bitOf (s.port p).locked lane.val = true → ∀ v : State,
        v = s.updPort p (fun x => { x with marks := mput x.marks lane.val count.toNat }) →
        ((∀ c, mget (s.port p).marks lane.val = some c → count.toNat = (c + 1) % 2 ^ 32) → far.val ≠ 3 → rate = v.fullRate p →
          exec (.groupMark p lane far mask rate new count skew stats) s = .next
            ((v.updPort p (fun x => { x with marksMissed := mdel x.marksMissed lane.val })).takeMark p lane.val mask.toNat new skew stats)) ∧
        (((∃ c, mget (s.port p).marks lane.val = some c ∧ count.toNat ≠ (c + 1) % 2 ^ 32) ∨ far.val = 3 ∨ rate ≠ v.fullRate p) →
          (mget (s.port p).marksMissed lane.val = none → exec (.groupMark p lane far mask rate new count skew stats) s = .next
            (v.updPort p (fun x => { x with marksMissed := mput x.marksMissed lane.val 1 }))) ∧
          (mget (s.port p).marksMissed lane.val = some 0 → exec (.groupMark p lane far mask rate new count skew stats) s = .next
            (v.updPort p (fun x => { x with marksMissed := mput x.marksMissed lane.val 1 }))) ∧
          (∀ n, mget (s.port p).marksMissed lane.val = some n → 1 ≤ n → exec (.groupMark p lane far mask rate new count skew stats) s = .next
            (v.loseLock p lane.val))))) ∧
    (∀ (headers bad : Nat) (u : State), bad = (mget (s.port p).badHdrs lane.val).getD 0 + headers →
      u = ((s.bump (Cnt.TRK_UNCORRECTABLE_CW p.code lane.val)).bump (Cnt.TRK_BAD_HEADERS p.code lane.val) headers).updPort p (fun x => { x with
        badInSecond := x.badInSecond + 1, badWords := mput x.badWords lane.val ((mget x.badWords lane.val).getD 0 + 1),
        clean := mdel x.clean lane.val, badHdrs := mput x.badHdrs lane.val bad }) →
      (bad < 16 → exec (.codewordUncorrectable p lane headers) s = .next u) ∧
      (16 ≤ bad → exec (.codewordUncorrectable p lane headers) s = .next (u.loseLock p lane.val)))

/-- TRAIN (R88, R90, R92, R96): another TYPE is discarded and counted; on a lane whose NONCE differs from that of the lowest locked
lane it counts once in LANE_MISMATCH; else the far end's word is taken, the
TX_MASK of a port in bring-up becomes the far RX_CHOSEN, and the port moves on as R95 says. PORT_ENABLE (R95, R434, R437, R439).
Rests on the model's choices of log entries 3, 7, 207, 210. -/
def Obligations.TrainAndEnableAct : Prop :=
  ∀ (s u : State) (p : PortId) (lane : Fin 4) (m : TrainMsg),
    (s.portState p = 0 → exec (.train p lane m) s = .next s) ∧
    (s.portState p ≠ 0 → m.type ≠ 0x10 → exec (.train p lane m) s = .next (s.bump (Cnt.TRK_CONTROL_DISCARDED p.code))) ∧
    (∀ v : State, s.portState p ≠ 0 → m.type = 0x10 →
      v = s.updPort p (fun x => { x with nonces := mput x.nonces lane.val m.nonce.toNat }) → bitOf (v.port p).mismatched lane.val = true →
      (bitOf (s.port p).mismatched lane.val = false → exec (.train p lane m) s = .next (v.bump (Cnt.TRK_LANE_MISMATCH p.code))) ∧
      (bitOf (s.port p).mismatched lane.val = true → exec (.train p lane m) s = .next v)) ∧
    (∀ v : State, s.portState p ≠ 0 → m.type = 0x10 →
      v = s.updPort p (fun x => { x with nonces := mput x.nonces lane.val m.nonce.toNat }) → bitOf (v.port p).mismatched lane.val = false →
      u = v.updPort p (fun x => { x with
        farNonce := m.nonce.toNat, farLocked := m.rxLocked.toNat, farChosen := m.rxChosen.toNat, farReady := m.ready,
        farFullCap := m.fullCap, farStepGo := m.stepGo }) →
      (3 ≤ u.portState p ∧ u.portState p ≤ 8 →
        exec (.train p lane m) s = .next ((u.setMasks p m.rxChosen.toNat (u.rxMask p)).advancePort p)) ∧
      (¬ (3 ≤ u.portState p ∧ u.portState p ≤ 8) → exec (.train p lane m) s = .next ((u.syncLanes p).advancePort p))) ∧
    (exec (.portEnable p false) s = .next (s.holdPort p)) ∧
    (s.mayEnable p = false → exec (.portEnable p true) s = .next (s.emit (.writeStatus (Reg.TRK_PORT_CFG p.code) .notPermitted))) ∧
    (s.mayEnable p = true → u = s.setFlag (Reg.TRK_PORT_CFG_EN p.code) true →
      (u.powered (PortId.domain p) = true → u.portState p = 0 → exec (.portEnable p true) s = .next (u.enterHunt p)) ∧
      (u.powered (PortId.domain p) = false ∨ u.portState p ≠ 0 → exec (.portEnable p true) s = .next u))

/-- The limits of the port states (R95, R97, R110): each acts in its own state, and has no effect in any other.
Rests on the model's choices of log entries 56, 57, 59. -/
def Obligations.PortTimersAct : Prop :=
  ∀ (s : State) (p : PortId),
    Acts (.huntRestart p) s (s.portState p = 1) (fun t => t = ((s.updPort p (fun x => { x with
      locked := 0, unused := 0, nonces := [], badHdrs := [], marks := [], marksMissed := [] })).bump (Cnt.TRK_HUNT_RESTARTS p.code)).syncLanes p) ∧
    Acts (.alignStable p) s (s.portState p = 2 ∧ (s.port p).alignWaited = false) (fun t => t = (s.chooseAlign p).advancePort p) ∧
    Acts (.alignTimeout p) s (s.portState p = 2) (fun t =>
      ((s.port p).alignWaited = true ∨ s.usable p = 0 → t = s.enterHunt p) ∧
      ((s.port p).alignWaited = false → s.usable p ≠ 0 →
        t = ((s.updPort p (fun x => { x with alignWaited := true })).chooseAlign p).advancePort p)) ∧
    Acts (.tuneReady p) s (s.portState p = 3 ∨ s.portState p = 6) (fun t => t = s.setReady p) ∧
    (∀ (ready : BitVec 4) (left : Nat), left = widthOf (((s.port p).chosen.land (s.usable p)).land ready.toNat) →
      (s.portState p ≠ 3 → s.portState p ≠ 6 → exec (.tuneTimeout p ready) s = .next s) ∧
      (s.portState p = 3 → left = 0 → exec (.tuneTimeout p ready) s = .next (s.enterHunt p)) ∧
      (s.portState p = 6 → slotsOf (popCount left 4) true ≤ slotsOf (popCount (s.port p).halfChosen 4) false →
        exec (.tuneTimeout p ready) s = .next (s.enterRelockHalf p)) ∧
      ((s.portState p = 3 ∧ left ≠ 0) ∨
          (s.portState p = 6 ∧ slotsOf (popCount (s.port p).halfChosen 4) false < slotsOf (popCount left 4) true) →
        exec (.tuneTimeout p ready) s = .next
          (((s.updPort p (fun x => { x with chosen := left })).setMasks p (s.txMask p) left).setReady p))) ∧
    Acts (.stepTimeout p) s (s.portState p = 4) (fun t => t = (s.updPort p (fun x => { x with stepGo := false })).enterCheck p) ∧
    Acts (.relockFullTimeout p) s (s.portState p = 5) (fun t => t = (s.bump (Cnt.TRK_STEP_FAILS p.code)).enterRelockHalf p) ∧
    Acts (.relockHalfTimeout p) s (s.portState p = 7) (fun t => t = s.enterHunt p) ∧
    Acts (.checkComplete p true) s (s.portState p = 8) (fun t => t = s.enterActive p) ∧
    Acts (.checkComplete p false) s (s.portState p = 8) (fun t => ∀ u, u = s.bump (Cnt.TRK_CHECK_FAILS p.code) →
      (u.fullRate p = true → t = u.enterRelockHalf p) ∧ (u.fullRate p = false → t = u.enterHunt p)) ∧
    Acts (.directionLost p) s (s.portState p = 9) (fun t => t = s.enterHunt p) ∧
    Does (.trunkRetrainTimeout p) s (fun t =>
      t = s.finishWaiters 0x0120 p.code .timeout (leBytes 4 (s.word (Reg.TRK_PORT_STATE p.code)).toNat))

/-- The lane messages and the lanes in ACTIVE (R88, R100, R102, R103, R105): an answer or a request joins the messages that wait for
their group on the lanes named, TAP_ACK in one group and WIDTH_REQ in three.
Rests on the model's choices of log entries 3, 55, 57, 59, 60, 62, 212, 213. -/
def Obligations.LaneCommandsAct : Prop :=
  ∀ (s u : State) (p : PortId),
    (∀ q : TapReq,
      (s.tapReqOk p q = false → exec (.tapReq p q) s = .next (s.bump (Cnt.TRK_CONTROL_DISCARDED p.code))) ∧
      (∀ v, s.tapReqOk p q = true → mget (s.port p).tapSeq q.lane.val = some v → v % 256 = q.seq.toNat →
        exec (.tapReq p q) s = .next
          (s.updPort p (fun x => x.queueMsg (2 ^ q.lane.val) 0x12 [q.seq.toNat, q.lane.val, v / 256] 1))) ∧
      (∀ r : List Int × List Nat, s.tapReqOk p q = true → (∀ v, mget (s.port p).tapSeq q.lane.val = some v → v % 256 ≠ q.seq.toNat) →
        (q.preset.val ≠ 0 → r = (presetTaps q.preset.val, [1, 1, 1, 1, 1])) →
        (q.preset.val = 0 → r = stepTaps (s.taps p q.lane.val) [q.cm2.val, q.cm1.val, q.c0.val, q.cp1.val, q.cp2.val]) →
        exec (.tapReq p q) s = .next ((s.setTaps p q.lane.val r.1).updPort p (fun x => ({ x with
          tapSeq := mput x.tapSeq q.lane.val (q.seq.toNat + 256 * packTaps r.2) }).queueMsg (2 ^ q.lane.val) 0x12
            [q.seq.toNat, q.lane.val, packTaps r.2] 1)))) ∧
    (∀ seq (lane : Fin 4) st,
      (s.portState p = 3 ∨ s.portState p = 6 → exec (.tapAck p seq lane st) s = .next
        (s.updPort p (fun x => { x with tapAsk := mupd x.tapAsk lane.val (fun a => (a.1, a.2 || a.1 == seq.toNat)) }))) ∧
      (s.portState p ≠ 3 → s.portState p ≠ 6 → exec (.tapAck p seq lane st) s = .next (s.bump (Cnt.TRK_CONTROL_DISCARDED p.code)))) ∧
    (∀ (chosen : BitVec 4) (ns : Ns),
      (∀ restore, s.portState p ≠ 9 → exec (.widthReq p chosen restore ns) s = .next (s.bump (Cnt.TRK_CONTROL_DISCARDED p.code))) ∧
      (∀ m, s.portState p = 9 → u = s.at ns.val → m = widthOf (chosen.toNat.land (u.get (Reg.LANE_PLAN_POWERED p.code))) →
        ((u.port p).change ≠ none ∨ popCount m 4 ≤ popCount (u.txMask p) 4 → exec (.widthReq p chosen true ns) s = .next u) ∧
        ((u.port p).change = none → popCount (u.txMask p) 4 < popCount m 4 → exec (.widthReq p chosen true ns) s = .next
          (u.updPort p (fun x => { x with change := some ⟨u.round + 2, m, true⟩ })))) ∧
      (s.portState p = 9 → u = s.at ns.val →
        (u.txMask p = chosen.toNat → exec (.widthReq p chosen false ns) s = .next u) ∧
        (u.txMask p ≠ chosen.toNat → exec (.widthReq p chosen false ns) s = .next
          ((u.updPort p (fun x => { x with change := x.change.bind (·.afterDegrade (u.txMask p) chosen.toNat) })).setMasks p chosen.toNat
            (u.rxMask p))))) ∧
    (∀ (mask : BitVec 4) (mode : Fin 4) (lo : BitVec 32) (m : RxPower), m = ⟨lo.toNat, mask.toNat, mode.val⟩ →
      (s.portState p ≠ 9 ∨ mode.val = 0 → exec (.lanePower p mask mode lo) s = .next (s.bump (Cnt.TRK_CONTROL_DISCARDED p.code))) ∧
      (s.portState p = 9 → mode.val ≠ 0 → exec (.lanePower p mask mode lo) s = .next (s.updPort p (fun x => { x with
        rxPower := if x.rxPower.contains m then x.rxPower else x.rxPower ++ [m] })))) ∧
    (∀ (lanes : BitVec 4) (ns : Ns) (bad spare new : Nat),
      bad = (lanes.toNat.land (s.rxMask p)).land (laneMask (fun n => !bitOf (s.port p).locked n ||
        decide (8 ≤ (mget (s.port p).badWords n).getD 0) || bitOf (s.port p).unused n)) →
      (s.portState p ≠ 9 ∨ bad = 0 → exec (.laneDegrade p lanes ns) s = .next s) ∧
      (s.portState p = 9 → bad ≠ 0 →
        u = ((s.at ns.val).bump (Cnt.TRK_DEGRADES p.code) (popCount bad 4)).updPort p (fun x => { x with
          degraded := x.degraded.lor bad, discarding := true, restoreAsk := 0, clean := x.clean.filter (fun e => !bitOf bad e.1) }) →
        spare = maskSub (laneMask (fun n => u.get (rxLane p n) == 3)) ((u.port p).degraded.lor (u.port p).unused) →
        new = widthOf (((u.rxMask p).land (u.usable p)).lor spare) →
        exec (.laneDegrade p lanes ns) s = .next
          (u.updPort p (fun x => ({ x with chosen := new }).queueMsg (u.txMask p) 0x13 [new, 0] 3)))) ∧
    (∀ good out new : Nat,
      good = laneMask (fun n => s.get (rxLane p n) == 2 && bitOf (s.port p).locked n &&
        decide (8000 ≤ (mget (s.port p).clean n).getD 0)) →
      out = (maskSub 15 (s.get (Reg.TRK_PORT_CFG_LANES_EN p.code))).lor ((s.port p).unused.lor (s.port p).mismatched) →
      new = widthOf (maskSub ((s.rxMask p).lor good) out) →
      Acts (.laneRestore p) s (s.portState p = 9 ∧ (s.port p).discarding = false ∧ popCount (s.rxMask p) 4 < popCount new 4)
        (fun t => t = s.updPort p (fun x => ({ x with restoreAsk := new }).queueMsg (s.txMask p) 0x13 [new, 1] 3)))

/-- The module's commands (R107, R108, R110, R114): a module that is absent, or a port with MEDIUM not 0, is not managed.
Rests on the model's choices of log entries 3. -/
def Obligations.ModuleCommandsAct : Prop :=
  ∀ (s u : State) (p : PortId),
    (∀ present : Bool, s.flag (Reg.MODULE_STATUS_PRESENT p.code) = present → exec (.modulePresChange p present) s = .next s) ∧
    (∀ (present manage : Bool), s.flag (Reg.MODULE_STATUS_PRESENT p.code) ≠ present →
      u = s.setFlag (Reg.MODULE_STATUS_PRESENT p.code) present →
      (manage = true ↔ present = true ∧ u.get (Reg.TRK_PORT_CFG_MEDIUM p.code) = 0) →
      exec (.modulePresChange p present) s = .next ((u.manageModule p manage).notice 0x8023
        [p.code, if present then 1 else 0, if manage then 1 else 0])) ∧
    Acts (.moduleInt p) s (s.managed p = true) (fun t => t = s.emit (.module p 3)) ∧
    (∀ r, s.managed p = false → exec (.moduleReply p r) s = .next s) ∧
    (s.managed p = true →
      u = s.updPort p (fun x => { x with module := { x.module with fails := 0 } }) →
      (∀ full half power, u.get (Reg.MODULE_STATUS_MSTATE p.code) ≠ 1 → exec (.moduleReply p (.ident full half power)) s = .next u) ∧
      (∀ full half power, u.get (Reg.MODULE_STATUS_MSTATE p.code) = 1 → ((full = false ∧ half = false) ∨ u.modulePowerMax p < power) →
        exec (.moduleReply p (.ident full half power)) s = .next (u.setModule p 3)) ∧
      (∀ full half power, u.get (Reg.MODULE_STATUS_MSTATE p.code) = 1 → (full = true ∨ half = true) → power ≤ u.modulePowerMax p →
        exec (.moduleReply p (.ident full half power)) s = .next
          ((u.updPort p (fun x => { x with module := { x.module with full := full, half := half, lowPower := false } })).emit (.module p 2))) ∧
      (u.get (Reg.MODULE_STATUS_MSTATE p.code) = 1 → exec (.moduleReply p .ready) s = .next (u.setModule p 2)) ∧
      (u.get (Reg.MODULE_STATUS_MSTATE p.code) ≠ 1 → exec (.moduleReply p .ready) s = .next u) ∧
      (∀ los fault data, exec (.moduleReply p (.polled los fault data)) s = .next
        (((u.set (Reg.MODULE_STATUS_LOS p.code) los.toNat).set (Reg.MODULE_STATUS_TX_FAULT p.code) fault.toNat).updPort p
          (fun x => { x with module := { x.module with data := data } })))) ∧
    (s.managed p = false → exec (.moduleTransactionTimeout p) s = .next s) ∧
    (s.managed p = true →
      u = (s.bump (Cnt.TRK_MODULE_ERRORS p.code)).updPort p (fun x => { x with module := { x.module with fails := x.module.fails + 1 } }) →
      (3 ≤ (u.port p).module.fails → exec (.moduleTransactionTimeout p) s = .next (u.setModule p 4)) ∧
      ((u.port p).module.fails < 3 → exec (.moduleTransactionTimeout p) s = .next u)) ∧
    Acts (.moduleReadyTimeout p) s (s.managed p = true ∧ s.get (Reg.MODULE_STATUS_MSTATE p.code) = 1)
      (fun t => ∀ v, v = s.updPort p (fun x => { x with module := { x.module with lowPower := true, full := false, half := false } }) →
        t = ((v.bump (Cnt.TRK_MODULE_ERRORS p.code)).emit (.module p 4)).setModule p 3) ∧
    Acts (.modulePoll p) s (s.managed p = true ∧ s.get (Reg.MODULE_STATUS_MSTATE p.code) = 2) (fun t => t = s.emit (.module p 3))

/-- ROUND_HEADER and ENVELOPE (R119, R121, R122): a header that fails CRC or VERSION is counted and not used; an envelope passes
the checks in order, each failure counted under its own name, and only one that passes checks 1 to 4 moves the counter accepted.
Rests on the model's choices of log entries 11, 50, 67, 68, 220, 221. -/
def Obligations.LinkTrafficActs : Prop :=
  ∀ (s u v : State) (p : PortId),
    (∀ ns h, s.streams p = false → exec (.roundHeader p ns h) s = .next s) ∧
    (∀ (ns : Ns) (h : Header), s.streams p = true →
      (headerCrcOk h = false ∨ h.version ≠ 1 → exec (.roundHeader p ns h) s = .next ((s.at ns.val).bump (Cnt.TOPO_HEADER_FAILS p.code))) ∧
      (headerCrcOk h = true → h.version = 1 → exec (.roundHeader p ns h) s = .next (((s.at ns.val).takeHeader p h).headerTiming p h))) ∧
    (∀ e m, s.streams p = false ∨ s.powered .cipher = false → exec (.envelope p e m) s = .next s) ∧
    (∀ (e : Env) (m : EnvMarks) (ahead : Nat), s.streams p = true → s.powered .cipher = true → u = s.bump (Cnt.TOPO_ENV_IN p.code) →
      ahead = (e.hopSeq.toNat + 65536 - (s.port p).rxCount % 65536) % 65536 →
      (m.flagged = true → exec (.envelope p e m) s = .next (u.bump (Cnt.TOPO_FLAGGED p.code))) ∧
      (m.flagged = false → (m.crcOk = false ∨ e.payload.length ≠ e.length.val) →
        exec (.envelope p e m) s = .next (u.bump (Cnt.TOPO_CRC_FAILS p.code))) ∧
      (m.flagged = false → m.crcOk = true → e.payload.length = e.length.val →
        (ahead = 0 ∨ 32767 < ahead → exec (.envelope p e m) s = .next (u.bump (Cnt.TOPO_REPLAYED p.code))) ∧
        (0 < ahead → ahead ≤ 32767 →
          ((s.port p).tagPasses m ((s.port p).rxCount + ahead) = false → exec (.envelope p e m) s = .next (u.tagFails p)) ∧
          ((s.port p).tagPasses m ((s.port p).rxCount + ahead) = true →
            v = u.updPort p (fun x => { x with
              rxCount := (s.port p).rxCount + ahead, tagRun := 0,
              keySince := if x.oldKey && m.tagOk && x.keySince == 0 then (s.port p).rxCount + ahead else x.keySince }) →
            ((envFieldsOk e = false ∨ v.envAllowed p e = false) →
              exec (.envelope p e m) s = .next (v.bump (Cnt.TOPO_BAD_HEADER p.code))) ∧
            (envFieldsOk e = true → v.envAllowed p e = true →
              (e.hops.val = 0 → exec (.envelope p e m) s = .next (v.bump (Cnt.TOPO_HOPS_EXPIRED p.code))) ∧
              (e.hops.val ≠ 0 → (s.port p).continues e = false →
                exec (.envelope p e m) s = .next (v.bump (Cnt.TOPO_FRAME_BROKEN p.code))) ∧
              (e.hops.val ≠ 0 → (s.port p).continues e = true → ∃ f, exec (.envelope p e m) s = .next (v.updPort p f) ∧
                ∀ x, (e.last = true → f x = x.dropPart e.srcPc.toNat e.srcBox.val e.seqStamp.toNat) ∧
                  (e.last = false → f x = { x.dropPart e.srcPc.toNat e.srcBox.val e.seqStamp.toNat with
                    parts := ⟨e.srcPc.toNat, e.srcBox.val, e.seqStamp.toNat, e.seg.val⟩ ::
                      (x.dropPart e.srcPc.toNat e.srcBox.val e.seqStamp.toNat).parts })))))))

/-- Breaks, steering and the root (R127, R128, R129, R136, R137).
Rests on the model's choices of log entries 63, 65, 66, 73. -/
def Obligations.BreakAndRootCommandsAct : Prop :=
  ∀ (s : State) (p : PortId),
    Acts (.breakObserved p) s ((s.active p = false ∨ s.miswired p = true) ∧ (p ≠ .c ∨ s.holdsBranch = true) ∧ (s.port p).observed = false)
      (fun t => t = (s.updPort p (fun x => { x with observed := true, activeRounds := 0 })).holdBreaks) ∧
    Acts (.breakWithdrawn p) s ((s.port p).observed = true ∧ s.active p = true ∧ s.miswired p = false ∧ 8000 ≤ (s.port p).activeRounds)
      (fun t => t = (s.updPort p (fun x => { x with observed := false })).holdBreaks) ∧
    Does .steeringSnapshot s (fun t => t = { s with link := { s.link with nextSteering := s.link.held } }) ∧
    Does .hostLinkUp s (fun t => ∃ take : Bool, t = { s with
        link := { s.link with hostUp := true, hostUpTold := true, hostUpSince := s.round, takeRoot := take } } ∧
      (take = true ↔ s.flag Reg.GROUP_CFG_ROOT_EN = true ∧ s.addrValid = true ∧ rootUp s.rootSeen = false)) ∧
    Does .hostLinkLoss s (fun t => ∀ u : State,
      u = { s with link := { s.link with hostUp := false, hostUpTold := false, takeRoot := false } } →
      (s.flag Reg.GROUP_CFG_ROOT_EN = true → t = u.setRoot false) ∧ (s.flag Reg.GROUP_CFG_ROOT_EN = false → t = u)) ∧
    Acts .configuredRootTake s (s.flag Reg.GROUP_CFG_ROOT_EN = true ∧ s.addrValid = true ∧ s.link.hostUp = true ∧
      s.link.hostUpSince + 8064 ≤ s.round) (fun t => t = s.setRoot true) ∧
    Acts .standbyTake s (s.flag Reg.GROUP_CFG_STANDBY_EN = true ∧ 8 ≤ s.link.noUpRounds) (fun t => t = s.setRoot true) ∧
    Acts .standbyYield s (s.flag Reg.GROUP_CFG_STANDBY_EN = true ∧ s.flag Reg.HUB_ROLES_ROOT = true ∧ 8000 ≤ s.link.primaryRounds)
      (fun t => t = s.setRoot false)

/-- The box 0 messages of a tunnel (R21, R147, R148, R170, R253, R358), none of which has an effect at a hub that does not listen to its
sender (CORE off, or CIPHER off and the sender another hub): an open request meets a FREE box, or is refused, or is the repeat
of one accepted; an answer opens or frees the box that asked; a close drains; a count of what the far end holds is kept.
The limits and ends of a tunnel's states (R145, R252, R253).
Rests on the model's choices of log entries 16, 82, 83, 84, 85, 86, 91, 230. -/
def Obligations.TunnelMessagesAndTimersAct : Prop :=
  (∀ (s : State) (pc : Postcode), s.listens pc.toNat = false →
    (∀ kind cls dir near ninc far min ceil weight prio,
      exec (.openRequest pc kind cls dir near ninc far min ceil weight prio) s = .next s) ∧
    (∀ status far finc near ninc flow, exec (.openAnswer pc status far finc near ninc flow) s = .next s) ∧
    (∀ box inc sender, exec (.closeRequest pc box inc sender) s = .next s) ∧
    (∀ box held, exec (.drainCount pc box held) s = .next s)) ∧
  (∀ (s : State) (pc : Postcode), s.listens pc.toNat = true →
    (∀ (kind cls dir weight prio : Byte) (near ninc far min ceil : BitVec 16) (k : Kind) (c : SvcClass) (a : Allot),
      a = allotHeld c ⟨min.toNat, ceil.toNat, weight.toNat, prio.toNat⟩ →
      (Kind.ofCode kind.toNat = none ∨ SvcClass.ofCode cls.toNat = none →
        exec (.openRequest pc kind cls dir near ninc far min ceil weight prio) s = .next
          (s.refuseOpen pc.toNat near.toNat ninc.toNat far.toNat .noResource)) ∧
      (Kind.ofCode kind.toNat = some k → SvcClass.ofCode cls.toNat = some c →
        ((boxNoOk far.toNat = false ∨ boxNoOk near.toNat = false ∨ k = .mgmt) →
          exec (.openRequest pc kind cls dir near ninc far min ceil weight prio) s = .next
            (s.refuseOpen pc.toNat near.toNat ninc.toNat far.toNat .badParam)) ∧
        (boxNoOk far.toNat = true → boxNoOk near.toNat = true → k ≠ .mgmt →
          (classFits k c = false → exec (.openRequest pc kind cls dir near ninc far min ceil weight prio) s = .next
            (s.refuseOpen pc.toNat near.toNat ninc.toNat far.toNat .noResource)) ∧
          (classFits k c = true →
            ((s.box far.toNat).state = .free → exec (.openRequest pc kind cls dir near ninc far min ceil weight prio) s = .next
              (s.acceptOpen pc.toNat near.toNat ninc.toNat far.toNat k c (dir.toNat == 1) a)) ∧
            ((s.box far.toNat).state = .draining → exec (.openRequest pc kind cls dir near ninc far min ceil weight prio) s = .next
              (s.refuseOpen pc.toNat near.toNat ninc.toNat far.toNat .notPermitted)) ∧
            ((s.box far.toNat).state = .opened → ¬ ((s.box far.toNat).peerPc = pc.toNat ∧ (s.box far.toNat).peerBox = near.toNat ∧
                (s.box far.toNat).peerInc = ninc.toNat) → exec (.openRequest pc kind cls dir near ninc far min ceil weight prio) s = .next
              (s.refuseOpen pc.toNat near.toNat ninc.toNat far.toNat .notPermitted)) ∧
            ((s.box far.toNat).state = .opening → ¬ ((s.box far.toNat).near = true ∧ (s.box far.toNat).peerPc = pc.toNat ∧
                (s.box far.toNat).peerBox = near.toNat) → exec (.openRequest pc kind cls dir near ninc far min ceil weight prio) s = .next
              (s.refuseOpen pc.toNat near.toNat ninc.toNat far.toNat .notPermitted)) ∧
            ((s.box far.toNat).state = .opened → (s.box far.toNat).peerPc = pc.toNat → (s.box far.toNat).peerBox = near.toNat →
              (s.box far.toNat).peerInc = ninc.toNat → exec (.openRequest pc kind cls dir near ninc far min ceil weight prio) s = .next
                (s.acceptAnswer pc.toNat near.toNat ninc.toNat far.toNat)) ∧
            ((s.box far.toNat).state = .opening → (s.box far.toNat).near = true → (s.box far.toNat).peerPc = pc.toNat →
              (s.box far.toNat).peerBox = near.toNat →
              ((pc.toNat < s.postcode ∨ (pc.toNat = s.postcode ∧ near.toNat < far.toNat)) →
                exec (.openRequest pc kind cls dir near ninc far min ceil weight prio) s = .next
                  (((s.finishWaiters 0x0200 far.toNat .busyRetry []).boxFrees far.toNat).acceptOpen pc.toNat near.toNat ninc.toNat
                    far.toNat k c (dir.toNat == 1) a)) ∧
              ((s.postcode < pc.toNat ∨ (pc.toNat = s.postcode ∧ far.toNat ≤ near.toNat)) →
                exec (.openRequest pc kind cls dir near ninc far min ceil weight prio) s = .next
                  (s.refuseOpen pc.toNat near.toNat ninc.toNat far.toNat .busyRetry))))))) ∧
    (∀ (status : Byte) (far finc near ninc flow : BitVec 16) (x : Box), x = s.box near.toNat →
      (x.state = .opening ∧ x.near = true ∧ x.peerPc = pc.toNat ∧ x.peerBox = far.toNat ∧ x.inc = ninc.toNat →
        (status.toNat = 0 → ∀ u, u = s.boxOpens near.toNat finc.toNat → exec (.openAnswer pc status far finc near ninc flow) s = .next
          (u.finishWaiters 0x0200 near.toNat .ok (u.openData near.toNat finc.toNat flow.toNat))) ∧
        (status.toNat ≠ 0 → exec (.openAnswer pc status far finc near ninc flow) s = .next
          ((s.finishWaiters 0x0200 near.toNat (Status.ofCode status.toNat) []).boxFrees near.toNat))) ∧
      (¬ (x.state = .opening ∧ x.near = true ∧ x.peerPc = pc.toNat ∧ x.peerBox = far.toNat ∧ x.inc = ninc.toNat) →
        exec (.openAnswer pc status far finc near ninc flow) s = .next (s.bump Cnt.TUNNEL_OPEN_REFUSED))) ∧
    (∀ (box inc sender : BitVec 16) (x : Box), x = s.box box.toNat →
      (x.peerPc = pc.toNat ∧ x.peerBox = sender.toNat ∧ (inc.toNat = 0 ∨ inc.toNat = x.inc) ∧ box.toNat ≠ 0 →
        (x.state = .opened → exec (.closeRequest pc box inc sender) s = .next (s.boxDrains box.toNat)) ∧
        (x.state = .opening → exec (.closeRequest pc box inc sender) s = .next
          (((s.finishWaiters 0x0200 box.toNat .notPermitted (s.withdrawnData box.toNat)).boxDrains box.toNat).boxFrees box.toNat)) ∧
        ((x.state = .free ∨ x.state = .draining) →
          exec (.closeRequest pc box inc sender) s = .next s)) ∧
      (¬ (x.peerPc = pc.toNat ∧ x.peerBox = sender.toNat ∧ (inc.toNat = 0 ∨ inc.toNat = x.inc) ∧ box.toNat ≠ 0) →
        exec (.closeRequest pc box inc sender) s = .next s)) ∧
    (∀ box held : BitVec 16, Acts (.drainCount pc box held) s ((s.box box.toNat).state = .draining ∧ (s.box box.toNat).cls = .registered ∧
      (s.box box.toNat).peerPc = pc.toNat) (fun t => t = s.updBox box.toNat (fun x => { x with farHeld := some held.toNat })))) ∧
  (∀ (s : State) (box : BoxNo) (x : Box), x = s.box box.val →
    Acts (.openingTimeout box) s (x.state = .opening ∧ x.near = true ∧ x.since + 792 ≤ s.round)
      (fun t => t = ((s.finishWaiters 0x0200 box.val .timeout []).bump Cnt.TUNNEL_OPEN_TIMEOUTS).boxFrees box.val) ∧
    Acts (.drainComplete box) s (x.state = .draining ∧ s.boxUnits box.val = [] ∧ s.boxHeld box.val = false ∧ s.heldOf box.val = 0 ∧
        (x.cls = .registered → x.told = true ∧
          (x.near = false ∨ x.twoWay = true → x.farHeld = some 0 ∨ s.farSilent box.val = true)))
      (fun t => t = s.boxFrees box.val) ∧
    Acts (.drainDiscard box) s (x.state = .draining ∧ x.since + 64 ≤ s.round) (fun t => ∀ (u : State) (gone : List Hold),
      u = forAll (s.boxUnits box.val) s (fun s n => match s.unit n with
        | some y => if y.u.cls = .registered then s else ((s.freeUnit n).bump Cnt.TUNNEL_DRAIN_DISCARDED).dropFromFlow y.owner
        | none => s) →
      gone = u.sw.holds.filter (fun h => h.u.srcPc.toNat == u.postcode && h.u.srcBox.val == box.val && h.u.cls != .registered) →
      t = State.bump { u with sw := { u.sw with holds := u.sw.holds.filter (fun h => !gone.contains h) } } Cnt.TUNNEL_DRAIN_DISCARDED gone.length) ∧
    Acts (.drainLimit box) s (x.state = .draining ∧ x.since + 80000 ≤ s.round) (fun t => ∀ passed : Nat,
      passed = ((s.book box.val).map (·.farPassed)).getD 0 →
      t = (forAll (s.tunnelHeld box.val) s (fun s k => match mget s.reg.entries k with
        | some e => s.makeDead k Status.timeout.code (if seqLe e.seq passed then 2 else 1) none
        | none => s)).boxFrees box.val))

/-- A unit at the switch (R21, R178, R179, R180, R185, R187, R200, R201, R204): a unit shown at a port waits while its class is held there
or the arrival reserve has no room; it is written at once where the port's write stage is empty and a write is free, waits in the stage of
8 else, and is lost at a full one; the checks of its block come in order, then admission; a hold is decided again, and given up after
8,000 rounds; a unit whose cells have been read goes to its trunk's stage or leaves to its station block.
Rests on the model's choices of log entries 3, 12, 81, 90, 91, 92, 93, 97, 226. -/
def Obligations.SwitchUnitsAct : Prop :=
  ∀ (s : State) (u : UnitIn) (ingress : Fin 10) (tc : Fin 8),
    (s.powered .core = false ∨ s.servicePowered = true ∨ (byTrunk u = true ∧ s.powered .cipher = false) →
      exec (.unitAdmit u) s = .next s) ∧
    (s.powered .core = true → s.servicePowered = false → (byTrunk u = true → s.powered .cipher = true) →
      (s.heldBack u = true → exec (.unitAdmit u) s = .next s) ∧
      (s.heldBack u = false →
        (u.ingress.val ≠ 9 ∨ u.cls = .registered → exec (.unitAdmit u) s = .next (s.offerWrite none u)) ∧
        (u.ingress.val = 9 → u.cls ≠ .registered →
          (∀ c x, s.contextOf u.srcBox.val = some (c, x) → exec (.unitAdmit u) s = .next
            ((s.updEngine (c / 256) (fun x => { x with frames := x.frames ++ [u] })).feedPort 9)) ∧
          (s.contextOf u.srcBox.val = none → s.p9Fits u = true → exec (.unitAdmit u) s = .next ((s.p9Sent u).offerWrite none u)) ∧
          (s.contextOf u.srcBox.val = none → s.p9Fits u = false → exec (.unitAdmit u) s = .next s)))) ∧
    (∀ v : State,
      (v.stageOf u.ingress.val = [] → v.mayWrite u.ingress.val = true → v.offerWrite none u = (v.writes u.ingress.val).decideWritten none u) ∧
      ((v.stageOf u.ingress.val ≠ [] ∨ v.mayWrite u.ingress.val = false) →
        ((v.stageOf u.ingress.val).length < 8 → v.offerWrite none u = { v with sw := { v.sw with stage := v.sw.stage ++ [(none, u)] } }) ∧
        (8 ≤ (v.stageOf u.ingress.val).length →
          (modeOf u.ingress.val = .hold → v.offerWrite none u = v) ∧
          (modeOf u.ingress.val ≠ .hold → v.offerWrite none u = v.bump (Cnt.SWITCH_WRITE_OVERRUN u.ingress.val))))) ∧
    (∀ v : State,
      (16384 < u.bytes → v.decideWritten none u = v.bump (Cnt.SWITCH_OVERSIZE u.ingress.val)) ∧
      (u.bytes ≤ 16384 → (u.checkOk = false ∨ (byTrunk u = false ∧ u.bytes = 0) →
        v.decideWritten none u = v.bump (Cnt.SWITCH_CHECK_DROPS u.ingress.val)) ∧
      (u.checkOk = true → (byTrunk u = false → u.bytes ≠ 0) →
        (v.sourceOpen u = false →
          ((v.box u.srcBox.val).state = .draining → v.decideWritten none u = v) ∧
          ((v.box u.srcBox.val).state ≠ .draining → v.decideWritten none u = v.bump (Cnt.SWITCH_CHECK_DROPS u.ingress.val))) ∧
        (v.sourceOpen u = true → v.decideWritten none u = v.admitUnit none u)))) ∧
    Does (.unitIncomplete ingress) s (fun t => t = s.bump (Cnt.SWITCH_INCOMPLETE ingress.val)) ∧
    (s.holdAt ingress.val tc.val = none →
      exec (.holdRelease ingress tc) s = .next s ∧ exec (.holdExpired ingress tc) s = .next s) ∧
    (∀ h : Hold, s.holdAt ingress.val tc.val = some h →
      (∀ x, s.decideWay h.u false h.tc h.egress h.owner = (x, false) →
        exec (.holdRelease ingress tc) s = .next (x.dropHold ingress.val tc.val)) ∧
      (∀ x, s.decideWay h.u false h.tc h.egress h.owner = (x, true) → exec (.holdRelease ingress tc) s = .next x) ∧
      Acts (.holdExpired ingress tc) s (h.since + 8000 ≤ s.round) (fun t =>
        t = ((s.dropHold ingress.val tc.val).bump (Cnt.SWITCH_HOLD_EXPIRED ingress.val tc.val)).dropFromFlow h.owner)) ∧
    (∀ n : Nat,
      (s.unit n = none → exec (.unitTransferDone n false) s = .next s) ∧
      (∀ x ns, s.unit n = some x → ns = s.frameOf n x →
        (x.whole = false ∨ (∃ k ∈ ns, ∀ y, s.unit k = some y → y.read < y.cells) → exec (.unitTransferDone n false) s = .next s) ∧
        (x.whole = true → (∀ k ∈ ns, ∃ y, s.unit k = some y ∧ y.cells ≤ y.read) →
          (x.egress ≤ 2 → exec (.unitTransferDone n false) s = .next (s.mirror n true)) ∧
          (2 < x.egress → ∀ v, v = (forAll ns s (fun s n => s.mirror n true)).stationTakes x (s.framePayload ns) →
            exec (.unitTransferDone n false) s = .next (forAll ns v (fun s n => s.freeUnit n))))) ∧
      (mget s.sw.copies n = none → exec (.unitTransferDone n true) s = .next s) ∧
      (∀ c, mget s.sw.copies n = some c →
        (c.read < c.cells → exec (.unitTransferDone n true) s = .next s) ∧
        (c.cells ≤ c.read → exec (.unitTransferDone n true) s = .next (((s.emit (.frame (s.get Reg.MIRROR_DEST_DEST_PORT)
          (s.get Reg.MIRROR_DEST_DEST_SUB) (s.mirrorFrame c))).bump Cnt.SWITCH_MIRROR_COPIES).dropCopy n))))

/-- What the switch does at its slots, cycles and limits (R119, R163, R178, R180, R192, R193, R200): a cell cycle frees what the last one
read, writes at most five waiting blocks, matches originals and then copies, and reads at most five cells, a copy's with a read to spare.
Rests on the model's choices of log entries 67, 92, 93, 94, 226, 228. -/
def Obligations.SwitchTicksAct : Prop :=
  ∀ (s : State) (p : PortId),
    (∀ (pc : Postcode) (box : BoxNo) (stamp : BitVec 32),
      Acts (.frameLastTimeout p pc box stamp) s ((s.port p).part pc.toNat box.val stamp.toNat ≠ none) (fun t => ∀ u : State,
        u = (s.updPort p (fun x => x.dropPart pc.toNat box.val stamp.toNat)).bump (Cnt.TOPO_FRAME_BROKEN p.code) →
        t = forAll (mkeys u.sw.units (fun x => !x.whole && x.u.ingress.val == p.code && x.u.srcPc == pc && x.u.srcBox == box &&
          x.u.seqStamp == stamp)) u (fun s n => s.freeUnit n))) ∧
    (∀ slot : Fin 2880,
      Acts (.slotStart p slot) s (s.active p = true ∧ s.powered .cipher = true ∧ (s.dir p).carried slot.val = true) (fun t =>
        ((s.dir p).sheet.runAt slot.val = none → t = s.yieldSlot p) ∧
        (∀ r, (s.dir p).sheet.runAt slot.val = some r →
          ((s.runUsed p r = false ∨ s.mayCarry p r.owner = false) → t = s.yieldSlot p) ∧
          (∀ x n, s.runUsed p r = true → s.mayCarry p r.owner = true → s.fillSlot p r.owner 8 263 8 = (x, n) →
            (n = 0 → t = x.yieldSlot p) ∧ (n ≠ 0 → t = x))))) ∧
    (∀ n : Nat, (mget s.sw.copies n = none → exec (.mirrorCopyTimeout n) s = .next s) ∧
      (∀ c, mget s.sw.copies n = some c → Acts (.mirrorCopyTimeout n) s (125000 ≤ postmarkDiff s.now c.made)
        (fun t => t = (s.dropCopy n).bump Cnt.SWITCH_MIRROR_DROPPED))) ∧
    Acts .cellCycle s (s.powered .core = true ∧ s.servicePowered = false) (fun t => ∀ v w u : State,
      v = s.freeRead → w = ((({ v with sw := { v.sw with wrote := [] } } : State).writeCells.feedPort 8).feedPort 9) →
      u = (((w.matchOnce true).matchOnce false).matchOnce false).matchCopy → (u.readers.take 5).length ≤ 5 ∧
      t = (forAll (u.readers.take 5) u (fun s q => s.readPair q)).readCopy ((u.readers.take 5).map (·.egress)))

/-- The engines' commands (R210, R227, R217, R218, R221, R483, R487).
Rests on the model's choices of log entries 3, 119, 166. -/
def Obligations.EngineCommandsAct : Prop :=
  ∀ (s u : State) (e : Fin 16),
    (∀ (box : BoxNo) (fromP9 : Bool) (estimate : Nat) (item : RelayItem),
      (box.val = 0 → exec (.itemArrival box fromP9 estimate item) s = .next s) ∧
      (box.val ≠ 0 → s.contextOf box.val = none → exec (.itemArrival box fromP9 estimate item) s = .next
        (if fromP9 then s.bump Cnt.ENGINE_NO_CONTEXT else s)) ∧
      (∀ c x, box.val ≠ 0 → s.contextOf box.val = some (c, x) →
        (itemFits item x.kind = false → exec (.itemArrival box fromP9 estimate item) s = .next s) ∧
        (itemFits item x.kind = true → (32 ≤ x.items.length ∨ s.engineRuns (c / 256) = false) → exec (.itemArrival box fromP9 estimate item) s = .next
          (s.bump (Cnt.ENGINE_INBOX_FULL (c / 256)))) ∧
        (x.items.length < 32 → s.engineRuns (c / 256) = true →
          u = s.setContext c { x with
            items := x.items ++ [⟨s.round, s.rt.ns, estimate, 0, false⟩], arrived := x.arrived + estimate } →
          exec (.itemArrival box fromP9 estimate .other) s = .next u ∧
          (∀ index op lba count command, x.kind = .storage →
            exec (.itemArrival box fromP9 estimate (.nvme index op lba count command)) s = .next
              (u.farNvme index.val box.val op.toNat lba count command)) ∧
          ((List.range 6).find? (fun d => u.get (Reg.DP_CFG_BOX d) == box.val) = none → x.kind = .display →
            exec (.itemArrival box fromP9 estimate .unplug) s = .next u ∧ exec (.itemArrival box fromP9 estimate .irqHpd) s = .next u ∧
            exec (.itemArrival box fromP9 estimate .aux) s = .next u) ∧
          (∀ d, x.kind = .display → (List.range 6).find? (fun d => u.get (Reg.DP_CFG_BOX d) == box.val) = some d →
            (d < 4 → exec (.itemArrival box fromP9 estimate .unplug) s = .next u ∧
              exec (.itemArrival box fromP9 estimate .irqHpd) s = .next u) ∧
            (4 ≤ d → exec (.itemArrival box fromP9 estimate .aux) s = .next u) ∧
            (4 ≤ d → exec (.itemArrival box fromP9 estimate .unplug) s = .next (u.inputUnplug d) ∧
              exec (.itemArrival box fromP9 estimate .irqHpd) s = .next (u.inputPulse d)) ∧
            (d < 4 → exec (.itemArrival box fromP9 estimate .aux) s = .next (u.emit (.bus 5 d 6 []))))))) ∧
    (∀ (finished : Bool) (written : Nat),
      Acts (.sliceEnd e finished written) s (s.powered .core = true ∧ s.engineRuns e.val = true ∧ (s.engine e.val).slice < 500) (fun t =>
        ((s.engine e.val).serving = none → t = s.startSlice e.val ((s.engine e.val).slice + 1)) ∧
        (∀ c y, (s.engine e.val).serving = some c → mget s.eng.contexts (256 * e.val + c) = some y →
          (16384 < (s.engine e.val).outbox + written →
            t = ((s.setContext (256 * e.val + c) (y.endSlice false)).bump (Cnt.ENGINE_P9_WAITS e.val)).offerSlice e.val (some c)) ∧
          ((s.engine e.val).outbox + written ≤ 16384 →
            t = ((s.setContext (256 * e.val + c) (y.endSlice finished)).updEngine e.val (fun x => { x with
              outbox := x.outbox + written, worked := x.worked + 1 })).startSlice e.val ((s.engine e.val).slice + 1))))) ∧
    (∀ c : Fin 4096, (mget s.eng.contexts c.val = none → exec (.itemAbandoned c) s = .next s) ∧
      (∀ x, mget s.eng.contexts c.val = some x →
        Acts (.itemAbandoned c) s (∃ i ∈ x.items, 80 ≤ i.crossed) (fun t => ∀ n : Nat, n = (x.items.filter (fun i => decide (80 ≤ i.crossed))).length →
          t = (s.setContext c.val { x with items := x.items.filter (fun i => !decide (80 ≤ i.crossed)) }).abandon c.val n))) ∧
    Acts (.engineFault e) s (s.powered .core = true) (fun t => t = s.engineFaults e.val) ∧
    Acts (.engineReturn e) s (s.powered .core = true ∧ s.boot.reloading = false ∧ bitOf (s.get Reg.ENG_RUN_DISABLED) e.val = false)
      (fun t => t = s.set ⟨Reg.ENG_RUN, e.val, 1⟩ 1) ∧
    Acts .lockstepMismatch s (s.postmasterRuns = true) (fun t => u = s.bump Cnt.ENGINE_LOCKSTEP_FAULTS →
      (u.restarting = true → t = (u.faultSeen 1 []).setCause 0 17) ∧ (u.restarting = false → t = u.postmasterFault 1)) ∧
    Acts .postmasterWatchdog s (s.postmasterRuns = true ∧ s.restarting = false)
      (fun t => t = (s.bump Cnt.HUB_WATCHDOG_TRIPS).postmasterFault 2)

/-- The Registry's own messages and times (R235, R236, R239, R240, R254, R266, R331): an entry's write ends in acceptance or frees the entry;
the entries due to be sent again go in their order, up to the one named; the scan rebuilds the sequences and begins the replay; waiting letters are told again; a registered
bus transaction ends.
Rests on the model's choices of log entries 26, 101, 233. -/
def Obligations.RegistryEventsAct : Prop :=
  ∀ (s u : State),
    (∀ k : Fin 8192,
      (mget s.reg.entries k.val = none → ∀ w, exec (.entryWriteDone k w) s = .next s) ∧
      (∀ e, mget s.reg.entries k.val = some e →
        (∀ w, e.writing = false → exec (.entryWriteDone k w) s = .next s) ∧
        (∀ (v : State) (e' : Entry), e.writing = true → e' = { e with writing := false, acceptedAt := s.now, order := s.reg.order } →
          v = s.setReg { s.reg with
            entries := mput s.reg.entries k.val e', accepts := s.reg.accepts + 1, order := s.reg.order + 1 } →
          exec (.entryWriteDone k true) s = .next (((((v.bump Cnt.REGISTRY_ACCEPTED).syncRegistry e.box).activity 0x13).finishWaiters
            0x0301 k.val .accepted (e'.postData k.val)).answerWriter k.val 0).sendFirsts) ∧
        (e.writing = true → exec (.entryWriteDone k false) s = .next
          ((((s.writeFailed k.val e).bump Cnt.REGISTRY_REFUSED_FAULT).answerWriter k.val 4).finishWaiters 0x0301 k.val .hwFault [])))) ∧
    (∀ k : Fin 8192,
      (s.skUp = false ∨ s.powered .core = false → exec (.resend k) s = .next s) ∧
      (s.skUp = true → s.powered .core = true → (∀ e ∈ s.dueEntries, e.1 ≠ k.val) → exec (.resend k) s = .next s.replayEnds) ∧
      (∀ before e after, s.skUp = true → s.powered .core = true → s.dueEntries = before ++ e :: after → e.1 = k.val →
        (∀ x ∈ before, x.1 ≠ k.val) → (∀ x ∈ after, x.1 ≠ k.val) →
        exec (.resend k) s = .next (((forAll before s (fun s x => s.sendDueEntry x)).sendDueEntry e).replayEnds))) ∧
    (s.reg.scanning = false → exec .registryScan s = .next s) ∧
    (s.reg.scanning = true → u = forAll s.reg.book s (fun s e => if e.2.send then s.rebuildSeq e.1 e.2 else s) →
      ∀ v : State, v = (u.setReg { u.reg with scanning := false, replaying := decide (u.replayLeft ≠ 0), replayed := 0 }).set
          Reg.REPLAY_LEFT u.replayLeft →
        (u.replayLeft = 0 → exec .registryScan s = .next ((v.setFlag Reg.REPLAY_ACTIVE false).notice 0x8074 [0])) ∧
        (u.replayLeft ≠ 0 → exec .registryScan s = .next (v.setFlag Reg.REPLAY_ACTIVE true))) ∧
    (∀ box : BoxNo, Acts (.lettersWaiting box) s (∃ r, mget s.reg.waiting box.val = some r ∧ r + 8000 ≤ s.round)
      (fun t => t = s.tellWaiting box.val)) ∧
    (∀ (box : BoxNo) (o : BusOutcome) (x : Byte),
      (s.book box.val = none → exec (.bridgeConsumed box o x) s = .next s) ∧
      (∀ r, s.book box.val = some r →
        (r.host = true ∨ r.passedThru = r.consumedThru ∨ s.skUp = false → exec (.bridgeConsumed box o x) s = .next s) ∧
        (∀ bus, r.host = false → r.passedThru ≠ r.consumedThru → s.skUp = true → s.busOf box.val = some bus → bus ≤ 3 →
          u = (if (s.canBus bus).reg = some (box.val, r.passedThru) then s.setCanBus bus { s.canBus bus with reg := none } else s) →
          (o = .done → exec (.bridgeConsumed box o x) s = .next ((u.bump (Cnt.FIELD_FRAMES_TX bus)).consumeBox box.val)) ∧
          (o ≠ .done → exec (.bridgeConsumed box o x) s = .next
            (((u.bump (Cnt.FIELD_REG_NOT_DONE bus)).fieldEvent bus 3 [box.val, r.passedThru, BusOutcome_code o, x.toNat]).consumeBox box.val)))))

/-- A REGISTERED DATA arrival (R21, R243, R250, R251, R257): nothing while the hub does not listen to its sender or the keeper is out of
reach; a message the book does not know, or whose box does not receive, is returned, with the forwarding record held; one already passed is
pigeonholed again for a host that has not consumed it, and answered again; one within the window is held and passed in order, once; one beyond
it is counted.
Rests on the model's choices of log entries 105. -/
def Obligations.RegisteredDataActs : Prop :=
  ∀ (s : State) (ingress : Fin 10) (pc : Postcode) (src box : BoxNo) (inc : Inc) (seq : BitVec 32) (payload : Payload) (live : Bool) (from_ : Nat),
    live = ((s.box box.val).serves && (s.box box.val).inc == inc.val) → from_ = (if ingress.val ≤ 2 then pc.toNat else s.postcode) →
    (s.listens from_ = false ∨ s.skUp = false → exec (.registeredData ingress pc src box inc seq payload) s = .next s) ∧
    (s.listens from_ = true → s.skUp = true → (∀ r, s.book box.val = some r → r.ownInc ≠ inc.val) →
      exec (.registeredData ingress pc src box inc seq payload) s = .next
        (s.returnTo pc.toNat src.val box.val seq.toNat none (s.fwdFor box.val inc.val))) ∧
    (∀ r, s.listens from_ = true → s.skUp = true → s.book box.val = some r → r.ownInc = inc.val →
      (live = true → r.recv = false →
        exec (.registeredData ingress pc src box inc seq payload) s = .next (s.returnTo pc.toNat src.val box.val seq.toNat (some r) none)) ∧
      (live = false → serialBefore 32 r.passedThru seq.toNat = true → exec (.registeredData ingress pc src box inc seq payload) s = .next
        (s.returnTo pc.toNat src.val box.val seq.toNat (some r) (s.fwdFor box.val inc.val))) ∧
      (live = false ∨ r.recv = true → serialBefore 32 r.passedThru seq.toNat = false → ∀ u : State,
        (r.host = false ∨ serialBefore 32 r.consumedThru seq.toNat = false ∨ (s.pigeon box.val seq.toNat).isSome = true →
          u = s.bump Cnt.REGISTRY_DUPLICATES) →
        (r.host = true → serialBefore 32 r.consumedThru seq.toNat = true → s.pigeon box.val seq.toNat = none →
          (s.holdPigeon box.val seq.toNat pc.toNat src.val ingress.val false true payload = none → u = s.bump Cnt.REGISTRY_PIGEONHOLES_FULL) ∧
          (∀ t v, s.holdPigeon box.val seq.toNat pc.toNat src.val ingress.val false true payload = some t →
            v = ((t.activity 0x13).bump Cnt.REGISTRY_REPRESENTED).stepVoids box.val 1024 →
            u = (if (s.waitingOf box.val).length = 0 ∧ (v.waitingOf box.val).length ≠ 0 then v.tellWaiting box.val else v))) →
        (r.doubtValid = true ∧ r.doubtSeq = seq.toNat → exec (.registeredData ingress pc src box inc seq payload) s = .next
          (u.returnTo pc.toNat src.val box.val seq.toNat (some r) (u.fwdFor box.val r.ownInc))) ∧
        (¬ (r.doubtValid = true ∧ r.doubtSeq = seq.toNat) →
          exec (.registeredData ingress pc src box inc seq payload) s = .next (u.receiptDue box.val))) ∧
      (live = true → r.recv = true → serialBefore 32 r.passedThru seq.toNat = true → ∀ d : Nat,
        d = (seq.toNat + 2 ^ 32 - r.passedThru) % 2 ^ 32 →
        (1025 ≤ d → exec (.registeredData ingress pc src box inc seq payload) s = .next (s.bump Cnt.REGISTRY_OUT_OF_WINDOW)) ∧
        (d < 1025 → (s.pigeon box.val seq.toNat).isSome = true →
          exec (.registeredData ingress pc src box inc seq payload) s = .next (s.bump Cnt.REGISTRY_DUPLICATES)) ∧
        (d < 1025 → s.pigeon box.val seq.toNat = none →
          (s.holdPigeon box.val seq.toNat pc.toNat src.val ingress.val (d != 1) false payload = none →
            exec (.registeredData ingress pc src box inc seq payload) s = .next (s.bump Cnt.REGISTRY_PIGEONHOLES_FULL)) ∧
          (∀ v, s.holdPigeon box.val seq.toNat pc.toNat src.val ingress.val (d != 1) false payload = some v →
            (d = 1 → exec (.registeredData ingress pc src box inc seq payload) s = .next ((v.activity 0x13).passAll box.val 1024)) ∧
            (d ≠ 1 → exec (.registeredData ingress pc src box inc seq payload) s = .next
              (((v.activity 0x13).bump Cnt.REGISTRY_HELD_OUT_OF_ORDER).passAll box.val 1024))))))

/-- RECEIPT and RETURN at the sending hub (R16, R21, R248, R251): nothing while the hub does not listen to the sender or the keeper is out
of reach; one that matches nothing held is counted and has no other effect.
Rests on the model's choices of log entries 103, 106. -/
def Obligations.ReceiptAndReturnAct : Prop :=
  ∀ (s u v : State) (pc fpc : Postcode) (box fbox : BoxNo) (inc finc : Inc) (seq passed dseq : BitVec 32) (doubt known fwd : Bool),
    (s.skUp = false ∨ s.listens pc.toNat = false → exec (.receipt pc box inc seq passed dseq doubt) s = .next s) ∧
    (s.skUp = true → s.listens pc.toNat = true → (∀ r, s.sendSide box.val = some r → r.ownInc ≠ inc.val ∨ (seq.toNat ≠ 0 ∧ serialBefore 32 seq.toNat r.nextSeq = false)) →
      exec (.receipt pc box inc seq passed dseq doubt) s = .next (s.bump Cnt.REGISTRY_STALE_RETURNS)) ∧
    (∀ r, s.skUp = true → s.listens pc.toNat = true → s.sendSide box.val = some r → r.ownInc = inc.val → (seq.toNat = 0 ∨ serialBefore 32 seq.toNat r.nextSeq = true) →
      (doubt = false → u = s.updBookRec box.val (fun r => { r with farPassed := passed.toNat })) →
      (doubt = true →
        (∀ k e, (s.heldEntries box.val inc.val).find? (fun (e : Nat × Entry) => e.2.seq == dseq.toNat) = some (k, e) →
          u = (s.makeDead k Status.timeout.code 3 none).updBookRec box.val (fun r => { r with farPassed := passed.toNat })) ∧
        ((s.heldEntries box.val inc.val).find? (fun (e : Nat × Entry) => e.2.seq == dseq.toNat) = none →
          u = s.updBookRec box.val (fun r => { r with farPassed := passed.toNat }))) →
      (serialBefore 32 r.releasedThru seq.toNat = false → v = u) →
      (serialBefore 32 r.releasedThru seq.toNat = true → ∀ gone : List Nat,
        gone = ((u.heldEntries box.val inc.val).filter (fun e => seqLe e.2.seq seq.toNat)).map (·.1) →
        v = (forAll gone (u.updBookRec box.val (fun r => { r with releasedThru := seq.toNat })) (fun s k => s.freeEntry k)).bump
          Cnt.REGISTRY_RELEASED gone.length) →
      exec (.receipt pc box inc seq passed dseq doubt) s = .next
        ((if r.notify = true ∧ v.reg.notify.contains box.val = false then v.setReg { v.reg with notify := v.reg.notify ++ [box.val] } else v).moveReturned
          box.val inc.val 1024)) ∧
    (∀ found : Option (Nat × Entry), found = s.reg.entries.find? (fun e => e.2.box == box.val && e.2.seq == seq.toNat && !e.2.dead && !e.2.writing &&
        (inc.val == 0 || e.2.ownInc == inc.val)) →
      (s.skUp = false ∨ s.listens (s.returnFrom box.val seq.toNat) = false →
        exec (.returned box inc seq known fwd fpc fbox finc) s = .next s) ∧
      (s.skUp = true → s.listens (s.returnFrom box.val seq.toNat) = true → found = none → exec (.returned box inc seq known fwd fpc fbox finc) s = .next (s.bump Cnt.REGISTRY_STALE_RETURNS)) ∧
      (∀ k e, s.skUp = true → s.listens (s.returnFrom box.val seq.toNat) = true → found = some (k, e) → u = s.bump Cnt.REGISTRY_RETURNS_RECEIVED →
        (known = true → fwd = true → e.forwarded = false → exec (.returned box inc seq known fwd fpc fbox finc) s = .next
          ((u.updEntryReg k (fun e => { e with returned := some (fpc.toNat, fbox.val, finc.val) })).moveReturned box.val e.ownInc 1024)) ∧
        ((known = false ∨ fwd = false ∨ e.forwarded = true) → exec (.returned box inc seq known fwd fpc fbox finc) s = .next
          ((u.makeDead k Status.returned.code (if known then 0 else 1) (if fwd then some (fpc.toNat, fbox.val, finc.val) else none)).moveReturned
            box.val e.ownInc 1024))))

/-- The CAN commands (R317, R321, R322, R323, R331, R332, R333): a frame received finds its route and box, and is offered, held or sent, and
one that fails its checks counts; a message for the bus joins its queue in order of identifier, and a registered one goes in its silence; a
bus off withdraws its registered frame.
Rests on the model's choices of log entries 3, 26, 109, 134, 137. -/
def Obligations.CanCommandsAct : Prop :=
  ∀ (s u : State) (bus : Fin 4),
    (∀ f check, s.busUp bus.val = false → exec (.canFrameRx bus f check) s = .next s) ∧
    (∀ f, s.busUp bus.val = true → exec (.canFrameRx bus f .bad) s = .next ((s.bump (Cnt.FIELD_BUS_ERRORS bus.val)).setErrors bus.val
      (s.get (Reg.BUS_STATE_TEC bus.val)) (s.get (Reg.BUS_STATE_REC bus.val) + 1))) ∧
    (∀ frame, s.busUp bus.val = true → ((s.bump (Cnt.FIELD_FRAMES_RX bus.val)).setErrors bus.val (s.get (Reg.BUS_STATE_TEC bus.val))
        (s.get (Reg.BUS_STATE_REC bus.val) - 1)).countFrame bus.val = (frame, u) →
      (∀ f, exec (.canFrameRx bus f .remoteFrame) s = .next (u.bump (Cnt.FIELD_REMOTE_DISCARDED bus.val))) ∧
      (∀ f, (u.routeOf bus.val f).bind u.boxOfBind = none →
        exec (.canFrameRx bus f .data) s = .next (u.bump (Cnt.FIELD_NO_ROUTE bus.val))) ∧
      (∀ f b, (u.routeOf bus.val f).bind u.boxOfBind = some b →
        ((u.box b).cls = .registered →
          ((∃ h ∈ (u.canBus bus.val).hold, h.box = b) →
            exec (.canFrameRx bus f .data) s = .next (u.holdCan bus.val b (CanFrame_bytes f bus.val) frame)) ∧
          ((∀ h ∈ (u.canBus bus.val).hold, h.box ≠ b) →
            (∀ v, u.offerCan bus.val b (CanFrame_bytes f bus.val) frame = (true, v) →
              exec (.canFrameRx bus f .data) s = .next (v.holdCan bus.val b (CanFrame_bytes f bus.val) frame)) ∧
            (∀ v, u.offerCan bus.val b (CanFrame_bytes f bus.val) frame = (false, v) → exec (.canFrameRx bus f .data) s = .next v))) ∧
        ((u.box b).cls ≠ .registered → exec (.canFrameRx bus f .data) s = .next (u.sendField b (CanFrame_bytes f bus.val))))) ∧
    Does (.canHoldTimeout bus) s (fun t => t = (s.setCanBus bus.val { s.canBus bus.val with
      hold := (s.canBus bus.val).hold.filter (fun h => !decide (h.since + 8000 ≤ s.round)) }).dropHeldCan bus.val
        ((s.canBus bus.val).hold.filter (fun h => decide (h.since + 8000 ≤ s.round))).length) ∧
    (∀ (box : BoxNo) (msg : List Byte),
      (s.busOf box.val = none → ∀ q w, exec (.canMessage box q msg w) s = .next s) ∧
      (∀ n, s.busOf box.val = some n →
        (∀ w, (3 < n ∨ parseCan msg = none) → exec (.canMessage box none msg w) s = .next (s.bump Cnt.BRIDGE_BAD_MESSAGES)) ∧
        (∀ f w, n ≤ 3 → parseCan msg = some f →
          (f.fdf = true → s.flag (Reg.CAN_CFG_FD_EN n) = false →
            exec (.canMessage box none msg w) s = .next (s.bump (Cnt.FIELD_SIZE_ERRORS n))) ∧
          ((f.fdf = false ∨ s.flag (Reg.CAN_CFG_FD_EN n) = true) →
            (s.flag (Reg.CAN_CFG_EN n) = false → exec (.canMessage box none msg w) s = .next (s.bump (Cnt.FIELD_TX_DROPPED n))) ∧
            (s.flag (Reg.CAN_CFG_EN n) = true → 32 ≤ (s.canBus n).queue.length → exec (.canMessage box none msg w) s = .next s) ∧
            (s.flag (Reg.CAN_CFG_EN n) = true → (s.canBus n).queue.length < 32 → exec (.canMessage box none msg w) s = .next
              (s.setCanBus n { s.canBus n with queue := insertCan ⟨box.val, f⟩ (s.canBus n).queue })))) ∧
        (∀ q : BitVec 32,
          (∀ w, (w = false ∨ s.busReady n = false ∨ s.passToBridge box.val q.toNat = none) →
            exec (.canMessage box (some q) msg w) s = .next s) ∧
          (∀ p v, s.busReady n = true → s.passToBridge box.val q.toNat = some (p, v) →
            (parseCan p = none → exec (.canMessage box (some q) msg true) s = .next (v.endRegistered box.val .refused 0)) ∧
            (∀ f, parseCan p = some f →
              (3 < n ∨ (f.fdf = true ∧ v.flag (Reg.CAN_CFG_FD_EN n) = false) →
                exec (.canMessage box (some q) msg true) s = .next (v.endRegistered box.val .refused 0)) ∧
              (n ≤ 3 → (f.fdf = false ∨ v.flag (Reg.CAN_CFG_FD_EN n) = true) →
                exec (.canMessage box (some q) msg true) s = .next ((v.setCanBus n { v.canBus n with reg := some (box.val, q.toNat) }).emit
                  (.bus 8 n 1 ([box.val, f.id.val] ++ f.data.map (·.toNat)))))))))) ∧
    (s.busUp bus.val = false ∨ (s.canBus bus.val).queue = [] → exec (.canTxComplete bus) s = .next s) ∧
    (∀ q rest, s.busUp bus.val = true → (s.canBus bus.val).queue = q :: rest →
      u = (s.setCanBus bus.val { s.canBus bus.val with queue := rest }).bump (Cnt.FIELD_FRAMES_TX bus.val) →
      exec (.canTxComplete bus) s = .next ((u.setErrors bus.val (u.get (Reg.BUS_STATE_TEC bus.val) - 1) (u.get (Reg.BUS_STATE_REC bus.val))).emit
        (.bus 8 bus.val 1 ([q.box, q.frame.id.val] ++ q.frame.data.map (·.toNat))))) ∧
    Acts (.busOff bus) s (s.busUp bus.val = true) (fun t =>
      t = (((s.set (Reg.BUS_STATE_CAN_STATE bus.val) 2).bump (Cnt.FIELD_BUS_OFF_EVENTS bus.val)).fieldEvent bus.val 0 []).withdrawReg bus.val) ∧
    Acts (.busOn bus) s (s.get (Reg.BUS_STATE_CAN_STATE bus.val) = 2) (fun t =>
      t = (((s.set (Reg.BUS_STATE_CAN_STATE bus.val) 0).set (Reg.BUS_STATE_TEC bus.val) 0).set (Reg.BUS_STATE_REC bus.val) 0).fieldEvent bus.val 1 []) ∧
    ((s.canBus bus.val).reg = none → exec (.regTxLimitExpiry bus) s = .next s) ∧
    (∀ b q, (s.canBus bus.val).reg = some (b, q) → exec (.regTxLimitExpiry bus) s = .next (s.endRegistered b .notSent 0))

/-- The Modbus server (R324 to R328): what a request of a local master is answered, in the order of the checks; a frame not sound or a
unit not served has no answer.
Rests on the model's choices of log entries 130, 131. -/
def Obligations.ModbusRequestActs : Prop :=
  ∀ (s v : State) (bus : Fin 2) (r : ModbusReq) (known : Bool) (frame : Nat),
    (∀ ok, s.flag (Reg.RS485_CFG_EN bus.val) = false ∨ s.flag (Reg.RS485_CFG_ROLE bus.val) = true →
      exec (.modbusRequest bus r ok) s = .next s) ∧
    (s.flag (Reg.RS485_CFG_EN bus.val) = true → s.flag (Reg.RS485_CFG_ROLE bus.val) = false →
      (s.bump (Cnt.FIELD_FRAMES_RX (4 + bus.val))).countFrame (4 + bus.val) = (frame, v) →
      known = (List.range 64).any (fun k => v.flag (Reg.RANGE_VALID k) && v.get (Reg.RANGE_BUS k) == bus.val && v.get (Reg.RANGE_UNIT k) == r.unit.toNat) →
      exec (.modbusRequest bus r false) s = .next (s.bump (Cnt.FIELD_BUS_ERRORS (4 + bus.val))) ∧
      (r.unit.toNat ≠ 0 → known = false → exec (.modbusRequest bus r true) s = .next v) ∧
      (r.unit.toNat ≠ 0 → known = true →
        (r.function.toNat = 0x16 ∨ r.function.toNat = 0x17 → exec (.modbusRequest bus r true) s = .next
          ((v.bump Cnt.BRIDGE_RMW_REFUSED).answerMaster bus.val r.unit.toNat r.function.toNat 1 [])) ∧
        (r.function.toNat ≠ 0x16 → r.function.toNat ≠ 0x17 →
          (tableOf r.function.toNat = none → exec (.modbusRequest bus r true) s = .next
            (v.answerMaster bus.val r.unit.toNat r.function.toNat 1 [])) ∧
          (∀ t, tableOf r.function.toNat = some t →
            ((countOk r.function.toNat r.count.toNat = false ∨ (isWriteFn r.function.toNat = true ∧ byteCountOk r = false)) →
              exec (.modbusRequest bus r true) s = .next (v.answerMaster bus.val r.unit.toNat r.function.toNat 3 [])) ∧
            (countOk r.function.toNat r.count.toNat = true → (isWriteFn r.function.toNat = true → byteCountOk r = true) →
              ∀ pieces, pieces = v.piecesOf (v.rangesOf bus.val (some r.unit.toNat) t) 65 r.address.toNat r.count.toNat →
              (pieces = none → exec (.modbusRequest bus r true) s = .next (v.answerMaster bus.val r.unit.toNat r.function.toNat 2 [])) ∧
              (∀ ps, pieces = some ps →
                (v.flag Reg.BRIDGE_CFG_COMPAT = true ∧ 1 < ps.length → exec (.modbusRequest bus r true) s = .next
                  ((v.bump Cnt.BRIDGE_COMPAT_ERRORS).answerMaster bus.val r.unit.toNat r.function.toNat 2 [])) ∧
                ((v.flag Reg.BRIDGE_CFG_COMPAT = false ∨ ps.length ≤ 1) →
                  (isWriteFn r.function.toNat = true → exec (.modbusRequest bus r true) s = .next (v.serveWrite bus.val r t ps true frame)) ∧
                  (isWriteFn r.function.toNat = false → exec (.modbusRequest bus r true) s = .next (v.serveRead bus.val r t ps)))))))) ∧
      (r.unit.toNat = 0 →
        (tableOf r.function.toNat = none ∨ isWriteFn r.function.toNat = false → exec (.modbusRequest bus r true) s = .next v) ∧
        (∀ t, tableOf r.function.toNat = some t → (countOk r.function.toNat r.count.toNat = false ∨ byteCountOk r = false ∨
          v.piecesOf (v.rangesOf bus.val none t) 65 r.address.toNat r.count.toNat = none ∨
          (∃ ps, v.piecesOf (v.rangesOf bus.val none t) 65 r.address.toNat r.count.toNat = some ps ∧
            ∃ p ∈ ps, v.get (Reg.RANGE_MODE p.1) ≠ 0)) → exec (.modbusRequest bus r true) s = .next v) ∧
        (∀ t ps, tableOf r.function.toNat = some t →
          v.piecesOf (v.rangesOf bus.val none t) 65 r.address.toNat r.count.toNat = some ps → isWriteFn r.function.toNat = true →
          countOk r.function.toNat r.count.toNat = true → byteCountOk r = true → (∀ p ∈ ps, v.get (Reg.RANGE_MODE p.1) = 0) →
          exec (.modbusRequest bus r true) s = .next (v.serveWrite bus.val r t ps false frame))))

/-- Held values, answers and their limits (R225, R327, R328, R329).
Rests on the model's choices of log entries 18, 133. -/
def Obligations.HeldValuesAct : Prop :=
  ∀ (s u : State) (box : BoxNo) (msg : List Byte) (m : ModbusMsg) (tag : BitVec 16) (range : Fin 64) (shape : Fin 4),
    ((∀ x, parseModbus msg = some x → x.op ≠ 0x12) → exec (.readAnswer box msg) s = .next (s.bump Cnt.BRIDGE_BAD_MESSAGES)) ∧
    (∀ found : Option Fetch, parseModbus msg = some m → m.op = 0x12 →
      found = s.bridge.fetches.find? (fun f => f.tag == m.tag.toNat && s.boxOfBind f.piece.bind == some box.val) →
      (found = none → exec (.readAnswer box msg) s = .next s) ∧
      (∀ f, found = some f →
        (m.status.toNat = 0 → m.data.length ≠ dataBytes f.piece.table f.piece.count →
          exec (.readAnswer box msg) s = .next (s.bump Cnt.BRIDGE_BAD_MESSAGES)) ∧
        ((m.status.toNat = 0 → m.data.length = dataBytes f.piece.table f.piece.count) →
          u = s.setBridge { s.bridge with fetches := s.bridge.fetches.filter (fun x => x.tag != f.tag) } →
          (f.gen ≠ u.get Reg.BRIDGE_GEN_GEN → exec (.readAnswer box msg) s = .next (u.bump Cnt.ENGINE_RA_RECONFIG)) ∧
          (∀ held, f.gen = u.get Reg.BRIDGE_GEN_GEN → (m.status.toNat = 0 → held = .values m.data) →
            (m.status.toNat ≠ 0 → held = .exception (if m.status.toNat ≤ 0x0B then m.status.toNat else 0x0B)) →
            exec (.readAnswer box msg) s = .next (u.holdValue ⟨f.piece, held, f.ahead, f.start, f.gen, f.written, false⟩))))) ∧
    ((∀ x, parseModbus msg = some x → x.op ≠ 0x13) → exec (.writeAnswer box msg) s = .next (s.bump Cnt.BRIDGE_BAD_MESSAGES)) ∧
    (parseModbus msg = some m → m.op = 0x13 →
      Does (.writeAnswer box msg) s (fun t => t = s.setBridge { s.bridge with confirms := s.bridge.confirms.map (fun c =>
        if c.tag = m.tag.toNat ∧ c.result = none ∧ s.boxOfBind c.piece.bind = some box.val then
          { c with result := some m.status.toNat, since := s.round } else c) })) ∧
    (∀ (found : Option Fetch) (limit : Nat) (mine : Confirm → Bool), limit = s.get Reg.BRIDGE_CFG_FETCH_TIMEOUT →
      found = s.bridge.fetches.find? (fun f => f.tag == tag.toNat && decide (f.since + limit ≤ s.round)) →
      mine = (fun c => c.tag == tag.toNat && c.result == none && decide (c.since + limit ≤ s.round)) →
      (∀ f, found = some f →
        u = (s.setBridge { s.bridge with fetches := s.bridge.fetches.filter (fun x => x.tag != f.tag) }).bump Cnt.BRIDGE_FETCH_TIMEOUTS →
        exec (.fetchTimeout tag) s = .next (u.holdValue ⟨f.piece, .late, false, u.now, u.get Reg.BRIDGE_GEN_GEN, false, false⟩)) ∧
      (found = none → s.bridge.confirms.any mine = false → exec (.fetchTimeout tag) s = .next s) ∧
      (found = none → s.bridge.confirms.any mine = true → exec (.fetchTimeout tag) s = .next
        ((s.setBridge { s.bridge with confirms := s.bridge.confirms.map (fun c =>
          if mine c then { c with result := some 0xFE, since := s.round } else c) }).bump Cnt.BRIDGE_FETCH_TIMEOUTS))) ∧
    (s.shapeAt range.val shape.val = none → exec (.readAhead range shape) s = .next s ∧ exec (.readAheadStop range shape) s = .next s) ∧
    (∀ x, s.shapeAt range.val shape.val = some x →
      Acts (.readAhead range shape) s (s.flag (Reg.RANGE_RA range.val) = true ∧ x.sent = false ∧
          x.lastRead + s.get (Reg.RANGE_RA_DELAY range.val) ≤ s.round) (fun t =>
        u = s.setBridge { s.bridge with shapes := s.bridge.shapes.map (fun y => if y = x then { y with sent := true } else y) } →
        ((∃ f ∈ u.bridge.fetches, f.piece = x.piece) → t = u) ∧ ((∀ f ∈ u.bridge.fetches, f.piece ≠ x.piece) → t = u.issueRead x.piece true)) ∧
      Acts (.readAheadStop range shape) s (x.lastRead + 8 * s.get (Reg.RANGE_RA_DELAY range.val) ≤ s.round)
        (fun t => t = s.setBridge { s.bridge with shapes := s.bridge.shapes.erase x })) ∧
    (∀ found : Option Confirm, found = s.bridge.confirms.find? (fun c => c.tag == tag.toNat && c.result.isSome && decide (c.since + 8000 ≤ s.round)) →
      (found = none → exec (.confirmUnclaimed tag) s = .next s) ∧
      (∀ c, found = some c → exec (.confirmUnclaimed tag) s = .next
        ((s.setBridge { s.bridge with confirms := s.bridge.confirms.filter (fun x => x.tag != c.tag) }).bump Cnt.BRIDGE_CONFIRM_UNCLAIMED)))

/-- The Modbus master (R330, R331).
Rests on the model's choices of log entries 109, 132. -/
def Obligations.ModbusMasterActs : Prop :=
  ∀ (s u : State) (box : BoxNo) (msg : List Byte),
    (∀ q w, s.busOf box.val = none → exec (.masterBusMessage box q msg w) s = .next s) ∧
    (∀ (bus n : Nat) (master : Bool), s.busOf box.val = some bus → n = bus - 4 →
      (master = true ↔ 3 < bus ∧ s.flag (Reg.RS485_CFG_ROLE n) = true) →
      (∀ w, ((∀ m, parseModbus msg = some m → mbClass m = none) ∨ master = false) →
        exec (.masterBusMessage box none msg w) s = .next (s.bump Cnt.BRIDGE_BAD_MESSAGES)) ∧
      (∀ m c w, parseModbus msg = some m → mbClass m = some c → master = true →
        (s.busUp bus = false → exec (.masterBusMessage box none msg w) s = .next
          ((s.bump (Cnt.FIELD_TX_DROPPED bus)).answerMessage ⟨box.val, c, none, m, 0⟩ 0xFD [])) ∧
        (s.busUp bus = true → 32 ≤ (s.masterBus n).queue.length → exec (.masterBusMessage box none msg w) s = .next s) ∧
        (s.busUp bus = true → (s.masterBus n).queue.length < 32 → exec (.masterBusMessage box none msg w) s = .next
          ((s.setMasterBus n { s.masterBus n with queue := (s.masterBus n).queue ++ [⟨box.val, c, none, m, 0⟩] }).startMaster n 33))) ∧
      (∀ (q : BitVec 32),
        (∀ w, (w = false ∨ s.busReady bus = false ∨ s.passToBridge box.val q.toNat = none) →
          exec (.masterBusMessage box (some q) msg w) s = .next s) ∧
        (∀ p v, s.busReady bus = true → s.passToBridge box.val q.toNat = some (p, v) →
          ((∀ m, parseModbus p = some m → m.op ≠ 0x10) →
            exec (.masterBusMessage box (some q) msg true) s = .next (v.endRegistered box.val .refused 0)) ∧
          (∀ m, parseModbus p = some m → m.op = 0x10 →
            (bus ≤ 3 ∨ v.flag (Reg.RS485_CFG_ROLE n) = false ∨ v.get (Reg.RS485_TIMING_REG_MAX_BYTES n) < m.data.length →
              exec (.masterBusMessage box (some q) msg true) s = .next (v.endRegistered box.val .refused 0)) ∧
            (3 < bus → v.flag (Reg.RS485_CFG_ROLE n) = true → m.data.length ≤ v.get (Reg.RS485_TIMING_REG_MAX_BYTES n) →
              u = (v.setMasterBus n { v.masterBus n with cur := some ⟨box.val, .registered, some q.toNat, m, 0⟩ }).putRequest n
                ⟨box.val, .registered, some q.toNat, m, 0⟩ →
              (m.farUnit = 0 → exec (.masterBusMessage box (some q) msg true) s = .next (u.endRegistered box.val .done 0)) ∧
              (m.farUnit ≠ 0 → exec (.masterBusMessage box (some q) msg true) s = .next u)))))) ∧
    (∀ (bus : Fin 2) (x : Byte) (data : List Byte),
      ((s.masterBus bus.val).cur = none → exec (.modbusResponse bus x data) s = .next s ∧ exec (.respTimeout bus) s = .next s) ∧
      (∀ t, (s.masterBus bus.val).cur = some t →
        ((x.toNat = 0 → u = s.bump (Cnt.FIELD_FRAMES_RX (4 + bus.val))) →
          (x.toNat ≠ 0 → u = (s.bump (Cnt.FIELD_FRAMES_RX (4 + bus.val))).bump (Cnt.FIELD_EXCEPTIONS_RX (4 + bus.val))) →
          (t.seq.isSome = true → exec (.modbusResponse bus x data) s = .next
            ((u.endRegistered t.box (if x.toNat = 0 then .done else .exception) x.toNat).startMaster bus.val 33)) ∧
          (t.seq = none → exec (.modbusResponse bus x data) s = .next
            (((u.setMasterBus bus.val { s.masterBus bus.val with cur := none }).answerMessage t x.toNat data).startMaster bus.val 33))) ∧
        (u = s.bump (Cnt.FIELD_RESP_TIMEOUTS (4 + bus.val)) →
          (t.seq.isSome = true → exec (.respTimeout bus) s = .next ((u.endRegistered t.box .noResponse 0).startMaster bus.val 33)) ∧
          (t.seq = none → t.tries < u.get (Reg.RS485_TIMING_RETRIES bus.val) → exec (.respTimeout bus) s = .next
            (((u.setMasterBus bus.val { s.masterBus bus.val with cur := some { t with tries := t.tries + 1 } }).bump
              (Cnt.FIELD_RETRIES_USED (4 + bus.val))).putRequest bus.val { t with tries := t.tries + 1 })) ∧
          (t.seq = none → u.get (Reg.RS485_TIMING_RETRIES bus.val) ≤ t.tries → exec (.respTimeout bus) s = .next
            (((u.setMasterBus bus.val { s.masterBus bus.val with cur := none }).answerMessage t 0xFE []).startMaster bus.val 33)))))

/-- The display ports' commands (R47, R269 to R278, R289). Port `4 + d` is input `d`.
Rests on the model's choices of log entries 3, 12, 26, 111, 112, 113, 114, 115. -/
def Obligations.DisplayCommandsAct : Prop :=
  ∀ (s u : State) (d : Fin 4) (i : Fin 2) (n now : Nat), n = 4 + i.val → now = s.now →
    (∀ (rate : Fin 7) (lanes : Fin 3), Acts (.hpdPlug d rate lanes) s (s.dpOn d.val = true ∧ s.flag (Reg.DP_STATE_HPD d.val) = false) (fun t =>
      ∀ v w : State, v = ((s.setFlag (Reg.DP_STATE_HPD d.val) true).hpdEvent d.val 0).displayEvent d.val 0 →
        w = v.set (Reg.DP_STATE_RATE d.val) (min rate.val (v.get (Reg.DP_CFG_MAX_RATE d.val))) →
        t = ((w.set (Reg.DP_STATE_LANES d.val) (min lanes.val (w.get (Reg.DP_CFG_MAX_LANES d.val)))).setFlag
          (Reg.DP_STATE_TRAINED d.val) true).displayEvent d.val 2)) ∧
    Acts (.hpdUnplug d) s (s.dpOn d.val = true ∧ s.flag (Reg.DP_STATE_HPD d.val) = true) (fun t =>
      t = (State.updDp ((((s.setFlag (Reg.DP_STATE_HPD d.val) false).setFlag (Reg.DP_STATE_TRAINED d.val) false).set
        (Reg.DP_STATE_STREAM d.val) 0).hpdEvent d.val 1) d.val (fun x => { x with held := [], restart := false })).displayEvent d.val 1) ∧
    Acts (.irqHpd d) s (s.dpOn d.val = true ∧ s.flag (Reg.DP_STATE_HPD d.val) = true) (fun t => t = s.hpdEvent d.val 2) ∧
    (∀ dpcd edid, Acts (.capabilityCopy i dpcd edid) s (s.dpOn n = true) (fun t =>
      t = (s.updDp n (fun x => { x with copy := some (capabilityShown dpcd, edid) })).setFlag (Reg.DP_STATE_HPD n) true)) ∧
    (∀ k, s.dpOn n = false ∨ k = .malformed → exec (.auxRequest i k) s = .next s) ∧
    (s.dpOn n = true →
      exec (.auxRequest i (.linkTraining none)) s = .next (s.auxAnswer n 0 []) ∧
      (∀ (rate : Fin 7) (lanes : Fin 3) (v w : State), v = s.auxAnswer n 0 [] →
        w = v.set (Reg.DP_STATE_RATE n) (min rate.val (v.get (Reg.DP_CFG_MAX_RATE n))) →
        exec (.auxRequest i (.linkTraining (some (rate, lanes)))) s = .next
          (((w.set (Reg.DP_STATE_LANES n) (min lanes.val (w.get (Reg.DP_CFG_MAX_LANES n)))).setFlag (Reg.DP_STATE_TRAINED n) true).displayEvent
            n 2)) ∧
      (∀ c, (s.dp n).copy = some c → exec (.auxRequest i .edidRead) s = .next (s.auxAnswer n 0 c.2) ∧
        (∀ a, a.val < 256 → exec (.auxRequest i (.dpcdRead a)) s = .next (s.auxAnswer n 0 ((c.1.drop a.val).take 1)))) ∧
      ((s.dp n).copy = none → exec (.auxRequest i .edidRead) s = .next (s.auxAnswer n 1 []) ∧
        (∀ a, a.val < 256 → exec (.auxRequest i (.dpcdRead a)) s = .next (s.auxAnswer n 1 []))) ∧
      ((s.dp n).aux = none → u = s.updDp n (fun x => { x with aux := some 0 }) →
        exec (.auxRequest i .other) s = .next ((u.emit (.bus 5 n 4 [])).auxAnswer n 1 []) ∧
        (∀ a, 256 ≤ a.val → exec (.auxRequest i (.dpcdRead a)) s = .next ((u.emit (.bus 5 n 4 [a.val])).auxAnswer n 1 []))) ∧
      ((s.dp n).aux ≠ none → exec (.auxRequest i .other) s = .next (s.auxAnswer n 1 []) ∧
        (∀ a, 256 ≤ a.val → exec (.auxRequest i (.dpcdRead a)) s = .next (s.auxAnswer n 1 [])))) ∧
    (∀ reply, Acts (.auxReply i reply) s (s.dpOn n = true ∧ (s.dp n).aux ≠ none)
      (fun t => t = (s.updDp n (fun x => { x with aux := none })).auxAnswer n 3 reply)) ∧
    (∀ pc : Parcel,
      (s.dpTunnel n = none ∨ s.dpOn n = false ∨ 2032 < pc.bytes → exec (.parcelClose i pc) s = .next s) ∧
      (∀ x, s.dpTunnel n = some x → s.dpOn n = true → pc.bytes ≤ 2032 → u = s.set (Reg.DP_STATE_STREAM n) (if pc.dsc then 2 else 1) →
        (∀ m, u.parcelLimit x = some m → m ≤ (s.dp n).sent → exec (.parcelClose i pc) s = .next (u.bump (Cnt.DISPLAY_PARCELS_RED n))) ∧
        ((∀ m, u.parcelLimit x = some m → (s.dp n).sent < m) → exec (.parcelClose i pc) s = .next
          ((((u.setDp n { s.dp n with sent := (s.dp n).sent + 1, msaFor := x.inc }).bump (Cnt.DISPLAY_PARCELS n)).emit
            (.bus 5 n 0 [x.peerPc, x.peerBox, pc.bytes])).emit
            (.bytes 5 (parcelHeader pc ((pc.frameStart && pc.msaNew) || (s.dp n).msaFor != x.inc))))))) ∧
    (∀ pc : Parcel,
      (s.dpOn d.val = false ∨ s.flag (Reg.DP_STATE_TRAINED d.val) = false → exec (.parcel d pc) s = .next s) ∧
      (s.dpOn d.val = true → s.flag (Reg.DP_STATE_TRAINED d.val) = true →
        (125000 ≤ postmarkNs pc.postmark → exec (.parcel d pc) s = .next (s.bump Cnt.ROUND_RECORDS_DISCARDED)) ∧
        (postmarkNs pc.postmark < 125000 → s.playAt d.val pc.postmark.toNat < now → exec (.parcel d pc) s = .next
          ((s.bump (Cnt.DISPLAY_LATE_PARCELS d.val)).blankFrame d.val
            (pc.frameStart && !(s.dp d.val).missed.contains pc.postmark.toNat))) ∧
        (postmarkNs pc.postmark < 125000 → now ≤ s.playAt d.val pc.postmark.toNat → exec (.parcel d pc) s = .next
          (s.updDp d.val (fun x => { x with held := x.held ++ [pc] }))))) ∧
    (∀ (pm : BitVec 64) (err : Int),
      Acts (.playoutTime d pm err) s (s.dpOn d.val = true ∧ s.flag (Reg.DP_STATE_TRAINED d.val) = true ∧ s.playAt d.val pm.toNat ≤ now) (fun t =>
        (∀ pc, (s.dp d.val).held.find? (fun p => p.postmark == pm) = some pc → t = s.playParcel d.val pc err) ∧
        ((s.dp d.val).held.find? (fun p => p.postmark == pm) = none →
          t = ((s.bump (Cnt.DISPLAY_MISSED_PARCELS d.val)).blankFrame d.val false).updDp d.val (fun x => { x with
            missed := pm.toNat :: x.missed }))))

/-- The storage commands (R279 to R283, R288, R289).
The Ethernet commands (R284 to R287, R293).
Rests on the model's choices of log entries 12, 117, 118, 120, 121, 122. -/
def Obligations.StorageAndEthernetCommandsAct : Prop :=
  (∀ (s u : State),
    (∀ ok sw rd ns sz g w, s.powered .hostio = false → exec (.ssdEnumerate ok sw rd ns sz g w) s = .next s) ∧
    (∀ (ok sw rd : Bool) (ns : Byte) (sz : List (BitVec 64)) (g w : Fin 16), s.powered .hostio = true →
      u = (s.set Reg.SSD_STATE_GEN g.val).set Reg.SSD_STATE_WIDTH w.val →
      (ok = false ∨ sw = true → exec (.ssdEnumerate ok sw rd ns sz g w) s = .next (u.setSsd 4)) ∧
      (ok = true → sw = false → exec (.ssdEnumerate ok sw rd ns sz g w) s = .next
        ((State.set { u with media := { u.media with nsSizes := sz.map BitVec.toNat } } Reg.SSD_STATE_NAMESPACES ns.toNat).setSsd
          (if rd then 2 else 1)))) ∧
    Acts .ssdReadyTimeout s (s.get Reg.SSD_STATE_STATE = 1) (fun t => t = s.setSsd 3) ∧
    (∀ (vf : Fin 48) (admin : Bool) (op : Byte) (ns : Word) (lba count : Nat) (x : VfSub), x = ⟨vf.val, admin, op.toNat, ns.toNat, lba, count⟩ →
      (s.powered .hostio = false → exec (.vfSubmission vf admin op ns lba count) s = .next s) ∧
      (s.powered .hostio = true →
        (admin = false → (∃ w ∈ s.media.held, w.vf = x.vf ∧ w.vnsid = x.vnsid) → exec (.vfSubmission vf admin op ns lba count) s = .next
          (State.vfWaits { s with media := { s.media with held := s.media.held ++ [x] } } x.vf)) ∧
        ((admin = true ∨ ∀ w ∈ s.media.held, ¬ (w.vf = x.vf ∧ w.vnsid = x.vnsid)) →
          exec (.vfSubmission vf admin op ns lba count) s = .next (s.runSubmission x)))) ∧
    (∀ (k : Nat) (st : BitVec 16),
      (mget s.media.cmds k = none →
        exec (.remoteCompletion k st) s = .next (s.bump Cnt.STORAGE_LATE_COMPLETIONS) ∧
        exec (.ssdCompletion k st) s = .next (s.bump Cnt.STORAGE_LATE_COMPLETIONS) ∧ exec (.cmdTimeout k) s = .next s) ∧
      (∀ c, mget s.media.cmds k = some c →
        (c.remote = true →
          exec (.remoteCompletion k st) s = .next (((s.dropNvme k).nvmeDone c st.toNat).fetchHeld) ∧
          exec (.ssdCompletion k st) s = .next (s.bump Cnt.STORAGE_LATE_COMPLETIONS)) ∧
        (c.remote = false →
          exec (.remoteCompletion k st) s = .next (s.bump Cnt.STORAGE_LATE_COMPLETIONS) ∧
          (st ≠ 0 → exec (.ssdCompletion k st) s = .next
            ((((s.bump Cnt.STORAGE_SSD_ERRORS).dropNvme k).nvmeDone c st.toNat).fetchHeld)) ∧
          (st = 0 → exec (.ssdCompletion k st) s = .next (((s.dropNvme k).nvmeDone c 0).fetchHeld))) ∧
        Acts (.cmdTimeout k) s (c.remote = true ∧ c.since + s.get Reg.RELAY_CFG_CMD_TIMEOUT * 8000 ≤ s.round)
          (fun t => t = (s.nvmeTimeout k c).fetchHeld))) ∧
    (∀ vf : Fin 48, Does (.vfFlr vf) s (fun t => t = State.fetchHeld { s with media := { s.media with
        cmds := s.media.cmds.filter (fun c => c.2.sub.vf != vf.val || c.2.forFar.isSome),
        held := s.media.held.filter (fun v => v.vf != vf.val) } })) ∧
    Acts .ssdFault s (s.get Reg.SSD_STATE_STATE = 2) (fun t =>
      t = (forAll (s.media.cmds.filter (fun c => !c.2.remote)) (s.setSsd 3) (fun s c => (s.dropNvme c.1).nvmeDone c.2 nvTransient)).fetchHeld)) ∧
  (∀ (s u : State) (sub : Fin 11),
    (∀ f, Acts (.ethernetFrame sub f) s (s.subOn sub.val = true) (fun t => t = s.etherIngress sub.val f)) ∧
    (∀ (q : Fin 32) (tail : Fin 4096) (frames : List EthFrame),
      (s.subOn 10 = true → u = { s with media := { s.media with tx := mput s.media.tx q.val (tail.val, tail.val) } } →
        exec (.pf1TxDoorbell q tail frames) s = .next (forAll frames u (fun s f => s.etherIngress 10 { f with fcsOk := true }))) ∧
      (s.subOn 10 = false → ∀ head, head = ((mget s.media.tx q.val).getD (0, 0)).1 →
        exec (.pf1TxDoorbell q tail frames) s = .next { s with media := { s.media with tx := mput s.media.tx q.val (head, tail.val) } })) ∧
    (∀ (link : EtherPhy) (fault on : Bool), (on = true ↔
        (link = .up ∨ (link = .slow ∧ (sub.val < 2 ∨ sub.val = 10))) ∧ s.powered (if sub.val = 10 then .hostio else .station) = true ∧
        s.servicePowered = false ∧ s.flag (Reg.SUB_CFG_EN sub.val) = true) →
      u = s.setFlag (Reg.SUB_STATE_REMOTE_FAULT sub.val) fault →
      (u.flag (Reg.SUB_STATE_LINK sub.val) = on → exec (.etherLink sub link fault) s = .next u) ∧
      (u.flag (Reg.SUB_STATE_LINK sub.val) ≠ on → on = true → exec (.etherLink sub link fault) s = .next
        ((u.setFlag (Reg.SUB_STATE_LINK sub.val) true).notice 0x8082 [sub.val, 1])) ∧
      (u.flag (Reg.SUB_STATE_LINK sub.val) ≠ on → on = false → exec (.etherLink sub link fault) s = .next
        (((u.setFlag (Reg.SUB_STATE_LINK sub.val) false).subDown sub.val).notice 0x8082 [sub.val, 0]))))

/-- The trees of USB (R295 to R300, R311).
The USB ports (R301 to R304, R312): each change of a port's state has the state it may leave.
Rests on the model's choices of log entries 3, 123, 124, 125, 126, 127, 129, 151, 155. -/
def Obligations.UsbTreesAndPortsAct : Prop :=
  (∀ (s : State) (tree : Fin 16) (far : Fin 17),
    (∀ (k : TransferKind) (x : Transfer),
      x = ⟨tree.val, k, s.boot.ticks, if k = .isoIn ∨ k = .isoOut then s.round + s.get Reg.TREE_CFG_ISO_LEAD + 1 else 0, false⟩ →
      Acts (.transferRequest tree k) s (s.attached tree.val = true) (fun t => t = State.emit { s with
        usb := { s.usb with next := s.usb.next + 1, transfers := mput s.usb.transfers s.usb.next x } } (.bus 3 tree.val 3 [s.usb.next]))) ∧
    (∀ (n : Nat) (code : Byte),
      ((∀ x, mget s.usb.transfers n = some x → x.tree ≠ tree.val) →
        (s.usb.missed.contains (n, tree.val) = false →
          exec (.transferCompletion tree n code) s = .next (s.bump (Cnt.USB_LATE_COMPLETIONS tree.val))) ∧
        (s.usb.missed.contains (n, tree.val) = true → exec (.transferCompletion tree n code) s = .next
          (State.bump { s with usb := { s.usb with missed := s.usb.missed.erase (n, tree.val) } } (Cnt.USB_ISO_MISSED tree.val))) ∧
        exec (.xferTimeout tree n) s = .next s) ∧
      (∀ x, mget s.usb.transfers n = some x → x.tree = tree.val →
        (x.micro = 0 ∧ mayNak x.kind = false ∧ s.transferLate x = true → exec (.transferCompletion tree n code) s = .next
          (((s.transferDone n x ccTransactionError).bump (Cnt.USB_XFER_TIMEOUTS tree.val)).bump (Cnt.USB_LATE_COMPLETIONS tree.val))) ∧
        (¬ (x.micro = 0 ∧ mayNak x.kind = false ∧ s.transferLate x = true) →
          exec (.transferCompletion tree n code) s = .next (s.transferDone n x code.toNat)) ∧
        Acts (.xferTimeout tree n) s (s.transferLate x = true)
          (fun t => t = (s.transferDone n x ccTransactionError).bump (Cnt.USB_XFER_TIMEOUTS tree.val)))) ∧
    (∀ (bytes packets b : Nat), b = s.get (isoBoxFld tree.val) →
      ((b = 0 ∨ (s.box b).state ≠ .opened) → exec (.configureEndpoint tree bytes packets) s = .next (s.emit (.bus 3 tree.val 4 [ccResourceError]))) ∧
      (b ≠ 0 → (s.box b).state = .opened →
        ((s.box b).flow = none → exec (.configureEndpoint tree bytes packets) s = .next (s.emit (.bus 3 tree.val 4 [ccSuccess]))) ∧
        (∀ i, (s.box b).flow = some i →
          (isoSlots bytes packets ≤ s.get (Reg.ISO_ALLOT_PRI i) → exec (.configureEndpoint tree bytes packets) s = .next
            (s.emit (.bus 3 tree.val 4 [ccSuccess]))) ∧
          (s.get (Reg.ISO_ALLOT_PRI i) < isoSlots bytes packets → exec (.configureEndpoint tree bytes packets) s = .next
            (s.emit (.bus 3 tree.val 4 [ccBandwidthError])))))) ∧
    Acts (.keepAliveSend far) s (s.treeOpen far.val = true ∧ ∀ k, (s.tree far.val).sentAt = some k → k + 800 ≤ s.boot.ticks) (fun t =>
      ∀ x : Box, x = s.box (s.get (ctlBoxFld far.val)) →
      t = (s.setTree far.val { s.tree far.val with sentAt := some s.boot.ticks }).emit (.bus 7 far.val 5 [x.peerPc, x.peerBox])) ∧
    Acts (.keepAlive far) s (s.treeOpen far.val = true)
      (fun t => t = (s.setTree far.val { s.tree far.val with heardAt := s.boot.ticks }).setAttached far.val true) ∧
    Acts (.treeLost far) s (s.attached far.val = true ∧ (s.treeOpen far.val = false ∨ (s.tree far.val).heardAt + 2400 ≤ s.boot.ticks))
      (fun t => t = s.loseTree far.val)) ∧
  (∀ (s : State) (n : Fin 4),
    Acts (.setPortFeaturePortPower n) s (s.portStateUsb n.val = 0 ∧ s.flag (Reg.USB_PORT_CFG_EN n.val) = true ∧ s.powered .station = true ∧
      s.servicePowered = false) (fun t => t = s.setUsbState n.val 1 0) ∧
    Does (.clearPortFeaturePortPower n) s (fun t => t = s.portOff n.val) ∧
    Acts (.setPortFeaturePortReset n) s (s.portStateUsb n.val = 2) (fun t =>
      t = ((s.updUsbPort n.val (fun x => { x with resetting := true })).bump (Cnt.USB_RESETS n.val)).emit (.bus 7 n.val 6 [])) ∧
    (∀ speed : Fin 6, Acts (.portResetComplete n speed) s (s.portStateUsb n.val = 2 ∧ (s.usbPort n.val).resetting = true) (fun t =>
      (s.flag (Reg.USB_PORT_CFG_SS_EN n.val) = true → t = (s.clearPort n.val).setUsbState n.val 3 speed.val) ∧
      (s.flag (Reg.USB_PORT_CFG_SS_EN n.val) = false → t = (s.clearPort n.val).setUsbState n.val 3 (min 3 speed.val)))) ∧
    Acts (.clearPortFeaturePortEnable n) s (s.portStateUsb n.val = 3) (fun t => t = s.setUsbState n.val 2 (s.portSpeed n.val)) ∧
    Acts (.suspendRequest n) s (s.portStateUsb n.val = 3) (fun t => t = (s.clearPort n.val).setUsbState n.val 4 (s.portSpeed n.val)) ∧
    Does (.clearPortFeaturePortSuspend n) s (fun t => t = s.hostResumes n.val) ∧
    Does (.hostResume n) s (fun t => t = s.hostResumes n.val) ∧
    Acts (.remoteWake n) s (s.portStateUsb n.val = 4) (fun t =>
      ((s.usbPort n.val).resume = .host → t = (s.bump (Cnt.USB_WAKES n.val)).mergeWake n.val) ∧
      ((s.usbPort n.val).resume ≠ .host → ∀ u : State, u = s.bump (Cnt.USB_WAKES n.val) →
        t = (u.updUsbPort n.val (fun x => { x with resume := .wake, since := u.boot.ticks })).setUsbState n.val 3 (u.portSpeed n.val))) ∧
    Acts (.usbAttach n) s (s.portStateUsb n.val = 1) (fun t => t = s.updUsbPort n.val (fun x => { x with training := true })) ∧
    (∀ gen2 : Bool, Acts (.ssLinkU0 n gen2) s (s.portStateUsb n.val = 1 ∧ (s.usbPort n.val).training = true ∧
      s.flag (Reg.USB_PORT_CFG_SS_EN n.val) = true) (fun t =>
        t = ((s.clearPort n.val).setUsbState n.val 3 (if gen2 then 5 else 4)).bump (Cnt.USB_CONNECTS n.val))) ∧
    (∀ speed : Fin 3, Acts (.usb2Connect n speed) s (s.portStateUsb n.val = 1 ∧ (s.usbPort n.val).training = true) (fun t =>
      t = (((s.clearPort n.val).setUsbState n.val 2 (speed.val + 1)).bump (Cnt.USB_FALLBACKS_USB2 n.val)).bump (Cnt.USB_CONNECTS n.val))) ∧
    Acts (.connectFail n) s (s.portStateUsb n.val = 1 ∧ (s.usbPort n.val).training = true)
      (fun t => t = (s.clearPort n.val).bump (Cnt.USB_CONNECT_FAILS n.val)) ∧
    Does (.usbDetach n) s (fun t => t = s.usbDetaches n.val) ∧
    Acts (.linkRecoveryFail n) s (s.portStateUsb n.val = 3)
      (fun t => t = (s.setUsbState n.val 2 (s.portSpeed n.val)).bump (Cnt.USB_LINK_ERRORS n.val)))

/-- The service port (R306 to R310, R313, R349).
Rests on the model's choices of log entries 3, 17, 27, 34, 35, 103, 151. -/
def Obligations.ServicePortCommandsAct : Prop :=
  ∀ (s u : State) (v : Svc), v = s.cmd.svc →
    (s.svcConfigured = false → (∀ p, exec (.sendCommand p) s = .next s) ∧ (∀ t w, exec (.getReceipt t w) s = .next s) ∧
      exec .getState s = .next s ∧ (∀ r, exec (.svcInTransfer r) s = .next s) ∧ (∀ n, exec (.dataStagePause n) s = .next s)) ∧
    (s.svcConfigured = true →
      (∀ p : List Byte, (p.length < 32 ∨ 4096 < p.length) → exec (.sendCommand p) s = .next (s.svcStall .badLength)) ∧
      (∀ p : List Byte, 32 ≤ p.length → p.length ≤ 4096 →
        (∀ st, packetCheck (svcHdr p) p = some st → (st = .badLength ∨ st = .badCrc) → exec (.sendCommand p) s = .next (s.svcStall st)) ∧
        ((∀ st, packetCheck (svcHdr p) p = some st → st ≠ .badLength ∧ st ≠ .badCrc) → exec (.sendCommand p) s = .next
          (s.setSvc { v with packets := v.packets ++ [p] }))) ∧
      (∀ n, 0 < n → exec (.dataStagePause n) s = .next (s.bump Cnt.USB_CMD_DISCARDED)) ∧
      (∀ (tag : BitVec 16) (w : Fin 4097), w.val < 4 →
        exec (.getReceipt tag w) s = .next ((s.bump Cnt.USB_CMD_REJECTED).emit (.refused 64 .badParam))) ∧
      (∀ (tag : BitVec 16) (w : Fin 4097) (bytes : List Byte) (x : State), 4 ≤ w.val → s.tagState 64 tag.toNat w.val = (bytes, x) →
        (leAt bytes 0 1 ≠ 2 → exec (.getReceipt tag w) s = .next (x.emit (.bytes 64 bytes))) ∧
        (leAt bytes 0 1 = 2 → exec (.getReceipt tag w) s = .next ((x.emit (.bytes 64 bytes)).bump Cnt.USB_RECEIPTS_REISSUED))) ∧
      exec .getState s = .next (s.emit (.bytes 64
        (s.stateWord 64 (s.get Reg.SVC_STATE_LAST_REJECT) (min 32 v.receipts.length) (min 64 v.notices.length)))) ∧
      (v.receipts = [] → exec (.svcInTransfer true) s = .next s) ∧ (v.notices = [] → exec (.svcInTransfer false) s = .next s) ∧
      (∀ r rest q, v.receipts = r :: rest →
        q = (if s.get Reg.SVC_STATE_SPEED = 2 then (v.inSeq + inPackets r.bytes.length 1024) % 32 else v.inSeq) →
        exec (.svcInTransfer true) s = .next
          (((s.setSvc { v with receipts := rest, inSeq := q }).emit (.receipt 64 r)).inTransfer s.svcPacket r.bytes).fillIn) ∧
      (∀ n rest, v.notices = n :: rest → exec (.svcInTransfer false) s = .next
        (((s.setSvc { v with notices := rest }).inTransfer 1024 n.bytes).fillIn).flushLost)) ∧
    (∀ d, d = s.get Reg.SVC_STATE_DEV_STATE → (d = 0 ∨ 4 ≤ d → exec .svcSuspend s = .next s) ∧
      (0 < d → d < 4 → exec .svcSuspend s = .next ((s.setSvc { v with suspended := d }).setDevState 4))) ∧
    (exec (.dataStagePause 0) s = .next s) ∧
    (∀ written, v.packets = [] → exec (.svcStatusAck written) s = .next s) ∧
    (∀ p rest, v.packets = p :: rest →
      (∀ written, s.ready = false → exec (.svcStatusAck written) s = .next (s.emit (.held 64))) ∧
      (s.ready = true → u = s.setSvc { v with packets := rest } →
        exec (.svcStatusAck true) s = .next (u.submit (svcHdr p) p 4080) ∧ exec (.svcStatusAck false) s = .next (u.svcStall .hwFault))) ∧
    (∀ r, s.powered .station = false → exec (.svcBusReset r) s = .next s) ∧
    (∀ r : SvcReset, s.powered .station = true →
      (r.partialBytes = 0 ∨ s.svcConfigured = false → u = s.bump Cnt.USB_BUS_RESETS) →
      (0 < r.partialBytes → s.svcConfigured = true →
        u = (s.bump Cnt.USB_BUS_RESETS).bump Cnt.USB_CMD_DISCARDED) →
      exec (.svcBusReset r) s = .next (((u.setSvc { u.cmd.svc with
        inReceipt := false, inNotice := false, wakeEnabled := false, waking := false, inSeq := 0 }).set Reg.SVC_STATE_SPEED
          (if r.gen1 then 2 else 1)).setDevState 1)) ∧
    (∀ wake, Acts (.setConfiguration wake) s (s.get Reg.SVC_STATE_DEV_STATE ≠ 0 ∧ s.get Reg.SVC_STATE_DEV_STATE ≠ 4)
      (fun t => t = ((s.setSvc { v with wakeEnabled := wake, inSeq := 0 }).setDevState 3).fillIn)) ∧
    Acts .svcRemoteWake s (s.get Reg.SVC_STATE_DEV_STATE = 4 ∧ v.wakeEnabled = true ∧ (v.receipts ≠ [] ∨ v.notices ≠ []))
      (fun t => t = (s.setSvc { v with waking := true }).emit (.bus 7 4 1 [])) ∧
    Acts .svcHostResume s (s.get Reg.SVC_STATE_DEV_STATE = 4) (fun t =>
      (v.waking = false → t = (s.setDevState v.suspended).fillIn) ∧
      (v.waking = true → t = (((s.setSvc { v with waking := false }).bump Cnt.USB_SVC_WAKES_MERGED).setDevState v.suspended).fillIn))

/-- PF0's queues and the messages of box 0 (R21, R350, R351, R354, R357, R359, R361, R373).
Rests on the model's choices of log entries 5, 16, 17, 22, 23, 24, 27, 29, 30, 31, 103, 154, 235. -/
def Obligations.QueueAndMessageCommandsAct : Prop :=
  ∀ (s : State),
    (∀ (q : Fin 64) (tail : Fin 1024) (l : List Submission), Acts (.sqTail q tail l) s (s.powered .hostio = true) (fun t =>
      t = (s.setQueue q.val { s.queue q.val with sqTail := tail.val, waiting := (s.queue q.val).waiting ++ l }).pf0Serve q)) ∧
    (∀ (q : Fin 64) (head : Fin 1024), Acts (.cqHead q head) s (s.powered .hostio = true)
      (fun t => t = (s.setQueue q.val { s.queue q.val with cqHead := head.val }).pf0Serve q)) ∧
    (∀ head : Fin 4096, Acts (.nrHead head) s (s.powered .hostio = true)
      (fun t => t = State.flushLost { s with cmd := { s.cmd with pf0 := { s.cmd.pf0 with nrHead := head.val } } })) ∧
    Acts .pf0Flr s (s.powered .hostio = true) (fun t => t = { s with cmd := { s.cmd with pf0 := Pf0.init } }) ∧
    (∀ (q : Fin 64) (sub : Submission), Acts (.pf0FetchTimeout q sub) s (s.powered .hostio = true ∧ (s.queue q.val).en = true ∧
      s.pf0Room q.val = true) (fun t => ∀ head : Nat, head = (if (s.queue q.val).sqSize = 0 then 0 else ((s.queue q.val).sqHead + 1) % (s.queue q.val).sqSize) →
      t = (s.setQueue q.val { s.queue q.val with waiting := (s.queue q.val).waiting.erase sub, sqHead := head }).refusePacket
        (hdrOf (Fin.ofNat 67 q.val) 0 (Fin.ofNat 67 q.val) false none []) 0 .badLength false)) ∧
    (∀ (pc : Postcode) (via : Option PortId) (again : Bool) (path : Fin 67) (p : List Byte),
      Acts (.commandMessage pc via again path p) s (s.listens pc.toNat = true ∧ (via = none ∨ s.powered .cipher = true))
        (fun t => t = s.submit (hdrOf 66 pc path again via p) p 4080)) ∧
    (∀ (pc : Postcode), s.listens pc.toNat = false →
      (∀ path seq st flags data, exec (.receiptMessage pc path seq st flags data) s = .next s) ∧
      (∀ code number pm body, exec (.noticeMessage code number pc pm body) s = .next s)) ∧
    (∀ (pc : Postcode) (path : Fin 67) (seq : BitVec 32) (st flags : Byte) (data : List Byte) (found : Option (Nat × BookEntry))
        (again : Option Reread) (runs : Bool), s.listens pc.toNat = true →
      runs = (decide (st.toNat = Status.busyRetry.code) && bitOf flags.toNat 0) →
      found = s.cmd.book.find? (fun e => e.2.relayed && e.2.state == .running && e.2.path == path.val && e.2.hostSeq == seq.toNat) →
      again = s.cmd.rereads.find? (fun x => x.is path.val seq.toNat && x.relayedAt.isSome) →
      (found = none → again = none → exec (.receiptMessage pc path seq st flags data) s = .next (s.bump Cnt.HUB_RELAY_LATE)) ∧
      (∀ x, found = none → again = some x →
        (runs = true → exec (.receiptMessage pc path seq st flags data) s = .next s) ∧
        (runs = false → exec (.receiptMessage pc path seq st flags data) s = .next
          (s.answerRead x (Status.ofCode st.toNat) data true))) ∧
      (∀ k e, found = some (k, e) →
        (runs = true → exec (.receiptMessage pc path seq st flags data) s = .next
          (s.handReceipt e.path e.room { e.receipt true with status := .busyRetry, remote := true, data := [] }).1) ∧
        (runs = false → exec (.receiptMessage pc path seq st flags data) s = .next ((s.updEntry k (fun e => { e with
          farStale := bitOf flags.toNat 2, farNoEffect := bitOf flags.toNat 3, remote := true })).finish k (Status.ofCode st.toNat) data)))) ∧
    (∀ (code : BitVec 16) (number : BitVec 32) (pc : Postcode) (pm : BitVec 64) (body : List Nat), s.listens pc.toNat = true →
      exec (.noticeMessage code number pc pm body) s = .next
        (forAll s.noticePaths s (fun s p => s.placeNotice p ⟨code.toNat, number.toNat, pc.toNat, pm.toNat, body⟩))) ∧
    (∀ (path : Fin 67) (seq : BitVec 32) (found : Option (Nat × BookEntry)) (again : Option Reread),
      again = s.cmd.rereads.find? (fun x => x.is path.val seq.toNat) →
      found = s.cmd.book.find? (fun e => e.2.relayed && e.2.state == .running && e.2.path == path.val && e.2.hostSeq == seq.toNat) →
      (found = none → (∀ x, again = some x → x.relayedAt = none) → exec (.relayTimeout path seq) s = .next s) ∧
      (∀ x r, found = none → again = some x → x.relayedAt = some r →
        Acts (.relayTimeout path seq) s (r + relayWait x.timeoutMs ≤ s.boot.ticks)
          (fun t => t = (s.bump Cnt.HUB_RELAY_TIMEOUTS).answerRead x .timeout [] true)) ∧
      (∀ k e, found = some (k, e) → Acts (.relayTimeout path seq) s (e.relayedAt + relayWait e.timeoutMs ≤ s.boot.ticks) (fun t =>
        t = ((s.bump Cnt.HUB_RELAY_TIMEOUTS).updEntry k (fun e => { e with remote := true })).finish k .timeout []))) ∧
    (∀ k : Fin 512,
      (mget s.cmd.book k.val = none → exec (.remoteEntryFree k) s = .next s) ∧
      (∀ e (age : Int), mget s.cmd.book k.val = some e → age = (80000 : Int) * 125000 →
        Acts (.remoteEntryFree k) s (e.path = 66 ∧ e.state = .done ∧ age ≤ postmarkDiff s.now e.doneAt)
          (fun t => t = (s.setBook (mdel s.cmd.book k.val)).syncBook)))

/-- The management target (R349, R355, R356, R361, R485).
Rests on the model's choices of log entries 3, 17, 27, 103, 154, 192, 236. -/
def Obligations.ManagementTargetCommandsAct : Prop :=
  ∀ (s : State) (m : Mgmt), m = s.cmd.mgmt →
    (s.mgmtAnswers = false → (∀ b, exec (.mgmtAppend b) s = .next (s.emit (.held 65))) ∧ exec .mgmtSubmit s = .next (s.emit (.held 65)) ∧
      exec .mgmtEmpty s = .next (s.emit (.held 65)) ∧ exec .mgmtReceiptRead s = .next (s.emit (.held 65)) ∧
      exec .mgmtNoticeRead s = .next (s.emit (.held 65)) ∧ (∀ t, exec (.mgmtGetReceipt t) s = .next (s.emit (.held 65)))) ∧
    (s.mgmtAnswers = true →
      (∀ bytes : List Byte, 4096 < (m.buffer ++ bytes).length →
        exec (.mgmtAppend bytes) s = .next ((s.setMgmt { m with buffer := [] }).bump Cnt.HUB_MGMT_DISCARDED)) ∧
      (∀ bytes : List Byte, (m.buffer ++ bytes).length ≤ 4096 →
        exec (.mgmtAppend bytes) s = .next (s.setMgmt { m with
          buffer := m.buffer ++ bytes, since := if m.buffer = [] then s.boot.ticks else m.since })) ∧
      (s.ready = false → exec .mgmtSubmit s = .next (s.emit (.held 65))) ∧
      (s.ready = true → exec .mgmtSubmit s = .next
        ((s.setMgmt { m with buffer := [] }).submit (hdrOf 65 0 65 false none m.buffer) m.buffer 4080)) ∧
      exec .mgmtEmpty s = .next (s.setMgmt { m with buffer := [] }) ∧
      (m.receipts = [] → exec .mgmtReceiptRead s = .next (s.emit (.bytes 65 []))) ∧
      (∀ r rest, m.receipts = r :: rest → exec .mgmtReceiptRead s = .next
        (((s.setMgmt { m with receipts := rest }).emit (.receipt 65 r)).emit (.bytes 65 r.bytes))) ∧
      (m.notices = [] → exec .mgmtNoticeRead s = .next (s.emit (.bytes 65 []))) ∧
      (∀ n rest, m.notices = n :: rest → exec .mgmtNoticeRead s = .next
        (((s.setMgmt { m with notices := rest }).emit (.bytes 65 n.bytes)).flushLost)) ∧
      (∀ (tag : BitVec 16) bytes x, s.tagState 65 tag.toNat 4096 = (bytes, x) →
        exec (.mgmtGetReceipt tag) s = .next (x.emit (.bytes 65 bytes)))) ∧
    (s.boot.safe = true → s.keeperAwake = true →
      exec .mgmtStateRead s = .next (s.emit (.bytes 65 (s.stateWord 65 Status.hwFault.code 0 0)))) ∧
    ((s.boot.safe = false ∨ s.keeperAwake = false) →
      (s.mgmtAnswers = false → exec .mgmtStateRead s = .next (s.emit (.held 65))) ∧
      (s.mgmtAnswers = true → exec .mgmtStateRead s = .next
        (s.emit (.bytes 65 (s.stateWord 65 m.lastReject m.receipts.length m.notices.length))))) ∧
    Acts .mgmtAssemblyTimeout s (m.buffer ≠ [] ∧ m.since + 8000 ≤ s.boot.ticks)
      (fun t => t = (s.setMgmt { m with buffer := [] }).bump Cnt.HUB_MGMT_DISCARDED)

/-- The input paths' switches and timers (R17, R379, R380, R381, R382, R383, R402).
Rests on the model's choices of log entries 3, 16, 138, 139, 140, 141, 142. -/
def Obligations.InputPathCommandsAct : Prop :=
  ∀ (s u : State) (x : InputId) (n : Nat), n = x.code →
    (∀ (high trip : Bool), u = (s.bump (if high then Cnt.PWRIN_OV_EVENTS n else Cnt.PWRIN_UV_EVENTS n)).updPath n (fun p => { p with inWindow := false }) →
      (trip = true → u.flag (Reg.IN_STATE_TIMER_RUN n) = true → exec (.inputWindowExit x high trip) s = .next (u.trip n (u.timerEnd n) false)) ∧
      ((trip = false ∨ u.flag (Reg.IN_STATE_TIMER_RUN n) = false) →
        (u.pathState n = 5 ∨ u.kpUp = false → exec (.inputWindowExit x high trip) s = .next u) ∧
        (u.pathState n ≠ 5 → u.kpUp = true → exec (.inputWindowExit x high trip) s = .next (u.setPath n 0)))) ∧
    (∀ met : Bool, u = s.updPath n (fun p => { p with inWindow := true }) →
      (u.pathState n = 4 ∧ (u.path n).coolUntil ≤ u.boot.ticks ∧ u.kpUp = true →
        exec (.inputWindowEntry x met) s = .next (u.retryRamp n met)) ∧
      (¬ (u.pathState n = 4 ∧ (u.path n).coolUntil ≤ u.boot.ticks ∧ u.kpUp = true) →
        exec (.inputWindowEntry x met) s = .next (u.tryRamp n met))) ∧
    (∀ en, (s.enWriteOk n en = true → s.skUp = false →
        exec (.pathEnWrite x en) s = .next (s.emit (.writeStatus (Reg.IN_CFG n) .hwFault))) ∧
      (s.enWriteOk n en = true → s.skUp = true → exec (.pathEnWrite x en) s = .next ((s.writeEn n en).emit (.writeStatus (Reg.IN_CFG n) .ok))) ∧
      (s.enWriteOk n en = false → exec (.pathEnWrite x en) s = .next (s.emit (.writeStatus (Reg.IN_CFG n) .notPermitted)))) ∧
    Acts (.rampComplete x) s (s.pathState n = 1) (fun t => t = s.rampDone n) ∧
    Acts (.currentLimitEngage x) s (s.pathState n = 1 ∨ s.pathState n = 2) (fun t => ∀ v, v = s.setFlag (Reg.IN_STATE_LIMITING n) true →
      (s.pathState n = 1 ∨ v.flag (Reg.IN_STATE_TIMER_RUN n) = true → t = v) ∧
      (s.pathState n = 2 → v.flag (Reg.IN_STATE_TIMER_RUN n) = false →
        t = (v.updPath n (fun p => { p with faultTime := none })).setFlag (Reg.IN_STATE_TIMER_RUN n) true)) ∧
    (u = s.setFlag (Reg.IN_STATE_LIMITING n) false →
      (u.pathState n = 2 → exec (.currentLimitRelease x) s = .next ((u.setFlag (Reg.IN_STATE_TIMER_RUN n) false).markGood n)) ∧
      (u.pathState n ≠ 2 → exec (.currentLimitRelease x) s = .next u)) ∧
    (∀ on, Acts (.faultTimerExpiry x on) s (s.flag (Reg.IN_STATE_TIMER_RUN n) = true ∧ s.timerEnd n ≤ on) (fun t => t = s.trip n on false)) ∧
    (∀ on, Acts (.fastTrip x on) s (s.pathState n = 1 ∨ s.pathState n = 2) (fun t =>
      (s.flag (Reg.IN_STATE_TIMER_RUN n) = true → t = s.trip n on true) ∧ (s.flag (Reg.IN_STATE_TIMER_RUN n) = false → t = s.trip n 0 true))) ∧
    Acts (.reverseCurrent x) s (s.pathState n = 2 ∧ s.kpUp = true)
      (fun t => t = ((s.bump (Cnt.PWRIN_REVERSE_EVENTS n)).setPath n 3).setFlag (Reg.IN_STATE_REVERSE n) true) ∧
    (∀ met : Bool, Acts (.blockingRecovery x met) s (s.pathState n = 3 ∧ s.kpUp = true) (fun t =>
      (met = true → t = (s.setPath n 2).markGood n) ∧ (met = false → t = s.startRamp n false))) ∧
    Acts (.switchShort x) s (s.pathState n = 0) (fun t => t = (s.set (Reg.IN_STATE_LAST_FAULT n) 3).setPath n 5) ∧
    (∀ met, Acts (.coolDownEnd x met) s (s.pathState n = 4 ∧ (s.path n).coolUntil ≤ s.boot.ticks ∧ (s.path n).inWindow = true ∧ s.kpUp = true ∧
      s.keeperRuns = true) (fun t => t = s.retryRamp n met)) ∧
    Acts (.retryCountReset x) s (s.pathState n = 2 ∧ (s.path n).onSince + 8000 ≤ s.boot.ticks) (fun t => t = s.set (Reg.IN_STATE_RETRIES n) 0) ∧
    Acts (.latchRelease x) s (s.pathState n = 5) (fun t => t = s.setPath n 0)

/-- The supply, the keeper's sampling and the keeper–power link (R17, R18, R383, R384, R388, R389).
Rests on the model's choices of log entries 3, 15, 40, 142, 143. -/
def Obligations.SupplyCommandsAct : Prop :=
  ∀ (s u : State),
    (∀ good, Does (.busGoodChange good) s (fun t => t = (s.setPower { s.power with busGood := good }).syncPg)) ∧
    Acts .powerFailWarning s (s.pfw = false ∧ s.keeperRuns = true) (fun t => ∀ v w : State,
      v = forAll [0, 1, 2, 3] ((s.bump Cnt.PWRIN_PFW_EVENTS).setPfw true) (fun s n => s.emit (.vbus n false 0)) →
      w = { v with pd := { v.pd with ports := v.pd.ports.map (fun (e : Nat × PdPort) => (e.1, { e.2 with trans := none })) } } →
      (w.rt.running = true → t = w.storeEnergy.storeRound.autoThaw 1) ∧ (w.rt.running = false → t = w.storeEnergy.autoThaw 1)) ∧
    Acts .pfwRelease s (s.pfw = true ∧ (s.onFor10ms 0 = true ∨ s.onFor10ms 1 = true)) (fun t =>
      t = forAll [0, 1, 2, 3] (s.setPfw false) (fun s n =>
        if s.get (Reg.PD_PORT_TYPEC n) = 2 ∧ s.flag (Reg.PD_PORT_ROLE n) then s.emit (.vbus n true 5000) else s)) ∧
    Acts .undervoltageTrip s (s.keeperRuns = true) (fun t =>
      t = ((((s.setPower { s.power with busGood := false }).syncPg.bump Cnt.PWRIN_UV_TRIPS).setFlag Reg.SUPPLY_STATUS_UV_SEEN true).set
        Reg.PS_STATE_STATE 0).removeCore 11) ∧
    (∀ x, Acts (.keeperSample x) s (s.coreStopped = true ∧ s.keeperRuns = true) (fun t => t = (s.tick.powerSample x true).samplePower)) ∧
    (∀ (x : InputId) (hi : Nat), hi = energyMj (s.path x.code).energy / 2 ^ 32 → u = s.set (Reg.MEASURE_ENERGY_HI x.code) hi →
      exec (.energyLoRead x) s = .next (u.emit (.value (Reg.MEASURE_8 x.code) (s.word (Reg.MEASURE_8 x.code))))) ∧
    Acts .kpLinkDown s (s.kpUp = true) (fun t =>
      u = (((s.setFlag Reg.DIE_LINKS_KP_UP false).setFlag Reg.DIE_LINKS_KP_FAULT true).setFlag (Reg.MEASURE_STALE 0) true).setFlag
        (Reg.MEASURE_STALE 1) true →
      t = (u.set Reg.VOUT_FLAGS (4 + u.get Reg.VOUT_FLAGS % 4)).faultSeen 6 []) ∧
    Acts .kpLinkUp s (s.kpUp = false ∧ s.boot.released = true)
      (fun t => t = forAll [0, 1] (s.setFlag Reg.DIE_LINKS_KP_UP true) (fun s x => s.resumePath x))

/-- The ports of USB Power Delivery: attach, contracts and messages (R390 to R395, R400, R402). A message on a port not attached has no
effect; one that fails its CRC is counted; a repeat is answered with GoodCRC and counted; `v` is the state in which any other is acted on.
Rests on the model's choices of log entries 3, 102, 144, 146, 237. -/
def Obligations.PdContractCommandsAct : Prop :=
  ∀ (s u v : State) (p : Fin 5) (q : Fin 4) (m : PdMsg) (n : Nat) (x : PdPort), n = m.port.val → x = v.pdPort n →
    (∀ c, pdMsgOf c = some m →
      (s.attachedPd n = false → exec c s = .next s) ∧
      (s.attachedPd n = true → m.crcOk = false → exec c s = .next (s.bump (Cnt.PD_MSGS_DISCARDED n))) ∧
      (s.attachedPd n = true → m.crcOk = true → (s.pdPort n).lastId = some m.id.val →
        exec c s = .next ((s.pdSend n "GoodCRC").bump (Cnt.PD_MSGS_DISCARDED n)))) ∧
    (∀ src rp, (s.keeperRuns = false ∨ 2 ≤ s.typec p.val) → exec (.typecAttach p src rp) s = .next s) ∧
    (s.keeperRuns = true → s.typec p.val < 2 →
      (∀ (src : Bool) (rp : Fin 3), p.val = 4 → exec (.typecAttach p src rp) s = .next
        (((State.updPd ((s.set (Reg.PD_PORT_TYPEC 4) 3).set (Reg.PD_PORT_RP_SEEN 4) rp.val) 4 (fun x => { x with
          offerAt := s.boot.ticks })).pdEvent 4 .attach).activity 0x14)) ∧
      (∀ (src : Bool) (rp : Fin 3), p.val ≠ 4 → (src = false ∨ s.sourceEn p.val = false ∨ s.flag (Reg.PD_PORT_FAULT_OFF p.val) = true) →
        exec (.typecAttach p src rp) s = .next s) ∧
      (∀ rp : Fin 3, p.val ≠ 4 → s.sourceEn p.val = true → s.flag (Reg.PD_PORT_FAULT_OFF p.val) = false →
        u = ((s.set (Reg.PD_PORT_TYPEC p.val) 2).setFlag (Reg.PD_PORT_ROLE p.val) true).setFlag (Reg.USB_PORT_STATE_OVER_CURRENT p.val) false →
        exec (.typecAttach p true rp) s = .next
          ((((u.vbusOn p.val 5000).makeOffer p.val (s.offerMost p.val)).pdEvent p.val .attach).activity 0x14))) ∧
    Acts (.typecDetach p) s (s.typec p.val ≠ 0 ∧ s.typec p.val < 4) (fun t =>
      u = (s.leavePort p.val (if p.val < 4 ∧ s.sourceEn p.val = false then 5 else 0)).set (Reg.PD_PORT_RP_SEEN p.val) 0 →
      (p.val = 4 ∧ u.servicePowered = true → t = (State.pdEvent (State.dropCore ((u.setFlag (Reg.PD_PORT_SERVICE_POWERED 4) false).setFlag
        Reg.PIN_LEVELS_SVC_PWR_EN false)) p.val .detach).activity 0x14) ∧
      (p.val ≠ 4 ∨ u.servicePowered = false → t = (u.pdEvent p.val .detach).activity 0x14)) ∧
    Acts (.offerRequestTimeout q) s (s.isSource q.val = true ∧ (s.pdPort q.val).requested = false ∧ (s.pdPort q.val).offerAt + 8000 ≤ s.boot.ticks)
      (fun t => t = s.hardReset q.val true) ∧
    (∀ (mask value : Word) (w : Nat), w = (((s.word Reg.PD_BUDGET &&& ~~~mask) ||| (value &&& mask)).toNat) % 256 →
      (s.budgetOk w = true → s.skUp = true → exec (.pdBudgetWrite mask value) s = .next
        ((s.shadowWrite Reg.PD_BUDGET (mask &&& 0xFF) value).emit (.writeStatus Reg.PD_BUDGET .ok))) ∧
      (s.budgetOk w = true → s.skUp = false →
        exec (.pdBudgetWrite mask value) s = .next (s.emit (.writeStatus Reg.PD_BUDGET .hwFault))) ∧
      (s.budgetOk w = false → exec (.pdBudgetWrite mask value) s = .next (s.emit (.writeStatus Reg.PD_BUDGET .badParam)))) ∧
    (PdHeard s m → v = s.pdHeard m →
      (∀ (o : Fin 16) (cur : Nat),
        (v.isSource n = false → exec (.request m o cur) s = .next (v.pdSend n "Not_Supported")) ∧
        (v.isSource n = true →
          (x.offer[o.val - 1]? = none → exec (.request m o cur) s = .next (v.pdSend n "Reject")) ∧
          (∀ mv ma, x.offer[o.val - 1]? = some (mv, ma) →
            (o.val = 0 ∨ ma < cur * 10 → exec (.request m o cur) s = .next (v.pdSend n "Reject")) ∧
            (o.val ≠ 0 → cur * 10 ≤ ma → u = (v.updPd n (fun x => { x with requested := true, hardResets := 0 })).pdSend n "Accept" → ∀ now,
              now = (if u.flag (Reg.PD_PORT_CONTRACT n) then u.get (Reg.PD_PORT_VOLTAGE n) * 50 else 5000) →
              (mv = now → exec (.request m o cur) s = .next ((u.pdSend n "PS_RDY").makeContract n mv cur)) ∧
              (mv ≠ now → exec (.request m o cur) s = .next ((u.updPd n (fun x => { x with trans := some (mv, cur) })).vbusOn n mv)))))) ∧
      (∀ (amps : Nat) (dual : Bool), u = v.updPd n (fun x => { x with partner := amps, dualRole := dual, hardResets := 0 }) →
        (u.isSource n = true → exec (.sourceCapabilities m amps dual) s = .next u) ∧
        (u.isSource n = false →
          exec (.sourceCapabilities m amps dual) s = .next (u.pdSend n "Request" [(5000, 10 * u.sinkCurrent n)]))) ∧
      (n = 4 → exec (.getSourceCap m) s = .next (v.pdSend n "Not_Supported")) ∧
      (n ≠ 4 → ∀ l, (v.isSource n = true → l = x.offer) →
        (v.isSource n = false → v.flag (Reg.PD_PORT_OVERRIDE_EN n) = true → l = pdoList x.pdos) →
        (v.isSource n = false → v.flag (Reg.PD_PORT_OVERRIDE_EN n) = false → l = pdosFor (v.offerMost n)) →
        exec (.getSourceCap m) s = .next (v.pdSend n "Source_Capabilities" l)) ∧
      exec (.getSinkCap m) s = .next (v.pdSend n "Sink_Capabilities" [(5000, if n = 4 then 3000 else 100)]) ∧
      exec (.drSwap m) s = .next (v.pdSend n "Reject") ∧
      exec (.vconnSwap m) s = .next (v.pdSend n "Reject") ∧
      exec (.unlistedPdMessage m) s = .next (v.pdSend n "Not_Supported")) ∧
    (s.attachedPd n = false → m.crcOk = true → exec (.softReset m) s = .next (s.pdLayerReset n)) ∧
    (s.attachedPd n = false → m.crcOk = false → exec (.softReset m) s = .next s) ∧
    (s.attachedPd n = true → m.crcOk = false → exec (.softReset m) s = .next (s.bump (Cnt.PD_MSGS_DISCARDED n))) ∧
    (PdHeard (s.pdLayerReset n) m → u = (((s.pdLayerReset n).pdHeard m).bump (Cnt.PD_SOFT_RESETS n)).pdSend n "Accept" →
      (u.isSource n = true → exec (.softReset m) s = .next (u.makeOffer n (u.offerMost n))) ∧
      (u.isSource n = false → exec (.softReset m) s = .next u)) ∧
    Acts (.hardReset p) s (s.attachedPd p.val = true) (fun t => t = s.hardReset p.val false) ∧
    (∀ (e : PdExpiry) (y : PdPort), y = s.pdPort e.port.val →
      (s.attachedPd e.port.val = false → exec (.pdTimerExpiry e) s = .next s) ∧
      (s.attachedPd e.port.val = true →
        (e.timer = .goodCrc → y.retries < 2 → exec (.pdTimerExpiry e) s = .next (((s.bump (Cnt.PD_MSG_RETRIES e.port.val)).updPd e.port.val
          (fun x => { x with retries := x.retries + 1 })).pdSend e.port.val "Retry")) ∧
        (e.timer = .goodCrc → 2 ≤ y.retries → y.swap = none → exec (.pdTimerExpiry e) s = .next
          (((s.bump (Cnt.PD_SOFT_RESETS e.port.val)).pdLayerReset e.port.val).pdSend e.port.val "Soft_Reset")) ∧
        (e.timer ≠ .goodCrc ∨ (2 ≤ y.retries ∧ y.swap ≠ none) →
          exec (.pdTimerExpiry e) s = .next ((s.abortSwap e.port.val .timeout).hardReset e.port.val true))))

/-- Role swaps, VBUS supervision and the service port's supply (R395 to R399, R401, R402, R424); `v` is the state in which a message heard
is acted on.
Rests on the model's choices of log entries 144, 148. -/
def Obligations.PdSwapAndFaultCommandsAct : Prop :=
  ∀ (s v : State) (m : PdMsg) (p : Fin 5) (q : Fin 4) (n : Nat), n = m.port.val →
    (PdHeard s m → v = s.pdHeard m →
      (n = 4 → exec (.prSwap m) s = .next (v.pdSend n "Reject")) ∧
      (∀ w, n ≠ 4 → (v.pdPort n).swap = some w →
        (w.accepted = true → exec (.prSwap m) s = .next v) ∧
        (w.accepted = false → w.wasSource = true → exec (.prSwap m) s = .next (v.pdSend n "Wait")) ∧
        (w.accepted = false → w.wasSource = false → exec (.prSwap m) s = .next ((v.pdSend n "Accept").acceptSwap n true))) ∧
      (n ≠ 4 → (v.pdPort n).swap = none →
        (v.flag (Reg.PD_PORT_ACCEPT_PR_SWAP n) = true →
          ((v.isSource n = true ∧ v.flag (Reg.PD_PORT_CONTRACT n) = true) ∨ (v.isSource n = false ∧ v.sourceEn n = true ∧ 4500 ≤ v.offerMost n) →
            exec (.prSwap m) s = .next ((v.pdSend n "Accept").acceptSwap n false)) ∧
          (v.isSource n = false → v.sourceEn n = true → v.offerMost n < 4500 → exec (.prSwap m) s = .next (v.refusePdSwap n "Wait"))) ∧
        ((v.flag (Reg.PD_PORT_ACCEPT_PR_SWAP n) = false ∨ (v.isSource n = true ∧ v.flag (Reg.PD_PORT_CONTRACT n) = false) ∨
          (v.isSource n = false ∧ v.sourceEn n = false)) → exec (.prSwap m) s = .next (v.refusePdSwap n "Reject"))) ∧
      (∀ w, (v.pdPort n).swap = some w → (w.accepted = true → exec (.psRdy m) s = .next (v.swapDone n w)) ∧
        (w.accepted = false → exec (.psRdy m) s = .next v)) ∧
      ((v.pdPort n).swap = none → (v.isSource n = true → exec (.psRdy m) s = .next v) ∧
        (v.isSource n = false → exec (.psRdy m) s = .next (v.makeContract n 5000 (v.sinkCurrent n)))) ∧
      (∀ answer : Fin 3,
        ((∀ w, (v.pdPort n).swap = some w → w.byHub = false ∨ w.accepted = true) → exec (.swapAnswer m answer) s = .next v) ∧
        (∀ w, (v.pdPort n).swap = some w → w.byHub = true → w.accepted = false →
          (answer.val = 0 → exec (.swapAnswer m answer) s = .next (v.acceptSwap n true)) ∧
          (answer.val = 1 → exec (.swapAnswer m answer) s = .next
            (((v.bump (Cnt.PD_SWAPS_REFUSED n)).endPdSwap n .notPermitted).pdEvent n .swapRefused)) ∧
          (answer.val = 2 → exec (.swapAnswer m answer) s = .next
            (((v.bump (Cnt.PD_SWAPS_REFUSED n)).endPdSwap n .busyRetry).pdEvent n .swapRefused))))) ∧
    ((s.pdPort q.val).trans = none → exec (.vbusTransitionDone q) s = .next s ∧ exec (.vbusTransitionTimeout q) s = .next s) ∧
    (∀ mv cur, (s.pdPort q.val).trans = some (mv, cur) →
      exec (.vbusTransitionDone q) s = .next (((s.updPd q.val (fun x => { x with trans := none })).pdSend q.val "PS_RDY").makeContract q.val mv cur) ∧
      exec (.vbusTransitionTimeout q) s = .next ((s.bump (Cnt.PD_VBUS_FAULTS q.val)).hardReset q.val true)) ∧
    Acts (.vbusOvercurrent q) s (s.isSource q.val = true) (fun t => t = s.vbusTrip q.val) ∧
    Acts (.vbusOvervoltage q) s (s.isSource q.val = true) (fun t => t = s.vbusTrip q.val) ∧
    Acts (.vbusUndervoltage q) s (s.isSource q.val = true ∧ (s.pdPort q.val).trans = none) (fun t => t = s.hardReset q.val true) ∧
    Acts (.vbusBeforeEnable q) s (s.typec q.val ≤ 2 ∧ s.sourceEn q.val = true) (fun t => t = s.vbusTrip q.val) ∧
    Acts (.errorRecoveryEnd p) s (s.typec p.val = 4 ∧ (s.pdPort p.val).recoverAt ≤ s.boot.ticks) (fun t =>
      t = s.withAlloc p.val (fun u => u.set (Reg.PD_PORT_TYPEC p.val) (if p.val < 4 ∧ u.sourceEn p.val = false then 5 else 0))) ∧
    Acts .servicePowerEntry s (s.servicePowered = false ∧ s.anyOn = false ∧ s.powered .core = false ∧ s.typec 4 = 3 ∧ s.flag (Reg.PD_PORT_CONTRACT 4) = true ∧
      300 ≤ s.get (Reg.PD_PORT_CURRENT 4)) (fun t => t = s.serviceEnters) ∧
    Acts .serviceNoCaps s (s.servicePowered = false ∧ s.anyOn = false ∧ s.powered .core = false ∧ s.typec 4 = 3 ∧ s.flag (Reg.PD_PORT_CONTRACT 4) = false ∧
      (s.pdPort 4).partner = 0 ∧ s.get (Reg.PD_PORT_RP_SEEN 4) = 2 ∧ (s.pdPort 4).offerAt + 8000 ≤ s.boot.ticks) (fun t => t = s.serviceEnters)

/-- The domains and their supplies (R5, R406 to R410, R413).
Dormant and its wakes (R411 to R417).
Rests on the model's choices of log entries 3, 5, 48, 151, 152, 153, 194. -/
def Obligations.DomainAndPowerStateCommandsAct : Prop :=
  (∀ (s u : State) (d : Domain),
    (s.ps.raise = [] → exec .railEnable s = .next s) ∧
    (∀ e rest, s.ps.raise = e :: rest → exec .railEnable s = .next ((s.setPs { s.ps with raise := rest }).raiseEnable e)) ∧
    (∀ mask value : Word,
      (s.domainReqOk mask.toNat value.toNat = false → exec (.domainReqWrite mask value) s = .next
        (s.emit (.writeStatus Reg.DOMAIN_REQ .notPermitted))) ∧
      (s.domainReqOk mask.toNat value.toNat = true → s.skUp = false → exec (.domainReqWrite mask value) s = .next
        (s.emit (.writeStatus Reg.DOMAIN_REQ .hwFault))) ∧
      (s.domainReqOk mask.toNat value.toNat = true → s.skUp = true → exec (.domainReqWrite mask value) s = .next
        (((s.shadowWrite Reg.DOMAIN_REQ (mask &&& 0xFE) value).activity 0x15).emit (.writeStatus Reg.DOMAIN_REQ .ok)))) ∧
    (∀ pipes, (s.enabled d = false ∨ s.powered d = true ∨ (d ≠ .core ∧ s.powered .core = false)) →
      exec (.domainSupplyGood d pipes) s = .next s) ∧
    (∀ pipes, s.enabled .core = true → s.powered .core = false →
      u = ((s.setPowered .core true).set Reg.BOOT_STATE_STAGE 2).startTimer →
      ∀ v : State, v = u.setBoot { u.boot with slot := u.get Reg.BOOT_STATE_ACTIVE_SLOT, failed := [] } →
      exec (.domainSupplyGood .core pipes) s = .next (v.notice 0x80C0 [(u.word Reg.DOMAIN_ON).toNat - 2, (u.word Reg.DOMAIN_ON).toNat])) ∧
    (∀ (pipes : BitVec 12) (old : Nat), d ≠ .core → s.enabled d = true → s.powered d = false → s.powered .core = true →
      old = (s.word Reg.DOMAIN_ON).toNat →
      exec (.domainSupplyGood d pipes) s = .next (((s.setPowered d true).tellDomains old).domainStarts d pipes.toNat)) ∧
    Acts (.domainSupplyTimeout d) s (s.enabled d = true ∧ s.powered d = false) (fun t => t = s.domainFaults d) ∧
    Acts (.domainSupplyLoss d) s (s.powered d = true) (fun t => t = s.domainFaults d)) ∧
  (∀ (s u : State) (also : BitVec 6),
    Acts .idleExpiry s (s.ready = true ∧ s.psState = 0 ∧ s.get Reg.PS_STATE_IDLE_LEFT = 0 ∧ s.flag Reg.DORMANT_CFG_EN = true)
      (fun t => t = s.setPs { s.ps with attempt := true }) ∧
    Acts .go s (s.powered .core = true ∧ s.psState < 2) (fun t => t = s.writeGo.1.emit (.writeStatus Reg.DORMANT_CFG s.writeGo.2)) ∧
    Acts .dormantEntry s (s.psState = 1 ∧ s.ps.entered + 8 ≤ s.round) (fun t =>
      (∀ c, s.refuser = some c → t = s.activity c) ∧ (s.refuser = none → t = s.enterDormant)) ∧
    (∀ m : MgmtMatch, Acts (.wakeMgmt m also) s (m.dynamic = true ∨ m.address.val = s.get Reg.MGMT_CFG_MGMT_ADDR) (fun t =>
      u = s.wake 1 m.address.val also.toNat →
      (s.psState = 2 → u.psState = 3 → m.dynamic = true → t = u.emit (.refused 65 .busyRetry)) ∧
      (s.psState = 2 → u.psState = 3 → m.dynamic = false → t = u.emit (.held 65)) ∧
      (s.psState ≠ 2 ∨ u.psState ≠ 3 → t = u))) ∧
    Does (.wakeService also) s (fun t => t = s.wake 2 4 also.toNat) ∧
    (∀ p : Fin 4, Does (.wakePortAttach p also) s (fun t => t = s.wake 3 p.val also.toNat)) ∧
    (∀ p : Fin 4, Acts (.wakeRemote p also) s (s.portStateUsb p.val = 4 ∨ (2 ≤ s.psState ∧ s.ps.suspended.contains p.val = true))
      (fun t => t = s.wake 4 p.val also.toNat)) ∧
    (∀ x : InputId, Does (.wakeSupply x also) s (fun t => t = s.wake 5 x.code also.toNat)) ∧
    (∀ w : Nat, w = s.get Reg.WAKE_CFG_WAKE_AFTER → Acts (.wakeTimer also) s (w ≠ 0 ∧ s.psState = 2 ∧ s.ps.dormantAt + w * 7920 ≤ s.boot.ticks)
      (fun t => t = s.wake 6 0 also.toNat)) ∧
    (∀ seconds : Word, Acts (.wakeReady seconds) s (s.psState = 3 ∧ s.powered .core = true) (fun t => ∀ v w : State,
      u = (s.set Reg.PS_STATE_STATE 0).setWord Reg.LAST_DORMANT_S seconds →
      v = (u.setRt { RoundSt.init with
        storedRound := u.rt.storedRound, storedEpoch := u.rt.storedEpoch, storedAge := u.rt.storedAge,
        floor := u.rt.storedRound + 16000, epochFloor := u.rt.epochFloor }).startTimer.enterFree →
      w = (v.setPs { v.ps with attempt := false, suspended := [] }).restartIdle.queueDomains →
      t = w.notice 0x80C3 [(v.word Reg.LAST_WAKE).toNat, (v.word Reg.LAST_DORMANT_S).toNat])))

/-- Faults that remove CORE, their ends, SAFE, the reset pin and the die links (R16, R18, R79, R473, R475, R483, R485, R487, R488).
Rests on the model's choices of log entries 161, 170, 172. -/
def Obligations.ResetCommandsAct : Prop :=
  ∀ (s u : State),
    Acts .refclkAbsent s (s.powered .core = true ∨ s.enabled .core = true) (fun t => t = s.removeCore 9) ∧
    Acts .dieOvertemp s (s.powered .core = true) (fun t => t = s.removeCore 10) ∧
    (∀ (c : Instr) (code : Nat), (c = .refclkReturn ∧ code = 9) ∨ (c = .overtempRecovery ∧ code = 10) ∨
        (c = .coreFaultCycle ∧ code = 8 ∧ s.boot.since + 800 ≤ s.boot.ticks) →
      (s.boot.waits.contains code = false ∨ s.boot.safe = true ∨ s.boot.held = true → exec c s = .next s) ∧
      (s.boot.waits.contains code = true → s.boot.safe = false → s.boot.held = false →
        u = s.setBoot { s.boot with waits := s.boot.waits.erase code } →
        (u.boot.waits ≠ [] → exec c s = .next u) ∧ (u.boot.waits = [] → exec c s = .next (u.bigFault 2 (16 + code))))) ∧
    (s.boot.ticks < s.boot.since + 800 → exec .coreFaultCycle s = .next s) ∧
    Acts .safeEnd s (s.boot.safe = true ∧ s.boot.safeSince + 28800000 ≤ s.boot.ticks)
      (fun t => t = ((s.setBoot { s.boot with safe := false }).set Reg.RESET_CAUSE_FAULT 12).bigFault 1 28) ∧
    (u = s.setFlag Reg.PIN_LEVELS_RESET_N false →
      (u.boot.held = true → exec .resetNAssert s = .next u) ∧
      (u.boot.held = false → ∀ v, v = u.setBoot { u.boot with held := true, due := none } →
        (v.boot.keep = true → exec .resetNAssert s = .next ((v.debugEnds false).dropCore.set Reg.PS_STATE_STATE 0)) ∧
        (v.boot.keep = false → exec .resetNAssert s = .next v))) ∧
    (u = s.setFlag Reg.PIN_LEVELS_RESET_N true →
      (u.boot.held = false → exec .resetNRelease s = .next u) ∧
      (u.boot.held = true → ∀ v, v = u.setBoot { u.boot with held := false } →
        (v.boot.keep = true → exec .resetNRelease s = .next (v.hubReset 2)) ∧ (v.boot.keep = false → exec .resetNRelease s = .next v))) ∧
    Acts .skLinkDown s (s.skUp = true) (fun t => u = (s.setFlag Reg.DIE_LINKS_SK_UP false).setFlag Reg.DIE_LINKS_SK_FAULT true →
      t = (u.setBoot { u.boot with skDownSince := u.boot.ticks }).faultSeen 5 []) ∧
    Acts .skLinkUp s (s.skUp = false ∧ s.boot.released = true) (fun t => u = s.setFlag Reg.DIE_LINKS_SK_UP true →
      t = u.setReg { u.reg with entries := u.reg.entries.map (fun (e : Nat × Entry) =>
        (e.1, { e.2 with lastSent := e.2.lastSent.map (fun _ => 8000) })) }) ∧
    Acts .skLinkTimeout s (s.skUp = false ∧ s.boot.released = true ∧ s.boot.skDownSince + 8000 ≤ s.boot.ticks) (fun t => t = s.bigFault 1 21)

/-- Start-up (R236, R443, R445, R461, R462, R473, R474, R476, R478 to R482, R488).
Rests on the model's choices of log entries 2, 3, 9, 11, 168, 173, 174, 176, 177. -/
def Obligations.StartUpCommandsAct : Prop :=
  ∀ (s u : State),
    Acts .powerOn s (s.boot.keep = false) (fun t => t = (s.loseVolatile.setCause 3 1).setBoot { s.loseVolatile.bootAfterLoss with keep := true }) ∧
    Acts .keepLoss s (s.boot.keep = true) (fun t => ∀ v : State,
      v = forAll [0, 1, 2, 3] (forAll [0, 1] s.cutWrites.loseVolatile (fun s x => s.emit (.gate x false))) (fun s n => s.emit (.vbus n false 0)) →
      ∀ w : State, w = v.setSec { v.sec with zeroising := v.sec.zeroising.map (fun _ => 512) } → t = w.setBoot v.bootAfterLoss) ∧
    (∀ n : Fin 4, (s.sourceEn n.val = false → s.restTypec n.val = 5) ∧ (s.sourceEn n.val = true → s.restTypec n.val = 0)) ∧
    (∀ lost : List ErrRegion, Acts (.keeperRelease lost) s (s.boot.keep = true ∧ s.boot.released = false ∧ s.boot.held = false) (fun t =>
      ∀ v : State,
      v = (forAll lost (s.setBoot { s.boot with released := true }) (fun s r => s.checkDual r)).setFlag (Reg.PD_PORT_DEAD_BATTERY 4) false →
      u = forAll [0, 1, 2, 3] v (fun s n => s.set (Reg.PD_PORT_TYPEC n) (s.restTypec n)) →
      (u.get Reg.RESET_CAUSE_KIND = 3 → t = u.setWord Reg.POWER_CYCLES (u.word Reg.POWER_CYCLES + 1)) ∧
      (u.get Reg.RESET_CAUSE_KIND ≠ 3 → t = u))) ∧
    (∀ (slot : Fin 2) (image : ImageFacts), Acts (.imageVerified slot image) s (s.reading slot.val = true) (fun t =>
      (image.answers = false → t = s.slotFails slot.val 1) ∧
      (image.answers = true → imageHeaderOk image = false → t = s.slotFails slot.val 2) ∧
      (image.answers = true → imageHeaderOk image = true → image.signer ≠ .vendor → t = s.slotFails slot.val 3) ∧
      (image.answers = true → imageHeaderOk image = true → image.signer = .vendor → image.digestOk = false → t = s.slotFails slot.val 4) ∧
      (image.answers = true → imageHeaderOk image = true → image.signer = .vendor → image.digestOk = true → t = s.imageStarts slot.val image)) ∧
      Acts (.bootFlashTimeout slot) s (s.reading slot.val = true) (fun t => t = s.slotFails slot.val 1)) ∧
    Acts .trialEnd s (s.flag Reg.BOOT_STATE_TRIAL = true ∧ s.postmasterRuns = true ∧ s.boot.trialSince + 80000 ≤ s.boot.ticks)
      (fun t => t = s.setFlag Reg.BOOT_STATE_TRIAL false) ∧
    (∀ tests : KeeperTests, Acts (.keeperSelfTestDone tests) s (s.boot.released = true ∧ s.boot.tested = false) (fun t =>
      u = (s.setBoot { s.boot with tested := true }).setFlag Reg.SELF_TEST_KEEPER_OK (tests == .passed) →
      (tests = .passed → t = ((u.setFlag Reg.SEC_STATE_CRYPTO_ERROR false).syncApproved).tryCore) ∧
      (tests = .entropy → t = (u.cryptoError 0).tryCore) ∧
      (tests = .answers → t = (u.cryptoError 1).tryCore))) ∧
    (∀ passed : Bool, Acts (.imageReloadDone passed) s (s.boot.reloading = true ∧ s.powered .core = true) (fun t =>
      u = s.setBoot { s.boot with reloading := false } → (passed = true → t = u) ∧ (passed = false → t = u.bigFault 1 20)))

/-- The keeper's own events, the memories and the recorder's second (R431, R444, R445, R454 to R458, R460 to R465, R470).
Rests on the model's choices of log entries 3, 40, 162, 163, 164, 165, 166, 169, 170. -/
def Obligations.KeeperAndMemoryCommandsAct : Prop :=
  ∀ (s u : State) (m : MemNo) (a : Fin (2 ^ 27)) (n : Nat), n = m.val →
    Acts .lockoutEnd s (s.flag Reg.SEC_STATE_LOCKOUT = true ∧ s.sec.lockUntil ≤ s.boot.ticks)
      (fun t => t = s.setFlag Reg.SEC_STATE_LOCKOUT false) ∧
    Acts .entropyHealthFail s (s.keeperRuns = true) (fun t => t = s.cryptoError 0) ∧
    (∀ pair : Bool, Acts (.zeroisationComplete pair) s (s.mayErase = true ∧ s.keeperRuns = true) (fun t => ∀ v w x : State,
      u = s.bump Reg.ZEROISE_COUNT →
      v = ((u.finishWaiters 0x0603 0 .ok (leBytes 4 (u.get Reg.ZEROISE_COUNT_COUNT))).autoThaw 2).eraseAll →
      w = v.setSec { v.sec with generation := v.sec.generation + 1, zeroising := none } →
      (pair = true → x = (w.setAttr 1 1 1 0x20).hubReset 4) → (pair = false → x = ((w.cryptoError 2).setAttr 1 0 0 0).hubReset 4) →
      t = x.setSec { x.sec with zeroised := true })) ∧
    (s.memOn n = false → exec (.correctableError m a) s = .next s ∧ (∀ c o, exec (.scrubVisit m a c o) s = .next s) ∧
      exec (.scrubLate m) s = .next s ∧ (∀ r, exec (.uncorrectableError m a r) s = .next s)) ∧
    (n = 7 → u = (s.bump (Cnt.MEMORY_CORRECTED n)).setMem { s.mem with fixedMram := s.mem.fixedMram + 1 } → s.countCorrected n = u) ∧
    (n ≠ 7 → u = (s.bump (Cnt.MEMORY_CORRECTED n)).setMem { s.mem with fixedCore := s.mem.fixedCore + 1 } → s.countCorrected n = u) ∧
    (s.memOn n = true → u = s.countCorrected n →
      (n = 2 ∨ s.mem.revisit.contains (n, a.val) = true → exec (.correctableError m a) s = .next u) ∧
      (n ≠ 2 → s.mem.revisit.contains (n, a.val) = false →
        (16 ≤ (s.mem.revisit.filter (fun e => e.1 == n)).length → exec (.correctableError m a) s = .next
          (u.bump (Cnt.MEMORY_REVISIT_OVERFLOW n))) ∧
        ((s.mem.revisit.filter (fun e => e.1 == n)).length < 16 → exec (.correctableError m a) s = .next
          ((u.setMem { u.mem with revisit := s.mem.revisit ++ [(n, a.val)] }).syncRevisit n)))) ∧
    (∀ corrected overtaken, n = 2 → exec (.scrubVisit m a corrected overtaken) s = .next s ∧ exec (.scrubLate m) s = .next s) ∧
    (n ≠ 2 → s.memOn n = true →
      (s.mem.revisit.contains (n, a.val) = true → u = (s.setMem { s.mem with revisit := s.mem.revisit.erase (n, a.val) }).syncRevisit n) →
      (s.mem.revisit.contains (n, a.val) = false → u = s.passOn n a.val) →
      (∀ o, exec (.scrubVisit m a false o) s = .next (u.setMem { u.mem with written := u.mem.written.erase (n, a.val) })) ∧
      (∀ v, v = u.countCorrected n →
        (v.mem.written.contains (n, a.val) = true → exec (.scrubVisit m a true true) s = .next (v.sticky n a.val)) ∧
        (v.mem.written.contains (n, a.val) = false → exec (.scrubVisit m a true true) s = .next v)) ∧
      (∀ v, v = (u.countCorrected n).bump (Cnt.MEMORY_SCRUB_WRITES n) →
        (v.mem.written.contains (n, a.val) = true → exec (.scrubVisit m a true false) s = .next (v.sticky n a.val)) ∧
        (v.mem.written.contains (n, a.val) = false → exec (.scrubVisit m a true false) s = .next
          (v.setMem { v.mem with written := (n, a.val) :: v.mem.written })))) ∧
    (n ≠ 2 → s.memOn n = true →
      (s.passLate n = true → exec (.scrubLate m) s = .next
        ((s.bump (Cnt.MEMORY_SCRUB_LATE n)).setMem { s.mem with late := n :: s.mem.late })) ∧
      (s.passLate n = false → exec (.scrubLate m) s = .next s)) ∧
    (∀ r : ErrRegion, ErrRegion_mem r ≠ n → exec (.uncorrectableError m a r) s = .next s) ∧
    (∀ r : ErrRegion, s.memOn n = true → ErrRegion_mem r = n →
      u = (s.bump (Cnt.MEMORY_UNCORRECTABLE n)).set (Reg.MEM_STATE_LAST_ADDR n) a.val →
      ∀ v, v = (u.memoryError n a.val (if bothLost r then 2 else 1) (ErrRegion_code r) (u.regionMore r)).regionLost r →
        (n = 0 → exec (.uncorrectableError m a r) s = .next (v.cellFails a.val)) ∧ (n ≠ 0 → exec (.uncorrectableError m a r) s = .next v)) ∧
    (∀ sample : RecorderSample, Acts (.recorderUpdate sample) s (s.boot.keep = true ∧ s.boot.released = true) (fun t =>
      ∀ (v w : State) (f : RecData → Nat → RecData), v = s.setSeconds ((s.recorder.seconds + 1) % 2 ^ 40) →
      (∀ d h c, c = v.histSource h → (c = 0 → f d h = d) ∧ (v.sourceValue sample s.coreStopped c = none → f d h = d) ∧
        (c ≠ 0 → ∀ x, v.sourceValue sample s.coreStopped c = some x → f d h = v.updateHist d h x)) →
      w = v.changeRecord (fun d => (List.range 64).foldl f { d with seconds := d.seconds + 1 }) →
      (s.coreStopped = false → t = w.newSecond) ∧
      (s.coreStopped = true → t = (w.set Reg.DIE_TEMP_KEEPER sample.keeperTemp.toNat).newSecond))) ∧
    Acts .recorderAutoThaw s (s.recorder.frozenAt + 480000 ≤ s.boot.ticks) (fun t => t = s.autoThaw 0) ∧
    (∀ hi : Nat, hi = s.recorder.seconds / 2 ^ 32 → exec .operatingLoRead s = .next
      ((s.set Reg.OPERATING_HI_VALUE hi).emit (.value Reg.OPERATING_LO (s.word Reg.OPERATING_LO))))

/-- Register writes and clearing reads from the paths (R10, R11, R287, R351).
Rests on the model's choices of log entries 3, 36, 37, 38, 40. -/
def Obligations.RegisterAccessActs : Prop :=
  ∀ (s : State) (address mask value : Word) (a : Nat), a = address.toNat →
    Acts (.registerWrite .feature address mask value) s (s.ready = true ∧ s.get Reg.BOOT_STATE_STAGE = 4) (fun t =>
      ∀ u st, s.writeFeature a mask value = (u, st) → t = u.emit (.writeStatus a st)) ∧
    Acts (.registerWrite .pf0 address mask value) s (s.powered .hostio = true ∧ a % 4 = 0) (fun t => t = s.pf0Write a mask.toNat value.toNat) ∧
    Acts (.registerWrite .pf1 address mask value) s (s.powered .hostio = true ∧ a % 4 = 0 ∧ 0x1000 ≤ a ∧ a < 0x1800) (fun t =>
      ∀ old, old = (mget s.media.pf1 a).getD 0 →
      t = { s with media := { s.media with pf1 := mput s.media.pf1 a ((old &&& ~~~mask) ||| (value &&& mask)) } }) ∧
    Acts (.rcRead address) s (addressOk a = true) (fun t => t = (s.afterRead a).emit (.value a (s.readWord a))) ∧
    (∀ v, v = s.readWord Reg.NOW_LO → exec .nowLoRead s = .next ((s.afterRead Reg.NOW_LO).emit (.value Reg.NOW_LO v)))

/-- In RAMP or ON the fast-trip level pulls the gate down at once, is counted in FAST_TRIPS and leaves LAST_FAULT 2, and the path then
latches or cools as after any trip (R382); in any other state nothing happens. -/
def Obligations.FastTripPullsTheGate : Prop :=
  ∀ (s v : State) (x : InputId) (tOn : Nat), s.regsWf →
    v = (s.bump (Cnt.PWRIN_FAST_TRIPS x.code)).set (Reg.IN_STATE_LAST_FAULT x.code) 2 →
    (s.pathState x.code = 1 ∨ s.pathState x.code = 2 →
      ∃ t, exec (.fastTrip x tOn) s = .next t ∧ .gate x.code false ∈ t.out.take (t.out.length - s.out.length) ∧
        (v.word (Cnt.PWRIN_FAST_TRIPS x.code)).toNat = min 0xFFFFFFFF ((s.word (Cnt.PWRIN_FAST_TRIPS x.code)).toNat + 1) ∧
        v.get (Reg.IN_STATE_LAST_FAULT x.code) = 2 ∧
        (v.get (Reg.IN_CFG_RETRY_MAX x.code) ≠ 15 ∧ v.get (Reg.IN_CFG_RETRY_MAX x.code) ≤ v.get (Reg.IN_STATE_RETRIES x.code) →
          t = (v.bump (Cnt.PWRIN_LATCHES x.code)).setPath x.code 5) ∧
        (¬ (v.get (Reg.IN_CFG_RETRY_MAX x.code) ≠ 15 ∧ v.get (Reg.IN_CFG_RETRY_MAX x.code) ≤ v.get (Reg.IN_STATE_RETRIES x.code)) →
          ∃ ms at_, t = ((v.setPath x.code 4).set (Reg.IN_STATE_COOL_MS x.code) ms).updPath x.code (fun p => { p with coolUntil := at_ }))) ∧
    (¬ (s.pathState x.code = 1 ∨ s.pathState x.code = 2) → exec (.fastTrip x tOn) s = .next s)

/-- Eight SEAL_INVALID results within 8,000 rounds start a lockout of 80,000 rounds; in it a well-formed letter and a well-formed
token end in NOT_PERMITTED with LETTER_REFUSED of cause LOCKOUT (body 0), and nothing else.
Rests on the model's choices of log entries 11, 158, 159. -/
def Obligations.LockoutRefusesSeals : Prop :=
  (∀ (s : State) (check : Nat), s.regsWf → 8 ≤ (recentTicks s.sec.invalid s.boot.ticks 8000).length →
    (s.sealInvalid check).flag Reg.SEC_STATE_LOCKOUT = true ∧ (s.sealInvalid check).sec.lockUntil = s.boot.ticks + 80000) ∧
  (∀ (s u : State) (h : CmdHdr) (k : Nat) (l : Letter), Opens (.keyLetter h l) s k u → u.flag Reg.SEC_STATE_LOCKOUT = true →
    letterForm h.paramLen u.round l = true → (letterHead l).slotWritable = true →
    ((letterHead l).ownerClaim = true → (h.path.val = 64 ∨ h.path.val = 65) ∧ u.get (Reg.SLOT_ATTR_STATE 2) = 0) →
    exec (.keyLetter h l) s = .next ((u.notice 0x80D1 [0]).finish k .notPermitted [])) ∧
  (∀ (s u : State) (h : CmdHdr) (k : Nat) (l : Token), Opens (.debugUnlock h l) s k u → u.flag Reg.SEC_STATE_LOCKOUT = true →
    h.paramLen = l.bytes.length → tokenRelocks l = true ∨ tokenForm l = true →
    exec (.debugUnlock h l) s = .next ((u.notice 0x80D1 [0]).finish k .notPermitted []))

/-- A word that needs correction again at the first visit after its write-back is sticky: counted in STICKY, and then a BUFFER cell is
retired, an MRAM word moves to a spare, and of any other memory the hub sends MEMORY_ERROR. -/
def Obligations.StickyWords : Prop :=
  ∀ (s v w : State) (m : MemNo) (a : Fin (2 ^ 27)), m.val ≠ 2 → s.memOn m.val = true → (m.val, a.val) ∈ s.mem.written →
    (s.mem.revisit.contains (m.val, a.val) = true →
      v = (s.setMem { s.mem with revisit := s.mem.revisit.erase (m.val, a.val) }).syncRevisit m.val) →
    (s.mem.revisit.contains (m.val, a.val) = false → v = s.passOn m.val a.val) →
    (∀ (x : State) (overtaken : Bool), (overtaken = true → x = v.countCorrected m.val) →
      (overtaken = false → x = (v.countCorrected m.val).bump (Cnt.MEMORY_SCRUB_WRITES m.val)) →
      w = (x.bump (Cnt.MEMORY_STICKY m.val)).setMem { x.mem with written := x.mem.written.erase (m.val, a.val) } →
      (m.val = 0 → exec (.scrubVisit m a true overtaken) s = .next w.retireCell) ∧
      (m.val = 7 → exec (.scrubVisit m a true overtaken) s = .next w.useSpare) ∧
      (m.val ≠ 0 → m.val ≠ 7 → exec (.scrubVisit m a true overtaken) s = .next (w.memoryError m.val a.val 0 0 [])))
end

