-- ==== Sys2Proof/Laws/Maps.lean ====
section
/-!
SUPPORT. The laws of the sparse maps: what a key reads as after an entry is put or taken out, and that both keep the canonical
form.
-/
namespace Sys2Proof
namespace Machine

variable {α : Type}

theorem mget_mput_same (m : List (Nat × α)) (a : Nat) (v : α) : mget (mput m a v) a = some v := by
  induction m with
  | nil => simp [mput, mget]
  | cons e m ih =>
    obtain ⟨k, w⟩ := e
    simp only [mput]
    split_ifs with h1 h2
    · simp [mget]
    · simp [mget]
    · simp [mget, Ne.symm h2, ih]

theorem mget_mput_other (m : List (Nat × α)) {a b : Nat} (v : α) (h : b ≠ a) : mget (mput m a v) b = mget m b := by
  induction m with
  | nil => simp [mput, mget, Ne.symm h]
  | cons e m ih =>
    obtain ⟨k, w⟩ := e
    simp only [mput]
    split_ifs with h1 h2
    · simp [mget, Ne.symm h]
    · subst h2; simp [mget, Ne.symm h]
    · simp only [mget]; split_ifs <;> simp [ih]

theorem mget_mdel_other (m : List (Nat × α)) {a b : Nat} (h : b ≠ a) : mget (mdel m a) b = mget m b := by
  induction m with
  | nil => rfl
  | cons e m ih =>
    obtain ⟨k, w⟩ := e
    simp only [mdel]
    split_ifs with h1
    · subst h1; simp [mget, Ne.symm h]
    · simp only [mget]; split_ifs <;> simp [ih]

/-- The canonical form says that every key of the tail stands above the first. -/
theorem mwf_cons {k : Nat} {v : α} {m : List (Nat × α)} : mwf ((k, v) :: m) = true ↔ (∀ e ∈ m, k < e.1) ∧ mwf m = true := by
  induction m generalizing k v with
  | nil => simp [mwf]
  | cons e m ih =>
    obtain ⟨l, w⟩ := e
    simp only [mwf, Bool.and_eq_true, decide_eq_true_eq, List.mem_cons]
    constructor
    · rintro ⟨hkl, hm⟩
      refine ⟨?_, hm⟩
      rintro x (rfl | hx)
      · exact hkl
      · exact lt_trans hkl ((ih.mp hm).1 x hx)
    · rintro ⟨h, hm⟩
      exact ⟨h (l, w) (Or.inl rfl), hm⟩

theorem mget_none_of_below {m : List (Nat × α)} {a : Nat} (h : ∀ e ∈ m, a < e.1) : mget m a = none := by
  induction m with
  | nil => rfl
  | cons e m ih =>
    obtain ⟨k, w⟩ := e
    have hk : a < k := h (k, w) (by simp)
    simp only [mget, Nat.ne_of_gt hk, if_false]
    exact ih (fun e he => h e (by simp [he]))

theorem mget_mdel_same {m : List (Nat × α)} (h : mwf m = true) (a : Nat) : mget (mdel m a) a = none := by
  induction m with
  | nil => rfl
  | cons e m ih =>
    obtain ⟨k, w⟩ := e
    obtain ⟨hb, hm⟩ := mwf_cons.mp h
    simp only [mdel]
    split_ifs with h1
    · subst h1; exact mget_none_of_below hb
    · simp [mget, h1, ih hm]

theorem mem_mput {m : List (Nat × α)} {a : Nat} {v : α} {e : Nat × α} (h : e ∈ mput m a v) : e = (a, v) ∨ e ∈ m := by
  induction m with
  | nil => simpa [mput] using h
  | cons x m ih =>
    obtain ⟨k, w⟩ := x
    simp only [mput] at h
    split_ifs at h with h1 h2
    · simpa using h
    · rcases List.mem_cons.mp h with h | h
      · exact Or.inl h
      · exact Or.inr (by simp [h])
    · rcases List.mem_cons.mp h with h | h
      · exact Or.inr (by simp [h])
      · rcases ih h with h | h
        · exact Or.inl h
        · exact Or.inr (by simp [h])

theorem mem_mdel {m : List (Nat × α)} {a : Nat} {e : Nat × α} (h : e ∈ mdel m a) : e ∈ m := by
  induction m with
  | nil => simp [mdel] at h
  | cons x m ih =>
    obtain ⟨k, w⟩ := x
    simp only [mdel] at h
    split_ifs at h with h1
    · simp [h]
    · rcases List.mem_cons.mp h with h | h
      · simp [h]
      · simp [ih h]

theorem mwf_mput {m : List (Nat × α)} (h : mwf m = true) (a : Nat) (v : α) : mwf (mput m a v) = true := by
  induction m with
  | nil => rfl
  | cons x m ih =>
    obtain ⟨k, w⟩ := x
    obtain ⟨hb, hm⟩ := mwf_cons.mp h
    simp only [mput]
    split_ifs with h1 h2
    · simp only [mwf, h1, decide_true, h, Bool.and_self]
    · subst h2; exact mwf_cons.mpr ⟨hb, hm⟩
    · refine mwf_cons.mpr ⟨?_, ih hm⟩
      intro e he
      rcases mem_mput he with rfl | he
      · simp only; omega
      · exact hb e he

theorem mwf_mdel {m : List (Nat × α)} (h : mwf m = true) (a : Nat) : mwf (mdel m a) = true := by
  induction m with
  | nil => rfl
  | cons x m ih =>
    obtain ⟨k, w⟩ := x
    obtain ⟨hb, hm⟩ := mwf_cons.mp h
    simp only [mdel]
    split_ifs with h1
    · exact hm
    · exact mwf_cons.mpr ⟨fun e he => hb e (mem_mdel he), ih hm⟩

end Machine
end Sys2Proof
end

