-- ==== Sys2Proof/Laws/Ops.lean ====
section
/-!
SUPPORT. What the named operations over the register file do: what a register and a field read as after a write, and the
canonical form.
-/
namespace Sys2Proof
namespace Machine

/-- A register reads as it was written; in the canonical form only, since a word at its reset value has no entry. -/
theorem State.word_setWord_same {s : State} (h : s.regsWf) (a : Nat) (w : Word) : (s.setWord a w).word a = w := by
  unfold State.setWord State.word
  by_cases hw : w = resetWord a
  · simp [hw, mget_mdel_same h.1]
  · simp [hw, mget_mput_same]

/-- A write leaves every other register alone. -/
theorem State.word_setWord_other (s : State) {a b : Nat} (w : Word) (h : b ≠ a) : (s.setWord a w).word b = s.word b := by
  unfold State.setWord State.word
  by_cases hw : w = resetWord a
  · simp [hw, mget_mdel_other _ h]
  · simp [hw, mget_mput_other _ _ h]

theorem State.regsWf_setWord {s : State} (h : s.regsWf) (a : Nat) (w : Word) : (s.setWord a w).regsWf := by
  unfold State.setWord State.regsWf
  by_cases hw : w = resetWord a
  · simp only [hw, if_true]
    exact ⟨mwf_mdel h.1 a, fun e he => h.2 e (mem_mdel he)⟩
  · simp only [hw, if_false]
    refine ⟨mwf_mput h.1 a w, fun e he => ?_⟩
    rcases mem_mput he with rfl | he
    · exact hw
    · exact h.2 e he

theorem bitsOf_setBits (n l w v : Nat) : bitsOf (setBits n l w v) l w = v % 2 ^ w := by
  unfold bitsOf setBits
  have h1 : n % 2 ^ l < 2 ^ l := Nat.mod_lt _ (by positivity)
  have h2 : (n / 2 ^ (l + w) * 2 ^ (l + w) + v % 2 ^ w * 2 ^ l + n % 2 ^ l) / 2 ^ l = n / 2 ^ (l + w) * 2 ^ w + v % 2 ^ w := by
    have : n / 2 ^ (l + w) * 2 ^ (l + w) + v % 2 ^ w * 2 ^ l + n % 2 ^ l
        = (n / 2 ^ (l + w) * 2 ^ w + v % 2 ^ w) * 2 ^ l + n % 2 ^ l := by rw [pow_add]; ring
    rw [this, Nat.add_comm, Nat.add_mul_div_right _ _ (by positivity), Nat.div_eq_of_lt h1, Nat.zero_add]
  rw [h2, Nat.add_comm, Nat.add_mul_mod_self_right, Nat.mod_mod]

theorem setBits_lt {n l w v : Nat} (hn : n < 2 ^ 32) (hw : l + w ≤ 32) : setBits n l w v < 2 ^ 32 := by
  unfold setBits
  have h1 : n % 2 ^ l < 2 ^ l := Nat.mod_lt _ (by positivity)
  have h2 : v % 2 ^ w < 2 ^ w := Nat.mod_lt _ (by positivity)
  have h3 : v % 2 ^ w * 2 ^ l + n % 2 ^ l < 2 ^ (l + w) := by
    have : v % 2 ^ w * 2 ^ l + 2 ^ l ≤ 2 ^ w * 2 ^ l := by
      rw [← Nat.succ_mul]; exact Nat.mul_le_mul_right _ h2
    rw [pow_add, Nat.mul_comm (2 ^ l)]; omega
  obtain ⟨k, hk⟩ : ∃ k, 32 = l + w + k := ⟨32 - (l + w), by omega⟩
  rw [hk] at hn ⊢
  have h4 : n / 2 ^ (l + w) < 2 ^ k := by
    rw [Nat.div_lt_iff_lt_mul (by positivity), ← pow_add, Nat.add_comm k]; exact hn
  have h5 : (n / 2 ^ (l + w) + 1) * 2 ^ (l + w) ≤ 2 ^ k * 2 ^ (l + w) := Nat.mul_le_mul_right _ h4
  rw [pow_add _ (l + w) k, Nat.mul_comm (2 ^ (l + w))]
  rw [Nat.succ_mul] at h5
  omega

/-- Bits that lie apart from the written ones keep their value. -/
theorem bitsOf_setBits_apart {n l w v l' w' : Nat} (h : l' + w' ≤ l ∨ l + w ≤ l') :
    bitsOf (setBits n l w v) l' w' = bitsOf n l' w' := by
  apply Nat.eq_of_testBit_eq
  intro i
  unfold bitsOf
  simp only [Nat.testBit_mod_two_pow, Nat.testBit_div_two_pow]
  by_cases hi : i < w'
  · simp only [hi, decide_true, Bool.true_and]
    unfold setBits
    have hl : n % 2 ^ l < 2 ^ l := Nat.mod_lt _ (by positivity)
    have hv : v % 2 ^ w < 2 ^ w := Nat.mod_lt _ (by positivity)
    have e1 : n / 2 ^ (l + w) * 2 ^ (l + w) + v % 2 ^ w * 2 ^ l + n % 2 ^ l
        = 2 ^ l * (2 ^ w * (n / 2 ^ (l + w)) + v % 2 ^ w) + n % 2 ^ l := by rw [pow_add]; ring
    rw [e1, Nat.testBit_two_pow_mul_add _ hl]
    rcases h with h | h
    · have h1 : l' + i < l := by omega
      simp [Nat.testBit_mod_two_pow, Nat.add_comm i l', h1]
    · have h1 : ¬ l' + i < l := by omega
      rw [Nat.testBit_two_pow_mul_add _ hv]
      have h2 : ¬ l' + i - l < w := by omega
      simp only [Nat.add_comm i l', h1, if_false, h2, Nat.testBit_div_two_pow]
      congr 1; omega
  · simp [hi]

/-- A field reads as the low bits of what it was given. -/
theorem State.get_set_same {s : State} (h : s.regsWf) (f : Fld) (v : Nat) (hw : f.lsb + f.width ≤ 32) :
    (s.set f v).get f = v % 2 ^ f.width := by
  unfold State.get State.set
  rw [State.word_setWord_same h, BitVec.toNat_ofNat, Nat.mod_eq_of_lt (setBits_lt (s.word f.addr).isLt hw), bitsOf_setBits]

/-- A field of another register stands. -/
theorem State.get_set_other (s : State) {f g : Fld} (v : Nat) (h : g.addr ≠ f.addr) : (s.set f v).get g = s.get g := by
  unfold State.get State.set
  rw [State.word_setWord_other _ _ h]

/-- A field of the same register that lies apart stands. -/
theorem State.get_set_apart {s : State} (hs : s.regsWf) {f g : Fld} (v : Nat) (ha : g.addr = f.addr) (hw : f.lsb + f.width ≤ 32)
    (h : g.lsb + g.width ≤ f.lsb ∨ f.lsb + f.width ≤ g.lsb) : (s.set f v).get g = s.get g := by
  unfold State.get State.set
  rw [ha, State.word_setWord_same hs, BitVec.toNat_ofNat, Nat.mod_eq_of_lt (setBits_lt (s.word f.addr).isLt hw),
    bitsOf_setBits_apart h]

theorem State.word_set_other (s : State) {f : Fld} {a : Nat} (v : Nat) (h : a ≠ f.addr) : (s.set f v).word a = s.word a :=
  State.word_setWord_other _ _ h

theorem State.flag_setFlag_same {s : State} (h : s.regsWf) (f : Fld) (b : Bool) (hw : f.lsb + f.width ≤ 32) (h1 : f.width = 1) :
    (s.setFlag f b).flag f = b := by
  unfold State.flag State.setFlag
  rw [State.get_set_same h f _ hw, h1]; cases b <;> rfl

/-- A counter after a count (R81). -/
theorem State.word_bump_same {s : State} (h : s.regsWf) (c n : Nat) :
    ((s.bump c n).word c).toNat = min 0xFFFFFFFF ((s.word c).toNat + n) := by
  unfold State.bump
  rw [State.word_setWord_same h, BitVec.toNat_ofNat]
  exact Nat.mod_eq_of_lt (by omega)

theorem State.word_bump_other (s : State) {a c : Nat} (n : Nat) (h : a ≠ c) : (s.bump c n).word a = s.word a :=
  State.word_setWord_other _ _ h

end Machine
end Sys2Proof
end

