-- ==== Sys2Proof/Laws/State.lean ====
section
/-!
SUPPORT. One law per field for the operations that every meaning is made of: a register write changes no field beside the
register file, and what is put out changes no field beside the outputs.
-/
namespace Sys2Proof
namespace Machine

@[simp] theorem State.setWord_pending (s : State) (a : Nat) (w : Word) : (s.setWord a w).pending = s.pending := rfl
@[simp] theorem State.setWord_shadow (s : State) (a : Nat) (w : Word) : (s.setWord a w).shadow = s.shadow := rfl
@[simp] theorem State.setWord_out (s : State) (a : Nat) (w : Word) : (s.setWord a w).out = s.out := rfl
@[simp] theorem State.setWord_seed (s : State) (a : Nat) (w : Word) : (s.setWord a w).seed = s.seed := rfl
@[simp] theorem State.setWord_rt (s : State) (a : Nat) (w : Word) : (s.setWord a w).rt = s.rt := rfl
@[simp] theorem State.setWord_cmd (s : State) (a : Nat) (w : Word) : (s.setWord a w).cmd = s.cmd := rfl
@[simp] theorem State.setWord_link (s : State) (a : Nat) (w : Word) : (s.setWord a w).link = s.link := rfl
@[simp] theorem State.setWord_tun (s : State) (a : Nat) (w : Word) : (s.setWord a w).tun = s.tun := rfl
@[simp] theorem State.setWord_sw (s : State) (a : Nat) (w : Word) : (s.setWord a w).sw = s.sw := rfl
@[simp] theorem State.setWord_eng (s : State) (a : Nat) (w : Word) : (s.setWord a w).eng = s.eng := rfl
@[simp] theorem State.setWord_reg (s : State) (a : Nat) (w : Word) : (s.setWord a w).reg = s.reg := rfl
@[simp] theorem State.setWord_bridge (s : State) (a : Nat) (w : Word) : (s.setWord a w).bridge = s.bridge := rfl
@[simp] theorem State.setWord_media (s : State) (a : Nat) (w : Word) : (s.setWord a w).media = s.media := rfl
@[simp] theorem State.setWord_usb (s : State) (a : Nat) (w : Word) : (s.setWord a w).usb = s.usb := rfl
@[simp] theorem State.setWord_power (s : State) (a : Nat) (w : Word) : (s.setWord a w).power = s.power := rfl
@[simp] theorem State.setWord_pd (s : State) (a : Nat) (w : Word) : (s.setWord a w).pd = s.pd := rfl
@[simp] theorem State.setWord_ps (s : State) (a : Nat) (w : Word) : (s.setWord a w).ps = s.ps := rfl
@[simp] theorem State.setWord_sec (s : State) (a : Nat) (w : Word) : (s.setWord a w).sec = s.sec := rfl
@[simp] theorem State.setWord_mem (s : State) (a : Nat) (w : Word) : (s.setWord a w).mem = s.mem := rfl
@[simp] theorem State.setWord_recorder (s : State) (a : Nat) (w : Word) : (s.setWord a w).recorder = s.recorder := rfl
@[simp] theorem State.setWord_boot (s : State) (a : Nat) (w : Word) : (s.setWord a w).boot = s.boot := rfl

@[simp] theorem State.set_pending (s : State) (f : Fld) (v : Nat) : (s.set f v).pending = s.pending := rfl
@[simp] theorem State.set_shadow (s : State) (f : Fld) (v : Nat) : (s.set f v).shadow = s.shadow := rfl
@[simp] theorem State.set_out (s : State) (f : Fld) (v : Nat) : (s.set f v).out = s.out := rfl
@[simp] theorem State.set_seed (s : State) (f : Fld) (v : Nat) : (s.set f v).seed = s.seed := rfl
@[simp] theorem State.set_rt (s : State) (f : Fld) (v : Nat) : (s.set f v).rt = s.rt := rfl
@[simp] theorem State.set_cmd (s : State) (f : Fld) (v : Nat) : (s.set f v).cmd = s.cmd := rfl
@[simp] theorem State.set_link (s : State) (f : Fld) (v : Nat) : (s.set f v).link = s.link := rfl
@[simp] theorem State.set_tun (s : State) (f : Fld) (v : Nat) : (s.set f v).tun = s.tun := rfl
@[simp] theorem State.set_sw (s : State) (f : Fld) (v : Nat) : (s.set f v).sw = s.sw := rfl
@[simp] theorem State.set_eng (s : State) (f : Fld) (v : Nat) : (s.set f v).eng = s.eng := rfl
@[simp] theorem State.set_reg (s : State) (f : Fld) (v : Nat) : (s.set f v).reg = s.reg := rfl
@[simp] theorem State.set_bridge (s : State) (f : Fld) (v : Nat) : (s.set f v).bridge = s.bridge := rfl
@[simp] theorem State.set_media (s : State) (f : Fld) (v : Nat) : (s.set f v).media = s.media := rfl
@[simp] theorem State.set_usb (s : State) (f : Fld) (v : Nat) : (s.set f v).usb = s.usb := rfl
@[simp] theorem State.set_power (s : State) (f : Fld) (v : Nat) : (s.set f v).power = s.power := rfl
@[simp] theorem State.set_pd (s : State) (f : Fld) (v : Nat) : (s.set f v).pd = s.pd := rfl
@[simp] theorem State.set_ps (s : State) (f : Fld) (v : Nat) : (s.set f v).ps = s.ps := rfl
@[simp] theorem State.set_sec (s : State) (f : Fld) (v : Nat) : (s.set f v).sec = s.sec := rfl
@[simp] theorem State.set_mem (s : State) (f : Fld) (v : Nat) : (s.set f v).mem = s.mem := rfl
@[simp] theorem State.set_recorder (s : State) (f : Fld) (v : Nat) : (s.set f v).recorder = s.recorder := rfl
@[simp] theorem State.set_boot (s : State) (f : Fld) (v : Nat) : (s.set f v).boot = s.boot := rfl

@[simp] theorem State.setFlag_pending (s : State) (f : Fld) (b : Bool) : (s.setFlag f b).pending = s.pending := rfl
@[simp] theorem State.setFlag_shadow (s : State) (f : Fld) (b : Bool) : (s.setFlag f b).shadow = s.shadow := rfl
@[simp] theorem State.setFlag_out (s : State) (f : Fld) (b : Bool) : (s.setFlag f b).out = s.out := rfl
@[simp] theorem State.setFlag_seed (s : State) (f : Fld) (b : Bool) : (s.setFlag f b).seed = s.seed := rfl
@[simp] theorem State.setFlag_rt (s : State) (f : Fld) (b : Bool) : (s.setFlag f b).rt = s.rt := rfl
@[simp] theorem State.setFlag_cmd (s : State) (f : Fld) (b : Bool) : (s.setFlag f b).cmd = s.cmd := rfl
@[simp] theorem State.setFlag_link (s : State) (f : Fld) (b : Bool) : (s.setFlag f b).link = s.link := rfl
@[simp] theorem State.setFlag_tun (s : State) (f : Fld) (b : Bool) : (s.setFlag f b).tun = s.tun := rfl
@[simp] theorem State.setFlag_sw (s : State) (f : Fld) (b : Bool) : (s.setFlag f b).sw = s.sw := rfl
@[simp] theorem State.setFlag_eng (s : State) (f : Fld) (b : Bool) : (s.setFlag f b).eng = s.eng := rfl
@[simp] theorem State.setFlag_reg (s : State) (f : Fld) (b : Bool) : (s.setFlag f b).reg = s.reg := rfl
@[simp] theorem State.setFlag_bridge (s : State) (f : Fld) (b : Bool) : (s.setFlag f b).bridge = s.bridge := rfl
@[simp] theorem State.setFlag_media (s : State) (f : Fld) (b : Bool) : (s.setFlag f b).media = s.media := rfl
@[simp] theorem State.setFlag_usb (s : State) (f : Fld) (b : Bool) : (s.setFlag f b).usb = s.usb := rfl
@[simp] theorem State.setFlag_power (s : State) (f : Fld) (b : Bool) : (s.setFlag f b).power = s.power := rfl
@[simp] theorem State.setFlag_pd (s : State) (f : Fld) (b : Bool) : (s.setFlag f b).pd = s.pd := rfl
@[simp] theorem State.setFlag_ps (s : State) (f : Fld) (b : Bool) : (s.setFlag f b).ps = s.ps := rfl
@[simp] theorem State.setFlag_sec (s : State) (f : Fld) (b : Bool) : (s.setFlag f b).sec = s.sec := rfl
@[simp] theorem State.setFlag_mem (s : State) (f : Fld) (b : Bool) : (s.setFlag f b).mem = s.mem := rfl
@[simp] theorem State.setFlag_recorder (s : State) (f : Fld) (b : Bool) : (s.setFlag f b).recorder = s.recorder := rfl
@[simp] theorem State.setFlag_boot (s : State) (f : Fld) (b : Bool) : (s.setFlag f b).boot = s.boot := rfl

@[simp] theorem State.setS_pending (s : State) (f : Fld) (v : Int) : (s.setS f v).pending = s.pending := rfl
@[simp] theorem State.setS_shadow (s : State) (f : Fld) (v : Int) : (s.setS f v).shadow = s.shadow := rfl
@[simp] theorem State.setS_out (s : State) (f : Fld) (v : Int) : (s.setS f v).out = s.out := rfl
@[simp] theorem State.setS_seed (s : State) (f : Fld) (v : Int) : (s.setS f v).seed = s.seed := rfl
@[simp] theorem State.setS_rt (s : State) (f : Fld) (v : Int) : (s.setS f v).rt = s.rt := rfl
@[simp] theorem State.setS_cmd (s : State) (f : Fld) (v : Int) : (s.setS f v).cmd = s.cmd := rfl
@[simp] theorem State.setS_link (s : State) (f : Fld) (v : Int) : (s.setS f v).link = s.link := rfl
@[simp] theorem State.setS_tun (s : State) (f : Fld) (v : Int) : (s.setS f v).tun = s.tun := rfl
@[simp] theorem State.setS_sw (s : State) (f : Fld) (v : Int) : (s.setS f v).sw = s.sw := rfl
@[simp] theorem State.setS_eng (s : State) (f : Fld) (v : Int) : (s.setS f v).eng = s.eng := rfl
@[simp] theorem State.setS_reg (s : State) (f : Fld) (v : Int) : (s.setS f v).reg = s.reg := rfl
@[simp] theorem State.setS_bridge (s : State) (f : Fld) (v : Int) : (s.setS f v).bridge = s.bridge := rfl
@[simp] theorem State.setS_media (s : State) (f : Fld) (v : Int) : (s.setS f v).media = s.media := rfl
@[simp] theorem State.setS_usb (s : State) (f : Fld) (v : Int) : (s.setS f v).usb = s.usb := rfl
@[simp] theorem State.setS_power (s : State) (f : Fld) (v : Int) : (s.setS f v).power = s.power := rfl
@[simp] theorem State.setS_pd (s : State) (f : Fld) (v : Int) : (s.setS f v).pd = s.pd := rfl
@[simp] theorem State.setS_ps (s : State) (f : Fld) (v : Int) : (s.setS f v).ps = s.ps := rfl
@[simp] theorem State.setS_sec (s : State) (f : Fld) (v : Int) : (s.setS f v).sec = s.sec := rfl
@[simp] theorem State.setS_mem (s : State) (f : Fld) (v : Int) : (s.setS f v).mem = s.mem := rfl
@[simp] theorem State.setS_recorder (s : State) (f : Fld) (v : Int) : (s.setS f v).recorder = s.recorder := rfl
@[simp] theorem State.setS_boot (s : State) (f : Fld) (v : Int) : (s.setS f v).boot = s.boot := rfl

@[simp] theorem State.bump_pending (s : State) (c n : Nat) : (s.bump c n).pending = s.pending := rfl
@[simp] theorem State.bump_shadow (s : State) (c n : Nat) : (s.bump c n).shadow = s.shadow := rfl
@[simp] theorem State.bump_out (s : State) (c n : Nat) : (s.bump c n).out = s.out := rfl
@[simp] theorem State.bump_seed (s : State) (c n : Nat) : (s.bump c n).seed = s.seed := rfl
@[simp] theorem State.bump_rt (s : State) (c n : Nat) : (s.bump c n).rt = s.rt := rfl
@[simp] theorem State.bump_cmd (s : State) (c n : Nat) : (s.bump c n).cmd = s.cmd := rfl
@[simp] theorem State.bump_link (s : State) (c n : Nat) : (s.bump c n).link = s.link := rfl
@[simp] theorem State.bump_tun (s : State) (c n : Nat) : (s.bump c n).tun = s.tun := rfl
@[simp] theorem State.bump_sw (s : State) (c n : Nat) : (s.bump c n).sw = s.sw := rfl
@[simp] theorem State.bump_eng (s : State) (c n : Nat) : (s.bump c n).eng = s.eng := rfl
@[simp] theorem State.bump_reg (s : State) (c n : Nat) : (s.bump c n).reg = s.reg := rfl
@[simp] theorem State.bump_bridge (s : State) (c n : Nat) : (s.bump c n).bridge = s.bridge := rfl
@[simp] theorem State.bump_media (s : State) (c n : Nat) : (s.bump c n).media = s.media := rfl
@[simp] theorem State.bump_usb (s : State) (c n : Nat) : (s.bump c n).usb = s.usb := rfl
@[simp] theorem State.bump_power (s : State) (c n : Nat) : (s.bump c n).power = s.power := rfl
@[simp] theorem State.bump_pd (s : State) (c n : Nat) : (s.bump c n).pd = s.pd := rfl
@[simp] theorem State.bump_ps (s : State) (c n : Nat) : (s.bump c n).ps = s.ps := rfl
@[simp] theorem State.bump_sec (s : State) (c n : Nat) : (s.bump c n).sec = s.sec := rfl
@[simp] theorem State.bump_mem (s : State) (c n : Nat) : (s.bump c n).mem = s.mem := rfl
@[simp] theorem State.bump_recorder (s : State) (c n : Nat) : (s.bump c n).recorder = s.recorder := rfl
@[simp] theorem State.bump_boot (s : State) (c n : Nat) : (s.bump c n).boot = s.boot := rfl

@[simp] theorem State.setPowered_pending (s : State) (d : Domain) (b : Bool) : (s.setPowered d b).pending = s.pending := rfl
@[simp] theorem State.setPowered_shadow (s : State) (d : Domain) (b : Bool) : (s.setPowered d b).shadow = s.shadow := rfl
@[simp] theorem State.setPowered_out (s : State) (d : Domain) (b : Bool) : (s.setPowered d b).out = s.out := rfl
@[simp] theorem State.setPowered_seed (s : State) (d : Domain) (b : Bool) : (s.setPowered d b).seed = s.seed := rfl
@[simp] theorem State.setPowered_rt (s : State) (d : Domain) (b : Bool) : (s.setPowered d b).rt = s.rt := rfl
@[simp] theorem State.setPowered_cmd (s : State) (d : Domain) (b : Bool) : (s.setPowered d b).cmd = s.cmd := rfl
@[simp] theorem State.setPowered_link (s : State) (d : Domain) (b : Bool) : (s.setPowered d b).link = s.link := rfl
@[simp] theorem State.setPowered_tun (s : State) (d : Domain) (b : Bool) : (s.setPowered d b).tun = s.tun := rfl
@[simp] theorem State.setPowered_sw (s : State) (d : Domain) (b : Bool) : (s.setPowered d b).sw = s.sw := rfl
@[simp] theorem State.setPowered_eng (s : State) (d : Domain) (b : Bool) : (s.setPowered d b).eng = s.eng := rfl
@[simp] theorem State.setPowered_reg (s : State) (d : Domain) (b : Bool) : (s.setPowered d b).reg = s.reg := rfl
@[simp] theorem State.setPowered_bridge (s : State) (d : Domain) (b : Bool) : (s.setPowered d b).bridge = s.bridge := rfl
@[simp] theorem State.setPowered_media (s : State) (d : Domain) (b : Bool) : (s.setPowered d b).media = s.media := rfl
@[simp] theorem State.setPowered_usb (s : State) (d : Domain) (b : Bool) : (s.setPowered d b).usb = s.usb := rfl
@[simp] theorem State.setPowered_power (s : State) (d : Domain) (b : Bool) : (s.setPowered d b).power = s.power := rfl
@[simp] theorem State.setPowered_pd (s : State) (d : Domain) (b : Bool) : (s.setPowered d b).pd = s.pd := rfl
@[simp] theorem State.setPowered_ps (s : State) (d : Domain) (b : Bool) : (s.setPowered d b).ps = s.ps := rfl
@[simp] theorem State.setPowered_sec (s : State) (d : Domain) (b : Bool) : (s.setPowered d b).sec = s.sec := rfl
@[simp] theorem State.setPowered_mem (s : State) (d : Domain) (b : Bool) : (s.setPowered d b).mem = s.mem := rfl
@[simp] theorem State.setPowered_recorder (s : State) (d : Domain) (b : Bool) : (s.setPowered d b).recorder = s.recorder := rfl
@[simp] theorem State.setPowered_boot (s : State) (d : Domain) (b : Bool) : (s.setPowered d b).boot = s.boot := rfl

@[simp] theorem State.emit_regs (s : State) (o : Out) : (s.emit o).regs = s.regs := rfl
@[simp] theorem State.emit_pending (s : State) (o : Out) : (s.emit o).pending = s.pending := rfl
@[simp] theorem State.emit_shadow (s : State) (o : Out) : (s.emit o).shadow = s.shadow := rfl
@[simp] theorem State.emit_seed (s : State) (o : Out) : (s.emit o).seed = s.seed := rfl
@[simp] theorem State.emit_rt (s : State) (o : Out) : (s.emit o).rt = s.rt := rfl
@[simp] theorem State.emit_cmd (s : State) (o : Out) : (s.emit o).cmd = s.cmd := rfl
@[simp] theorem State.emit_link (s : State) (o : Out) : (s.emit o).link = s.link := rfl
@[simp] theorem State.emit_tun (s : State) (o : Out) : (s.emit o).tun = s.tun := rfl
@[simp] theorem State.emit_sw (s : State) (o : Out) : (s.emit o).sw = s.sw := rfl
@[simp] theorem State.emit_eng (s : State) (o : Out) : (s.emit o).eng = s.eng := rfl
@[simp] theorem State.emit_reg (s : State) (o : Out) : (s.emit o).reg = s.reg := rfl
@[simp] theorem State.emit_bridge (s : State) (o : Out) : (s.emit o).bridge = s.bridge := rfl
@[simp] theorem State.emit_media (s : State) (o : Out) : (s.emit o).media = s.media := rfl
@[simp] theorem State.emit_usb (s : State) (o : Out) : (s.emit o).usb = s.usb := rfl
@[simp] theorem State.emit_power (s : State) (o : Out) : (s.emit o).power = s.power := rfl
@[simp] theorem State.emit_pd (s : State) (o : Out) : (s.emit o).pd = s.pd := rfl
@[simp] theorem State.emit_ps (s : State) (o : Out) : (s.emit o).ps = s.ps := rfl
@[simp] theorem State.emit_sec (s : State) (o : Out) : (s.emit o).sec = s.sec := rfl
@[simp] theorem State.emit_mem (s : State) (o : Out) : (s.emit o).mem = s.mem := rfl
@[simp] theorem State.emit_recorder (s : State) (o : Out) : (s.emit o).recorder = s.recorder := rfl
@[simp] theorem State.emit_boot (s : State) (o : Out) : (s.emit o).boot = s.boot := rfl
@[simp] theorem State.emit_out (s : State) (o : Out) : (s.emit o).out = o :: s.out := rfl
@[simp] theorem State.emit_word (s : State) (o : Out) (a : Nat) : (s.emit o).word a = s.word a := rfl
@[simp] theorem State.emit_get (s : State) (o : Out) (f : Fld) : (s.emit o).get f = s.get f := rfl
@[simp] theorem State.emit_flag (s : State) (o : Out) (f : Fld) : (s.emit o).flag f = s.flag f := rfl
@[simp] theorem State.when_true (s : State) (f : State → State) : s.when true f = f s := rfl
@[simp] theorem State.when_false (s : State) (f : State → State) : s.when false f = s := rfl

end Machine
end Sys2Proof
end

