-- ==== Sys2Proof/Laws/Book.lean ====
section
/-!
SUPPORT. What the frame of the opcodes does with a packet that passes every check, and with one that does not (R343 to R350).
-/
namespace Sys2Proof
namespace Machine

/-- A command that opens comes to the execution of its body, on the entry it was given. -/
theorem State.runOpcode_opens {s u : State} {h : CmdHdr} {op k : Nat} {params : List Byte} (o : OpensWith s h op params k u)
    (fits : Bool) (body : Nat → State → State × CmdEnd) :
    ∃ v : State, u = v.updEntry k (fun e => { e with started := true }) ∧ s.runOpcode h op params fits body = v.execute k h op fits body := by
  obtain ⟨v, he, hb, hh, hu⟩ := o.here
  refine ⟨v, hu, ?_⟩
  simp [State.runOpcode, o.ready, o.lengthOk, o.fieldsOk, o.linkUp, o.new, o.room, he, State.start, hb, hh]

/-- A body that is done ends the command with its status and data. -/
theorem State.runOpcode_done {s u t : State} {h : CmdHdr} {op k : Nat} {params : List Byte} {fits : Bool} {body : Nat → State → State × CmdEnd}
    {st : Status} {data : List Byte} (o : OpensWith s h op params k u) (hf : fits = true) (hb : body k u = (t, .done st data)) :
    s.runOpcode h op params fits body = t.finish k st data := by
  obtain ⟨v, hu, hr⟩ := s.runOpcode_opens o fits body
  have hp := o.permitted
  rw [hr]; subst hu hf
  simp [State.execute, o.paramsOk, hb, hp]

/-- A body that waits leaves the entry RUNNING on its object. -/
theorem State.runOpcode_waits {s u t : State} {h : CmdHdr} {op k : Nat} {params : List Byte} {fits : Bool} {body : Nat → State → State × CmdEnd}
    {n : Nat} (o : OpensWith s h op params k u) (hf : fits = true) (hb : body k u = (t, .waits n)) :
    s.runOpcode h op params fits body = t.updEntry k (fun e => { e with wait := n }) := by
  obtain ⟨v, hu, hr⟩ := s.runOpcode_opens o fits body
  have hp := o.permitted
  rw [hr]; subst hu hf
  simp [State.execute, o.paramsOk, hb, hp]

/-- Parameters that do not fit the opcode end the command with BAD_LENGTH (R343). -/
theorem State.runOpcode_badLength {s u : State} {h : CmdHdr} {op k : Nat} {params : List Byte} {body : Nat → State → State × CmdEnd}
    (o : OpensWith s h op params k u) : s.runOpcode h op params false body = u.finish k .badLength [] := by
  obtain ⟨v, hu, hr⟩ := s.runOpcode_opens o false body
  rw [hr]; subst hu
  simp [State.execute]

/-- Where the hub takes no packets yet, the packet stays where it is (R349). -/
theorem State.runOpcode_held {s : State} (h : CmdHdr) (op : Nat) (params : List Byte) (fits : Bool) (body : Nat → State → State × CmdEnd)
    (hr : s.ready = false) : s.runOpcode h op params fits body = s.emit (.held h.path.val) := by
  simp [State.runOpcode, hr]

/-- A packet whose sequence number names a DONE entry has that entry's receipt issued again (R346). -/
theorem State.runOpcode_reissue {s : State} {h : CmdHdr} {op k : Nat} {params : List Byte} (fits : Bool) (body : Nat → State → State × CmdEnd)
    (hr : s.ready = true) (hl : hdrLengthOk h = true) (hf : hdrFieldsOk h = true) (hs : s.skUp = true)
    (ha : s.admission h op = .reissue k) :
    s.runOpcode h op params fits body = (s.bump Cnt.HUB_REPEATS_REISSUED).deliver k true := by
  simp [State.runOpcode, hr, hl, hf, hs, ha]

end Machine
end Sys2Proof
end

