-- ==== Sys2Proof/Laws/Within.lean ====
section
/-!
SUPPORT. How a frame is put together: `Within` is reflexive and transitive, every record update of a part that no register
shows keeps it, and the four operations that write what a part list guards (registers, outputs, free values) do so as it says.
-/
namespace Sys2Proof
namespace Machine

/-- Every part of the first list stands in the second. -/
def sub (a b : List Part) : Bool := a.all (fun p => b.contains p)

theorem Within.refl {P : List Part} (s : State) : Within P s s :=
  ⟨rfl, id, List.suffix_refl _, Nat.le_refl _, fun p _ => by cases p <;> rfl⟩

theorem Part.same_trans {s t u : State} (p : Part) (h : p.same s t) (g : p.same t u) : p.same s u := by
  cases p <;> exact Eq.trans g h

/-- A state reached by an operation of narrower frame. -/
theorem Within.step {P Q : List Part} {r s t : State} (g : Within Q s t) (hs : sub Q P = true) (h : Within P r s) :
    Within P r t where
  queue := g.queue.trans h.queue
  form := fun f => g.form (h.form f)
  outGrows := h.outGrows.trans g.outGrows
  seedGrows := h.seedGrows.trans g.seedGrows
  frame := fun p hp => Part.same_trans p (h.frame p hp) (g.frame p (fun hq => hp (by
    have := List.all_eq_true.mp hs p hq
    simpa using this)))

theorem Within.weaken {P Q : List Part} {s t : State} (g : Within Q s t) (hs : sub Q P = true) : Within P s t :=
  Within.step g hs (Within.refl s)

theorem State.setWord_within (s : State) (a : Nat) (w : Word) : Within [.regs] s (s.setWord a w) where
  queue := rfl
  form := fun h => State.regsWf_setWord h a w
  outGrows := List.suffix_refl _
  seedGrows := Nat.le_refl _
  frame := fun p hp => by cases p <;> first | rfl | exact absurd (List.mem_singleton.mpr rfl) hp

theorem State.emit_within (s : State) (o : Out) : Within [.out] s (s.emit o) where
  queue := rfl
  form := id
  outGrows := List.suffix_cons _ _
  seedGrows := Nat.le_refl _
  frame := fun p hp => by cases p <;> first | rfl | exact absurd (List.mem_singleton.mpr rfl) hp

theorem State.draw_within (s : State) : Within [.seed] s s.draw.2 where
  queue := rfl
  form := id
  outGrows := List.suffix_refl _
  seedGrows := Nat.le_succ _
  frame := fun p hp => by cases p <;> first | rfl | exact absurd (List.mem_singleton.mpr rfl) hp

/-- A record update that leaves the queue, the registers, the outputs and the counter of free values. -/
theorem Within.update {P : List Part} {r s t : State} (h : Within P r s) (hq : t.pending = s.pending) (hr : t.regs = s.regs)
    (ho : t.out = s.out) (hs : t.seed = s.seed) (hf : ∀ p, p ∉ P → p.same s t) : Within P r t where
  queue := hq.trans h.queue
  form := fun f => by unfold State.regsWf; rw [hr]; exact h.form f
  outGrows := by rw [ho]; exact h.outGrows
  seedGrows := by rw [hs]; exact h.seedGrows
  frame := fun p hp => Part.same_trans p (h.frame p hp) (hf p hp)

theorem Within.ite {P : List Part} {r a b : State} {c : Prop} [Decidable c] (ha : c → Within P r a) (hb : ¬c → Within P r b) :
    Within P r (if c then a else b) := by
  split
  · exact ha ‹_›
  · exact hb ‹_›

/-- Two operations one after the other; the later one is named first. -/
theorem Within.via {P : List Part} {r s t : State} (g : Within P s t) (h : Within P r s) : Within P r t :=
  Within.step g (by simp [sub]) h

theorem Within.ite_fst {β : Type} {P : List Part} {r : State} {a b : State × β} {c : Prop} [Decidable c]
    (ha : c → Within P r a.1) (hb : ¬c → Within P r b.1) : Within P r (if c then a else b).1 := by
  split
  · exact ha ‹_›
  · exact hb ‹_›

theorem Within.ite_snd {β : Type} {P : List Part} {r : State} {a b : β × State} {c : Prop} [Decidable c]
    (ha : c → Within P r a.2) (hb : ¬c → Within P r b.2) : Within P r (if c then a else b).2 := by
  split
  · exact ha ‹_›
  · exact hb ‹_›

theorem Within.of_next {P : List Part} {r s t : State} (h : Within P r t) : Within P r (after (.next t) s) := h

theorem Within.ite_after {P : List Part} {r s : State} {a b : Result} {c : Prop} [Decidable c]
    (ha : c → Within P r (after a s)) (hb : ¬c → Within P r (after b s)) : Within P r (after (if c then a else b) s) := by
  split
  · exact ha ‹_›
  · exact hb ‹_›

theorem forAll_within {β : Type} {P : List Part} {r s : State} {l : List β} {f : State → β → State}
    (hf : ∀ s x, Within P s (f s x)) (h : Within P r s) : Within P r (forAll l s f) := by
  unfold forAll
  induction l generalizing s with
  | nil => exact h
  | cons x l ih =>
    have hp : sub P P = true := by simp [sub]
    exact ih (Within.step (hf s x) hp h)

theorem foldl_within {β : Type} {P : List Part} {r s : State} {l : List β} {f : State → β → State}
    (hf : ∀ s x, Within P s (f s x)) (h : Within P r s) : Within P r (l.foldl f s) := forAll_within hf h

theorem State.when_within {P : List Part} {r s : State} {c : Bool} {f : State → State} (hf : ∀ s, Within P s (f s))
    (h : Within P r s) : Within P r (s.when c f) := by
  unfold State.when
  split
  · exact Within.step (hf s) (by simp [sub]) h
  · exact h

theorem Within.of_snd {β : Type} {P : List Part} {s t : State} {p : β × State} {b : β} (h : Within P s p.2) (e : p = (b, t)) :
    Within P s t := by subst e; exact h

theorem Within.of_fst {β : Type} {P : List Part} {s t : State} {p : State × β} {b : β} (h : Within P s p.1) (e : p = (t, b)) :
    Within P s t := by subst e; exact h

theorem Within.of_some_snd {β : Type} {P : List Part} {s t : State} {o : Option (β × State)} {b : β}
    (h : ∀ x, o = some x → Within P s x.2) (e : o = some (b, t)) : Within P s t := h _ e

/-! One record update each. -/

variable {P : List Part} {r s : State}

theorem Within.shadow {x : _} (hP : P.contains .shadow = true) (h : Within P r s) :
    Within P r { s with shadow := x } :=
  h.update rfl rfl rfl rfl (fun p hp => by cases p <;> first | rfl | exact absurd (List.contains_iff_mem.mp hP) hp)

theorem Within.rt {x : _} (hP : P.contains .rt = true) (h : Within P r s) :
    Within P r { s with rt := x } :=
  h.update rfl rfl rfl rfl (fun p hp => by cases p <;> first | rfl | exact absurd (List.contains_iff_mem.mp hP) hp)

theorem Within.cmd {x : _} (hP : P.contains .cmd = true) (h : Within P r s) :
    Within P r { s with cmd := x } :=
  h.update rfl rfl rfl rfl (fun p hp => by cases p <;> first | rfl | exact absurd (List.contains_iff_mem.mp hP) hp)

theorem Within.link {x : _} (hP : P.contains .link = true) (h : Within P r s) :
    Within P r { s with link := x } :=
  h.update rfl rfl rfl rfl (fun p hp => by cases p <;> first | rfl | exact absurd (List.contains_iff_mem.mp hP) hp)

theorem Within.tun {x : _} (hP : P.contains .tun = true) (h : Within P r s) :
    Within P r { s with tun := x } :=
  h.update rfl rfl rfl rfl (fun p hp => by cases p <;> first | rfl | exact absurd (List.contains_iff_mem.mp hP) hp)

theorem Within.sw {x : _} (hP : P.contains .sw = true) (h : Within P r s) :
    Within P r { s with sw := x } :=
  h.update rfl rfl rfl rfl (fun p hp => by cases p <;> first | rfl | exact absurd (List.contains_iff_mem.mp hP) hp)

theorem Within.eng {x : _} (hP : P.contains .eng = true) (h : Within P r s) :
    Within P r { s with eng := x } :=
  h.update rfl rfl rfl rfl (fun p hp => by cases p <;> first | rfl | exact absurd (List.contains_iff_mem.mp hP) hp)

theorem Within.reg {x : _} (hP : P.contains .reg = true) (h : Within P r s) :
    Within P r { s with reg := x } :=
  h.update rfl rfl rfl rfl (fun p hp => by cases p <;> first | rfl | exact absurd (List.contains_iff_mem.mp hP) hp)

theorem Within.bridge {x : _} (hP : P.contains .bridge = true) (h : Within P r s) :
    Within P r { s with bridge := x } :=
  h.update rfl rfl rfl rfl (fun p hp => by cases p <;> first | rfl | exact absurd (List.contains_iff_mem.mp hP) hp)

theorem Within.media {x : _} (hP : P.contains .media = true) (h : Within P r s) :
    Within P r { s with media := x } :=
  h.update rfl rfl rfl rfl (fun p hp => by cases p <;> first | rfl | exact absurd (List.contains_iff_mem.mp hP) hp)

theorem Within.usb {x : _} (hP : P.contains .usb = true) (h : Within P r s) :
    Within P r { s with usb := x } :=
  h.update rfl rfl rfl rfl (fun p hp => by cases p <;> first | rfl | exact absurd (List.contains_iff_mem.mp hP) hp)

theorem Within.power {x : _} (hP : P.contains .power = true) (h : Within P r s) :
    Within P r { s with power := x } :=
  h.update rfl rfl rfl rfl (fun p hp => by cases p <;> first | rfl | exact absurd (List.contains_iff_mem.mp hP) hp)

theorem Within.pd {x : _} (hP : P.contains .pd = true) (h : Within P r s) :
    Within P r { s with pd := x } :=
  h.update rfl rfl rfl rfl (fun p hp => by cases p <;> first | rfl | exact absurd (List.contains_iff_mem.mp hP) hp)

theorem Within.ps {x : _} (hP : P.contains .ps = true) (h : Within P r s) :
    Within P r { s with ps := x } :=
  h.update rfl rfl rfl rfl (fun p hp => by cases p <;> first | rfl | exact absurd (List.contains_iff_mem.mp hP) hp)

theorem Within.sec {x : _} (hP : P.contains .sec = true) (h : Within P r s) :
    Within P r { s with sec := x } :=
  h.update rfl rfl rfl rfl (fun p hp => by cases p <;> first | rfl | exact absurd (List.contains_iff_mem.mp hP) hp)

theorem Within.mem {x : _} (hP : P.contains .mem = true) (h : Within P r s) :
    Within P r { s with mem := x } :=
  h.update rfl rfl rfl rfl (fun p hp => by cases p <;> first | rfl | exact absurd (List.contains_iff_mem.mp hP) hp)

theorem Within.recorder {x : _} (hP : P.contains .recorder = true) (h : Within P r s) :
    Within P r { s with recorder := x } :=
  h.update rfl rfl rfl rfl (fun p hp => by cases p <;> first | rfl | exact absurd (List.contains_iff_mem.mp hP) hp)

theorem Within.boot {x : _} (hP : P.contains .boot = true) (h : Within P r s) :
    Within P r { s with boot := x } :=
  h.update rfl rfl rfl rfl (fun p hp => by cases p <;> first | rfl | exact absurd (List.contains_iff_mem.mp hP) hp)

end Machine
end Sys2Proof
end

