-- ==== Sys2Proof/Laws/FrameOps.lean ====
section
/-!
SUPPORT. The frame of every operation of Machine/Ops.lean: the parts of the state it may change.
-/
namespace Sys2Proof
namespace Machine

theorem State.set_within (s x2 x3) : Within [.regs] s (@State.set s x2 x3) := by
  unfold State.set
  exact (Within.step (State.setWord_within ..) rfl (Within.refl _))

theorem State.setFlag_within (s x2 x3) : Within [.regs] s (@State.setFlag s x2 x3) := by
  unfold State.setFlag
  exact (Within.step (State.set_within ..) rfl (Within.refl _))

theorem State.bump_within (s x2 x3) : Within [.regs] s (@State.bump s x2 x3) := by
  unfold State.bump
  exact (Within.step (State.setWord_within ..) rfl (Within.refl _))

theorem State.setPowered_within (s x2 x3) : Within [.regs] s (@State.setPowered s x2 x3) := by
  unfold State.setPowered
  exact (Within.step (State.set_within ..) rfl (Within.refl _))

theorem State.setS_within (s x2 x3) : Within [.regs] s (@State.setS s x2 x3) := by
  unfold State.setS
  exact (Within.step (State.set_within ..) rfl (Within.refl _))

end Machine
end Sys2Proof
end

