-- ==== Sys2Proof/Laws/FrameRoutes.lean ====
section
/-!
SUPPORT. The frame of every operation of Machine/Routes.lean: the parts of the state it may change.
-/
namespace Sys2Proof
namespace Machine

theorem State.setPort_within (s x2 x3) : Within [.link] s (@State.setPort s x2 x3) := by
  unfold State.setPort
  exact (Within.link rfl (Within.refl _))

theorem State.updPort_within (s x2 x3) : Within [.link] s (@State.updPort s x2 x3) := by
  unfold State.updPort
  exact (Within.step (State.setPort_within ..) rfl (Within.refl _))

end Machine
end Sys2Proof
end

