-- ==== Sys2Proof/Laws/FrameNotices.lean ====
section
/-!
SUPPORT. The frame of every operation of Machine/Notices.lean: the parts of the state it may change.
-/
namespace Sys2Proof
namespace Machine

theorem State.postMgmt_within (s x2 x3 x4) : Within [.eng] s (@State.postMgmt s x2 x3 x4) := by
  unfold State.postMgmt
  try dsimp only
  refine Within.eng rfl ?_
  exact Within.refl _

theorem State.sendBox0_within (s x2 x3) : Within [.eng] s (@State.sendBox0 s x2 x3).1 := by
  unfold State.sendBox0
  try dsimp only
  refine Within.ite_fst (fun _ => ?_) (fun _ => ?_)
  · dsimp only
    refine Within.step (State.postMgmt_within ..) rfl ?_
    exact Within.refl _
  · dsimp only
    exact Within.refl _

theorem State.loseNotice_within (s x2 x3) : Within [.regs, .cmd] s (@State.loseNotice s x2 x3) := by
  unfold State.loseNotice
  exact (Within.cmd rfl (Within.step (State.bump_within ..) rfl (Within.refl _)))

theorem State.mgmtSignal_within (s) : Within [.out] s (@State.mgmtSignal s) := by
  unfold State.mgmtSignal
  try dsimp only
  refine State.when_within (fun _ => ?_) ?_
  · refine Within.step (State.emit_within ..) rfl ?_
    exact Within.refl _
  · exact Within.refl _

theorem State.placeNotice_within (s x2 x3) : Within [.regs, .out, .cmd] s (@State.placeNotice s x2 x3) := by
  unfold State.placeNotice
  try dsimp only
  refine Within.ite (fun _ => ?_) (fun _ => ?_)
  · refine Within.ite (fun _ => ?_) (fun _ => ?_)
    · refine Within.ite (fun _ => ?_) (fun _ => ?_)
      · refine Within.step (State.emit_within ..) rfl ?_
        refine Within.step (State.emit_within ..) rfl ?_
        refine Within.cmd rfl ?_
        exact Within.refl _
      · refine Within.step (State.emit_within ..) rfl ?_
        refine Within.cmd rfl ?_
        exact Within.refl _
    · refine Within.step (State.loseNotice_within ..) rfl ?_
      exact Within.refl _
  · refine Within.ite (fun _ => ?_) (fun _ => ?_)
    · refine Within.step (State.set_within ..) rfl ?_
      refine Within.cmd rfl ?_
      split
      · refine Within.ite (fun _ => ?_) (fun _ => ?_)
        · refine Within.step (State.loseNotice_within ..) rfl ?_
          refine Within.step (State.bump_within ..) rfl ?_
          refine Within.cmd rfl ?_
          exact Within.refl _
        · exact Within.refl _
      · exact Within.refl _
    · refine Within.cmd rfl ?_
      refine Within.step (State.mgmtSignal_within ..) rfl ?_
      split
      · refine Within.ite (fun _ => ?_) (fun _ => ?_)
        · refine Within.step (State.loseNotice_within ..) rfl ?_
          refine Within.cmd rfl ?_
          exact Within.refl _
        · exact Within.refl _
      · exact Within.refl _

theorem State.forwardNotice_within (s x2 x3) : Within [.regs, .cmd, .eng] s (@State.forwardNotice s x2 x3) := by
  unfold State.forwardNotice
  try dsimp only
  refine Within.ite (fun _ => ?_) (fun _ => ?_)
  · refine Within.step (State.sendBox0_within ..) rfl ?_
    exact Within.refl _
  · refine Within.step (State.loseNotice_within ..) rfl ?_
    refine Within.step (State.sendBox0_within ..) rfl ?_
    exact Within.refl _

theorem State.notice_within (s x2 x3) : Within [.regs, .out, .cmd, .eng] s (@State.notice s x2 x3) := by
  unfold State.notice
  try dsimp only
  refine Within.ite (fun _ => ?_) (fun _ => ?_)
  · refine forAll_within (fun _ _ => ?_) ?_
    · refine Within.step (State.loseNotice_within ..) rfl ?_
      exact Within.refl _
    · refine forAll_within (fun _ _ => ?_) ?_
      · refine Within.step (State.loseNotice_within ..) rfl ?_
        exact Within.refl _
      · refine Within.step (State.bump_within ..) rfl ?_
        refine Within.cmd rfl ?_
        exact Within.refl _
  · refine forAll_within (fun _ _ => ?_) ?_
    · refine Within.step (State.forwardNotice_within ..) rfl ?_
      exact Within.refl _
    · refine forAll_within (fun _ _ => ?_) ?_
      · refine Within.step (State.placeNotice_within ..) rfl ?_
        exact Within.refl _
      · refine Within.step (State.bump_within ..) rfl ?_
        refine Within.cmd rfl ?_
        exact Within.refl _

theorem State.tellLost_within (s x2) : Within [.regs, .out, .cmd, .eng] s (@State.tellLost s x2) := by
  unfold State.tellLost
  try dsimp only
  refine Within.ite (fun _ => ?_) (fun _ => ?_)
  · refine Within.ite (fun _ => ?_) (fun _ => ?_)
    · refine Within.step (State.forwardNotice_within ..) rfl ?_
      refine Within.cmd rfl ?_
      exact Within.refl _
    · refine Within.ite (fun _ => ?_) (fun _ => ?_)
      · refine Within.step (State.forwardNotice_within ..) rfl ?_
        refine Within.cmd rfl ?_
        exact Within.refl _
      · refine Within.step (State.placeNotice_within ..) rfl ?_
        refine Within.cmd rfl ?_
        exact Within.refl _
  · exact Within.refl _

theorem State.flushLost_within (s) : Within [.regs, .out, .cmd, .eng] s (@State.flushLost s) := by
  unfold State.flushLost
  try dsimp only
  refine forAll_within (fun _ _ => ?_) ?_
  · refine Within.step (State.tellLost_within ..) rfl ?_
    exact Within.refl _
  · exact Within.refl _

theorem State.restartIdle_within (s) : Within [.regs, .ps] s (@State.restartIdle s) := by
  unfold State.restartIdle
  exact (Within.ps rfl (Within.step (State.set_within ..) rfl (Within.refl _)))

theorem State.activity_within (s x2) : Within [.regs, .ps] s (@State.activity s x2) := by
  unfold State.activity
  exact (Within.ite (fun _ => (Within.step (State.restartIdle_within ..) rfl (Within.step (State.bump_within ..) rfl
    (Within.step (State.set_within ..) rfl (Within.step (State.set_within ..) rfl (Within.refl _)))))) (fun _ =>
    (Within.step (State.restartIdle_within ..) rfl (Within.refl _))))

end Machine
end Sys2Proof
end

