-- ==== Sys2Proof/Laws/FrameBook.lean ====
section
/-!
SUPPORT. The frame of every operation of Machine/Book.lean: the parts of the state it may change.
-/
namespace Sys2Proof
namespace Machine

theorem State.setExpected_within (s x2 x3) : Within [.cmd] s (@State.setExpected s x2 x3) := by
  unfold State.setExpected
  exact (Within.cmd rfl (Within.refl _))

theorem State.syncBook_within (s) : Within [.regs] s (@State.syncBook s) := by
  unfold State.syncBook
  exact (Within.step (State.set_within ..) rfl (Within.step (State.set_within ..) rfl (Within.refl _)))

theorem State.setBook_within (s x2) : Within [.cmd] s (@State.setBook s x2) := by
  unfold State.setBook
  exact (Within.cmd rfl (Within.refl _))

theorem State.updEntry_within (s x2 x3) : Within [.cmd] s (@State.updEntry s x2 x3) := by
  unfold State.updEntry
  exact (Within.step (State.setBook_within ..) rfl (Within.refl _))

theorem State.reapBook_within (s) : Within [.regs, .cmd] s (@State.reapBook s) := by
  unfold State.reapBook
  exact (Within.step (State.syncBook_within ..) rfl (Within.step (State.setBook_within ..) rfl (Within.refl _)))

theorem State.setQueue_within (s x2 x3) : Within [.cmd] s (@State.setQueue s x2 x3) := by
  unfold State.setQueue
  exact (Within.cmd rfl (Within.refl _))

theorem State.handReceipt_within (s x2 x3 x4) : Within [.regs, .out, .cmd] s (@State.handReceipt s x2 x3 x4).1 := by
  unfold State.handReceipt
  try dsimp only
  refine Within.ite_fst (fun _ => ?_) (fun _ => ?_)
  · refine Within.ite_fst (fun _ => ?_) (fun _ => ?_)
    · dsimp only
      refine Within.ite (fun _ => ?_) (fun _ => ?_)
      · refine Within.step (State.emit_within ..) rfl ?_
        refine Within.step (State.emit_within ..) rfl ?_
        refine Within.step (State.setQueue_within ..) rfl ?_
        exact Within.refl _
      · refine Within.step (State.emit_within ..) rfl ?_
        refine Within.step (State.setQueue_within ..) rfl ?_
        exact Within.refl _
    · dsimp only
      exact Within.refl _
  · refine Within.ite_fst (fun _ => ?_) (fun _ => ?_)
    · refine Within.ite_fst (fun _ => ?_) (fun _ => ?_)
      · dsimp only
        refine Within.step (State.set_within ..) rfl ?_
        refine Within.cmd rfl ?_
        exact Within.refl _
      · dsimp only
        refine Within.step (State.bump_within ..) rfl ?_
        exact Within.refl _
    · refine Within.ite_fst (fun _ => ?_) (fun _ => ?_)
      · dsimp only
        refine Within.cmd rfl ?_
        refine Within.step (State.mgmtSignal_within ..) rfl ?_
        exact Within.refl _
      · dsimp only
        exact Within.refl _

theorem State.answerRemote_within (s x2 x3 x4 x5 x6) : Within [.eng] s (@State.answerRemote s x2 x3 x4 x5 x6).1 := by
  unfold State.answerRemote
  try dsimp only
  split
  · refine Within.ite_fst (fun _ => ?_) (fun _ => ?_)
    · dsimp only
      refine Within.step (State.postMgmt_within ..) rfl ?_
      exact Within.refl _
    · refine Within.step (State.sendBox0_within ..) rfl ?_
      exact Within.refl _
  · refine Within.step (State.sendBox0_within ..) rfl ?_
    exact Within.refl _

theorem State.deliver_within (s x2 x3) : Within [.regs, .out, .cmd, .eng] s (@State.deliver s x2 x3) := by
  unfold State.deliver
  try dsimp only
  split
  · exact Within.refl _
  · refine Within.ite (fun _ => ?_) (fun _ => ?_)
    · refine Within.step (State.reapBook_within ..) rfl ?_
      refine Within.step (State.updEntry_within ..) rfl ?_
      refine Within.ite_fst (fun _ => ?_) (fun _ => ?_)
      · refine Within.step (State.answerRemote_within ..) rfl ?_
        exact Within.refl _
      · refine Within.step (State.handReceipt_within ..) rfl ?_
        exact Within.refl _
    · refine Within.ite_fst (fun _ => ?_) (fun _ => ?_)
      · refine Within.step (State.answerRemote_within ..) rfl ?_
        exact Within.refl _
      · refine Within.step (State.handReceipt_within ..) rfl ?_
        exact Within.refl _

theorem State.finish_within (s x2 x3 x4) : Within [.regs, .out, .cmd, .eng] s (@State.finish s x2 x3 x4) := by
  unfold State.finish
  try dsimp only
  refine Within.step (State.deliver_within ..) rfl ?_
  refine Within.step (State.updEntry_within ..) rfl ?_
  exact Within.refl _

theorem State.finishWaiter_within (s x2 x3 x4 x5) : Within [.regs, .out, .cmd, .eng] s (@State.finishWaiter s x2 x3 x4 x5) := by
  unfold State.finishWaiter
  try dsimp only
  split
  · refine Within.step (State.finish_within ..) rfl ?_
    exact Within.refl _
  · exact Within.refl _

theorem State.finishWaiters_within (s x2 x3 x4 x5) : Within [.regs, .out, .cmd, .eng] s (@State.finishWaiters s x2 x3 x4 x5) := by
  unfold State.finishWaiters
  try dsimp only
  refine forAll_within (fun _ _ => ?_) ?_
  · refine Within.step (State.finish_within ..) rfl ?_
    exact Within.refl _
  · exact Within.refl _

theorem State.refusePacket_within (s x2 x3 x4 x5) : Within [.regs, .out, .cmd, .eng] s (@State.refusePacket s x2 x3 x4 x5) := by
  unfold State.refusePacket
  try dsimp only
  refine Within.ite (fun _ => ?_) (fun _ => ?_)
  · refine Within.step (State.answerRemote_within ..) rfl ?_
    refine Within.ite (fun _ => ?_) (fun _ => ?_)
    · refine Within.step (State.bump_within ..) rfl ?_
      refine Within.step (State.bump_within ..) rfl ?_
      exact Within.refl _
    · refine Within.step (State.bump_within ..) rfl ?_
      exact Within.refl _
  · refine Within.ite (fun _ => ?_) (fun _ => ?_)
    · refine Within.step (State.emit_within ..) rfl ?_
      refine Within.step (State.bump_within ..) rfl ?_
      refine Within.step (State.set_within ..) rfl ?_
      refine Within.ite (fun _ => ?_) (fun _ => ?_)
      · refine Within.step (State.bump_within ..) rfl ?_
        refine Within.step (State.bump_within ..) rfl ?_
        exact Within.refl _
      · refine Within.step (State.bump_within ..) rfl ?_
        exact Within.refl _
    · refine Within.step (State.handReceipt_within ..) rfl ?_
      refine Within.ite (fun _ => ?_) (fun _ => ?_)
      · refine Within.step (State.bump_within ..) rfl ?_
        refine Within.step (State.bump_within ..) rfl ?_
        exact Within.refl _
      · refine Within.step (State.bump_within ..) rfl ?_
        exact Within.refl _

theorem State.enter_within (s x2 x3 x4 x5) :
    ∀ x, State.enter s x2 x3 x4 x5 = some x → Within [.regs, .cmd, .ps, .mem] s x.2 := by
  intro x h
  unfold State.enter at h
  split at h
  · exact nomatch h
  · obtain rfl := Option.some.inj h
    refine Within.step (State.reapBook_within ..) rfl (Within.step (State.activity_within ..) rfl
      (Within.via (Within.ite (fun _ => Within.step (State.bump_within ..) rfl (Within.refl _)) (fun _ => Within.refl _))
      (Within.step (State.bump_within ..) rfl (Within.via (Within.ite
        (fun _ => Within.step (State.bump_within ..) rfl (Within.refl _))
        (fun _ => Within.step (State.setExpected_within ..) rfl (Within.refl _)))
        (Within.mem rfl (Within.step (State.setBook_within ..) rfl (Within.refl _)))))))

theorem State.sendCommand_within (s x2 x3 x4 x5) : Within [.eng] s (@State.sendCommand s x2 x3 x4 x5).1 := by
  unfold State.sendCommand
  try dsimp only
  refine Within.ite_fst (fun _ => ?_) (fun _ => ?_)
  · split
    · refine Within.ite_fst (fun _ => ?_) (fun _ => ?_)
      · dsimp only
        refine Within.step (State.postMgmt_within ..) rfl ?_
        exact Within.refl _
      · dsimp only
        exact Within.refl _
    · dsimp only
      exact Within.refl _
  · refine Within.step (State.sendBox0_within ..) rfl ?_
    exact Within.refl _

theorem State.relay_within (s x2 x3 x4 x5 x6) : Within [.regs, .out, .cmd, .eng] s (@State.relay s x2 x3 x4 x5 x6) := by
  unfold State.relay
  try dsimp only
  refine Within.ite (fun _ => ?_) (fun _ => ?_)
  · refine Within.step (State.sendCommand_within ..) rfl ?_
    refine Within.ite (fun _ => ?_) (fun _ => ?_)
    · exact Within.refl _
    · refine Within.step (State.bump_within ..) rfl ?_
      refine Within.step (State.updEntry_within ..) rfl ?_
      exact Within.refl _
  · refine Within.step (State.finish_within ..) rfl ?_
    refine Within.step (State.sendCommand_within ..) rfl ?_
    refine Within.ite (fun _ => ?_) (fun _ => ?_)
    · exact Within.refl _
    · refine Within.step (State.bump_within ..) rfl ?_
      refine Within.step (State.updEntry_within ..) rfl ?_
      exact Within.refl _

theorem State.execute_keeps {P : List Part} {r s : State} {k : Nat} {h : CmdHdr} {op : Nat} {fits : Bool}
    {body : Nat → State → State × CmdEnd} (hP : sub [.regs, .out, .cmd, .eng] P = true)
    (hb : ∀ k s, Within P s (body k s).1) (hs : Within P r s) : Within P r (s.execute k h op fits body) := by
  have fin : ∀ (u : State) st d, Within P r u → Within P r (u.finish k st d) := fun u st d hu =>
    Within.step (Within.step (P := [.regs, .out, .cmd, .eng]) (State.finish_within ..) rfl (Within.refl _)) hP hu
  have upd : ∀ (u : State) f, Within P r u → Within P r (u.updEntry k f) := fun u f hu =>
    Within.step (Within.step (P := [.regs, .out, .cmd, .eng]) (State.updEntry_within ..) rfl (Within.refl _)) hP hu
  have h1 := upd s (fun e => { e with started := true }) hs
  unfold State.execute
  refine Within.ite (fun _ => fin _ _ _ h1) (fun _ => ?_)
  split
  · exact Within.ite (fun _ => fin _ _ _ h1) (fun _ => fin _ _ _ (Within.via (Within.of_fst (hb _ _) (by assumption)) h1))
  · exact Within.ite (fun _ => upd _ _ (Within.via (Within.of_fst (hb _ _) (by assumption)) h1)) (fun _ => fin _ _ _ h1)

theorem State.start_keeps {P : List Part} {r s : State} {k : Nat} {h : CmdHdr} {op : Nat} {params : List Byte} {fits : Bool}
    {body : Nat → State → State × CmdEnd} (hP : sub [.regs, .out, .cmd, .eng] P = true)
    (hb : ∀ k s, Within P s (body k s).1) (hs : Within P r s) : Within P r (s.start k h op params fits body) := by
  unfold State.start
  exact Within.ite (fun _ => hs) (fun _ => Within.ite (fun _ => State.execute_keeps hP hb hs)
    (fun _ => Within.ite
      (fun _ => Within.step (Within.step (P := [.regs, .out, .cmd, .eng]) (State.relay_within ..) rfl (Within.refl _)) hP hs)
      (fun _ => Within.step (Within.step (P := [.regs, .out, .cmd, .eng]) (State.finish_within ..) rfl
        (Within.step (State.updEntry_within ..) rfl (Within.refl _))) hP hs)))

theorem State.holdRead_within (s x2) : Within [.cmd] s (@State.holdRead s x2) := by
  unfold State.holdRead
  try dsimp only
  refine Within.cmd rfl ?_
  exact Within.refl _

theorem State.answerRead_within (s x2 x3 x4 x5) : Within [.regs, .out, .cmd] s (@State.answerRead s x2 x3 x4 x5) := by
  unfold State.answerRead
  try dsimp only
  refine Within.step (State.handReceipt_within ..) rfl ?_
  refine Within.cmd rfl ?_
  exact Within.refl _

theorem State.readAgain_keeps {P : List Part} {r s : State} {h : CmdHdr} {op : Nat} {params : List Byte} {fits : Bool}
    {body : Nat → State → State × CmdEnd} (hP : sub [.regs, .out, .cmd, .eng] P = true)
    (hb : ∀ k s, Within P s (body k s).1) (hs : Within P r s) : Within P r (s.readAgain h op params fits body) := by
  have ans : ∀ (u : State) x st d b, Within P r u → Within P r (u.answerRead x st d b) := fun u x st d b hu =>
    Within.step (Within.step (P := [.regs, .out, .cmd, .eng]) (State.answerRead_within ..) rfl (Within.refl _)) hP hu
  have sent : ∀ again, Within P r (s.sendCommand h op params again).1 := fun again =>
    Within.step (Within.step (P := [.regs, .out, .cmd, .eng]) (State.sendCommand_within ..) rfl (Within.refl _)) hP hs
  unfold State.readAgain
  refine Within.ite (fun _ => Within.ite (fun _ => ?_) (fun _ => ans _ _ _ _ _ hs))
    (fun _ => Within.ite (fun _ => ans _ _ _ _ _ hs) (fun _ => ?_))
  · exact Within.ite (fun _ => Within.step (Within.step (P := [.regs, .out, .cmd, .eng]) (State.bump_within ..) rfl
      (Within.step (State.holdRead_within ..) rfl (Within.refl _))) hP (sent _)) (fun _ => ans _ _ _ _ _ (sent _))
  · split
    · exact Within.ite (fun _ => ans _ _ _ _ _ hs) (fun _ => ans _ _ _ _ _ (Within.via (Within.of_fst (hb _ _) (by assumption)) hs))
    · exact Within.ite (fun _ => Within.via (Within.of_fst (hb _ _) (by assumption)) hs) (fun _ => ans _ _ _ _ _ hs)

theorem State.repeatBusy_within (s x2 x3 x4) : Within [.regs, .out, .cmd, .eng] s (@State.repeatBusy s x2 x3 x4) := by
  unfold State.repeatBusy
  try dsimp only
  split
  · exact Within.refl _
  · refine Within.ite (fun _ => ?_) (fun _ => ?_)
    · refine Within.step (State.answerRemote_within ..) rfl ?_
      refine Within.step (State.bump_within ..) rfl ?_
      exact Within.refl _
    · refine Within.ite (fun _ => ?_) (fun _ => ?_)
      · refine Within.step (State.relay_within ..) rfl ?_
        refine Within.step (State.handReceipt_within ..) rfl ?_
        refine Within.step (State.bump_within ..) rfl ?_
        exact Within.refl _
      · refine Within.step (State.handReceipt_within ..) rfl ?_
        refine Within.step (State.bump_within ..) rfl ?_
        exact Within.refl _

/-- What the frame of an opcode adds to what its body may change. -/
theorem State.runOpcode_keeps {P : List Part} {r s : State} {h : CmdHdr} {op : Nat} {params : List Byte} {fits : Bool}
    {body : Nat → State → State × CmdEnd} (hP : sub [.regs, .out, .cmd, .eng, .ps, .mem] P = true)
    (hb : ∀ k s, Within P s (body k s).1) (hs : Within P r s) : Within P r (s.runOpcode h op params fits body) := by
  have hQ : sub [.regs, .out, .cmd, .eng] P = true := by
    simp only [sub, List.all_cons, List.all_nil, Bool.and_eq_true, Bool.and_true] at hP ⊢
    exact ⟨hP.1, hP.2.1, hP.2.2.1, hP.2.2.2.1⟩
  have ref : ∀ op st b, Within P r (s.refusePacket h op st b) := fun op st b =>
    Within.step (Within.step (P := [.regs, .out, .cmd, .eng]) (State.refusePacket_within ..) rfl (Within.refl _)) hQ hs
  unfold State.runOpcode
  refine Within.ite (fun _ => Within.step (Within.step (P := [.regs, .out, .cmd, .eng]) (State.emit_within ..) rfl (Within.refl _)) hQ hs)
    (fun _ => Within.ite (fun _ => ref _ _ _) (fun _ => Within.ite (fun _ => ref _ _ _) (fun _ => Within.ite (fun _ => ref _ _ _)
    (fun _ => ?_))))
  split
  · exact ref _ _ _
  · exact State.readAgain_keeps hQ hb hs
  · exact Within.step (Within.step (P := [.regs, .out, .cmd, .eng]) (State.deliver_within ..) rfl
      (Within.step (State.bump_within ..) rfl (Within.refl _))) hQ hs
  · exact Within.step (Within.step (P := [.regs, .out, .cmd, .eng]) (State.repeatBusy_within ..) rfl (Within.refl _)) hQ hs
  · exact State.start_keeps hQ hb hs
  · refine Within.ite (fun _ => ?_) (fun _ => ref _ _ _)
    split
    · exact State.start_keeps hQ hb (Within.step (Within.step (P := [.regs, .out, .cmd, .eng, .ps, .mem])
        (Within.of_some_snd (State.enter_within _ _ _ _ _) (by assumption)) rfl (Within.refl _)) hP hs)
    · exact ref _ _ _

end Machine
end Sys2Proof
end

