-- ==== Sys2Proof/Laws/FrameTiming.lean ====
section
/-!
SUPPORT. The frame of every operation of Machine/Timing.lean: the parts of the state it may change.
-/
namespace Sys2Proof
namespace Machine

theorem State.setRt_within (s x2) : Within [.rt] s (@State.setRt s x2) := by
  unfold State.setRt
  exact (Within.rt rfl (Within.refl _))

theorem State.at_within (s x2) : Within [.rt] s (@State.at s x2) := by
  unfold State.at
  exact (Within.step (State.setRt_within ..) rfl (Within.refl _))

theorem State.setTiming_within (s x2) : Within [.regs, .out, .rt, .cmd, .eng] s (@State.setTiming s x2) := by
  unfold State.setTiming
  try dsimp only
  refine Within.ite (fun _ => ?_) (fun _ => ?_)
  · exact Within.refl _
  · refine Within.step (State.notice_within ..) rfl ?_
    refine Within.step (State.setRt_within ..) rfl ?_
    refine Within.step (State.set_within ..) rfl ?_
    exact Within.refl _

theorem State.setParent_within (s x2) : Within [.regs] s (@State.setParent s x2) := by
  unfold State.setParent
  exact (by split; exacts [(Within.step (State.set_within ..) rfl (Within.step (State.set_within ..) rfl (Within.refl _))),
    (Within.step (State.set_within ..) rfl (Within.step (State.set_within ..) rfl (Within.refl _)))])

theorem State.loopSample_within (s x2) : Within [.regs, .rt] s (@State.loopSample s x2) := by
  unfold State.loopSample
  exact (Within.step (State.setS_within ..) rfl (Within.step (State.setS_within ..) rfl (Within.step (State.setRt_within ..) rfl
    (Within.refl _))))

theorem State.freeze_within (s) : Within [.rt] s (@State.freeze s) := by
  unfold State.freeze
  exact (Within.step (State.setRt_within ..) rfl (Within.refl _))

theorem State.step60_parts (s : State) (t : TunSt) (e : EngSt) : Within [.tun, .eng] s { s with eng := e, tun := t } :=
  Within.update (Within.refl s) rfl rfl rfl rfl (fun p hp => by cases p <;> first | rfl | exact absurd (by decide) hp)

theorem State.step60_within (s x2) : Within [.regs, .rt, .tun, .eng] s (@State.step60 s x2) := by
  unfold State.step60
  exact Within.step (State.bump_within ..) rfl (Within.step (State.setRt_within ..) rfl (Within.step (State.step60_parts ..) rfl
    (Within.refl _)))

theorem State.enterFree_within (s) : Within [.regs, .out, .rt, .cmd, .eng] s (@State.enterFree s) := by
  unfold State.enterFree
  try dsimp only
  refine Within.step (State.setRt_within ..) rfl ?_
  refine Within.step (State.setTiming_within ..) rfl ?_
  refine Within.step (State.setParent_within ..) rfl ?_
  refine Within.step (State.freeze_within ..) rfl ?_
  exact Within.refl _

theorem State.enterAcquire_within (s x2) : Within [.regs, .out, .rt, .cmd, .eng] s (@State.enterAcquire s x2) := by
  unfold State.enterAcquire
  try dsimp only
  refine Within.step (State.setRt_within ..) rfl ?_
  refine Within.step (State.setTiming_within ..) rfl ?_
  refine Within.step (State.setParent_within ..) rfl ?_
  exact Within.refl _

theorem State.enterHoldover_within (s) : Within [.regs, .out, .rt, .cmd, .eng] s (@State.enterHoldover s) := by
  unfold State.enterHoldover
  try dsimp only
  refine Within.step (State.setTiming_within ..) rfl ?_
  refine Within.step (State.freeze_within ..) rfl ?_
  exact Within.refl _

theorem State.noteKnown_within (s x2 x3 x4) : Within [.rt] s (@State.noteKnown s x2 x3 x4) := by
  unfold State.noteKnown
  try dsimp only
  refine Within.ite (fun _ => ?_) (fun _ => ?_)
  · refine Within.step (State.setRt_within ..) rfl ?_
    exact Within.refl _
  · exact Within.refl _

theorem State.dealt_within (s x2 x3) : Within [.link] s (@State.dealt s x2 x3) := by
  unfold State.dealt
  try dsimp only
  refine Within.step (State.updPort_within ..) rfl ?_
  exact Within.refl _

theorem State.flood_within (s x2 x3 x4) : Within [.out, .rt, .link] s (@State.flood s x2 x3 x4) := by
  unfold State.flood
  try dsimp only
  refine forAll_within (fun _ _ => ?_) ?_
  · refine Within.ite (fun _ => ?_) (fun _ => ?_)
    · refine Within.step (State.noteKnown_within ..) rfl ?_
      refine Within.step (State.dealt_within ..) rfl ?_
      refine Within.step (State.emit_within ..) rfl ?_
      exact Within.refl _
    · exact Within.refl _
  · exact Within.refl _

theorem State.sendRecord_within (s x2 x3) : Within [.out, .rt, .link] s (@State.sendRecord s x2 x3) := by
  unfold State.sendRecord
  try dsimp only
  refine Within.step (State.flood_within ..) rfl ?_
  refine Within.step (State.setRt_within ..) rfl ?_
  exact Within.refl _

theorem State.sendLater_within (s x2) : Within [.rt] s (@State.sendLater s x2) := by
  unfold State.sendLater
  exact (Within.step (State.setRt_within ..) rfl (Within.refl _))

theorem State.raiseFloor_within (s x2 x3) : Within [.rt] s (@State.raiseFloor s x2 x3) := by
  unfold State.raiseFloor
  exact (Within.step (State.setRt_within ..) rfl (Within.refl _))

theorem State.takeRecord_keeps {P : List Part} {q s : State} {p : PortId} {ns : Ns} {type : Nat} {r : Rec} {act : State → State}
    (hP : sub [.regs, .out, .rt, .link] P = true) (ha : ∀ s, Within P s (act s)) (h : Within P q s) :
    Within P q (s.takeRecord p ns type r act) := by
  unfold State.takeRecord
  have hat : Within P q (s.at ns.val) := Within.step (Within.step (State.at_within ..) rfl (Within.refl _)) hP h
  have hb : ∀ (u : State) c, Within P q u → Within P q (u.bump c) := fun u c hu =>
    Within.step (Within.step (Q := [.regs]) (P := [.regs, .out, .rt, .link]) (State.bump_within ..) rfl (Within.refl _)) hP hu
  refine Within.ite (fun _ => h) (fun _ => Within.ite (fun _ => hb _ _ hat) (fun _ => Within.ite (fun _ => hb _ _ hat)
    (fun _ => Within.ite (fun _ => hat) (fun _ => Within.via (ha _) ?_))))
  exact Within.step (Within.step (P := [.regs, .out, .rt, .link]) (State.raiseFloor_within ..) rfl (Within.step
    (State.noteKnown_within ..) rfl (Within.step (State.flood_within ..) rfl (Within.step (State.setRt_within ..) rfl
    (Within.refl _))))) hP hat

theorem State.endSwap_within (s x2 x3 x4) : Within [.regs, .out, .rt, .cmd, .eng] s (@State.endSwap s x2 x3 x4) := by
  unfold State.endSwap
  try dsimp only
  split
  · exact Within.refl _
  · split
    · split
      · refine Within.ite (fun _ => ?_) (fun _ => ?_)
        · refine Within.step (State.finish_within ..) rfl ?_
          refine Within.step (State.notice_within ..) rfl ?_
          refine Within.ite (fun _ => ?_) (fun _ => ?_)
          · refine Within.step (State.bump_within ..) rfl ?_
            refine Within.step (State.setRt_within ..) rfl ?_
            exact Within.refl _
          · refine Within.step (State.bump_within ..) rfl ?_
            refine Within.step (State.setRt_within ..) rfl ?_
            exact Within.refl _
        · refine Within.step (State.notice_within ..) rfl ?_
          refine Within.ite (fun _ => ?_) (fun _ => ?_)
          · refine Within.step (State.bump_within ..) rfl ?_
            refine Within.step (State.setRt_within ..) rfl ?_
            exact Within.refl _
          · refine Within.step (State.bump_within ..) rfl ?_
            refine Within.step (State.setRt_within ..) rfl ?_
            exact Within.refl _
      · refine Within.step (State.notice_within ..) rfl ?_
        refine Within.ite (fun _ => ?_) (fun _ => ?_)
        · refine Within.step (State.bump_within ..) rfl ?_
          refine Within.step (State.setRt_within ..) rfl ?_
          exact Within.refl _
        · refine Within.step (State.bump_within ..) rfl ?_
          refine Within.step (State.setRt_within ..) rfl ?_
          exact Within.refl _
    · refine Within.step (State.notice_within ..) rfl ?_
      refine Within.ite (fun _ => ?_) (fun _ => ?_)
      · refine Within.step (State.bump_within ..) rfl ?_
        refine Within.step (State.setRt_within ..) rfl ?_
        exact Within.refl _
      · refine Within.step (State.bump_within ..) rfl ?_
        refine Within.step (State.setRt_within ..) rfl ?_
        exact Within.refl _

theorem State.overtakeSwap_within (s) : Within [.regs, .out, .rt, .cmd, .eng] s (@State.overtakeSwap s) := by
  unfold State.overtakeSwap
  try dsimp only
  refine Within.step (State.endSwap_within ..) rfl ?_
  exact Within.refl _

theorem State.accept_within (s x2 x3) : Within [.regs, .out, .rt, .cmd, .eng] s (@State.accept s x2 x3) := by
  unfold State.accept
  try dsimp only
  refine Within.ite (fun _ => ?_) (fun _ => ?_)
  · refine Within.step (State.setRt_within ..) rfl ?_
    exact Within.refl _
  · refine Within.step (State.setRt_within ..) rfl ?_
    refine Within.step (State.overtakeSwap_within ..) rfl ?_
    refine Within.step (State.setRt_within ..) rfl ?_
    exact Within.refl _

theorem State.noteBeat_within (s x2) : Within [.regs, .rt] s (@State.noteBeat s x2) := by
  unfold State.noteBeat
  exact (Within.ite (fun _ => (Within.step (State.setRt_within ..) rfl (Within.step (State.setS_within ..) rfl (Within.refl
    _)))) (fun _ => (Within.step (State.bump_within ..) rfl (Within.refl _))))

theorem State.checkSwap_within (s) : Within [.regs, .out, .rt, .cmd, .eng] s (@State.checkSwap s) := by
  unfold State.checkSwap
  try dsimp only
  split
  · exact Within.refl _
  · refine Within.ite (fun _ => ?_) (fun _ => ?_)
    · refine Within.step (State.endSwap_within ..) rfl ?_
      refine Within.ite (fun _ => ?_) (fun _ => ?_)
      · refine Within.step (State.setRt_within ..) rfl ?_
        exact Within.refl _
      · exact Within.refl _
    · exact Within.refl _

theorem State.takeEpoch_within (s x2) : Within [.regs, .rt] s (@State.takeEpoch s x2) := by
  unfold State.takeEpoch
  try dsimp only
  refine Within.step (State.setRt_within ..) rfl ?_
  refine Within.step (State.set_within ..) rfl ?_
  exact Within.refl _

theorem State.becomeMaster_within (s x2 x3) : Within [.regs, .out, .rt, .cmd, .eng] s (@State.becomeMaster s x2 x3) := by
  unfold State.becomeMaster
  try dsimp only
  refine Within.ite (fun _ => ?_) (fun _ => ?_)
  · refine Within.step (State.setTiming_within ..) rfl ?_
    refine Within.step (State.setRt_within ..) rfl ?_
    refine Within.step (State.setFlag_within ..) rfl ?_
    refine Within.step (State.set_within ..) rfl ?_
    refine Within.step (State.set_within ..) rfl ?_
    refine Within.step (State.set_within ..) rfl ?_
    refine Within.step (State.takeEpoch_within ..) rfl ?_
    refine Within.step (State.freeze_within ..) rfl ?_
    exact Within.refl _
  · refine Within.step (State.notice_within ..) rfl ?_
    refine Within.step (State.setTiming_within ..) rfl ?_
    refine Within.step (State.setRt_within ..) rfl ?_
    refine Within.step (State.setFlag_within ..) rfl ?_
    refine Within.step (State.set_within ..) rfl ?_
    refine Within.step (State.set_within ..) rfl ?_
    refine Within.step (State.set_within ..) rfl ?_
    refine Within.step (State.takeEpoch_within ..) rfl ?_
    refine Within.step (State.freeze_within ..) rfl ?_
    exact Within.refl _

theorem State.showSuccessors_within (s x2 x3 x4) : Within [.regs] s (@State.showSuccessors s x2 x3 x4) := by
  unfold State.showSuccessors
  exact (Within.step (State.setFlag_within ..) rfl (Within.step (State.setFlag_within ..) rfl (Within.step (State.set_within ..)
    rfl (Within.step (State.set_within ..) rfl (Within.refl _)))))

theorem State.loseRole_within (s) : Within [.regs, .out, .rt, .cmd, .eng] s (@State.loseRole s) := by
  unfold State.loseRole
  try dsimp only
  refine Within.step (State.setRt_within ..) rfl ?_
  refine Within.step (State.enterHoldover_within ..) rfl ?_
  refine Within.step (State.setFlag_within ..) rfl ?_
  exact Within.refl _

theorem State.takeMaster_within (s x2) : Within [.regs, .out, .rt, .cmd, .eng] s (@State.takeMaster s x2) := by
  unfold State.takeMaster
  try dsimp only
  refine Within.ite (fun _ => ?_) (fun _ => ?_)
  · refine Within.step (State.notice_within ..) rfl ?_
    refine Within.ite (fun _ => ?_) (fun _ => ?_)
    · refine Within.step (State.setParent_within ..) rfl ?_
      refine Within.step (State.loseRole_within ..) rfl ?_
      refine Within.step (State.setRt_within ..) rfl ?_
      refine Within.step (State.set_within ..) rfl ?_
      refine Within.step (State.takeEpoch_within ..) rfl ?_
      exact Within.refl _
    · refine Within.step (State.setRt_within ..) rfl ?_
      refine Within.step (State.set_within ..) rfl ?_
      refine Within.step (State.takeEpoch_within ..) rfl ?_
      exact Within.refl _
  · refine Within.ite (fun _ => ?_) (fun _ => ?_)
    · refine Within.step (State.setParent_within ..) rfl ?_
      refine Within.step (State.loseRole_within ..) rfl ?_
      refine Within.step (State.setRt_within ..) rfl ?_
      refine Within.step (State.set_within ..) rfl ?_
      refine Within.step (State.takeEpoch_within ..) rfl ?_
      exact Within.refl _
    · refine Within.step (State.setRt_within ..) rfl ?_
      refine Within.step (State.set_within ..) rfl ?_
      refine Within.step (State.takeEpoch_within ..) rfl ?_
      exact Within.refl _

end Machine
end Sys2Proof
end

