-- ==== Sys2Proof/Laws/FrameRound.lean ====
section
/-!
SUPPORT. The frame of every operation of Machine/Round.lean: the parts of the state it may change.
-/
namespace Sys2Proof
namespace Machine

theorem State.hears_within (s) : Within [.rt] s (@State.hears s) := by
  unfold State.hears
  try dsimp only
  refine Within.step (State.setRt_within ..) rfl ?_
  exact Within.refl _

theorem State.actBeat_within (s x2) : Within [.regs, .out, .rt, .cmd, .eng] s (@State.actBeat s x2) := by
  unfold State.actBeat
  try dsimp only
  refine Within.ite (fun _ => ?_) (fun _ => ?_)
  · refine Within.step (State.showSuccessors_within ..) rfl ?_
    refine Within.step (State.noteBeat_within ..) rfl ?_
    refine Within.step (State.hears_within ..) rfl ?_
    refine Within.step (State.accept_within ..) rfl ?_
    exact Within.refl _
  · refine Within.ite (fun _ => ?_) (fun _ => ?_)
    · refine Within.step (State.showSuccessors_within ..) rfl ?_
      refine Within.step (State.noteBeat_within ..) rfl ?_
      refine Within.step (State.hears_within ..) rfl ?_
      refine Within.step (State.setRt_within ..) rfl ?_
      exact Within.refl _
    · split
      · refine Within.ite (fun _ => ?_) (fun _ => ?_)
        · refine Within.step (State.showSuccessors_within ..) rfl ?_
          refine Within.step (State.noteBeat_within ..) rfl ?_
          refine Within.step (State.hears_within ..) rfl ?_
          exact Within.refl _
        · refine Within.step (State.bump_within ..) rfl ?_
          exact Within.refl _
      · refine Within.step (State.bump_within ..) rfl ?_
        exact Within.refl _

theorem execBeat_within (x1 x2 x3 s) : Within [.regs, .out, .rt, .cmd, .link, .eng] s (after (@execBeat x1 x2 x3 s) s) := by
  unfold execBeat
  try dsimp only
  refine Within.of_next ?_
  refine State.takeRecord_keeps rfl (fun _ => ?_) ?_
  · refine Within.step (State.actBeat_within ..) rfl ?_
    exact Within.refl _
  · exact Within.refl _

theorem execTakeover_within (x1 x2 x3 s) : Within [.regs, .out, .rt, .cmd, .link, .eng] s (after (@execTakeover x1 x2 x3 s) s) := by
  unfold execTakeover
  try dsimp only
  refine Within.of_next ?_
  refine State.takeRecord_keeps rfl (fun _ => ?_) ?_
  · refine Within.ite (fun _ => ?_) (fun _ => ?_)
    · refine Within.step (State.accept_within ..) rfl ?_
      refine Within.step (State.bump_within ..) rfl ?_
      exact Within.refl _
    · refine Within.step (State.bump_within ..) rfl ?_
      exact Within.refl _
  · exact Within.refl _

theorem execClaim_within (x1 x2 x3 s) : Within [.regs, .out, .rt, .cmd, .link, .eng] s (after (@execClaim x1 x2 x3 s) s) := by
  unfold execClaim
  try dsimp only
  refine Within.of_next ?_
  refine State.takeRecord_keeps rfl (fun _ => ?_) ?_
  · refine Within.ite (fun _ => ?_) (fun _ => ?_)
    · refine Within.step (State.noteBeat_within ..) rfl ?_
      refine Within.step (State.hears_within ..) rfl ?_
      refine Within.step (State.accept_within ..) rfl ?_
      refine Within.ite (fun _ => ?_) (fun _ => ?_)
      · refine Within.step (State.sendLater_within ..) rfl ?_
        exact Within.refl _
      · exact Within.refl _
    · refine Within.ite (fun _ => ?_) (fun _ => ?_)
      · refine Within.step (State.noteBeat_within ..) rfl ?_
        refine Within.step (State.hears_within ..) rfl ?_
        refine Within.ite (fun _ => ?_) (fun _ => ?_)
        · refine Within.step (State.sendLater_within ..) rfl ?_
          exact Within.refl _
        · exact Within.refl _
      · refine Within.step (State.bump_within ..) rfl ?_
        refine Within.ite (fun _ => ?_) (fun _ => ?_)
        · refine Within.step (State.sendLater_within ..) rfl ?_
          exact Within.refl _
        · exact Within.refl _
  · exact Within.refl _

theorem execRaise_within (x1 x2 x3 s) : Within [.regs, .out, .rt, .link] s (after (@execRaise x1 x2 x3 s) s) := by
  unfold execRaise
  try dsimp only
  refine Within.of_next ?_
  refine State.takeRecord_keeps rfl (fun _ => ?_) ?_
  · refine Within.ite (fun _ => ?_) (fun _ => ?_)
    · refine Within.ite (fun _ => ?_) (fun _ => ?_)
      · refine Within.step (State.setRt_within ..) rfl ?_
        exact Within.refl _
      · refine Within.step (State.bump_within ..) rfl ?_
        exact Within.refl _
    · exact Within.refl _
  · exact Within.refl _

theorem State.refuseSwap_within (s x2 x3) : Within [.rt] s (@State.refuseSwap s x2 x3) := by
  unfold State.refuseSwap
  exact (Within.step (State.sendLater_within ..) rfl (Within.refl _))

theorem execSwapOffer_within (x1 x2 x3 s) : Within [.regs, .out, .rt, .cmd, .link, .eng] s (after (@execSwapOffer x1 x2 x3 s) s) := by
  unfold execSwapOffer
  try dsimp only
  refine Within.of_next ?_
  refine State.takeRecord_keeps rfl (fun _ => ?_) ?_
  · refine Within.ite (fun _ => ?_) (fun _ => ?_)
    · exact Within.refl _
    · refine Within.ite (fun _ => ?_) (fun _ => ?_)
      · refine Within.step (State.bump_within ..) rfl ?_
        exact Within.refl _
      · split
        · refine Within.ite (fun _ => ?_) (fun _ => ?_)
          · refine Within.step (State.setRt_within ..) rfl ?_
            exact Within.refl _
          · refine Within.ite (fun _ => ?_) (fun _ => ?_)
            · refine Within.step (State.endSwap_within ..) rfl ?_
              refine Within.step (State.setRt_within ..) rfl ?_
              exact Within.refl _
            · refine Within.step (State.refuseSwap_within ..) rfl ?_
              exact Within.refl _
        · refine Within.ite (fun _ => ?_) (fun _ => ?_)
          · refine Within.step (State.refuseSwap_within ..) rfl ?_
            exact Within.refl _
          · refine Within.ite (fun _ => ?_) (fun _ => ?_)
            · refine Within.step (State.refuseSwap_within ..) rfl ?_
              exact Within.refl _
            · refine Within.step (State.setRt_within ..) rfl ?_
              exact Within.refl _
  · exact Within.refl _

theorem execSwapAsk_within (x1 x2 x3 s) : Within [.regs, .out, .rt, .cmd, .link, .eng] s (after (@execSwapAsk x1 x2 x3 s) s) := by
  unfold execSwapAsk
  try dsimp only
  refine Within.of_next ?_
  refine State.takeRecord_keeps rfl (fun _ => ?_) ?_
  · refine Within.ite (fun _ => ?_) (fun _ => ?_)
    · exact Within.refl _
    · refine Within.ite (fun _ => ?_) (fun _ => ?_)
      · refine Within.step (State.refuseSwap_within ..) rfl ?_
        exact Within.refl _
      · split
        · refine Within.ite (fun _ => ?_) (fun _ => ?_)
          · refine Within.step (State.endSwap_within ..) rfl ?_
            refine Within.step (State.setRt_within ..) rfl ?_
            exact Within.refl _
          · refine Within.ite (fun _ => ?_) (fun _ => ?_)
            · refine Within.step (State.setRt_within ..) rfl ?_
              refine Within.step (State.refuseSwap_within ..) rfl ?_
              exact Within.refl _
            · refine Within.step (State.refuseSwap_within ..) rfl ?_
              exact Within.refl _
        · refine Within.ite (fun _ => ?_) (fun _ => ?_)
          · refine Within.step (State.refuseSwap_within ..) rfl ?_
            exact Within.refl _
          · refine Within.ite (fun _ => ?_) (fun _ => ?_)
            · refine Within.step (State.refuseSwap_within ..) rfl ?_
              exact Within.refl _
            · refine Within.step (State.setRt_within ..) rfl ?_
              exact Within.refl _
  · exact Within.refl _

theorem execSwapAgree_within (x1 x2 x3 s) : Within [.regs, .out, .rt, .link] s (after (@execSwapAgree x1 x2 x3 s) s) := by
  unfold execSwapAgree
  try dsimp only
  refine Within.of_next ?_
  refine State.takeRecord_keeps rfl (fun _ => ?_) ?_
  · split
    · refine Within.ite (fun _ => ?_) (fun _ => ?_)
      · refine Within.step (State.setRt_within ..) rfl ?_
        exact Within.refl _
      · refine Within.ite (fun _ => ?_) (fun _ => ?_)
        · refine Within.step (State.bump_within ..) rfl ?_
          exact Within.refl _
        · exact Within.refl _
    · refine Within.ite (fun _ => ?_) (fun _ => ?_)
      · refine Within.step (State.bump_within ..) rfl ?_
        exact Within.refl _
      · exact Within.refl _
  · exact Within.refl _

theorem execSwapRefuse_within (x1 x2 x3 s) : Within [.regs, .out, .rt, .cmd, .link, .eng] s (after (@execSwapRefuse x1 x2 x3 s) s) := by
  unfold execSwapRefuse
  try dsimp only
  refine Within.of_next ?_
  refine State.takeRecord_keeps rfl (fun _ => ?_) ?_
  · split
    · refine Within.ite (fun _ => ?_) (fun _ => ?_)
      · refine Within.ite (fun _ => ?_) (fun _ => ?_)
        · refine Within.step (State.endSwap_within ..) rfl ?_
          exact Within.refl _
        · refine Within.step (State.endSwap_within ..) rfl ?_
          exact Within.refl _
      · refine Within.ite (fun _ => ?_) (fun _ => ?_)
        · refine Within.step (State.bump_within ..) rfl ?_
          exact Within.refl _
        · exact Within.refl _
    · refine Within.ite (fun _ => ?_) (fun _ => ?_)
      · refine Within.step (State.bump_within ..) rfl ?_
        exact Within.refl _
      · exact Within.refl _
  · exact Within.refl _

theorem execSwapGo_within (x1 x2 x3 s) : Within [.regs, .out, .rt, .link] s (after (@execSwapGo x1 x2 x3 s) s) := by
  unfold execSwapGo
  try dsimp only
  refine Within.of_next ?_
  refine State.takeRecord_keeps rfl (fun _ => ?_) ?_
  · refine Within.ite (fun _ => ?_) (fun _ => ?_)
    · split
      · refine Within.ite (fun _ => ?_) (fun _ => ?_)
        · refine Within.step (State.setRt_within ..) rfl ?_
          refine Within.step (State.setRt_within ..) rfl ?_
          exact Within.refl _
        · refine Within.step (State.setRt_within ..) rfl ?_
          exact Within.refl _
      · refine Within.step (State.setRt_within ..) rfl ?_
        exact Within.refl _
    · refine Within.step (State.bump_within ..) rfl ?_
      exact Within.refl _
  · exact Within.refl _

theorem execSwapReady_within (x1 x2 x3 s) : Within [.regs, .out, .rt, .link] s (after (@execSwapReady x1 x2 x3 s) s) := by
  unfold execSwapReady
  try dsimp only
  refine Within.of_next ?_
  refine State.takeRecord_keeps rfl (fun _ => ?_) ?_
  · split
    · refine Within.ite (fun _ => ?_) (fun _ => ?_)
      · refine Within.step (State.setRt_within ..) rfl ?_
        exact Within.refl _
      · refine Within.ite (fun _ => ?_) (fun _ => ?_)
        · refine Within.step (State.bump_within ..) rfl ?_
          exact Within.refl _
        · exact Within.refl _
    · refine Within.ite (fun _ => ?_) (fun _ => ?_)
      · refine Within.step (State.bump_within ..) rfl ?_
        exact Within.refl _
      · exact Within.refl _
  · exact Within.refl _

theorem execSwapCancel_within (x1 x2 x3 s) : Within [.regs, .out, .rt, .cmd, .link, .eng] s (after (@execSwapCancel x1 x2 x3 s) s) := by
  unfold execSwapCancel
  try dsimp only
  refine Within.of_next ?_
  refine State.takeRecord_keeps rfl (fun _ => ?_) ?_
  · refine Within.ite (fun _ => ?_) (fun _ => ?_)
    · split
      · refine Within.ite (fun _ => ?_) (fun _ => ?_)
        · refine Within.step (State.endSwap_within ..) rfl ?_
          refine Within.step (State.setRt_within ..) rfl ?_
          exact Within.refl _
        · refine Within.step (State.setRt_within ..) rfl ?_
          exact Within.refl _
      · refine Within.step (State.setRt_within ..) rfl ?_
        exact Within.refl _
    · exact Within.refl _
  · exact Within.refl _

theorem execSwapDeadline_within (s) : Within [.regs, .out, .rt, .cmd, .eng] s (after (@execSwapDeadline s) s) := by
  unfold execSwapDeadline
  try dsimp only
  refine Within.of_next ?_
  refine Within.step (State.checkSwap_within ..) rfl ?_
  exact Within.refl _

theorem execSwapPartyReset_within (s) : Within [.regs, .out, .rt, .cmd, .eng] s (after (@execSwapPartyReset s) s) := by
  unfold execSwapPartyReset
  try dsimp only
  refine Within.of_next ?_
  split
  · exact Within.refl _
  · refine Within.ite (fun _ => ?_) (fun _ => ?_)
    · refine Within.step (State.endSwap_within ..) rfl ?_
      refine Within.step (State.setRt_within ..) rfl ?_
      exact Within.refl _
    · exact Within.refl _

theorem execDelayAsk_within (x1 x2 x3 s) : Within [.out, .link] s (after (@execDelayAsk x1 x2 x3 s) s) := by
  unfold execDelayAsk
  try dsimp only
  refine Within.of_next ?_
  refine Within.ite (fun _ => ?_) (fun _ => ?_)
  · refine Within.step (State.dealt_within ..) rfl ?_
    refine Within.step (State.emit_within ..) rfl ?_
    exact Within.refl _
  · exact Within.refl _

theorem State.setDelay_within (s x2 x3) : Within [.rt] s (@State.setDelay s x2 x3) := by
  unfold State.setDelay
  exact (Within.step (State.setRt_within ..) rfl (Within.refl _))

theorem execDelayAnswer_within (x1 x2 x3 x4 s) : Within [.regs, .rt] s (after (@execDelayAnswer x1 x2 x3 x4 s) s) := by
  unfold execDelayAnswer
  try dsimp only
  refine Within.of_next ?_
  try dsimp only
  refine Within.ite (fun _ => ?_) (fun _ => ?_)
  · exact Within.refl _
  · split
    · refine Within.ite (fun _ => ?_) (fun _ => ?_)
      · refine Within.ite (fun _ => ?_) (fun _ => ?_)
        · refine Within.step (State.set_within ..) rfl ?_
          refine Within.step (State.setFlag_within ..) rfl ?_
          refine Within.step (State.setDelay_within ..) rfl ?_
          refine Within.step (State.at_within ..) rfl ?_
          exact Within.refl _
        · refine Within.step (State.bump_within ..) rfl ?_
          refine Within.step (State.setDelay_within ..) rfl ?_
          refine Within.step (State.at_within ..) rfl ?_
          exact Within.refl _
      · refine Within.step (State.bump_within ..) rfl ?_
        refine Within.step (State.at_within ..) rfl ?_
        exact Within.refl _
    · refine Within.step (State.bump_within ..) rfl ?_
      refine Within.step (State.at_within ..) rfl ?_
      exact Within.refl _

theorem execDelayAnswerTimeout_within (x1 s) : Within [.regs, .rt] s (after (@execDelayAnswerTimeout x1 s) s) := by
  unfold execDelayAnswerTimeout
  exact (by split; exacts [(Within.step (State.bump_within ..) rfl (Within.step (State.setDelay_within ..) rfl (Within.refl
    _))), (Within.refl _)])

theorem State.askDelay_within (s x2) : Within [.out, .rt, .link] s (@State.askDelay s x2) := by
  unfold State.askDelay
  try dsimp only
  refine Within.step (State.dealt_within ..) rfl ?_
  refine Within.step (State.emit_within ..) rfl ?_
  refine Within.step (State.setDelay_within ..) rfl ?_
  exact Within.refl _

theorem execHopDelayMeasure_within (x1 x2 s) : Within [.out, .rt, .link] s (after (@execHopDelayMeasure x1 x2 s) s) := by
  unfold execHopDelayMeasure
  try dsimp only
  refine Within.of_next ?_
  refine Within.ite (fun _ => ?_) (fun _ => ?_)
  · refine Within.step (State.askDelay_within ..) rfl ?_
    refine Within.step (State.at_within ..) rfl ?_
    exact Within.refl _
  · exact Within.refl _

theorem execBeatSilenceClaim_within (s) : Within [.rt] s (after (@execBeatSilenceClaim s) s) := by
  unfold execBeatSilenceClaim
  try dsimp only
  refine Within.of_next ?_
  refine Within.ite (fun _ => ?_) (fun _ => ?_)
  · refine Within.step (State.setRt_within ..) rfl ?_
    exact Within.refl _
  · exact Within.refl _

theorem execDeputyTakeover_within (s) : Within [.rt] s (after (@execDeputyTakeover s) s) := by
  unfold execDeputyTakeover
  exact (Within.ite (fun _ => (Within.step (State.setRt_within ..) rfl (Within.refl _))) (fun _ => (Within.refl _)))

theorem execReserveTakeover_within (s) : Within [.rt] s (after (@execReserveTakeover s) s) := by
  unfold execReserveTakeover
  exact (Within.ite (fun _ => (Within.step (State.setRt_within ..) rfl (Within.refl _))) (fun _ => (Within.refl _)))

theorem execLockLoss_within (s) : Within [.regs, .out, .rt, .cmd, .eng] s (after (@execLockLoss s) s) := by
  unfold execLockLoss
  try dsimp only
  refine Within.of_next ?_
  refine Within.ite (fun _ => ?_) (fun _ => ?_)
  · refine Within.step (State.enterHoldover_within ..) rfl ?_
    refine Within.step (State.bump_within ..) rfl ?_
    exact Within.refl _
  · exact Within.refl _

theorem execLockedEntry_within (s) : Within [.regs, .out, .rt, .cmd, .eng] s (after (@execLockedEntry s) s) := by
  unfold execLockedEntry
  try dsimp only
  refine Within.of_next ?_
  refine Within.ite (fun _ => ?_) (fun _ => ?_)
  · refine Within.step (State.setRt_within ..) rfl ?_
    refine Within.step (State.setTiming_within ..) rfl ?_
    exact Within.refl _
  · exact Within.refl _

theorem execAcquireTimeout_within (s) : Within [.regs, .out, .rt, .cmd, .eng] s (after (@execAcquireTimeout s) s) := by
  unfold execAcquireTimeout
  try dsimp only
  refine Within.of_next ?_
  refine Within.ite (fun _ => ?_) (fun _ => ?_)
  · split
    · refine Within.step (State.setRt_within ..) rfl ?_
      refine Within.step (State.setParent_within ..) rfl ?_
      exact Within.refl _
    · refine Within.step (State.enterFree_within ..) rfl ?_
      exact Within.refl _
  · exact Within.refl _

theorem execHoldoverExpired_within (s) : Within [.regs, .out, .rt, .cmd, .eng] s (after (@execHoldoverExpired s) s) := by
  unfold execHoldoverExpired
  try dsimp only
  refine Within.of_next ?_
  refine Within.ite (fun _ => ?_) (fun _ => ?_)
  · refine Within.step (State.enterFree_within ..) rfl ?_
    refine Within.step (State.bump_within ..) rfl ?_
    exact Within.refl _
  · exact Within.refl _

theorem State.storeEnergy_within (s) : Within [.power] s (@State.storeEnergy s) := by
  unfold State.storeEnergy
  try dsimp only
  refine Within.power rfl ?_
  exact Within.refl _

theorem State.storeRound_within (s) : Within [.rt, .power, .mem] s (@State.storeRound s) := by
  unfold State.storeRound
  exact (Within.update (Within.step (State.setRt_within ..) rfl (Within.refl _)) rfl rfl rfl rfl (fun p hp => by cases p <;>
    first | rfl | exact absurd (by decide) hp))

theorem execRoundNumberWrite_within (s) : Within [.rt, .power, .mem] s (after (@execRoundNumberWrite s) s) := by
  unfold execRoundNumberWrite
  exact (Within.step (State.storeRound_within ..) rfl (Within.refl _))

theorem State.checkKnown_within (s x2 x3) : Within [.rt] s (@State.checkKnown s x2 x3) := by
  unfold State.checkKnown
  try dsimp only
  split
  · refine Within.ite (fun _ => ?_) (fun _ => ?_)
    · refine Within.step (State.setRt_within ..) rfl ?_
      exact Within.refl _
    · exact Within.refl _
  · exact Within.refl _

theorem State.headerSample_within (s x2 x3) : Within [.regs, .out, .rt, .cmd, .tun, .eng] s (@State.headerSample s x2 x3) := by
  unfold State.headerSample
  try dsimp only
  refine Within.ite (fun _ => ?_) (fun _ => ?_)
  · refine Within.step (State.setRt_within ..) rfl ?_
    refine Within.step (State.checkKnown_within ..) rfl ?_
    refine Within.step (State.raiseFloor_within ..) rfl ?_
    exact Within.refl _
  · refine Within.ite (fun _ => ?_) (fun _ => ?_)
    · refine Within.step (State.loopSample_within ..) rfl ?_
      refine Within.step (State.step60_within ..) rfl ?_
      refine Within.step (State.enterAcquire_within ..) rfl ?_
      refine Within.step (State.setRt_within ..) rfl ?_
      refine Within.step (State.checkKnown_within ..) rfl ?_
      refine Within.step (State.raiseFloor_within ..) rfl ?_
      exact Within.refl _
    · refine Within.ite (fun _ => ?_) (fun _ => ?_)
      · refine Within.ite (fun _ => ?_) (fun _ => ?_)
        · refine Within.ite (fun _ => ?_) (fun _ => ?_)
          · refine Within.step (State.loopSample_within ..) rfl ?_
            refine Within.step (State.setParent_within ..) rfl ?_
            refine Within.step (State.setRt_within ..) rfl ?_
            refine Within.step (State.checkKnown_within ..) rfl ?_
            refine Within.step (State.raiseFloor_within ..) rfl ?_
            exact Within.refl _
          · refine Within.step (State.loopSample_within ..) rfl ?_
            refine Within.step (State.step60_within ..) rfl ?_
            refine Within.step (State.setRt_within ..) rfl ?_
            refine Within.step (State.checkKnown_within ..) rfl ?_
            refine Within.step (State.raiseFloor_within ..) rfl ?_
            exact Within.refl _
        · refine Within.step (State.setRt_within ..) rfl ?_
          refine Within.step (State.checkKnown_within ..) rfl ?_
          refine Within.step (State.raiseFloor_within ..) rfl ?_
          exact Within.refl _
      · refine Within.ite (fun _ => ?_) (fun _ => ?_)
        · refine Within.step (State.enterAcquire_within ..) rfl ?_
          refine Within.step (State.setRt_within ..) rfl ?_
          refine Within.step (State.checkKnown_within ..) rfl ?_
          refine Within.step (State.raiseFloor_within ..) rfl ?_
          exact Within.refl _
        · refine Within.ite (fun _ => ?_) (fun _ => ?_)
          · refine Within.ite (fun _ => ?_) (fun _ => ?_)
            · refine Within.ite (fun _ => ?_) (fun _ => ?_)
              · refine Within.step (State.loopSample_within ..) rfl ?_
                refine Within.step (State.setParent_within ..) rfl ?_
                refine Within.step (State.setRt_within ..) rfl ?_
                refine Within.step (State.checkKnown_within ..) rfl ?_
                refine Within.step (State.raiseFloor_within ..) rfl ?_
                exact Within.refl _
              · refine Within.step (State.bump_within ..) rfl ?_
                refine Within.step (State.setRt_within ..) rfl ?_
                refine Within.step (State.checkKnown_within ..) rfl ?_
                refine Within.step (State.raiseFloor_within ..) rfl ?_
                exact Within.refl _
            · refine Within.ite (fun _ => ?_) (fun _ => ?_)
              · refine Within.step (State.setParent_within ..) rfl ?_
                refine Within.step (State.setRt_within ..) rfl ?_
                refine Within.step (State.checkKnown_within ..) rfl ?_
                refine Within.step (State.raiseFloor_within ..) rfl ?_
                exact Within.refl _
              · refine Within.step (State.setRt_within ..) rfl ?_
                refine Within.step (State.checkKnown_within ..) rfl ?_
                refine Within.step (State.raiseFloor_within ..) rfl ?_
                exact Within.refl _
          · refine Within.ite (fun _ => ?_) (fun _ => ?_)
            · refine Within.ite (fun _ => ?_) (fun _ => ?_)
              · refine Within.ite (fun _ => ?_) (fun _ => ?_)
                · refine Within.ite (fun _ => ?_) (fun _ => ?_)
                  · refine Within.step (State.bump_within ..) rfl ?_
                    refine Within.step (State.setRt_within ..) rfl ?_
                    refine Within.step (State.checkKnown_within ..) rfl ?_
                    refine Within.step (State.raiseFloor_within ..) rfl ?_
                    exact Within.refl _
                  · refine Within.ite (fun _ => ?_) (fun _ => ?_)
                    · refine Within.step (State.setParent_within ..) rfl ?_
                      refine Within.step (State.freeze_within ..) rfl ?_
                      refine Within.step (State.setRt_within ..) rfl ?_
                      refine Within.step (State.checkKnown_within ..) rfl ?_
                      refine Within.step (State.raiseFloor_within ..) rfl ?_
                      exact Within.refl _
                    · refine Within.step (State.loopSample_within ..) rfl ?_
                      refine Within.step (State.setParent_within ..) rfl ?_
                      refine Within.step (State.setRt_within ..) rfl ?_
                      refine Within.step (State.checkKnown_within ..) rfl ?_
                      refine Within.step (State.raiseFloor_within ..) rfl ?_
                      exact Within.refl _
                · refine Within.step (State.setRt_within ..) rfl ?_
                  refine Within.step (State.checkKnown_within ..) rfl ?_
                  refine Within.step (State.raiseFloor_within ..) rfl ?_
                  exact Within.refl _
              · refine Within.ite (fun _ => ?_) (fun _ => ?_)
                · refine Within.ite (fun _ => ?_) (fun _ => ?_)
                  · refine Within.step (State.enterAcquire_within ..) rfl ?_
                    refine Within.step (State.setRt_within ..) rfl ?_
                    refine Within.step (State.checkKnown_within ..) rfl ?_
                    refine Within.step (State.raiseFloor_within ..) rfl ?_
                    exact Within.refl _
                  · refine Within.step (State.loopSample_within ..) rfl ?_
                    refine Within.step (State.setRt_within ..) rfl ?_
                    refine Within.step (State.setParent_within ..) rfl ?_
                    refine Within.step (State.setRt_within ..) rfl ?_
                    refine Within.step (State.checkKnown_within ..) rfl ?_
                    refine Within.step (State.raiseFloor_within ..) rfl ?_
                    exact Within.refl _
                · refine Within.step (State.setRt_within ..) rfl ?_
                  refine Within.step (State.checkKnown_within ..) rfl ?_
                  refine Within.step (State.raiseFloor_within ..) rfl ?_
                  exact Within.refl _
            · refine Within.step (State.setRt_within ..) rfl ?_
              refine Within.step (State.checkKnown_within ..) rfl ?_
              refine Within.step (State.raiseFloor_within ..) rfl ?_
              exact Within.refl _

theorem State.headerTiming_within (s x2 x3) : Within [.regs, .out, .rt, .cmd, .tun, .eng] s (@State.headerTiming s x2 x3) := by
  unfold State.headerTiming
  try dsimp only
  refine Within.ite (fun _ => ?_) (fun _ => ?_)
  · refine Within.step (State.bump_within ..) rfl ?_
    exact Within.refl _
  · refine Within.step (State.headerSample_within ..) rfl ?_
    exact Within.refl _

theorem State.headersAtBoundary_within (s) : Within [.regs, .rt] s (@State.headersAtBoundary s) := by
  unfold State.headersAtBoundary
  exact (Within.step (State.setRt_within ..) rfl (Within.ite (fun _ => (Within.step (State.bump_within ..) rfl (Within.refl _)))
    (fun _ => (Within.refl _))))

theorem State.sendDue_within (s) : Within [.out, .rt, .link] s (@State.sendDue s) := by
  unfold State.sendDue
  try dsimp only
  refine forAll_within (fun _ _ => ?_) ?_
  · refine Within.step (State.sendRecord_within ..) rfl ?_
    exact Within.refl _
  · refine Within.step (State.setRt_within ..) rfl ?_
    exact Within.refl _

theorem State.swapAtBoundary_within (s) : Within [.out, .rt, .link] s (@State.swapAtBoundary s) := by
  unfold State.swapAtBoundary
  try dsimp only
  split
  · exact Within.refl _
  · split
    · refine Within.step (State.setRt_within ..) rfl ?_
      refine Within.step (State.sendRecord_within ..) rfl ?_
      exact Within.refl _
    · refine Within.step (State.setRt_within ..) rfl ?_
      refine Within.step (State.sendRecord_within ..) rfl ?_
      exact Within.refl _
    · refine Within.step (State.setRt_within ..) rfl ?_
      refine Within.step (State.sendRecord_within ..) rfl ?_
      exact Within.refl _
    · refine Within.step (State.setRt_within ..) rfl ?_
      refine Within.step (State.sendRecord_within ..) rfl ?_
      exact Within.refl _
    · exact Within.refl _

theorem State.goAtBoundary_within (s) : Within [.regs, .out, .rt, .cmd, .eng] s (@State.goAtBoundary s) := by
  unfold State.goAtBoundary
  try dsimp only
  split
  · exact Within.refl _
  · refine Within.ite (fun _ => ?_) (fun _ => ?_)
    · exact Within.refl _
    · refine Within.ite (fun _ => ?_) (fun _ => ?_)
      · refine Within.step (State.endSwap_within ..) rfl ?_
        refine Within.step (State.becomeMaster_within ..) rfl ?_
        exact Within.refl _
      · refine Within.step (State.endSwap_within ..) rfl ?_
        refine Within.step (State.takeMaster_within ..) rfl ?_
        exact Within.refl _

theorem State.ownClaim_within (s) : Within [.regs, .out, .rt, .cmd, .link, .eng] s (@State.ownClaim s).1 := by
  unfold State.ownClaim
  try dsimp only
  split
  · refine Within.ite_fst (fun _ => ?_) (fun _ => ?_)
    · dsimp only
      refine Within.step (State.setRt_within ..) rfl ?_
      exact Within.refl _
    · refine Within.ite_fst (fun _ => ?_) (fun _ => ?_)
      · dsimp only
        refine Within.step (State.sendRecord_within ..) rfl ?_
        refine Within.step (State.becomeMaster_within ..) rfl ?_
        refine Within.step (State.setRt_within ..) rfl ?_
        refine Within.step (State.setRt_within ..) rfl ?_
        exact Within.refl _
      · refine Within.ite_fst (fun _ => ?_) (fun _ => ?_)
        · dsimp only
          refine Within.step (State.sendRecord_within ..) rfl ?_
          refine Within.step (State.becomeMaster_within ..) rfl ?_
          refine Within.step (State.setRt_within ..) rfl ?_
          exact Within.refl _
        · dsimp only
          refine Within.step (State.setRt_within ..) rfl ?_
          exact Within.refl _
  · refine Within.ite_fst (fun _ => ?_) (fun _ => ?_)
    · dsimp only
      refine Within.step (State.setRt_within ..) rfl ?_
      exact Within.refl _
    · refine Within.ite_fst (fun _ => ?_) (fun _ => ?_)
      · dsimp only
        refine Within.step (State.sendRecord_within ..) rfl ?_
        refine Within.step (State.overtakeSwap_within ..) rfl ?_
        refine Within.step (State.bump_within ..) rfl ?_
        refine Within.step (State.becomeMaster_within ..) rfl ?_
        refine Within.step (State.setRt_within ..) rfl ?_
        exact Within.refl _
      · refine Within.ite_fst (fun _ => ?_) (fun _ => ?_)
        · dsimp only
          refine Within.step (State.sendRecord_within ..) rfl ?_
          refine Within.step (State.takeEpoch_within ..) rfl ?_
          refine Within.step (State.bump_within ..) rfl ?_
          refine Within.step (State.setRt_within ..) rfl ?_
          exact Within.refl _
        · dsimp only
          refine Within.step (State.setRt_within ..) rfl ?_
          exact Within.refl _

theorem State.sendBeat_within (s x2) : Within [.regs, .out, .rt, .link] s (@State.sendBeat s x2) := by
  unfold State.sendBeat
  try dsimp only
  refine Within.ite (fun _ => ?_) (fun _ => ?_)
  · exact Within.refl _
  · refine Within.ite (fun _ => ?_) (fun _ => ?_)
    · refine Within.step (State.setRt_within ..) rfl ?_
      exact Within.refl _
    · refine Within.step (State.showSuccessors_within ..) rfl ?_
      refine Within.step (State.sendRecord_within ..) rfl ?_
      refine Within.step (State.setRt_within ..) rfl ?_
      exact Within.refl _

theorem State.advanceRound_within (s) : Within [.rt] s (@State.advanceRound s) := by
  unfold State.advanceRound
  exact (Within.step (State.setRt_within ..) rfl (Within.refl _))

theorem State.chooseAtBoundary_within (s) : Within [.regs, .rt] s (@State.chooseAtBoundary s) := by
  unfold State.chooseAtBoundary
  exact (Within.ite (fun _ => (Within.refl _)) (fun _ => (Within.via (Within.ite (fun _ => (Within.step (State.setRt_within ..)
    rfl (Within.refl _))) (fun _ => (Within.refl _))) (Within.step (State.setParent_within ..) rfl (Within.ite (fun _ =>
    (Within.refl _)) (fun _ => (Within.ite (fun _ => (Within.step (State.freeze_within ..) rfl (Within.refl _))) (fun _
    => (Within.refl _)))))))))

theorem State.noteParent_within (s) : Within [.rt] s (@State.noteParent s) := by
  unfold State.noteParent
  exact (Within.step (State.setRt_within ..) rfl (Within.refl _))

theorem State.roundAdvances_within (s) : Within [.regs, .rt] s (@State.roundAdvances s) := by
  unfold State.roundAdvances
  exact (Within.step (State.noteParent_within ..) rfl (Within.step (State.chooseAtBoundary_within ..) rfl (Within.step
    (State.headersAtBoundary_within ..) rfl (Within.step (State.advanceRound_within ..) rfl (Within.refl _)))))

theorem State.timingBoundary_within (s) : Within [.regs, .out, .rt, .cmd, .link, .eng] s (@State.timingBoundary s) := by
  unfold State.timingBoundary
  try dsimp only
  refine Within.step (State.sendDue_within ..) rfl ?_
  refine Within.step (State.swapAtBoundary_within ..) rfl ?_
  refine Within.step (State.sendBeat_within ..) rfl ?_
  refine Within.step (State.ownClaim_within ..) rfl ?_
  refine Within.step (State.goAtBoundary_within ..) rfl ?_
  split
  · refine Within.step (State.takeMaster_within ..) rfl ?_
    exact Within.refl _
  · exact Within.refl _

theorem State.pulse_within (s x2) : Within [.out] s (@State.pulse s x2) := by
  unfold State.pulse
  exact (Within.ite (fun _ => (Within.step (State.emit_within ..) rfl (Within.refl _))) (fun _ => (Within.ite (fun _ =>
    (Within.step (State.emit_within ..) rfl (Within.refl _))) (fun _ => (Within.refl _)))))

theorem State.timingCollection_within (s) : Within [.regs, .out, .rt, .cmd, .eng] s (@State.timingCollection s) := by
  unfold State.timingCollection
  try dsimp only
  refine Within.step (State.checkSwap_within ..) rfl ?_
  refine Within.step (State.pulse_within ..) rfl ?_
  refine Within.step (State.setRt_within ..) rfl ?_
  refine Within.ite (fun _ => ?_) (fun _ => ?_)
  · refine Within.step (State.setRt_within ..) rfl ?_
    refine Within.step (State.setRt_within ..) rfl ?_
    exact Within.refl _
  · refine Within.step (State.setRt_within ..) rfl ?_
    refine Within.step (State.bump_within ..) rfl ?_
    refine Within.step (State.setRt_within ..) rfl ?_
    exact Within.refl _

theorem State.timingSeal_within (s) : Within [.out, .rt, .link] s (@State.timingSeal s) := by
  unfold State.timingSeal
  try dsimp only
  split
  · refine Within.step (State.sendRecord_within ..) rfl ?_
    refine Within.step (State.setRt_within ..) rfl ?_
    refine Within.step (State.pulse_within ..) rfl ?_
    refine Within.step (State.setRt_within ..) rfl ?_
    exact Within.refl _
  · refine Within.step (State.pulse_within ..) rfl ?_
    refine Within.step (State.setRt_within ..) rfl ?_
    exact Within.refl _

theorem execRoundMasterSwap_within (x1 x2 x3 s) : Within [.regs, .out, .rt, .cmd, .eng, .ps, .mem] s (after (@execRoundMasterSwap x1 x2 x3 s) s) := by
  unfold execRoundMasterSwap
  try dsimp only
  refine Within.of_next ?_
  refine State.runOpcode_keeps rfl (fun _ _ => ?_) ?_
  · refine Within.ite_fst (fun _ => ?_) (fun _ => ?_)
    · dsimp only
      exact Within.refl _
    · refine Within.ite_fst (fun _ => ?_) (fun _ => ?_)
      · dsimp only
        exact Within.refl _
      · refine Within.ite_fst (fun _ => ?_) (fun _ => ?_)
        · dsimp only
          exact Within.refl _
        · refine Within.ite_fst (fun _ => ?_) (fun _ => ?_)
          · dsimp only
            exact Within.refl _
          · refine Within.ite_fst (fun _ => ?_) (fun _ => ?_)
            · dsimp only
              exact Within.refl _
            · refine Within.ite_fst (fun _ => ?_) (fun _ => ?_)
              · dsimp only
                exact Within.refl _
              · dsimp only
                refine Within.step (State.setRt_within ..) rfl ?_
                exact Within.refl _
  · exact Within.refl _

theorem execRoundQuery_within (x1 s) : Within [.regs, .out, .cmd, .eng, .ps, .mem] s (after (@execRoundQuery x1 s) s) := by
  unfold execRoundQuery
  try dsimp only
  refine Within.of_next ?_
  refine State.runOpcode_keeps rfl (fun _ _ => ?_) ?_
  · dsimp only
    exact Within.refl _
  · exact Within.refl _

end Machine
end Sys2Proof
end

