-- ==== Sys2Proof/Laws/FrameLinkKeys.lean ====
section
/-!
SUPPORT. The frame of every operation of Machine/LinkKeys.lean: the parts of the state it may change.
-/
namespace Sys2Proof
namespace Machine

theorem State.keyFault_within (s x2 x3) : Within [.regs, .out, .cmd, .eng] s (@State.keyFault s x2 x3) := by
  unfold State.keyFault
  try dsimp only
  refine Within.step (State.notice_within ..) rfl ?_
  exact Within.refl _

theorem State.clearPairs_within (s x2) : Within [.regs, .link] s (@State.clearPairs s x2) := by
  unfold State.clearPairs
  exact (Within.step (State.set_within ..) rfl (Within.step (State.updPort_within ..) rfl (Within.refl _)))

end Machine
end Sys2Proof
end

