-- ==== Sys2Proof/Laws/FrameShadow.lean ====
section
/-!
SUPPORT. The frame of every operation of Machine/Shadow.lean: the parts of the state it may change.
-/
namespace Sys2Proof
namespace Machine

theorem State.rewriteSuccessors_within (s x2 x3) : Within [.rt] s (@State.rewriteSuccessors s x2 x3) := by
  unfold State.rewriteSuccessors
  try dsimp only
  refine Within.ite (fun _ => ?_) (fun _ => ?_)
  · refine Within.step (State.setRt_within ..) rfl ?_
    exact Within.refl _
  · exact Within.refl _

theorem State.applyWrite_within (s x2 x3 x4) : Within [.regs, .rt] s (@State.applyWrite s x2 x3 x4) := by
  unfold State.applyWrite
  try dsimp only
  refine Within.step (State.setWord_within ..) rfl ?_
  refine Within.step (State.rewriteSuccessors_within ..) rfl ?_
  exact Within.refl _

theorem State.applyShadows_within (s) : Within [.regs, .shadow, .rt] s (@State.applyShadows s) := by
  unfold State.applyShadows
  try dsimp only
  refine Within.shadow rfl ?_
  refine forAll_within (fun _ _ => ?_) ?_
  · refine Within.step (State.applyWrite_within ..) rfl ?_
    exact Within.refl _
  · exact Within.refl _

theorem State.applyEntries_within (s x2) : Within [.regs, .rt] s (@State.applyEntries s x2) := by
  unfold State.applyEntries
  try dsimp only
  refine forAll_within (fun _ _ => ?_) ?_
  · refine Within.step (State.applyWrite_within ..) rfl ?_
    exact Within.refl _
  · exact Within.refl _

theorem State.preview_within (s) : Within [.regs, .shadow, .rt] s (@State.preview s) := by
  unfold State.preview
  try dsimp only
  refine forAll_within (fun _ _ => ?_) ?_
  · refine Within.step (State.applyEntries_within ..) rfl ?_
    exact Within.refl _
  · refine Within.step (State.applyShadows_within ..) rfl ?_
    exact Within.refl _

theorem State.shadowWrite_within (s x2 x3 x4) : Within [.shadow] s (@State.shadowWrite s x2 x3 x4) := by
  unfold State.shadowWrite
  exact (Within.shadow rfl (Within.refl _))

end Machine
end Sys2Proof
end

