-- ==== Sys2Proof/Laws/FrameSheet.lean ====
section
/-!
SUPPORT. The frame of every operation of Machine/Sheet.lean: the parts of the state it may change.
-/
namespace Sys2Proof
namespace Machine

theorem State.setDir_within (s x2 x3) : Within [.tun] s (@State.setDir s x2 x3) := by
  unfold State.setDir
  exact (Within.tun rfl (Within.refl _))

theorem State.updDir_within (s x2 x3) : Within [.tun] s (@State.updDir s x2 x3) := by
  unfold State.updDir
  exact (Within.step (State.setDir_within ..) rfl (Within.refl _))

theorem State.capacityChanged_within (s x2 x3) : Within [.regs, .tun] s (@State.capacityChanged s x2 x3) := by
  unfold State.capacityChanged
  exact (Within.via (Within.ite (fun _ => (Within.step (State.bump_within ..) rfl (Within.step (State.setFlag_within ..) rfl
    (Within.via (Within.ite (fun _ => (Within.step (State.bump_within ..) rfl (Within.refl _))) (fun _ => (Within.refl
    _))) (Within.step (State.setDir_within ..) rfl (Within.refl _)))))) (fun _ => (Within.refl _))) (Within.step
    (State.set_within ..) rfl (Within.refl _)))

end Machine
end Sys2Proof
end

