-- ==== Sys2Proof/Laws/FrameLaneOps.lean ====
section
/-!
SUPPORT. The frame of every operation of Machine/LaneOps.lean: the parts of the state it may change.
-/
namespace Sys2Proof
namespace Machine

theorem State.syncLanes_within (s x2) : Within [.regs] s (@State.syncLanes s x2) := by
  unfold State.syncLanes
  exact (forAll_within (fun _ _ => (Within.step (State.set_within ..) rfl (Within.step (State.set_within ..) rfl (Within.refl
    _)))) (Within.refl _))

theorem State.setMasks_within (s x2 x3 x4) : Within [.regs, .out, .cmd, .link, .tun, .eng] s (@State.setMasks s x2 x3 x4) := by
  unfold State.setMasks
  try dsimp only
  refine Within.ite (fun _ => ?_) (fun _ => ?_)
  · refine Within.step (State.syncLanes_within ..) rfl ?_
    exact Within.refl _
  · refine Within.step (State.capacityChanged_within ..) rfl ?_
    refine Within.step (State.notice_within ..) rfl ?_
    refine Within.step (State.syncLanes_within ..) rfl ?_
    refine Within.step (State.set_within ..) rfl ?_
    refine Within.step (State.set_within ..) rfl ?_
    refine Within.step (State.updPort_within ..) rfl ?_
    exact Within.refl _

theorem State.setTaps_within (s x2 x3 x4) : Within [.regs] s (@State.setTaps s x2 x3 x4) := by
  unfold State.setTaps
  exact (forAll_within (fun _ _ => (Within.step (State.setS_within ..) rfl (Within.refl _))) (Within.refl _))

theorem State.presetAll_within (s x2) : Within [.regs] s (@State.presetAll s x2) := by
  unfold State.presetAll
  exact (forAll_within (fun _ _ => (Within.step (State.setTaps_within ..) rfl (Within.refl _))) (Within.refl _))

theorem State.sendTrain_within (s x2) : Within [.link] s (@State.sendTrain s x2) := by
  unfold State.sendTrain
  try dsimp only
  refine Within.ite (fun _ => ?_) (fun _ => ?_)
  · refine Within.step (State.updPort_within ..) rfl ?_
    exact Within.refl _
  · exact Within.refl _

theorem State.sendGroup_within (s x2 x3) : Within [.out, .link] s (@State.sendGroup s x2 x3) := by
  unfold State.sendGroup
  try dsimp only
  split
  · refine Within.step (State.updPort_within ..) rfl ?_
    refine Within.step (State.emit_within ..) rfl ?_
    exact Within.refl _
  · refine Within.ite (fun _ => ?_) (fun _ => ?_)
    · refine Within.step (State.emit_within ..) rfl ?_
      exact Within.refl _
    · refine Within.step (State.emit_within ..) rfl ?_
      exact Within.refl _

theorem State.askTaps_within (s x2 x3) : Within [.seed, .link] s (@State.askTaps s x2 x3) := by
  unfold State.askTaps
  try dsimp only
  refine Within.ite (fun _ => ?_) (fun _ => ?_)
  · split
    · refine Within.step (State.updPort_within ..) rfl ?_
      refine Within.step (State.draw_within ..) rfl ?_
      exact Within.refl _
    · refine Within.step (State.draw_within ..) rfl ?_
      exact Within.refl _
  · exact Within.refl _

theorem State.sendGroups_within (s x2) : Within [.out, .seed, .link] s (@State.sendGroups s x2) := by
  unfold State.sendGroups
  try dsimp only
  refine Within.ite (fun _ => ?_) (fun _ => ?_)
  · exact Within.refl _
  · refine Within.step (State.updPort_within ..) rfl ?_
    refine forAll_within (fun _ _ => ?_) ?_
    · refine Within.step (State.sendGroup_within ..) rfl ?_
      exact Within.refl _
    · refine forAll_within (fun _ _ => ?_) ?_
      · refine Within.step (State.askTaps_within ..) rfl ?_
        exact Within.refl _
      · exact Within.refl _

theorem State.groupTick_within (s) : Within [.out, .seed, .link] s (@State.groupTick s) := by
  unfold State.groupTick
  try dsimp only
  refine forAll_within (fun _ _ => ?_) ?_
  · refine Within.step (State.sendGroups_within ..) rfl ?_
    exact Within.refl _
  · exact Within.refl _

theorem State.setPortState_within (s x2 x3) : Within [.regs, .out, .cmd, .link, .tun, .eng] s (@State.setPortState s x2 x3) := by
  unfold State.setPortState
  try dsimp only
  refine Within.ite (fun _ => ?_) (fun _ => ?_)
  · refine Within.step (State.notice_within ..) rfl ?_
    refine Within.step (State.updPort_within ..) rfl ?_
    refine Within.step (State.sendTrain_within ..) rfl ?_
    refine Within.step (State.capacityChanged_within ..) rfl ?_
    refine Within.step (State.set_within ..) rfl ?_
    exact Within.refl _
  · refine Within.ite (fun _ => ?_) (fun _ => ?_)
    · refine Within.step (State.notice_within ..) rfl ?_
      refine Within.step (State.sendTrain_within ..) rfl ?_
      refine Within.step (State.capacityChanged_within ..) rfl ?_
      refine Within.step (State.set_within ..) rfl ?_
      exact Within.refl _
    · refine Within.step (State.sendTrain_within ..) rfl ?_
      refine Within.step (State.capacityChanged_within ..) rfl ?_
      refine Within.step (State.set_within ..) rfl ?_
      exact Within.refl _

theorem State.clearMasks_within (s x2) : Within [.regs, .out, .cmd, .link, .tun, .eng] s (@State.clearMasks s x2) := by
  unfold State.clearMasks
  try dsimp only
  refine Within.step (State.setMasks_within ..) rfl ?_
  refine forAll_within (fun _ _ => ?_) ?_
  · refine Within.step (State.set_within ..) rfl ?_
    refine Within.step (State.set_within ..) rfl ?_
    exact Within.refl _
  · exact Within.refl _

theorem State.clearSkew_within (s x2) : Within [.regs] s (@State.clearSkew s x2) := by
  unfold State.clearSkew
  try dsimp only
  refine Within.step (State.setWord_within ..) rfl ?_
  exact Within.refl _

theorem State.manageModule_within (s x2 x3) : Within [.regs, .out, .link] s (@State.manageModule s x2 x3) := by
  unfold State.manageModule
  try dsimp only
  refine Within.ite (fun _ => ?_) (fun _ => ?_)
  · refine Within.step (State.emit_within ..) rfl ?_
    refine Within.step (State.set_within ..) rfl ?_
    refine Within.step (State.set_within ..) rfl ?_
    refine Within.step (State.set_within ..) rfl ?_
    refine Within.step (State.updPort_within ..) rfl ?_
    exact Within.refl _
  · refine Within.step (State.set_within ..) rfl ?_
    refine Within.step (State.set_within ..) rfl ?_
    refine Within.step (State.set_within ..) rfl ?_
    refine Within.step (State.updPort_within ..) rfl ?_
    exact Within.refl _

theorem State.enterHunt_within (s x2) : Within [.regs, .out, .seed, .cmd, .link, .tun, .eng] s (@State.enterHunt s x2) := by
  unfold State.enterHunt
  try dsimp only
  refine Within.step (State.presetAll_within ..) rfl ?_
  refine Within.step (State.clearSkew_within ..) rfl ?_
  refine Within.step (State.clearMasks_within ..) rfl ?_
  refine Within.step (State.set_within ..) rfl ?_
  refine Within.step (State.setPortState_within ..) rfl ?_
  refine Within.step (State.updPort_within ..) rfl ?_
  refine Within.step (State.draw_within ..) rfl ?_
  exact Within.refl _

theorem State.enterDisabled_within (s x2) : Within [.regs, .out, .cmd, .link, .tun, .eng] s (@State.enterDisabled s x2) := by
  unfold State.enterDisabled
  try dsimp only
  refine Within.step (State.clearMasks_within ..) rfl ?_
  refine Within.step (State.set_within ..) rfl ?_
  refine Within.step (State.setPortState_within ..) rfl ?_
  refine Within.step (State.updPort_within ..) rfl ?_
  exact Within.refl _

theorem State.holdPort_within (s x2) : Within [.regs, .out, .cmd, .link, .tun, .eng] s (@State.holdPort s x2) := by
  unfold State.holdPort
  try dsimp only
  refine Within.step (State.enterDisabled_within ..) rfl ?_
  refine Within.step (State.setFlag_within ..) rfl ?_
  exact Within.refl _

theorem State.enterCheck_within (s x2) : Within [.regs, .out, .cmd, .link, .tun, .eng] s (@State.enterCheck s x2) := by
  unfold State.enterCheck
  try dsimp only
  refine Within.step (State.setPortState_within ..) rfl ?_
  exact Within.refl _

theorem State.saveTaps_within (s x2) : Within [.link] s (@State.saveTaps s x2) := by
  unfold State.saveTaps
  exact (Within.step (State.updPort_within ..) rfl (Within.refl _))

theorem State.rateStep_within (s x2) : Within [.regs, .out, .cmd, .link, .tun, .eng] s (@State.rateStep s x2) := by
  unfold State.rateStep
  try dsimp only
  refine Within.step (State.syncLanes_within ..) rfl ?_
  refine Within.step (State.setPortState_within ..) rfl ?_
  refine Within.step (State.updPort_within ..) rfl ?_
  refine Within.step (State.set_within ..) rfl ?_
  exact Within.refl _

theorem State.enterStep_within (s x2) : Within [.regs, .out, .cmd, .link, .tun, .eng] s (@State.enterStep s x2) := by
  unfold State.enterStep
  try dsimp only
  refine Within.ite (fun _ => ?_) (fun _ => ?_)
  · refine Within.ite (fun _ => ?_) (fun _ => ?_)
    · refine Within.step (State.rateStep_within ..) rfl ?_
      refine Within.step (State.setPortState_within ..) rfl ?_
      refine Within.step (State.updPort_within ..) rfl ?_
      refine Within.step (State.saveTaps_within ..) rfl ?_
      exact Within.refl _
    · refine Within.step (State.setPortState_within ..) rfl ?_
      refine Within.step (State.updPort_within ..) rfl ?_
      refine Within.step (State.saveTaps_within ..) rfl ?_
      exact Within.refl _
  · refine Within.step (State.enterCheck_within ..) rfl ?_
    refine Within.step (State.setPortState_within ..) rfl ?_
    refine Within.step (State.saveTaps_within ..) rfl ?_
    exact Within.refl _

theorem State.enterRelockHalf_within (s x2) : Within [.regs, .out, .cmd, .link, .tun, .eng] s (@State.enterRelockHalf s x2) := by
  unfold State.enterRelockHalf
  try dsimp only
  refine Within.step (State.syncLanes_within ..) rfl ?_
  refine Within.step (State.setPortState_within ..) rfl ?_
  refine Within.step (State.updPort_within ..) rfl ?_
  refine forAll_within (fun _ _ => ?_) ?_
  · refine Within.step (State.setWord_within ..) rfl ?_
    exact Within.refl _
  · refine Within.step (State.set_within ..) rfl ?_
    exact Within.refl _

theorem State.enterTuneHalf_within (s x2) : Within [.regs, .out, .cmd, .link, .tun, .eng] s (@State.enterTuneHalf s x2) := by
  unfold State.enterTuneHalf
  try dsimp only
  refine Within.step (State.setMasks_within ..) rfl ?_
  refine Within.step (State.setPortState_within ..) rfl ?_
  refine Within.step (State.updPort_within ..) rfl ?_
  exact Within.refl _

theorem State.advancePort_within (s x2) : Within [.regs, .out, .cmd, .link, .tun, .eng] s (@State.advancePort s x2) := by
  unfold State.advancePort
  try dsimp only
  split
  · refine Within.ite (fun _ => ?_) (fun _ => ?_)
    · refine Within.step (State.setPortState_within ..) rfl ?_
      exact Within.refl _
    · exact Within.refl _
  · refine Within.ite (fun _ => ?_) (fun _ => ?_)
    · refine Within.step (State.enterTuneHalf_within ..) rfl ?_
      exact Within.refl _
    · exact Within.refl _
  · refine Within.ite (fun _ => ?_) (fun _ => ?_)
    · refine Within.step (State.enterStep_within ..) rfl ?_
      exact Within.refl _
    · exact Within.refl _
  · refine Within.ite (fun _ => ?_) (fun _ => ?_)
    · refine Within.step (State.rateStep_within ..) rfl ?_
      exact Within.refl _
    · exact Within.refl _
  · refine Within.ite (fun _ => ?_) (fun _ => ?_)
    · refine Within.step (State.setPortState_within ..) rfl ?_
      exact Within.refl _
    · exact Within.refl _
  · refine Within.ite (fun _ => ?_) (fun _ => ?_)
    · refine Within.step (State.enterCheck_within ..) rfl ?_
      exact Within.refl _
    · exact Within.refl _
  · refine Within.ite (fun _ => ?_) (fun _ => ?_)
    · refine Within.step (State.enterCheck_within ..) rfl ?_
      refine Within.step (State.setMasks_within ..) rfl ?_
      exact Within.refl _
    · exact Within.refl _
  · exact Within.refl _

theorem State.planOnActive_within (s x2) : Within [.link] s (@State.planOnActive s x2) := by
  unfold State.planOnActive
  try dsimp only
  refine Within.ite (fun _ => ?_) (fun _ => ?_)
  · exact Within.refl _
  · refine Within.step (State.updPort_within ..) rfl ?_
    refine Within.step (State.updPort_within ..) rfl ?_
    exact Within.refl _

theorem State.enterActive_within (s x2) : Within [.regs, .out, .seed, .cmd, .link, .tun, .eng] s (@State.enterActive s x2) := by
  unfold State.enterActive
  try dsimp only
  refine Within.ite (fun _ => ?_) (fun _ => ?_)
  · refine Within.step (State.holdPort_within ..) rfl ?_
    refine Within.step (State.notice_within ..) rfl ?_
    exact Within.refl _
  · refine Within.ite (fun _ => ?_) (fun _ => ?_)
    · refine Within.step (State.enterHunt_within ..) rfl ?_
      exact Within.refl _
    · refine Within.ite (fun _ => ?_) (fun _ => ?_)
      · refine Within.step (State.enterHunt_within ..) rfl ?_
        refine Within.step (State.bump_within ..) rfl ?_
        refine Within.step (State.finishWaiters_within ..) rfl ?_
        refine Within.step (State.planOnActive_within ..) rfl ?_
        refine Within.step (State.setPortState_within ..) rfl ?_
        refine Within.step (State.updPort_within ..) rfl ?_
        exact Within.refl _
      · refine Within.ite (fun _ => ?_) (fun _ => ?_)
        · refine Within.step (State.holdPort_within ..) rfl ?_
          refine Within.step (State.keyFault_within ..) rfl ?_
          refine Within.ite (fun _ => ?_) (fun _ => ?_)
          · refine Within.step (State.keyFault_within ..) rfl ?_
            refine Within.step (State.set_within ..) rfl ?_
            refine Within.step (State.updPort_within ..) rfl ?_
            refine Within.step (State.finishWaiters_within ..) rfl ?_
            refine Within.step (State.planOnActive_within ..) rfl ?_
            refine Within.step (State.setPortState_within ..) rfl ?_
            refine Within.step (State.updPort_within ..) rfl ?_
            exact Within.refl _
          · refine Within.step (State.set_within ..) rfl ?_
            refine Within.step (State.updPort_within ..) rfl ?_
            refine Within.step (State.finishWaiters_within ..) rfl ?_
            refine Within.step (State.planOnActive_within ..) rfl ?_
            refine Within.step (State.setPortState_within ..) rfl ?_
            refine Within.step (State.updPort_within ..) rfl ?_
            exact Within.refl _
        · refine Within.ite (fun _ => ?_) (fun _ => ?_)
          · refine Within.step (State.keyFault_within ..) rfl ?_
            refine Within.step (State.set_within ..) rfl ?_
            refine Within.step (State.updPort_within ..) rfl ?_
            refine Within.step (State.finishWaiters_within ..) rfl ?_
            refine Within.step (State.planOnActive_within ..) rfl ?_
            refine Within.step (State.setPortState_within ..) rfl ?_
            refine Within.step (State.updPort_within ..) rfl ?_
            exact Within.refl _
          · refine Within.step (State.set_within ..) rfl ?_
            refine Within.step (State.updPort_within ..) rfl ?_
            refine Within.step (State.finishWaiters_within ..) rfl ?_
            refine Within.step (State.planOnActive_within ..) rfl ?_
            refine Within.step (State.setPortState_within ..) rfl ?_
            refine Within.step (State.updPort_within ..) rfl ?_
            exact Within.refl _

end Machine
end Sys2Proof
end

