-- ==== Sys2Proof/Laws/FrameLinks.lean ====
section
/-!
SUPPORT. The frame of every operation of Machine/Links.lean: the parts of the state it may change.
-/
namespace Sys2Proof
namespace Machine

theorem State.holdBreaks_within (s) : Within [.regs, .out, .cmd, .link, .eng] s (@State.holdBreaks s) := by
  unfold State.holdBreaks
  try dsimp only
  refine forAll_within (fun _ _ => ?_) ?_
  · refine Within.step (State.notice_within ..) rfl ?_
    exact Within.refl _
  · refine forAll_within (fun _ _ => ?_) ?_
    · refine Within.step (State.notice_within ..) rfl ?_
      exact Within.refl _
    · refine Within.link rfl ?_
      refine Within.step (State.bump_within ..) rfl ?_
      exact Within.refl _

theorem State.rootMoves_within (s x2 x3) : Within [.regs, .out, .cmd, .link, .eng] s (@State.rootMoves s x2 x3) := by
  unfold State.rootMoves
  try dsimp only
  refine Within.ite (fun _ => ?_) (fun _ => ?_)
  · exact Within.refl _
  · refine Within.step (State.notice_within ..) rfl ?_
    refine Within.link rfl ?_
    exact Within.refl _

theorem State.watchRoot_within (s) : Within [.regs, .out, .cmd, .link, .eng] s (@State.watchRoot s) := by
  unfold State.watchRoot
  try dsimp only
  refine Within.ite (fun _ => ?_) (fun _ => ?_)
  · split
    · refine Within.ite (fun _ => ?_) (fun _ => ?_)
      · refine Within.step (State.rootMoves_within ..) rfl ?_
        exact Within.refl _
      · exact Within.refl _
    · exact Within.refl _
  · refine Within.ite (fun _ => ?_) (fun _ => ?_)
    · refine Within.step (State.rootMoves_within ..) rfl ?_
      exact Within.refl _
    · split
      · refine Within.ite (fun _ => ?_) (fun _ => ?_)
        · exact Within.refl _
        · refine Within.ite (fun _ => ?_) (fun _ => ?_)
          · refine Within.step (State.rootMoves_within ..) rfl ?_
            exact Within.refl _
          · refine Within.ite (fun _ => ?_) (fun _ => ?_)
            · refine Within.step (State.rootMoves_within ..) rfl ?_
              exact Within.refl _
            · exact Within.refl _
      · refine Within.ite (fun _ => ?_) (fun _ => ?_)
        · exact Within.refl _
        · refine Within.step (State.rootMoves_within ..) rfl ?_
          exact Within.refl _

theorem State.keepRoot_within (s) : Within [.regs, .out, .cmd, .link, .eng] s (@State.keepRoot s) := by
  unfold State.keepRoot
  try dsimp only
  refine Within.step (State.watchRoot_within ..) rfl ?_
  refine Within.step (State.set_within ..) rfl ?_
  exact Within.refl _

theorem State.takeHeader_within (s x2 x3) : Within [.regs, .out, .cmd, .link, .eng] s (@State.takeHeader s x2 x3) := by
  unfold State.takeHeader
  try dsimp only
  refine Within.step (State.keepRoot_within ..) rfl ?_
  refine Within.step (State.holdBreaks_within ..) rfl ?_
  refine Within.step (State.updPort_within ..) rfl ?_
  refine Within.ite (fun _ => ?_) (fun _ => ?_)
  · refine Within.step (State.notice_within ..) rfl ?_
    refine Within.step (State.setFlag_within ..) rfl ?_
    refine Within.step (State.set_within ..) rfl ?_
    refine Within.step (State.setFlag_within ..) rfl ?_
    exact Within.refl _
  · refine Within.step (State.setFlag_within ..) rfl ?_
    refine Within.step (State.set_within ..) rfl ?_
    refine Within.step (State.setFlag_within ..) rfl ?_
    exact Within.refl _

theorem execRoundHeader_within (x1 x2 x3 s) : Within [.regs, .out, .rt, .cmd, .link, .tun, .eng] s (after (@execRoundHeader x1 x2 x3 s) s) := by
  unfold execRoundHeader
  try dsimp only
  refine Within.of_next ?_
  refine Within.ite (fun _ => ?_) (fun _ => ?_)
  · exact Within.refl _
  · refine Within.ite (fun _ => ?_) (fun _ => ?_)
    · refine Within.step (State.bump_within ..) rfl ?_
      refine Within.step (State.at_within ..) rfl ?_
      exact Within.refl _
    · refine Within.step (State.headerTiming_within ..) rfl ?_
      refine Within.step (State.takeHeader_within ..) rfl ?_
      refine Within.step (State.at_within ..) rfl ?_
      exact Within.refl _

theorem State.tagFails_within (s x2) : Within [.regs, .out, .cmd, .link, .tun, .eng] s (@State.tagFails s x2) := by
  unfold State.tagFails
  try dsimp only
  refine Within.ite (fun _ => ?_) (fun _ => ?_)
  · refine Within.step (State.holdPort_within ..) rfl ?_
    refine Within.step (State.keyFault_within ..) rfl ?_
    refine Within.step (State.setFlag_within ..) rfl ?_
    refine Within.step (State.updPort_within ..) rfl ?_
    refine Within.step (State.bump_within ..) rfl ?_
    exact Within.refl _
  · refine Within.step (State.updPort_within ..) rfl ?_
    refine Within.step (State.bump_within ..) rfl ?_
    exact Within.refl _

theorem execEnvelope_within (x1 x2 x3 s) : Within [.regs, .out, .cmd, .link, .tun, .eng] s (after (@execEnvelope x1 x2 x3 s) s) := by
  unfold execEnvelope
  try dsimp only
  refine Within.of_next ?_
  refine Within.ite (fun _ => ?_) (fun _ => ?_)
  · exact Within.refl _
  · refine Within.ite (fun _ => ?_) (fun _ => ?_)
    · refine Within.step (State.bump_within ..) rfl ?_
      refine Within.step (State.bump_within ..) rfl ?_
      exact Within.refl _
    · refine Within.ite (fun _ => ?_) (fun _ => ?_)
      · refine Within.step (State.bump_within ..) rfl ?_
        refine Within.step (State.bump_within ..) rfl ?_
        exact Within.refl _
      · refine Within.ite (fun _ => ?_) (fun _ => ?_)
        · refine Within.step (State.bump_within ..) rfl ?_
          refine Within.step (State.bump_within ..) rfl ?_
          exact Within.refl _
        · refine Within.ite (fun _ => ?_) (fun _ => ?_)
          · refine Within.step (State.tagFails_within ..) rfl ?_
            refine Within.step (State.bump_within ..) rfl ?_
            exact Within.refl _
          · refine Within.ite (fun _ => ?_) (fun _ => ?_)
            · refine Within.step (State.bump_within ..) rfl ?_
              refine Within.step (State.updPort_within ..) rfl ?_
              refine Within.step (State.bump_within ..) rfl ?_
              exact Within.refl _
            · refine Within.ite (fun _ => ?_) (fun _ => ?_)
              · refine Within.step (State.bump_within ..) rfl ?_
                refine Within.step (State.updPort_within ..) rfl ?_
                refine Within.step (State.bump_within ..) rfl ?_
                exact Within.refl _
              · refine Within.ite (fun _ => ?_) (fun _ => ?_)
                · refine Within.step (State.bump_within ..) rfl ?_
                  refine Within.step (State.updPort_within ..) rfl ?_
                  refine Within.step (State.bump_within ..) rfl ?_
                  exact Within.refl _
                · refine Within.step (State.updPort_within ..) rfl ?_
                  refine Within.step (State.updPort_within ..) rfl ?_
                  refine Within.step (State.bump_within ..) rfl ?_
                  exact Within.refl _

theorem execBreakObserved_within (x1 s) : Within [.regs, .out, .cmd, .link, .eng] s (after (@execBreakObserved x1 s) s) := by
  unfold execBreakObserved
  try dsimp only
  refine Within.of_next ?_
  refine Within.ite (fun _ => ?_) (fun _ => ?_)
  · refine Within.step (State.holdBreaks_within ..) rfl ?_
    refine Within.step (State.updPort_within ..) rfl ?_
    exact Within.refl _
  · exact Within.refl _

theorem execBreakWithdrawn_within (x1 s) : Within [.regs, .out, .cmd, .link, .eng] s (after (@execBreakWithdrawn x1 s) s) := by
  unfold execBreakWithdrawn
  try dsimp only
  refine Within.of_next ?_
  refine Within.ite (fun _ => ?_) (fun _ => ?_)
  · refine Within.step (State.holdBreaks_within ..) rfl ?_
    refine Within.step (State.updPort_within ..) rfl ?_
    exact Within.refl _
  · exact Within.refl _

theorem execSteeringSnapshot_within (s) : Within [.link] s (after (@execSteeringSnapshot s) s) := by
  unfold execSteeringSnapshot
  exact (Within.link rfl (Within.refl _))

theorem State.setRoot_within (s x2) : Within [.regs, .out, .cmd, .link, .eng] s (@State.setRoot s x2) := by
  unfold State.setRoot
  try dsimp only
  refine Within.ite (fun _ => ?_) (fun _ => ?_)
  · exact Within.refl _
  · refine Within.step (State.notice_within ..) rfl ?_
    refine Within.link rfl ?_
    refine Within.step (State.setFlag_within ..) rfl ?_
    refine Within.step (State.setFlag_within ..) rfl ?_
    exact Within.refl _

theorem execHostLinkUp_within (s) : Within [.link] s (after (@execHostLinkUp s) s) := by
  unfold execHostLinkUp
  exact (Within.link rfl (Within.refl _))

theorem execHostLinkLoss_within (s) : Within [.regs, .out, .cmd, .link, .eng] s (after (@execHostLinkLoss s) s) := by
  unfold execHostLinkLoss
  try dsimp only
  refine Within.of_next ?_
  refine Within.ite (fun _ => ?_) (fun _ => ?_)
  · refine Within.step (State.setRoot_within ..) rfl ?_
    refine Within.link rfl ?_
    exact Within.refl _
  · refine Within.link rfl ?_
    exact Within.refl _

theorem execConfiguredRootTake_within (s) : Within [.regs, .out, .cmd, .link, .eng] s (after (@execConfiguredRootTake s) s) := by
  unfold execConfiguredRootTake
  try dsimp only
  refine Within.of_next ?_
  refine Within.ite (fun _ => ?_) (fun _ => ?_)
  · refine Within.step (State.setRoot_within ..) rfl ?_
    exact Within.refl _
  · exact Within.refl _

theorem execStandbyTake_within (s) : Within [.regs, .out, .cmd, .link, .eng] s (after (@execStandbyTake s) s) := by
  unfold execStandbyTake
  try dsimp only
  refine Within.of_next ?_
  refine Within.ite (fun _ => ?_) (fun _ => ?_)
  · refine Within.step (State.setRoot_within ..) rfl ?_
    exact Within.refl _
  · exact Within.refl _

theorem execStandbyYield_within (s) : Within [.regs, .out, .cmd, .link, .eng] s (after (@execStandbyYield s) s) := by
  unfold execStandbyYield
  try dsimp only
  refine Within.of_next ?_
  refine Within.ite (fun _ => ?_) (fun _ => ?_)
  · refine Within.step (State.setRoot_within ..) rfl ?_
    exact Within.refl _
  · exact Within.refl _

theorem State.steerAtBoundary_within (s) : Within [.regs, .link] s (@State.steerAtBoundary s) := by
  unfold State.steerAtBoundary
  exact (Within.step (State.set_within ..) rfl (Within.step (State.set_within ..) rfl (Within.step (State.set_within ..) rfl
    (Within.step (State.set_within ..) rfl (Within.link rfl (Within.refl _))))))

theorem State.applyRxPower_within (s x2 x3) : Within [.regs, .out, .cmd, .link, .tun, .eng] s (@State.applyRxPower s x2 x3) := by
  unfold State.applyRxPower
  try dsimp only
  refine Within.step (State.setMasks_within ..) rfl ?_
  refine Within.step (State.updPort_within ..) rfl ?_
  refine forAll_within (fun _ _ => ?_) ?_
  · refine Within.step (State.set_within ..) rfl ?_
    exact Within.refl _
  · exact Within.refl _

theorem State.restLanes_within (s x2) : Within [.regs] s (@State.restLanes s x2) := by
  unfold State.restLanes
  try dsimp only
  refine Within.step (State.syncLanes_within ..) rfl ?_
  refine forAll_within (fun _ _ => ?_) ?_
  · refine Within.step (State.set_within ..) rfl ?_
    exact Within.refl _
  · exact Within.refl _

theorem State.lanesAtBoundary_within (s x2) : Within [.regs, .out, .cmd, .link, .tun, .eng] s (@State.lanesAtBoundary s x2) := by
  unfold State.lanesAtBoundary
  try dsimp only
  refine Within.step (State.updPort_within ..) rfl ?_
  refine Within.ite (fun _ => ?_) (fun _ => ?_)
  · refine forAll_within (fun _ _ => ?_) ?_
    · refine Within.step (State.applyRxPower_within ..) rfl ?_
      exact Within.refl _
    · refine Within.step (State.updPort_within ..) rfl ?_
      split
      · refine Within.ite (fun _ => ?_) (fun _ => ?_)
        · refine Within.ite (fun _ => ?_) (fun _ => ?_)
          · refine Within.step (State.restLanes_within ..) rfl ?_
            refine Within.step (State.setMasks_within ..) rfl ?_
            refine Within.step (State.updPort_within ..) rfl ?_
            exact Within.refl _
          · refine Within.step (State.updPort_within ..) rfl ?_
            exact Within.refl _
        · exact Within.refl _
      · exact Within.refl _
  · refine Within.step (State.updPort_within ..) rfl ?_
    split
    · refine Within.ite (fun _ => ?_) (fun _ => ?_)
      · refine Within.ite (fun _ => ?_) (fun _ => ?_)
        · refine Within.step (State.restLanes_within ..) rfl ?_
          refine Within.step (State.setMasks_within ..) rfl ?_
          refine Within.step (State.updPort_within ..) rfl ?_
          exact Within.refl _
        · refine Within.step (State.updPort_within ..) rfl ?_
          exact Within.refl _
      · exact Within.refl _
    · exact Within.refl _

theorem State.neighbourAtBoundary_within (s x2) : Within [.regs, .link] s (@State.neighbourAtBoundary s x2) := by
  unfold State.neighbourAtBoundary
  exact (Within.step (State.updPort_within ..) rfl (Within.ite (fun _ => (Within.step (State.setFlag_within ..) rfl (Within.refl
    _))) (fun _ => (Within.refl _))))

theorem State.rolesAtBoundary_within (s) : Within [.regs, .out, .cmd, .link, .eng] s (@State.rolesAtBoundary s) := by
  unfold State.rolesAtBoundary
  try dsimp only
  refine Within.step (State.setFlag_within ..) rfl ?_
  refine Within.ite (fun _ => ?_) (fun _ => ?_)
  · refine Within.step (State.setRoot_within ..) rfl ?_
    refine Within.ite (fun _ => ?_) (fun _ => ?_)
    · refine Within.step (State.setRoot_within ..) rfl ?_
      refine Within.link rfl ?_
      refine Within.step (State.setFlag_within ..) rfl ?_
      refine Within.link rfl ?_
      exact Within.refl _
    · refine Within.step (State.setFlag_within ..) rfl ?_
      refine Within.link rfl ?_
      exact Within.refl _
  · refine Within.ite (fun _ => ?_) (fun _ => ?_)
    · refine Within.step (State.setRoot_within ..) rfl ?_
      refine Within.link rfl ?_
      refine Within.step (State.setFlag_within ..) rfl ?_
      refine Within.link rfl ?_
      exact Within.refl _
    · refine Within.step (State.setFlag_within ..) rfl ?_
      refine Within.link rfl ?_
      exact Within.refl _

theorem State.linksAtBoundary_within (s) : Within [.regs, .out, .cmd, .link, .tun, .eng] s (@State.linksAtBoundary s) := by
  unfold State.linksAtBoundary
  try dsimp only
  refine Within.step (State.rolesAtBoundary_within ..) rfl ?_
  refine Within.step (State.keepRoot_within ..) rfl ?_
  refine Within.step (State.holdBreaks_within ..) rfl ?_
  refine forAll_within (fun _ _ => ?_) ?_
  · refine Within.step (State.neighbourAtBoundary_within ..) rfl ?_
    refine Within.step (State.lanesAtBoundary_within ..) rfl ?_
    exact Within.refl _
  · refine Within.step (State.steerAtBoundary_within ..) rfl ?_
    exact Within.refl _

theorem State.sendHeaders_within (s) : Within [.out, .link] s (@State.sendHeaders s) := by
  unfold State.sendHeaders
  try dsimp only
  refine forAll_within (fun _ _ => ?_) ?_
  · refine Within.ite (fun _ => ?_) (fun _ => ?_)
    · refine Within.step (State.dealt_within ..) rfl ?_
      refine Within.step (State.emit_within ..) rfl ?_
      exact Within.refl _
    · exact Within.refl _
  · exact Within.refl _

end Machine
end Sys2Proof
end

