-- ==== Sys2Proof/Laws/FrameEngOps.lean ====
section
/-!
SUPPORT. The frame of every operation of Machine/EngOps.lean: the parts of the state it may change.
-/
namespace Sys2Proof
namespace Machine

theorem State.setEngine_within (s x2 x3) : Within [.eng] s (@State.setEngine s x2 x3) := by
  unfold State.setEngine
  exact (Within.eng rfl (Within.refl _))

theorem State.updEngine_within (s x2 x3) : Within [.eng] s (@State.updEngine s x2 x3) := by
  unfold State.updEngine
  exact (Within.step (State.setEngine_within ..) rfl (Within.refl _))

theorem State.syncEngine_within (s x2) : Within [.regs] s (@State.syncEngine s x2) := by
  unfold State.syncEngine
  exact (Within.step (State.set_within ..) rfl (Within.step (State.set_within ..) rfl (Within.refl _)))

theorem State.syncContext_within (s x2) : Within [.regs] s (@State.syncContext s x2) := by
  unfold State.syncContext
  exact (by split; exacts [(Within.step (State.setWord_within ..) rfl (Within.refl _)), (Within.step (State.set_within ..) rfl
    (Within.step (State.setFlag_within ..) rfl (Within.step (State.set_within ..) rfl (Within.step (State.set_within ..)
    rfl (Within.step (State.set_within ..) rfl (Within.step (State.setFlag_within ..) rfl (Within.refl _)))))))])

theorem State.setContext_within (s x2 x3) : Within [.regs, .eng] s (@State.setContext s x2 x3) := by
  unfold State.setContext
  exact (Within.step (State.syncContext_within ..) rfl (Within.eng rfl (Within.refl _)))

theorem State.placeContext_within (s x2 x3) : ∀ t, State.placeContext s x2 x3 = some t → Within [.regs, .eng] s t := by
  intro t h
  unfold State.placeContext at h
  split at h
  · exact nomatch h
  · split at h
    · exact nomatch h
    · obtain rfl := Option.some.inj h
      exact Within.step (State.syncEngine_within ..) rfl (Within.step (State.setContext_within ..) rfl (Within.refl _))

theorem State.abandon_within (s x2 x3) : Within [.regs, .out, .cmd, .eng] s (@State.abandon s x2 x3) := by
  unfold State.abandon
  try dsimp only
  split
  · exact Within.refl _
  · refine Within.ite (fun _ => ?_) (fun _ => ?_)
    · exact Within.refl _
    · refine Within.ite (fun _ => ?_) (fun _ => ?_)
      · refine Within.step (State.notice_within ..) rfl ?_
        refine Within.step (State.setContext_within ..) rfl ?_
        refine Within.step (State.bump_within ..) rfl ?_
        refine Within.step (State.emit_within ..) rfl ?_
        exact Within.refl _
      · refine Within.step (State.bump_within ..) rfl ?_
        refine Within.step (State.emit_within ..) rfl ?_
        exact Within.refl _

theorem State.releaseContext_within (s x2) : Within [.regs, .out, .cmd, .eng] s (@State.releaseContext s x2) := by
  unfold State.releaseContext
  exact (by split; exacts [(Within.refl _), (Within.step (State.syncEngine_within ..) rfl (Within.step (State.syncContext_within
    ..) rfl (Within.eng rfl (Within.step (State.abandon_within ..) rfl (Within.refl _)))))])

end Machine
end Sys2Proof
end

