-- ==== Sys2Proof/Laws/FrameRegOps.lean ====
section
/-!
SUPPORT. The frame of every operation of Machine/RegOps.lean: the parts of the state it may change.
-/
namespace Sys2Proof
namespace Machine

theorem State.setBox_within (s x2 x3) : Within [.tun] s (@State.setBox s x2 x3) := by
  unfold State.setBox
  exact (Within.tun rfl (Within.refl _))

theorem State.updBox_within (s x2 x3) : Within [.tun] s (@State.updBox s x2 x3) := by
  unfold State.updBox
  exact (Within.step (State.setBox_within ..) rfl (Within.refl _))

theorem State.setBookRec_within (s x2 x3) : Within [.reg] s (@State.setBookRec s x2 x3) := by
  unfold State.setBookRec
  exact (Within.reg rfl (Within.refl _))

theorem State.updBookRec_within (s x2 x3) : Within [.reg] s (@State.updBookRec s x2 x3) := by
  unfold State.updBookRec
  exact (Within.reg rfl (Within.refl _))

theorem State.syncRegistry_within (s x2) : Within [.regs, .reg] s (@State.syncRegistry s x2) := by
  unfold State.syncRegistry
  try dsimp only
  refine Within.step (State.set_within ..) rfl ?_
  refine Within.step (State.set_within ..) rfl ?_
  refine Within.step (State.set_within ..) rfl ?_
  refine Within.step (State.set_within ..) rfl ?_
  refine Within.step (State.set_within ..) rfl ?_
  refine Within.step (State.set_within ..) rfl ?_
  refine Within.reg rfl ?_
  refine Within.step (State.set_within ..) rfl ?_
  refine Within.step (State.set_within ..) rfl ?_
  exact Within.refl _

theorem State.syncWindow_within (s x2) : Within [.regs] s (@State.syncWindow s x2) := by
  unfold State.syncWindow
  exact (by split; exacts [(Within.refl _), (Within.step (State.setFlag_within ..) rfl (Within.step (State.set_within ..) rfl
    (Within.step (State.set_within ..) rfl (Within.refl _))))])

theorem State.takeEntryNo_within (s) : ∀ x, State.takeEntryNo s = some x → Within [.reg] s x.2 := by
  intro x h
  unfold State.takeEntryNo at h
  split at h
  · obtain rfl := Option.some.inj h
    exact Within.reg rfl (Within.refl _)
  · split at h
    · obtain rfl := Option.some.inj h
      exact Within.reg rfl (Within.refl _)
    · exact nomatch h

theorem State.freeEntry_within (s x2) : Within [.regs, .reg] s (@State.freeEntry s x2) := by
  unfold State.freeEntry
  exact (by split; exacts [(Within.refl _), (Within.step (State.syncRegistry_within ..) rfl (Within.reg rfl (Within.refl _)))])

theorem State.updEntryReg_within (s x2 x3) : Within [.reg] s (@State.updEntryReg s x2 x3) := by
  unfold State.updEntryReg
  exact (Within.reg rfl (Within.refl _))

theorem State.makeDead_within (s x2 x3 x4 x5) : Within [.regs, .reg] s (@State.makeDead s x2 x3 x4 x5) := by
  unfold State.makeDead
  exact (by split; exacts [(Within.refl _), (Within.ite (fun _ => (Within.refl _)) (fun _ => (Within.step
    (State.syncRegistry_within ..) rfl (Within.step (State.bump_within ..) rfl (Within.reg rfl (Within.step
    (State.updEntryReg_within ..) rfl (Within.refl _)))))))])

theorem State.fillSeq_within (s x2) : Within [.reg] s (@State.fillSeq s x2) := by
  unfold State.fillSeq
  try dsimp only
  refine Within.reg rfl ?_
  exact Within.refl _

theorem State.completeWrites_within (s) : Within [.regs, .reg] s (@State.completeWrites s) := by
  unfold State.completeWrites
  try dsimp only
  refine forAll_within (fun _ _ => ?_) ?_
  · refine Within.step (State.bump_within ..) rfl ?_
    refine Within.step (State.updEntryReg_within ..) rfl ?_
    exact Within.refl _
  · exact Within.refl _

end Machine
end Sys2Proof
end

