-- ==== Sys2Proof/Laws/FramePool.lean ====
section
/-!
SUPPORT. The frame of every operation of Machine/Pool.lean: the parts of the state it may change.
-/
namespace Sys2Proof
namespace Machine

theorem State.tellCongestion_within (s x2) : Within [.regs, .out, .cmd, .eng] s (@State.tellCongestion s x2) := by
  unfold State.tellCongestion
  try dsimp only
  refine Within.step (State.notice_within ..) rfl ?_
  refine Within.step (State.setFlag_within ..) rfl ?_
  exact Within.refl _

theorem State.setPoolFree_within (s x2) : Within [.regs, .out, .cmd, .sw, .eng] s (@State.setPoolFree s x2) := by
  unfold State.setPoolFree
  try dsimp only
  refine Within.ite (fun _ => ?_) (fun _ => ?_)
  · refine Within.step (State.tellCongestion_within ..) rfl ?_
    refine Within.step (State.bump_within ..) rfl ?_
    refine Within.ite (fun _ => ?_) (fun _ => ?_)
    · refine Within.step (State.set_within ..) rfl ?_
      refine Within.sw rfl ?_
      refine Within.step (State.set_within ..) rfl ?_
      exact Within.refl _
    · refine Within.sw rfl ?_
      refine Within.step (State.set_within ..) rfl ?_
      exact Within.refl _
  · refine Within.ite (fun _ => ?_) (fun _ => ?_)
    · refine Within.step (State.tellCongestion_within ..) rfl ?_
      refine Within.ite (fun _ => ?_) (fun _ => ?_)
      · refine Within.step (State.set_within ..) rfl ?_
        refine Within.sw rfl ?_
        refine Within.step (State.set_within ..) rfl ?_
        exact Within.refl _
      · refine Within.sw rfl ?_
        refine Within.step (State.set_within ..) rfl ?_
        exact Within.refl _
    · refine Within.ite (fun _ => ?_) (fun _ => ?_)
      · refine Within.step (State.set_within ..) rfl ?_
        refine Within.sw rfl ?_
        refine Within.step (State.set_within ..) rfl ?_
        exact Within.refl _
      · refine Within.sw rfl ?_
        refine Within.step (State.set_within ..) rfl ?_
        exact Within.refl _

end Machine
end Sys2Proof
end

