-- ==== Sys2Proof/Laws/FrameBridgeOps.lean ====
section
/-!
SUPPORT. The frame of every operation of Machine/BridgeOps.lean: the parts of the state it may change.
-/
namespace Sys2Proof
namespace Machine

theorem State.setCanBus_within (s x2 x3) : Within [.bridge] s (@State.setCanBus s x2 x3) := by
  unfold State.setCanBus
  exact (Within.bridge rfl (Within.refl _))

theorem State.setMasterBus_within (s x2 x3) : Within [.bridge] s (@State.setMasterBus s x2 x3) := by
  unfold State.setMasterBus
  exact (Within.bridge rfl (Within.refl _))

theorem State.fieldEvent_within (s x2 x3 x4) : Within [.regs, .out, .cmd, .eng] s (@State.fieldEvent s x2 x3 x4) := by
  unfold State.fieldEvent
  try dsimp only
  refine Within.step (State.notice_within ..) rfl ?_
  exact Within.refl _

theorem State.emptyPigeon_within (s x2) : Within [.regs, .out, .cmd, .sw, .eng, .reg] s (@State.emptyPigeon s x2) := by
  unfold State.emptyPigeon
  try dsimp only
  refine Within.step (State.syncRegistry_within ..) rfl ?_
  refine Within.step (State.setPoolFree_within ..) rfl ?_
  refine Within.step (State.set_within ..) rfl ?_
  refine Within.step (State.set_within ..) rfl ?_
  refine Within.reg rfl ?_
  exact Within.refl _

theorem State.emptyPigeons_within (s x2) : Within [.regs, .out, .cmd, .sw, .eng, .reg] s (@State.emptyPigeons s x2) := by
  unfold State.emptyPigeons
  try dsimp only
  refine Within.reg rfl ?_
  refine forAll_within (fun _ _ => ?_) ?_
  · refine Within.step (State.emptyPigeon_within ..) rfl ?_
    exact Within.refl _
  · exact Within.refl _

theorem State.releaseValues_within (s x2) : Within [.regs, .bridge] s (@State.releaseValues s x2) := by
  unfold State.releaseValues
  exact (by split; exacts [(Within.refl _), (Within.step (State.bump_within ..) rfl (Within.bridge rfl (Within.refl _)))])

end Machine
end Sys2Proof
end

