-- ==== Sys2Proof/Laws/FrameTunOps.lean ====
section
/-!
SUPPORT. The frame of every operation of Machine/TunOps.lean: the parts of the state it may change.
-/
namespace Sys2Proof
namespace Machine

theorem State.syncResources_within (s) : Within [.regs] s (@State.syncResources s) := by
  unfold State.syncResources
  exact (Within.step (State.set_within ..) rfl (Within.step (State.set_within ..) rfl (Within.refl _)))

theorem State.setBoxState_within (s x2 x3) : Within [.regs, .out, .cmd, .tun, .eng, .ps] s (@State.setBoxState s x2 x3) := by
  unfold State.setBoxState
  try dsimp only
  refine Within.ite (fun _ => ?_) (fun _ => ?_)
  · exact Within.refl _
  · refine Within.step (State.activity_within ..) rfl ?_
    refine Within.step (State.notice_within ..) rfl ?_
    refine Within.step (State.syncResources_within ..) rfl ?_
    refine Within.step (State.setBox_within ..) rfl ?_
    exact Within.refl _

theorem State.setFlow_within (s x2 x3) : Within [.tun] s (@State.setFlow s x2 x3) := by
  unfold State.setFlow
  exact (Within.tun rfl (Within.refl _))

theorem State.updFlow_within (s x2 x3) : Within [.tun] s (@State.updFlow s x2 x3) := by
  unfold State.updFlow
  exact (Within.tun rfl (Within.refl _))

theorem State.addFlow_some (o : Option Nat) (s : State) (f : Flow) (x : Nat × State)
    (h : (match o with | some i => some (i, (s.setFlow i f).syncResources) | none => none) = some x) :
    Within [.regs, .tun] s x.2 := by
  cases o with
  | none => exact nomatch h
  | some i =>
    obtain rfl := Option.some.inj h
    exact Within.step (State.syncResources_within ..) rfl (Within.step (State.setFlow_within ..) rfl (Within.refl _))

theorem State.addFlow_within (s x2) : ∀ x, State.addFlow s x2 = some x → Within [.regs, .tun] s x.2 :=
  fun x h => State.addFlow_some _ s x2 x h

theorem State.dropFlow_within (s x2) : Within [.regs, .tun, .sw, .mem] s (@State.dropFlow s x2) := by
  unfold State.dropFlow
  try dsimp only
  refine Within.step (State.syncResources_within ..) rfl ?_
  refine Within.sw rfl ?_
  refine Within.step (State.setWord_within ..) rfl ?_
  refine Within.update (s := s) ?_ rfl rfl rfl rfl (fun p hp => ?_)
  · exact Within.refl _
  · cases p <;> first | rfl | exact absurd (by decide) hp

theorem State.openRecord_within (s x2) : Within [.regs, .out, .cmd, .sw, .eng, .reg] s (@State.openRecord s x2) := by
  unfold State.openRecord
  try dsimp only
  refine Within.ite (fun _ => ?_) (fun _ => ?_)
  · refine Within.step (State.syncRegistry_within ..) rfl ?_
    refine Within.step (State.syncWindow_within ..) rfl ?_
    refine Within.step (State.setBookRec_within ..) rfl ?_
    refine Within.step (State.emptyPigeons_within ..) rfl ?_
    exact Within.refl _
  · exact Within.refl _

theorem State.openBox_within (s x2 x3 x4 x5 x6 x7 x8 x9 x10) :
    Within [.regs, .out, .cmd, .tun, .sw, .eng, .reg, .ps] s (State.openBox s x2 x3 x4 x5 x6 x7 x8 x9 x10) := by
  have key : ∀ u : State, Within [.regs, .out, .cmd, .tun, .sw, .eng, .reg, .ps] u ((u.placeContext x3 x2).getD u) := by
    intro u
    cases h : u.placeContext x3 x2 with
    | none => exact Within.refl _
    | some v => exact Within.weaken (State.placeContext_within _ _ _ _ h) rfl
  unfold State.openBox
  exact Within.step (State.openRecord_within ..) rfl (Within.step (State.setBoxState_within ..) rfl
    (Within.via (key _) (Within.step (State.setBox_within ..) rfl (Within.refl _))))

theorem State.boxOpens_within (s x2 x3) : Within [.regs, .out, .cmd, .tun, .eng, .reg, .ps] s (@State.boxOpens s x2 x3) := by
  unfold State.boxOpens
  try dsimp only
  refine Within.step (State.setBoxState_within ..) rfl ?_
  refine Within.ite (fun _ => ?_) (fun _ => ?_)
  · split
    · refine Within.step (State.updBox_within ..) rfl ?_
      refine Within.step (Within.of_some_snd (State.addFlow_within _ _) (by assumption)) rfl ?_
      refine Within.step (State.updBookRec_within ..) rfl ?_
      refine Within.step (State.setBox_within ..) rfl ?_
      exact Within.refl _
    · refine Within.step (State.updBookRec_within ..) rfl ?_
      refine Within.step (State.setBox_within ..) rfl ?_
      exact Within.refl _
  · refine Within.step (State.updBox_within ..) rfl ?_
    refine Within.step (State.updBookRec_within ..) rfl ?_
    refine Within.step (State.setBox_within ..) rfl ?_
    exact Within.refl _

theorem State.boxFrees_within (s x2) : Within [.regs, .out, .cmd, .tun, .sw, .eng, .reg, .bridge, .ps, .mem] s (@State.boxFrees s x2) := by
  unfold State.boxFrees
  try dsimp only
  refine Within.step (State.finishWaiters_within ..) rfl ?_
  refine Within.step (State.syncRegistry_within ..) rfl ?_
  refine Within.step (State.setBoxState_within ..) rfl ?_
  refine Within.step (State.updBox_within ..) rfl ?_
  refine Within.step (State.emptyPigeons_within ..) rfl ?_
  split
  · refine Within.step (State.dropFlow_within ..) rfl ?_
    refine Within.step (State.releaseValues_within ..) rfl ?_
    refine Within.step (State.releaseContext_within ..) rfl ?_
    exact Within.refl _
  · refine Within.step (State.releaseValues_within ..) rfl ?_
    refine Within.step (State.releaseContext_within ..) rfl ?_
    exact Within.refl _

theorem State.sendClose_within (s x2 x3) : Within [.tun, .eng] s (@State.sendClose s x2 x3) := by
  unfold State.sendClose
  try dsimp only
  refine Within.ite (fun _ => ?_) (fun _ => ?_)
  · refine Within.step (State.sendBox0_within ..) rfl ?_
    exact Within.refl _
  · refine Within.step (State.updBox_within ..) rfl ?_
    refine Within.step (State.sendBox0_within ..) rfl ?_
    exact Within.refl _

theorem State.boxDrains_within (s x2) : Within [.regs, .out, .cmd, .tun, .eng, .ps] s (@State.boxDrains s x2) := by
  unfold State.boxDrains
  try dsimp only
  refine Within.step (State.setBoxState_within ..) rfl ?_
  exact Within.refl _

end Machine
end Sys2Proof
end

