-- ==== Sys2Proof/Laws/FrameSwitchOps.lean ====
section
/-!
SUPPORT. The frame of every operation of Machine/SwitchOps.lean: the parts of the state it may change.
-/
namespace Sys2Proof
namespace Machine

theorem State.charge_within (s x2 x3 x4 x5) : Within [.regs, .out, .cmd, .sw, .eng] s (@State.charge s x2 x3 x4 x5) := by
  unfold State.charge
  try dsimp only
  refine Within.step (State.setPoolFree_within ..) rfl ?_
  refine Within.step (State.set_within ..) rfl ?_
  refine Within.step (State.set_within ..) rfl ?_
  exact Within.refl _

theorem State.freeCells_within (s x2 x3) : Within [.regs, .out, .cmd, .sw, .eng] s (@State.freeCells s x2 x3) := by
  unfold State.freeCells
  try dsimp only
  split
  · exact Within.refl _
  · refine Within.ite (fun _ => ?_) (fun _ => ?_)
    · exact Within.refl _
    · refine Within.step (State.setPoolFree_within ..) rfl ?_
      refine Within.sw rfl ?_
      refine Within.step (State.set_within ..) rfl ?_
      refine Within.step (State.set_within ..) rfl ?_
      exact Within.refl _

theorem State.decideUnit_within (s x2 x3 x4 x5) : Within [.sw] s (@State.decideUnit s x2 x3 x4 x5).2 := by
  unfold State.decideUnit
  exact (Within.ite_snd (fun _ => (Within.refl _)) (fun _ => (Within.ite_snd (fun _ => (Within.refl _)) (fun _ =>
    (Within.ite_snd (fun _ => (Within.refl _)) (fun _ => (Within.ite_snd (fun _ => (Within.refl _)) (fun _ =>
    (Within.ite_snd (fun _ => (Within.refl _)) (fun _ => (Within.sw rfl (Within.refl _))))))))))))

theorem State.setWindow_within (s x2 x3) : Within [.sw] s (@State.setWindow s x2 x3) := by
  unfold State.setWindow
  exact (Within.sw rfl (Within.refl _))

theorem State.credit_within (s x2 x3 x4) : Within [.sw] s (@State.credit s x2 x3 x4).2 := by
  unfold State.credit
  exact (Within.ite_snd (fun _ => (Within.refl _)) (fun _ => (Within.ite_snd (fun _ => (Within.refl _)) (fun _ =>
    (Within.ite_snd (fun _ => (Within.step (State.setWindow_within ..) rfl (Within.refl _))) (fun _ => (Within.refl
    _)))))))

theorem State.colourOf_within (s x2 x3) : Within [.tun] s (@State.colourOf s x2 x3).2 := by
  unfold State.colourOf
  try dsimp only
  split
  · dsimp only
    exact Within.refl _
  · refine Within.ite_snd (fun _ => ?_) (fun _ => ?_)
    · dsimp only
      exact Within.refl _
    · split
      · dsimp only
        refine Within.step (State.setFlow_within ..) rfl ?_
        exact Within.refl _
      · split
        · dsimp only
          refine Within.step (State.updBox_within ..) rfl ?_
          exact Within.refl _
        · dsimp only
          exact Within.refl _
  · split
    · dsimp only
      refine Within.step (State.setFlow_within ..) rfl ?_
      exact Within.refl _
    · dsimp only
      exact Within.refl _
  · split
    · dsimp only
      refine Within.step (State.setFlow_within ..) rfl ?_
      exact Within.refl _
    · dsimp only
      refine Within.step (State.updBox_within ..) rfl ?_
      exact Within.refl _

theorem State.makeCopy_within (s x2 x3 x4 x5) : Within [.regs, .out, .cmd, .sw, .eng] s (@State.makeCopy s x2 x3 x4 x5) := by
  unfold State.makeCopy
  try dsimp only
  refine Within.ite (fun _ => ?_) (fun _ => ?_)
  · refine Within.step (State.bump_within ..) rfl ?_
    exact Within.refl _
  · refine Within.ite (fun _ => ?_) (fun _ => ?_)
    · refine Within.sw rfl ?_
      exact Within.refl _
    · refine Within.step (State.setPoolFree_within ..) rfl ?_
      refine Within.sw rfl ?_
      exact Within.refl _

theorem State.mirror_within (s x2 x3) : Within [.regs, .out, .cmd, .sw, .eng] s (@State.mirror s x2 x3) := by
  unfold State.mirror
  try dsimp only
  split
  · exact Within.refl _
  · refine Within.ite (fun _ => ?_) (fun _ => ?_)
    · exact Within.refl _
    · refine forAll_within (fun _ _ => ?_) ?_
      · refine Within.step (State.makeCopy_within ..) rfl ?_
        exact Within.refl _
      · refine Within.sw rfl ?_
        exact Within.refl _

theorem State.freeUnit_within (s x2) : Within [.regs, .out, .cmd, .sw, .eng] s (@State.freeUnit s x2) := by
  unfold State.freeUnit
  try dsimp only
  split
  · exact Within.refl _
  · refine Within.sw rfl ?_
    refine Within.step (State.freeCells_within ..) rfl ?_
    exact Within.refl _

theorem State.setCopies_within (s x2 x3) : Within [.regs, .out, .cmd, .sw, .eng] s (@State.setCopies s x2 x3) := by
  unfold State.setCopies
  try dsimp only
  refine Within.ite (fun _ => ?_) (fun _ => ?_)
  · refine Within.sw rfl ?_
    exact Within.refl _
  · refine Within.step (State.setPoolFree_within ..) rfl ?_
    refine Within.sw rfl ?_
    exact Within.refl _

theorem State.dropCopy_within (s x2) : Within [.regs, .out, .cmd, .sw, .eng] s (@State.dropCopy s x2) := by
  unfold State.dropCopy
  try dsimp only
  split
  · exact Within.refl _
  · refine Within.step (State.setCopies_within ..) rfl ?_
    refine Within.sw rfl ?_
    exact Within.refl _

theorem State.freeFrame_within (s x2) : Within [.regs, .out, .cmd, .sw, .eng] s (@State.freeFrame s x2) := by
  unfold State.freeFrame
  try dsimp only
  refine forAll_within (fun _ _ => ?_) ?_
  · refine Within.step (State.freeUnit_within ..) rfl ?_
    exact Within.refl _
  · exact Within.refl _

theorem State.dropFromFlow_within (s x2) : Within [.tun] s (@State.dropFromFlow s x2) := by
  unfold State.dropFromFlow
  exact (Within.ite (fun _ => (Within.step (State.updFlow_within ..) rfl (Within.refl _))) (fun _ => (Within.refl _)))

theorem State.noteJoin_within (s x2 x3 x4) : Within [.tun] s (@State.noteJoin s x2 x3 x4) := by
  unfold State.noteJoin
  exact (by split; exacts [(Within.step (State.updDir_within ..) rfl (Within.refl _)), (Within.refl _)])

theorem State.placeUnit_within (s x2 x3 x4 x5 x6 x7 x8) : Within [.regs, .out, .cmd, .tun, .sw, .eng] s (@State.placeUnit s x2 x3 x4 x5 x6 x7 x8) := by
  unfold State.placeUnit
  try dsimp only
  refine Within.step (State.mirror_within ..) rfl ?_
  refine Within.step (State.noteJoin_within ..) rfl ?_
  refine Within.step (State.bump_within ..) rfl ?_
  refine Within.step (State.charge_within ..) rfl ?_
  refine Within.sw rfl ?_
  exact Within.refl _

theorem State.p9Sent_within (s x2) : Within [.eng] s (@State.p9Sent s x2) := by
  unfold State.p9Sent
  try dsimp only
  refine Within.ite (fun _ => ?_) (fun _ => ?_)
  · refine Within.eng rfl ?_
    exact Within.refl _
  · exact Within.refl _

end Machine
end Sys2Proof
end

