-- ==== Sys2Proof/Laws/FrameSwitch.lean ====
section
/-!
SUPPORT. The frame of every operation of Machine/Switch.lean: the parts of the state it may change.
-/
namespace Sys2Proof
namespace Machine

theorem State.allActive_within (s) : Within [.regs] s (@State.allActive s) := by
  unfold State.allActive
  try dsimp only
  refine forAll_within (fun _ _ => ?_) ?_
  · refine Within.step (State.set_within ..) rfl ?_
    refine Within.step (State.set_within ..) rfl ?_
    exact Within.refl _
  · exact Within.refl _

theorem State.wayOut_within (s x2 x3) : Within [.regs, .tun] s (@State.wayOut s x2 x3).2 := by
  unfold State.wayOut
  exact (by split; exacts [(Within.step (State.bump_within ..) rfl (Within.refl _)), (Within.step (State.bump_within ..) rfl
    (Within.refl _)), (Within.step (State.bump_within ..) rfl (Within.refl _)), (Within.refl _), (Within.via
    (Within.ite_snd (fun _ => (Within.step (State.bump_within ..) rfl (Within.refl _))) (fun _ => (State.when_within
    (fun _ => (Within.step (State.updFlow_within ..) rfl (Within.refl _))) (State.when_within (fun _ => (Within.step
    (State.bump_within ..) rfl (Within.refl _))) (Within.refl _))))) (State.when_within (fun _ => (Within.step
    (State.bump_within ..) rfl (Within.refl _))) (Within.refl _)))])

theorem State.wayFrom_within (s x2 x3 x4) : Within [.regs, .tun] s (@State.wayFrom s x2 x3 x4).2 := by
  induction x4 generalizing s x2 x3 with
  | zero => exact Within.step (State.bump_within ..) rfl (Within.refl _)
  | succ n ih =>
    unfold State.wayFrom
    exact Within.ite_snd (fun _ => Within.ite_snd (fun _ => Within.step (State.wayOut_within ..) rfl (Within.refl _)) (fun _ => by
      split
      · exact Within.ite_snd (fun _ => Within.step (ih ..) rfl (Within.step (State.bump_within ..) rfl (Within.refl _)))
          (fun _ => Within.step (State.bump_within ..) rfl (Within.refl _))
      · exact Within.step (State.bump_within ..) rfl (Within.refl _)))
      (fun _ => Within.step (State.wayOut_within ..) rfl (Within.refl _))

theorem State.way_within (s x2) : Within [.regs, .tun] s (@State.way s x2).2 := by
  unfold State.way
  try dsimp only
  refine Within.step (State.wayFrom_within ..) rfl ?_
  exact Within.refl _

theorem State.isoDiscard_within (s x2 x3 x4) : ∀ t, State.isoDiscard s x2 x3 x4 = some t → Within [.regs, .tun] s t := by
  intro t h
  unfold State.isoDiscard at h
  split at h
  · exact nomatch h
  · dsimp only at h
    split at h
    · exact nomatch h
    · obtain rfl := Option.some.inj h
      exact Within.step (State.dropFromFlow_within ..) rfl (State.when_within
        (fun _ => Within.step (State.bump_within ..) rfl (Within.refl _)) (Within.refl _))

theorem State.refuseUnit_within (s x2 x3 x4) : Within [.regs, .out, .cmd, .tun, .sw, .eng] s (@State.refuseUnit s x2 x3 x4) := by
  unfold State.refuseUnit
  try dsimp only
  refine Within.step (State.freeFrame_within ..) rfl ?_
  refine Within.step (State.dropFromFlow_within ..) rfl ?_
  refine Within.step (State.bump_within ..) rfl ?_
  exact Within.refl _

theorem State.decideWay_within (s x2 x3 x4 x5 x6) : Within [.regs, .out, .cmd, .tun, .sw, .eng] s (@State.decideWay s x2 x3 x4 x5 x6).1 := by
  unfold State.decideWay
  try dsimp only
  refine Within.ite_fst (fun _ => ?_) (fun _ => ?_)
  · refine Within.ite_fst (fun _ => ?_) (fun _ => ?_)
    · dsimp only
      refine Within.step (State.refuseUnit_within ..) rfl ?_
      exact Within.refl _
    · dsimp only
      refine Within.step (State.placeUnit_within ..) rfl ?_
      exact Within.refl _
  · refine Within.ite_fst (fun _ => ?_) (fun _ => ?_)
    · dsimp only
      refine Within.step (State.placeUnit_within ..) rfl ?_
      refine Within.step (State.decideUnit_within ..) rfl ?_
      exact Within.refl _
    · refine Within.ite_fst (fun _ => ?_) (fun _ => ?_)
      · dsimp only
        refine Within.step (State.decideUnit_within ..) rfl ?_
        exact Within.refl _
      · dsimp only
        refine Within.step (State.refuseUnit_within ..) rfl ?_
        refine Within.step (State.decideUnit_within ..) rfl ?_
        exact Within.refl _

theorem State.holdUnit_within (s x2 x3 x4 x5) : Within [.sw] s (@State.holdUnit s x2 x3 x4 x5) := by
  unfold State.holdUnit
  try dsimp only
  refine Within.sw rfl ?_
  exact Within.refl _

theorem State.takeUnit_within (s x2 x3 x4 x5 x6) : Within [.regs, .out, .cmd, .tun, .sw, .eng] s (@State.takeUnit s x2 x3 x4 x5 x6) := by
  unfold State.takeUnit
  try dsimp only
  refine Within.ite (fun _ => ?_) (fun _ => ?_)
  · exact Within.refl _
  · split
    · refine Within.step (State.isoDiscard_within _ _ _ _ _ (by assumption)) rfl ?_
      exact Within.refl _
    · refine Within.ite (fun _ => ?_) (fun _ => ?_)
      · refine Within.step (State.holdUnit_within ..) rfl ?_
        refine Within.step (State.decideWay_within ..) rfl ?_
        exact Within.refl _
      · refine Within.step (State.decideWay_within ..) rfl ?_
        exact Within.refl _

theorem State.originate_within (s x2) : Within [.tun] s (@State.originate s x2).2 := by
  unfold State.originate
  try dsimp only
  refine Within.ite_snd (fun _ => ?_) (fun _ => ?_)
  · dsimp only
    exact Within.refl _
  · refine Within.ite_snd (fun _ => ?_) (fun _ => ?_)
    · dsimp only
      refine Within.step (State.colourOf_within ..) rfl ?_
      exact Within.refl _
    · refine Within.ite_snd (fun _ => ?_) (fun _ => ?_)
      · dsimp only
        refine Within.step (State.colourOf_within ..) rfl ?_
        exact Within.refl _
      · dsimp only
        refine Within.step (State.updBox_within ..) rfl ?_
        refine Within.step (State.colourOf_within ..) rfl ?_
        exact Within.refl _

theorem State.admitUnit_within (s x2 x3) : Within [.regs, .out, .cmd, .tun, .sw, .eng] s (@State.admitUnit s x2 x3) := by
  unfold State.admitUnit
  try dsimp only
  split
  · refine Within.step (State.takeUnit_within ..) rfl ?_
    refine Within.step (State.originate_within ..) rfl ?_
    refine Within.ite_snd (fun _ => ?_) (fun _ => ?_)
    · refine Within.step (State.credit_within ..) rfl ?_
      exact Within.refl _
    · dsimp only
      exact Within.refl _
  · split
    · refine Within.step (State.takeUnit_within ..) rfl ?_
      refine Within.step (Within.of_snd (State.way_within ..) (by assumption)) rfl ?_
      refine Within.step (State.originate_within ..) rfl ?_
      refine Within.ite_snd (fun _ => ?_) (fun _ => ?_)
      · refine Within.step (State.credit_within ..) rfl ?_
        exact Within.refl _
      · dsimp only
        exact Within.refl _
    · refine Within.step (Within.of_snd (State.way_within ..) (by assumption)) rfl ?_
      refine Within.step (State.originate_within ..) rfl ?_
      refine Within.ite_snd (fun _ => ?_) (fun _ => ?_)
      · refine Within.step (State.credit_within ..) rfl ?_
        exact Within.refl _
      · dsimp only
        exact Within.refl _

theorem State.decideWritten_within (s x2 x3) : Within [.regs, .out, .cmd, .tun, .sw, .eng] s (@State.decideWritten s x2 x3) := by
  unfold State.decideWritten
  try dsimp only
  refine Within.ite (fun _ => ?_) (fun _ => ?_)
  · refine Within.step (State.bump_within ..) rfl ?_
    exact Within.refl _
  · refine Within.ite (fun _ => ?_) (fun _ => ?_)
    · refine Within.step (State.bump_within ..) rfl ?_
      exact Within.refl _
    · refine Within.ite (fun _ => ?_) (fun _ => ?_)
      · refine Within.ite (fun _ => ?_) (fun _ => ?_)
        · exact Within.refl _
        · refine Within.step (State.bump_within ..) rfl ?_
          exact Within.refl _
      · refine Within.step (State.admitUnit_within ..) rfl ?_
        exact Within.refl _

theorem State.writes_within (s x2) : Within [.sw] s (@State.writes s x2) := by
  unfold State.writes
  try dsimp only
  refine Within.sw rfl ?_
  exact Within.refl _

theorem State.offerWrite_within (s x2 x3) : Within [.regs, .out, .cmd, .tun, .sw, .eng] s (@State.offerWrite s x2 x3) := by
  unfold State.offerWrite
  try dsimp only
  refine Within.ite (fun _ => ?_) (fun _ => ?_)
  · refine Within.step (State.decideWritten_within ..) rfl ?_
    refine Within.step (State.writes_within ..) rfl ?_
    exact Within.refl _
  · refine Within.ite (fun _ => ?_) (fun _ => ?_)
    · refine Within.sw rfl ?_
      exact Within.refl _
    · refine Within.ite (fun _ => ?_) (fun _ => ?_)
      · exact Within.refl _
      · refine Within.step (State.bump_within ..) rfl ?_
        exact Within.refl _

theorem State.feedPort_within (s x2) : Within [.regs, .out, .cmd, .tun, .sw, .eng] s (@State.feedPort s x2) := by
  unfold State.feedPort
  try dsimp only
  refine Within.ite (fun _ => ?_) (fun _ => ?_)
  · exact Within.refl _
  · split
    · refine Within.step (State.offerWrite_within ..) rfl ?_
      refine Within.step (State.p9Sent_within ..) rfl ?_
      refine Within.eng rfl ?_
      exact Within.refl _
    · refine Within.ite (fun _ => ?_) (fun _ => ?_)
      · exact Within.refl _
      · split
        · refine Within.step (State.offerWrite_within ..) rfl ?_
          refine Within.step (State.p9Sent_within ..) rfl ?_
          refine Within.eng rfl ?_
          refine Within.step (State.updEngine_within ..) rfl ?_
          exact Within.refl _
        · exact Within.refl _

theorem State.postUnit_within (s x2) : Within [.regs, .out, .cmd, .tun, .sw, .eng] s (@State.postUnit s x2) := by
  unfold State.postUnit
  try dsimp only
  refine Within.step (State.feedPort_within ..) rfl ?_
  refine Within.eng rfl ?_
  exact Within.refl _

theorem execUnitAdmit_within (x1 s) : Within [.regs, .out, .cmd, .tun, .sw, .eng] s (after (@execUnitAdmit x1 s) s) := by
  unfold execUnitAdmit
  try dsimp only
  refine Within.of_next ?_
  refine Within.ite (fun _ => ?_) (fun _ => ?_)
  · exact Within.refl _
  · refine Within.ite (fun _ => ?_) (fun _ => ?_)
    · exact Within.refl _
    · refine Within.ite (fun _ => ?_) (fun _ => ?_)
      · split
        · refine Within.step (State.feedPort_within ..) rfl ?_
          refine Within.step (State.updEngine_within ..) rfl ?_
          exact Within.refl _
        · refine Within.ite (fun _ => ?_) (fun _ => ?_)
          · refine Within.step (State.offerWrite_within ..) rfl ?_
            refine Within.step (State.p9Sent_within ..) rfl ?_
            exact Within.refl _
          · exact Within.refl _
      · refine Within.step (State.offerWrite_within ..) rfl ?_
        exact Within.refl _

theorem execUnitIncomplete_within (x1 s) : Within [.regs] s (after (@execUnitIncomplete x1 s) s) := by
  unfold execUnitIncomplete
  exact (Within.step (State.bump_within ..) rfl (Within.refl _))

theorem State.dropHold_within (s x2 x3) : Within [.sw] s (@State.dropHold s x2 x3) := by
  unfold State.dropHold
  exact (Within.sw rfl (Within.refl _))

theorem execHoldRelease_within (x1 x2 s) : Within [.regs, .out, .cmd, .tun, .sw, .eng] s (after (@execHoldRelease x1 x2 s) s) := by
  unfold execHoldRelease
  try dsimp only
  refine Within.of_next ?_
  split
  · exact Within.refl _
  · refine Within.ite (fun _ => ?_) (fun _ => ?_)
    · refine Within.step (State.decideWay_within ..) rfl ?_
      exact Within.refl _
    · refine Within.step (State.dropHold_within ..) rfl ?_
      refine Within.step (State.decideWay_within ..) rfl ?_
      exact Within.refl _

theorem execHoldExpired_within (x1 x2 s) : Within [.regs, .tun, .sw] s (after (@execHoldExpired x1 x2 s) s) := by
  unfold execHoldExpired
  exact (by split; exacts [(Within.refl _), (Within.ite (fun _ => (Within.step (State.dropFromFlow_within ..) rfl (Within.step
    (State.bump_within ..) rfl (Within.step (State.dropHold_within ..) rfl (Within.refl _))))) (fun _ => (Within.refl
    _)))])

theorem execFrameLastTimeout_within (x1 x2 x3 x4 s) : Within [.regs, .out, .cmd, .link, .sw, .eng] s (after (@execFrameLastTimeout x1 x2 x3 x4 s) s) := by
  unfold execFrameLastTimeout
  try dsimp only
  refine Within.of_next ?_
  split
  · refine forAll_within (fun _ _ => ?_) ?_
    · refine Within.step (State.freeUnit_within ..) rfl ?_
      exact Within.refl _
    · refine Within.step (State.bump_within ..) rfl ?_
      refine Within.step (State.updPort_within ..) rfl ?_
      exact Within.refl _
  · exact Within.refl _

theorem State.counterDue_within (s x2) : Within [.regs, .out, .seed, .cmd, .link, .tun, .eng] s (@State.counterDue s x2) := by
  unfold State.counterDue
  try dsimp only
  refine Within.ite (fun _ => ?_) (fun _ => ?_)
  · refine Within.step (State.keyFault_within ..) rfl ?_
    exact Within.refl _
  · refine Within.ite (fun _ => ?_) (fun _ => ?_)
    · refine Within.step (State.enterHunt_within ..) rfl ?_
      refine Within.step (State.bump_within ..) rfl ?_
      exact Within.refl _
    · exact Within.refl _

theorem State.freeSent_within (s x2) : Within [.regs, .out, .cmd, .sw, .eng] s (@State.freeSent s x2) := by
  unfold State.freeSent
  try dsimp only
  split
  · refine Within.ite (fun _ => ?_) (fun _ => ?_)
    · exact Within.refl _
    · refine Within.step (State.freeCells_within ..) rfl ?_
      exact Within.refl _
  · exact Within.refl _

theorem State.sendSegment_within (s x2 x3 x4) : Within [.regs, .out, .seed, .cmd, .link, .tun, .sw, .eng] s (@State.sendSegment s x2 x3 x4) := by
  unfold State.sendSegment
  try dsimp only
  refine Within.step (State.counterDue_within ..) rfl ?_
  refine Within.ite (fun _ => ?_) (fun _ => ?_)
  · refine Within.step (State.freeUnit_within ..) rfl ?_
    refine State.when_within (fun _ => ?_) ?_
    · refine Within.step (State.mirror_within ..) rfl ?_
      exact Within.refl _
    · refine Within.sw rfl ?_
      refine Within.step (State.updDir_within ..) rfl ?_
      refine Within.step (State.bump_within ..) rfl ?_
      refine Within.step (State.dealt_within ..) rfl ?_
      refine Within.step (State.updPort_within ..) rfl ?_
      refine Within.step (State.emit_within ..) rfl ?_
      exact Within.refl _
  · refine Within.step (State.freeSent_within ..) rfl ?_
    refine State.when_within (fun _ => ?_) ?_
    · refine Within.step (State.mirror_within ..) rfl ?_
      exact Within.refl _
    · refine Within.sw rfl ?_
      refine Within.step (State.updDir_within ..) rfl ?_
      refine Within.step (State.bump_within ..) rfl ?_
      refine Within.step (State.dealt_within ..) rfl ?_
      refine Within.step (State.updPort_within ..) rfl ?_
      refine Within.step (State.emit_within ..) rfl ?_
      exact Within.refl _

theorem State.fillSlot_within (s x2 x3 x4 x5 x6) :
    Within [.regs, .out, .seed, .cmd, .link, .tun, .sw, .eng] s (State.fillSlot s x2 x3 x4 x5 x6).1 := by
  induction x4 generalizing s x5 x6 with
  | zero => exact Within.refl _
  | succ n ih =>
    rw [State.fillSlot]
    split
    · exact Within.refl _
    · dsimp only
      split
      · exact Within.refl _
      · exact Within.via (ih _ _ _) (Within.step (State.sendSegment_within ..) rfl (Within.refl _))

theorem State.yieldSlot_within (s x2) : Within [.regs, .out, .seed, .cmd, .link, .tun, .sw, .eng] s (@State.yieldSlot s x2) := by
  unfold State.yieldSlot
  try dsimp only
  split
  · refine Within.step (State.bump_within ..) rfl ?_
    exact Within.refl _
  · split
    · exact Within.refl _
    · refine Within.step (State.bump_within ..) rfl ?_
      refine Within.step (State.sendSegment_within ..) rfl ?_
      refine State.when_within (fun _ => ?_) ?_
      · refine Within.step (State.updDir_within ..) rfl ?_
        exact Within.refl _
      · exact Within.refl _

theorem execSlotStart_within (x1 x2 s) : Within [.regs, .out, .seed, .cmd, .link, .tun, .sw, .eng] s (after (@execSlotStart x1 x2 s) s) := by
  unfold execSlotStart
  try dsimp only
  refine Within.of_next ?_
  refine Within.ite (fun _ => ?_) (fun _ => ?_)
  · exact Within.refl _
  · split
    · refine Within.step (State.yieldSlot_within ..) rfl ?_
      exact Within.refl _
    · refine Within.ite (fun _ => ?_) (fun _ => ?_)
      · refine Within.ite (fun _ => ?_) (fun _ => ?_)
        · refine Within.step (State.yieldSlot_within ..) rfl ?_
          refine Within.step (State.fillSlot_within ..) rfl ?_
          exact Within.refl _
        · refine Within.step (State.fillSlot_within ..) rfl ?_
          exact Within.refl _
      · refine Within.step (State.yieldSlot_within ..) rfl ?_
        exact Within.refl _

theorem State.pf1Takes_within (s x2 x3) : Within [.out] s (@State.pf1Takes s x2 x3) := by
  unfold State.pf1Takes
  try dsimp only
  refine Within.step (State.emit_within ..) rfl ?_
  refine Within.step (State.emit_within ..) rfl ?_
  exact Within.refl _

theorem State.stationTakes_within (s x2 x3) : Within [.regs, .out] s (@State.stationTakes s x2 x3) := by
  unfold State.stationTakes
  try dsimp only
  split
  · refine Within.step (State.emit_within ..) rfl ?_
    exact Within.refl _
  · refine Within.ite (fun _ => ?_) (fun _ => ?_)
    · refine Within.step (State.bump_within ..) rfl ?_
      exact Within.refl _
    · refine Within.ite (fun _ => ?_) (fun _ => ?_)
      · refine Within.step (State.pf1Takes_within ..) rfl ?_
        refine Within.step (State.bump_within ..) rfl ?_
        exact Within.refl _
      · refine Within.step (State.emit_within ..) rfl ?_
        refine Within.step (State.bump_within ..) rfl ?_
        exact Within.refl _

theorem execUnitTransferDone_within (x1 x2 s) : Within [.regs, .out, .cmd, .sw, .eng] s (after (@execUnitTransferDone x1 x2 s) s) := by
  unfold execUnitTransferDone
  try dsimp only
  refine Within.of_next ?_
  refine Within.ite (fun _ => ?_) (fun _ => ?_)
  · split
    · exact Within.refl _
    · refine Within.ite (fun _ => ?_) (fun _ => ?_)
      · exact Within.refl _
      · refine Within.step (State.dropCopy_within ..) rfl ?_
        refine Within.step (State.bump_within ..) rfl ?_
        refine Within.step (State.emit_within ..) rfl ?_
        exact Within.refl _
  · split
    · exact Within.refl _
    · refine Within.ite (fun _ => ?_) (fun _ => ?_)
      · exact Within.refl _
      · refine Within.ite (fun _ => ?_) (fun _ => ?_)
        · refine Within.step (State.mirror_within ..) rfl ?_
          exact Within.refl _
        · refine forAll_within (fun _ _ => ?_) ?_
          · refine Within.step (State.freeUnit_within ..) rfl ?_
            exact Within.refl _
          · refine Within.step (State.stationTakes_within ..) rfl ?_
            refine forAll_within (fun _ _ => ?_) ?_
            · refine Within.step (State.mirror_within ..) rfl ?_
              exact Within.refl _
            · exact Within.refl _

theorem execMirrorCopyTimeout_within (x1 s) : Within [.regs, .out, .cmd, .sw, .eng] s (after (@execMirrorCopyTimeout x1 s) s) := by
  unfold execMirrorCopyTimeout
  try dsimp only
  refine Within.of_next ?_
  split
  · exact Within.refl _
  · refine Within.ite (fun _ => ?_) (fun _ => ?_)
    · refine Within.step (State.bump_within ..) rfl ?_
      refine Within.step (State.dropCopy_within ..) rfl ?_
      exact Within.refl _
    · exact Within.refl _

theorem execMirrorSet_within (x1 x2 x3 x4 x5 x6 x7 x8 x9 s) : Within [.regs, .out, .cmd, .sw, .eng, .ps, .mem] s (after (@execMirrorSet x1 x2 x3 x4 x5 x6 x7 x8 x9 s) s) := by
  unfold execMirrorSet
  try dsimp only
  refine Within.of_next ?_
  refine State.runOpcode_keeps rfl (fun _ _ => ?_) ?_
  · refine Within.ite_fst (fun _ => ?_) (fun _ => ?_)
    · dsimp only
      exact Within.refl _
    · refine Within.ite_fst (fun _ => ?_) (fun _ => ?_)
      · dsimp only
        exact Within.refl _
      · dsimp only
        refine Within.sw rfl ?_
        exact Within.refl _
  · exact Within.refl _

theorem State.matchOnce_within (s x2) : Within [.sw] s (@State.matchOnce s x2) := by
  unfold State.matchOnce
  exact (forAll_within (fun _ _ => (Within.ite (fun _ => (Within.refl _)) (fun _ => (by split; exacts [(Within.refl _), (by
    split; exacts [(Within.refl _), (Within.sw rfl (Within.refl _))])])))) (Within.refl _))

theorem State.matchCopy_within (s) : Within [.sw] s (@State.matchCopy s) := by
  unfold State.matchCopy
  try dsimp only
  refine Within.ite (fun _ => ?_) (fun _ => ?_)
  · exact Within.refl _
  · split
    · refine Within.sw rfl ?_
      exact Within.refl _
    · exact Within.refl _

theorem State.readPair_within (s x2) : Within [.sw] s (@State.readPair s x2) := by
  unfold State.readPair
  try dsimp only
  split
  · refine Within.sw rfl ?_
    exact Within.refl _
  · refine Within.ite (fun _ => ?_) (fun _ => ?_)
    · refine Within.sw rfl ?_
      exact Within.refl _
    · refine Within.sw rfl ?_
      exact Within.refl _

theorem State.readCopy_within (s x2) : Within [.sw] s (@State.readCopy s x2) := by
  unfold State.readCopy
  try dsimp only
  split
  · exact Within.refl _
  · split
    · refine Within.sw rfl ?_
      exact Within.refl _
    · refine Within.ite (fun _ => ?_) (fun _ => ?_)
      · exact Within.refl _
      · refine Within.ite (fun _ => ?_) (fun _ => ?_)
        · refine Within.sw rfl ?_
          exact Within.refl _
        · refine Within.sw rfl ?_
          exact Within.refl _

theorem State.freeRead_within (s) : Within [.regs, .out, .cmd, .sw, .eng] s (@State.freeRead s) := by
  unfold State.freeRead
  try dsimp only
  refine forAll_within (fun _ _ => ?_) ?_
  · refine Within.ite (fun _ => ?_) (fun _ => ?_)
    · exact Within.refl _
    · refine Within.step (State.setCopies_within ..) rfl ?_
      exact Within.refl _
  · refine forAll_within (fun _ _ => ?_) ?_
    · refine Within.ite (fun _ => ?_) (fun _ => ?_)
      · exact Within.refl _
      · refine Within.step (State.freeCells_within ..) rfl ?_
        exact Within.refl _
    · exact Within.refl _

theorem State.writeCells_within (s) : Within [.regs, .out, .cmd, .tun, .sw, .eng] s (@State.writeCells s) := by
  unfold State.writeCells
  try dsimp only
  refine forAll_within (fun _ _ => ?_) ?_
  · split
    · refine Within.step (State.decideWritten_within ..) rfl ?_
      refine Within.step (State.writes_within ..) rfl ?_
      refine Within.sw rfl ?_
      exact Within.refl _
    · exact Within.refl _
  · refine Within.sw rfl ?_
    exact Within.refl _

theorem execCellCycle_within (s) : Within [.regs, .out, .cmd, .tun, .sw, .eng] s (after (@execCellCycle s) s) := by
  unfold execCellCycle
  try dsimp only
  refine Within.of_next ?_
  refine Within.ite (fun _ => ?_) (fun _ => ?_)
  · exact Within.refl _
  · refine Within.step (State.readCopy_within ..) rfl ?_
    refine forAll_within (fun _ _ => ?_) ?_
    · refine Within.step (State.readPair_within ..) rfl ?_
      exact Within.refl _
    · refine Within.step (State.matchCopy_within ..) rfl ?_
      refine Within.step (State.matchOnce_within ..) rfl ?_
      refine Within.step (State.matchOnce_within ..) rfl ?_
      refine Within.step (State.matchOnce_within ..) rfl ?_
      refine Within.step (State.feedPort_within ..) rfl ?_
      refine Within.step (State.feedPort_within ..) rfl ?_
      refine Within.step (State.writeCells_within ..) rfl ?_
      refine Within.sw rfl ?_
      refine Within.step (State.freeRead_within ..) rfl ?_
      exact Within.refl _

theorem State.repartition_within (s) : Within [.regs, .out, .cmd, .sw, .eng] s (@State.repartition s) := by
  unfold State.repartition
  try dsimp only
  refine Within.ite (fun _ => ?_) (fun _ => ?_)
  · refine Within.step (State.set_within ..) rfl ?_
    refine forAll_within (fun _ _ => ?_) ?_
    · refine Within.ite (fun _ => ?_) (fun _ => ?_)
      · exact Within.refl _
      · refine Within.step (State.set_within ..) rfl ?_
        refine Within.step (State.set_within ..) rfl ?_
        exact Within.refl _
    · exact Within.refl _
  · refine Within.step (State.setPoolFree_within ..) rfl ?_
    refine Within.step (State.set_within ..) rfl ?_
    refine forAll_within (fun _ _ => ?_) ?_
    · refine Within.ite (fun _ => ?_) (fun _ => ?_)
      · exact Within.refl _
      · refine Within.step (State.set_within ..) rfl ?_
        refine Within.step (State.set_within ..) rfl ?_
        exact Within.refl _
    · exact Within.refl _

theorem State.ageUnit_within (s x2 x3 x4) : Within [.regs, .out, .cmd, .tun, .sw, .eng] s (@State.ageUnit s x2 x3 x4) := by
  unfold State.ageUnit
  try dsimp only
  refine Within.ite (fun _ => ?_) (fun _ => ?_)
  · refine Within.step (State.freeUnit_within ..) rfl ?_
    refine Within.step (State.dropFromFlow_within ..) rfl ?_
    refine Within.step (State.bump_within ..) rfl ?_
    exact Within.refl _
  · refine Within.step (State.freeFrame_within ..) rfl ?_
    refine Within.step (State.freeUnit_within ..) rfl ?_
    refine Within.step (State.dropFromFlow_within ..) rfl ?_
    refine Within.step (State.bump_within ..) rfl ?_
    exact Within.refl _

theorem State.ageAtBoundary_within (s) : Within [.regs, .out, .cmd, .tun, .sw, .eng] s (@State.ageAtBoundary s) := by
  unfold State.ageAtBoundary
  try dsimp only
  refine forAll_within (fun _ _ => ?_) ?_
  · refine Within.ite (fun _ => ?_) (fun _ => ?_)
    · refine Within.step (State.ageUnit_within ..) rfl ?_
      exact Within.refl _
    · exact Within.refl _
  · refine forAll_within (fun _ _ => ?_) ?_
    · refine Within.ite (fun _ => ?_) (fun _ => ?_)
      · refine Within.step (State.ageUnit_within ..) rfl ?_
        exact Within.refl _
      · exact Within.refl _
    · refine Within.sw rfl ?_
      exact Within.refl _

theorem State.grantsAtBoundary_within (s) : Within [.regs, .sw] s (@State.grantsAtBoundary s) := by
  unfold State.grantsAtBoundary
  try dsimp only
  refine forAll_within (fun _ _ => ?_) ?_
  · refine Within.ite (fun _ => ?_) (fun _ => ?_)
    · refine Within.step (State.set_within ..) rfl ?_
      refine Within.step (State.set_within ..) rfl ?_
      refine Within.step (State.set_within ..) rfl ?_
      refine Within.step (State.setWindow_within ..) rfl ?_
      exact Within.refl _
    · refine Within.step (State.setWindow_within ..) rfl ?_
      exact Within.refl _
  · exact Within.refl _

theorem State.mirrorAtBoundary_within (s) : Within [.regs, .out, .cmd, .sw, .eng] s (@State.mirrorAtBoundary s) := by
  unfold State.mirrorAtBoundary
  try dsimp only
  refine Within.ite (fun _ => ?_) (fun _ => ?_)
  · refine Within.sw rfl ?_
    refine forAll_within (fun _ _ => ?_) ?_
    · refine Within.step (State.setWord_within ..) rfl ?_
      refine Within.step (State.setWord_within ..) rfl ?_
      exact Within.refl _
    · exact Within.refl _
  · refine forAll_within (fun _ _ => ?_) ?_
    · refine Within.step (State.bump_within ..) rfl ?_
      refine Within.step (State.dropCopy_within ..) rfl ?_
      exact Within.refl _
    · refine forAll_within (fun _ _ => ?_) ?_
      · refine Within.step (State.setFlag_within ..) rfl ?_
        exact Within.refl _
      · refine Within.sw rfl ?_
        refine forAll_within (fun _ _ => ?_) ?_
        · refine Within.step (State.setWord_within ..) rfl ?_
          refine Within.step (State.setWord_within ..) rfl ?_
          exact Within.refl _
        · exact Within.refl _

theorem State.heldAtBoundary_within (s) : Within [.regs, .sw] s (@State.heldAtBoundary s) := by
  unfold State.heldAtBoundary
  try dsimp only
  refine Within.sw rfl ?_
  refine forAll_within (fun _ _ => ?_) ?_
  · refine Within.step (State.bump_within ..) rfl ?_
    exact Within.refl _
  · exact Within.refl _

theorem State.switchBefore_within (s) : Within [.regs, .out, .cmd, .tun, .sw, .eng] s (@State.switchBefore s) := by
  unfold State.switchBefore
  try dsimp only
  refine Within.step (State.ageAtBoundary_within ..) rfl ?_
  refine Within.step (State.heldAtBoundary_within ..) rfl ?_
  exact Within.refl _

theorem State.switchAfter_within (s) : Within [.regs, .out, .cmd, .sw, .eng] s (@State.switchAfter s) := by
  unfold State.switchAfter
  try dsimp only
  refine Within.step (State.grantsAtBoundary_within ..) rfl ?_
  refine Within.step (State.mirrorAtBoundary_within ..) rfl ?_
  refine Within.step (State.repartition_within ..) rfl ?_
  exact Within.refl _

theorem State.sampleDemand_within (s) : Within [.tun] s (@State.sampleDemand s) := by
  unfold State.sampleDemand
  exact (forAll_within (fun _ _ => (Within.step (State.updDir_within ..) rfl (Within.refl _))) (forAll_within (fun _ _ =>
    (Within.step (State.updFlow_within ..) rfl (Within.refl _))) (Within.refl _)))

theorem State.egressDown_within (s x2) : Within [.regs, .out, .cmd, .sw, .eng] s (@State.egressDown s x2) := by
  unfold State.egressDown
  try dsimp only
  refine forAll_within (fun _ _ => ?_) ?_
  · refine Within.step (State.bump_within ..) rfl ?_
    refine Within.step (State.freeUnit_within ..) rfl ?_
    exact Within.refl _
  · exact Within.refl _

theorem State.ingressDown_within (s x2) : Within [.sw] s (@State.ingressDown s x2) := by
  unfold State.ingressDown
  exact (Within.sw rfl (Within.refl _))

end Machine
end Sys2Proof
end

