-- ==== Sys2Proof/Laws/FrameTunnels.lean ====
section
/-!
SUPPORT. The frame of every operation of Machine/Tunnels.lean: the parts of the state it may change.
-/
namespace Sys2Proof
namespace Machine

theorem execTunnelOpen_within (x1 x2 x3 x4 x5 x6 x7 x8 x9 x10 x11 s) : Within [.regs, .out, .cmd, .tun, .sw, .eng, .reg, .ps, .mem] s (after (@execTunnelOpen x1 x2 x3 x4 x5 x6 x7 x8 x9 x10 x11 s) s) := by
  unfold execTunnelOpen
  try dsimp only
  refine Within.of_next ?_
  refine State.runOpcode_keeps rfl (fun _ _ => ?_) ?_
  · split
    · refine Within.ite_fst (fun _ => ?_) (fun _ => ?_)
      · dsimp only
        exact Within.refl _
      · refine Within.ite_fst (fun _ => ?_) (fun _ => ?_)
        · dsimp only
          exact Within.refl _
        · refine Within.ite_fst (fun _ => ?_) (fun _ => ?_)
          · dsimp only
            exact Within.refl _
          · refine Within.ite_fst (fun _ => ?_) (fun _ => ?_)
            · dsimp only
              exact Within.refl _
            · refine Within.ite_fst (fun _ => ?_) (fun _ => ?_)
              · dsimp only
                exact Within.refl _
              · dsimp only
                refine Within.step (State.sendBox0_within ..) rfl ?_
                refine Within.step (State.openBox_within ..) rfl ?_
                exact Within.refl _
    · dsimp only
      exact Within.refl _
  · exact Within.refl _

theorem State.refuseOpen_within (s x2 x3 x4 x5 x6) : Within [.regs, .eng] s (@State.refuseOpen s x2 x3 x4 x5 x6) := by
  unfold State.refuseOpen
  try dsimp only
  refine Within.step (State.bump_within ..) rfl ?_
  refine Within.step (State.sendBox0_within ..) rfl ?_
  exact Within.refl _

theorem State.acceptAnswer_within (s x2 x3 x4 x5) : Within [.eng] s (@State.acceptAnswer s x2 x3 x4 x5) := by
  unfold State.acceptAnswer
  try dsimp only
  refine Within.step (State.sendBox0_within ..) rfl ?_
  exact Within.refl _

theorem State.acceptOpen_within (s x2 x3 x4 x5 x6 x7 x8 x9) : Within [.regs, .out, .cmd, .tun, .sw, .eng, .reg, .ps] s (@State.acceptOpen s x2 x3 x4 x5 x6 x7 x8 x9) := by
  unfold State.acceptOpen
  try dsimp only
  refine Within.ite (fun _ => ?_) (fun _ => ?_)
  · refine Within.step (State.refuseOpen_within ..) rfl ?_
    exact Within.refl _
  · refine Within.ite (fun _ => ?_) (fun _ => ?_)
    · refine Within.step (State.refuseOpen_within ..) rfl ?_
      exact Within.refl _
    · refine Within.step (State.acceptAnswer_within ..) rfl ?_
      refine Within.step (State.boxOpens_within ..) rfl ?_
      refine Within.step (State.openBox_within ..) rfl ?_
      exact Within.refl _

theorem execOpenRequest_within (x1 x2 x3 x4 x5 x6 x7 x8 x9 x10 x11 s) : Within [.regs, .out, .cmd, .tun, .sw, .eng, .reg, .bridge, .ps, .mem] s (after (@execOpenRequest x1 x2 x3 x4 x5 x6 x7 x8 x9 x10 x11 s) s) := by
  unfold execOpenRequest
  try dsimp only
  refine Within.of_next ?_
  refine Within.ite (fun _ => ?_) (fun _ => ?_)
  · exact Within.refl _
  · split
    · refine Within.ite (fun _ => ?_) (fun _ => ?_)
      · refine Within.step (State.refuseOpen_within ..) rfl ?_
        exact Within.refl _
      · refine Within.ite (fun _ => ?_) (fun _ => ?_)
        · refine Within.step (State.refuseOpen_within ..) rfl ?_
          exact Within.refl _
        · refine Within.ite (fun _ => ?_) (fun _ => ?_)
          · refine Within.step (State.acceptAnswer_within ..) rfl ?_
            exact Within.refl _
          · refine Within.ite (fun _ => ?_) (fun _ => ?_)
            · refine Within.ite (fun _ => ?_) (fun _ => ?_)
              · refine Within.step (State.acceptOpen_within ..) rfl ?_
                refine Within.step (State.boxFrees_within ..) rfl ?_
                refine Within.step (State.finishWaiters_within ..) rfl ?_
                exact Within.refl _
              · refine Within.step (State.refuseOpen_within ..) rfl ?_
                exact Within.refl _
            · refine Within.ite (fun _ => ?_) (fun _ => ?_)
              · refine Within.step (State.refuseOpen_within ..) rfl ?_
                exact Within.refl _
              · refine Within.step (State.acceptOpen_within ..) rfl ?_
                exact Within.refl _
    · refine Within.step (State.refuseOpen_within ..) rfl ?_
      exact Within.refl _

theorem execOpenAnswer_within (x1 x2 x3 x4 x5 x6 x7 s) : Within [.regs, .out, .cmd, .tun, .sw, .eng, .reg, .bridge, .ps, .mem] s (after (@execOpenAnswer x1 x2 x3 x4 x5 x6 x7 s) s) := by
  unfold execOpenAnswer
  try dsimp only
  refine Within.of_next ?_
  refine Within.ite (fun _ => ?_) (fun _ => ?_)
  · exact Within.refl _
  · refine Within.ite (fun _ => ?_) (fun _ => ?_)
    · refine Within.ite (fun _ => ?_) (fun _ => ?_)
      · refine Within.step (State.finishWaiters_within ..) rfl ?_
        refine Within.step (State.boxOpens_within ..) rfl ?_
        exact Within.refl _
      · refine Within.step (State.boxFrees_within ..) rfl ?_
        refine Within.step (State.finishWaiters_within ..) rfl ?_
        exact Within.refl _
    · refine Within.step (State.bump_within ..) rfl ?_
      exact Within.refl _

theorem State.setForwardOf_within (s x2 x3 x4 x5) : Within [.tun] s (@State.setForwardOf s x2 x3 x4 x5) := by
  unfold State.setForwardOf
  exact (Within.step (State.updBox_within ..) rfl (Within.refl _))

theorem execTunnelClose_within (x1 x2 x3 x4 x5 x6 s) : Within [.regs, .out, .cmd, .tun, .sw, .eng, .reg, .bridge, .ps, .mem] s (after (@execTunnelClose x1 x2 x3 x4 x5 x6 s) s) := by
  unfold execTunnelClose
  exact (State.runOpcode_keeps rfl (fun _ _ => (Within.ite_fst (fun _ => (Within.refl _)) (fun _ => (by split; exacts
    [(Within.refl _), (Within.step (State.boxFrees_within ..) rfl (Within.step (State.sendClose_within ..) rfl
    (Within.step (State.boxDrains_within ..) rfl (State.when_within (fun _ => (Within.step (State.setForwardOf_within
    ..) rfl (Within.refl _))) (Within.step (State.finishWaiters_within ..) rfl (Within.refl _)))))), (Within.step
    (State.sendClose_within ..) rfl (Within.step (State.boxDrains_within ..) rfl (State.when_within (fun _ =>
    (Within.step (State.setForwardOf_within ..) rfl (Within.refl _))) (Within.refl _)))), (Within.ite_fst (fun _ =>
    (Within.refl _)) (fun _ => (State.when_within (fun _ => (Within.step (State.setForwardOf_within ..) rfl (Within.refl
    _))) (Within.refl _))))])))) (Within.refl _))

theorem execCloseRequest_within (x1 x2 x3 x4 s) : Within [.regs, .out, .cmd, .tun, .sw, .eng, .reg, .bridge, .ps, .mem] s (after (@execCloseRequest x1 x2 x3 x4 s) s) := by
  unfold execCloseRequest
  try dsimp only
  refine Within.of_next ?_
  refine Within.ite (fun _ => ?_) (fun _ => ?_)
  · split
    · refine Within.step (State.boxDrains_within ..) rfl ?_
      exact Within.refl _
    · refine Within.step (State.boxFrees_within ..) rfl ?_
      refine Within.step (State.boxDrains_within ..) rfl ?_
      refine Within.step (State.finishWaiters_within ..) rfl ?_
      exact Within.refl _
    · exact Within.refl _
  · exact Within.refl _

theorem execSetForward_within (x1 x2 x3 x4 x5 s) : Within [.regs, .out, .cmd, .tun, .eng, .ps, .mem] s (after (@execSetForward x1 x2 x3 x4 x5 s) s) := by
  unfold execSetForward
  try dsimp only
  refine Within.of_next ?_
  refine State.runOpcode_keeps rfl (fun _ _ => ?_) ?_
  · refine Within.ite_fst (fun _ => ?_) (fun _ => ?_)
    · dsimp only
      exact Within.refl _
    · refine Within.ite_fst (fun _ => ?_) (fun _ => ?_)
      · dsimp only
        refine Within.step (State.setForwardOf_within ..) rfl ?_
        exact Within.refl _
      · dsimp only
        exact Within.refl _
  · exact Within.refl _

theorem execDrainCount_within (x1 x2 x3 s) : Within [.tun] s (after (@execDrainCount x1 x2 x3 s) s) := by
  unfold execDrainCount
  exact (Within.ite (fun _ => (Within.step (State.updBox_within ..) rfl (Within.refl _))) (fun _ => (Within.refl _)))

theorem execOpeningTimeout_within (x1 s) : Within [.regs, .out, .cmd, .tun, .sw, .eng, .reg, .bridge, .ps, .mem] s (after (@execOpeningTimeout x1 s) s) := by
  unfold execOpeningTimeout
  exact (Within.ite (fun _ => (Within.step (State.boxFrees_within ..) rfl (Within.step (State.bump_within ..) rfl (Within.step
    (State.finishWaiters_within ..) rfl (Within.refl _))))) (fun _ => (Within.refl _)))

theorem execDrainComplete_within (x1 s) : Within [.regs, .out, .cmd, .tun, .sw, .eng, .reg, .bridge, .ps, .mem] s (after (@execDrainComplete x1 s) s) := by
  unfold execDrainComplete
  exact (Within.ite (fun _ => (Within.step (State.boxFrees_within ..) rfl (Within.refl _))) (fun _ => (Within.refl _)))

theorem execDrainDiscard_within (x1 s) : Within [.regs, .out, .cmd, .tun, .sw, .eng] s (after (@execDrainDiscard x1 s) s) := by
  unfold execDrainDiscard
  try dsimp only
  refine Within.of_next ?_
  refine Within.ite (fun _ => ?_) (fun _ => ?_)
  · refine Within.step (State.bump_within ..) rfl ?_
    refine Within.sw rfl ?_
    refine forAll_within (fun _ _ => ?_) ?_
    · split
      · refine Within.ite (fun _ => ?_) (fun _ => ?_)
        · exact Within.refl _
        · refine Within.step (State.dropFromFlow_within ..) rfl ?_
          refine Within.step (State.bump_within ..) rfl ?_
          refine Within.step (State.freeUnit_within ..) rfl ?_
          exact Within.refl _
      · exact Within.refl _
    · exact Within.refl _
  · exact Within.refl _

theorem execDrainLimit_within (x1 s) : Within [.regs, .out, .cmd, .tun, .sw, .eng, .reg, .bridge, .ps, .mem] s (after (@execDrainLimit x1 s) s) := by
  unfold execDrainLimit
  exact (Within.ite (fun _ => (Within.step (State.boxFrees_within ..) rfl (forAll_within (fun _ _ => (by split; exacts
    [(Within.step (State.makeDead_within ..) rfl (Within.refl _)), (Within.refl _)])) (Within.refl _)))) (fun _ =>
    (Within.refl _)))

theorem execTunnelAllot_within (x1 x2 x3 x4 x5 x6 x7 x8 x9 x10 x11 x12 s) : Within [.regs, .out, .cmd, .tun, .eng, .ps, .mem] s (after (@execTunnelAllot x1 x2 x3 x4 x5 x6 x7 x8 x9 x10 x11 x12 s) s) := by
  unfold execTunnelAllot
  try dsimp only
  refine Within.of_next ?_
  refine State.runOpcode_keeps rfl (fun _ _ => ?_) ?_
  · refine Within.ite_fst (fun _ => ?_) (fun _ => ?_)
    · split
      · dsimp only
        exact Within.refl _
      · refine Within.ite_fst (fun _ => ?_) (fun _ => ?_)
        · dsimp only
          exact Within.refl _
        · refine Within.ite_fst (fun _ => ?_) (fun _ => ?_)
          · dsimp only
            exact Within.refl _
          · split
            · dsimp only
              exact Within.refl _
            · refine Within.ite_fst (fun _ => ?_) (fun _ => ?_)
              · dsimp only
                refine Within.step (Within.of_some_snd (State.addFlow_within _ _) (by assumption)) rfl ?_
                exact Within.refl _
              · dsimp only
                exact Within.refl _
    · refine Within.ite_fst (fun _ => ?_) (fun _ => ?_)
      · dsimp only
        exact Within.refl _
      · split
        · dsimp only
          exact Within.refl _
        · refine Within.ite_fst (fun _ => ?_) (fun _ => ?_)
          · dsimp only
            exact Within.refl _
          · refine Within.ite_fst (fun _ => ?_) (fun _ => ?_)
            · refine Within.ite_fst (fun _ => ?_) (fun _ => ?_)
              · dsimp only
                exact Within.refl _
              · dsimp only
                refine Within.step (State.updFlow_within ..) rfl ?_
                exact Within.refl _
            · refine Within.ite_fst (fun _ => ?_) (fun _ => ?_)
              · dsimp only
                exact Within.refl _
              · refine Within.ite_fst (fun _ => ?_) (fun _ => ?_)
                · dsimp only
                  refine Within.step (State.updFlow_within ..) rfl ?_
                  exact Within.refl _
                · dsimp only
                  exact Within.refl _
  · exact Within.refl _

theorem execTunnelQuery_within (x1 x2 x3 s) : Within [.regs, .out, .cmd, .tun, .eng, .ps, .mem] s (after (@execTunnelQuery x1 x2 x3 s) s) := by
  unfold execTunnelQuery
  try dsimp only
  refine Within.of_next ?_
  refine State.runOpcode_keeps rfl (fun _ _ => ?_) ?_
  · split
    · dsimp only
      exact Within.refl _
    · split
      · dsimp only
        exact Within.refl _
      · dsimp only
        refine Within.step (State.updFlow_within ..) rfl ?_
        exact Within.refl _
  · exact Within.refl _

theorem State.flowsAtBoundary_within (s x2) : Within [.regs, .tun, .sw, .mem] s (@State.flowsAtBoundary s x2) := by
  unfold State.flowsAtBoundary
  exact (Within.tun rfl (forAll_within (fun _ _ => (Within.step (State.updFlow_within ..) rfl (Within.refl _))) (forAll_within
    (fun _ _ => (Within.step (State.dropFlow_within ..) rfl (Within.refl _))) (Within.refl _))))

theorem State.drainReports_within (s) : Within [.tun, .eng] s (@State.drainReports s) := by
  unfold State.drainReports
  try dsimp only
  refine forAll_within (fun _ _ => ?_) ?_
  · refine Within.ite (fun _ => ?_) (fun _ => ?_)
    · refine State.when_within (fun _ => ?_) ?_
      · refine Within.step (State.updBox_within ..) rfl ?_
        exact Within.refl _
      · refine Within.step (State.sendBox0_within ..) rfl ?_
        exact Within.refl _
    · exact Within.refl _
  · exact Within.refl _

end Machine
end Sys2Proof
end

