-- ==== Sys2Proof/Laws/FrameEngines.lean ====
section
/-!
SUPPORT. The frame of every operation of Machine/Engines.lean: the parts of the state it may change.
-/
namespace Sys2Proof
namespace Machine

theorem State.offerSlice_within (s x2 x3) : Within [.regs, .eng] s (@State.offerSlice s x2 x3) := by
  unfold State.offerSlice
  exact (by split; exacts [(Within.step (State.bump_within ..) rfl (Within.step (State.updEngine_within ..) rfl (Within.refl
    _))), (Within.step (State.bump_within ..) rfl (Within.step (State.updEngine_within ..) rfl (Within.refl _)))])

theorem State.startSlice_within (s x2 x3) : Within [.regs, .eng] s (@State.startSlice s x2 x3) := by
  unfold State.startSlice
  exact (Within.via (Within.ite (fun _ => (Within.refl _)) (fun _ => (by split; exacts [(Within.ite (fun _ => (Within.step
    (State.updEngine_within ..) rfl (Within.refl _))) (fun _ => (Within.step (State.offerSlice_within ..) rfl
    (Within.refl _)))), (Within.step (State.offerSlice_within ..) rfl (Within.refl _))]))) (Within.step
    (State.updEngine_within ..) rfl (Within.refl _)))

theorem State.itemArrives_within (s x2 x3 x4) : Within [.regs, .eng] s (@State.itemArrives s x2 x3 x4).1 := by
  unfold State.itemArrives
  exact (Within.ite_fst (fun _ => (Within.refl _)) (fun _ => (by split; exacts [(Within.ite (fun _ => (Within.step
    (State.bump_within ..) rfl (Within.refl _))) (fun _ => (Within.refl _))), (Within.ite_fst (fun _ => (Within.step
    (State.bump_within ..) rfl (Within.refl _))) (fun _ => (Within.step (State.setContext_within ..) rfl (Within.refl
    _))))])))

theorem execSliceEnd_within (x1 x2 x3 s) : Within [.regs, .eng] s (after (@execSliceEnd x1 x2 x3 s) s) := by
  unfold execSliceEnd
  exact (Within.ite (fun _ => (Within.refl _)) (fun _ => (by split; exacts [(Within.step (State.startSlice_within ..) rfl
    (Within.refl _)), (Within.via (Within.ite (fun _ => (Within.step (State.offerSlice_within ..) rfl (Within.step
    (State.bump_within ..) rfl (Within.refl _)))) (fun _ => (Within.step (State.startSlice_within ..) rfl (Within.step
    (State.updEngine_within ..) rfl (Within.refl _))))) (by split; exacts [(Within.step (State.setContext_within ..) rfl
    (Within.refl _)), (Within.refl _)]))])))

theorem execItemAbandoned_within (x1 s) : Within [.regs, .out, .cmd, .eng] s (after (@execItemAbandoned x1 s) s) := by
  unfold execItemAbandoned
  try dsimp only
  refine Within.of_next ?_
  split
  · exact Within.refl _
  · refine Within.ite (fun _ => ?_) (fun _ => ?_)
    · exact Within.refl _
    · refine Within.step (State.abandon_within ..) rfl ?_
      refine Within.step (State.setContext_within ..) rfl ?_
      exact Within.refl _

theorem State.abandonEngine_within (s x2) : Within [.regs, .out, .cmd, .eng] s (@State.abandonEngine s x2) := by
  unfold State.abandonEngine
  exact (forAll_within (fun _ _ => (Within.step (State.abandon_within ..) rfl (Within.step (State.setContext_within ..) rfl
    (Within.refl _)))) (Within.refl _))

theorem State.engineFaults_within (s x2) : Within [.regs, .out, .cmd, .eng] s (@State.engineFaults s x2) := by
  unfold State.engineFaults
  exact (Within.step (State.notice_within ..) rfl (Within.step (State.set_within ..) rfl (Within.step (State.notice_within ..)
    rfl (State.when_within (fun _ => (Within.step (State.set_within ..) rfl (Within.refl _))) (Within.step
    (State.updEngine_within ..) rfl (Within.step (State.bump_within ..) rfl (Within.step (State.set_within ..) rfl
    (Within.step (State.abandonEngine_within ..) rfl (Within.refl _)))))))))

theorem execEngineFault_within (x1 s) : Within [.regs, .out, .cmd, .eng] s (after (@execEngineFault x1 s) s) := by
  unfold execEngineFault
  exact (Within.ite (fun _ => (Within.step (State.engineFaults_within ..) rfl (Within.refl _))) (fun _ => (Within.refl _)))

theorem execEngineReturn_within (x1 s) : Within [.regs] s (after (@execEngineReturn x1 s) s) := by
  unfold execEngineReturn
  exact (Within.ite (fun _ => (Within.step (State.set_within ..) rfl (Within.refl _))) (fun _ => (Within.refl _)))

theorem State.replaceContexts_placed (o : Option State) (s : State) (b : Nat) (c : Prop) [Decidable c] :
    (∀ t, o = some t → Within [.regs, .out, .cmd, .tun, .eng, .ps] s t) → Within [.regs, .out, .cmd, .tun, .eng, .ps] s
      (match o with | some t => t | none => if c then s.setBoxState b .draining else s) := by
  intro h
  cases o with
  | some t => exact h t rfl
  | none => exact Within.ite (fun _ => Within.step (State.setBoxState_within ..) rfl (Within.refl _)) (fun _ => Within.refl _)

theorem State.replaceContexts_within (s x2) :
    Within [.regs, .out, .cmd, .tun, .eng, .ps] s (State.replaceContexts s x2) := by
  unfold State.replaceContexts
  refine Within.ite (fun _ => forAll_within (fun t c => ?_) (Within.step (State.updEngine_within ..) rfl (Within.refl _)))
    (fun _ => Within.refl _)
  exact Within.via (State.replaceContexts_placed _ _ _ _ (fun u hu => Within.weaken (State.placeContext_within _ _ _ u hu) rfl))
    (Within.step (State.syncEngine_within ..) rfl (Within.step (State.syncContext_within ..) rfl
      (Within.eng rfl (Within.refl _))))

theorem State.carryItems_within (s) : Within [.regs, .eng] s (@State.carryItems s) := by
  unfold State.carryItems
  exact (forAll_within (fun _ _ => (Within.ite (fun _ => (Within.refl _)) (fun _ => (Within.step (State.bump_within ..) rfl
    (Within.step (State.setContext_within ..) rfl (Within.refl _)))))) (Within.refl _))

theorem State.contextsTurn_within (s) : Within [.eng] s (@State.contextsTurn s) := by
  unfold State.contextsTurn
  try dsimp only
  refine Within.eng rfl ?_
  exact Within.refl _

theorem State.loadAtBoundary_within (s) : Within [.regs, .seed] s (@State.loadAtBoundary s) := by
  unfold State.loadAtBoundary
  try dsimp only
  refine Within.ite (fun _ => ?_) (fun _ => ?_)
  · refine Within.step (State.set_within ..) rfl ?_
    refine Within.step (State.set_within ..) rfl ?_
    refine Within.step (State.draw_within ..) rfl ?_
    exact Within.refl _
  · refine Within.step (State.set_within ..) rfl ?_
    refine Within.step (State.draw_within ..) rfl ?_
    exact Within.refl _

theorem State.drawLate_within (s) : Within [.seed] s (@State.drawLate s).2 := by
  unfold State.drawLate
  try dsimp only
  refine Within.step (State.draw_within ..) rfl ?_
  exact Within.refl _

theorem State.tablesTurn_within (s) : Within [.regs, .seed, .eng] s (@State.tablesTurn s) := by
  unfold State.tablesTurn
  try dsimp only
  refine forAll_within (fun _ _ => ?_) ?_
  · refine Within.step (State.updEngine_within ..) rfl ?_
    exact Within.refl _
  · refine State.when_within (fun _ => ?_) ?_
    · refine Within.step (State.bump_within ..) rfl ?_
      exact Within.refl _
    · refine Within.ite_snd (fun _ => ?_) (fun _ => ?_)
      · refine Within.step (State.drawLate_within ..) rfl ?_
        exact Within.refl _
      · dsimp only
        exact Within.refl _

theorem State.enginesAtBoundary_within (s x2) : Within [.regs, .out, .seed, .cmd, .tun, .eng, .ps] s (@State.enginesAtBoundary s x2) := by
  unfold State.enginesAtBoundary
  try dsimp only
  refine forAll_within (fun _ _ => ?_) ?_
  · refine Within.ite (fun _ => ?_) (fun _ => ?_)
    · refine Within.step (State.startSlice_within ..) rfl ?_
      refine Within.step (State.set_within ..) rfl ?_
      refine Within.step (State.set_within ..) rfl ?_
      refine Within.step (State.updEngine_within ..) rfl ?_
      refine State.when_within (fun _ => ?_) ?_
      · refine Within.step (State.bump_within ..) rfl ?_
        exact Within.refl _
      · exact Within.refl _
    · refine Within.step (State.updEngine_within ..) rfl ?_
      refine Within.step (State.set_within ..) rfl ?_
      refine Within.step (State.set_within ..) rfl ?_
      refine Within.step (State.updEngine_within ..) rfl ?_
      refine State.when_within (fun _ => ?_) ?_
      · refine Within.step (State.bump_within ..) rfl ?_
        exact Within.refl _
      · exact Within.refl _
  · refine Within.step (State.tablesTurn_within ..) rfl ?_
    refine forAll_within (fun _ _ => ?_) ?_
    · refine Within.step (State.syncEngine_within ..) rfl ?_
      refine Within.step (State.replaceContexts_within ..) rfl ?_
      exact Within.refl _
    · refine Within.eng rfl ?_
      refine Within.step (State.loadAtBoundary_within ..) rfl ?_
      refine Within.step (State.contextsTurn_within ..) rfl ?_
      refine Within.step (State.carryItems_within ..) rfl ?_
      exact Within.refl _

theorem State.enginesAtCollection_within (s x2) : Within [.regs, .seed, .eng] s (@State.enginesAtCollection s x2) := by
  unfold State.enginesAtCollection
  try dsimp only
  refine forAll_within (fun _ _ => ?_) ?_
  · refine Within.step (State.setContext_within ..) rfl ?_
    exact Within.refl _
  · refine forAll_within (fun _ _ => ?_) ?_
    · refine Within.step (State.updEngine_within ..) rfl ?_
      exact Within.refl _
    · refine State.when_within (fun _ => ?_) ?_
      · refine Within.step (State.bump_within ..) rfl ?_
        exact Within.refl _
      · refine Within.step (State.drawLate_within ..) rfl ?_
        exact Within.refl _

theorem State.enginesAtSeal_within (s x2) : Within [.regs, .seed, .eng] s (@State.enginesAtSeal s x2) := by
  unfold State.enginesAtSeal
  try dsimp only
  refine forAll_within (fun _ _ => ?_) ?_
  · refine Within.step (State.bump_within ..) rfl ?_
    refine Within.step (State.updEngine_within ..) rfl ?_
    exact Within.refl _
  · refine State.when_within (fun _ => ?_) ?_
    · refine Within.step (State.bump_within ..) rfl ?_
      exact Within.refl _
    · refine Within.step (State.drawLate_within ..) rfl ?_
      exact Within.refl _

end Machine
end Sys2Proof
end

