-- ==== Sys2Proof/Laws/FrameRegistered.lean ====
section
/-!
SUPPORT. The frame of every operation of Machine/Registered.lean: the parts of the state it may change.
-/
namespace Sys2Proof
namespace Machine

theorem State.setReg_within (s x2) : Within [.reg] s (@State.setReg s x2) := by
  unfold State.setReg
  exact (Within.reg rfl (Within.refl _))

theorem State.receiptDue_within (s x2) : Within [.reg] s (@State.receiptDue s x2) := by
  unfold State.receiptDue
  exact (Within.ite (fun _ => (Within.refl _)) (fun _ => (Within.step (State.setReg_within ..) rfl (Within.refl _))))

theorem State.offer_within (s x2 x3 x4 x5 x6 x7) : Within [.regs, .reg] s (@State.offer s x2 x3 x4 x5 x6 x7).2 := by
  unfold State.offer
  try dsimp only
  refine Within.ite_snd (fun _ => ?_) (fun _ => ?_)
  · try dsimp only
    refine Within.step (State.bump_within ..) rfl ?_
    exact Within.refl _
  · refine Within.ite_snd (fun _ => ?_) (fun _ => ?_)
    · try dsimp only
      exact Within.refl _
    · split
      · try dsimp only
        exact Within.refl _
      · refine Within.ite_snd (fun _ => ?_) (fun _ => ?_)
        · try dsimp only
          exact Within.refl _
        · refine Within.ite_snd (fun _ => ?_) (fun _ => ?_)
          · try dsimp only
            exact Within.refl _
          · refine Within.ite_snd (fun _ => ?_) (fun _ => ?_)
            · try dsimp only
              refine Within.step (State.bump_within ..) rfl ?_
              exact Within.refl _
            · refine Within.ite_snd (fun _ => ?_) (fun _ => ?_)
              · try dsimp only
                refine Within.step (State.bump_within ..) rfl ?_
                exact Within.refl _
              · refine Within.ite_snd (fun _ => ?_) (fun _ => ?_)
                · try dsimp only
                  refine Within.step (State.bump_within ..) rfl ?_
                  exact Within.refl _
                · split
                  · try dsimp only
                    refine Within.step (State.bump_within ..) rfl ?_
                    exact Within.refl _
                  · try dsimp only
                    refine Within.step (State.syncRegistry_within ..) rfl ?_
                    refine Within.step (State.updBookRec_within ..) rfl ?_
                    refine Within.step (State.setReg_within ..) rfl ?_
                    exact (Within.step (Within.of_some_snd (State.takeEntryNo_within _) (by assumption)) rfl (Within.refl _))

theorem State.holdPigeon_within (s x2 x3 x4 x5 x6 x7 x8 x9) :
    ∀ x, @State.holdPigeon s x2 x3 x4 x5 x6 x7 x8 x9 = some x → Within [.regs, .out, .cmd, .sw, .eng, .reg] s x := by
  intro x h
  unfold State.holdPigeon at h
  dsimp only at h
  split at h
  · exact nomatch h
  · obtain rfl := Option.some.inj h
    try dsimp only
    refine Within.step (State.syncRegistry_within ..) rfl ?_
    refine Within.step (State.charge_within ..) rfl ?_
    refine Within.step (State.setReg_within ..) rfl ?_
    exact Within.refl _

theorem State.stepVoids_within (s x2 x3) : Within [.regs, .out, .cmd, .sw, .eng, .reg] s (State.stepVoids s x2 x3) := by
  induction x3 generalizing s with
  | zero => exact Within.refl _
  | succ n ih =>
    rw [State.stepVoids]
    split
    · exact Within.refl _
    · split
      · exact Within.refl _
      · exact Within.ite (fun _ => Within.via (ih _) (Within.step (State.receiptDue_within ..) rfl (Within.step
          (State.emptyPigeon_within ..) rfl (Within.step (State.setBookRec_within ..) rfl (Within.refl _)))))
          (fun _ => Within.refl _)

theorem State.tellWaiting_within (s x2) : Within [.regs, .out, .cmd, .eng, .reg] s (@State.tellWaiting s x2) := by
  unfold State.tellWaiting
  try dsimp only
  refine Within.ite (fun _ => ?_) (fun _ => ?_)
  · refine Within.step (State.setReg_within ..) rfl ?_
    exact Within.refl _
  · refine Within.step (State.notice_within ..) rfl ?_
    refine Within.step (State.setReg_within ..) rfl ?_
    exact Within.refl _

theorem State.passOne_within (s x2 x3 x4) : Within [.regs, .out, .cmd, .sw, .eng, .reg] s (@State.passOne s x2 x3 x4) := by
  unfold State.passOne
  try dsimp only
  refine Within.ite (fun _ => ?_) (fun _ => ?_)
  · refine Within.step (State.receiptDue_within ..) rfl ?_
    refine Within.step (State.emptyPigeon_within ..) rfl ?_
    refine Within.step (State.bump_within ..) rfl ?_
    refine Within.step (State.setBookRec_within ..) rfl ?_
    exact Within.refl _
  · refine Within.step (State.syncRegistry_within ..) rfl ?_
    refine Within.step (State.setReg_within ..) rfl ?_
    refine Within.step (State.bump_within ..) rfl ?_
    refine Within.step (State.setBookRec_within ..) rfl ?_
    exact Within.refl _

theorem State.passAll_within (s x2 x3) : Within [.regs, .out, .cmd, .sw, .eng, .reg] s (State.passAll s x2 x3) := by
  induction x3 generalizing s with
  | zero => exact Within.refl _
  | succ n ih =>
    have one : ∀ r p, Within [.regs, .out, .cmd, .sw, .eng, .reg] s (s.passOne x2 r p) := fun r p =>
      Within.step (State.passOne_within ..) rfl (Within.refl _)
    rw [State.passAll]
    split
    · exact Within.refl _
    · split
      · exact Within.refl _
      · split
        · exact Within.via (ih _) (Within.ite (fun _ => Within.step (State.tellWaiting_within ..) rfl (one _ _))
            (fun _ => one _ _))
        · exact Within.ite (fun _ => Within.via (ih _) (one _ _)) (fun _ => Within.refl _)

theorem State.consumeBox_within (s x2) : Within [.regs, .out, .cmd, .sw, .eng, .reg] s (@State.consumeBox s x2) := by
  unfold State.consumeBox
  try dsimp only
  refine Within.step (State.passAll_within ..) rfl ?_
  refine Within.step (State.receiptDue_within ..) rfl ?_
  refine Within.step (State.updBookRec_within ..) rfl ?_
  exact Within.refl _

theorem State.passToBridge_within (s x2 x3) :
    ∀ x, @State.passToBridge s x2 x3 = some x → Within [.regs, .out, .cmd, .sw, .eng, .reg] s x.2 := by
  intro x h
  unfold State.passToBridge at h
  split at h
  · exact nomatch h
  · split at h
    · exact nomatch h
    · split at h
      · exact nomatch h
      · dsimp only at h
        obtain rfl := Option.some.inj h
        try dsimp only
        refine Within.step (State.emit_within ..) rfl ?_
        refine Within.step (State.emptyPigeon_within ..) rfl ?_
        refine Within.step (State.bump_within ..) rfl ?_
        refine Within.step (State.setBookRec_within ..) rfl ?_
        exact Within.refl _

theorem State.returnTo_within (s x2 x3 x4 x5 x6 x7) : Within [.regs, .reg] s (@State.returnTo s x2 x3 x4 x5 x6 x7) := by
  unfold State.returnTo
  try dsimp only
  refine Within.step (State.bump_within ..) rfl ?_
  refine Within.step (State.setReg_within ..) rfl ?_
  exact Within.refl _

theorem State.arriveAgain_within (s x2 x3 x4 x5 x6 x7 x8) : Within [.regs, .out, .cmd, .sw, .eng, .reg, .ps] s (@State.arriveAgain s x2 x3 x4 x5 x6 x7 x8) := by
  unfold State.arriveAgain
  try dsimp only
  refine Within.ite (fun _ => ?_) (fun _ => ?_)
  · refine Within.step (State.returnTo_within ..) rfl ?_
    refine Within.ite (fun _ => ?_) (fun _ => ?_)
    · split
      · refine State.when_within (fun _ => ?_) ?_
        · refine Within.step (State.tellWaiting_within ..) rfl ?_
          exact Within.refl _
        · refine Within.step (State.stepVoids_within ..) rfl ?_
          refine Within.step (State.bump_within ..) rfl ?_
          refine Within.step (State.activity_within ..) rfl ?_
          refine Within.step (State.holdPigeon_within _ _ _ _ _ _ _ _ _ _ (by assumption)) rfl ?_
          exact Within.refl _
      · refine Within.step (State.bump_within ..) rfl ?_
        exact Within.refl _
    · refine Within.step (State.bump_within ..) rfl ?_
      exact Within.refl _
  · refine Within.step (State.receiptDue_within ..) rfl ?_
    refine Within.ite (fun _ => ?_) (fun _ => ?_)
    · split
      · refine State.when_within (fun _ => ?_) ?_
        · refine Within.step (State.tellWaiting_within ..) rfl ?_
          exact Within.refl _
        · refine Within.step (State.stepVoids_within ..) rfl ?_
          refine Within.step (State.bump_within ..) rfl ?_
          refine Within.step (State.activity_within ..) rfl ?_
          refine Within.step (State.holdPigeon_within _ _ _ _ _ _ _ _ _ _ (by assumption)) rfl ?_
          exact Within.refl _
      · refine Within.step (State.bump_within ..) rfl ?_
        exact Within.refl _
    · refine Within.step (State.bump_within ..) rfl ?_
      exact Within.refl _

theorem State.arriveData_within (s x2 x3 x4 x5 x6 x7 x8) : Within [.regs, .out, .cmd, .sw, .eng, .reg, .ps] s (@State.arriveData s x2 x3 x4 x5 x6 x7 x8) := by
  unfold State.arriveData
  try dsimp only
  refine Within.ite (fun _ => ?_) (fun _ => ?_)
  · exact Within.refl _
  · split
    · refine Within.step (State.returnTo_within ..) rfl ?_
      exact Within.refl _
    · refine Within.ite (fun _ => ?_) (fun _ => ?_)
      · refine Within.step (State.returnTo_within ..) rfl ?_
        exact Within.refl _
      · refine Within.ite (fun _ => ?_) (fun _ => ?_)
        · refine Within.step (State.arriveAgain_within ..) rfl ?_
          exact Within.refl _
        · refine Within.ite (fun _ => ?_) (fun _ => ?_)
          · refine Within.step (State.returnTo_within ..) rfl ?_
            exact Within.refl _
          · refine Within.ite (fun _ => ?_) (fun _ => ?_)
            · refine Within.ite (fun _ => ?_) (fun _ => ?_)
              · refine Within.step (State.bump_within ..) rfl ?_
                exact Within.refl _
              · split
                · refine Within.step (State.bump_within ..) rfl ?_
                  exact Within.refl _
                · refine Within.step (State.passAll_within ..) rfl ?_
                  refine State.when_within (fun _ => ?_) ?_
                  · refine Within.step (State.bump_within ..) rfl ?_
                    exact Within.refl _
                  · refine Within.step (State.activity_within ..) rfl ?_
                    refine Within.step (State.holdPigeon_within _ _ _ _ _ _ _ _ _ _ (by assumption)) rfl ?_
                    exact Within.refl _
            · refine Within.step (State.bump_within ..) rfl ?_
              exact Within.refl _

theorem State.forwardEntry_within (s x2 x3 x4) :
    ∀ t, State.forwardEntry s x2 x3 x4 = some t → Within [.regs, .reg] s t := by
  intro t h
  unfold State.forwardEntry at h
  dsimp only at h
  split at h
  · exact nomatch h
  · split at h
    · obtain rfl := Option.some.inj h
      exact Within.step (State.syncRegistry_within ..) rfl (Within.step (State.syncRegistry_within ..) rfl
        (Within.step (State.bump_within ..) rfl (Within.step (State.updBookRec_within ..) rfl
        (Within.step (State.setReg_within ..) rfl (Within.step (State.updEntryReg_within ..) rfl (Within.refl _))))))
    · exact nomatch h

theorem State.moveReturned_within (s x2 x3 x4) : Within [.regs, .reg] s (State.moveReturned s x2 x3 x4) := by
  induction x4 generalizing s with
  | zero => exact Within.refl _
  | succ n ih =>
    rw [State.moveReturned]
    split
    · split
      · refine Within.via (ih _) ?_
        split
        · exact Within.step (State.forwardEntry_within _ _ _ _ _ ‹_›) rfl (Within.refl _)
        · exact Within.step (State.makeDead_within ..) rfl (Within.refl _)
      · exact Within.refl _
    · exact Within.refl _

theorem State.applyReturn_within (s x2 x3 x4 x5 x6) : Within [.regs, .reg] s (@State.applyReturn s x2 x3 x4 x5 x6) := by
  unfold State.applyReturn
  try dsimp only
  refine Within.ite (fun _ => ?_) (fun _ => ?_)
  · exact Within.refl _
  · split
    · refine Within.step (State.bump_within ..) rfl ?_
      exact Within.refl _
    · refine Within.step (State.moveReturned_within ..) rfl ?_
      split
      · refine Within.ite (fun _ => ?_) (fun _ => ?_)
        · refine Within.step (State.updEntryReg_within ..) rfl ?_
          refine Within.step (State.bump_within ..) rfl ?_
          exact Within.refl _
        · refine Within.step (State.makeDead_within ..) rfl ?_
          refine Within.step (State.bump_within ..) rfl ?_
          exact Within.refl _
      · refine Within.step (State.makeDead_within ..) rfl ?_
        refine Within.step (State.bump_within ..) rfl ?_
        exact Within.refl _

theorem State.applyReceipt_within (s x2 x3 x4 x5 x6) : Within [.regs, .reg] s (@State.applyReceipt s x2 x3 x4 x5 x6) := by
  unfold State.applyReceipt
  exact (Within.ite (fun _ => (Within.refl _)) (fun _ => (by split; exacts [(Within.step (State.bump_within ..) rfl (Within.refl
    _)), (Within.ite (fun _ => (Within.step (State.bump_within ..) rfl (Within.refl _))) (fun _ => (Within.step
    (State.moveReturned_within ..) rfl (Within.via (Within.ite (fun _ => (Within.step (State.setReg_within ..) rfl
    (Within.refl _))) (fun _ => (Within.refl _))) (Within.via (Within.ite (fun _ => (Within.step (State.bump_within ..)
    rfl (forAll_within (fun _ _ => (Within.step (State.freeEntry_within ..) rfl (Within.refl _))) (Within.step
    (State.updBookRec_within ..) rfl (Within.refl _))))) (fun _ => (Within.refl _))) (Within.step
    (State.updBookRec_within ..) rfl (by split; exacts [(by split; exacts [(Within.step (State.makeDead_within ..) rfl
    (Within.refl _)), (Within.refl _)]), (Within.refl _)])))))))])))

theorem State.sendTwins_within (s x2 x3 x4 x5 x6 x7 x8) : Within [.regs, .out, .cmd, .tun, .sw, .eng, .reg] s (@State.sendTwins s x2 x3 x4 x5 x6 x7 x8) := by
  unfold State.sendTwins
  try dsimp only
  refine Within.ite (fun _ => ?_) (fun _ => ?_)
  · refine Within.step (State.postUnit_within ..) rfl ?_
    refine Within.step (State.bump_within ..) rfl ?_
    refine Within.step (State.setReg_within ..) rfl ?_
    exact Within.refl _
  · refine Within.step (State.postUnit_within ..) rfl ?_
    refine Within.step (State.postUnit_within ..) rfl ?_
    refine Within.step (State.setReg_within ..) rfl ?_
    exact Within.refl _

theorem State.sendEntry_within (s x2 x3) : Within [.regs, .out, .cmd, .tun, .sw, .eng, .reg, .ps] s (@State.sendEntry s x2 x3) := by
  unfold State.sendEntry
  try dsimp only
  split
  · exact Within.refl _
  · refine Within.ite (fun _ => ?_) (fun _ => ?_)
    · refine Within.step (State.arriveData_within ..) rfl ?_
      split
      · refine Within.step (State.bump_within ..) rfl ?_
        refine Within.step (State.updEntryReg_within ..) rfl ?_
        exact Within.refl _
      · refine Within.step (State.bump_within ..) rfl ?_
        refine Within.step (State.updEntryReg_within ..) rfl ?_
        exact Within.refl _
      · refine Within.step (State.bump_within ..) rfl ?_
        refine Within.step (State.updEntryReg_within ..) rfl ?_
        exact Within.refl _
    · refine Within.step (State.sendTwins_within ..) rfl ?_
      split
      · refine Within.step (State.bump_within ..) rfl ?_
        refine Within.step (State.updEntryReg_within ..) rfl ?_
        exact Within.refl _
      · refine Within.step (State.bump_within ..) rfl ?_
        refine Within.step (State.updEntryReg_within ..) rfl ?_
        exact Within.refl _
      · refine Within.step (State.bump_within ..) rfl ?_
        refine Within.step (State.updEntryReg_within ..) rfl ?_
        exact Within.refl _

theorem State.sendReceipt_within (s x2) : Within [.regs, .out, .cmd, .tun, .sw, .eng, .reg] s (@State.sendReceipt s x2) := by
  unfold State.sendReceipt
  try dsimp only
  split
  · exact Within.refl _
  · refine Within.ite (fun _ => ?_) (fun _ => ?_)
    · refine Within.step (State.applyReceipt_within ..) rfl ?_
      refine Within.step (State.bump_within ..) rfl ?_
      exact Within.refl _
    · refine Within.step (State.sendTwins_within ..) rfl ?_
      refine Within.step (State.bump_within ..) rfl ?_
      exact Within.refl _

theorem State.sendReturn_within (s x2) : Within [.regs, .out, .cmd, .tun, .sw, .eng, .reg] s (@State.sendReturn s x2) := by
  unfold State.sendReturn
  try dsimp only
  refine Within.ite (fun _ => ?_) (fun _ => ?_)
  · refine Within.step (State.applyReturn_within ..) rfl ?_
    exact Within.refl _
  · refine Within.step (State.sendTwins_within ..) rfl ?_
    exact Within.refl _

theorem State.sendAnswers_within (s) : Within [.regs, .out, .cmd, .tun, .sw, .eng, .reg] s (@State.sendAnswers s) := by
  unfold State.sendAnswers
  try dsimp only
  refine forAll_within (fun _ _ => ?_) ?_
  · refine Within.ite (fun _ => ?_) (fun _ => ?_)
    · refine Within.step (State.sendReturn_within ..) rfl ?_
      exact Within.refl _
    · refine Within.step (State.setReg_within ..) rfl ?_
      exact Within.refl _
  · refine Within.step (State.setReg_within ..) rfl ?_
    refine forAll_within (fun _ _ => ?_) ?_
    · refine Within.ite (fun _ => ?_) (fun _ => ?_)
      · refine Within.step (State.sendReceipt_within ..) rfl ?_
        exact Within.refl _
      · refine Within.step (State.receiptDue_within ..) rfl ?_
        exact Within.refl _
    · refine Within.step (State.setReg_within ..) rfl ?_
      exact Within.refl _

theorem State.sendFirsts_within (s) : Within [.regs, .out, .cmd, .tun, .sw, .eng, .reg, .ps] s (@State.sendFirsts s) := by
  unfold State.sendFirsts
  try dsimp only
  refine forAll_within (fun _ _ => ?_) ?_
  · refine Within.ite (fun _ => ?_) (fun _ => ?_)
    · refine Within.step (State.sendEntry_within ..) rfl ?_
      exact Within.refl _
    · exact Within.refl _
  · exact Within.refl _

theorem State.sendDueEntry_within (s x2) : Within [.regs, .out, .cmd, .tun, .sw, .eng, .reg, .ps] s (@State.sendDueEntry s x2) := by
  unfold State.sendDueEntry
  try dsimp only
  refine Within.ite (fun _ => ?_) (fun _ => ?_)
  · exact Within.refl _
  · refine Within.ite (fun _ => ?_) (fun _ => ?_)
    · refine Within.step (State.sendEntry_within ..) rfl ?_
      refine Within.step (State.setReg_within ..) rfl ?_
      exact Within.refl _
    · refine Within.step (State.sendEntry_within ..) rfl ?_
      refine Within.step (State.setReg_within ..) rfl ?_
      refine Within.step (State.setReg_within ..) rfl ?_
      exact Within.refl _

theorem State.replayEnds_within (s) : Within [.regs, .out, .cmd, .eng, .reg] s (@State.replayEnds s) := by
  unfold State.replayEnds
  try dsimp only
  refine Within.ite (fun _ => ?_) (fun _ => ?_)
  · exact Within.refl _
  · refine Within.ite (fun _ => ?_) (fun _ => ?_)
    · refine Within.step (State.notice_within ..) rfl ?_
      refine Within.step (State.setFlag_within ..) rfl ?_
      refine Within.step (State.setReg_within ..) rfl ?_
      refine Within.step (State.set_within ..) rfl ?_
      exact Within.refl _
    · refine Within.step (State.set_within ..) rfl ?_
      exact Within.refl _

theorem State.sendAgain_within (s) : Within [.regs, .out, .cmd, .tun, .sw, .eng, .reg, .ps] s (@State.sendAgain s) := by
  unfold State.sendAgain
  try dsimp only
  refine Within.step (State.replayEnds_within ..) rfl ?_
  refine forAll_within (fun _ _ => ?_) ?_
  · refine Within.step (State.sendDueEntry_within ..) rfl ?_
    exact Within.refl _
  · exact Within.refl _

theorem State.placeVoids_within (s) : Within [.regs, .reg] s (@State.placeVoids s) := by
  unfold State.placeVoids
  try dsimp only
  refine forAll_within (fun _ _ => ?_) ?_
  · refine Within.ite (fun _ => ?_) (fun _ => ?_)
    · exact Within.refl _
    · split
      · refine Within.step (State.setReg_within ..) rfl ?_
        exact Within.refl _
      · refine Within.step (State.syncRegistry_within ..) rfl ?_
        refine Within.step (State.setReg_within ..) rfl ?_
        refine Within.step (Within.of_some_snd (State.takeEntryNo_within _) (by assumption)) rfl ?_
        exact Within.refl _
  · refine Within.step (State.setReg_within ..) rfl ?_
    exact Within.refl _

theorem State.tellDead_within (s x2 x3) : Within [.regs, .out, .cmd, .eng] s (@State.tellDead s x2 x3) := by
  unfold State.tellDead
  try dsimp only
  refine forAll_within (fun _ _ => ?_) ?_
  · refine Within.step (State.notice_within ..) rfl ?_
    exact Within.refl _
  · exact Within.refl _

theorem State.registryAtBoundary_within (s) : Within [.regs, .out, .cmd, .tun, .sw, .eng, .reg, .ps] s (@State.registryAtBoundary s) := by
  unfold State.registryAtBoundary
  try dsimp only
  refine Within.ite (fun _ => ?_) (fun _ => ?_)
  · refine forAll_within (fun _ _ => ?_) ?_
    · refine Within.step (State.notice_within ..) rfl ?_
      exact Within.refl _
    · refine forAll_within (fun _ _ => ?_) ?_
      · refine Within.step (State.tellDead_within ..) rfl ?_
        exact Within.refl _
      · refine Within.step (State.setReg_within ..) rfl ?_
        refine Within.ite (fun _ => ?_) (fun _ => ?_)
        · refine Within.step (State.set_within ..) rfl ?_
          refine Within.step (State.set_within ..) rfl ?_
          refine forAll_within (fun _ _ => ?_) ?_
          · split
            · refine Within.step (State.syncRegistry_within ..) rfl ?_
              refine Within.step (State.syncWindow_within ..) rfl ?_
              refine Within.step (State.setBookRec_within ..) rfl ?_
              exact Within.refl _
            · exact Within.refl _
          · exact Within.refl _
        · refine Within.step (State.set_within ..) rfl ?_
          refine forAll_within (fun _ _ => ?_) ?_
          · split
            · refine Within.step (State.syncRegistry_within ..) rfl ?_
              refine Within.step (State.syncWindow_within ..) rfl ?_
              refine Within.step (State.setBookRec_within ..) rfl ?_
              exact Within.refl _
            · exact Within.refl _
          · exact Within.refl _
  · refine Within.step (State.sendAgain_within ..) rfl ?_
    refine Within.step (State.sendFirsts_within ..) rfl ?_
    refine Within.step (State.sendAnswers_within ..) rfl ?_
    refine Within.step (State.placeVoids_within ..) rfl ?_
    refine forAll_within (fun _ _ => ?_) ?_
    · refine Within.step (State.notice_within ..) rfl ?_
      exact Within.refl _
    · refine forAll_within (fun _ _ => ?_) ?_
      · refine Within.step (State.tellDead_within ..) rfl ?_
        exact Within.refl _
      · refine Within.step (State.setReg_within ..) rfl ?_
        refine Within.ite (fun _ => ?_) (fun _ => ?_)
        · refine Within.step (State.set_within ..) rfl ?_
          refine Within.step (State.set_within ..) rfl ?_
          refine forAll_within (fun _ _ => ?_) ?_
          · split
            · refine Within.step (State.syncRegistry_within ..) rfl ?_
              refine Within.step (State.syncWindow_within ..) rfl ?_
              refine Within.step (State.setBookRec_within ..) rfl ?_
              exact Within.refl _
            · exact Within.refl _
          · exact Within.refl _
        · refine Within.step (State.set_within ..) rfl ?_
          refine forAll_within (fun _ _ => ?_) ?_
          · split
            · refine Within.step (State.syncRegistry_within ..) rfl ?_
              refine Within.step (State.syncWindow_within ..) rfl ?_
              refine Within.step (State.setBookRec_within ..) rfl ?_
              exact Within.refl _
            · exact Within.refl _
          · exact Within.refl _

theorem execPostRegistered_within (x1 x2 x3 s) : Within [.regs, .out, .cmd, .eng, .reg, .ps, .mem] s (after (@execPostRegistered x1 x2 x3 s) s) := by
  unfold execPostRegistered
  try dsimp only
  refine Within.of_next ?_
  refine State.runOpcode_keeps rfl (fun _ _ => ?_) ?_
  · split
    · refine Within.ite_fst (fun _ => ?_) (fun _ => ?_)
      · dsimp only
        exact Within.refl _
      · dsimp only
        exact Within.refl _
    · split
      · dsimp only
        refine Within.step (Within.of_snd (State.offer_within ..) (by assumption)) rfl ?_
        exact Within.refl _
      · dsimp only
        refine Within.step (Within.of_snd (State.offer_within ..) (by assumption)) rfl ?_
        exact Within.refl _
  · exact Within.refl _

theorem State.answerWriter_within (s x2 x3) : Within [.out, .bridge] s (@State.answerWriter s x2 x3) := by
  unfold State.answerWriter
  exact (by split; exacts [(Within.step (State.emit_within ..) rfl (Within.bridge rfl (Within.refl _))), (Within.refl _)])

theorem State.writeFailed_within (s x2 x3) : Within [.regs, .reg] s (@State.writeFailed s x2 x3) := by
  unfold State.writeFailed
  try dsimp only
  split
  · refine Within.ite (fun _ => ?_) (fun _ => ?_)
    · refine Within.step (State.setBookRec_within ..) rfl ?_
      refine Within.step (State.freeEntry_within ..) rfl ?_
      exact Within.refl _
    · refine Within.step (State.fillSeq_within ..) rfl ?_
      refine Within.step (State.freeEntry_within ..) rfl ?_
      exact Within.refl _
  · refine Within.step (State.freeEntry_within ..) rfl ?_
    exact Within.refl _

theorem execEntryWriteDone_within (x1 x2 s) : Within [.regs, .out, .cmd, .tun, .sw, .eng, .reg, .bridge, .ps] s (after (@execEntryWriteDone x1 x2 s) s) := by
  unfold execEntryWriteDone
  try dsimp only
  refine Within.of_next ?_
  split
  · exact Within.refl _
  · refine Within.ite (fun _ => ?_) (fun _ => ?_)
    · exact Within.refl _
    · refine Within.ite (fun _ => ?_) (fun _ => ?_)
      · refine Within.step (State.sendFirsts_within ..) rfl ?_
        refine Within.step (State.answerWriter_within ..) rfl ?_
        refine Within.step (State.finishWaiters_within ..) rfl ?_
        refine Within.step (State.activity_within ..) rfl ?_
        refine Within.step (State.syncRegistry_within ..) rfl ?_
        refine Within.step (State.bump_within ..) rfl ?_
        refine Within.step (State.setReg_within ..) rfl ?_
        exact Within.refl _
      · refine Within.step (State.finishWaiters_within ..) rfl ?_
        refine Within.step (State.answerWriter_within ..) rfl ?_
        refine Within.step (State.bump_within ..) rfl ?_
        refine Within.step (State.writeFailed_within ..) rfl ?_
        exact Within.refl _

theorem execResend_within (x1 s) : Within [.regs, .out, .cmd, .tun, .sw, .eng, .reg, .ps] s (after (@execResend x1 s) s) := by
  unfold execResend
  try dsimp only
  refine Within.of_next ?_
  refine Within.ite (fun _ => ?_) (fun _ => ?_)
  · exact Within.refl _
  · refine Within.step (State.replayEnds_within ..) rfl ?_
    refine forAll_within (fun _ _ => ?_) ?_
    · refine Within.step (State.sendDueEntry_within ..) rfl ?_
      exact Within.refl _
    · exact Within.refl _

theorem execRegisteredData_within (x1 x2 x3 x4 x5 x6 x7 s) : Within [.regs, .out, .cmd, .sw, .eng, .reg, .ps] s (after (@execRegisteredData x1 x2 x3 x4 x5 x6 x7 s) s) := by
  unfold execRegisteredData
  try dsimp only
  refine Within.of_next ?_
  refine Within.ite (fun _ => ?_) (fun _ => ?_)
  · refine Within.step (State.arriveData_within ..) rfl ?_
    exact Within.refl _
  · exact Within.refl _

theorem State.endRegistered_within (s x2 x3 x4) : Within [.regs, .out, .cmd, .sw, .eng, .reg, .bridge] s (@State.endRegistered s x2 x3 x4) := by
  unfold State.endRegistered
  try dsimp only
  split
  · exact Within.refl _
  · refine Within.ite (fun _ => ?_) (fun _ => ?_)
    · exact Within.refl _
    · refine Within.step (State.consumeBox_within ..) rfl ?_
      refine Within.ite (fun _ => ?_) (fun _ => ?_)
      · refine Within.ite (fun _ => ?_) (fun _ => ?_)
        · refine Within.step (State.bump_within ..) rfl ?_
          refine Within.ite (fun _ => ?_) (fun _ => ?_)
          · refine Within.ite (fun _ => ?_) (fun _ => ?_)
            · refine Within.step (State.setCanBus_within ..) rfl ?_
              exact Within.refl _
            · exact Within.refl _
          · split
            · refine Within.ite (fun _ => ?_) (fun _ => ?_)
              · refine Within.step (State.setMasterBus_within ..) rfl ?_
                exact Within.refl _
              · exact Within.refl _
            · exact Within.refl _
        · refine Within.ite (fun _ => ?_) (fun _ => ?_)
          · refine Within.ite (fun _ => ?_) (fun _ => ?_)
            · refine Within.step (State.setCanBus_within ..) rfl ?_
              exact Within.refl _
            · exact Within.refl _
          · split
            · refine Within.ite (fun _ => ?_) (fun _ => ?_)
              · refine Within.step (State.setMasterBus_within ..) rfl ?_
                exact Within.refl _
              · exact Within.refl _
            · exact Within.refl _
      · refine Within.step (State.fieldEvent_within ..) rfl ?_
        refine Within.step (State.bump_within ..) rfl ?_
        refine Within.ite (fun _ => ?_) (fun _ => ?_)
        · refine Within.ite (fun _ => ?_) (fun _ => ?_)
          · refine Within.step (State.setCanBus_within ..) rfl ?_
            exact Within.refl _
          · exact Within.refl _
        · split
          · refine Within.ite (fun _ => ?_) (fun _ => ?_)
            · refine Within.step (State.setMasterBus_within ..) rfl ?_
              exact Within.refl _
            · exact Within.refl _
          · exact Within.refl _

theorem execBridgeConsumed_within (x1 x2 x3 s) : Within [.regs, .out, .cmd, .sw, .eng, .reg, .bridge] s (after (@execBridgeConsumed x1 x2 x3 s) s) := by
  unfold execBridgeConsumed
  try dsimp only
  refine Within.of_next ?_
  refine Within.step (State.endRegistered_within ..) rfl ?_
  exact Within.refl _

theorem execReceipt_within (x1 x2 x3 x4 x5 x6 x7 s) : Within [.regs, .reg] s (after (@execReceipt x1 x2 x3 x4 x5 x6 x7 s) s) := by
  unfold execReceipt
  try dsimp only
  refine Within.of_next ?_
  refine Within.ite (fun _ => ?_) (fun _ => ?_)
  · refine Within.step (State.applyReceipt_within ..) rfl ?_
    exact Within.refl _
  · exact Within.refl _

theorem execReturned_within (x1 x2 x3 x4 x5 x6 x7 x8 s) : Within [.regs, .reg] s (after (@execReturned x1 x2 x3 x4 x5 x6 x7 x8 s) s) := by
  unfold execReturned
  try dsimp only
  refine Within.of_next ?_
  refine Within.ite (fun _ => ?_) (fun _ => ?_)
  · refine Within.step (State.applyReturn_within ..) rfl ?_
    exact Within.refl _
  · exact Within.refl _

theorem State.rebuildSeq_within (s x2 x3) : Within [.reg] s (@State.rebuildSeq s x2 x3) := by
  unfold State.rebuildSeq
  exact (Within.step (State.setBookRec_within ..) rfl (Within.refl _))

theorem execRegistryScan_within (s) : Within [.regs, .out, .cmd, .eng, .reg] s (after (@execRegistryScan s) s) := by
  unfold execRegistryScan
  try dsimp only
  refine Within.of_next ?_
  refine Within.ite (fun _ => ?_) (fun _ => ?_)
  · exact Within.refl _
  · refine Within.ite (fun _ => ?_) (fun _ => ?_)
    · refine Within.step (State.notice_within ..) rfl ?_
      refine Within.step (State.setFlag_within ..) rfl ?_
      refine Within.step (State.set_within ..) rfl ?_
      refine Within.step (State.setReg_within ..) rfl ?_
      refine forAll_within (fun _ _ => ?_) ?_
      · refine Within.ite (fun _ => ?_) (fun _ => ?_)
        · refine Within.step (State.rebuildSeq_within ..) rfl ?_
          exact Within.refl _
        · exact Within.refl _
      · exact Within.refl _
    · refine Within.step (State.setFlag_within ..) rfl ?_
      refine Within.step (State.set_within ..) rfl ?_
      refine Within.step (State.setReg_within ..) rfl ?_
      refine forAll_within (fun _ _ => ?_) ?_
      · refine Within.ite (fun _ => ?_) (fun _ => ?_)
        · refine Within.step (State.rebuildSeq_within ..) rfl ?_
          exact Within.refl _
        · exact Within.refl _
      · exact Within.refl _

theorem State.registryRestart_within (s x2) : Within [.regs, .out, .cmd, .eng, .reg] s (@State.registryRestart s x2) := by
  unfold State.registryRestart
  try dsimp only
  refine forAll_within (fun _ _ => ?_) ?_
  · refine Within.ite (fun _ => ?_) (fun _ => ?_)
    · exact Within.refl _
    · refine Within.step (State.receiptDue_within ..) rfl ?_
      refine Within.ite (fun _ => ?_) (fun _ => ?_)
      · refine Within.step (State.notice_within ..) rfl ?_
        refine Within.step (State.bump_within ..) rfl ?_
        refine Within.step (State.setBookRec_within ..) rfl ?_
        exact Within.refl _
      · exact Within.refl _
  · refine Within.step (State.set_within ..) rfl ?_
    refine Within.step (State.setFlag_within ..) rfl ?_
    refine Within.step (State.setReg_within ..) rfl ?_
    refine Within.ite (fun _ => ?_) (fun _ => ?_)
    · refine Within.step (State.setReg_within ..) rfl ?_
      exact Within.refl _
    · exact Within.refl _

theorem execLettersWaiting_within (x1 s) : Within [.regs, .out, .cmd, .eng, .reg] s (after (@execLettersWaiting x1 s) s) := by
  unfold execLettersWaiting
  try dsimp only
  refine Within.of_next ?_
  split
  · refine Within.ite (fun _ => ?_) (fun _ => ?_)
    · refine Within.step (State.tellWaiting_within ..) rfl ?_
      exact Within.refl _
    · exact Within.refl _
  · exact Within.refl _

theorem execRegistryApportion_within (x1 x2 s) : Within [.regs, .out, .cmd, .eng, .reg, .ps, .mem] s (after (@execRegistryApportion x1 x2 s) s) := by
  unfold execRegistryApportion
  try dsimp only
  refine Within.of_next ?_
  refine State.runOpcode_keeps rfl (fun _ _ => ?_) ?_
  · refine Within.ite_fst (fun _ => ?_) (fun _ => ?_)
    · dsimp only
      exact Within.refl _
    · refine Within.ite_fst (fun _ => ?_) (fun _ => ?_)
      · dsimp only
        exact Within.refl _
      · refine Within.ite_fst (fun _ => ?_) (fun _ => ?_)
        · dsimp only
          exact Within.refl _
        · refine Within.ite_fst (fun _ => ?_) (fun _ => ?_)
          · dsimp only
            exact Within.refl _
          · dsimp only
            refine forAll_within (fun _ _ => ?_) ?_
            · refine Within.step (State.updBookRec_within ..) rfl ?_
              exact Within.refl _
            · exact Within.refl _
  · exact Within.refl _

theorem execCollect_within (x1 x2 x3 s) : Within [.regs, .out, .cmd, .eng, .reg, .ps, .mem] s (after (@execCollect x1 x2 x3 s) s) := by
  unfold execCollect
  try dsimp only
  refine Within.of_next ?_
  refine State.runOpcode_keeps rfl (fun _ _ => ?_) ?_
  · refine Within.ite_fst (fun _ => ?_) (fun _ => ?_)
    · dsimp only
      exact Within.refl _
    · refine Within.ite_fst (fun _ => ?_) (fun _ => ?_)
      · dsimp only
        exact Within.refl _
      · refine Within.ite_fst (fun _ => ?_) (fun _ => ?_)
        · dsimp only
          exact Within.refl _
        · dsimp only
          split
          · refine Within.step (State.updBookRec_within ..) rfl ?_
            refine Within.step (State.setReg_within ..) rfl ?_
            exact Within.refl _
          · refine Within.step (State.setReg_within ..) rfl ?_
            exact Within.refl _
  · exact Within.refl _

theorem execAckCollected_within (x1 x2 x3 s) : Within [.regs, .out, .cmd, .sw, .eng, .reg, .ps, .mem] s (after (@execAckCollected x1 x2 x3 s) s) := by
  unfold execAckCollected
  try dsimp only
  refine Within.of_next ?_
  refine State.runOpcode_keeps rfl (fun _ _ => ?_) ?_
  · refine Within.ite_fst (fun _ => ?_) (fun _ => ?_)
    · dsimp only
      exact Within.refl _
    · split
      · dsimp only
        exact Within.refl _
      · refine Within.ite_fst (fun _ => ?_) (fun _ => ?_)
        · dsimp only
          exact Within.refl _
        · refine Within.ite_fst (fun _ => ?_) (fun _ => ?_)
          · dsimp only
            exact Within.refl _
          · dsimp only
            refine Within.step (State.receiptDue_within ..) rfl ?_
            refine Within.ite (fun _ => ?_) (fun _ => ?_)
            · refine Within.step (State.setReg_within ..) rfl ?_
              refine Within.step (State.stepVoids_within ..) rfl ?_
              refine forAll_within (fun _ _ => ?_) ?_
              · refine Within.step (State.emptyPigeon_within ..) rfl ?_
                exact Within.refl _
              · refine Within.step (State.setBookRec_within ..) rfl ?_
                exact Within.refl _
            · refine Within.step (State.stepVoids_within ..) rfl ?_
              refine forAll_within (fun _ _ => ?_) ?_
              · refine Within.step (State.emptyPigeon_within ..) rfl ?_
                exact Within.refl _
              · refine Within.step (State.setBookRec_within ..) rfl ?_
                exact Within.refl _
  · exact Within.refl _

theorem execRegistryStatus_within (x1 x2 s) : Within [.regs, .out, .cmd, .eng, .ps, .mem] s (after (@execRegistryStatus x1 x2 s) s) := by
  unfold execRegistryStatus
  try dsimp only
  refine Within.of_next ?_
  refine State.runOpcode_keeps rfl (fun _ _ => ?_) ?_
  · refine Within.ite_fst (fun _ => ?_) (fun _ => ?_)
    · dsimp only
      exact Within.refl _
    · refine Within.ite_fst (fun _ => ?_) (fun _ => ?_)
      · dsimp only
        exact Within.refl _
      · dsimp only
        exact Within.refl _
  · exact Within.refl _

theorem execDeadLetterRead_within (x1 x2 x3 x4 s) : Within [.regs, .out, .cmd, .eng, .ps, .mem] s (after (@execDeadLetterRead x1 x2 x3 x4 s) s) := by
  unfold execDeadLetterRead
  try dsimp only
  refine Within.of_next ?_
  refine State.runOpcode_keeps rfl (fun _ _ => ?_) ?_
  · refine Within.ite_fst (fun _ => ?_) (fun _ => ?_)
    · dsimp only
      exact Within.refl _
    · dsimp only
      exact Within.refl _
  · exact Within.refl _

theorem execDeadLetterClear_within (x1 x2 s) : Within [.regs, .out, .cmd, .eng, .reg, .ps, .mem] s (after (@execDeadLetterClear x1 x2 s) s) := by
  unfold execDeadLetterClear
  try dsimp only
  refine Within.of_next ?_
  refine State.runOpcode_keeps rfl (fun _ _ => ?_) ?_
  · refine Within.ite_fst (fun _ => ?_) (fun _ => ?_)
    · dsimp only
      exact Within.refl _
    · dsimp only
      refine forAll_within (fun _ _ => ?_) ?_
      · refine Within.step (State.freeEntry_within ..) rfl ?_
        exact Within.refl _
      · exact Within.refl _
  · exact Within.refl _

end Machine
end Sys2Proof
end

