-- ==== Sys2Proof/Laws/FrameBridge.lean ====
section
/-!
SUPPORT. The frame of every operation of Machine/Bridge.lean: the parts of the state it may change.
-/
namespace Sys2Proof
namespace Machine

theorem State.setBridge_within (s x2) : Within [.bridge] s (@State.setBridge s x2) := by
  unfold State.setBridge
  exact (Within.bridge rfl (Within.refl _))

theorem State.countFrame_within (s x2) : Within [.bridge] s (@State.countFrame s x2).2 := by
  unfold State.countFrame
  exact (Within.step (State.setBridge_within ..) rfl (Within.refl _))

theorem State.sendField_within (s x2 x3) : Within [.regs, .out, .cmd, .tun, .sw, .eng] s (@State.sendField s x2 x3) := by
  unfold State.sendField
  try dsimp only
  refine Within.ite (fun _ => ?_) (fun _ => ?_)
  · exact Within.refl _
  · refine Within.step (State.postUnit_within ..) rfl ?_
    refine Within.step (State.emit_within ..) rfl ?_
    exact Within.refl _

theorem State.sendModbus_within (s x2 x3) : Within [.regs, .out, .cmd, .tun, .sw, .eng] s (@State.sendModbus s x2 x3) := by
  unfold State.sendModbus
  try dsimp only
  refine Within.step (State.sendField_within ..) rfl ?_
  exact Within.refl _

theorem State.dropHeldCan_within (s x2 x3) : Within [.regs, .out, .cmd, .eng, .bridge] s (@State.dropHeldCan s x2 x3) := by
  unfold State.dropHeldCan
  try dsimp only
  refine Within.ite (fun _ => ?_) (fun _ => ?_)
  · exact Within.refl _
  · refine Within.ite (fun _ => ?_) (fun _ => ?_)
    · refine Within.step (State.bump_within ..) rfl ?_
      exact Within.refl _
    · refine Within.step (State.fieldEvent_within ..) rfl ?_
      refine Within.step (State.setCanBus_within ..) rfl ?_
      refine Within.step (State.bump_within ..) rfl ?_
      exact Within.refl _

theorem State.holdCan_within (s x2 x3 x4 x5) : Within [.regs, .out, .cmd, .eng, .bridge] s (@State.holdCan s x2 x3 x4 x5) := by
  unfold State.holdCan
  try dsimp only
  refine Within.ite (fun _ => ?_) (fun _ => ?_)
  · refine Within.step (State.dropHeldCan_within ..) rfl ?_
    exact Within.refl _
  · refine Within.step (State.setCanBus_within ..) rfl ?_
    exact Within.refl _

theorem State.offerCan_within (s x2 x3 x4 x5) : Within [.regs, .reg] s (@State.offerCan s x2 x3 x4 x5).2 := by
  unfold State.offerCan
  try dsimp only
  split
  · dsimp only
    refine Within.step (Within.of_snd (State.offer_within ..) (by assumption)) rfl ?_
    exact Within.refl _
  · dsimp only
    refine Within.step (Within.of_snd (State.offer_within ..) (by assumption)) rfl ?_
    exact Within.refl _

theorem State.setErrors_within (s x2 x3 x4) : Within [.regs] s (@State.setErrors s x2 x3 x4) := by
  unfold State.setErrors
  try dsimp only
  refine Within.step (State.set_within ..) rfl ?_
  refine Within.step (State.set_within ..) rfl ?_
  refine Within.step (State.set_within ..) rfl ?_
  exact Within.refl _

theorem execCanFrameRx_within (x1 x2 x3 s) :
    Within [.regs, .out, .cmd, .tun, .sw, .eng, .reg, .bridge] s (after (@execCanFrameRx x1 x2 x3 s) s) := by
  unfold execCanFrameRx
  refine Within.of_next ?_
  have start : Within [.regs, .out, .cmd, .tun, .sw, .eng, .reg, .bridge] s
      (((s.bump (Cnt.FIELD_FRAMES_RX x1.val)).setErrors x1.val (s.get (Reg.BUS_STATE_TEC x1.val))
        (s.get (Reg.BUS_STATE_REC x1.val) - 1)).countFrame x1.val).2 :=
    Within.step (State.countFrame_within ..) rfl (Within.step (State.setErrors_within ..) rfl (Within.step
      (State.bump_within ..) rfl (Within.refl _)))
  refine Within.ite (fun _ => Within.refl _) (fun _ => Within.ite (fun _ => ?_) (fun _ => Within.ite (fun _ => ?_) (fun _ => ?_)))
  · exact Within.step (State.setErrors_within ..) rfl (Within.step (State.bump_within ..) rfl (Within.refl _))
  · exact Within.step (State.bump_within ..) rfl start
  · split
    · exact Within.step (State.bump_within ..) rfl start
    · refine Within.ite (fun _ => Within.ite (fun _ => ?_) (fun _ => Within.ite (fun _ => ?_) (fun _ => ?_))) (fun _ => ?_)
      · exact Within.step (State.holdCan_within ..) rfl start
      · exact Within.step (State.holdCan_within ..) rfl (Within.step (State.offerCan_within ..) rfl start)
      · exact Within.step (State.offerCan_within ..) rfl start
      · exact Within.step (State.sendField_within ..) rfl start

theorem State.retryHeld_within (s x2) : Within [.regs, .reg, .bridge] s (@State.retryHeld s x2) := by
  unfold State.retryHeld
  exact (forAll_within (fun _ _ => (Within.ite (fun _ => (Within.step (State.setCanBus_within ..) rfl (Within.refl _))) (fun _
    => (Within.ite (fun _ => (Within.step (State.setCanBus_within ..) rfl (Within.step (State.offerCan_within ..) rfl
    (Within.refl _)))) (fun _ => (Within.step (State.offerCan_within ..) rfl (Within.refl _))))))) (Within.step
    (State.setCanBus_within ..) rfl (Within.refl _)))

theorem execCanHoldTimeout_within (x1 s) : Within [.regs, .out, .cmd, .eng, .bridge] s (after (@execCanHoldTimeout x1 s) s) := by
  unfold execCanHoldTimeout
  try dsimp only
  refine Within.of_next ?_
  refine Within.step (State.dropHeldCan_within ..) rfl ?_
  refine Within.step (State.setCanBus_within ..) rfl ?_
  exact Within.refl _

theorem State.startCan_within (s x2 x3 x4) : Within [.regs, .out, .cmd, .sw, .eng, .reg, .bridge] s (@State.startCan s x2 x3 x4) := by
  unfold State.startCan
  try dsimp only
  split
  · exact Within.refl _
  · split
    · refine Within.ite (fun _ => ?_) (fun _ => ?_)
      · refine Within.step (State.endRegistered_within ..) rfl ?_
        refine Within.step (Within.of_some_snd (State.passToBridge_within _ _ _) (by assumption)) rfl ?_
        exact Within.refl _
      · refine Within.step (State.emit_within ..) rfl ?_
        refine Within.step (State.setCanBus_within ..) rfl ?_
        refine Within.step (Within.of_some_snd (State.passToBridge_within _ _ _) (by assumption)) rfl ?_
        exact Within.refl _
    · refine Within.step (State.endRegistered_within ..) rfl ?_
      refine Within.step (Within.of_some_snd (State.passToBridge_within _ _ _) (by assumption)) rfl ?_
      exact Within.refl _

theorem execCanMessage_within (x1 x2 x3 x4 s) : Within [.regs, .out, .cmd, .sw, .eng, .reg, .bridge] s (after (@execCanMessage x1 x2 x3 x4 s) s) := by
  unfold execCanMessage
  try dsimp only
  refine Within.of_next ?_
  split
  · exact Within.refl _
  · split
    · refine Within.ite (fun _ => ?_) (fun _ => ?_)
      · refine Within.step (State.startCan_within ..) rfl ?_
        exact Within.refl _
      · exact Within.refl _
    · refine Within.ite (fun _ => ?_) (fun _ => ?_)
      · refine Within.step (State.bump_within ..) rfl ?_
        exact Within.refl _
      · split
        · refine Within.step (State.bump_within ..) rfl ?_
          exact Within.refl _
        · refine Within.ite (fun _ => ?_) (fun _ => ?_)
          · refine Within.step (State.bump_within ..) rfl ?_
            exact Within.refl _
          · refine Within.ite (fun _ => ?_) (fun _ => ?_)
            · refine Within.step (State.bump_within ..) rfl ?_
              exact Within.refl _
            · refine Within.ite (fun _ => ?_) (fun _ => ?_)
              · exact Within.refl _
              · refine Within.step (State.setCanBus_within ..) rfl ?_
                exact Within.refl _

theorem execCanTxComplete_within (x1 s) : Within [.regs, .out, .bridge] s (after (@execCanTxComplete x1 s) s) := by
  unfold execCanTxComplete
  try dsimp only
  refine Within.of_next ?_
  split
  · exact Within.refl _
  · refine Within.ite (fun _ => ?_) (fun _ => ?_)
    · exact Within.refl _
    · refine Within.step (State.emit_within ..) rfl ?_
      refine Within.step (State.setErrors_within ..) rfl ?_
      refine Within.step (State.bump_within ..) rfl ?_
      refine Within.step (State.setCanBus_within ..) rfl ?_
      exact Within.refl _

theorem State.withdrawReg_within (s x2) : Within [.regs, .out, .cmd, .sw, .eng, .reg, .bridge] s (@State.withdrawReg s x2) := by
  unfold State.withdrawReg
  try dsimp only
  split
  · refine Within.step (State.endRegistered_within ..) rfl ?_
    exact Within.refl _
  · exact Within.refl _

theorem execBusOff_within (x1 s) : Within [.regs, .out, .cmd, .sw, .eng, .reg, .bridge] s (after (@execBusOff x1 s) s) := by
  unfold execBusOff
  try dsimp only
  refine Within.of_next ?_
  refine Within.ite (fun _ => ?_) (fun _ => ?_)
  · refine Within.step (State.withdrawReg_within ..) rfl ?_
    refine Within.step (State.fieldEvent_within ..) rfl ?_
    refine Within.step (State.bump_within ..) rfl ?_
    refine Within.step (State.set_within ..) rfl ?_
    exact Within.refl _
  · exact Within.refl _

theorem execBusOn_within (x1 s) : Within [.regs, .out, .cmd, .eng] s (after (@execBusOn x1 s) s) := by
  unfold execBusOn
  try dsimp only
  refine Within.of_next ?_
  refine Within.ite (fun _ => ?_) (fun _ => ?_)
  · refine Within.step (State.fieldEvent_within ..) rfl ?_
    refine Within.step (State.set_within ..) rfl ?_
    refine Within.step (State.set_within ..) rfl ?_
    refine Within.step (State.set_within ..) rfl ?_
    exact Within.refl _
  · exact Within.refl _

theorem execRegTxLimitExpiry_within (x1 s) : Within [.regs, .out, .cmd, .sw, .eng, .reg, .bridge] s (after (@execRegTxLimitExpiry x1 s) s) := by
  unfold execRegTxLimitExpiry
  try dsimp only
  refine Within.of_next ?_
  refine Within.step (State.withdrawReg_within ..) rfl ?_
  exact Within.refl _

theorem State.answerMaster_within (s x2 x3 x4 x5 x6) : Within [.regs, .out] s (@State.answerMaster s x2 x3 x4 x5 x6) := by
  unfold State.answerMaster
  exact (Within.step (State.emit_within ..) rfl (Within.step (State.bump_within ..) rfl (State.when_within (fun _ =>
    (Within.step (State.bump_within ..) rfl (Within.refl _))) (Within.refl _))))

theorem State.answerBusy_within (s x2 x3 x4) : Within [.regs, .out] s (@State.answerBusy s x2 x3 x4) := by
  unfold State.answerBusy
  exact (Within.step (State.answerMaster_within ..) rfl (Within.step (State.bump_within ..) rfl (Within.refl _)))

theorem State.noteWrite_within (s x2) : Within [.bridge] s (@State.noteWrite s x2) := by
  unfold State.noteWrite
  exact (Within.step (State.setBridge_within ..) rfl (Within.refl _))

theorem State.takeTag_within (s) : Within [.bridge] s (@State.takeTag s).2 := by
  unfold State.takeTag
  exact (Within.step (State.setBridge_within ..) rfl (Within.refl _))

theorem State.issueWrite_within (s x2 x3 x4 x5) : Within [.regs, .out, .cmd, .tun, .sw, .eng, .bridge] s (@State.issueWrite s x2 x3 x4 x5) := by
  unfold State.issueWrite
  try dsimp only
  split
  · refine Within.step (State.sendModbus_within ..) rfl ?_
    refine Within.step (State.noteWrite_within ..) rfl ?_
    exact Within.refl _
  · exact Within.refl _

theorem State.writeRegistered_within (s x2 x3 x4 x5) : Within [.regs, .out, .reg, .bridge] s (@State.writeRegistered s x2 x3 x4 x5) := by
  unfold State.writeRegistered
  try dsimp only
  split
  · refine Within.step (State.answerMaster_within ..) rfl ?_
    exact Within.refl _
  · split
    · refine Within.step (State.setBridge_within ..) rfl ?_
      refine Within.step (State.noteWrite_within ..) rfl ?_
      refine Within.step (Within.of_snd (State.offer_within ..) (by assumption)) rfl ?_
      exact Within.refl _
    · refine Within.step (State.answerMaster_within ..) rfl ?_
      refine Within.step (Within.of_snd (State.offer_within ..) (by assumption)) rfl ?_
      exact Within.refl _

theorem State.writeConfirmed_within (s x2 x3 x4) : Within [.regs, .out, .cmd, .tun, .sw, .eng, .bridge] s (@State.writeConfirmed s x2 x3 x4) := by
  unfold State.writeConfirmed
  try dsimp only
  split
  · split
    · refine Within.step (State.answerBusy_within ..) rfl ?_
      exact Within.refl _
    · refine Within.step (State.answerMaster_within ..) rfl ?_
      refine Within.step (State.setBridge_within ..) rfl ?_
      exact Within.refl _
  · refine Within.ite (fun _ => ?_) (fun _ => ?_)
    · refine Within.step (State.answerBusy_within ..) rfl ?_
      exact Within.refl _
    · refine Within.ite (fun _ => ?_) (fun _ => ?_)
      · refine Within.step (State.answerMaster_within ..) rfl ?_
        exact Within.refl _
      · refine Within.step (State.answerBusy_within ..) rfl ?_
        refine Within.step (State.issueWrite_within ..) rfl ?_
        refine Within.step (State.setBridge_within ..) rfl ?_
        refine Within.step (State.takeTag_within ..) rfl ?_
        exact Within.refl _

theorem State.serveWrite_within (s x2 x3 x4 x5 x6 x7) : Within [.regs, .out, .cmd, .tun, .sw, .eng, .reg, .bridge] s (@State.serveWrite s x2 x3 x4 x5 x6 x7) := by
  unfold State.serveWrite
  try dsimp only
  refine Within.ite (fun _ => ?_) (fun _ => ?_)
  · refine Within.ite (fun _ => ?_) (fun _ => ?_)
    · refine Within.step (State.answerMaster_within ..) rfl ?_
      exact Within.refl _
    · exact Within.refl _
  · refine Within.ite (fun _ => ?_) (fun _ => ?_)
    · refine Within.ite (fun _ => ?_) (fun _ => ?_)
      · refine Within.step (State.answerBusy_within ..) rfl ?_
        exact Within.refl _
      · exact Within.refl _
    · split
      · refine Within.ite (fun _ => ?_) (fun _ => ?_)
        · refine Within.ite (fun _ => ?_) (fun _ => ?_)
          · refine Within.ite (fun _ => ?_) (fun _ => ?_)
            · refine Within.step (State.answerMaster_within ..) rfl ?_
              exact Within.refl _
            · exact Within.refl _
          · refine Within.step (State.writeRegistered_within ..) rfl ?_
            exact Within.refl _
        · refine Within.ite (fun _ => ?_) (fun _ => ?_)
          · refine Within.step (State.writeConfirmed_within ..) rfl ?_
            exact Within.refl _
          · refine Within.ite (fun _ => ?_) (fun _ => ?_)
            · refine Within.ite (fun _ => ?_) (fun _ => ?_)
              · refine Within.step (State.answerMaster_within ..) rfl ?_
                exact Within.refl _
              · exact Within.refl _
            · refine Within.ite (fun _ => ?_) (fun _ => ?_)
              · refine Within.step (State.answerMaster_within ..) rfl ?_
                refine Within.step (State.issueWrite_within ..) rfl ?_
                exact Within.refl _
              · refine Within.step (State.issueWrite_within ..) rfl ?_
                exact Within.refl _
      · refine Within.ite (fun _ => ?_) (fun _ => ?_)
        · refine Within.ite (fun _ => ?_) (fun _ => ?_)
          · refine Within.step (State.answerMaster_within ..) rfl ?_
            exact Within.refl _
          · exact Within.refl _
        · refine Within.ite (fun _ => ?_) (fun _ => ?_)
          · refine Within.step (State.answerMaster_within ..) rfl ?_
            refine forAll_within (fun _ _ => ?_) ?_
            · refine Within.step (State.issueWrite_within ..) rfl ?_
              exact Within.refl _
            · refine Within.step (State.bump_within ..) rfl ?_
              exact Within.refl _
          · refine forAll_within (fun _ _ => ?_) ?_
            · refine Within.step (State.issueWrite_within ..) rfl ?_
              exact Within.refl _
            · refine Within.step (State.bump_within ..) rfl ?_
              exact Within.refl _

theorem State.findValue_within (s x2 x3) : Within [.regs, .bridge] s (@State.findValue s x2 x3).2 := by
  unfold State.findValue
  exact (by split; exacts [(Within.refl _), (by split; exacts [(Within.refl _), (Within.step (State.bump_within ..) rfl
    (Within.step (State.setBridge_within ..) rfl (Within.refl _))), (Within.step (State.bump_within ..) rfl (Within.step
    (State.setBridge_within ..) rfl (Within.refl _))), (Within.step (State.bump_within ..) rfl (Within.step
    (State.setBridge_within ..) rfl (Within.refl _)))])])

theorem State.issueRead_within (s x2 x3) : Within [.regs, .out, .cmd, .tun, .sw, .eng, .bridge] s (@State.issueRead s x2 x3) := by
  unfold State.issueRead
  try dsimp only
  split
  · exact Within.refl _
  · refine Within.ite (fun _ => ?_) (fun _ => ?_)
    · exact Within.refl _
    · refine Within.step (State.sendModbus_within ..) rfl ?_
      refine Within.step (State.bump_within ..) rfl ?_
      refine Within.step (State.setBridge_within ..) rfl ?_
      refine Within.step (State.takeTag_within ..) rfl ?_
      exact Within.refl _

theorem State.noteShape_within (s x2 x3) : Within [.bridge] s (@State.noteShape s x2 x3) := by
  unfold State.noteShape
  exact (Within.ite (fun _ => (Within.refl _)) (fun _ => (Within.ite (fun _ => (Within.step (State.setBridge_within ..) rfl
    (Within.refl _))) (fun _ => (Within.ite (fun _ => (Within.step (State.setBridge_within ..) rfl (Within.refl _)))
    (fun _ => (Within.step (State.setBridge_within ..) rfl (Within.refl _))))))))

theorem State.findAll_within (s x2) : Within [.regs, .bridge] s (State.findAll s x2).2 := by
  induction x2 generalizing s with
  | nil => exact Within.refl _
  | cons x l ih => exact Within.via (ih _) (Within.step (State.findValue_within ..) rfl (Within.refl _))

theorem State.serveRead_within (s x2 x3 x4 x5) : Within [.regs, .out, .cmd, .tun, .sw, .eng, .bridge] s (@State.serveRead s x2 x3 x4 x5) := by
  unfold State.serveRead
  try dsimp only
  refine Within.ite (fun _ => ?_) (fun _ => ?_)
  · refine Within.step (State.answerMaster_within ..) rfl ?_
    exact Within.refl _
  · split
    · refine Within.step (State.answerMaster_within ..) rfl ?_
      refine Within.step (State.setBridge_within ..) rfl ?_
      refine Within.step (State.findAll_within ..) rfl ?_
      refine forAll_within (fun _ _ => ?_) ?_
      · refine Within.step (State.noteShape_within ..) rfl ?_
        exact Within.refl _
      · refine State.when_within (fun _ => ?_) ?_
        · refine Within.step (State.bump_within ..) rfl ?_
          exact Within.refl _
        · exact Within.refl _
    · refine Within.ite (fun _ => ?_) (fun _ => ?_)
      · refine Within.step (State.answerMaster_within ..) rfl ?_
        refine Within.step (State.setBridge_within ..) rfl ?_
        refine State.when_within (fun _ => ?_) ?_
        · refine Within.step (State.bump_within ..) rfl ?_
          exact Within.refl _
        · refine Within.step (State.bump_within ..) rfl ?_
          refine Within.step (State.findAll_within ..) rfl ?_
          refine forAll_within (fun _ _ => ?_) ?_
          · refine Within.step (State.noteShape_within ..) rfl ?_
            exact Within.refl _
          · refine State.when_within (fun _ => ?_) ?_
            · refine Within.step (State.bump_within ..) rfl ?_
              exact Within.refl _
            · exact Within.refl _
      · refine Within.step (State.answerBusy_within ..) rfl ?_
        refine forAll_within (fun _ _ => ?_) ?_
        · refine Within.ite (fun _ => ?_) (fun _ => ?_)
          · exact Within.refl _
          · refine Within.step (State.issueRead_within ..) rfl ?_
            exact Within.refl _
        · refine Within.step (State.findAll_within ..) rfl ?_
          refine forAll_within (fun _ _ => ?_) ?_
          · refine Within.step (State.noteShape_within ..) rfl ?_
            exact Within.refl _
          · refine State.when_within (fun _ => ?_) ?_
            · refine Within.step (State.bump_within ..) rfl ?_
              exact Within.refl _
            · exact Within.refl _

theorem execModbusRequest_within (x1 x2 x3 s) : Within [.regs, .out, .cmd, .tun, .sw, .eng, .reg, .bridge] s (after (@execModbusRequest x1 x2 x3 s) s) := by
  unfold execModbusRequest
  try dsimp only
  refine Within.of_next ?_
  refine Within.ite (fun _ => ?_) (fun _ => ?_)
  · exact Within.refl _
  · refine Within.ite (fun _ => ?_) (fun _ => ?_)
    · refine Within.step (State.bump_within ..) rfl ?_
      exact Within.refl _
    · refine Within.ite (fun _ => ?_) (fun _ => ?_)
      · split
        · refine Within.step (State.countFrame_within ..) rfl ?_
          refine Within.step (State.bump_within ..) rfl ?_
          exact Within.refl _
        · split
          · refine Within.ite (fun _ => ?_) (fun _ => ?_)
            · refine Within.step (State.serveWrite_within ..) rfl ?_
              refine Within.step (State.countFrame_within ..) rfl ?_
              refine Within.step (State.bump_within ..) rfl ?_
              exact Within.refl _
            · refine Within.step (State.countFrame_within ..) rfl ?_
              refine Within.step (State.bump_within ..) rfl ?_
              exact Within.refl _
          · refine Within.step (State.countFrame_within ..) rfl ?_
            refine Within.step (State.bump_within ..) rfl ?_
            exact Within.refl _
      · refine Within.ite (fun _ => ?_) (fun _ => ?_)
        · refine Within.step (State.countFrame_within ..) rfl ?_
          refine Within.step (State.bump_within ..) rfl ?_
          exact Within.refl _
        · refine Within.ite (fun _ => ?_) (fun _ => ?_)
          · refine Within.step (State.answerMaster_within ..) rfl ?_
            refine Within.step (State.bump_within ..) rfl ?_
            refine Within.step (State.countFrame_within ..) rfl ?_
            refine Within.step (State.bump_within ..) rfl ?_
            exact Within.refl _
          · split
            · refine Within.step (State.answerMaster_within ..) rfl ?_
              refine Within.step (State.countFrame_within ..) rfl ?_
              refine Within.step (State.bump_within ..) rfl ?_
              exact Within.refl _
            · refine Within.ite (fun _ => ?_) (fun _ => ?_)
              · refine Within.step (State.answerMaster_within ..) rfl ?_
                refine Within.step (State.countFrame_within ..) rfl ?_
                refine Within.step (State.bump_within ..) rfl ?_
                exact Within.refl _
              · split
                · refine Within.step (State.answerMaster_within ..) rfl ?_
                  refine Within.step (State.countFrame_within ..) rfl ?_
                  refine Within.step (State.bump_within ..) rfl ?_
                  exact Within.refl _
                · refine Within.ite (fun _ => ?_) (fun _ => ?_)
                  · refine Within.step (State.answerMaster_within ..) rfl ?_
                    refine Within.step (State.bump_within ..) rfl ?_
                    refine Within.step (State.countFrame_within ..) rfl ?_
                    refine Within.step (State.bump_within ..) rfl ?_
                    exact Within.refl _
                  · refine Within.ite (fun _ => ?_) (fun _ => ?_)
                    · refine Within.step (State.serveWrite_within ..) rfl ?_
                      refine Within.step (State.countFrame_within ..) rfl ?_
                      refine Within.step (State.bump_within ..) rfl ?_
                      exact Within.refl _
                    · refine Within.step (State.serveRead_within ..) rfl ?_
                      refine Within.step (State.countFrame_within ..) rfl ?_
                      refine Within.step (State.bump_within ..) rfl ?_
                      exact Within.refl _

theorem State.holdValue_within (s x2) : Within [.regs, .bridge] s (@State.holdValue s x2) := by
  unfold State.holdValue
  try dsimp only
  refine Within.step (State.setBridge_within ..) rfl ?_
  refine Within.step (State.bump_within ..) rfl ?_
  exact Within.refl _

theorem execReadAnswer_within (x1 x2 s) : Within [.regs, .bridge] s (after (@execReadAnswer x1 x2 s) s) := by
  unfold execReadAnswer
  try dsimp only
  refine Within.of_next ?_
  split
  · refine Within.step (State.bump_within ..) rfl ?_
    exact Within.refl _
  · split
    · exact Within.refl _
    · refine Within.ite (fun _ => ?_) (fun _ => ?_)
      · refine Within.step (State.bump_within ..) rfl ?_
        exact Within.refl _
      · refine Within.ite (fun _ => ?_) (fun _ => ?_)
        · refine Within.step (State.bump_within ..) rfl ?_
          refine Within.step (State.setBridge_within ..) rfl ?_
          exact Within.refl _
        · refine Within.step (State.holdValue_within ..) rfl ?_
          refine Within.step (State.setBridge_within ..) rfl ?_
          exact Within.refl _

theorem execWriteAnswer_within (x1 x2 s) : Within [.regs, .bridge] s (after (@execWriteAnswer x1 x2 s) s) := by
  unfold execWriteAnswer
  try dsimp only
  refine Within.of_next ?_
  split
  · refine Within.step (State.bump_within ..) rfl ?_
    exact Within.refl _
  · refine Within.step (State.setBridge_within ..) rfl ?_
    exact Within.refl _

theorem execFetchTimeout_within (x1 s) : Within [.regs, .bridge] s (after (@execFetchTimeout x1 s) s) := by
  unfold execFetchTimeout
  try dsimp only
  refine Within.of_next ?_
  split
  · refine Within.step (State.holdValue_within ..) rfl ?_
    refine Within.step (State.bump_within ..) rfl ?_
    refine Within.step (State.setBridge_within ..) rfl ?_
    exact Within.refl _
  · refine Within.ite (fun _ => ?_) (fun _ => ?_)
    · refine Within.step (State.bump_within ..) rfl ?_
      refine Within.step (State.setBridge_within ..) rfl ?_
      exact Within.refl _
    · exact Within.refl _

theorem execReadAhead_within (x1 x2 s) : Within [.regs, .out, .cmd, .tun, .sw, .eng, .bridge] s (after (@execReadAhead x1 x2 s) s) := by
  unfold execReadAhead
  try dsimp only
  refine Within.of_next ?_
  split
  · exact Within.refl _
  · refine Within.ite (fun _ => ?_) (fun _ => ?_)
    · refine Within.ite (fun _ => ?_) (fun _ => ?_)
      · refine Within.step (State.setBridge_within ..) rfl ?_
        exact Within.refl _
      · refine Within.step (State.issueRead_within ..) rfl ?_
        refine Within.step (State.setBridge_within ..) rfl ?_
        exact Within.refl _
    · exact Within.refl _

theorem execReadAheadStop_within (x1 x2 s) : Within [.bridge] s (after (@execReadAheadStop x1 x2 s) s) := by
  unfold execReadAheadStop
  exact (by split; exacts [(Within.refl _), (Within.ite (fun _ => (Within.step (State.setBridge_within ..) rfl (Within.refl _)))
    (fun _ => (Within.refl _)))])

theorem execConfirmUnclaimed_within (x1 s) : Within [.regs, .bridge] s (after (@execConfirmUnclaimed x1 s) s) := by
  unfold execConfirmUnclaimed
  exact (by split; exacts [(Within.step (State.bump_within ..) rfl (Within.step (State.setBridge_within ..) rfl (Within.refl
    _))), (Within.refl _)])

theorem State.putRequest_within (s x2 x3) : Within [.regs, .out] s (@State.putRequest s x2 x3) := by
  unfold State.putRequest
  exact (Within.step (State.emit_within ..) rfl (Within.step (State.bump_within ..) rfl (Within.refl _)))

theorem State.startModbus_within (s x2 x3 x4) : Within [.regs, .out, .cmd, .sw, .eng, .reg, .bridge] s (@State.startModbus s x2 x3 x4) := by
  unfold State.startModbus
  try dsimp only
  split
  · exact Within.refl _
  · split
    · refine Within.step (State.endRegistered_within ..) rfl ?_
      refine Within.step (Within.of_some_snd (State.passToBridge_within _ _ _) (by assumption)) rfl ?_
      exact Within.refl _
    · refine Within.ite (fun _ => ?_) (fun _ => ?_)
      · refine Within.step (State.endRegistered_within ..) rfl ?_
        refine Within.step (Within.of_some_snd (State.passToBridge_within _ _ _) (by assumption)) rfl ?_
        exact Within.refl _
      · refine Within.ite (fun _ => ?_) (fun _ => ?_)
        · refine Within.step (State.endRegistered_within ..) rfl ?_
          refine Within.step (State.putRequest_within ..) rfl ?_
          refine Within.step (State.setMasterBus_within ..) rfl ?_
          refine Within.step (Within.of_some_snd (State.passToBridge_within _ _ _) (by assumption)) rfl ?_
          exact Within.refl _
        · refine Within.step (State.putRequest_within ..) rfl ?_
          refine Within.step (State.setMasterBus_within ..) rfl ?_
          refine Within.step (Within.of_some_snd (State.passToBridge_within _ _ _) (by assumption)) rfl ?_
          exact Within.refl _

theorem State.startMaster_within (s x2 x3) : Within [.regs, .out, .cmd, .tun, .sw, .eng, .reg, .bridge, .ps] s (State.startMaster s x2 x3) := by
  induction x3 generalizing s with
  | zero => exact Within.refl _
  | succ n ih =>
    rw [State.startMaster]
    dsimp only
    split
    · exact Within.refl _
    · split
      · exact Within.via (ih _) (Within.step (State.startModbus_within ..) rfl (Within.refl _))
      · split
        · exact Within.refl _
        · refine Within.ite (fun _ => Within.via (ih _) ?_) (fun _ => ?_)
          all_goals exact Within.step (State.putRequest_within ..) rfl (Within.step (State.setMasterBus_within ..) rfl
            (Within.refl _))

theorem State.answerMessage_within (s x2 x3 x4) : Within [.regs, .out, .cmd, .tun, .sw, .eng] s (@State.answerMessage s x2 x3 x4) := by
  unfold State.answerMessage
  try dsimp only
  split
  · refine Within.step (State.sendModbus_within ..) rfl ?_
    exact Within.refl _
  · refine Within.step (State.sendModbus_within ..) rfl ?_
    exact Within.refl _
  · refine Within.step (State.sendModbus_within ..) rfl ?_
    exact Within.refl _
  · exact Within.refl _

theorem execMasterBusMessage_within (x1 x2 x3 x4 s) : Within [.regs, .out, .cmd, .tun, .sw, .eng, .reg, .bridge, .ps] s (after (@execMasterBusMessage x1 x2 x3 x4 s) s) := by
  unfold execMasterBusMessage
  try dsimp only
  refine Within.of_next ?_
  split
  · exact Within.refl _
  · split
    · refine Within.ite (fun _ => ?_) (fun _ => ?_)
      · refine Within.step (State.startModbus_within ..) rfl ?_
        exact Within.refl _
      · exact Within.refl _
    · split
      · refine Within.step (State.bump_within ..) rfl ?_
        exact Within.refl _
      · refine Within.ite (fun _ => ?_) (fun _ => ?_)
        · refine Within.step (State.bump_within ..) rfl ?_
          exact Within.refl _
        · refine Within.ite (fun _ => ?_) (fun _ => ?_)
          · refine Within.step (State.answerMessage_within ..) rfl ?_
            refine Within.step (State.bump_within ..) rfl ?_
            exact Within.refl _
          · refine Within.ite (fun _ => ?_) (fun _ => ?_)
            · exact Within.refl _
            · refine Within.step (State.startMaster_within ..) rfl ?_
              refine Within.step (State.setMasterBus_within ..) rfl ?_
              exact Within.refl _

theorem execModbusResponse_within (x1 x2 x3 s) : Within [.regs, .out, .cmd, .tun, .sw, .eng, .reg, .bridge, .ps] s (after (@execModbusResponse x1 x2 x3 s) s) := by
  unfold execModbusResponse
  try dsimp only
  refine Within.of_next ?_
  split
  · exact Within.refl _
  · refine Within.step (State.startMaster_within ..) rfl ?_
    refine Within.ite (fun _ => ?_) (fun _ => ?_)
    · refine Within.step (State.endRegistered_within ..) rfl ?_
      refine State.when_within (fun _ => ?_) ?_
      · refine Within.step (State.bump_within ..) rfl ?_
        exact Within.refl _
      · refine Within.step (State.bump_within ..) rfl ?_
        exact Within.refl _
    · refine Within.step (State.answerMessage_within ..) rfl ?_
      refine Within.step (State.setMasterBus_within ..) rfl ?_
      refine State.when_within (fun _ => ?_) ?_
      · refine Within.step (State.bump_within ..) rfl ?_
        exact Within.refl _
      · refine Within.step (State.bump_within ..) rfl ?_
        exact Within.refl _

theorem execRespTimeout_within (x1 s) : Within [.regs, .out, .cmd, .tun, .sw, .eng, .reg, .bridge, .ps] s (after (@execRespTimeout x1 s) s) := by
  unfold execRespTimeout
  try dsimp only
  refine Within.of_next ?_
  split
  · exact Within.refl _
  · refine Within.ite (fun _ => ?_) (fun _ => ?_)
    · refine Within.step (State.startMaster_within ..) rfl ?_
      refine Within.step (State.endRegistered_within ..) rfl ?_
      refine Within.step (State.bump_within ..) rfl ?_
      exact Within.refl _
    · refine Within.ite (fun _ => ?_) (fun _ => ?_)
      · refine Within.step (State.putRequest_within ..) rfl ?_
        refine Within.step (State.bump_within ..) rfl ?_
        refine Within.step (State.setMasterBus_within ..) rfl ?_
        refine Within.step (State.bump_within ..) rfl ?_
        exact Within.refl _
      · refine Within.step (State.startMaster_within ..) rfl ?_
        refine Within.step (State.answerMessage_within ..) rfl ?_
        refine Within.step (State.setMasterBus_within ..) rfl ?_
        refine Within.step (State.bump_within ..) rfl ?_
        exact Within.refl _

theorem State.shadowWords_within (s x2) : Within [.shadow] s (@State.shadowWords s x2) := by
  unfold State.shadowWords
  exact (forAll_within (fun _ _ => (Within.step (State.shadowWrite_within ..) rfl (Within.refl _))) (Within.refl _))

theorem execRouteWrite_within (x1 x2 s) : Within [.regs, .shadow, .out, .cmd, .eng, .ps, .mem] s (after (@execRouteWrite x1 x2 s) s) := by
  unfold execRouteWrite
  try dsimp only
  refine Within.of_next ?_
  refine State.runOpcode_keeps rfl (fun _ _ => ?_) ?_
  · refine Within.ite_fst (fun _ => ?_) (fun _ => ?_)
    · dsimp only
      exact Within.refl _
    · refine Within.ite_fst (fun _ => ?_) (fun _ => ?_)
      · dsimp only
        exact Within.refl _
      · refine Within.ite_fst (fun _ => ?_) (fun _ => ?_)
        · dsimp only
          refine Within.step (State.shadowWords_within ..) rfl ?_
          exact Within.refl _
        · dsimp only
          exact Within.refl _
  · exact Within.refl _

theorem execRouteRead_within (x1 x2 x3 x4 x5 x6 x7 s) : Within [.regs, .out, .cmd, .eng, .ps, .mem] s (after (@execRouteRead x1 x2 x3 x4 x5 x6 x7 s) s) := by
  unfold execRouteRead
  try dsimp only
  refine Within.of_next ?_
  refine State.runOpcode_keeps rfl (fun _ _ => ?_) ?_
  · refine Within.ite_fst (fun _ => ?_) (fun _ => ?_)
    · refine Within.ite_fst (fun _ => ?_) (fun _ => ?_)
      · dsimp only
        exact Within.refl _
      · dsimp only
        exact Within.refl _
    · refine Within.ite_fst (fun _ => ?_) (fun _ => ?_)
      · refine Within.ite_fst (fun _ => ?_) (fun _ => ?_)
        · dsimp only
          exact Within.refl _
        · split
          · dsimp only
            exact Within.refl _
          · dsimp only
            exact Within.refl _
      · dsimp only
        exact Within.refl _
  · exact Within.refl _

theorem execRangeWrite_within (x1 x2 s) : Within [.regs, .shadow, .out, .cmd, .eng, .ps, .mem] s (after (@execRangeWrite x1 x2 s) s) := by
  unfold execRangeWrite
  try dsimp only
  refine Within.of_next ?_
  refine State.runOpcode_keeps rfl (fun _ _ => ?_) ?_
  · refine Within.ite_fst (fun _ => ?_) (fun _ => ?_)
    · dsimp only
      exact Within.refl _
    · refine Within.ite_fst (fun _ => ?_) (fun _ => ?_)
      · dsimp only
        exact Within.refl _
      · refine Within.ite_fst (fun _ => ?_) (fun _ => ?_)
        · dsimp only
          refine Within.step (State.shadowWords_within ..) rfl ?_
          exact Within.refl _
        · dsimp only
          exact Within.refl _
  · exact Within.refl _

theorem State.busEnables_within (s) : Within [.regs, .bridge] s (@State.busEnables s) := by
  unfold State.busEnables
  exact (forAll_within (fun _ _ => (Within.ite (fun _ => (Within.refl _)) (fun _ => (Within.step (State.bump_within ..) rfl
    (Within.step (State.setMasterBus_within ..) rfl (Within.refl _)))))) (forAll_within (fun _ _ => (Within.ite (fun _
    => (Within.step (State.set_within ..) rfl (Within.refl _))) (fun _ => (Within.ite (fun _ => (Within.step
    (State.bump_within ..) rfl (Within.step (State.setCanBus_within ..) rfl (Within.step (State.set_within ..) rfl
    (Within.refl _))))) (fun _ => (Within.refl _)))))) (Within.refl _)))

theorem State.bridgeAtBoundary_within (s x2) : Within [.regs, .reg, .bridge] s (@State.bridgeAtBoundary s x2) := by
  unfold State.bridgeAtBoundary
  exact (forAll_within (fun _ _ => (Within.step (State.retryHeld_within ..) rfl (Within.refl _))) (Within.via (Within.ite (fun _
    => (Within.refl _)) (fun _ => (Within.step (State.bump_within ..) rfl (Within.step (State.setBridge_within ..) rfl
    (Within.step (State.set_within ..) rfl (Within.refl _)))))) (Within.step (State.busEnables_within ..) rfl
    (Within.refl _))))

theorem State.holdRegistered_within (s x2) : Within [.regs] s (@State.holdRegistered s x2) := by
  unfold State.holdRegistered
  exact (forAll_within (fun _ _ => (Within.step (State.setFlag_within ..) rfl (Within.refl _))) (Within.refl _))

end Machine
end Sys2Proof
end

