-- ==== Sys2Proof/Laws/FrameMedia.lean ====
section
/-!
SUPPORT. The frame of every operation of Machine/Media.lean: the parts of the state it may change.
-/
namespace Sys2Proof
namespace Machine

theorem State.setDp_within (s x2 x3) : Within [.media] s (@State.setDp s x2 x3) := by
  unfold State.setDp
  exact (Within.media rfl (Within.refl _))

theorem State.updDp_within (s x2 x3) : Within [.media] s (@State.updDp s x2 x3) := by
  unfold State.updDp
  exact (Within.step (State.setDp_within ..) rfl (Within.refl _))

theorem State.displayEvent_within (s x2 x3) : Within [.regs, .out, .cmd, .eng] s (@State.displayEvent s x2 x3) := by
  unfold State.displayEvent
  try dsimp only
  refine Within.step (State.notice_within ..) rfl ?_
  exact Within.refl _

theorem State.inputUnplug_within (s x2) : Within [.regs, .media] s (@State.inputUnplug s x2) := by
  unfold State.inputUnplug
  exact (Within.step (State.setFlag_within ..) rfl (Within.step (State.updDp_within ..) rfl (Within.refl _)))

theorem State.inputPulse_within (s x2) : Within [.out] s (@State.inputPulse s x2) := by
  unfold State.inputPulse
  exact (Within.ite (fun _ => (Within.step (State.emit_within ..) rfl (Within.refl _))) (fun _ => (Within.refl _)))

theorem State.hpdEvent_within (s x2 x3) : Within [.regs, .out, .media] s (@State.hpdEvent s x2 x3) := by
  unfold State.hpdEvent
  try dsimp only
  split
  · refine Within.ite (fun _ => ?_) (fun _ => ?_)
    · refine Within.step (State.inputUnplug_within ..) rfl ?_
      refine Within.step (State.bump_within ..) rfl ?_
      exact Within.refl _
    · refine Within.ite (fun _ => ?_) (fun _ => ?_)
      · refine Within.step (State.inputPulse_within ..) rfl ?_
        refine Within.step (State.bump_within ..) rfl ?_
        exact Within.refl _
      · refine Within.step (State.bump_within ..) rfl ?_
        exact Within.refl _
  · refine Within.ite (fun _ => ?_) (fun _ => ?_)
    · refine Within.step (State.emit_within ..) rfl ?_
      refine Within.step (State.bump_within ..) rfl ?_
      exact Within.refl _
    · refine Within.step (State.bump_within ..) rfl ?_
      exact Within.refl _

theorem State.trained_within (s x2 x3 x4) : Within [.regs, .out, .cmd, .eng] s (@State.trained s x2 x3 x4) := by
  unfold State.trained
  try dsimp only
  refine Within.step (State.displayEvent_within ..) rfl ?_
  refine Within.step (State.setFlag_within ..) rfl ?_
  refine Within.step (State.set_within ..) rfl ?_
  refine Within.step (State.set_within ..) rfl ?_
  exact Within.refl _

theorem execHpdPlug_within (x1 x2 x3 s) : Within [.regs, .out, .cmd, .eng, .media] s (after (@execHpdPlug x1 x2 x3 s) s) := by
  unfold execHpdPlug
  try dsimp only
  refine Within.of_next ?_
  refine Within.ite (fun _ => ?_) (fun _ => ?_)
  · exact Within.refl _
  · refine Within.step (State.trained_within ..) rfl ?_
    refine Within.step (State.displayEvent_within ..) rfl ?_
    refine Within.step (State.hpdEvent_within ..) rfl ?_
    refine Within.step (State.setFlag_within ..) rfl ?_
    exact Within.refl _

theorem execHpdUnplug_within (x1 s) : Within [.regs, .out, .cmd, .eng, .media] s (after (@execHpdUnplug x1 s) s) := by
  unfold execHpdUnplug
  try dsimp only
  refine Within.of_next ?_
  refine Within.ite (fun _ => ?_) (fun _ => ?_)
  · exact Within.refl _
  · refine Within.step (State.displayEvent_within ..) rfl ?_
    refine Within.step (State.updDp_within ..) rfl ?_
    refine Within.step (State.hpdEvent_within ..) rfl ?_
    refine Within.step (State.set_within ..) rfl ?_
    refine Within.step (State.setFlag_within ..) rfl ?_
    refine Within.step (State.setFlag_within ..) rfl ?_
    exact Within.refl _

theorem execIrqHpd_within (x1 s) : Within [.regs, .out, .media] s (after (@execIrqHpd x1 s) s) := by
  unfold execIrqHpd
  exact (Within.ite (fun _ => (Within.step (State.hpdEvent_within ..) rfl (Within.refl _))) (fun _ => (Within.refl _)))

theorem execCapabilityCopy_within (x1 x2 x3 s) : Within [.regs, .media] s (after (@execCapabilityCopy x1 x2 x3 s) s) := by
  unfold execCapabilityCopy
  exact (Within.ite (fun _ => (Within.step (State.setFlag_within ..) rfl (Within.step (State.updDp_within ..) rfl (Within.refl
    _)))) (fun _ => (Within.refl _)))

theorem State.auxAnswer_within (s x2 x3 x4) : Within [.out] s (@State.auxAnswer s x2 x3 x4) := by
  unfold State.auxAnswer
  exact (State.when_within (fun _ => (Within.step (State.emit_within ..) rfl (Within.refl _))) (Within.step (State.emit_within
    ..) rfl (Within.refl _)))

theorem execAuxRequest_within (x1 x2 s) : Within [.regs, .out, .cmd, .eng, .media] s (after (@execAuxRequest x1 x2 s) s) := by
  unfold execAuxRequest
  try dsimp only
  refine Within.of_next ?_
  refine Within.ite (fun _ => ?_) (fun _ => ?_)
  · exact Within.refl _
  · split
    · exact Within.refl _
    · split
      · refine Within.step (State.trained_within ..) rfl ?_
        refine Within.step (State.auxAnswer_within ..) rfl ?_
        exact Within.refl _
      · refine Within.step (State.auxAnswer_within ..) rfl ?_
        exact Within.refl _
    · split
      · refine Within.step (State.auxAnswer_within ..) rfl ?_
        exact Within.refl _
      · refine Within.step (State.auxAnswer_within ..) rfl ?_
        exact Within.refl _
    · refine Within.ite (fun _ => ?_) (fun _ => ?_)
      · split
        · refine Within.step (State.auxAnswer_within ..) rfl ?_
          exact Within.refl _
        · refine Within.step (State.auxAnswer_within ..) rfl ?_
          exact Within.refl _
      · refine Within.step (State.auxAnswer_within ..) rfl ?_
        refine State.when_within (fun _ => ?_) ?_
        · refine Within.step (State.emit_within ..) rfl ?_
          refine Within.step (State.updDp_within ..) rfl ?_
          exact Within.refl _
        · exact Within.refl _
    · refine Within.step (State.auxAnswer_within ..) rfl ?_
      refine State.when_within (fun _ => ?_) ?_
      · refine Within.step (State.emit_within ..) rfl ?_
        refine Within.step (State.updDp_within ..) rfl ?_
        exact Within.refl _
      · exact Within.refl _

theorem execAuxReply_within (x1 x2 s) : Within [.out, .media] s (after (@execAuxReply x1 x2 s) s) := by
  unfold execAuxReply
  exact (Within.ite (fun _ => (Within.step (State.auxAnswer_within ..) rfl (Within.step (State.updDp_within ..) rfl (Within.refl
    _)))) (fun _ => (Within.refl _)))

theorem State.auxAtBoundary_within (s) : Within [.regs, .out, .media] s (@State.auxAtBoundary s) := by
  unfold State.auxAtBoundary
  exact (forAll_within (fun _ _ => (by split; exacts [(Within.refl _), (Within.ite (fun _ => (Within.step
    (State.auxAnswer_within ..) rfl (Within.step (State.bump_within ..) rfl (Within.step (State.updDp_within ..) rfl
    (Within.refl _))))) (fun _ => (Within.step (State.updDp_within ..) rfl (Within.refl _))))])) (Within.refl _))

theorem execParcelClose_within (x1 x2 s) : Within [.regs, .out, .media] s (after (@execParcelClose x1 x2 s) s) := by
  unfold execParcelClose
  try dsimp only
  refine Within.of_next ?_
  try dsimp only
  split
  · exact Within.refl _
  · refine Within.ite (fun _ => ?_) (fun _ => ?_)
    · exact Within.refl _
    · refine Within.ite (fun _ => ?_) (fun _ => ?_)
      · refine Within.step (State.bump_within ..) rfl ?_
        refine Within.step (State.set_within ..) rfl ?_
        exact Within.refl _
      · refine Within.step (State.emit_within ..) rfl ?_
        refine Within.step (State.emit_within ..) rfl ?_
        refine Within.step (State.bump_within ..) rfl ?_
        refine Within.step (State.setDp_within ..) rfl ?_
        refine Within.step (State.set_within ..) rfl ?_
        exact Within.refl _

theorem State.blankFrame_within (s x2 x3) : Within [.regs] s (@State.blankFrame s x2 x3) := by
  unfold State.blankFrame
  exact (Within.ite (fun _ => (Within.refl _)) (fun _ => (Within.step (State.bump_within ..) rfl (Within.step
    (State.setFlag_within ..) rfl (Within.refl _)))))

theorem execParcel_within (x1 x2 s) : Within [.regs, .media] s (after (@execParcel x1 x2 s) s) := by
  unfold execParcel
  try dsimp only
  refine Within.of_next ?_
  refine Within.ite (fun _ => ?_) (fun _ => ?_)
  · exact Within.refl _
  · refine Within.ite (fun _ => ?_) (fun _ => ?_)
    · refine Within.step (State.bump_within ..) rfl ?_
      exact Within.refl _
    · refine Within.ite (fun _ => ?_) (fun _ => ?_)
      · refine Within.step (State.blankFrame_within ..) rfl ?_
        refine Within.step (State.bump_within ..) rfl ?_
        exact Within.refl _
      · refine Within.step (State.updDp_within ..) rfl ?_
        exact Within.refl _

theorem State.playParcel_within (s x2 x3 x4) : Within [.regs, .out, .cmd, .eng, .media] s (@State.playParcel s x2 x3 x4) := by
  unfold State.playParcel
  try dsimp only
  refine Within.ite (fun _ => ?_) (fun _ => ?_)
  · refine State.when_within (fun _ => ?_) ?_
    · refine Within.step (State.displayEvent_within ..) rfl ?_
      exact Within.refl _
    · refine Within.step (State.setFlag_within ..) rfl ?_
      refine Within.step (State.setDp_within ..) rfl ?_
      exact Within.refl _
  · refine Within.ite (fun _ => ?_) (fun _ => ?_)
    · refine Within.ite (fun _ => ?_) (fun _ => ?_)
      · refine Within.step (State.blankFrame_within ..) rfl ?_
        refine Within.step (State.setDp_within ..) rfl ?_
        exact Within.refl _
      · refine Within.step (State.setDp_within ..) rfl ?_
        exact Within.refl _
    · refine Within.step (State.emit_within ..) rfl ?_
      refine Within.step (State.bump_within ..) rfl ?_
      refine State.when_within (fun _ => ?_) ?_
      · refine Within.step (State.updDp_within ..) rfl ?_
        exact Within.refl _
      · refine Within.step (State.setS_within ..) rfl ?_
        refine Within.step (State.set_within ..) rfl ?_
        refine Within.step (State.updDp_within ..) rfl ?_
        refine Within.step (State.setFlag_within ..) rfl ?_
        refine State.when_within (fun _ => ?_) ?_
        · refine Within.step (State.displayEvent_within ..) rfl ?_
          refine Within.step (State.bump_within ..) rfl ?_
          refine Within.step (State.updDp_within ..) rfl ?_
          exact Within.refl _
        · refine Within.step (State.setDp_within ..) rfl ?_
          exact Within.refl _

theorem execPlayoutTime_within (x1 x2 x3 s) : Within [.regs, .out, .cmd, .eng, .media] s (after (@execPlayoutTime x1 x2 x3 s) s) := by
  unfold execPlayoutTime
  try dsimp only
  refine Within.of_next ?_
  refine Within.ite (fun _ => ?_) (fun _ => ?_)
  · exact Within.refl _
  · split
    · refine Within.step (State.playParcel_within ..) rfl ?_
      exact Within.refl _
    · refine Within.step (State.updDp_within ..) rfl ?_
      refine Within.step (State.blankFrame_within ..) rfl ?_
      refine Within.step (State.bump_within ..) rfl ?_
      exact Within.refl _

theorem State.displayDrained_within (s) : Within [.regs, .media] s (@State.displayDrained s) := by
  unfold State.displayDrained
  exact (forAll_within (fun _ _ => (Within.ite (fun _ => (Within.step (State.updDp_within ..) rfl (Within.step (State.set_within
    ..) rfl (Within.step (State.blankFrame_within ..) rfl (Within.refl _))))) (fun _ => (Within.refl _)))) (Within.refl
    _))

theorem State.setSsd_within (s x2) : Within [.regs, .out, .cmd, .eng] s (@State.setSsd s x2) := by
  unfold State.setSsd
  try dsimp only
  refine Within.ite (fun _ => ?_) (fun _ => ?_)
  · exact Within.refl _
  · refine Within.step (State.notice_within ..) rfl ?_
    refine Within.step (State.set_within ..) rfl ?_
    exact Within.refl _

theorem execSsdEnumerate_within (x1 x2 x3 x4 x5 x6 x7 s) : Within [.regs, .out, .cmd, .eng, .media] s (after (@execSsdEnumerate x1 x2 x3 x4 x5 x6 x7 s) s) := by
  unfold execSsdEnumerate
  try dsimp only
  refine Within.of_next ?_
  refine Within.ite (fun _ => ?_) (fun _ => ?_)
  · exact Within.refl _
  · refine Within.ite (fun _ => ?_) (fun _ => ?_)
    · refine Within.step (State.setSsd_within ..) rfl ?_
      refine Within.step (State.set_within ..) rfl ?_
      refine Within.step (State.set_within ..) rfl ?_
      exact Within.refl _
    · refine Within.step (State.setSsd_within ..) rfl ?_
      refine Within.step (State.set_within ..) rfl ?_
      refine Within.media rfl ?_
      refine Within.step (State.set_within ..) rfl ?_
      refine Within.step (State.set_within ..) rfl ?_
      exact Within.refl _

theorem execSsdReadyTimeout_within (s) : Within [.regs, .out, .cmd, .eng] s (after (@execSsdReadyTimeout s) s) := by
  unfold execSsdReadyTimeout
  try dsimp only
  refine Within.of_next ?_
  refine Within.ite (fun _ => ?_) (fun _ => ?_)
  · refine Within.step (State.setSsd_within ..) rfl ?_
    exact Within.refl _
  · exact Within.refl _

theorem State.vfDone_within (s x2 x3) : Within [.out] s (@State.vfDone s x2 x3) := by
  unfold State.vfDone
  exact (Within.step (State.emit_within ..) rfl (Within.refl _))

theorem State.addNvme_within (s x2) : Within [.media] s (@State.addNvme s x2) := by
  unfold State.addNvme
  exact (Within.media rfl (Within.refl _))

theorem State.dropNvme_within (s x2) : Within [.media] s (@State.dropNvme s x2) := by
  unfold State.dropNvme
  exact (Within.media rfl (Within.refl _))

theorem State.nvmeDone_within (s x2 x3) : Within [.out, .media] s (@State.nvmeDone s x2 x3) := by
  unfold State.nvmeDone
  exact (by split; exacts [(Within.step (State.vfDone_within ..) rfl (Within.refl _)), (by split; exacts [(Within.ite (fun _ =>
    (Within.step (State.vfDone_within ..) rfl (Within.step (State.dropNvme_within ..) rfl (Within.refl _)))) (fun _ =>
    (Within.step (State.emit_within ..) rfl (Within.refl _)))), (Within.step (State.emit_within ..) rfl (Within.refl
    _))])])

theorem State.issueLocal_within (s x2 x3 x4) : Within [.regs, .out, .media] s (@State.issueLocal s x2 x3 x4) := by
  unfold State.issueLocal
  exact (Within.step (State.emit_within ..) rfl (Within.step (State.addNvme_within ..) rfl (Within.step (State.bump_within ..)
    rfl (Within.refl _))))

theorem State.runLocal_within (s x2 x3 x4) : Within [.regs, .out, .media] s (@State.runLocal s x2 x3 x4) := by
  unfold State.runLocal
  exact (Within.ite (fun _ => (Within.step (State.nvmeDone_within ..) rfl (Within.refl _))) (fun _ => (Within.ite (fun _ =>
    (Within.step (State.nvmeDone_within ..) rfl (Within.refl _))) (fun _ => (Within.step (State.issueLocal_within ..)
    rfl (Within.refl _))))))

theorem State.farNvme_within (s x2 x3 x4 x5 x6 x7) : Within [.regs, .out, .media] s (@State.farNvme s x2 x3 x4 x5 x6 x7) := by
  unfold State.farNvme
  exact (Within.ite (fun _ => (Within.step (State.nvmeDone_within ..) rfl (Within.refl _))) (fun _ => (Within.ite (fun _ =>
    (Within.step (State.nvmeDone_within ..) rfl (Within.refl _))) (fun _ => (Within.step (State.runLocal_within ..) rfl
    (Within.refl _))))))

theorem State.sendRemote_within (s x2 x3) : Within [.regs, .out, .media] s (@State.sendRemote s x2 x3) := by
  unfold State.sendRemote
  exact (Within.via (Within.ite (fun _ => (Within.step (State.farNvme_within ..) rfl (Within.refl _))) (fun _ => (Within.step
    (State.emit_within ..) rfl (Within.refl _)))) (Within.step (State.addNvme_within ..) rfl (Within.step
    (State.bump_within ..) rfl (Within.refl _))))

theorem State.vfWaits_within (s x2) : Within [.regs, .media] s (@State.vfWaits s x2) := by
  unfold State.vfWaits
  exact (Within.ite (fun _ => (Within.refl _)) (fun _ => (Within.step (State.bump_within ..) rfl (Within.media rfl (Within.refl
    _)))))

theorem State.runSubmission_within (s x2) : Within [.regs, .out, .media] s (@State.runSubmission s x2) := by
  unfold State.runSubmission
  try dsimp only
  refine Within.ite (fun _ => ?_) (fun _ => ?_)
  · refine Within.ite (fun _ => ?_) (fun _ => ?_)
    · exact Within.refl _
    · refine Within.ite (fun _ => ?_) (fun _ => ?_)
      · refine Within.step (State.vfDone_within ..) rfl ?_
        exact Within.refl _
      · refine Within.step (State.vfDone_within ..) rfl ?_
        refine Within.step (State.bump_within ..) rfl ?_
        exact Within.refl _
  · refine Within.ite (fun _ => ?_) (fun _ => ?_)
    · refine Within.step (State.vfDone_within ..) rfl ?_
      refine Within.step (State.bump_within ..) rfl ?_
      exact Within.refl _
    · split
      · refine Within.step (State.vfDone_within ..) rfl ?_
        exact Within.refl _
      · refine Within.ite (fun _ => ?_) (fun _ => ?_)
        · refine Within.step (State.vfDone_within ..) rfl ?_
          exact Within.refl _
        · refine Within.ite (fun _ => ?_) (fun _ => ?_)
          · refine Within.step (State.runLocal_within ..) rfl ?_
            exact Within.refl _
          · refine Within.ite (fun _ => ?_) (fun _ => ?_)
            · refine Within.step (State.vfDone_within ..) rfl ?_
              exact Within.refl _
            · refine Within.ite (fun _ => ?_) (fun _ => ?_)
              · refine Within.step (State.vfWaits_within ..) rfl ?_
                refine Within.media rfl ?_
                exact Within.refl _
              · refine Within.step (State.sendRemote_within ..) rfl ?_
                exact Within.refl _

theorem execVfSubmission_within (x1 x2 x3 x4 x5 x6 s) : Within [.regs, .out, .media] s (after (@execVfSubmission x1 x2 x3 x4 x5 x6 s) s) := by
  unfold execVfSubmission
  exact (Within.ite (fun _ => (Within.refl _)) (fun _ => (Within.ite (fun _ => (Within.step (State.vfWaits_within ..) rfl
    (Within.media rfl (Within.refl _)))) (fun _ => (Within.step (State.runSubmission_within ..) rfl (Within.refl _))))))

theorem State.fetchHeld_within (s) : Within [.regs, .out, .media] s (@State.fetchHeld s) := by
  unfold State.fetchHeld
  exact (forAll_within (fun _ _ => (Within.ite (fun _ => (Within.media rfl (Within.refl _))) (fun _ => (Within.step
    (State.runSubmission_within ..) rfl (Within.refl _))))) (Within.media rfl (Within.refl _)))

theorem execRemoteCompletion_within (x1 x2 s) : Within [.regs, .out, .media] s (after (@execRemoteCompletion x1 x2 s) s) := by
  unfold execRemoteCompletion
  exact (by split; exacts [(Within.ite (fun _ => (Within.step (State.fetchHeld_within ..) rfl (Within.step
    (State.nvmeDone_within ..) rfl (Within.step (State.dropNvme_within ..) rfl (Within.refl _))))) (fun _ =>
    (Within.step (State.bump_within ..) rfl (Within.refl _)))), (Within.step (State.bump_within ..) rfl (Within.refl
    _))])

theorem State.nvmeTimeout_within (s x2 x3) : Within [.regs, .out, .cmd, .eng, .media] s (@State.nvmeTimeout s x2 x3) := by
  unfold State.nvmeTimeout
  try dsimp only
  refine Within.ite (fun _ => ?_) (fun _ => ?_)
  · refine Within.step (State.bump_within ..) rfl ?_
    refine Within.step (State.nvmeDone_within ..) rfl ?_
    refine Within.step (State.dropNvme_within ..) rfl ?_
    exact Within.refl _
  · refine Within.step (State.notice_within ..) rfl ?_
    refine Within.media rfl ?_
    refine Within.step (State.bump_within ..) rfl ?_
    refine Within.step (State.nvmeDone_within ..) rfl ?_
    refine Within.step (State.dropNvme_within ..) rfl ?_
    exact Within.refl _

theorem execCmdTimeout_within (x1 s) : Within [.regs, .out, .cmd, .eng, .media] s (after (@execCmdTimeout x1 s) s) := by
  unfold execCmdTimeout
  try dsimp only
  refine Within.of_next ?_
  split
  · refine Within.ite (fun _ => ?_) (fun _ => ?_)
    · refine Within.step (State.fetchHeld_within ..) rfl ?_
      refine Within.step (State.nvmeTimeout_within ..) rfl ?_
      exact Within.refl _
    · exact Within.refl _
  · exact Within.refl _

theorem execVfFlr_within (x1 s) : Within [.regs, .out, .media] s (after (@execVfFlr x1 s) s) := by
  unfold execVfFlr
  exact (Within.step (State.fetchHeld_within ..) rfl (Within.media rfl (Within.refl _)))

theorem execSsdCompletion_within (x1 x2 s) : Within [.regs, .out, .media] s (after (@execSsdCompletion x1 x2 s) s) := by
  unfold execSsdCompletion
  exact (by split; exacts [(Within.ite (fun _ => (Within.step (State.bump_within ..) rfl (Within.refl _))) (fun _ =>
    (Within.step (State.fetchHeld_within ..) rfl (Within.step (State.nvmeDone_within ..) rfl (Within.step
    (State.dropNvme_within ..) rfl (State.when_within (fun _ => (Within.step (State.bump_within ..) rfl (Within.refl
    _))) (Within.refl _))))))), (Within.step (State.bump_within ..) rfl (Within.refl _))])

theorem execSsdFault_within (s) : Within [.regs, .out, .cmd, .eng, .media] s (after (@execSsdFault s) s) := by
  unfold execSsdFault
  try dsimp only
  refine Within.of_next ?_
  refine Within.ite (fun _ => ?_) (fun _ => ?_)
  · refine Within.step (State.fetchHeld_within ..) rfl ?_
    refine forAll_within (fun _ _ => ?_) ?_
    · refine Within.step (State.nvmeDone_within ..) rfl ?_
      refine Within.step (State.dropNvme_within ..) rfl ?_
      exact Within.refl _
    · refine Within.step (State.setSsd_within ..) rfl ?_
      exact Within.refl _
  · exact Within.refl _

theorem State.storageAtBoundary_within (s) : Within [.regs, .out, .cmd, .eng, .media] s (@State.storageAtBoundary s) := by
  unfold State.storageAtBoundary
  try dsimp only
  refine forAll_within (fun _ _ => ?_) ?_
  · refine Within.step (State.vfWaits_within ..) rfl ?_
    exact Within.refl _
  · refine Within.step (State.fetchHeld_within ..) rfl ?_
    refine Within.media rfl ?_
    refine forAll_within (fun _ _ => ?_) ?_
    · refine Within.step (State.nvmeTimeout_within ..) rfl ?_
      exact Within.refl _
    · exact Within.refl _

theorem execItemArrival_within (x1 x2 x3 x4 s) : Within [.regs, .out, .eng, .media] s (after (@execItemArrival x1 x2 x3 x4 s) s) := by
  unfold execItemArrival
  try dsimp only
  refine Within.of_next ?_
  refine Within.ite (fun _ => ?_) (fun _ => ?_)
  · exact Within.refl _
  · refine Within.ite (fun _ => ?_) (fun _ => ?_)
    · refine Within.step (State.itemArrives_within ..) rfl ?_
      exact Within.refl _
    · split
      · refine Within.step (State.itemArrives_within ..) rfl ?_
        exact Within.refl _
      · refine Within.step (State.farNvme_within ..) rfl ?_
        refine Within.step (State.itemArrives_within ..) rfl ?_
        exact Within.refl _
      · split
        · refine Within.ite (fun _ => ?_) (fun _ => ?_)
          · refine Within.step (State.inputUnplug_within ..) rfl ?_
            refine Within.step (State.itemArrives_within ..) rfl ?_
            exact Within.refl _
          · refine Within.step (State.itemArrives_within ..) rfl ?_
            exact Within.refl _
        · refine Within.step (State.itemArrives_within ..) rfl ?_
          exact Within.refl _
      · split
        · refine Within.ite (fun _ => ?_) (fun _ => ?_)
          · refine Within.step (State.inputPulse_within ..) rfl ?_
            refine Within.step (State.itemArrives_within ..) rfl ?_
            exact Within.refl _
          · refine Within.step (State.itemArrives_within ..) rfl ?_
            exact Within.refl _
        · refine Within.step (State.itemArrives_within ..) rfl ?_
          exact Within.refl _
      · split
        · refine Within.ite (fun _ => ?_) (fun _ => ?_)
          · refine Within.step (State.emit_within ..) rfl ?_
            refine Within.step (State.itemArrives_within ..) rfl ?_
            exact Within.refl _
          · refine Within.step (State.itemArrives_within ..) rfl ?_
            exact Within.refl _
        · refine Within.step (State.itemArrives_within ..) rfl ?_
          exact Within.refl _

theorem State.etherIngress_within (s x2 x3) : Within [.regs, .out] s (@State.etherIngress s x2 x3) := by
  unfold State.etherIngress
  exact (Within.ite (fun _ => (Within.step (State.bump_within ..) rfl (Within.refl _))) (fun _ => (Within.ite (fun _ =>
    (Within.step (State.bump_within ..) rfl (Within.refl _))) (fun _ => (Within.ite (fun _ => (Within.step
    (State.bump_within ..) rfl (Within.refl _))) (fun _ => (by split; exacts [(Within.step (State.bump_within ..) rfl
    (Within.refl _)), (Within.step (State.emit_within ..) rfl (Within.step (State.bump_within ..) rfl (Within.refl
    _)))])))))))

theorem execEthernetFrame_within (x1 x2 s) : Within [.regs, .out] s (after (@execEthernetFrame x1 x2 s) s) := by
  unfold execEthernetFrame
  exact (Within.ite (fun _ => (Within.step (State.etherIngress_within ..) rfl (Within.refl _))) (fun _ => (Within.refl _)))

theorem execPf1TxDoorbell_within (x1 x2 x3 s) : Within [.regs, .out, .media] s (after (@execPf1TxDoorbell x1 x2 x3 s) s) := by
  unfold execPf1TxDoorbell
  exact (Within.ite (fun _ => (forAll_within (fun _ _ => (Within.step (State.etherIngress_within ..) rfl (Within.refl _)))
    (Within.media rfl (Within.refl _)))) (fun _ => (Within.media rfl (Within.refl _))))

theorem State.subDown_within (s x2) : Within [.regs, .out, .cmd, .sw, .eng] s (@State.subDown s x2) := by
  unfold State.subDown
  try dsimp only
  refine forAll_within (fun _ _ => ?_) ?_
  · refine Within.step (State.bump_within ..) rfl ?_
    refine Within.step (State.freeUnit_within ..) rfl ?_
    exact Within.refl _
  · exact Within.refl _

theorem execEtherLink_within (x1 x2 x3 s) : Within [.regs, .out, .cmd, .sw, .eng] s (after (@execEtherLink x1 x2 x3 s) s) := by
  unfold execEtherLink
  try dsimp only
  refine Within.of_next ?_
  refine Within.ite (fun _ => ?_) (fun _ => ?_)
  · refine Within.step (State.setFlag_within ..) rfl ?_
    exact Within.refl _
  · refine Within.step (State.notice_within ..) rfl ?_
    refine State.when_within (fun _ => ?_) ?_
    · refine Within.step (State.subDown_within ..) rfl ?_
      exact Within.refl _
    · refine Within.step (State.setFlag_within ..) rfl ?_
      refine Within.step (State.setFlag_within ..) rfl ?_
      exact Within.refl _

theorem State.mediaAtBoundary_within (s) : Within [.regs, .out, .cmd, .eng, .media] s (@State.mediaAtBoundary s) := by
  unfold State.mediaAtBoundary
  try dsimp only
  refine Within.step (State.storageAtBoundary_within ..) rfl ?_
  refine Within.step (State.displayDrained_within ..) rfl ?_
  refine Within.step (State.auxAtBoundary_within ..) rfl ?_
  refine forAll_within (fun _ _ => ?_) ?_
  · refine Within.step (State.updDp_within ..) rfl ?_
    exact Within.refl _
  · exact Within.refl _

end Machine
end Sys2Proof
end

