-- ==== Sys2Proof/Laws/FramePackets.lean ====
section
/-!
SUPPORT. The frame of every operation of Machine/Packets.lean: the parts of the state it may change.
-/
namespace Sys2Proof
namespace Machine

theorem State.submit_within (s x2 x3 x4) : Within [.regs, .out, .cmd, .eng, .ps, .mem] s (@State.submit s x2 x3 x4) := by
  unfold State.submit
  try dsimp only
  refine Within.ite (fun _ => ?_) (fun _ => ?_)
  · refine Within.step (State.emit_within ..) rfl ?_
    exact Within.refl _
  · split
    · refine Within.step (State.refusePacket_within ..) rfl ?_
      refine State.when_within (fun _ => ?_) ?_
      · refine Within.cmd rfl ?_
        exact Within.refl _
      · exact Within.refl _
    · refine Within.ite (fun _ => ?_) (fun _ => ?_)
      · refine Within.step (State.refusePacket_within ..) rfl ?_
        exact Within.refl _
      · split
        · refine Within.step (State.refusePacket_within ..) rfl ?_
          exact Within.refl _
        · refine Within.step (State.holdRead_within ..) rfl ?_
          exact Within.refl _
        · refine Within.step (State.deliver_within ..) rfl ?_
          refine Within.step (State.bump_within ..) rfl ?_
          exact Within.refl _
        · refine Within.step (State.repeatBusy_within ..) rfl ?_
          exact Within.refl _
        · refine Within.step (State.repeatBusy_within ..) rfl ?_
          exact Within.refl _
        · refine Within.ite (fun _ => ?_) (fun _ => ?_)
          · split
            · refine Within.step (Within.of_some_snd (State.enter_within _ _ _ _ _) (by assumption)) rfl ?_
              exact Within.refl _
            · refine Within.step (State.refusePacket_within ..) rfl ?_
              exact Within.refl _
          · refine Within.step (State.refusePacket_within ..) rfl ?_
            exact Within.refl _

end Machine
end Sys2Proof
end

