-- ==== Sys2Proof/Laws/FramePaths.lean ====
section
/-!
SUPPORT. The frame of every operation of Machine/Paths.lean: the parts of the state it may change.
-/
namespace Sys2Proof
namespace Machine

theorem State.setSvc_within (s x2) : Within [.regs, .cmd] s (@State.setSvc s x2) := by
  unfold State.setSvc
  exact (Within.step (State.set_within ..) rfl (Within.step (State.set_within ..) rfl (Within.cmd rfl (Within.refl _))))

theorem State.setMgmt_within (s x2) : Within [.cmd] s (@State.setMgmt s x2) := by
  unfold State.setMgmt
  exact (Within.cmd rfl (Within.refl _))

theorem State.setDevState_within (s x2) : Within [.regs, .out, .cmd, .eng, .ps] s (@State.setDevState s x2) := by
  unfold State.setDevState
  try dsimp only
  refine Within.ite (fun _ => ?_) (fun _ => ?_)
  · exact Within.refl _
  · refine Within.step (State.activity_within ..) rfl ?_
    refine Within.step (State.notice_within ..) rfl ?_
    refine Within.step (State.set_within ..) rfl ?_
    exact Within.refl _

theorem State.svcStall_within (s x2) : Within [.regs, .out] s (@State.svcStall s x2) := by
  unfold State.svcStall
  exact (Within.step (State.emit_within ..) rfl (Within.step (State.bump_within ..) rfl (Within.step (State.set_within ..) rfl
    (Within.refl _))))

theorem execSendCommand_within (x1 s) : Within [.regs, .out, .cmd] s (after (@execSendCommand x1 s) s) := by
  unfold execSendCommand
  try dsimp only
  refine Within.of_next ?_
  refine Within.ite (fun _ => ?_) (fun _ => ?_)
  · exact Within.refl _
  · refine Within.ite (fun _ => ?_) (fun _ => ?_)
    · refine Within.step (State.svcStall_within ..) rfl ?_
      exact Within.refl _
    · split
      · refine Within.step (State.svcStall_within ..) rfl ?_
        exact Within.refl _
      · refine Within.step (State.svcStall_within ..) rfl ?_
        exact Within.refl _
      · refine Within.step (State.setSvc_within ..) rfl ?_
        exact Within.refl _

theorem execSvcStatusAck_within (x1 s) : Within [.regs, .out, .cmd, .eng, .ps, .mem] s (after (@execSvcStatusAck x1 s) s) := by
  unfold execSvcStatusAck
  try dsimp only
  refine Within.of_next ?_
  split
  · exact Within.refl _
  · refine Within.ite (fun _ => ?_) (fun _ => ?_)
    · refine Within.step (State.emit_within ..) rfl ?_
      exact Within.refl _
    · refine Within.ite (fun _ => ?_) (fun _ => ?_)
      · refine Within.step (State.submit_within ..) rfl ?_
        refine Within.step (State.setSvc_within ..) rfl ?_
        exact Within.refl _
      · refine Within.step (State.svcStall_within ..) rfl ?_
        refine Within.step (State.setSvc_within ..) rfl ?_
        exact Within.refl _

theorem execDataStagePause_within (x1 s) : Within [.regs] s (after (@execDataStagePause x1 s) s) := by
  unfold execDataStagePause
  exact (Within.ite (fun _ => (Within.step (State.bump_within ..) rfl (Within.refl _))) (fun _ => (Within.refl _)))

theorem State.tagState_within (s x2 x3 x4) : Within [.regs, .cmd] s (@State.tagState s x2 x3 x4).2 := by
  unfold State.tagState
  exact (by split; exacts [(Within.refl _), (Within.ite_snd (fun _ => (Within.refl _)) (fun _ => (Within.step
    (State.reapBook_within ..) rfl (Within.step (State.updEntry_within ..) rfl (Within.refl _)))))])

theorem execGetReceipt_within (x1 x2 s) : Within [.regs, .out, .cmd] s (after (@execGetReceipt x1 x2 s) s) := by
  unfold execGetReceipt
  try dsimp only
  refine Within.of_next ?_
  refine Within.ite (fun _ => ?_) (fun _ => ?_)
  · exact Within.refl _
  · refine Within.ite (fun _ => ?_) (fun _ => ?_)
    · refine Within.step (State.emit_within ..) rfl ?_
      refine Within.step (State.bump_within ..) rfl ?_
      exact Within.refl _
    · refine Within.ite (fun _ => ?_) (fun _ => ?_)
      · refine Within.step (State.bump_within ..) rfl ?_
        refine Within.step (State.emit_within ..) rfl ?_
        refine Within.step (State.tagState_within ..) rfl ?_
        exact Within.refl _
      · refine Within.step (State.emit_within ..) rfl ?_
        refine Within.step (State.tagState_within ..) rfl ?_
        exact Within.refl _

theorem execGetState_within (s) : Within [.out] s (after (@execGetState s) s) := by
  unfold execGetState
  exact (Within.ite (fun _ => (Within.refl _)) (fun _ => (Within.step (State.emit_within ..) rfl (Within.refl _))))

theorem State.fillIn_within (s) : Within [.regs, .cmd] s (@State.fillIn s) := by
  unfold State.fillIn
  exact (Within.ite (fun _ => (Within.step (State.setSvc_within ..) rfl (Within.refl _))) (fun _ => (Within.refl _)))

theorem State.svcQuiet_within (s x2) : Within [.regs, .cmd] s (@State.svcQuiet s x2) := by
  unfold State.svcQuiet
  try dsimp only
  refine Within.step (State.set_within ..) rfl ?_
  refine Within.step (State.setSvc_within ..) rfl ?_
  exact Within.refl _

theorem execSvcBusReset_within (x1 s) : Within [.regs, .out, .cmd, .eng, .ps] s (after (@execSvcBusReset x1 s) s) := by
  unfold execSvcBusReset
  try dsimp only
  refine Within.of_next ?_
  refine Within.ite (fun _ => ?_) (fun _ => ?_)
  · exact Within.refl _
  · refine Within.step (State.setDevState_within ..) rfl ?_
    refine Within.step (State.svcQuiet_within ..) rfl ?_
    refine State.when_within (fun _ => ?_) ?_
    · refine Within.step (State.bump_within ..) rfl ?_
      exact Within.refl _
    · refine Within.step (State.bump_within ..) rfl ?_
      exact Within.refl _

theorem State.svcDetach_within (s) : Within [.regs, .out, .cmd, .eng, .ps] s (@State.svcDetach s) := by
  unfold State.svcDetach
  try dsimp only
  refine Within.step (State.setDevState_within ..) rfl ?_
  refine Within.step (State.svcQuiet_within ..) rfl ?_
  exact Within.refl _

theorem execSetConfiguration_within (x1 s) : Within [.regs, .out, .cmd, .eng, .ps] s (after (@execSetConfiguration x1 s) s) := by
  unfold execSetConfiguration
  try dsimp only
  refine Within.of_next ?_
  refine Within.ite (fun _ => ?_) (fun _ => ?_)
  · exact Within.refl _
  · refine Within.step (State.fillIn_within ..) rfl ?_
    refine Within.step (State.setDevState_within ..) rfl ?_
    refine Within.step (State.setSvc_within ..) rfl ?_
    exact Within.refl _

theorem State.inTransfer_within (s x2 x3) : Within [.out] s (@State.inTransfer s x2 x3) := by
  unfold State.inTransfer
  try dsimp only
  refine State.when_within (fun _ => ?_) ?_
  · refine Within.step (State.emit_within ..) rfl ?_
    exact Within.refl _
  · refine Within.step (State.emit_within ..) rfl ?_
    exact Within.refl _

theorem execSvcInTransfer_within (x1 s) : Within [.regs, .out, .cmd, .eng] s (after (@execSvcInTransfer x1 s) s) := by
  unfold execSvcInTransfer
  try dsimp only
  refine Within.of_next ?_
  refine Within.ite (fun _ => ?_) (fun _ => ?_)
  · exact Within.refl _
  · refine Within.ite (fun _ => ?_) (fun _ => ?_)
    · split
      · exact Within.refl _
      · refine Within.step (State.fillIn_within ..) rfl ?_
        refine Within.step (State.inTransfer_within ..) rfl ?_
        refine Within.step (State.emit_within ..) rfl ?_
        refine Within.step (State.setSvc_within ..) rfl ?_
        exact Within.refl _
    · split
      · exact Within.refl _
      · refine Within.step (State.flushLost_within ..) rfl ?_
        refine Within.step (State.fillIn_within ..) rfl ?_
        refine Within.step (State.inTransfer_within ..) rfl ?_
        refine Within.step (State.setSvc_within ..) rfl ?_
        exact Within.refl _

theorem execSvcRemoteWake_within (s) : Within [.regs, .out, .cmd] s (after (@execSvcRemoteWake s) s) := by
  unfold execSvcRemoteWake
  exact (Within.ite (fun _ => (Within.step (State.emit_within ..) rfl (Within.step (State.setSvc_within ..) rfl (Within.refl
    _)))) (fun _ => (Within.refl _)))

theorem execSvcSuspend_within (s) : Within [.regs, .out, .cmd, .eng, .ps] s (after (@execSvcSuspend s) s) := by
  unfold execSvcSuspend
  try dsimp only
  refine Within.of_next ?_
  refine Within.ite (fun _ => ?_) (fun _ => ?_)
  · exact Within.refl _
  · refine Within.step (State.setDevState_within ..) rfl ?_
    refine Within.step (State.setSvc_within ..) rfl ?_
    exact Within.refl _

theorem execSvcHostResume_within (s) : Within [.regs, .out, .cmd, .eng, .ps] s (after (@execSvcHostResume s) s) := by
  unfold execSvcHostResume
  try dsimp only
  refine Within.of_next ?_
  refine Within.ite (fun _ => ?_) (fun _ => ?_)
  · refine Within.step (State.fillIn_within ..) rfl ?_
    refine Within.step (State.setDevState_within ..) rfl ?_
    refine State.when_within (fun _ => ?_) ?_
    · refine Within.step (State.bump_within ..) rfl ?_
      refine Within.step (State.setSvc_within ..) rfl ?_
      exact Within.refl _
    · exact Within.refl _
  · exact Within.refl _

theorem State.pf0Deliver_within (s x2) : Within [.regs, .out, .cmd, .eng] s (@State.pf0Deliver s x2) := by
  unfold State.pf0Deliver
  try dsimp only
  refine forAll_within (fun _ _ => ?_) ?_
  · refine Within.step (State.deliver_within ..) rfl ?_
    exact Within.refl _
  · exact Within.refl _

theorem State.pf0Take_within (x1 x2 s) : Within [.regs, .out, .cmd, .eng, .ps, .mem] s (State.pf0Take x1 x2 s) := by
  induction x1 generalizing s with
  | zero => exact Within.refl _
  | succ n ih =>
    rw [State.pf0Take]
    dsimp only
    split
    · exact Within.refl _
    · split
      · exact Within.via (ih _) (Within.step (State.submit_within ..) rfl (Within.step (State.setQueue_within ..) rfl
          (Within.refl _)))
      · exact Within.refl _

theorem State.pf0Serve_within (s x2) : Within [.regs, .out, .cmd, .eng, .ps, .mem] s (@State.pf0Serve s x2) := by
  unfold State.pf0Serve
  try dsimp only
  refine Within.step (State.pf0Take_within ..) rfl ?_
  refine Within.step (State.pf0Deliver_within ..) rfl ?_
  exact Within.refl _

theorem execSqTail_within (x1 x2 x3 s) : Within [.regs, .out, .cmd, .eng, .ps, .mem] s (after (@execSqTail x1 x2 x3 s) s) := by
  unfold execSqTail
  try dsimp only
  refine Within.of_next ?_
  refine Within.ite (fun _ => ?_) (fun _ => ?_)
  · exact Within.refl _
  · refine Within.step (State.pf0Serve_within ..) rfl ?_
    refine Within.step (State.setQueue_within ..) rfl ?_
    exact Within.refl _

theorem execCqHead_within (x1 x2 s) : Within [.regs, .out, .cmd, .eng, .ps, .mem] s (after (@execCqHead x1 x2 s) s) := by
  unfold execCqHead
  try dsimp only
  refine Within.of_next ?_
  refine Within.ite (fun _ => ?_) (fun _ => ?_)
  · exact Within.refl _
  · refine Within.step (State.pf0Serve_within ..) rfl ?_
    refine Within.step (State.setQueue_within ..) rfl ?_
    exact Within.refl _

theorem execNrHead_within (x1 s) : Within [.regs, .out, .cmd, .eng] s (after (@execNrHead x1 s) s) := by
  unfold execNrHead
  try dsimp only
  refine Within.of_next ?_
  refine Within.ite (fun _ => ?_) (fun _ => ?_)
  · exact Within.refl _
  · refine Within.step (State.flushLost_within ..) rfl ?_
    refine Within.cmd rfl ?_
    exact Within.refl _

theorem execPf0Flr_within (s) : Within [.cmd] s (after (@execPf0Flr s) s) := by
  unfold execPf0Flr
  exact (Within.ite (fun _ => (Within.cmd rfl (Within.refl _))) (fun _ => (Within.refl _)))

theorem execPf0FetchTimeout_within (x1 x2 s) : Within [.regs, .out, .cmd, .eng] s (after (@execPf0FetchTimeout x1 x2 s) s) := by
  unfold execPf0FetchTimeout
  try dsimp only
  refine Within.of_next ?_
  refine Within.ite (fun _ => ?_) (fun _ => ?_)
  · exact Within.refl _
  · refine Within.step (State.refusePacket_within ..) rfl ?_
    refine Within.step (State.setQueue_within ..) rfl ?_
    exact Within.refl _

theorem State.pf0Write_within (s x2 x3 x4) : Within [.regs, .out, .cmd, .eng, .ps, .mem] s (@State.pf0Write s x2 x3 x4) := by
  unfold State.pf0Write
  try dsimp only
  refine Within.ite (fun _ => ?_) (fun _ => ?_)
  · refine Within.step (State.pf0Serve_within ..) rfl ?_
    refine Within.step (State.setQueue_within ..) rfl ?_
    exact Within.refl _
  · refine Within.step (State.flushLost_within ..) rfl ?_
    refine Within.cmd rfl ?_
    exact Within.refl _

theorem execCommandMessage_within (x1 x2 x3 x4 x5 s) : Within [.regs, .out, .cmd, .eng, .ps, .mem] s (after (@execCommandMessage x1 x2 x3 x4 x5 s) s) := by
  unfold execCommandMessage
  try dsimp only
  refine Within.of_next ?_
  refine Within.ite (fun _ => ?_) (fun _ => ?_)
  · refine Within.step (State.submit_within ..) rfl ?_
    exact Within.refl _
  · exact Within.refl _

theorem execReceiptMessage_within (x1 x2 x3 x4 x5 x6 s) : Within [.regs, .out, .cmd, .eng] s (after (@execReceiptMessage x1 x2 x3 x4 x5 x6 s) s) := by
  unfold execReceiptMessage
  try dsimp only
  refine Within.of_next ?_
  refine Within.ite (fun _ => ?_) (fun _ => ?_)
  · exact Within.refl _
  · split
    · refine Within.ite (fun _ => ?_) (fun _ => ?_)
      · refine Within.step (State.handReceipt_within ..) rfl ?_
        exact Within.refl _
      · refine Within.step (State.finish_within ..) rfl ?_
        refine Within.step (State.updEntry_within ..) rfl ?_
        exact Within.refl _
    · split
      · refine Within.ite (fun _ => ?_) (fun _ => ?_)
        · exact Within.refl _
        · refine Within.step (State.answerRead_within ..) rfl ?_
          exact Within.refl _
      · refine Within.step (State.bump_within ..) rfl ?_
        exact Within.refl _

theorem execNoticeMessage_within (x1 x2 x3 x4 x5 s) : Within [.regs, .out, .cmd] s (after (@execNoticeMessage x1 x2 x3 x4 x5 s) s) := by
  unfold execNoticeMessage
  try dsimp only
  refine Within.of_next ?_
  refine Within.ite (fun _ => ?_) (fun _ => ?_)
  · exact Within.refl _
  · refine forAll_within (fun _ _ => ?_) ?_
    · refine Within.step (State.placeNotice_within ..) rfl ?_
      exact Within.refl _
    · exact Within.refl _

theorem execRelayTimeout_within (x1 x2 s) : Within [.regs, .out, .cmd, .eng] s (after (@execRelayTimeout x1 x2 s) s) := by
  unfold execRelayTimeout
  try dsimp only
  refine Within.of_next ?_
  split
  · refine Within.ite (fun _ => ?_) (fun _ => ?_)
    · refine Within.step (State.finish_within ..) rfl ?_
      refine Within.step (State.updEntry_within ..) rfl ?_
      refine Within.step (State.bump_within ..) rfl ?_
      exact Within.refl _
    · exact Within.refl _
  · split
    · split
      · refine Within.ite (fun _ => ?_) (fun _ => ?_)
        · refine Within.step (State.answerRead_within ..) rfl ?_
          refine Within.step (State.bump_within ..) rfl ?_
          exact Within.refl _
        · exact Within.refl _
      · exact Within.refl _
    · exact Within.refl _

theorem execRemoteEntryFree_within (x1 s) : Within [.regs, .cmd] s (after (@execRemoteEntryFree x1 s) s) := by
  unfold execRemoteEntryFree
  exact (by split; exacts [(Within.ite (fun _ => (Within.step (State.syncBook_within ..) rfl (Within.step (State.setBook_within
    ..) rfl (Within.refl _)))) (fun _ => (Within.refl _))), (Within.refl _)])

theorem execMgmtAppend_within (x1 s) : Within [.regs, .out, .cmd] s (after (@execMgmtAppend x1 s) s) := by
  unfold execMgmtAppend
  exact (Within.ite (fun _ => (Within.step (State.emit_within ..) rfl (Within.refl _))) (fun _ => (Within.ite (fun _ =>
    (Within.step (State.bump_within ..) rfl (Within.step (State.setMgmt_within ..) rfl (Within.refl _)))) (fun _ =>
    (Within.step (State.setMgmt_within ..) rfl (Within.refl _))))))

theorem execMgmtSubmit_within (s) : Within [.regs, .out, .cmd, .eng, .ps, .mem] s (after (@execMgmtSubmit s) s) := by
  unfold execMgmtSubmit
  try dsimp only
  refine Within.of_next ?_
  refine Within.ite (fun _ => ?_) (fun _ => ?_)
  · refine Within.step (State.emit_within ..) rfl ?_
    exact Within.refl _
  · refine Within.ite (fun _ => ?_) (fun _ => ?_)
    · refine Within.step (State.emit_within ..) rfl ?_
      exact Within.refl _
    · refine Within.step (State.submit_within ..) rfl ?_
      refine Within.step (State.setMgmt_within ..) rfl ?_
      exact Within.refl _

theorem execMgmtEmpty_within (s) : Within [.out, .cmd] s (after (@execMgmtEmpty s) s) := by
  unfold execMgmtEmpty
  exact (Within.ite (fun _ => (Within.step (State.emit_within ..) rfl (Within.refl _))) (fun _ => (Within.step
    (State.setMgmt_within ..) rfl (Within.refl _))))

theorem execMgmtStateRead_within (s) : Within [.out] s (after (@execMgmtStateRead s) s) := by
  unfold execMgmtStateRead
  exact (Within.ite (fun _ => (Within.step (State.emit_within ..) rfl (Within.refl _))) (fun _ => (Within.ite (fun _ =>
    (Within.step (State.emit_within ..) rfl (Within.refl _))) (fun _ => (Within.step (State.emit_within ..) rfl
    (Within.refl _))))))

theorem execMgmtReceiptRead_within (s) : Within [.out, .cmd] s (after (@execMgmtReceiptRead s) s) := by
  unfold execMgmtReceiptRead
  exact (Within.ite (fun _ => (Within.step (State.emit_within ..) rfl (Within.refl _))) (fun _ => (by split; exacts
    [(Within.step (State.emit_within ..) rfl (Within.refl _)), (Within.step (State.emit_within ..) rfl (Within.step
    (State.emit_within ..) rfl (Within.step (State.setMgmt_within ..) rfl (Within.refl _))))])))

theorem execMgmtNoticeRead_within (s) : Within [.regs, .out, .cmd, .eng] s (after (@execMgmtNoticeRead s) s) := by
  unfold execMgmtNoticeRead
  try dsimp only
  refine Within.of_next ?_
  refine Within.ite (fun _ => ?_) (fun _ => ?_)
  · refine Within.step (State.emit_within ..) rfl ?_
    exact Within.refl _
  · split
    · refine Within.step (State.emit_within ..) rfl ?_
      exact Within.refl _
    · refine Within.step (State.flushLost_within ..) rfl ?_
      refine Within.step (State.emit_within ..) rfl ?_
      refine Within.step (State.setMgmt_within ..) rfl ?_
      exact Within.refl _

theorem execMgmtGetReceipt_within (x1 s) : Within [.regs, .out, .cmd] s (after (@execMgmtGetReceipt x1 s) s) := by
  unfold execMgmtGetReceipt
  exact (Within.ite (fun _ => (Within.step (State.emit_within ..) rfl (Within.refl _))) (fun _ => (Within.step
    (State.emit_within ..) rfl (Within.step (State.tagState_within ..) rfl (Within.refl _)))))

theorem execMgmtAssemblyTimeout_within (s) : Within [.regs, .cmd] s (after (@execMgmtAssemblyTimeout s) s) := by
  unfold execMgmtAssemblyTimeout
  exact (Within.ite (fun _ => (Within.step (State.bump_within ..) rfl (Within.step (State.setMgmt_within ..) rfl (Within.refl
    _)))) (fun _ => (Within.refl _)))

theorem State.pathsAtBoundary_within (s) : Within [.regs, .out, .cmd, .eng, .ps, .mem] s (@State.pathsAtBoundary s) := by
  unfold State.pathsAtBoundary
  try dsimp only
  refine Within.ite (fun _ => ?_) (fun _ => ?_)
  · refine forAll_within (fun _ _ => ?_) ?_
    · refine Within.ite (fun _ => ?_) (fun _ => ?_)
      · exact Within.refl _
      · refine Within.step (State.pf0Serve_within ..) rfl ?_
        exact Within.refl _
    · exact Within.refl _
  · exact Within.refl _

end Machine
end Sys2Proof
end

