-- ==== Sys2Proof/Laws/FrameUsb.lean ====
section
/-!
SUPPORT. The frame of every operation of Machine/Usb.lean: the parts of the state it may change.
-/
namespace Sys2Proof
namespace Machine

theorem State.updUsbPort_within (s x2 x3) : Within [.usb] s (@State.updUsbPort s x2 x3) := by
  unfold State.updUsbPort
  exact (Within.usb rfl (Within.refl _))

theorem State.setTree_within (s x2 x3) : Within [.usb] s (@State.setTree s x2 x3) := by
  unfold State.setTree
  exact (Within.usb rfl (Within.refl _))

theorem State.setTransfers_within (s x2) : Within [.usb] s (@State.setTransfers s x2) := by
  unfold State.setTransfers
  exact (Within.usb rfl (Within.refl _))

theorem State.setAttached_within (s x2 x3) : Within [.regs, .out, .cmd, .eng] s (@State.setAttached s x2 x3) := by
  unfold State.setAttached
  try dsimp only
  refine Within.ite (fun _ => ?_) (fun _ => ?_)
  · exact Within.refl _
  · refine Within.step (State.notice_within ..) rfl ?_
    refine Within.step (State.setFlag_within ..) rfl ?_
    exact Within.refl _

theorem State.transferDone_within (s x2 x3 x4) : Within [.out, .usb] s (@State.transferDone s x2 x3 x4) := by
  unfold State.transferDone
  exact (Within.step (State.emit_within ..) rfl (Within.step (State.setTransfers_within ..) rfl (Within.refl _)))

theorem State.setUsbState_within (s x2 x3 x4) : Within [.regs, .out, .cmd, .eng, .ps] s (@State.setUsbState s x2 x3 x4) := by
  unfold State.setUsbState
  try dsimp only
  refine Within.ite (fun _ => ?_) (fun _ => ?_)
  · refine Within.step (State.set_within ..) rfl ?_
    exact Within.refl _
  · refine Within.step (State.activity_within ..) rfl ?_
    refine Within.step (State.notice_within ..) rfl ?_
    refine Within.step (State.set_within ..) rfl ?_
    refine Within.step (State.set_within ..) rfl ?_
    exact Within.refl _

theorem State.clearPort_within (s x2) : Within [.usb] s (@State.clearPort s x2) := by
  unfold State.clearPort
  exact (Within.step (State.updUsbPort_within ..) rfl (Within.refl _))

theorem State.portOff_within (s x2) : Within [.regs, .out, .cmd, .eng, .usb, .ps] s (@State.portOff s x2) := by
  unfold State.portOff
  try dsimp only
  refine Within.step (State.setUsbState_within ..) rfl ?_
  refine Within.step (State.clearPort_within ..) rfl ?_
  exact Within.refl _

theorem execTransferRequest_within (x1 x2 s) : Within [.out, .usb] s (after (@execTransferRequest x1 x2 s) s) := by
  unfold execTransferRequest
  exact (Within.ite (fun _ => (Within.refl _)) (fun _ => (Within.step (State.emit_within ..) rfl (Within.usb rfl (Within.refl
    _)))))

theorem State.lateCompletion_within (s x2 x3) : Within [.regs, .usb] s (@State.lateCompletion s x2 x3) := by
  unfold State.lateCompletion
  try dsimp only
  refine Within.ite (fun _ => ?_) (fun _ => ?_)
  · refine Within.step (State.bump_within ..) rfl ?_
    refine Within.usb rfl ?_
    exact Within.refl _
  · refine Within.step (State.bump_within ..) rfl ?_
    exact Within.refl _

theorem execTransferCompletion_within (x1 x2 x3 s) : Within [.regs, .out, .usb] s (after (@execTransferCompletion x1 x2 x3 s) s) := by
  unfold execTransferCompletion
  try dsimp only
  refine Within.of_next ?_
  split
  · refine Within.step (State.lateCompletion_within ..) rfl ?_
    exact Within.refl _
  · refine Within.ite (fun _ => ?_) (fun _ => ?_)
    · refine Within.step (State.lateCompletion_within ..) rfl ?_
      exact Within.refl _
    · refine Within.ite (fun _ => ?_) (fun _ => ?_)
      · refine Within.step (State.bump_within ..) rfl ?_
        refine Within.step (State.bump_within ..) rfl ?_
        refine Within.step (State.transferDone_within ..) rfl ?_
        exact Within.refl _
      · refine Within.step (State.transferDone_within ..) rfl ?_
        exact Within.refl _

theorem execXferTimeout_within (x1 x2 s) : Within [.regs, .out, .usb] s (after (@execXferTimeout x1 x2 s) s) := by
  unfold execXferTimeout
  exact (by split; exacts [(Within.ite (fun _ => (Within.step (State.bump_within ..) rfl (Within.step (State.transferDone_within
    ..) rfl (Within.refl _)))) (fun _ => (Within.refl _))), (Within.refl _)])

theorem execConfigureEndpoint_within (x1 x2 x3 s) : Within [.out] s (after (@execConfigureEndpoint x1 x2 x3 s) s) := by
  unfold execConfigureEndpoint
  exact (Within.step (State.emit_within ..) rfl (Within.refl _))

theorem execKeepAliveSend_within (x1 s) : Within [.out, .usb] s (after (@execKeepAliveSend x1 s) s) := by
  unfold execKeepAliveSend
  exact (Within.ite (fun _ => (Within.step (State.emit_within ..) rfl (Within.step (State.setTree_within ..) rfl (Within.refl
    _)))) (fun _ => (Within.refl _)))

theorem execKeepAlive_within (x1 s) : Within [.regs, .out, .cmd, .eng, .usb] s (after (@execKeepAlive x1 s) s) := by
  unfold execKeepAlive
  try dsimp only
  refine Within.of_next ?_
  refine Within.ite (fun _ => ?_) (fun _ => ?_)
  · refine Within.step (State.setAttached_within ..) rfl ?_
    refine Within.step (State.setTree_within ..) rfl ?_
    exact Within.refl _
  · exact Within.refl _

theorem State.loseTree_within (s x2) : Within [.regs, .out, .cmd, .eng, .usb, .ps] s (@State.loseTree s x2) := by
  unfold State.loseTree
  try dsimp only
  refine Within.step (State.setAttached_within ..) rfl ?_
  refine Within.step (State.setTree_within ..) rfl ?_
  refine Within.ite (fun _ => ?_) (fun _ => ?_)
  · refine forAll_within (fun _ _ => ?_) ?_
    · refine Within.ite (fun _ => ?_) (fun _ => ?_)
      · refine Within.step (State.setUsbState_within ..) rfl ?_
        refine Within.step (State.clearPort_within ..) rfl ?_
        exact Within.refl _
      · exact Within.refl _
    · refine Within.step (State.bump_within ..) rfl ?_
      exact Within.refl _
  · refine forAll_within (fun _ _ => ?_) ?_
    · refine Within.step (State.transferDone_within ..) rfl ?_
      exact Within.refl _
    · refine Within.step (State.bump_within ..) rfl ?_
      exact Within.refl _

theorem execTreeLost_within (x1 s) : Within [.regs, .out, .cmd, .eng, .usb, .ps] s (after (@execTreeLost x1 s) s) := by
  unfold execTreeLost
  try dsimp only
  refine Within.of_next ?_
  refine Within.ite (fun _ => ?_) (fun _ => ?_)
  · refine Within.step (State.loseTree_within ..) rfl ?_
    exact Within.refl _
  · exact Within.refl _

theorem execSetPortFeaturePortPower_within (x1 s) : Within [.regs, .out, .cmd, .eng, .ps] s (after (@execSetPortFeaturePortPower x1 s) s) := by
  unfold execSetPortFeaturePortPower
  try dsimp only
  refine Within.of_next ?_
  refine Within.ite (fun _ => ?_) (fun _ => ?_)
  · refine Within.step (State.setUsbState_within ..) rfl ?_
    exact Within.refl _
  · exact Within.refl _

theorem execClearPortFeaturePortPower_within (x1 s) : Within [.regs, .out, .cmd, .eng, .usb, .ps] s (after (@execClearPortFeaturePortPower x1 s) s) := by
  unfold execClearPortFeaturePortPower
  try dsimp only
  refine Within.of_next ?_
  refine Within.step (State.portOff_within ..) rfl ?_
  exact Within.refl _

theorem execSetPortFeaturePortReset_within (x1 s) : Within [.regs, .out, .usb] s (after (@execSetPortFeaturePortReset x1 s) s) := by
  unfold execSetPortFeaturePortReset
  exact (Within.ite (fun _ => (Within.step (State.emit_within ..) rfl (Within.step (State.bump_within ..) rfl (Within.step
    (State.updUsbPort_within ..) rfl (Within.refl _))))) (fun _ => (Within.refl _)))

theorem execPortResetComplete_within (x1 x2 s) : Within [.regs, .out, .cmd, .eng, .usb, .ps] s (after (@execPortResetComplete x1 x2 s) s) := by
  unfold execPortResetComplete
  try dsimp only
  refine Within.of_next ?_
  refine Within.ite (fun _ => ?_) (fun _ => ?_)
  · refine Within.step (State.setUsbState_within ..) rfl ?_
    refine Within.step (State.clearPort_within ..) rfl ?_
    exact Within.refl _
  · exact Within.refl _

theorem execClearPortFeaturePortEnable_within (x1 s) : Within [.regs, .out, .cmd, .eng, .ps] s (after (@execClearPortFeaturePortEnable x1 s) s) := by
  unfold execClearPortFeaturePortEnable
  try dsimp only
  refine Within.of_next ?_
  refine Within.ite (fun _ => ?_) (fun _ => ?_)
  · refine Within.step (State.setUsbState_within ..) rfl ?_
    exact Within.refl _
  · exact Within.refl _

theorem execSuspendRequest_within (x1 s) : Within [.regs, .out, .cmd, .eng, .usb, .ps] s (after (@execSuspendRequest x1 s) s) := by
  unfold execSuspendRequest
  try dsimp only
  refine Within.of_next ?_
  refine Within.ite (fun _ => ?_) (fun _ => ?_)
  · refine Within.step (State.setUsbState_within ..) rfl ?_
    refine Within.step (State.clearPort_within ..) rfl ?_
    exact Within.refl _
  · exact Within.refl _

theorem State.mergeWake_within (s x2) : Within [.regs] s (@State.mergeWake s x2) := by
  unfold State.mergeWake
  exact (Within.step (State.bump_within ..) rfl (Within.step (State.setFlag_within ..) rfl (Within.refl _)))

theorem State.hostResumes_within (s x2) : Within [.regs, .out, .usb] s (@State.hostResumes s x2) := by
  unfold State.hostResumes
  exact (Within.ite (fun _ => (Within.step (State.mergeWake_within ..) rfl (Within.step (State.updUsbPort_within ..) rfl
    (Within.refl _)))) (fun _ => (Within.ite (fun _ => (Within.step (State.emit_within ..) rfl (Within.step
    (State.updUsbPort_within ..) rfl (Within.refl _)))) (fun _ => (Within.refl _)))))

theorem execClearPortFeaturePortSuspend_within (x1 s) : Within [.regs, .out, .usb] s (after (@execClearPortFeaturePortSuspend x1 s) s) := by
  unfold execClearPortFeaturePortSuspend
  exact (Within.step (State.hostResumes_within ..) rfl (Within.refl _))

theorem execHostResume_within (x1 s) : Within [.regs, .out, .usb] s (after (@execHostResume x1 s) s) := by
  unfold execHostResume
  exact (Within.step (State.hostResumes_within ..) rfl (Within.refl _))

theorem execRemoteWake_within (x1 s) : Within [.regs, .out, .cmd, .eng, .usb, .ps] s (after (@execRemoteWake x1 s) s) := by
  unfold execRemoteWake
  try dsimp only
  refine Within.of_next ?_
  refine Within.ite (fun _ => ?_) (fun _ => ?_)
  · refine Within.ite (fun _ => ?_) (fun _ => ?_)
    · refine Within.step (State.mergeWake_within ..) rfl ?_
      refine Within.step (State.bump_within ..) rfl ?_
      exact Within.refl _
    · refine Within.step (State.setUsbState_within ..) rfl ?_
      refine Within.step (State.updUsbPort_within ..) rfl ?_
      refine Within.step (State.bump_within ..) rfl ?_
      exact Within.refl _
  · exact Within.refl _

theorem execUsbAttach_within (x1 s) : Within [.usb] s (after (@execUsbAttach x1 s) s) := by
  unfold execUsbAttach
  exact (Within.ite (fun _ => (Within.step (State.updUsbPort_within ..) rfl (Within.refl _))) (fun _ => (Within.refl _)))

theorem execSsLinkU0_within (x1 x2 s) : Within [.regs, .out, .cmd, .eng, .usb, .ps] s (after (@execSsLinkU0 x1 x2 s) s) := by
  unfold execSsLinkU0
  try dsimp only
  refine Within.of_next ?_
  refine Within.ite (fun _ => ?_) (fun _ => ?_)
  · refine Within.step (State.bump_within ..) rfl ?_
    refine Within.step (State.setUsbState_within ..) rfl ?_
    refine Within.step (State.clearPort_within ..) rfl ?_
    exact Within.refl _
  · exact Within.refl _

theorem execUsb2Connect_within (x1 x2 s) : Within [.regs, .out, .cmd, .eng, .usb, .ps] s (after (@execUsb2Connect x1 x2 s) s) := by
  unfold execUsb2Connect
  try dsimp only
  refine Within.of_next ?_
  refine Within.ite (fun _ => ?_) (fun _ => ?_)
  · refine Within.step (State.bump_within ..) rfl ?_
    refine Within.step (State.bump_within ..) rfl ?_
    refine Within.step (State.setUsbState_within ..) rfl ?_
    refine Within.step (State.clearPort_within ..) rfl ?_
    exact Within.refl _
  · exact Within.refl _

theorem execConnectFail_within (x1 s) : Within [.regs, .usb] s (after (@execConnectFail x1 s) s) := by
  unfold execConnectFail
  exact (Within.ite (fun _ => (Within.step (State.bump_within ..) rfl (Within.step (State.clearPort_within ..) rfl (Within.refl
    _)))) (fun _ => (Within.refl _)))

theorem State.usbDetaches_within (s x2) : Within [.regs, .out, .cmd, .eng, .usb, .ps] s (@State.usbDetaches s x2) := by
  unfold State.usbDetaches
  try dsimp only
  refine Within.ite (fun _ => ?_) (fun _ => ?_)
  · refine Within.step (State.setUsbState_within ..) rfl ?_
    refine Within.step (State.clearPort_within ..) rfl ?_
    refine State.when_within (fun _ => ?_) ?_
    · refine Within.step (State.emit_within ..) rfl ?_
      exact Within.refl _
    · exact Within.refl _
  · refine Within.step (State.clearPort_within ..) rfl ?_
    refine State.when_within (fun _ => ?_) ?_
    · refine Within.step (State.emit_within ..) rfl ?_
      exact Within.refl _
    · exact Within.refl _

theorem execUsbDetach_within (x1 s) : Within [.regs, .out, .cmd, .eng, .usb, .ps] s (after (@execUsbDetach x1 s) s) := by
  unfold execUsbDetach
  try dsimp only
  refine Within.of_next ?_
  refine Within.step (State.usbDetaches_within ..) rfl ?_
  exact Within.refl _

theorem execLinkRecoveryFail_within (x1 s) : Within [.regs, .out, .cmd, .eng, .ps] s (after (@execLinkRecoveryFail x1 s) s) := by
  unfold execLinkRecoveryFail
  try dsimp only
  refine Within.of_next ?_
  refine Within.ite (fun _ => ?_) (fun _ => ?_)
  · refine Within.step (State.bump_within ..) rfl ?_
    refine Within.step (State.setUsbState_within ..) rfl ?_
    exact Within.refl _
  · exact Within.refl _

theorem State.resumesAtBoundary_within (s) : Within [.regs, .out, .cmd, .eng, .usb, .ps] s (@State.resumesAtBoundary s) := by
  unfold State.resumesAtBoundary
  try dsimp only
  refine forAll_within (fun _ _ => ?_) ?_
  · split
    · exact Within.refl _
    · refine Within.step (State.emit_within ..) rfl ?_
      refine Within.step (State.updUsbPort_within ..) rfl ?_
      exact Within.refl _
    · refine Within.ite (fun _ => ?_) (fun _ => ?_)
      · refine Within.step (State.setUsbState_within ..) rfl ?_
        refine Within.step (State.clearPort_within ..) rfl ?_
        exact Within.refl _
      · exact Within.refl _
  · exact Within.refl _

theorem State.isoMissed_within (s x2 x3) : Within [.regs, .out, .usb] s (@State.isoMissed s x2 x3) := by
  unfold State.isoMissed
  try dsimp only
  refine State.when_within (fun _ => ?_) ?_
  · refine Within.usb rfl ?_
    exact Within.refl _
  · refine Within.step (State.bump_within ..) rfl ?_
    refine Within.step (State.transferDone_within ..) rfl ?_
    exact Within.refl _

theorem State.isoAtBoundary_within (s) : Within [.regs, .out, .usb] s (@State.isoAtBoundary s) := by
  unfold State.isoAtBoundary
  try dsimp only
  refine forAll_within (fun _ _ => ?_) ?_
  · refine Within.ite (fun _ => ?_) (fun _ => ?_)
    · refine Within.step (State.isoMissed_within ..) rfl ?_
      exact Within.refl _
    · refine Within.ite (fun _ => ?_) (fun _ => ?_)
      · refine Within.ite (fun _ => ?_) (fun _ => ?_)
        · refine Within.step (State.emit_within ..) rfl ?_
          refine Within.step (State.setTransfers_within ..) rfl ?_
          exact Within.refl _
        · refine Within.ite (fun _ => ?_) (fun _ => ?_)
          · refine Within.step (State.isoMissed_within ..) rfl ?_
            exact Within.refl _
          · exact Within.refl _
      · refine Within.ite (fun _ => ?_) (fun _ => ?_)
        · refine Within.step (State.isoMissed_within ..) rfl ?_
          exact Within.refl _
        · exact Within.refl _
  · exact Within.refl _

theorem State.sendSof_within (s) : Within [.out, .usb] s (@State.sendSof s) := by
  unfold State.sendSof
  exact (Within.usb rfl (Within.ite (fun _ => (forAll_within (fun _ _ => (Within.ite (fun _ => (Within.step (State.emit_within
    ..) rfl (Within.refl _))) (fun _ => (Within.refl _)))) (Within.refl _))) (fun _ => (Within.refl _))))

theorem State.usbPortsOff_within (s) : Within [.regs, .out, .cmd, .eng, .usb, .ps] s (@State.usbPortsOff s) := by
  unfold State.usbPortsOff
  try dsimp only
  refine forAll_within (fun _ _ => ?_) ?_
  · refine Within.ite (fun _ => ?_) (fun _ => ?_)
    · refine Within.step (State.portOff_within ..) rfl ?_
      exact Within.refl _
    · exact Within.refl _
  · exact Within.refl _

theorem State.usbAtBoundary_within (s x2) : Within [.regs, .out, .cmd, .eng, .usb, .ps] s (@State.usbAtBoundary s x2) := by
  unfold State.usbAtBoundary
  try dsimp only
  refine Within.step (State.sendSof_within ..) rfl ?_
  refine Within.step (State.isoAtBoundary_within ..) rfl ?_
  refine Within.step (State.resumesAtBoundary_within ..) rfl ?_
  refine forAll_within (fun _ _ => ?_) ?_
  · refine Within.ite (fun _ => ?_) (fun _ => ?_)
    · refine Within.step (State.loseTree_within ..) rfl ?_
      exact Within.refl _
    · exact Within.refl _
  · refine Within.step (State.usbPortsOff_within ..) rfl ?_
    exact Within.refl _

end Machine
end Sys2Proof
end

