-- ==== Sys2Proof/Laws/FrameKeys.lean ====
section
/-!
SUPPORT. The frame of every operation of Machine/Keys.lean: the parts of the state it may change.
-/
namespace Sys2Proof
namespace Machine

theorem State.setSec_within (s x2) : Within [.sec] s (@State.setSec s x2) := by
  unfold State.setSec
  exact (Within.sec rfl (Within.refl _))

theorem State.setAttr_within (s x2 x3 x4 x5) : Within [.regs] s (@State.setAttr s x2 x3 x4 x5) := by
  unfold State.setAttr
  exact (Within.step (State.set_within ..) rfl (Within.step (State.set_within ..) rfl (Within.step (State.set_within ..) rfl
    (Within.refl _))))

theorem State.eraseSlot_within (s x2 x3) : Within [.regs, .sec] s (@State.eraseSlot s x2 x3) := by
  unfold State.eraseSlot
  exact (State.when_within (fun _ => (Within.step (State.setFlag_within ..) rfl (Within.refl _))) (Within.step
    (State.setSec_within ..) rfl (Within.step (State.setAttr_within ..) rfl (Within.refl _))))

theorem State.keyEvent_within (s x2 x3) : Within [.regs, .out, .cmd, .eng] s (@State.keyEvent s x2 x3) := by
  unfold State.keyEvent
  try dsimp only
  refine Within.step (State.notice_within ..) rfl ?_
  exact Within.refl _

theorem State.enforceKeys_within (s) : Within [.regs, .out, .cmd, .link, .tun, .eng] s (@State.enforceKeys s) := by
  unfold State.enforceKeys
  try dsimp only
  refine forAll_within (fun _ _ => ?_) ?_
  · refine Within.ite (fun _ => ?_) (fun _ => ?_)
    · refine Within.step (State.holdPort_within ..) rfl ?_
      exact Within.refl _
    · exact Within.refl _
  · exact Within.refl _

theorem State.syncApproved_within (s) : Within [.regs] s (@State.syncApproved s) := by
  unfold State.syncApproved
  exact (Within.step (State.setFlag_within ..) rfl (Within.refl _))

theorem State.setDebug_within (s x2) : Within [.regs, .out, .cmd, .eng] s (@State.setDebug s x2) := by
  unfold State.setDebug
  try dsimp only
  refine Within.ite (fun _ => ?_) (fun _ => ?_)
  · exact Within.refl _
  · refine Within.step (State.syncApproved_within ..) rfl ?_
    refine Within.step (State.notice_within ..) rfl ?_
    refine Within.step (State.setFlag_within ..) rfl ?_
    exact Within.refl _

theorem State.dropDue_within (s x2) : Within [.regs, .sec] s (@State.dropDue s x2) := by
  unfold State.dropDue
  try dsimp only
  refine State.when_within (fun _ => ?_) ?_
  · refine Within.step (State.set_within ..) rfl ?_
    exact Within.refl _
  · refine Within.step (State.setSec_within ..) rfl ?_
    exact Within.refl _

theorem State.debugEnds_within (s x2) : Within [.regs, .out, .cmd, .link, .tun, .eng, .sec, .boot] s (@State.debugEnds s x2) := by
  unfold State.debugEnds
  try dsimp only
  refine Within.ite (fun _ => ?_) (fun _ => ?_)
  · exact Within.refl _
  · refine Within.boot rfl ?_
    refine Within.step (State.enforceKeys_within ..) rfl ?_
    refine forAll_within (fun _ _ => ?_) ?_
    · refine Within.step (State.dropDue_within ..) rfl ?_
      exact Within.refl _
    · refine forAll_within (fun _ _ => ?_) ?_
      · refine Within.step (State.eraseSlot_within ..) rfl ?_
        exact Within.refl _
      · refine Within.step (State.setDebug_within ..) rfl ?_
        exact Within.refl _

theorem State.testFailed_within (s x2 x3) : Within [.regs, .out, .cmd, .eng] s (@State.testFailed s x2 x3) := by
  unfold State.testFailed
  try dsimp only
  refine Within.step (State.notice_within ..) rfl ?_
  refine Within.step (State.bump_within ..) rfl ?_
  exact Within.refl _

theorem State.cryptoError_within (s x2) : Within [.regs, .out, .cmd, .eng] s (@State.cryptoError s x2) := by
  unfold State.cryptoError
  try dsimp only
  refine Within.step (State.syncApproved_within ..) rfl ?_
  refine Within.step (State.testFailed_within ..) rfl ?_
  refine Within.step (State.setFlag_within ..) rfl ?_
  exact Within.refl _

theorem State.pipeTests_within (s x2) : Within [.regs, .out, .cmd, .link, .tun, .eng, .sec] s (@State.pipeTests s x2) := by
  unfold State.pipeTests
  try dsimp only
  refine forAll_within (fun _ _ => ?_) ?_
  · refine Within.ite (fun _ => ?_) (fun _ => ?_)
    · exact Within.refl _
    · refine Within.step (State.keyFault_within ..) rfl ?_
      refine Within.step (State.holdPort_within ..) rfl ?_
      exact Within.refl _
  · refine forAll_within (fun _ _ => ?_) ?_
    · refine Within.ite (fun _ => ?_) (fun _ => ?_)
      · exact Within.refl _
      · refine Within.step (State.testFailed_within ..) rfl ?_
        exact Within.refl _
    · refine Within.step (State.setSec_within ..) rfl ?_
      refine Within.step (State.set_within ..) rfl ?_
      exact Within.refl _

end Machine
end Sys2Proof
end

