-- ==== Sys2Proof/Laws/FrameDomains.lean ====
section
/-!
SUPPORT. The frame of every operation of Machine/Domains.lean: the parts of the state it may change.
-/
namespace Sys2Proof
namespace Machine

theorem State.setBoot_within (s x2) : Within [.boot] s (@State.setBoot s x2) := by
  unfold State.setBoot
  exact (Within.boot rfl (Within.refl _))

theorem State.setPs_within (s x2) : Within [.ps] s (@State.setPs s x2) := by
  unfold State.setPs
  exact (Within.ps rfl (Within.refl _))

theorem State.raiseEnable_within (s x2) : Within [.regs, .ps] s (@State.raiseEnable s x2) := by
  unfold State.raiseEnable
  exact (Within.step (State.setPs_within ..) rfl (Within.step (State.setFlag_within ..) rfl (Within.refl _)))

theorem State.lowerEnable_within (s x2) : Within [.regs, .ps] s (@State.lowerEnable s x2) := by
  unfold State.lowerEnable
  exact (Within.ite (fun _ => (Within.step (State.setPs_within ..) rfl (Within.step (State.setFlag_within ..) rfl (Within.refl
    _)))) (fun _ => (Within.refl _)))

theorem State.hostioLost_parts (s : State) (m : MediaSt) (c : CmdSt) : Within [.cmd, .media] s { s with media := m, cmd := c } :=
  Within.update (Within.refl s) rfl rfl rfl rfl (fun p hp => by cases p <;> first | rfl | exact absurd (by decide) hp)

theorem State.hostioLost_within (s) :
    Within [.regs, .out, .cmd, .link, .sw, .eng, .media, .usb, .ps] s (@State.hostioLost s) := by
  unfold State.hostioLost
  exact forAll_within (fun _ _ => Within.step (State.ingressDown_within ..) rfl (Within.step (State.egressDown_within ..) rfl
    (Within.refl _))) (State.when_within (fun _ => Within.step (State.notice_within ..) rfl (Within.step
    (State.setFlag_within ..) rfl (Within.refl _))) (Within.step (State.hostioLost_parts ..) rfl (forAll_within
    (fun _ _ => Within.step (State.nvmeDone_within ..) rfl (Within.refl _)) (Within.step (State.set_within ..) rfl (Within.step
    (State.set_within ..) rfl (Within.step (State.setSsd_within ..) rfl (forAll_within (fun _ _ => Within.ite (fun _ =>
    Within.step (State.loseTree_within ..) rfl (Within.refl _)) (fun _ => Within.refl _))
    (Within.link rfl (Within.refl _)))))))))

theorem State.stationLost_within (s) : Within [.regs, .out, .cmd, .sw, .eng, .reg, .bridge, .media, .usb, .ps] s (@State.stationLost s) := by
  unfold State.stationLost
  try dsimp only
  refine forAll_within (fun _ _ => ?_) ?_
  · refine Within.step (State.ingressDown_within ..) rfl ?_
    refine Within.step (State.egressDown_within ..) rfl ?_
    exact Within.refl _
  · refine Within.step (State.busEnables_within ..) rfl ?_
    refine forAll_within (fun _ _ => ?_) ?_
    · refine Within.step (State.setMasterBus_within ..) rfl ?_
      split
      · refine Within.ite (fun _ => ?_) (fun _ => ?_)
        · refine Within.step (State.endRegistered_within ..) rfl ?_
          exact Within.refl _
        · exact Within.refl _
      · exact Within.refl _
    · refine forAll_within (fun _ _ => ?_) ?_
      · refine Within.step (State.withdrawReg_within ..) rfl ?_
        exact Within.refl _
      · refine forAll_within (fun _ _ => ?_) ?_
        · refine Within.ite (fun _ => ?_) (fun _ => ?_)
          · refine Within.step (State.notice_within ..) rfl ?_
            refine Within.step (State.setFlag_within ..) rfl ?_
            exact Within.refl _
          · exact Within.refl _
        · refine forAll_within (fun _ _ => ?_) ?_
          · refine Within.step (State.setDp_within ..) rfl ?_
            refine Within.step (State.set_within ..) rfl ?_
            refine Within.step (State.setFlag_within ..) rfl ?_
            refine Within.step (State.setFlag_within ..) rfl ?_
            refine State.when_within (fun _ => ?_) ?_
            · refine Within.step (State.displayEvent_within ..) rfl ?_
              exact Within.refl _
            · exact Within.refl _
          · refine Within.step (State.svcDetach_within ..) rfl ?_
            refine State.when_within (fun _ => ?_) ?_
            · refine Within.step (State.loseTree_within ..) rfl ?_
              exact Within.refl _
            · refine Within.step (State.usbPortsOff_within ..) rfl ?_
              exact Within.refl _

theorem State.trunkLost_within (s x2) : Within [.regs, .out, .cmd, .link, .tun, .sw, .eng] s (@State.trunkLost s x2) := by
  unfold State.trunkLost
  try dsimp only
  refine Within.step (State.ingressDown_within ..) rfl ?_
  refine Within.step (State.egressDown_within ..) rfl ?_
  refine Within.step (State.enterDisabled_within ..) rfl ?_
  exact Within.refl _

theorem State.removeDomain_within (s x2) : Within [.regs, .out, .cmd, .link, .tun, .sw, .eng, .reg, .bridge, .media, .usb, .ps] s (@State.removeDomain s x2) := by
  unfold State.removeDomain
  try dsimp only
  refine Within.ite (fun _ => ?_) (fun _ => ?_)
  · refine Within.step (State.setPs_within ..) rfl ?_
    refine Within.step (State.lowerEnable_within ..) rfl ?_
    exact Within.refl _
  · split
    · refine Within.step (State.trunkLost_within ..) rfl ?_
      refine Within.step (State.setPowered_within ..) rfl ?_
      refine Within.step (State.setPs_within ..) rfl ?_
      refine Within.step (State.lowerEnable_within ..) rfl ?_
      exact Within.refl _
    · refine Within.step (State.trunkLost_within ..) rfl ?_
      refine Within.step (State.setPowered_within ..) rfl ?_
      refine Within.step (State.setPs_within ..) rfl ?_
      refine Within.step (State.lowerEnable_within ..) rfl ?_
      exact Within.refl _
    · refine Within.step (State.trunkLost_within ..) rfl ?_
      refine Within.step (State.setPowered_within ..) rfl ?_
      refine Within.step (State.setPs_within ..) rfl ?_
      refine Within.step (State.lowerEnable_within ..) rfl ?_
      exact Within.refl _
    · refine Within.step (State.hostioLost_within ..) rfl ?_
      refine Within.step (State.setPowered_within ..) rfl ?_
      refine Within.step (State.setPs_within ..) rfl ?_
      refine Within.step (State.lowerEnable_within ..) rfl ?_
      exact Within.refl _
    · refine Within.step (State.stationLost_within ..) rfl ?_
      refine Within.step (State.setPowered_within ..) rfl ?_
      refine Within.step (State.setPs_within ..) rfl ?_
      refine Within.step (State.lowerEnable_within ..) rfl ?_
      exact Within.refl _
    · refine Within.step (State.setPowered_within ..) rfl ?_
      refine Within.step (State.setPs_within ..) rfl ?_
      refine Within.step (State.lowerEnable_within ..) rfl ?_
      exact Within.refl _
    · refine Within.step (State.setPowered_within ..) rfl ?_
      refine Within.step (State.setPs_within ..) rfl ?_
      refine Within.step (State.lowerEnable_within ..) rfl ?_
      exact Within.refl _

theorem State.tellDomains_within (s x2) : Within [.regs, .out, .cmd, .eng] s (@State.tellDomains s x2) := by
  unfold State.tellDomains
  try dsimp only
  refine Within.ite (fun _ => ?_) (fun _ => ?_)
  · exact Within.refl _
  · refine Within.step (State.notice_within ..) rfl ?_
    exact Within.refl _

theorem State.removeAll_within (s x2) : Within [.regs, .out, .cmd, .link, .tun, .sw, .eng, .reg, .bridge, .media, .usb, .ps] s (@State.removeAll s x2) := by
  unfold State.removeAll
  try dsimp only
  refine Within.step (State.tellDomains_within ..) rfl ?_
  refine State.when_within (fun _ => ?_) ?_
  · refine Within.step (State.removeDomain_within ..) rfl ?_
    exact Within.refl _
  · refine Within.step (State.setPs_within ..) rfl ?_
    refine forAll_within (fun _ _ => ?_) ?_
    · refine Within.step (State.removeDomain_within ..) rfl ?_
      exact Within.refl _
    · exact Within.refl _

theorem State.queueDomains_within (s) : Within [.ps] s (@State.queueDomains s) := by
  unfold State.queueDomains
  exact (Within.step (State.setPs_within ..) rfl (Within.refl _))

theorem State.domainsAtBoundary_within (s) : Within [.regs, .out, .cmd, .link, .tun, .sw, .eng, .reg, .bridge, .media, .usb, .ps] s (@State.domainsAtBoundary s) := by
  unfold State.domainsAtBoundary
  try dsimp only
  refine Within.ite (fun _ => ?_) (fun _ => ?_)
  · refine Within.step (State.queueDomains_within ..) rfl ?_
    refine Within.step (State.tellDomains_within ..) rfl ?_
    refine forAll_within (fun _ _ => ?_) ?_
    · refine Within.ite (fun _ => ?_) (fun _ => ?_)
      · refine Within.step (State.removeDomain_within ..) rfl ?_
        exact Within.refl _
      · exact Within.refl _
    · exact Within.refl _
  · exact Within.refl _

theorem execRailEnable_within (s) : Within [.regs, .ps] s (after (@execRailEnable s) s) := by
  unfold execRailEnable
  exact (by split; exacts [(Within.refl _), (Within.step (State.raiseEnable_within ..) rfl (Within.step (State.setPs_within ..)
    rfl (Within.refl _)))])

theorem State.domainStarts_within (s x2 x3) : Within [.regs, .out, .seed, .cmd, .link, .tun, .eng, .sec] s (@State.domainStarts s x2 x3) := by
  unfold State.domainStarts
  try dsimp only
  split
  · refine Within.step (State.pipeTests_within ..) rfl ?_
    exact Within.refl _
  · split
    · refine Within.ite (fun _ => ?_) (fun _ => ?_)
      · refine Within.step (State.enterHunt_within ..) rfl ?_
        exact Within.refl _
      · exact Within.refl _
    · exact Within.refl _

theorem execDomainReqWrite_within (x1 x2 s) : Within [.regs, .shadow, .out, .ps] s (after (@execDomainReqWrite x1 x2 s) s) := by
  unfold execDomainReqWrite
  try dsimp only
  refine Within.of_next ?_
  refine Within.ite (fun _ => ?_) (fun _ => ?_)
  · refine Within.step (State.emit_within ..) rfl ?_
    exact Within.refl _
  · refine Within.ite (fun _ => ?_) (fun _ => ?_)
    · refine Within.step (State.emit_within ..) rfl ?_
      exact Within.refl _
    · refine Within.step (State.emit_within ..) rfl ?_
      refine Within.step (State.activity_within ..) rfl ?_
      refine Within.step (State.shadowWrite_within ..) rfl ?_
      exact Within.refl _

end Machine
end Sys2Proof
end

