-- ==== Sys2Proof/Laws/FrameResets.lean ====
section
/-!
SUPPORT. The frame of every operation of Machine/Resets.lean: the parts of the state it may change.
-/
namespace Sys2Proof
namespace Machine

theorem State.resetFields_within (s x2) : Within [.regs, .shadow] s (@State.resetFields s x2) := by
  unfold State.resetFields
  exact (forAll_within (fun _ _ => (Within.ite (fun _ => (Within.refl _)) (fun _ => (Within.step (State.setWord_within ..) rfl
    (Within.refl _))))) (Within.shadow rfl (Within.refl _)))

theorem State.coreLost_within (s) : Within [.shadow, .rt, .cmd, .link, .tun, .sw, .eng, .reg, .bridge, .media, .usb, .mem] s (@State.coreLost s) := by
  unfold State.coreLost
  exact (Within.update (Within.refl _) rfl rfl rfl rfl (fun p hp => by cases p <;> first | rfl | exact absurd (by decide) hp))

theorem State.startTimer_within (s) : Within [.rt, .mem] s (@State.startTimer s) := by
  unfold State.startTimer
  try dsimp only
  refine Within.mem rfl ?_
  refine Within.step (State.setRt_within ..) rfl ?_
  exact Within.refl _

theorem State.tryCore_within (s) : Within [.regs, .ps] s (@State.tryCore s) := by
  unfold State.tryCore
  exact (Within.ite (fun _ => (Within.step (State.raiseEnable_within ..) rfl (Within.step (State.set_within ..) rfl (Within.refl
    _)))) (fun _ => (Within.refl _)))

theorem State.setCause_within (s x2 x3) : Within [.regs] s (@State.setCause s x2 x3) := by
  unfold State.setCause
  exact (Within.step (State.set_within ..) rfl (Within.step (State.set_within ..) rfl (Within.refl _)))

theorem State.faultSeen_within (s x2 x3) : Within [.regs, .out, .cmd, .eng] s (@State.faultSeen s x2 x3) := by
  unfold State.faultSeen
  try dsimp only
  refine Within.ite (fun _ => ?_) (fun _ => ?_)
  · refine Within.step (State.notice_within ..) rfl ?_
    refine Within.step (State.set_within ..) rfl ?_
    exact Within.refl _
  · refine Within.step (State.set_within ..) rfl ?_
    exact Within.refl _

theorem State.restartEntry_within (s x2) : Within [.regs, .out, .cmd, .eng] s (@State.restartEntry s x2) := by
  unfold State.restartEntry
  try dsimp only
  split
  · exact Within.refl _
  · refine Within.ite (fun _ => ?_) (fun _ => ?_)
    · refine Within.ite (fun _ => ?_) (fun _ => ?_)
      · exact Within.refl _
      · refine Within.step (State.deliver_within ..) rfl ?_
        exact Within.refl _
    · refine Within.ite (fun _ => ?_) (fun _ => ?_)
      · exact Within.refl _
      · refine Within.ite (fun _ => ?_) (fun _ => ?_)
        · refine Within.step (State.updEntry_within ..) rfl ?_
          exact Within.refl _
        · refine Within.step (State.finish_within ..) rfl ?_
          refine Within.step (State.updEntry_within ..) rfl ?_
          exact Within.refl _

theorem State.restartBook_within (s) : Within [.regs, .out, .cmd, .eng] s (@State.restartBook s) := by
  unfold State.restartBook
  try dsimp only
  refine forAll_within (fun _ _ => ?_) ?_
  · refine Within.step (State.restartEntry_within ..) rfl ?_
    exact Within.refl _
  · refine Within.cmd rfl ?_
    exact Within.refl _

theorem State.syncSet_within (s x2) : Within [.regs] s (@State.syncSet s x2) := by
  unfold State.syncSet
  exact (Within.step (State.set_within ..) rfl (Within.step (State.set_within ..) rfl (Within.step (State.set_within ..) rfl
    (Within.step (State.set_within ..) rfl (Within.refl _)))))

theorem State.setSet_within (s x2 x3) : Within [.regs, .cmd] s (@State.setSet s x2 x3) := by
  unfold State.setSet
  exact (Within.step (State.syncSet_within ..) rfl (Within.cmd rfl (Within.refl _)))

theorem State.failSet_within (s x2 x3 x4) : Within [.regs, .cmd] s (@State.failSet s x2 x3 x4) := by
  unfold State.failSet
  exact (Within.step (State.bump_within ..) rfl (Within.step (State.setSet_within ..) rfl (Within.refl _)))

theorem State.tellFailed_within (s x2) : Within [.regs, .out, .cmd, .eng] s (@State.tellFailed s x2) := by
  unfold State.tellFailed
  try dsimp only
  refine Within.step (State.notice_within ..) rfl ?_
  exact Within.refl _

theorem State.restartSets_within (s) : Within [.regs, .out, .cmd, .eng] s (@State.restartSets s) := by
  unfold State.restartSets
  try dsimp only
  refine forAll_within (fun _ _ => ?_) ?_
  · refine Within.step (State.tellFailed_within ..) rfl ?_
    refine Within.step (State.failSet_within ..) rfl ?_
    exact Within.refl _
  · refine forAll_within (fun _ _ => ?_) ?_
    · refine Within.step (State.syncSet_within ..) rfl ?_
      exact Within.refl _
    · exact Within.refl _

theorem State.restartSwap_within (s) : Within [.regs, .out, .rt, .cmd, .eng] s (@State.restartSwap s) := by
  unfold State.restartSwap
  try dsimp only
  refine Within.ite (fun _ => ?_) (fun _ => ?_)
  · refine State.when_within (fun _ => ?_) ?_
    · refine Within.step (State.loseRole_within ..) rfl ?_
      exact Within.refl _
    · refine Within.step (State.setRt_within ..) rfl ?_
      refine Within.step (State.endSwap_within ..) rfl ?_
      exact Within.refl _
  · exact Within.refl _

theorem State.restoreRegisters_within (s) : Within [.regs, .reg] s (@State.restoreRegisters s) := by
  unfold State.restoreRegisters
  try dsimp only
  refine forAll_within (fun _ _ => ?_) ?_
  · refine Within.step (State.syncRegistry_within ..) rfl ?_
    refine Within.step (State.syncWindow_within ..) rfl ?_
    exact Within.refl _
  · refine Within.step (State.set_within ..) rfl ?_
    refine Within.step (State.syncResources_within ..) rfl ?_
    refine Within.step (State.syncBook_within ..) rfl ?_
    exact Within.refl _

theorem State.restoreContexts_within (s) : Within [.regs, .out, .cmd, .tun, .eng, .ps] s (@State.restoreContexts s) := by
  unfold State.restoreContexts
  try dsimp only
  refine forAll_within (fun t1 _ => ?_) ?_
  · split
    · exact (Within.step (State.placeContext_within _ _ _ _ (by assumption)) rfl (Within.step (State.updBox_within ..) rfl (Within.refl _)))
    · refine Within.ite (fun _ => ?_) (fun _ => ?_)
      · refine Within.step (State.setBoxState_within ..) rfl ?_
        refine Within.step (State.updBox_within ..) rfl ?_
        exact Within.refl _
      · refine Within.step (State.updBox_within ..) rfl ?_
        exact Within.refl _
  · exact Within.refl _

theorem State.postmasterStarts_within (s x2) : Within [.regs, .out, .rt, .cmd, .tun, .eng, .reg, .ps, .boot] s (@State.postmasterStarts s x2) := by
  unfold State.postmasterStarts
  try dsimp only
  refine Within.step (State.setBoot_within ..) rfl ?_
  refine Within.step (State.set_within ..) rfl ?_
  refine Within.step (State.restartSets_within ..) rfl ?_
  refine Within.step (State.registryRestart_within ..) rfl ?_
  refine Within.step (State.restartSwap_within ..) rfl ?_
  refine State.when_within (fun _ => ?_) ?_
  · refine Within.step (State.restoreContexts_within ..) rfl ?_
    refine Within.step (State.restoreRegisters_within ..) rfl ?_
    refine Within.step (State.set_within ..) rfl ?_
    exact Within.refl _
  · exact Within.refl _

theorem State.becomesReady_within (s) : Within [.regs, .out, .cmd, .eng, .ps, .sec, .boot] s (@State.becomesReady s) := by
  unfold State.becomesReady
  try dsimp only
  refine Within.ite (fun _ => ?_) (fun _ => ?_)
  · refine Within.step (State.restartIdle_within ..) rfl ?_
    refine Within.step (State.setSec_within ..) rfl ?_
    refine Within.step (State.setBoot_within ..) rfl ?_
    split
    · refine Within.step (State.notice_within ..) rfl ?_
      refine State.when_within (fun _ => ?_) ?_
      · refine Within.step (State.notice_within ..) rfl ?_
        exact Within.refl _
      · refine State.when_within (fun _ => ?_) ?_
        · refine Within.step (State.notice_within ..) rfl ?_
          exact Within.refl _
        · refine Within.step (State.restartBook_within ..) rfl ?_
          refine Within.step (State.set_within ..) rfl ?_
          exact Within.refl _
    · refine State.when_within (fun _ => ?_) ?_
      · refine Within.step (State.notice_within ..) rfl ?_
        exact Within.refl _
      · refine State.when_within (fun _ => ?_) ?_
        · refine Within.step (State.notice_within ..) rfl ?_
          exact Within.refl _
        · refine Within.step (State.restartBook_within ..) rfl ?_
          refine Within.step (State.set_within ..) rfl ?_
          exact Within.refl _
  · exact Within.refl _

theorem State.dropCore_within (s) : Within [.regs, .shadow, .out, .rt, .cmd, .link, .tun, .sw, .eng, .reg, .bridge, .media, .usb, .ps, .mem] s (@State.dropCore s) := by
  unfold State.dropCore
  try dsimp only
  refine Within.step (State.setPs_within ..) rfl ?_
  refine Within.step (State.set_within ..) rfl ?_
  refine Within.step (State.coreLost_within ..) rfl ?_
  refine Within.step (State.removeAll_within ..) rfl ?_
  refine Within.step (State.completeWrites_within ..) rfl ?_
  exact Within.refl _

theorem State.coreCycle_within (s x2) : Within [.regs, .shadow, .out, .rt, .cmd, .link, .tun, .sw, .eng, .reg, .bridge, .media, .usb, .ps, .sec, .mem, .boot] s (@State.coreCycle s x2) := by
  unfold State.coreCycle
  try dsimp only
  refine Within.step (State.tryCore_within ..) rfl ?_
  refine Within.step (State.set_within ..) rfl ?_
  refine Within.step (State.setBoot_within ..) rfl ?_
  refine Within.step (State.setCause_within ..) rfl ?_
  refine Within.step (State.resetFields_within ..) rfl ?_
  refine Within.step (State.bump_within ..) rfl ?_
  refine Within.step (State.dropCore_within ..) rfl ?_
  refine State.when_within (fun _ => ?_) ?_
  · refine Within.step (State.debugEnds_within ..) rfl ?_
    exact Within.refl _
  · exact Within.refl _

theorem State.hubReset_parts (s : State) (a : PdSt) (b : PsSt) (c : RecorderSt) (d : SecSt) :
    Within [.pd, .ps, .sec, .recorder] s { s with pd := a, ps := b, recorder := c, sec := d } :=
  Within.update (Within.refl s) rfl rfl rfl rfl (fun p hp => by cases p <;> first | rfl | exact absurd (by decide) hp)

theorem State.hubReset_within (s x2) :
    Within [.regs, .shadow, .out, .seed, .rt, .cmd, .link, .tun, .sw, .eng, .reg, .bridge, .media, .usb, .pd, .ps, .sec, .mem,
      .recorder, .boot] s (State.hubReset s x2) := by
  unfold State.hubReset
  generalize hb : keeperLive true = live
  generalize hc : [0, 1, 2, 3] = l
  exact Within.step (State.setBoot_within ..) rfl (Within.step (State.setCause_within ..) rfl (forAll_within
    (fun _ _ => Within.step (State.emit_within ..) rfl (Within.refl _))
    (Within.step (State.hubReset_parts ..) rfl (Within.step (State.resetFields_within ..) rfl (Within.step (State.bump_within ..) rfl
    (Within.step (State.dropCore_within ..) rfl (Within.step (State.debugEnds_within ..) rfl (Within.refl _))))))))

theorem State.enterSafe_within (s) : Within [.regs, .shadow, .out, .rt, .cmd, .link, .tun, .sw, .eng, .reg, .bridge, .media, .usb, .ps, .mem, .boot] s (@State.enterSafe s) := by
  unfold State.enterSafe
  try dsimp only
  refine Within.step (State.setBoot_within ..) rfl ?_
  refine Within.step (State.resetFields_within ..) rfl ?_
  refine Within.step (State.bump_within ..) rfl ?_
  refine Within.step (State.dropCore_within ..) rfl ?_
  exact Within.refl _

theorem State.bigFault_within (s x2 x3) : Within [.regs, .shadow, .out, .seed, .rt, .cmd, .link, .tun, .sw, .eng, .reg, .bridge, .media, .usb, .pd, .ps, .sec, .mem, .recorder, .boot] s (@State.bigFault s x2 x3) := by
  unfold State.bigFault
  try dsimp only
  refine Within.ite (fun _ => ?_) (fun _ => ?_)
  · refine Within.step (State.enterSafe_within ..) rfl ?_
    refine Within.step (State.setBoot_within ..) rfl ?_
    exact Within.refl _
  · refine Within.ite (fun _ => ?_) (fun _ => ?_)
    · refine Within.step (State.hubReset_within ..) rfl ?_
      refine Within.step (State.setBoot_within ..) rfl ?_
      exact Within.refl _
    · refine Within.step (State.coreCycle_within ..) rfl ?_
      refine Within.step (State.setBoot_within ..) rfl ?_
      exact Within.refl _

theorem State.trialFallback_within (s) : Within [.regs, .shadow, .out, .seed, .rt, .cmd, .link, .tun, .sw, .eng, .reg, .bridge, .media, .usb, .pd, .ps, .sec, .mem, .recorder, .boot] s (@State.trialFallback s) := by
  unfold State.trialFallback
  try dsimp only
  refine Within.step (State.hubReset_within ..) rfl ?_
  refine Within.step (State.setBoot_within ..) rfl ?_
  refine Within.step (State.setFlag_within ..) rfl ?_
  refine Within.step (State.set_within ..) rfl ?_
  exact Within.refl _

theorem State.postmasterReset_within (s x2) : Within [.regs, .shadow, .out, .seed, .rt, .cmd, .link, .tun, .sw, .eng, .reg, .bridge, .media, .usb, .pd, .ps, .sec, .mem, .recorder, .boot] s (@State.postmasterReset s x2) := by
  unfold State.postmasterReset
  try dsimp only
  refine Within.ite (fun _ => ?_) (fun _ => ?_)
  · refine Within.step (State.trialFallback_within ..) rfl ?_
    refine Within.step (State.setCause_within ..) rfl ?_
    refine Within.step (State.bump_within ..) rfl ?_
    refine Within.step (State.completeWrites_within ..) rfl ?_
    exact Within.refl _
  · refine Within.step (State.postmasterStarts_within ..) rfl ?_
    refine Within.step (State.set_within ..) rfl ?_
    refine Within.step (State.syncApproved_within ..) rfl ?_
    refine Within.step (State.setBoot_within ..) rfl ?_
    refine State.when_within (fun _ => ?_) ?_
    · refine Within.step (State.debugEnds_within ..) rfl ?_
      exact Within.refl _
    · refine Within.step (State.setCause_within ..) rfl ?_
      refine Within.step (State.bump_within ..) rfl ?_
      refine Within.step (State.completeWrites_within ..) rfl ?_
      exact Within.refl _

theorem State.postmasterFault_within (s x2) : Within [.regs, .shadow, .out, .seed, .rt, .cmd, .link, .tun, .sw, .eng, .reg, .bridge, .media, .usb, .pd, .ps, .sec, .mem, .recorder, .boot] s (@State.postmasterFault s x2) := by
  unfold State.postmasterFault
  try dsimp only
  refine Within.ite (fun _ => ?_) (fun _ => ?_)
  · refine Within.step (State.postmasterReset_within ..) rfl ?_
    refine Within.step (State.setBoot_within ..) rfl ?_
    refine Within.step (State.faultSeen_within ..) rfl ?_
    exact Within.refl _
  · refine Within.step (State.bigFault_within ..) rfl ?_
    refine Within.step (State.faultSeen_within ..) rfl ?_
    refine Within.step (State.setBoot_within ..) rfl ?_
    refine Within.step (State.bump_within ..) rfl ?_
    refine Within.step (State.setBoot_within ..) rfl ?_
    refine Within.step (State.faultSeen_within ..) rfl ?_
    exact Within.refl _

theorem execLockstepMismatch_within (s) : Within [.regs, .shadow, .out, .seed, .rt, .cmd, .link, .tun, .sw, .eng, .reg, .bridge, .media, .usb, .pd, .ps, .sec, .mem, .recorder, .boot] s (after (@execLockstepMismatch s) s) := by
  unfold execLockstepMismatch
  try dsimp only
  refine Within.of_next ?_
  refine Within.ite (fun _ => ?_) (fun _ => ?_)
  · exact Within.refl _
  · refine Within.ite (fun _ => ?_) (fun _ => ?_)
    · refine Within.step (State.setCause_within ..) rfl ?_
      refine Within.step (State.faultSeen_within ..) rfl ?_
      refine Within.step (State.bump_within ..) rfl ?_
      exact Within.refl _
    · refine Within.step (State.postmasterFault_within ..) rfl ?_
      refine Within.step (State.bump_within ..) rfl ?_
      exact Within.refl _

theorem execPostmasterWatchdog_within (s) : Within [.regs, .shadow, .out, .seed, .rt, .cmd, .link, .tun, .sw, .eng, .reg, .bridge, .media, .usb, .pd, .ps, .sec, .mem, .recorder, .boot] s (after (@execPostmasterWatchdog s) s) := by
  unfold execPostmasterWatchdog
  try dsimp only
  refine Within.of_next ?_
  refine Within.ite (fun _ => ?_) (fun _ => ?_)
  · refine Within.step (State.postmasterFault_within ..) rfl ?_
    refine Within.step (State.bump_within ..) rfl ?_
    exact Within.refl _
  · exact Within.refl _

theorem State.removeCore_within (s x2) : Within [.regs, .shadow, .out, .rt, .cmd, .link, .tun, .sw, .eng, .reg, .bridge, .media, .usb, .ps, .mem, .boot] s (@State.removeCore s x2) := by
  unfold State.removeCore
  try dsimp only
  refine Within.step (State.setBoot_within ..) rfl ?_
  refine Within.step (State.dropCore_within ..) rfl ?_
  refine Within.step (State.faultSeen_within ..) rfl ?_
  exact Within.refl _

theorem State.endWait_within (s x2) : Within [.regs, .shadow, .out, .seed, .rt, .cmd, .link, .tun, .sw, .eng, .reg, .bridge, .media, .usb, .pd, .ps, .sec, .mem, .recorder, .boot] s (@State.endWait s x2) := by
  unfold State.endWait
  try dsimp only
  refine Within.ite (fun _ => ?_) (fun _ => ?_)
  · refine Within.ite (fun _ => ?_) (fun _ => ?_)
    · refine Within.step (State.setBoot_within ..) rfl ?_
      exact Within.refl _
    · refine Within.ite (fun _ => ?_) (fun _ => ?_)
      · refine Within.step (State.coreCycle_within ..) rfl ?_
        refine Within.step (State.setBoot_within ..) rfl ?_
        exact Within.refl _
      · refine Within.step (State.bigFault_within ..) rfl ?_
        refine Within.step (State.setBoot_within ..) rfl ?_
        exact Within.refl _
  · exact Within.refl _

theorem execRefclkAbsent_within (s) : Within [.regs, .shadow, .out, .rt, .cmd, .link, .tun, .sw, .eng, .reg, .bridge, .media, .usb, .ps, .mem, .boot] s (after (@execRefclkAbsent s) s) := by
  unfold execRefclkAbsent
  try dsimp only
  refine Within.of_next ?_
  refine Within.ite (fun _ => ?_) (fun _ => ?_)
  · refine Within.step (State.removeCore_within ..) rfl ?_
    exact Within.refl _
  · exact Within.refl _

theorem execRefclkReturn_within (s) : Within [.regs, .shadow, .out, .seed, .rt, .cmd, .link, .tun, .sw, .eng, .reg, .bridge, .media, .usb, .pd, .ps, .sec, .mem, .recorder, .boot] s (after (@execRefclkReturn s) s) := by
  unfold execRefclkReturn
  try dsimp only
  refine Within.of_next ?_
  refine Within.step (State.endWait_within ..) rfl ?_
  exact Within.refl _

theorem execDieOvertemp_within (s) : Within [.regs, .shadow, .out, .rt, .cmd, .link, .tun, .sw, .eng, .reg, .bridge, .media, .usb, .ps, .mem, .boot] s (after (@execDieOvertemp s) s) := by
  unfold execDieOvertemp
  try dsimp only
  refine Within.of_next ?_
  refine Within.ite (fun _ => ?_) (fun _ => ?_)
  · refine Within.step (State.removeCore_within ..) rfl ?_
    exact Within.refl _
  · exact Within.refl _

theorem execOvertempRecovery_within (s) : Within [.regs, .shadow, .out, .seed, .rt, .cmd, .link, .tun, .sw, .eng, .reg, .bridge, .media, .usb, .pd, .ps, .sec, .mem, .recorder, .boot] s (after (@execOvertempRecovery s) s) := by
  unfold execOvertempRecovery
  try dsimp only
  refine Within.of_next ?_
  refine Within.step (State.endWait_within ..) rfl ?_
  exact Within.refl _

theorem execCoreFaultCycle_within (s) : Within [.regs, .shadow, .out, .seed, .rt, .cmd, .link, .tun, .sw, .eng, .reg, .bridge, .media, .usb, .pd, .ps, .sec, .mem, .recorder, .boot] s (after (@execCoreFaultCycle s) s) := by
  unfold execCoreFaultCycle
  try dsimp only
  refine Within.of_next ?_
  refine Within.ite (fun _ => ?_) (fun _ => ?_)
  · refine Within.step (State.endWait_within ..) rfl ?_
    exact Within.refl _
  · exact Within.refl _

theorem execSafeEnd_within (s) : Within [.regs, .shadow, .out, .seed, .rt, .cmd, .link, .tun, .sw, .eng, .reg, .bridge, .media, .usb, .pd, .ps, .sec, .mem, .recorder, .boot] s (after (@execSafeEnd s) s) := by
  unfold execSafeEnd
  try dsimp only
  refine Within.of_next ?_
  refine Within.ite (fun _ => ?_) (fun _ => ?_)
  · refine Within.step (State.bigFault_within ..) rfl ?_
    refine Within.step (State.set_within ..) rfl ?_
    refine Within.step (State.setBoot_within ..) rfl ?_
    exact Within.refl _
  · exact Within.refl _

theorem execDomainSupplyGood_within (x1 x2 s) : Within [.regs, .out, .seed, .rt, .cmd, .link, .tun, .eng, .sec, .mem, .boot] s (after (@execDomainSupplyGood x1 x2 s) s) := by
  unfold execDomainSupplyGood
  try dsimp only
  refine Within.of_next ?_
  refine Within.ite (fun _ => ?_) (fun _ => ?_)
  · exact Within.refl _
  · refine Within.ite (fun _ => ?_) (fun _ => ?_)
    · refine Within.step (State.notice_within ..) rfl ?_
      refine Within.step (State.setBoot_within ..) rfl ?_
      refine Within.step (State.startTimer_within ..) rfl ?_
      refine Within.step (State.set_within ..) rfl ?_
      refine Within.step (State.setPowered_within ..) rfl ?_
      exact Within.refl _
    · refine Within.ite (fun _ => ?_) (fun _ => ?_)
      · exact Within.refl _
      · refine Within.step (State.domainStarts_within ..) rfl ?_
        refine Within.step (State.tellDomains_within ..) rfl ?_
        refine Within.step (State.setPowered_within ..) rfl ?_
        exact Within.refl _

theorem State.domainFaults_within (s x2) : Within [.regs, .shadow, .out, .rt, .cmd, .link, .tun, .sw, .eng, .reg, .bridge, .media, .usb, .ps, .mem, .boot] s (@State.domainFaults s x2) := by
  unfold State.domainFaults
  try dsimp only
  refine Within.ite (fun _ => ?_) (fun _ => ?_)
  · refine Within.step (State.removeCore_within ..) rfl ?_
    refine Within.step (State.notice_within ..) rfl ?_
    refine Within.step (State.bump_within ..) rfl ?_
    refine Within.step (State.setFlag_within ..) rfl ?_
    exact Within.refl _
  · refine Within.step (State.tellDomains_within ..) rfl ?_
    refine Within.step (State.removeDomain_within ..) rfl ?_
    refine Within.step (State.faultSeen_within ..) rfl ?_
    refine Within.step (State.notice_within ..) rfl ?_
    refine Within.step (State.bump_within ..) rfl ?_
    refine Within.step (State.setFlag_within ..) rfl ?_
    exact Within.refl _

theorem execDomainSupplyTimeout_within (x1 s) : Within [.regs, .shadow, .out, .rt, .cmd, .link, .tun, .sw, .eng, .reg, .bridge, .media, .usb, .ps, .mem, .boot] s (after (@execDomainSupplyTimeout x1 s) s) := by
  unfold execDomainSupplyTimeout
  try dsimp only
  refine Within.of_next ?_
  refine Within.ite (fun _ => ?_) (fun _ => ?_)
  · refine Within.step (State.domainFaults_within ..) rfl ?_
    exact Within.refl _
  · exact Within.refl _

theorem execDomainSupplyLoss_within (x1 s) : Within [.regs, .shadow, .out, .rt, .cmd, .link, .tun, .sw, .eng, .reg, .bridge, .media, .usb, .ps, .mem, .boot] s (after (@execDomainSupplyLoss x1 s) s) := by
  unfold execDomainSupplyLoss
  try dsimp only
  refine Within.of_next ?_
  refine Within.ite (fun _ => ?_) (fun _ => ?_)
  · refine Within.step (State.domainFaults_within ..) rfl ?_
    exact Within.refl _
  · exact Within.refl _

theorem execSkLinkDown_within (s) : Within [.regs, .out, .cmd, .eng, .boot] s (after (@execSkLinkDown s) s) := by
  unfold execSkLinkDown
  try dsimp only
  refine Within.of_next ?_
  refine Within.ite (fun _ => ?_) (fun _ => ?_)
  · exact Within.refl _
  · refine Within.step (State.faultSeen_within ..) rfl ?_
    refine Within.step (State.setBoot_within ..) rfl ?_
    refine Within.step (State.setFlag_within ..) rfl ?_
    refine Within.step (State.setFlag_within ..) rfl ?_
    exact Within.refl _

theorem execSkLinkUp_within (s) : Within [.regs, .reg] s (after (@execSkLinkUp s) s) := by
  unfold execSkLinkUp
  exact (Within.ite (fun _ => (Within.refl _)) (fun _ => (Within.step (State.setReg_within ..) rfl (Within.step
    (State.setFlag_within ..) rfl (Within.refl _)))))

theorem execSkLinkTimeout_within (s) : Within [.regs, .shadow, .out, .seed, .rt, .cmd, .link, .tun, .sw, .eng, .reg, .bridge, .media, .usb, .pd, .ps, .sec, .mem, .recorder, .boot] s (after (@execSkLinkTimeout s) s) := by
  unfold execSkLinkTimeout
  try dsimp only
  refine Within.of_next ?_
  refine Within.ite (fun _ => ?_) (fun _ => ?_)
  · refine Within.step (State.bigFault_within ..) rfl ?_
    exact Within.refl _
  · exact Within.refl _

end Machine
end Sys2Proof
end

