-- ==== Sys2Proof/Laws/FrameRecorder.lean ====
section
/-!
SUPPORT. The frame of every operation of Machine/Recorder.lean: the parts of the state it may change.
-/
namespace Sys2Proof
namespace Machine

theorem State.setRecorder_within (s x2) : Within [.recorder] s (@State.setRecorder s x2) := by
  unfold State.setRecorder
  exact (Within.recorder rfl (Within.refl _))

theorem State.changeRecord_within (s x2) : Within [.recorder] s (@State.changeRecord s x2) := by
  unfold State.changeRecord
  exact (Within.ite (fun _ => (Within.step (State.setRecorder_within ..) rfl (Within.refl _))) (fun _ => (Within.step
    (State.setRecorder_within ..) rfl (Within.refl _))))

theorem State.setSeconds_within (s x2) : Within [.regs, .recorder] s (@State.setSeconds s x2) := by
  unfold State.setSeconds
  exact (Within.step (State.set_within ..) rfl (Within.step (State.set_within ..) rfl (Within.step (State.setRecorder_within ..)
    rfl (Within.refl _))))

theorem State.sampleSource_within (s x2 x3 x4) : Within [.recorder] s (@State.sampleSource s x2 x3 x4) := by
  unfold State.sampleSource
  try dsimp only
  refine Within.step (State.setRecorder_within ..) rfl ?_
  exact Within.refl _

theorem State.newSecond_parts (s : State) (a : RecorderSt) (b : SwSt) (c : RegSt) (d : MemSt) :
    Within [.sw, .reg, .mem, .recorder] s { s with recorder := a, sw := b, reg := c, mem := d } :=
  Within.update (Within.refl s) rfl rfl rfl rfl (fun p hp => by cases p <;> first | rfl | exact absurd (by decide) hp)

theorem State.newSecond_within (s) : Within [.link, .sw, .reg, .mem, .recorder] s (@State.newSecond s) := by
  unfold State.newSecond
  exact forAll_within (fun _ _ => Within.step (State.updPort_within ..) rfl (Within.refl _))
    (Within.step (State.newSecond_parts ..) rfl (Within.refl _))

theorem execRecorderUpdate_within (x1 s) : Within [.regs, .link, .sw, .reg, .mem, .recorder] s (after (@execRecorderUpdate x1 s) s) := by
  unfold execRecorderUpdate
  try dsimp only
  refine Within.of_next ?_
  refine Within.ite (fun _ => ?_) (fun _ => ?_)
  · exact Within.refl _
  · refine Within.step (State.newSecond_within ..) rfl ?_
    refine State.when_within (fun _ => ?_) ?_
    · refine Within.step (State.set_within ..) rfl ?_
      exact Within.refl _
    · refine Within.step (State.changeRecord_within ..) rfl ?_
      refine Within.step (State.setSeconds_within ..) rfl ?_
      exact Within.refl _

theorem State.clearHist_within (s x2) : Within [.recorder] s (@State.clearHist s x2) := by
  unfold State.clearHist
  exact (Within.step (State.changeRecord_within ..) rfl (Within.refl _))

theorem State.loseRecorded_within (s x2) : Within [.recorder] s (@State.loseRecorded s x2) := by
  unfold State.loseRecorded
  try dsimp only
  refine Within.step (State.setRecorder_within ..) rfl ?_
  exact Within.refl _

theorem State.histsAtBoundary_within (s x2) : Within [.recorder] s (@State.histsAtBoundary s x2) := by
  unfold State.histsAtBoundary
  exact (forAll_within (fun _ _ => (Within.ite (fun _ => (Within.refl _)) (fun _ => (Within.step (State.clearHist_within ..) rfl
    (Within.refl _))))) (Within.refl _))

theorem State.thaw_within (s) : Within [.regs, .recorder] s (@State.thaw s) := by
  unfold State.thaw
  exact (Within.step (State.set_within ..) rfl (Within.step (State.setFlag_within ..) rfl (Within.step (State.setRecorder_within
    ..) rfl (Within.refl _))))

theorem State.autoThaw_within (s x2) : Within [.regs, .out, .cmd, .eng, .recorder] s (@State.autoThaw s x2) := by
  unfold State.autoThaw
  try dsimp only
  refine Within.ite (fun _ => ?_) (fun _ => ?_)
  · refine Within.step (State.notice_within ..) rfl ?_
    refine Within.step (State.bump_within ..) rfl ?_
    refine Within.step (State.thaw_within ..) rfl ?_
    exact Within.refl _
  · exact Within.refl _

theorem execRecorderAutoThaw_within (s) : Within [.regs, .out, .cmd, .eng, .recorder] s (after (@execRecorderAutoThaw s) s) := by
  unfold execRecorderAutoThaw
  try dsimp only
  refine Within.of_next ?_
  refine Within.ite (fun _ => ?_) (fun _ => ?_)
  · refine Within.step (State.autoThaw_within ..) rfl ?_
    exact Within.refl _
  · exact Within.refl _

theorem execRecorderFreeze_within (x1 s) : Within [.regs, .out, .cmd, .eng, .ps, .mem, .recorder] s (after (@execRecorderFreeze x1 s) s) := by
  unfold execRecorderFreeze
  try dsimp only
  refine Within.of_next ?_
  refine State.runOpcode_keeps rfl (fun _ _ => ?_) ?_
  · refine Within.ite_fst (fun _ => ?_) (fun _ => ?_)
    · refine Within.ite_fst (fun _ => ?_) (fun _ => ?_)
      · dsimp only
        exact Within.refl _
      · dsimp only
        exact Within.refl _
    · dsimp only
      refine Within.step (State.setRecorder_within ..) rfl ?_
      refine Within.step (State.set_within ..) rfl ?_
      refine Within.step (State.setFlag_within ..) rfl ?_
      exact Within.refl _
  · exact Within.refl _

theorem execRecorderThaw_within (x1 s) : Within [.regs, .out, .cmd, .eng, .ps, .mem, .recorder] s (after (@execRecorderThaw x1 s) s) := by
  unfold execRecorderThaw
  try dsimp only
  refine Within.of_next ?_
  refine State.runOpcode_keeps rfl (fun _ _ => ?_) ?_
  · refine Within.ite_fst (fun _ => ?_) (fun _ => ?_)
    · dsimp only
      refine Within.step (State.thaw_within ..) rfl ?_
      exact Within.refl _
    · dsimp only
      exact Within.refl _
  · exact Within.refl _

theorem execRecorderRead_within (x1 x2 x3 s) : Within [.regs, .out, .cmd, .eng, .ps, .mem] s (after (@execRecorderRead x1 x2 x3 s) s) := by
  unfold execRecorderRead
  try dsimp only
  refine Within.of_next ?_
  refine State.runOpcode_keeps rfl (fun _ _ => ?_) ?_
  · refine Within.ite_fst (fun _ => ?_) (fun _ => ?_)
    · dsimp only
      exact Within.refl _
    · refine Within.ite_fst (fun _ => ?_) (fun _ => ?_)
      · dsimp only
        exact Within.refl _
      · dsimp only
        exact Within.refl _
  · exact Within.refl _

theorem execOperatingLoRead_within (s) : Within [.regs, .out] s (after (@execOperatingLoRead s) s) := by
  unfold execOperatingLoRead
  exact (Within.step (State.emit_within ..) rfl (Within.step (State.set_within ..) rfl (Within.refl _)))

end Machine
end Sys2Proof
end

