-- ==== Sys2Proof/Laws/FramePower.lean ====
section
/-!
SUPPORT. The frame of every operation of Machine/Power.lean: the parts of the state it may change.
-/
namespace Sys2Proof
namespace Machine

theorem State.setPower_within (s x2) : Within [.power] s (@State.setPower s x2) := by
  unfold State.setPower
  exact (Within.power rfl (Within.refl _))

theorem State.updPath_within (s x2 x3) : Within [.power] s (@State.updPath s x2 x3) := by
  unfold State.updPath
  exact (Within.ite (fun _ => (Within.step (State.setPower_within ..) rfl (Within.refl _))) (fun _ => (Within.step
    (State.setPower_within ..) rfl (Within.refl _))))

theorem State.updPd_within (s x2 x3) : Within [.pd] s (@State.updPd s x2 x3) := by
  unfold State.updPd
  try dsimp only
  refine Within.pd rfl ?_
  exact Within.refl _

theorem State.requestAgain_within (s x2) : Within [.out] s (@State.requestAgain s x2) := by
  unfold State.requestAgain
  try dsimp only
  refine State.when_within (fun _ => ?_) ?_
  · refine Within.step (State.emit_within ..) rfl ?_
    exact Within.refl _
  · exact Within.refl _

theorem State.syncPg_within (s) : Within [.regs, .shadow, .out, .seed, .rt, .cmd, .link, .tun, .sw, .eng, .reg, .bridge, .media, .usb, .pd, .ps, .sec, .mem, .recorder, .boot] s (@State.syncPg s) := by
  unfold State.syncPg
  try dsimp only
  refine Within.ite (fun _ => ?_) (fun _ => ?_)
  · refine Within.step (State.tryCore_within ..) rfl ?_
    refine Within.step (State.endWait_within ..) rfl ?_
    refine Within.step (State.setFlag_within ..) rfl ?_
    refine Within.step (State.setFlag_within ..) rfl ?_
    exact Within.refl _
  · refine Within.step (State.setFlag_within ..) rfl ?_
    refine Within.step (State.setFlag_within ..) rfl ?_
    exact Within.refl _

theorem State.setPath_within (s x2 x3) : Within [.regs, .shadow, .out, .seed, .rt, .cmd, .link, .tun, .sw, .eng, .reg, .bridge, .media, .usb, .power, .pd, .ps, .sec, .mem, .recorder, .boot] s (@State.setPath s x2 x3) := by
  unfold State.setPath
  try dsimp only
  refine Within.ite (fun _ => ?_) (fun _ => ?_)
  · exact Within.refl _
  · refine Within.step (State.requestAgain_within ..) rfl ?_
    refine Within.step (State.syncPg_within ..) rfl ?_
    refine Within.step (State.notice_within ..) rfl ?_
    refine State.when_within (fun _ => ?_) ?_
    · refine Within.step (State.updPath_within ..) rfl ?_
      exact Within.refl _
    · refine State.when_within (fun _ => ?_) ?_
      · refine Within.step (State.set_within ..) rfl ?_
        exact Within.refl _
      · refine State.when_within (fun _ => ?_) ?_
        · refine Within.step (State.setFlag_within ..) rfl ?_
          exact Within.refl _
        · refine State.when_within (fun _ => ?_) ?_
          · refine Within.step (State.setFlag_within ..) rfl ?_
            refine Within.step (State.setFlag_within ..) rfl ?_
            exact Within.refl _
          · refine State.when_within (fun _ => ?_) ?_
            · refine Within.step (State.setFlag_within ..) rfl ?_
              exact Within.refl _
            · refine Within.step (State.emit_within ..) rfl ?_
              refine Within.step (State.set_within ..) rfl ?_
              exact Within.refl _

theorem State.markGood_within (s x2) : Within [.regs, .shadow, .out, .seed, .rt, .cmd, .link, .tun, .sw, .eng, .reg, .bridge, .media, .usb, .pd, .ps, .sec, .mem, .recorder, .boot] s (@State.markGood s x2) := by
  unfold State.markGood
  try dsimp only
  refine Within.ite (fun _ => ?_) (fun _ => ?_)
  · refine Within.step (State.syncPg_within ..) rfl ?_
    refine Within.step (State.setFlag_within ..) rfl ?_
    exact Within.refl _
  · exact Within.refl _

theorem State.rampDone_within (s x2) : Within [.regs, .shadow, .out, .seed, .rt, .cmd, .link, .tun, .sw, .eng, .reg, .bridge, .media, .usb, .power, .pd, .ps, .sec, .mem, .recorder, .boot] s (@State.rampDone s x2) := by
  unfold State.rampDone
  try dsimp only
  refine Within.step (State.markGood_within ..) rfl ?_
  refine Within.step (State.setFlag_within ..) rfl ?_
  refine Within.step (State.setPath_within ..) rfl ?_
  exact Within.refl _

theorem State.startRamp_within (s x2 x3) : Within [.regs, .shadow, .out, .seed, .rt, .cmd, .link, .tun, .sw, .eng, .reg, .bridge, .media, .usb, .power, .pd, .ps, .sec, .mem, .recorder, .boot] s (@State.startRamp s x2 x3) := by
  unfold State.startRamp
  try dsimp only
  refine Within.ite (fun _ => ?_) (fun _ => ?_)
  · refine Within.step (State.rampDone_within ..) rfl ?_
    refine Within.step (State.setFlag_within ..) rfl ?_
    refine Within.step (State.setPath_within ..) rfl ?_
    refine Within.step (State.updPath_within ..) rfl ?_
    exact Within.refl _
  · refine Within.step (State.setFlag_within ..) rfl ?_
    refine Within.step (State.setPath_within ..) rfl ?_
    refine Within.step (State.updPath_within ..) rfl ?_
    exact Within.refl _

theorem State.retryRamp_within (s x2 x3) : Within [.regs, .shadow, .out, .seed, .rt, .cmd, .link, .tun, .sw, .eng, .reg, .bridge, .media, .usb, .power, .pd, .ps, .sec, .mem, .recorder, .boot] s (@State.retryRamp s x2 x3) := by
  unfold State.retryRamp
  try dsimp only
  refine Within.step (State.startRamp_within ..) rfl ?_
  refine Within.step (State.bump_within ..) rfl ?_
  refine Within.step (State.set_within ..) rfl ?_
  exact Within.refl _

theorem State.tryRamp_within (s x2 x3) : Within [.regs, .shadow, .out, .seed, .rt, .cmd, .link, .tun, .sw, .eng, .reg, .bridge, .media, .usb, .power, .pd, .ps, .sec, .mem, .recorder, .boot] s (@State.tryRamp s x2 x3) := by
  unfold State.tryRamp
  try dsimp only
  refine Within.ite (fun _ => ?_) (fun _ => ?_)
  · refine Within.step (State.startRamp_within ..) rfl ?_
    exact Within.refl _
  · exact Within.refl _

theorem State.trip_within (s x2 x3 x4) : Within [.regs, .shadow, .out, .seed, .rt, .cmd, .link, .tun, .sw, .eng, .reg, .bridge, .media, .usb, .power, .pd, .ps, .sec, .mem, .recorder, .boot] s (@State.trip s x2 x3 x4) := by
  unfold State.trip
  try dsimp only
  refine Within.ite (fun _ => ?_) (fun _ => ?_)
  · refine Within.step (State.setPath_within ..) rfl ?_
    refine Within.step (State.bump_within ..) rfl ?_
    refine Within.step (State.set_within ..) rfl ?_
    refine Within.step (State.bump_within ..) rfl ?_
    exact Within.refl _
  · refine Within.step (State.updPath_within ..) rfl ?_
    refine Within.step (State.set_within ..) rfl ?_
    refine Within.step (State.setPath_within ..) rfl ?_
    refine Within.step (State.set_within ..) rfl ?_
    refine Within.step (State.bump_within ..) rfl ?_
    exact Within.refl _

theorem execInputWindowExit_within (x1 x2 x3 s) : Within [.regs, .shadow, .out, .seed, .rt, .cmd, .link, .tun, .sw, .eng, .reg, .bridge, .media, .usb, .power, .pd, .ps, .sec, .mem, .recorder, .boot] s (after (@execInputWindowExit x1 x2 x3 s) s) := by
  unfold execInputWindowExit
  try dsimp only
  refine Within.of_next ?_
  refine Within.ite (fun _ => ?_) (fun _ => ?_)
  · refine Within.step (State.trip_within ..) rfl ?_
    refine Within.step (State.updPath_within ..) rfl ?_
    refine Within.step (State.bump_within ..) rfl ?_
    exact Within.refl _
  · refine Within.ite (fun _ => ?_) (fun _ => ?_)
    · refine Within.step (State.updPath_within ..) rfl ?_
      refine Within.step (State.bump_within ..) rfl ?_
      exact Within.refl _
    · refine Within.step (State.setPath_within ..) rfl ?_
      refine Within.step (State.updPath_within ..) rfl ?_
      refine Within.step (State.bump_within ..) rfl ?_
      exact Within.refl _

theorem execInputWindowEntry_within (x1 x2 s) : Within [.regs, .shadow, .out, .seed, .rt, .cmd, .link, .tun, .sw, .eng, .reg, .bridge, .media, .usb, .power, .pd, .ps, .sec, .mem, .recorder, .boot] s (after (@execInputWindowEntry x1 x2 s) s) := by
  unfold execInputWindowEntry
  try dsimp only
  refine Within.of_next ?_
  refine Within.ite (fun _ => ?_) (fun _ => ?_)
  · refine Within.step (State.retryRamp_within ..) rfl ?_
    refine Within.step (State.updPath_within ..) rfl ?_
    exact Within.refl _
  · refine Within.step (State.tryRamp_within ..) rfl ?_
    refine Within.step (State.updPath_within ..) rfl ?_
    exact Within.refl _

theorem State.writeEn_within (s x2 x3) : Within [.regs, .shadow, .out, .seed, .rt, .cmd, .link, .tun, .sw, .eng, .reg, .bridge, .media, .usb, .power, .pd, .ps, .sec, .mem, .recorder, .boot] s (@State.writeEn s x2 x3) := by
  unfold State.writeEn
  try dsimp only
  refine Within.ite (fun _ => ?_) (fun _ => ?_)
  · refine Within.step (State.tryRamp_within ..) rfl ?_
    refine Within.step (State.setFlag_within ..) rfl ?_
    exact Within.refl _
  · refine Within.ite (fun _ => ?_) (fun _ => ?_)
    · refine Within.step (State.setPath_within ..) rfl ?_
      refine Within.step (State.setFlag_within ..) rfl ?_
      exact Within.refl _
    · refine Within.step (State.setFlag_within ..) rfl ?_
      exact Within.refl _

theorem execPathEnWrite_within (x1 x2 s) : Within [.regs, .shadow, .out, .seed, .rt, .cmd, .link, .tun, .sw, .eng, .reg, .bridge, .media, .usb, .power, .pd, .ps, .sec, .mem, .recorder, .boot] s (after (@execPathEnWrite x1 x2 s) s) := by
  unfold execPathEnWrite
  try dsimp only
  refine Within.of_next ?_
  refine Within.ite (fun _ => ?_) (fun _ => ?_)
  · refine Within.step (State.emit_within ..) rfl ?_
    exact Within.refl _
  · refine Within.ite (fun _ => ?_) (fun _ => ?_)
    · refine Within.step (State.emit_within ..) rfl ?_
      exact Within.refl _
    · refine Within.step (State.emit_within ..) rfl ?_
      refine Within.step (State.writeEn_within ..) rfl ?_
      exact Within.refl _

theorem execRampComplete_within (x1 s) : Within [.regs, .shadow, .out, .seed, .rt, .cmd, .link, .tun, .sw, .eng, .reg, .bridge, .media, .usb, .power, .pd, .ps, .sec, .mem, .recorder, .boot] s (after (@execRampComplete x1 s) s) := by
  unfold execRampComplete
  try dsimp only
  refine Within.of_next ?_
  refine Within.ite (fun _ => ?_) (fun _ => ?_)
  · refine Within.step (State.rampDone_within ..) rfl ?_
    exact Within.refl _
  · exact Within.refl _

theorem execCurrentLimitEngage_within (x1 s) : Within [.regs, .power] s (after (@execCurrentLimitEngage x1 s) s) := by
  unfold execCurrentLimitEngage
  exact (Within.ite (fun _ => (Within.step (State.setFlag_within ..) rfl (Within.refl _))) (fun _ => (Within.ite (fun _ =>
    (Within.via (Within.ite (fun _ => (Within.refl _)) (fun _ => (Within.step (State.setFlag_within ..) rfl (Within.step
    (State.updPath_within ..) rfl (Within.refl _))))) (Within.step (State.setFlag_within ..) rfl (Within.refl _)))) (fun
    _ => (Within.refl _)))))

theorem execCurrentLimitRelease_within (x1 s) : Within [.regs, .shadow, .out, .seed, .rt, .cmd, .link, .tun, .sw, .eng, .reg, .bridge, .media, .usb, .pd, .ps, .sec, .mem, .recorder, .boot] s (after (@execCurrentLimitRelease x1 s) s) := by
  unfold execCurrentLimitRelease
  try dsimp only
  refine Within.of_next ?_
  refine Within.ite (fun _ => ?_) (fun _ => ?_)
  · refine Within.step (State.markGood_within ..) rfl ?_
    refine Within.step (State.setFlag_within ..) rfl ?_
    refine Within.step (State.setFlag_within ..) rfl ?_
    exact Within.refl _
  · refine Within.step (State.setFlag_within ..) rfl ?_
    exact Within.refl _

theorem execFaultTimerExpiry_within (x1 x2 s) : Within [.regs, .shadow, .out, .seed, .rt, .cmd, .link, .tun, .sw, .eng, .reg, .bridge, .media, .usb, .power, .pd, .ps, .sec, .mem, .recorder, .boot] s (after (@execFaultTimerExpiry x1 x2 s) s) := by
  unfold execFaultTimerExpiry
  try dsimp only
  refine Within.of_next ?_
  refine Within.ite (fun _ => ?_) (fun _ => ?_)
  · refine Within.step (State.trip_within ..) rfl ?_
    exact Within.refl _
  · exact Within.refl _

theorem execFastTrip_within (x1 x2 s) : Within [.regs, .shadow, .out, .seed, .rt, .cmd, .link, .tun, .sw, .eng, .reg, .bridge, .media, .usb, .power, .pd, .ps, .sec, .mem, .recorder, .boot] s (after (@execFastTrip x1 x2 s) s) := by
  unfold execFastTrip
  try dsimp only
  refine Within.of_next ?_
  refine Within.ite (fun _ => ?_) (fun _ => ?_)
  · refine Within.step (State.trip_within ..) rfl ?_
    exact Within.refl _
  · exact Within.refl _

theorem execReverseCurrent_within (x1 s) : Within [.regs, .shadow, .out, .seed, .rt, .cmd, .link, .tun, .sw, .eng, .reg, .bridge, .media, .usb, .power, .pd, .ps, .sec, .mem, .recorder, .boot] s (after (@execReverseCurrent x1 s) s) := by
  unfold execReverseCurrent
  try dsimp only
  refine Within.of_next ?_
  refine Within.ite (fun _ => ?_) (fun _ => ?_)
  · refine Within.step (State.setFlag_within ..) rfl ?_
    refine Within.step (State.setPath_within ..) rfl ?_
    refine Within.step (State.bump_within ..) rfl ?_
    exact Within.refl _
  · exact Within.refl _

theorem execBlockingRecovery_within (x1 x2 s) : Within [.regs, .shadow, .out, .seed, .rt, .cmd, .link, .tun, .sw, .eng, .reg, .bridge, .media, .usb, .power, .pd, .ps, .sec, .mem, .recorder, .boot] s (after (@execBlockingRecovery x1 x2 s) s) := by
  unfold execBlockingRecovery
  try dsimp only
  refine Within.of_next ?_
  refine Within.ite (fun _ => ?_) (fun _ => ?_)
  · refine Within.ite (fun _ => ?_) (fun _ => ?_)
    · refine Within.step (State.markGood_within ..) rfl ?_
      refine Within.step (State.setPath_within ..) rfl ?_
      exact Within.refl _
    · refine Within.step (State.startRamp_within ..) rfl ?_
      exact Within.refl _
  · exact Within.refl _

theorem execSwitchShort_within (x1 s) : Within [.regs, .shadow, .out, .seed, .rt, .cmd, .link, .tun, .sw, .eng, .reg, .bridge, .media, .usb, .power, .pd, .ps, .sec, .mem, .recorder, .boot] s (after (@execSwitchShort x1 s) s) := by
  unfold execSwitchShort
  try dsimp only
  refine Within.of_next ?_
  refine Within.ite (fun _ => ?_) (fun _ => ?_)
  · refine Within.step (State.setPath_within ..) rfl ?_
    refine Within.step (State.set_within ..) rfl ?_
    exact Within.refl _
  · exact Within.refl _

theorem execCoolDownEnd_within (x1 x2 s) : Within [.regs, .shadow, .out, .seed, .rt, .cmd, .link, .tun, .sw, .eng, .reg, .bridge, .media, .usb, .power, .pd, .ps, .sec, .mem, .recorder, .boot] s (after (@execCoolDownEnd x1 x2 s) s) := by
  unfold execCoolDownEnd
  try dsimp only
  refine Within.of_next ?_
  refine Within.ite (fun _ => ?_) (fun _ => ?_)
  · refine Within.step (State.retryRamp_within ..) rfl ?_
    exact Within.refl _
  · exact Within.refl _

theorem execRetryCountReset_within (x1 s) : Within [.regs] s (after (@execRetryCountReset x1 s) s) := by
  unfold execRetryCountReset
  exact (Within.ite (fun _ => (Within.step (State.set_within ..) rfl (Within.refl _))) (fun _ => (Within.refl _)))

theorem execLatchRelease_within (x1 s) : Within [.regs, .shadow, .out, .seed, .rt, .cmd, .link, .tun, .sw, .eng, .reg, .bridge, .media, .usb, .power, .pd, .ps, .sec, .mem, .recorder, .boot] s (after (@execLatchRelease x1 s) s) := by
  unfold execLatchRelease
  try dsimp only
  refine Within.of_next ?_
  refine Within.ite (fun _ => ?_) (fun _ => ?_)
  · refine Within.step (State.setPath_within ..) rfl ?_
    exact Within.refl _
  · exact Within.refl _

theorem execBusGoodChange_within (x1 s) : Within [.regs, .shadow, .out, .seed, .rt, .cmd, .link, .tun, .sw, .eng, .reg, .bridge, .media, .usb, .power, .pd, .ps, .sec, .mem, .recorder, .boot] s (after (@execBusGoodChange x1 s) s) := by
  unfold execBusGoodChange
  try dsimp only
  refine Within.of_next ?_
  refine Within.step (State.syncPg_within ..) rfl ?_
  refine Within.step (State.setPower_within ..) rfl ?_
  exact Within.refl _

theorem State.setPfw_within (s x2) : Within [.regs, .out, .cmd, .eng] s (@State.setPfw s x2) := by
  unfold State.setPfw
  try dsimp only
  refine Within.step (State.notice_within ..) rfl ?_
  refine Within.step (State.holdRegistered_within ..) rfl ?_
  refine Within.step (State.setFlag_within ..) rfl ?_
  refine Within.step (State.setFlag_within ..) rfl ?_
  exact Within.refl _

theorem execPowerFailWarning_within (s) : Within [.regs, .out, .rt, .cmd, .eng, .power, .pd, .mem, .recorder] s (after (@execPowerFailWarning s) s) := by
  unfold execPowerFailWarning
  try dsimp only
  refine Within.of_next ?_
  refine Within.ite (fun _ => ?_) (fun _ => ?_)
  · exact Within.refl _
  · refine Within.step (State.autoThaw_within ..) rfl ?_
    refine State.when_within (fun _ => ?_) ?_
    · refine Within.step (State.storeRound_within ..) rfl ?_
      exact Within.refl _
    · refine Within.step (State.storeEnergy_within ..) rfl ?_
      refine Within.pd rfl ?_
      refine forAll_within (fun _ _ => ?_) ?_
      · refine Within.step (State.emit_within ..) rfl ?_
        exact Within.refl _
      · refine Within.step (State.setPfw_within ..) rfl ?_
        refine Within.step (State.bump_within ..) rfl ?_
        exact Within.refl _

theorem execPfwRelease_within (s) : Within [.regs, .out, .cmd, .eng] s (after (@execPfwRelease s) s) := by
  unfold execPfwRelease
  try dsimp only
  refine Within.of_next ?_
  refine Within.ite (fun _ => ?_) (fun _ => ?_)
  · refine forAll_within (fun _ _ => ?_) ?_
    · refine Within.ite (fun _ => ?_) (fun _ => ?_)
      · refine Within.step (State.emit_within ..) rfl ?_
        exact Within.refl _
      · exact Within.refl _
    · refine Within.step (State.setPfw_within ..) rfl ?_
      exact Within.refl _
  · exact Within.refl _

theorem execUndervoltageTrip_within (s) : Within [.regs, .shadow, .out, .seed, .rt, .cmd, .link, .tun, .sw, .eng, .reg, .bridge, .media, .usb, .power, .pd, .ps, .sec, .mem, .recorder, .boot] s (after (@execUndervoltageTrip s) s) := by
  unfold execUndervoltageTrip
  try dsimp only
  refine Within.of_next ?_
  refine Within.ite (fun _ => ?_) (fun _ => ?_)
  · exact Within.refl _
  · refine Within.step (State.removeCore_within ..) rfl ?_
    refine Within.step (State.set_within ..) rfl ?_
    refine Within.step (State.setFlag_within ..) rfl ?_
    refine Within.step (State.bump_within ..) rfl ?_
    refine Within.step (State.syncPg_within ..) rfl ?_
    refine Within.step (State.setPower_within ..) rfl ?_
    exact Within.refl _

theorem State.tick_within (s) : Within [.regs, .boot] s (@State.tick s) := by
  unfold State.tick
  exact (forAll_within (fun _ _ => (Within.ite (fun _ => (Within.step (State.set_within ..) rfl (Within.refl _))) (fun _ =>
    (Within.refl _)))) (Within.step (State.setBoot_within ..) rfl (Within.refl _)))

theorem State.samplePath_within (s x2 x3 x4 x5 x6) : Within [.regs, .power] s (@State.samplePath s x2 x3 x4 x5 x6) := by
  unfold State.samplePath
  exact (Within.step (State.set_within ..) rfl (State.when_within (fun _ => (Within.step (State.updPath_within ..) rfl
    (Within.refl _))) (State.when_within (fun _ => (Within.step (State.bump_within ..) rfl (Within.refl _)))
    (Within.step (State.setS_within ..) rfl (Within.step (State.setFlag_within ..) rfl (Within.step
    (State.setFlag_within ..) rfl (Within.step (State.setFlag_within ..) rfl (Within.step (State.set_within ..) rfl
    (Within.step (State.set_within ..) rfl (Within.refl _))))))))))

theorem State.powerSample_within (s x2 x3) : Within [.regs, .power] s (@State.powerSample s x2 x3) := by
  unfold State.powerSample
  exact (forAll_within (fun _ _ => (Within.step (State.set_within ..) rfl (Within.step (State.set_within ..) rfl (Within.refl
    _)))) (Within.ite (fun _ => (Within.step (State.set_within ..) rfl (Within.step (State.set_within ..) rfl
    (Within.step (State.samplePath_within ..) rfl (Within.step (State.samplePath_within ..) rfl (Within.refl _))))))
    (fun _ => (Within.step (State.set_within ..) rfl (Within.step (State.setFlag_within ..) rfl (Within.step
    (State.setFlag_within ..) rfl (Within.refl _)))))))

theorem State.samplePower_within (s) : Within [.recorder] s (@State.samplePower s) := by
  unfold State.samplePower
  try dsimp only
  refine Within.ite (fun _ => ?_) (fun _ => ?_)
  · exact Within.refl _
  · refine Within.step (State.sampleSource_within ..) rfl ?_
    refine Within.step (State.sampleSource_within ..) rfl ?_
    refine Within.step (State.sampleSource_within ..) rfl ?_
    refine Within.step (State.sampleSource_within ..) rfl ?_
    exact Within.refl _

theorem State.readTemps_within (s x2 x3) : Within [.regs, .recorder] s (@State.readTemps s x2 x3) := by
  unfold State.readTemps
  try dsimp only
  refine Within.step (State.sampleSource_within ..) rfl ?_
  refine Within.step (State.sampleSource_within ..) rfl ?_
  refine Within.step (State.set_within ..) rfl ?_
  refine Within.step (State.set_within ..) rfl ?_
  exact Within.refl _

theorem State.sampleRound_within (s) : Within [.recorder] s (@State.sampleRound s) := by
  unfold State.sampleRound
  try dsimp only
  refine Within.step (State.sampleSource_within ..) rfl ?_
  refine Within.step (State.sampleSource_within ..) rfl ?_
  exact Within.refl _

theorem execKeeperSample_within (x1 s) : Within [.regs, .power, .recorder, .boot] s (after (@execKeeperSample x1 s) s) := by
  unfold execKeeperSample
  try dsimp only
  refine Within.of_next ?_
  refine Within.ite (fun _ => ?_) (fun _ => ?_)
  · refine Within.step (State.samplePower_within ..) rfl ?_
    refine Within.step (State.powerSample_within ..) rfl ?_
    refine Within.step (State.tick_within ..) rfl ?_
    exact Within.refl _
  · exact Within.refl _

theorem execEnergyLoRead_within (x1 s) : Within [.regs, .out] s (after (@execEnergyLoRead x1 s) s) := by
  unfold execEnergyLoRead
  exact (Within.step (State.emit_within ..) rfl (Within.step (State.set_within ..) rfl (Within.refl _)))

theorem execKpLinkDown_within (s) : Within [.regs, .out, .cmd, .eng] s (after (@execKpLinkDown s) s) := by
  unfold execKpLinkDown
  try dsimp only
  refine Within.of_next ?_
  refine Within.ite (fun _ => ?_) (fun _ => ?_)
  · exact Within.refl _
  · refine Within.step (State.faultSeen_within ..) rfl ?_
    refine Within.step (State.set_within ..) rfl ?_
    refine Within.step (State.setFlag_within ..) rfl ?_
    refine Within.step (State.setFlag_within ..) rfl ?_
    refine Within.step (State.setFlag_within ..) rfl ?_
    refine Within.step (State.setFlag_within ..) rfl ?_
    exact Within.refl _

theorem State.resumePath_within (s x2) : Within [.regs, .shadow, .out, .seed, .rt, .cmd, .link, .tun, .sw, .eng, .reg, .bridge, .media, .usb, .power, .pd, .ps, .sec, .mem, .recorder, .boot] s (@State.resumePath s x2) := by
  unfold State.resumePath
  try dsimp only
  refine Within.ite (fun _ => ?_) (fun _ => ?_)
  · refine Within.step (State.setPath_within ..) rfl ?_
    exact Within.refl _
  · refine Within.ite (fun _ => ?_) (fun _ => ?_)
    · refine Within.step (State.setPath_within ..) rfl ?_
      exact Within.refl _
    · refine Within.ite (fun _ => ?_) (fun _ => ?_)
      · refine Within.step (State.retryRamp_within ..) rfl ?_
        exact Within.refl _
      · refine Within.step (State.tryRamp_within ..) rfl ?_
        exact Within.refl _

theorem execKpLinkUp_within (s) : Within [.regs, .shadow, .out, .seed, .rt, .cmd, .link, .tun, .sw, .eng, .reg, .bridge, .media, .usb, .power, .pd, .ps, .sec, .mem, .recorder, .boot] s (after (@execKpLinkUp s) s) := by
  unfold execKpLinkUp
  try dsimp only
  refine Within.of_next ?_
  refine Within.ite (fun _ => ?_) (fun _ => ?_)
  · exact Within.refl _
  · refine forAll_within (fun _ _ => ?_) ?_
    · refine Within.step (State.resumePath_within ..) rfl ?_
      exact Within.refl _
    · refine Within.step (State.setFlag_within ..) rfl ?_
      exact Within.refl _

theorem execPwrinStatus_within (x1 s) : Within [.regs, .out, .cmd, .eng, .ps, .mem] s (after (@execPwrinStatus x1 s) s) := by
  unfold execPwrinStatus
  try dsimp only
  refine Within.of_next ?_
  refine State.runOpcode_keeps rfl (fun _ _ => ?_) ?_
  · dsimp only
    exact Within.refl _
  · exact Within.refl _

theorem execPwrinRetryClear_within (x1 x2 s) : Within [.regs, .shadow, .out, .seed, .rt, .cmd, .link, .tun, .sw, .eng, .reg, .bridge, .media, .usb, .power, .pd, .ps, .sec, .mem, .recorder, .boot] s (after (@execPwrinRetryClear x1 x2 s) s) := by
  unfold execPwrinRetryClear
  try dsimp only
  refine Within.of_next ?_
  refine State.runOpcode_keeps rfl (fun _ _ => ?_) ?_
  · refine Within.ite_fst (fun _ => ?_) (fun _ => ?_)
    · dsimp only
      exact Within.refl _
    · refine Within.ite_fst (fun _ => ?_) (fun _ => ?_)
      · dsimp only
        exact Within.refl _
      · dsimp only
        refine Within.step (State.tryRamp_within ..) rfl ?_
        refine Within.step (State.set_within ..) rfl ?_
        refine Within.step (State.setPath_within ..) rfl ?_
        exact Within.refl _
  · exact Within.refl _

end Machine
end Sys2Proof
end

