-- ==== Sys2Proof/Laws/FramePd.lean ====
section
/-!
SUPPORT. The frame of every operation of Machine/Pd.lean: the parts of the state it may change.
-/
namespace Sys2Proof
namespace Machine

theorem State.pdEvent_within (s x2 x3) : Within [.regs, .out, .cmd, .eng] s (@State.pdEvent s x2 x3) := by
  unfold State.pdEvent
  try dsimp only
  refine Within.step (State.notice_within ..) rfl ?_
  exact Within.refl _

theorem State.pdSend_within (s x2 x3 x4) : Within [.out] s (@State.pdSend s x2 x3 x4) := by
  unfold State.pdSend
  try dsimp only
  refine Within.step (State.emit_within ..) rfl ?_
  exact Within.refl _

theorem State.showAlloc_within (s x2) : Within [.regs] s (@State.showAlloc s x2) := by
  unfold State.showAlloc
  exact (Within.step (State.set_within ..) rfl (Within.refl _))

theorem State.withAlloc_keeps {P : List Part} {r s : State} {n : Nat} {f : State → State}
    (hP : sub [.regs, .pd] P = true) (hf : ∀ s, Within P s (f s)) (h : Within P r s) : Within P r (s.withAlloc n f) := by
  have h1 : Within P r ((f s).showAlloc n) :=
    Within.step (Within.step (P := [.regs, .pd]) (State.showAlloc_within ..) rfl (Within.refl _)) hP (Within.via (hf s) h)
  unfold State.withAlloc
  exact Within.ite (fun _ => Within.step (Within.pd (P := [.regs, .pd]) rfl (Within.refl _)) hP h1) (fun _ => h1)

theorem State.makeOffer_within (s x2 x3) : Within [.regs, .out, .pd] s (@State.makeOffer s x2 x3) := by
  unfold State.makeOffer
  exact (Within.step (State.pdSend_within ..) rfl (Within.step (State.setFlag_within ..) rfl (State.withAlloc_keeps rfl (fun _
    => (Within.step (State.updPd_within ..) rfl (Within.refl _))) (Within.refl _))))

theorem State.vbusOn_within (s x2 x3) : Within [.out] s (@State.vbusOn s x2 x3) := by
  unfold State.vbusOn
  exact (Within.ite (fun _ => (Within.step (State.emit_within ..) rfl (Within.refl _))) (fun _ => (Within.step
    (State.emit_within ..) rfl (Within.refl _))))

theorem State.vbusOff_within (s x2) : Within [.out] s (@State.vbusOff s x2) := by
  unfold State.vbusOff
  exact (Within.step (State.emit_within ..) rfl (Within.refl _))

theorem State.endContract_within (s x2) : Within [.regs, .pd] s (@State.endContract s x2) := by
  unfold State.endContract
  exact (Within.step (State.updPd_within ..) rfl (Within.step (State.set_within ..) rfl (Within.step (State.set_within ..) rfl
    (Within.step (State.setFlag_within ..) rfl (Within.refl _)))))

theorem State.makeContract_within (s x2 x3 x4) : Within [.regs, .out, .cmd, .eng] s (@State.makeContract s x2 x3 x4) := by
  unfold State.makeContract
  try dsimp only
  refine Within.step (State.pdEvent_within ..) rfl ?_
  refine Within.step (State.set_within ..) rfl ?_
  refine Within.step (State.set_within ..) rfl ?_
  refine Within.step (State.setFlag_within ..) rfl ?_
  exact Within.refl _

theorem State.endPdSwap_within (s x2 x3) : Within [.regs, .out, .cmd, .eng, .pd] s (@State.endPdSwap s x2 x3) := by
  unfold State.endPdSwap
  try dsimp only
  refine Within.step (State.finishWaiters_within ..) rfl ?_
  refine Within.step (State.setFlag_within ..) rfl ?_
  refine Within.step (State.updPd_within ..) rfl ?_
  exact Within.refl _

theorem State.abortSwap_within (s x2 x3) : Within [.regs, .out, .cmd, .eng, .pd] s (@State.abortSwap s x2 x3) := by
  unfold State.abortSwap
  try dsimp only
  split
  · refine Within.step (State.endPdSwap_within ..) rfl ?_
    refine Within.step (State.setFlag_within ..) rfl ?_
    exact Within.refl _
  · exact Within.refl _

theorem State.leavePort_within (s x2 x3) : Within [.regs, .out, .cmd, .eng, .usb, .pd, .ps] s (@State.leavePort s x2 x3) := by
  unfold State.leavePort
  try dsimp only
  refine State.withAlloc_keeps rfl (fun _ => ?_) ?_
  · refine Within.step (State.updPd_within ..) rfl ?_
    refine Within.step (State.set_within ..) rfl ?_
    exact Within.refl _
  · refine Within.step (State.setFlag_within ..) rfl ?_
    refine State.when_within (fun _ => ?_) ?_
    · refine Within.step (State.vbusOff_within ..) rfl ?_
      refine Within.step (State.setFlag_within ..) rfl ?_
      exact Within.refl _
    · refine Within.ite (fun _ => ?_) (fun _ => ?_)
      · refine Within.step (State.svcDetach_within ..) rfl ?_
        refine Within.step (State.endContract_within ..) rfl ?_
        refine Within.step (State.abortSwap_within ..) rfl ?_
        exact Within.refl _
      · refine Within.step (State.usbDetaches_within ..) rfl ?_
        refine Within.step (State.endContract_within ..) rfl ?_
        refine Within.step (State.abortSwap_within ..) rfl ?_
        exact Within.refl _

theorem execTypecAttach_within (x1 x2 x3 s) : Within [.regs, .out, .cmd, .eng, .pd, .ps] s (after (@execTypecAttach x1 x2 x3 s) s) := by
  unfold execTypecAttach
  try dsimp only
  refine Within.of_next ?_
  refine Within.ite (fun _ => ?_) (fun _ => ?_)
  · exact Within.refl _
  · refine Within.ite (fun _ => ?_) (fun _ => ?_)
    · refine Within.step (State.activity_within ..) rfl ?_
      refine Within.step (State.pdEvent_within ..) rfl ?_
      refine Within.step (State.updPd_within ..) rfl ?_
      refine Within.step (State.set_within ..) rfl ?_
      refine Within.step (State.set_within ..) rfl ?_
      exact Within.refl _
    · refine Within.ite (fun _ => ?_) (fun _ => ?_)
      · exact Within.refl _
      · refine Within.step (State.activity_within ..) rfl ?_
        refine Within.step (State.pdEvent_within ..) rfl ?_
        refine Within.step (State.makeOffer_within ..) rfl ?_
        refine Within.step (State.vbusOn_within ..) rfl ?_
        refine Within.step (State.setFlag_within ..) rfl ?_
        refine Within.step (State.setFlag_within ..) rfl ?_
        refine Within.step (State.set_within ..) rfl ?_
        exact Within.refl _

theorem execTypecDetach_within (x1 s) : Within [.regs, .shadow, .out, .rt, .cmd, .link, .tun, .sw, .eng, .reg, .bridge, .media, .usb, .pd, .ps, .mem] s (after (@execTypecDetach x1 s) s) := by
  unfold execTypecDetach
  try dsimp only
  refine Within.of_next ?_
  refine Within.ite (fun _ => ?_) (fun _ => ?_)
  · exact Within.refl _
  · refine Within.step (State.activity_within ..) rfl ?_
    refine Within.step (State.pdEvent_within ..) rfl ?_
    refine State.when_within (fun _ => ?_) ?_
    · refine Within.step (State.dropCore_within ..) rfl ?_
      refine Within.step (State.setFlag_within ..) rfl ?_
      refine Within.step (State.setFlag_within ..) rfl ?_
      exact Within.refl _
    · refine Within.step (State.set_within ..) rfl ?_
      refine Within.step (State.leavePort_within ..) rfl ?_
      exact Within.refl _

theorem State.recoverPort_within (s x2) : Within [.regs, .out, .cmd, .eng, .usb, .pd, .ps] s (@State.recoverPort s x2) := by
  unfold State.recoverPort
  try dsimp only
  refine Within.step (State.updPd_within ..) rfl ?_
  refine Within.step (State.leavePort_within ..) rfl ?_
  exact Within.refl _

theorem State.hardReset_within (s x2 x3) : Within [.regs, .out, .cmd, .eng, .usb, .pd, .ps] s (@State.hardReset s x2 x3) := by
  unfold State.hardReset
  try dsimp only
  refine Within.ite (fun _ => ?_) (fun _ => ?_)
  · refine Within.step (State.recoverPort_within ..) rfl ?_
    refine Within.step (State.updPd_within ..) rfl ?_
    refine Within.step (State.pdEvent_within ..) rfl ?_
    refine Within.step (State.endContract_within ..) rfl ?_
    refine Within.step (State.abortSwap_within ..) rfl ?_
    refine State.when_within (fun _ => ?_) ?_
    · refine Within.step (State.pdSend_within ..) rfl ?_
      exact Within.refl _
    · refine Within.step (State.bump_within ..) rfl ?_
      exact Within.refl _
  · refine Within.ite (fun _ => ?_) (fun _ => ?_)
    · refine Within.step (State.makeOffer_within ..) rfl ?_
      refine Within.step (State.vbusOn_within ..) rfl ?_
      refine Within.step (State.vbusOff_within ..) rfl ?_
      refine Within.step (State.set_within ..) rfl ?_
      refine Within.step (State.updPd_within ..) rfl ?_
      refine Within.step (State.pdEvent_within ..) rfl ?_
      refine Within.step (State.endContract_within ..) rfl ?_
      refine Within.step (State.abortSwap_within ..) rfl ?_
      refine State.when_within (fun _ => ?_) ?_
      · refine Within.step (State.pdSend_within ..) rfl ?_
        exact Within.refl _
      · refine Within.step (State.bump_within ..) rfl ?_
        exact Within.refl _
    · refine Within.step (State.updPd_within ..) rfl ?_
      refine Within.step (State.pdEvent_within ..) rfl ?_
      refine Within.step (State.endContract_within ..) rfl ?_
      refine Within.step (State.abortSwap_within ..) rfl ?_
      refine State.when_within (fun _ => ?_) ?_
      · refine Within.step (State.pdSend_within ..) rfl ?_
        exact Within.refl _
      · refine Within.step (State.bump_within ..) rfl ?_
        exact Within.refl _

/-- What taking a PD message adds to what the message does. -/
theorem State.pdReceive_keeps {P : List Part} {r s : State} {m : PdMsg} {f : State → State}
    (hP : sub [.regs, .out, .pd] P = true) (hf : ∀ s, Within P s (f s)) (h : Within P r s) : Within P r (s.pdReceive m f) := by
  have sent : Within [.regs, .out, .pd] s (s.pdSend m.port.val "GoodCRC") := Within.step (State.pdSend_within ..) rfl (Within.refl _)
  unfold State.pdReceive
  exact Within.ite (fun _ => h) (fun _ => Within.ite
    (fun _ => Within.step (Within.step (P := [.regs, .out, .pd]) (State.bump_within ..) rfl (Within.refl _)) hP h)
    (fun _ => Within.ite (fun _ => Within.step (Within.step (P := [.regs, .out, .pd]) (State.bump_within ..) rfl sent) hP h)
      (fun _ => Within.via (hf _) (Within.step (Within.step (P := [.regs, .out, .pd]) (State.updPd_within ..) rfl sent) hP h))))

theorem execOfferRequestTimeout_within (x1 s) : Within [.regs, .out, .cmd, .eng, .usb, .pd, .ps] s (after (@execOfferRequestTimeout x1 s) s) := by
  unfold execOfferRequestTimeout
  try dsimp only
  refine Within.of_next ?_
  refine Within.ite (fun _ => ?_) (fun _ => ?_)
  · refine Within.step (State.hardReset_within ..) rfl ?_
    exact Within.refl _
  · exact Within.refl _

theorem execPdBudgetWrite_within (x1 x2 s) : Within [.shadow, .out] s (after (@execPdBudgetWrite x1 x2 s) s) := by
  unfold execPdBudgetWrite
  try dsimp only
  refine Within.of_next ?_
  refine Within.ite (fun _ => ?_) (fun _ => ?_)
  · refine Within.step (State.emit_within ..) rfl ?_
    exact Within.refl _
  · refine Within.ite (fun _ => ?_) (fun _ => ?_)
    · refine Within.step (State.emit_within ..) rfl ?_
      exact Within.refl _
    · refine Within.step (State.emit_within ..) rfl ?_
      refine Within.step (State.shadowWrite_within ..) rfl ?_
      exact Within.refl _

theorem execRequest_within (x1 x2 x3 s) : Within [.regs, .out, .cmd, .eng, .pd] s (after (@execRequest x1 x2 x3 s) s) := by
  unfold execRequest
  try dsimp only
  refine Within.of_next ?_
  refine State.pdReceive_keeps rfl (fun _ => ?_) ?_
  · refine Within.ite (fun _ => ?_) (fun _ => ?_)
    · refine Within.step (State.pdSend_within ..) rfl ?_
      exact Within.refl _
    · split
      · refine Within.ite (fun _ => ?_) (fun _ => ?_)
        · refine Within.step (State.pdSend_within ..) rfl ?_
          exact Within.refl _
        · refine Within.ite (fun _ => ?_) (fun _ => ?_)
          · refine Within.step (State.makeContract_within ..) rfl ?_
            refine Within.step (State.pdSend_within ..) rfl ?_
            refine Within.step (State.pdSend_within ..) rfl ?_
            refine Within.step (State.updPd_within ..) rfl ?_
            exact Within.refl _
          · refine Within.step (State.vbusOn_within ..) rfl ?_
            refine Within.step (State.updPd_within ..) rfl ?_
            refine Within.step (State.pdSend_within ..) rfl ?_
            refine Within.step (State.updPd_within ..) rfl ?_
            exact Within.refl _
      · refine Within.step (State.pdSend_within ..) rfl ?_
        exact Within.refl _
  · exact Within.refl _

theorem State.sinkRequests_within (s x2) : Within [.out] s (@State.sinkRequests s x2) := by
  unfold State.sinkRequests
  try dsimp only
  refine Within.step (State.pdSend_within ..) rfl ?_
  exact Within.refl _

theorem execSourceCapabilities_within (x1 x2 x3 s) : Within [.regs, .out, .pd] s (after (@execSourceCapabilities x1 x2 x3 s) s) := by
  unfold execSourceCapabilities
  try dsimp only
  refine Within.of_next ?_
  refine State.pdReceive_keeps rfl (fun _ => ?_) ?_
  · refine Within.ite (fun _ => ?_) (fun _ => ?_)
    · refine Within.step (State.updPd_within ..) rfl ?_
      exact Within.refl _
    · refine Within.step (State.sinkRequests_within ..) rfl ?_
      refine Within.step (State.updPd_within ..) rfl ?_
      exact Within.refl _
  · exact Within.refl _

theorem execGetSourceCap_within (x1 s) : Within [.regs, .out, .pd] s (after (@execGetSourceCap x1 s) s) := by
  unfold execGetSourceCap
  try dsimp only
  refine Within.of_next ?_
  refine State.pdReceive_keeps rfl (fun _ => ?_) ?_
  · refine Within.ite (fun _ => ?_) (fun _ => ?_)
    · refine Within.step (State.pdSend_within ..) rfl ?_
      exact Within.refl _
    · refine Within.step (State.pdSend_within ..) rfl ?_
      exact Within.refl _
  · exact Within.refl _

theorem execGetSinkCap_within (x1 s) : Within [.regs, .out, .pd] s (after (@execGetSinkCap x1 s) s) := by
  unfold execGetSinkCap
  try dsimp only
  refine Within.of_next ?_
  refine State.pdReceive_keeps rfl (fun _ => ?_) ?_
  · refine Within.step (State.pdSend_within ..) rfl ?_
    exact Within.refl _
  · exact Within.refl _

theorem State.acceptSwap_within (s x2 x3) : Within [.regs, .out, .pd] s (@State.acceptSwap s x2 x3) := by
  unfold State.acceptSwap
  exact (Within.via (Within.ite (fun _ => (Within.step (State.pdSend_within ..) rfl (Within.step (State.vbusOff_within ..) rfl
    (Within.refl _)))) (fun _ => (Within.refl _))) (Within.step (State.setFlag_within ..) rfl (Within.step
    (State.updPd_within ..) rfl (Within.refl _))))

theorem State.refusePdSwap_within (s x2 x3) : Within [.regs, .out, .cmd, .eng] s (@State.refusePdSwap s x2 x3) := by
  unfold State.refusePdSwap
  try dsimp only
  refine Within.step (State.pdEvent_within ..) rfl ?_
  refine Within.step (State.bump_within ..) rfl ?_
  refine Within.step (State.pdSend_within ..) rfl ?_
  exact Within.refl _

theorem execPrSwap_within (x1 s) : Within [.regs, .out, .cmd, .eng, .pd] s (after (@execPrSwap x1 s) s) := by
  unfold execPrSwap
  try dsimp only
  refine Within.of_next ?_
  refine State.pdReceive_keeps rfl (fun _ => ?_) ?_
  · refine Within.ite (fun _ => ?_) (fun _ => ?_)
    · refine Within.step (State.pdSend_within ..) rfl ?_
      exact Within.refl _
    · split
      · refine Within.ite (fun _ => ?_) (fun _ => ?_)
        · exact Within.refl _
        · refine Within.ite (fun _ => ?_) (fun _ => ?_)
          · refine Within.step (State.pdSend_within ..) rfl ?_
            exact Within.refl _
          · refine Within.step (State.acceptSwap_within ..) rfl ?_
            refine Within.step (State.pdSend_within ..) rfl ?_
            exact Within.refl _
      · refine Within.ite (fun _ => ?_) (fun _ => ?_)
        · refine Within.ite (fun _ => ?_) (fun _ => ?_)
          · refine Within.step (State.acceptSwap_within ..) rfl ?_
            refine Within.step (State.pdSend_within ..) rfl ?_
            exact Within.refl _
          · refine Within.step (State.refusePdSwap_within ..) rfl ?_
            exact Within.refl _
        · refine Within.ite (fun _ => ?_) (fun _ => ?_)
          · refine Within.ite (fun _ => ?_) (fun _ => ?_)
            · refine Within.step (State.acceptSwap_within ..) rfl ?_
              refine Within.step (State.pdSend_within ..) rfl ?_
              exact Within.refl _
            · refine Within.step (State.refusePdSwap_within ..) rfl ?_
              exact Within.refl _
          · refine Within.step (State.refusePdSwap_within ..) rfl ?_
            exact Within.refl _
  · exact Within.refl _

theorem execDrSwap_within (x1 s) : Within [.regs, .out, .pd] s (after (@execDrSwap x1 s) s) := by
  unfold execDrSwap
  try dsimp only
  refine Within.of_next ?_
  refine State.pdReceive_keeps rfl (fun _ => ?_) ?_
  · refine Within.step (State.pdSend_within ..) rfl ?_
    exact Within.refl _
  · exact Within.refl _

theorem execVconnSwap_within (x1 s) : Within [.regs, .out, .pd] s (after (@execVconnSwap x1 s) s) := by
  unfold execVconnSwap
  try dsimp only
  refine Within.of_next ?_
  refine State.pdReceive_keeps rfl (fun _ => ?_) ?_
  · refine Within.step (State.pdSend_within ..) rfl ?_
    exact Within.refl _
  · exact Within.refl _

theorem execUnlistedPdMessage_within (x1 s) : Within [.regs, .out, .pd] s (after (@execUnlistedPdMessage x1 s) s) := by
  unfold execUnlistedPdMessage
  try dsimp only
  refine Within.of_next ?_
  refine State.pdReceive_keeps rfl (fun _ => ?_) ?_
  · refine Within.step (State.pdSend_within ..) rfl ?_
    exact Within.refl _
  · exact Within.refl _

theorem State.pdLayerReset_within (s x2) : Within [.pd] s (@State.pdLayerReset s x2) := by
  unfold State.pdLayerReset
  try dsimp only
  refine Within.step (State.updPd_within ..) rfl ?_
  exact Within.refl _

theorem execSoftReset_within (x1 s) : Within [.regs, .out, .pd] s (after (@execSoftReset x1 s) s) := by
  unfold execSoftReset
  try dsimp only
  refine Within.of_next ?_
  refine State.pdReceive_keeps rfl (fun _ => ?_) ?_
  · refine Within.ite (fun _ => ?_) (fun _ => ?_)
    · refine Within.step (State.makeOffer_within ..) rfl ?_
      refine Within.step (State.pdSend_within ..) rfl ?_
      refine Within.step (State.bump_within ..) rfl ?_
      exact Within.refl _
    · refine Within.step (State.pdSend_within ..) rfl ?_
      refine Within.step (State.bump_within ..) rfl ?_
      exact Within.refl _
  · refine State.when_within (fun _ => ?_) ?_
    · refine Within.step (State.pdLayerReset_within ..) rfl ?_
      exact Within.refl _
    · exact Within.refl _

theorem execHardReset_within (x1 s) : Within [.regs, .out, .cmd, .eng, .usb, .pd, .ps] s (after (@execHardReset x1 s) s) := by
  unfold execHardReset
  try dsimp only
  refine Within.of_next ?_
  refine Within.ite (fun _ => ?_) (fun _ => ?_)
  · refine Within.step (State.hardReset_within ..) rfl ?_
    exact Within.refl _
  · exact Within.refl _

theorem State.swapDone_within (s x2 x3) : Within [.regs, .out, .cmd, .eng, .pd] s (@State.swapDone s x2 x3) := by
  unfold State.swapDone
  try dsimp only
  refine Within.step (State.pdEvent_within ..) rfl ?_
  refine Within.step (State.endPdSwap_within ..) rfl ?_
  refine Within.step (State.bump_within ..) rfl ?_
  refine Within.ite (fun _ => ?_) (fun _ => ?_)
  · refine State.withAlloc_keeps rfl (fun _ => ?_) ?_
    · refine Within.step (State.updPd_within ..) rfl ?_
      refine Within.step (State.set_within ..) rfl ?_
      refine Within.step (State.setFlag_within ..) rfl ?_
      exact Within.refl _
    · refine Within.step (State.endContract_within ..) rfl ?_
      exact Within.refl _
  · refine Within.step (State.makeOffer_within ..) rfl ?_
    refine Within.step (State.pdSend_within ..) rfl ?_
    refine Within.step (State.vbusOn_within ..) rfl ?_
    refine Within.step (State.set_within ..) rfl ?_
    refine Within.step (State.setFlag_within ..) rfl ?_
    refine Within.step (State.endContract_within ..) rfl ?_
    exact Within.refl _

theorem execPsRdy_within (x1 s) : Within [.regs, .out, .cmd, .eng, .pd] s (after (@execPsRdy x1 s) s) := by
  unfold execPsRdy
  try dsimp only
  refine Within.of_next ?_
  refine State.pdReceive_keeps rfl (fun _ => ?_) ?_
  · split
    · refine Within.ite (fun _ => ?_) (fun _ => ?_)
      · refine Within.step (State.swapDone_within ..) rfl ?_
        exact Within.refl _
      · exact Within.refl _
    · refine Within.ite (fun _ => ?_) (fun _ => ?_)
      · exact Within.refl _
      · refine Within.step (State.makeContract_within ..) rfl ?_
        exact Within.refl _
  · exact Within.refl _

theorem execSwapAnswer_within (x1 x2 s) : Within [.regs, .out, .cmd, .eng, .pd] s (after (@execSwapAnswer x1 x2 s) s) := by
  unfold execSwapAnswer
  try dsimp only
  refine Within.of_next ?_
  refine State.pdReceive_keeps rfl (fun _ => ?_) ?_
  · split
    · refine Within.ite (fun _ => ?_) (fun _ => ?_)
      · exact Within.refl _
      · refine Within.ite (fun _ => ?_) (fun _ => ?_)
        · refine Within.step (State.acceptSwap_within ..) rfl ?_
          exact Within.refl _
        · refine Within.step (State.pdEvent_within ..) rfl ?_
          refine Within.step (State.endPdSwap_within ..) rfl ?_
          refine Within.step (State.bump_within ..) rfl ?_
          exact Within.refl _
    · exact Within.refl _
  · exact Within.refl _

theorem execPdTimerExpiry_within (x1 s) : Within [.regs, .out, .cmd, .eng, .usb, .pd, .ps] s (after (@execPdTimerExpiry x1 s) s) := by
  unfold execPdTimerExpiry
  try dsimp only
  refine Within.of_next ?_
  refine Within.ite (fun _ => ?_) (fun _ => ?_)
  · exact Within.refl _
  · refine Within.ite (fun _ => ?_) (fun _ => ?_)
    · refine Within.step (State.pdSend_within ..) rfl ?_
      refine Within.step (State.updPd_within ..) rfl ?_
      refine Within.step (State.bump_within ..) rfl ?_
      exact Within.refl _
    · refine Within.ite (fun _ => ?_) (fun _ => ?_)
      · refine Within.step (State.pdSend_within ..) rfl ?_
        refine Within.step (State.pdLayerReset_within ..) rfl ?_
        refine Within.step (State.bump_within ..) rfl ?_
        exact Within.refl _
      · refine Within.step (State.hardReset_within ..) rfl ?_
        refine Within.step (State.abortSwap_within ..) rfl ?_
        exact Within.refl _

theorem execVbusTransitionDone_within (x1 s) : Within [.regs, .out, .cmd, .eng, .pd] s (after (@execVbusTransitionDone x1 s) s) := by
  unfold execVbusTransitionDone
  try dsimp only
  refine Within.of_next ?_
  split
  · refine Within.step (State.makeContract_within ..) rfl ?_
    refine Within.step (State.pdSend_within ..) rfl ?_
    refine Within.step (State.updPd_within ..) rfl ?_
    exact Within.refl _
  · exact Within.refl _

theorem execVbusTransitionTimeout_within (x1 s) : Within [.regs, .out, .cmd, .eng, .usb, .pd, .ps] s (after (@execVbusTransitionTimeout x1 s) s) := by
  unfold execVbusTransitionTimeout
  try dsimp only
  refine Within.of_next ?_
  refine Within.ite (fun _ => ?_) (fun _ => ?_)
  · refine Within.step (State.hardReset_within ..) rfl ?_
    refine Within.step (State.bump_within ..) rfl ?_
    exact Within.refl _
  · exact Within.refl _

theorem State.vbusTrip_within (s x2) : Within [.regs, .out, .cmd, .eng, .usb, .pd, .ps] s (@State.vbusTrip s x2) := by
  unfold State.vbusTrip
  try dsimp only
  refine Within.step (State.pdEvent_within ..) rfl ?_
  refine State.when_within (fun _ => ?_) ?_
  · refine Within.step (State.set_within ..) rfl ?_
    refine Within.step (State.setFlag_within ..) rfl ?_
    exact Within.refl _
  · refine Within.step (State.updPd_within ..) rfl ?_
    refine Within.step (State.recoverPort_within ..) rfl ?_
    refine Within.step (State.bump_within ..) rfl ?_
    refine Within.step (State.setFlag_within ..) rfl ?_
    refine Within.step (State.vbusOff_within ..) rfl ?_
    exact Within.refl _

theorem execVbusOvercurrent_within (x1 s) : Within [.regs, .out, .cmd, .eng, .usb, .pd, .ps] s (after (@execVbusOvercurrent x1 s) s) := by
  unfold execVbusOvercurrent
  try dsimp only
  refine Within.of_next ?_
  refine Within.ite (fun _ => ?_) (fun _ => ?_)
  · refine Within.step (State.vbusTrip_within ..) rfl ?_
    exact Within.refl _
  · exact Within.refl _

theorem execVbusOvervoltage_within (x1 s) : Within [.regs, .out, .cmd, .eng, .usb, .pd, .ps] s (after (@execVbusOvervoltage x1 s) s) := by
  unfold execVbusOvervoltage
  try dsimp only
  refine Within.of_next ?_
  refine Within.ite (fun _ => ?_) (fun _ => ?_)
  · refine Within.step (State.vbusTrip_within ..) rfl ?_
    exact Within.refl _
  · exact Within.refl _

theorem execVbusUndervoltage_within (x1 s) : Within [.regs, .out, .cmd, .eng, .usb, .pd, .ps] s (after (@execVbusUndervoltage x1 s) s) := by
  unfold execVbusUndervoltage
  try dsimp only
  refine Within.of_next ?_
  refine Within.ite (fun _ => ?_) (fun _ => ?_)
  · refine Within.step (State.hardReset_within ..) rfl ?_
    exact Within.refl _
  · exact Within.refl _

theorem execVbusBeforeEnable_within (x1 s) : Within [.regs, .out, .cmd, .eng, .usb, .pd, .ps] s (after (@execVbusBeforeEnable x1 s) s) := by
  unfold execVbusBeforeEnable
  try dsimp only
  refine Within.of_next ?_
  refine Within.ite (fun _ => ?_) (fun _ => ?_)
  · refine Within.step (State.vbusTrip_within ..) rfl ?_
    exact Within.refl _
  · exact Within.refl _

theorem execErrorRecoveryEnd_within (x1 s) : Within [.regs, .pd] s (after (@execErrorRecoveryEnd x1 s) s) := by
  unfold execErrorRecoveryEnd
  exact (Within.ite (fun _ => (State.withAlloc_keeps rfl (fun _ => (Within.step (State.set_within ..) rfl (Within.refl _)))
    (Within.refl _))) (fun _ => (Within.refl _)))

theorem State.serviceEnters_within (s) : Within [.regs, .out, .cmd, .eng, .ps] s (@State.serviceEnters s) := by
  unfold State.serviceEnters
  try dsimp only
  refine Within.step (State.tryCore_within ..) rfl ?_
  refine Within.step (State.pdEvent_within ..) rfl ?_
  refine Within.step (State.setFlag_within ..) rfl ?_
  refine Within.step (State.setFlag_within ..) rfl ?_
  exact Within.refl _

theorem execServicePowerEntry_within (s) : Within [.regs, .out, .cmd, .eng, .ps] s (after (@execServicePowerEntry s) s) := by
  unfold execServicePowerEntry
  try dsimp only
  refine Within.of_next ?_
  refine Within.ite (fun _ => ?_) (fun _ => ?_)
  · refine Within.step (State.serviceEnters_within ..) rfl ?_
    exact Within.refl _
  · exact Within.refl _

theorem execServiceNoCaps_within (s) : Within [.regs, .out, .cmd, .eng, .ps] s (after (@execServiceNoCaps s) s) := by
  unfold execServiceNoCaps
  try dsimp only
  refine Within.of_next ?_
  refine Within.ite (fun _ => ?_) (fun _ => ?_)
  · refine Within.step (State.serviceEnters_within ..) rfl ?_
    exact Within.refl _
  · exact Within.refl _

theorem State.serviceExit_within (s) : Within [.regs, .out, .cmd, .eng] s (@State.serviceExit s) := by
  unfold State.serviceExit
  try dsimp only
  refine Within.ite (fun _ => ?_) (fun _ => ?_)
  · refine Within.step (State.pdEvent_within ..) rfl ?_
    refine Within.step (State.sinkRequests_within ..) rfl ?_
    refine Within.step (State.setFlag_within ..) rfl ?_
    refine Within.step (State.setFlag_within ..) rfl ?_
    exact Within.refl _
  · exact Within.refl _

theorem State.applyPolicy_within (s x2 x3) : Within [.regs, .out, .cmd, .eng, .usb, .pd, .ps] s (@State.applyPolicy s x2 x3) := by
  unfold State.applyPolicy
  try dsimp only
  refine Within.ite (fun _ => ?_) (fun _ => ?_)
  · refine Within.step (State.makeOffer_within ..) rfl ?_
    refine State.withAlloc_keeps rfl (fun _ => ?_) ?_
    · refine Within.ite (fun _ => ?_) (fun _ => ?_)
      · refine Within.step (State.setFlag_within ..) rfl ?_
        refine Within.step (State.setFlag_within ..) rfl ?_
        refine Within.step (State.setFlag_within ..) rfl ?_
        refine Within.step (State.setFlag_within ..) rfl ?_
        refine Within.step (State.set_within ..) rfl ?_
        refine Within.step (State.set_within ..) rfl ?_
        exact Within.refl _
      · refine Within.ite (fun _ => ?_) (fun _ => ?_)
        · refine Within.step (State.set_within ..) rfl ?_
          refine Within.step (State.setFlag_within ..) rfl ?_
          refine Within.step (State.setFlag_within ..) rfl ?_
          refine Within.step (State.setFlag_within ..) rfl ?_
          refine Within.step (State.setFlag_within ..) rfl ?_
          refine Within.step (State.set_within ..) rfl ?_
          refine Within.step (State.set_within ..) rfl ?_
          exact Within.refl _
        · refine Within.ite (fun _ => ?_) (fun _ => ?_)
          · refine Within.step (State.set_within ..) rfl ?_
            refine Within.step (State.setFlag_within ..) rfl ?_
            refine Within.step (State.setFlag_within ..) rfl ?_
            refine Within.step (State.setFlag_within ..) rfl ?_
            refine Within.step (State.setFlag_within ..) rfl ?_
            refine Within.step (State.set_within ..) rfl ?_
            refine Within.step (State.set_within ..) rfl ?_
            exact Within.refl _
          · refine Within.step (State.setFlag_within ..) rfl ?_
            refine Within.step (State.setFlag_within ..) rfl ?_
            refine Within.step (State.setFlag_within ..) rfl ?_
            refine Within.step (State.setFlag_within ..) rfl ?_
            refine Within.step (State.set_within ..) rfl ?_
            refine Within.step (State.set_within ..) rfl ?_
            exact Within.refl _
    · refine State.when_within (fun _ => ?_) ?_
      · refine State.when_within (fun _ => ?_) ?_
        · refine Within.step (State.pdEvent_within ..) rfl ?_
          refine Within.step (State.leavePort_within ..) rfl ?_
          exact Within.refl _
        · exact Within.refl _
      · refine Within.step (State.updPd_within ..) rfl ?_
        exact Within.refl _
  · refine State.withAlloc_keeps rfl (fun _ => ?_) ?_
    · refine Within.ite (fun _ => ?_) (fun _ => ?_)
      · refine Within.step (State.setFlag_within ..) rfl ?_
        refine Within.step (State.setFlag_within ..) rfl ?_
        refine Within.step (State.setFlag_within ..) rfl ?_
        refine Within.step (State.setFlag_within ..) rfl ?_
        refine Within.step (State.set_within ..) rfl ?_
        refine Within.step (State.set_within ..) rfl ?_
        exact Within.refl _
      · refine Within.ite (fun _ => ?_) (fun _ => ?_)
        · refine Within.step (State.set_within ..) rfl ?_
          refine Within.step (State.setFlag_within ..) rfl ?_
          refine Within.step (State.setFlag_within ..) rfl ?_
          refine Within.step (State.setFlag_within ..) rfl ?_
          refine Within.step (State.setFlag_within ..) rfl ?_
          refine Within.step (State.set_within ..) rfl ?_
          refine Within.step (State.set_within ..) rfl ?_
          exact Within.refl _
        · refine Within.ite (fun _ => ?_) (fun _ => ?_)
          · refine Within.step (State.set_within ..) rfl ?_
            refine Within.step (State.setFlag_within ..) rfl ?_
            refine Within.step (State.setFlag_within ..) rfl ?_
            refine Within.step (State.setFlag_within ..) rfl ?_
            refine Within.step (State.setFlag_within ..) rfl ?_
            refine Within.step (State.set_within ..) rfl ?_
            refine Within.step (State.set_within ..) rfl ?_
            exact Within.refl _
          · refine Within.step (State.setFlag_within ..) rfl ?_
            refine Within.step (State.setFlag_within ..) rfl ?_
            refine Within.step (State.setFlag_within ..) rfl ?_
            refine Within.step (State.setFlag_within ..) rfl ?_
            refine Within.step (State.set_within ..) rfl ?_
            refine Within.step (State.set_within ..) rfl ?_
            exact Within.refl _
    · refine State.when_within (fun _ => ?_) ?_
      · refine State.when_within (fun _ => ?_) ?_
        · refine Within.step (State.pdEvent_within ..) rfl ?_
          refine Within.step (State.leavePort_within ..) rfl ?_
          exact Within.refl _
        · exact Within.refl _
      · refine Within.step (State.updPd_within ..) rfl ?_
        exact Within.refl _

theorem State.adjustOffers_within (s) : Within [.regs, .out, .cmd, .eng, .pd] s (@State.adjustOffers s) := by
  unfold State.adjustOffers
  try dsimp only
  refine Within.pd rfl ?_
  refine Within.ite (fun _ => ?_) (fun _ => ?_)
  · refine forAll_within (fun _ _ => ?_) ?_
    · refine Within.ite (fun _ => ?_) (fun _ => ?_)
      · refine Within.step (State.pdEvent_within ..) rfl ?_
        refine Within.step (State.bump_within ..) rfl ?_
        refine Within.step (State.makeOffer_within ..) rfl ?_
        exact Within.refl _
      · exact Within.refl _
    · exact Within.refl _
  · refine Within.ite (fun _ => ?_) (fun _ => ?_)
    · refine forAll_within (fun _ _ => ?_) ?_
      · refine Within.ite (fun _ => ?_) (fun _ => ?_)
        · refine Within.step (State.makeOffer_within ..) rfl ?_
          exact Within.refl _
        · exact Within.refl _
      · exact Within.refl _
    · exact Within.refl _

theorem State.pdAtBoundary_within (s) : Within [.regs, .out, .cmd, .eng, .usb, .pd, .ps] s (@State.pdAtBoundary s) := by
  unfold State.pdAtBoundary
  try dsimp only
  refine Within.step (State.serviceExit_within ..) rfl ?_
  refine Within.step (State.adjustOffers_within ..) rfl ?_
  refine forAll_within (fun _ _ => ?_) ?_
  · split
    · refine Within.step (State.applyPolicy_within ..) rfl ?_
      exact Within.refl _
    · exact Within.refl _
  · exact Within.refl _

theorem execPdStatus_within (x1 x2 s) : Within [.regs, .out, .cmd, .eng, .ps, .mem] s (after (@execPdStatus x1 x2 s) s) := by
  unfold execPdStatus
  try dsimp only
  refine Within.of_next ?_
  refine State.runOpcode_keeps rfl (fun _ _ => ?_) ?_
  · refine Within.ite_fst (fun _ => ?_) (fun _ => ?_)
    · dsimp only
      exact Within.refl _
    · dsimp only
      exact Within.refl _
  · exact Within.refl _

theorem execPdRoleSwap_within (x1 x2 s) : Within [.regs, .out, .cmd, .eng, .pd, .ps, .mem] s (after (@execPdRoleSwap x1 x2 s) s) := by
  unfold execPdRoleSwap
  try dsimp only
  refine Within.of_next ?_
  refine State.runOpcode_keeps rfl (fun _ _ => ?_) ?_
  · refine Within.ite_fst (fun _ => ?_) (fun _ => ?_)
    · dsimp only
      exact Within.refl _
    · refine Within.ite_fst (fun _ => ?_) (fun _ => ?_)
      · dsimp only
        exact Within.refl _
      · refine Within.ite_fst (fun _ => ?_) (fun _ => ?_)
        · dsimp only
          exact Within.refl _
        · dsimp only
          refine Within.step (State.pdSend_within ..) rfl ?_
          refine Within.step (State.setFlag_within ..) rfl ?_
          refine Within.step (State.updPd_within ..) rfl ?_
          exact Within.refl _
  · exact Within.refl _

theorem execPdPolicy_within (x1 x2 x3 s) : Within [.regs, .out, .cmd, .eng, .pd, .ps, .mem] s (after (@execPdPolicy x1 x2 x3 s) s) := by
  unfold execPdPolicy
  try dsimp only
  refine Within.of_next ?_
  refine State.runOpcode_keeps rfl (fun _ _ => ?_) ?_
  · refine Within.ite_fst (fun _ => ?_) (fun _ => ?_)
    · dsimp only
      exact Within.refl _
    · refine Within.ite_fst (fun _ => ?_) (fun _ => ?_)
      · dsimp only
        exact Within.refl _
      · dsimp only
        refine Within.step (State.updPd_within ..) rfl ?_
        exact Within.refl _
  · exact Within.refl _

end Machine
end Sys2Proof
end

