-- ==== Sys2Proof/Laws/FramePState.lean ====
section
/-!
SUPPORT. The frame of every operation of Machine/PState.lean: the parts of the state it may change.
-/
namespace Sys2Proof
namespace Machine

theorem State.dormantRefused_within (s x2) : Within [.regs, .out, .cmd, .eng, .ps] s (@State.dormantRefused s x2) := by
  unfold State.dormantRefused
  try dsimp only
  refine Within.step (State.restartIdle_within ..) rfl ?_
  refine State.when_within (fun _ => ?_) ?_
  · refine Within.step (State.notice_within ..) rfl ?_
    refine Within.step (State.setPs_within ..) rfl ?_
    exact Within.refl _
  · refine Within.step (State.bump_within ..) rfl ?_
    refine Within.step (State.bump_within ..) rfl ?_
    refine Within.step (State.set_within ..) rfl ?_
    exact Within.refl _

theorem State.dormantAttempt_within (s) : Within [.regs, .out, .cmd, .eng, .ps] s (@State.dormantAttempt s) := by
  unfold State.dormantAttempt
  try dsimp only
  refine Within.ite (fun _ => ?_) (fun _ => ?_)
  · split
    · refine Within.step (State.dormantRefused_within ..) rfl ?_
      refine Within.step (State.setPs_within ..) rfl ?_
      exact Within.refl _
    · refine Within.step (State.notice_within ..) rfl ?_
      refine Within.step (State.setPs_within ..) rfl ?_
      refine Within.step (State.set_within ..) rfl ?_
      refine Within.step (State.setPs_within ..) rfl ?_
      exact Within.refl _
  · exact Within.refl _

theorem State.idleAtBoundary_within (s) : Within [.regs, .ps] s (@State.idleAtBoundary s) := by
  unfold State.idleAtBoundary
  exact (Within.ite (fun _ => (Within.refl _)) (fun _ => (Within.ite (fun _ => (Within.step (State.setPs_within ..) rfl
    (Within.refl _))) (fun _ => (Within.step (State.set_within ..) rfl (Within.step (State.setPs_within ..) rfl
    (Within.refl _)))))))

theorem execIdleExpiry_within (s) : Within [.ps] s (after (@execIdleExpiry s) s) := by
  unfold execIdleExpiry
  exact (Within.ite (fun _ => (Within.step (State.setPs_within ..) rfl (Within.refl _))) (fun _ => (Within.refl _)))

theorem State.writeGo_within (s) : Within [.regs, .ps] s (@State.writeGo s).1 := by
  unfold State.writeGo
  exact (Within.ite_fst (fun _ => (Within.refl _)) (fun _ => (Within.ite_fst (fun _ => (Within.step (State.setPs_within ..) rfl
    (Within.step (State.restartIdle_within ..) rfl (Within.refl _)))) (fun _ => (Within.refl _)))))

theorem execGo_within (s) : Within [.regs, .out, .ps] s (after (@execGo s) s) := by
  unfold execGo
  exact (Within.ite (fun _ => (Within.step (State.emit_within ..) rfl (Within.step (State.writeGo_within ..) rfl (Within.refl
    _)))) (fun _ => (Within.refl _)))

theorem State.enterDormant_within (s) : Within [.regs, .out, .rt, .cmd, .link, .tun, .sw, .eng, .reg, .bridge, .media, .usb, .power, .ps, .mem] s (@State.enterDormant s) := by
  unfold State.enterDormant
  try dsimp only
  refine Within.step (State.setPs_within ..) rfl ?_
  refine Within.step (State.setRt_within ..) rfl ?_
  refine Within.step (State.removeAll_within ..) rfl ?_
  refine Within.step (State.storeRound_within ..) rfl ?_
  refine Within.step (State.set_within ..) rfl ?_
  refine Within.step (State.bump_within ..) rfl ?_
  exact Within.refl _

theorem execDormantEntry_within (s) : Within [.regs, .out, .rt, .cmd, .link, .tun, .sw, .eng, .reg, .bridge, .media, .usb, .power, .ps, .mem] s (after (@execDormantEntry s) s) := by
  unfold execDormantEntry
  try dsimp only
  refine Within.of_next ?_
  refine Within.ite (fun _ => ?_) (fun _ => ?_)
  · split
    · refine Within.step (State.activity_within ..) rfl ?_
      exact Within.refl _
    · refine Within.step (State.enterDormant_within ..) rfl ?_
      exact Within.refl _
  · exact Within.refl _

theorem State.wake_within (s x2 x3 x4) : Within [.regs, .ps] s (@State.wake s x2 x3 x4) := by
  unfold State.wake
  exact (Within.ite (fun _ => (Within.refl _)) (fun _ => (Within.ite (fun _ => (Within.step (State.activity_within ..) rfl
    (Within.refl _))) (fun _ => (Within.ite (fun _ => (Within.step (State.set_within ..) rfl (Within.refl _))) (fun _ =>
    (Within.ite (fun _ => (Within.step (State.queueDomains_within ..) rfl (Within.step (State.set_within ..) rfl
    (Within.step (State.bump_within ..) rfl (Within.step (State.set_within ..) rfl (Within.step (State.set_within ..)
    rfl (Within.step (State.set_within ..) rfl (Within.refl _)))))))) (fun _ => (Within.refl _)))))))))

theorem execWakeMgmt_within (x1 x2 s) : Within [.regs, .out, .ps] s (after (@execWakeMgmt x1 x2 s) s) := by
  unfold execWakeMgmt
  try dsimp only
  refine Within.of_next ?_
  refine Within.ite (fun _ => ?_) (fun _ => ?_)
  · refine Within.ite (fun _ => ?_) (fun _ => ?_)
    · refine Within.step (State.emit_within ..) rfl ?_
      refine Within.step (State.wake_within ..) rfl ?_
      exact Within.refl _
    · refine Within.step (State.wake_within ..) rfl ?_
      exact Within.refl _
  · exact Within.refl _

theorem execWakeService_within (x1 s) : Within [.regs, .ps] s (after (@execWakeService x1 s) s) := by
  unfold execWakeService
  exact (Within.step (State.wake_within ..) rfl (Within.refl _))

theorem execWakePortAttach_within (x1 x2 s) : Within [.regs, .ps] s (after (@execWakePortAttach x1 x2 s) s) := by
  unfold execWakePortAttach
  exact (Within.step (State.wake_within ..) rfl (Within.refl _))

theorem execWakeRemote_within (x1 x2 s) : Within [.regs, .ps] s (after (@execWakeRemote x1 x2 s) s) := by
  unfold execWakeRemote
  exact (Within.ite (fun _ => (Within.step (State.wake_within ..) rfl (Within.refl _))) (fun _ => (Within.refl _)))

theorem execWakeSupply_within (x1 x2 s) : Within [.regs, .ps] s (after (@execWakeSupply x1 x2 s) s) := by
  unfold execWakeSupply
  exact (Within.step (State.wake_within ..) rfl (Within.refl _))

theorem execWakeTimer_within (x1 s) : Within [.regs, .ps] s (after (@execWakeTimer x1 s) s) := by
  unfold execWakeTimer
  exact (Within.ite (fun _ => (Within.step (State.wake_within ..) rfl (Within.refl _))) (fun _ => (Within.refl _)))

theorem execWakeReady_within (x1 s) : Within [.regs, .out, .rt, .cmd, .eng, .ps, .mem] s (after (@execWakeReady x1 s) s) := by
  unfold execWakeReady
  try dsimp only
  refine Within.of_next ?_
  refine Within.ite (fun _ => ?_) (fun _ => ?_)
  · refine Within.step (State.notice_within ..) rfl ?_
    refine Within.step (State.queueDomains_within ..) rfl ?_
    refine Within.step (State.restartIdle_within ..) rfl ?_
    refine Within.step (State.setPs_within ..) rfl ?_
    refine Within.step (State.enterFree_within ..) rfl ?_
    refine Within.step (State.startTimer_within ..) rfl ?_
    refine Within.step (State.setRt_within ..) rfl ?_
    refine Within.step (State.setWord_within ..) rfl ?_
    refine Within.step (State.set_within ..) rfl ?_
    exact Within.refl _
  · exact Within.refl _

theorem execPstateStatus_within (x1 s) : Within [.regs, .out, .cmd, .eng, .ps, .mem] s (after (@execPstateStatus x1 s) s) := by
  unfold execPstateStatus
  try dsimp only
  refine Within.of_next ?_
  refine State.runOpcode_keeps rfl (fun _ _ => ?_) ?_
  · dsimp only
    exact Within.refl _
  · exact Within.refl _

end Machine
end Sys2Proof
end

