-- ==== Sys2Proof/Laws/FrameSecurity.lean ====
section
/-!
SUPPORT. The frame of every operation of Machine/Security.lean: the parts of the state it may change.
-/
namespace Sys2Proof
namespace Machine

theorem execKeySlotInfo_within (x1 x2 s) : Within [.regs, .out, .cmd, .eng, .ps, .mem] s (after (@execKeySlotInfo x1 x2 s) s) := by
  unfold execKeySlotInfo
  try dsimp only
  refine Within.of_next ?_
  refine State.runOpcode_keeps rfl (fun _ _ => ?_) ?_
  · refine Within.ite_fst (fun _ => ?_) (fun _ => ?_)
    · dsimp only
      exact Within.refl _
    · dsimp only
      exact Within.refl _
  · exact Within.refl _

theorem State.sealInvalid_within (s x2) : Within [.regs, .out, .cmd, .eng, .sec] s (@State.sealInvalid s x2) := by
  unfold State.sealInvalid
  try dsimp only
  refine Within.ite (fun _ => ?_) (fun _ => ?_)
  · refine Within.step (State.setSec_within ..) rfl ?_
    refine Within.step (State.setFlag_within ..) rfl ?_
    refine Within.step (State.notice_within ..) rfl ?_
    refine Within.step (State.bump_within ..) rfl ?_
    exact Within.refl _
  · refine Within.step (State.setSec_within ..) rfl ?_
    refine Within.step (State.notice_within ..) rfl ?_
    refine Within.step (State.bump_within ..) rfl ?_
    exact Within.refl _

theorem State.acceptLetter_within (s x2) : Within [.regs, .out, .cmd, .eng, .sec] s (@State.acceptLetter s x2) := by
  unfold State.acceptLetter
  try dsimp only
  refine Within.ite (fun _ => ?_) (fun _ => ?_)
  · refine Within.step (State.setSec_within ..) rfl ?_
    refine Within.step (State.set_within ..) rfl ?_
    refine Within.step (State.bump_within ..) rfl ?_
    exact Within.refl _
  · refine Within.ite (fun _ => ?_) (fun _ => ?_)
    · refine Within.step (State.setSec_within ..) rfl ?_
      refine Within.step (State.set_within ..) rfl ?_
      refine Within.step (State.bump_within ..) rfl ?_
      exact Within.refl _
    · refine Within.step (State.keyEvent_within ..) rfl ?_
      refine Within.step (State.set_within ..) rfl ?_
      refine Within.step (State.setSec_within ..) rfl ?_
      refine Within.step (State.set_within ..) rfl ?_
      refine Within.step (State.bump_within ..) rfl ?_
      exact Within.refl _

theorem execKeyLetter_within (x1 x2 s) : Within [.regs, .out, .cmd, .eng, .ps, .sec, .mem] s (after (@execKeyLetter x1 x2 s) s) := by
  unfold execKeyLetter
  try dsimp only
  refine Within.of_next ?_
  refine State.runOpcode_keeps rfl (fun _ _ => ?_) ?_
  · split
    · dsimp only
      refine Within.step (State.acceptLetter_within ..) rfl ?_
      exact Within.refl _
    · dsimp only
      refine Within.step (State.notice_within ..) rfl ?_
      exact Within.refl _
    · dsimp only
      refine Within.ite (fun _ => ?_) (fun _ => ?_)
      · refine Within.step (State.sealInvalid_within ..) rfl ?_
        exact Within.refl _
      · exact Within.refl _
  · exact Within.refl _

theorem State.bothKeys_within (s x2) : Within [.link] s (@State.bothKeys s x2) := by
  unfold State.bothKeys
  exact (Within.ite (fun _ => (Within.step (State.updPort_within ..) rfl (Within.refl _))) (fun _ => (Within.refl _)))

theorem State.linkKeyChanged_within (s x2 x3) : Within [.regs, .link, .sec] s (@State.linkKeyChanged s x2 x3) := by
  unfold State.linkKeyChanged
  try dsimp only
  refine Within.ite (fun _ => ?_) (fun _ => ?_)
  · refine Within.step (State.clearPairs_within ..) rfl ?_
    exact Within.refl _
  · refine Within.step (State.setSec_within ..) rfl ?_
    refine Within.step (State.updPort_within ..) rfl ?_
    refine Within.step (State.bothKeys_within ..) rfl ?_
    refine Within.step (State.setFlag_within ..) rfl ?_
    refine Within.step (State.clearPairs_within ..) rfl ?_
    exact Within.refl _

theorem State.takeLetter_within (s x2 x3) : Within [.regs, .out, .cmd, .link, .eng, .sec] s (@State.takeLetter s x2 x3) := by
  unfold State.takeLetter
  try dsimp only
  refine Within.ite (fun _ => ?_) (fun _ => ?_)
  · refine Within.step (State.set_within ..) rfl ?_
    refine Within.step (State.setSec_within ..) rfl ?_
    exact Within.refl _
  · refine Within.ite (fun _ => ?_) (fun _ => ?_)
    · refine Within.step (State.keyEvent_within ..) rfl ?_
      refine forAll_within (fun _ _ => ?_) ?_
      · refine Within.step (State.clearPairs_within ..) rfl ?_
        exact Within.refl _
      · refine Within.step (State.setSec_within ..) rfl ?_
        refine Within.step (State.eraseSlot_within ..) rfl ?_
        refine Within.step (State.setSec_within ..) rfl ?_
        exact Within.refl _
    · refine Within.step (State.keyEvent_within ..) rfl ?_
      refine forAll_within (fun _ _ => ?_) ?_
      · refine Within.step (State.linkKeyChanged_within ..) rfl ?_
        exact Within.refl _
      · refine State.when_within (fun _ => ?_) ?_
        · refine Within.step (State.setFlag_within ..) rfl ?_
          exact Within.refl _
        · refine Within.step (State.setSec_within ..) rfl ?_
          refine Within.step (State.setAttr_within ..) rfl ?_
          refine Within.step (State.setSec_within ..) rfl ?_
          exact Within.refl _

theorem State.keysAtBoundary_within (s) : Within [.regs, .out, .cmd, .link, .tun, .eng, .sec] s (@State.keysAtBoundary s) := by
  unfold State.keysAtBoundary
  try dsimp only
  refine Within.step (State.syncApproved_within ..) rfl ?_
  refine Within.step (State.enforceKeys_within ..) rfl ?_
  refine forAll_within (fun _ _ => ?_) ?_
  · refine forAll_within (fun _ _ => ?_) ?_
    · refine Within.ite (fun _ => ?_) (fun _ => ?_)
      · refine Within.step (State.bothKeys_within ..) rfl ?_
        exact Within.refl _
      · exact Within.refl _
    · exact Within.refl _
  · refine Within.ite (fun _ => ?_) (fun _ => ?_)
    · refine forAll_within (fun _ _ => ?_) ?_
      · refine Within.step (State.takeLetter_within ..) rfl ?_
        exact Within.refl _
      · refine Within.step (State.setSec_within ..) rfl ?_
        refine forAll_within (fun _ _ => ?_) ?_
        · refine Within.ite (fun _ => ?_) (fun _ => ?_)
          · refine Within.step (State.updPort_within ..) rfl ?_
            exact Within.refl _
          · exact Within.refl _
        · exact Within.refl _
    · refine Within.step (State.setSec_within ..) rfl ?_
      refine forAll_within (fun _ _ => ?_) ?_
      · refine Within.ite (fun _ => ?_) (fun _ => ?_)
        · refine Within.step (State.updPort_within ..) rfl ?_
          exact Within.refl _
        · exact Within.refl _
      · exact Within.refl _

theorem execLockoutEnd_within (s) : Within [.regs] s (after (@execLockoutEnd s) s) := by
  unfold execLockoutEnd
  exact (Within.ite (fun _ => (Within.step (State.setFlag_within ..) rfl (Within.refl _))) (fun _ => (Within.refl _)))

theorem execAttest_within (x1 x2 s) : Within [.regs, .out, .seed, .cmd, .eng, .ps, .mem] s (after (@execAttest x1 x2 s) s) := by
  unfold execAttest
  try dsimp only
  refine Within.of_next ?_
  refine State.runOpcode_keeps rfl (fun _ _ => ?_) ?_
  · refine Within.ite_fst (fun _ => ?_) (fun _ => ?_)
    · dsimp only
      exact Within.refl _
    · dsimp only
      refine Within.step (State.draw_within ..) rfl ?_
      exact Within.refl _
  · exact Within.refl _

theorem State.eraseAes_within (s x2) : Within [.regs, .sec] s (@State.eraseAes s x2) := by
  unfold State.eraseAes
  exact (Within.via (Within.ite (fun _ => (State.when_within (fun _ => (Within.step (State.set_within ..) rfl (Within.refl _)))
    (Within.refl _))) (fun _ => (Within.step (State.setSec_within ..) rfl (Within.step (State.setAttr_within ..) rfl
    (Within.refl _))))) (Within.step (State.setSec_within ..) rfl (Within.refl _)))

theorem State.unlockDebug_within (s) : Within [.regs, .out, .cmd, .link, .tun, .eng, .sec] s (@State.unlockDebug s) := by
  unfold State.unlockDebug
  try dsimp only
  refine Within.step (State.setDebug_within ..) rfl ?_
  refine forAll_within (fun _ _ => ?_) ?_
  · refine Within.step (State.holdPort_within ..) rfl ?_
    exact Within.refl _
  · refine forAll_within (fun _ _ => ?_) ?_
    · refine Within.step (State.eraseAes_within ..) rfl ?_
      exact Within.refl _
    · exact Within.refl _

theorem execDebugUnlock_within (x1 x2 s) : Within [.regs, .out, .cmd, .link, .tun, .eng, .ps, .sec, .mem, .boot] s (after (@execDebugUnlock x1 x2 s) s) := by
  unfold execDebugUnlock
  try dsimp only
  refine Within.of_next ?_
  refine State.runOpcode_keeps rfl (fun _ _ => ?_) ?_
  · split
    · refine Within.ite_fst (fun _ => ?_) (fun _ => ?_)
      · dsimp only
        refine Within.step (State.debugEnds_within ..) rfl ?_
        exact Within.refl _
      · dsimp only
        refine Within.step (State.unlockDebug_within ..) rfl ?_
        refine Within.step (State.set_within ..) rfl ?_
        exact Within.refl _
    · dsimp only
      refine Within.step (State.notice_within ..) rfl ?_
      exact Within.refl _
    · dsimp only
      refine Within.ite (fun _ => ?_) (fun _ => ?_)
      · refine Within.step (State.sealInvalid_within ..) rfl ?_
        exact Within.refl _
      · exact Within.refl _
  · exact Within.refl _

theorem execEntropyHealthFail_within (s) : Within [.regs, .out, .cmd, .eng] s (after (@execEntropyHealthFail s) s) := by
  unfold execEntropyHealthFail
  try dsimp only
  refine Within.of_next ?_
  refine Within.ite (fun _ => ?_) (fun _ => ?_)
  · refine Within.step (State.cryptoError_within ..) rfl ?_
    exact Within.refl _
  · exact Within.refl _

theorem execKeeperSelfTestDone_within (x1 s) : Within [.regs, .out, .cmd, .eng, .ps, .boot] s (after (@execKeeperSelfTestDone x1 s) s) := by
  unfold execKeeperSelfTestDone
  try dsimp only
  refine Within.of_next ?_
  refine Within.ite (fun _ => ?_) (fun _ => ?_)
  · refine Within.step (State.tryCore_within ..) rfl ?_
    split
    · refine Within.step (State.syncApproved_within ..) rfl ?_
      refine Within.step (State.setFlag_within ..) rfl ?_
      refine Within.step (State.setFlag_within ..) rfl ?_
      refine Within.step (State.setBoot_within ..) rfl ?_
      exact Within.refl _
    · refine Within.step (State.cryptoError_within ..) rfl ?_
      refine Within.step (State.setFlag_within ..) rfl ?_
      refine Within.step (State.setBoot_within ..) rfl ?_
      exact Within.refl _
    · refine Within.step (State.cryptoError_within ..) rfl ?_
      refine Within.step (State.setFlag_within ..) rfl ?_
      refine Within.step (State.setBoot_within ..) rfl ?_
      exact Within.refl _
  · exact Within.refl _

theorem execZeroise_within (x1 x2 s) : Within [.regs, .out, .cmd, .eng, .ps, .sec, .mem] s (after (@execZeroise x1 x2 s) s) := by
  unfold execZeroise
  try dsimp only
  refine Within.of_next ?_
  refine State.runOpcode_keeps rfl (fun _ _ => ?_) ?_
  · refine Within.ite_fst (fun _ => ?_) (fun _ => ?_)
    · dsimp only
      exact Within.refl _
    · refine Within.ite_fst (fun _ => ?_) (fun _ => ?_)
      · dsimp only
        exact Within.refl _
      · dsimp only
        refine Within.step (State.setSec_within ..) rfl ?_
        exact Within.refl _
  · exact Within.refl _

theorem State.zeroiseFields_within (s) : Within [.regs] s (@State.zeroiseFields s) := by
  unfold State.zeroiseFields
  exact (forAll_within (fun _ _ => (Within.step (State.setWord_within ..) rfl (Within.refl _))) (Within.refl _))

theorem State.eraseAll_parts (s : State) (r : RegSt) (t : TunSt) (c : CmdSt) (p : PdSt) (m : MemSt) (k : SecSt) :
    Within [.regs, .cmd, .link, .tun, .reg, .pd, .sec, .mem] s
      { s with reg := r, tun := t, cmd := c, pd := p, mem := m, sec := k } :=
  Within.update (Within.refl s) rfl rfl rfl rfl (fun p hp => by cases p <;> first | rfl | exact absurd (by decide) hp)

theorem State.eraseAll_within (s) :
    Within [.regs, .cmd, .link, .tun, .reg, .pd, .sec, .mem] s (State.eraseAll s) := by
  unfold State.eraseAll
  generalize (List.range 64).filter _ = l
  exact Within.via (State.eraseAll_parts ..)
    (forAll_within (fun _ _ => Within.step (State.clearPairs_within ..) rfl (Within.refl _))
      (Within.step (State.zeroiseFields_within ..) rfl
        (forAll_within (fun _ _ => Within.step (State.eraseSlot_within ..) rfl (Within.refl _)) (Within.refl _))))

theorem execZeroisationComplete_within (x1 s) : Within [.regs, .shadow, .out, .seed, .rt, .cmd, .link, .tun, .sw, .eng, .reg, .bridge, .media, .usb, .pd, .ps, .sec, .mem, .recorder, .boot] s (after (@execZeroisationComplete x1 s) s) := by
  unfold execZeroisationComplete
  try dsimp only
  refine Within.of_next ?_
  refine Within.ite (fun _ => ?_) (fun _ => ?_)
  · refine Within.step (State.setSec_within ..) rfl ?_
    refine Within.step (State.hubReset_within ..) rfl ?_
    refine Within.ite (fun _ => ?_) (fun _ => ?_)
    · refine Within.step (State.setAttr_within ..) rfl ?_
      refine Within.step (State.setSec_within ..) rfl ?_
      refine Within.step (State.eraseAll_within ..) rfl ?_
      refine Within.step (State.autoThaw_within ..) rfl ?_
      refine Within.step (State.finishWaiters_within ..) rfl ?_
      refine Within.step (State.bump_within ..) rfl ?_
      exact Within.refl _
    · refine Within.step (State.setAttr_within ..) rfl ?_
      refine Within.step (State.cryptoError_within ..) rfl ?_
      refine Within.step (State.setSec_within ..) rfl ?_
      refine Within.step (State.eraseAll_within ..) rfl ?_
      refine Within.step (State.autoThaw_within ..) rfl ?_
      refine Within.step (State.finishWaiters_within ..) rfl ?_
      refine Within.step (State.bump_within ..) rfl ?_
      exact Within.refl _
  · exact Within.refl _

end Machine
end Sys2Proof
end

