-- ==== Sys2Proof/Laws/FrameMemory.lean ====
section
/-!
SUPPORT. The frame of every operation of Machine/Memory.lean: the parts of the state it may change.
-/
namespace Sys2Proof
namespace Machine

theorem State.setMem_within (s x2) : Within [.mem] s (@State.setMem s x2) := by
  unfold State.setMem
  exact (Within.mem rfl (Within.refl _))

theorem State.syncRevisit_within (s x2) : Within [.regs] s (@State.syncRevisit s x2) := by
  unfold State.syncRevisit
  exact (Within.step (State.set_within ..) rfl (Within.refl _))

theorem State.countCorrected_within (s x2) : Within [.regs, .mem] s (@State.countCorrected s x2) := by
  unfold State.countCorrected
  try dsimp only
  refine Within.ite (fun _ => ?_) (fun _ => ?_)
  · refine Within.step (State.setMem_within ..) rfl ?_
    refine Within.step (State.bump_within ..) rfl ?_
    exact Within.refl _
  · refine Within.step (State.setMem_within ..) rfl ?_
    refine Within.step (State.bump_within ..) rfl ?_
    exact Within.refl _

theorem execCorrectableError_within (x1 x2 s) : Within [.regs, .mem] s (after (@execCorrectableError x1 x2 s) s) := by
  unfold execCorrectableError
  try dsimp only
  refine Within.of_next ?_
  refine Within.ite (fun _ => ?_) (fun _ => ?_)
  · exact Within.refl _
  · refine Within.ite (fun _ => ?_) (fun _ => ?_)
    · refine Within.step (State.countCorrected_within ..) rfl ?_
      exact Within.refl _
    · refine Within.ite (fun _ => ?_) (fun _ => ?_)
      · refine Within.step (State.bump_within ..) rfl ?_
        refine Within.step (State.countCorrected_within ..) rfl ?_
        exact Within.refl _
      · refine Within.step (State.syncRevisit_within ..) rfl ?_
        refine Within.step (State.setMem_within ..) rfl ?_
        refine Within.step (State.countCorrected_within ..) rfl ?_
        exact Within.refl _

theorem State.memoryError_within (s x2 x3 x4 x5 x6) : Within [.regs, .out, .cmd, .eng, .mem] s (@State.memoryError s x2 x3 x4 x5 x6) := by
  unfold State.memoryError
  try dsimp only
  refine Within.ite (fun _ => ?_) (fun _ => ?_)
  · exact Within.refl _
  · refine Within.step (State.notice_within ..) rfl ?_
    refine Within.step (State.setMem_within ..) rfl ?_
    exact Within.refl _

theorem State.retireCell_within (s) : Within [.regs, .out, .cmd, .sw, .eng] s (@State.retireCell s) := by
  unfold State.retireCell
  try dsimp only
  refine Within.ite (fun _ => ?_) (fun _ => ?_)
  · exact Within.refl _
  · refine State.when_within (fun _ => ?_) ?_
    · refine Within.step (State.notice_within ..) rfl ?_
      exact Within.refl _
    · refine Within.step (State.setPoolFree_within ..) rfl ?_
      refine Within.step (State.set_within ..) rfl ?_
      exact Within.refl _

theorem State.useSpare_within (s) : Within [.regs, .out, .cmd, .eng] s (@State.useSpare s) := by
  unfold State.useSpare
  try dsimp only
  refine Within.ite (fun _ => ?_) (fun _ => ?_)
  · exact Within.refl _
  · refine State.when_within (fun _ => ?_) ?_
    · refine Within.step (State.notice_within ..) rfl ?_
      exact Within.refl _
    · refine Within.step (State.set_within ..) rfl ?_
      exact Within.refl _

theorem State.sticky_within (s x2 x3) : Within [.regs, .out, .cmd, .sw, .eng, .mem] s (@State.sticky s x2 x3) := by
  unfold State.sticky
  try dsimp only
  refine Within.ite (fun _ => ?_) (fun _ => ?_)
  · refine Within.step (State.retireCell_within ..) rfl ?_
    refine Within.step (State.setMem_within ..) rfl ?_
    refine Within.step (State.bump_within ..) rfl ?_
    exact Within.refl _
  · refine Within.ite (fun _ => ?_) (fun _ => ?_)
    · refine Within.step (State.useSpare_within ..) rfl ?_
      refine Within.step (State.setMem_within ..) rfl ?_
      refine Within.step (State.bump_within ..) rfl ?_
      exact Within.refl _
    · refine Within.step (State.memoryError_within ..) rfl ?_
      refine Within.step (State.setMem_within ..) rfl ?_
      refine Within.step (State.bump_within ..) rfl ?_
      exact Within.refl _

theorem State.passOn_within (s x2 x3) : Within [.mem] s (@State.passOn s x2 x3) := by
  unfold State.passOn
  exact (Within.via (Within.ite (fun _ => (Within.step (State.setMem_within ..) rfl (Within.refl _))) (fun _ => (Within.refl
    _))) (Within.step (State.setMem_within ..) rfl (Within.refl _)))

theorem execScrubVisit_within (x1 x2 x3 x4 s) : Within [.regs, .out, .cmd, .sw, .eng, .mem] s (after (@execScrubVisit x1 x2 x3 x4 s) s) := by
  unfold execScrubVisit
  try dsimp only
  refine Within.of_next ?_
  refine Within.ite (fun _ => ?_) (fun _ => ?_)
  · exact Within.refl _
  · refine Within.ite (fun _ => ?_) (fun _ => ?_)
    · refine Within.step (State.setMem_within ..) rfl ?_
      refine Within.ite (fun _ => ?_) (fun _ => ?_)
      · refine Within.step (State.syncRevisit_within ..) rfl ?_
        refine Within.step (State.setMem_within ..) rfl ?_
        exact Within.refl _
      · refine Within.step (State.passOn_within ..) rfl ?_
        exact Within.refl _
    · refine Within.ite (fun _ => ?_) (fun _ => ?_)
      · refine Within.step (State.sticky_within ..) rfl ?_
        refine State.when_within (fun _ => ?_) ?_
        · refine Within.step (State.bump_within ..) rfl ?_
          exact Within.refl _
        · refine Within.step (State.countCorrected_within ..) rfl ?_
          refine Within.ite (fun _ => ?_) (fun _ => ?_)
          · refine Within.step (State.syncRevisit_within ..) rfl ?_
            refine Within.step (State.setMem_within ..) rfl ?_
            exact Within.refl _
          · refine Within.step (State.passOn_within ..) rfl ?_
            exact Within.refl _
      · refine Within.ite (fun _ => ?_) (fun _ => ?_)
        · refine State.when_within (fun _ => ?_) ?_
          · refine Within.step (State.bump_within ..) rfl ?_
            exact Within.refl _
          · refine Within.step (State.countCorrected_within ..) rfl ?_
            refine Within.ite (fun _ => ?_) (fun _ => ?_)
            · refine Within.step (State.syncRevisit_within ..) rfl ?_
              refine Within.step (State.setMem_within ..) rfl ?_
              exact Within.refl _
            · refine Within.step (State.passOn_within ..) rfl ?_
              exact Within.refl _
        · refine Within.step (State.setMem_within ..) rfl ?_
          refine State.when_within (fun _ => ?_) ?_
          · refine Within.step (State.bump_within ..) rfl ?_
            exact Within.refl _
          · refine Within.step (State.countCorrected_within ..) rfl ?_
            refine Within.ite (fun _ => ?_) (fun _ => ?_)
            · refine Within.step (State.syncRevisit_within ..) rfl ?_
              refine Within.step (State.setMem_within ..) rfl ?_
              exact Within.refl _
            · refine Within.step (State.passOn_within ..) rfl ?_
              exact Within.refl _

theorem execScrubLate_within (x1 s) : Within [.regs, .mem] s (after (@execScrubLate x1 s) s) := by
  unfold execScrubLate
  try dsimp only
  refine Within.of_next ?_
  refine Within.ite (fun _ => ?_) (fun _ => ?_)
  · refine Within.step (State.setMem_within ..) rfl ?_
    refine Within.step (State.bump_within ..) rfl ?_
    exact Within.refl _
  · exact Within.refl _

theorem execScrubStatus_within (x1 s) : Within [.regs, .out, .cmd, .eng, .ps, .mem] s (after (@execScrubStatus x1 s) s) := by
  unfold execScrubStatus
  try dsimp only
  refine Within.of_next ?_
  refine State.runOpcode_keeps rfl (fun _ _ => ?_) ?_
  · dsimp only
    exact Within.refl _
  · exact Within.refl _

theorem State.loseUnit_within (s x2) : Within [.regs, .out, .cmd, .tun, .sw, .eng] s (@State.loseUnit s x2) := by
  unfold State.loseUnit
  try dsimp only
  split
  · exact Within.refl _
  · refine Within.step (State.freeUnit_within ..) rfl ?_
    refine Within.step (State.dropFromFlow_within ..) rfl ?_
    refine State.when_within (fun _ => ?_) ?_
    · refine Within.step (State.emit_within ..) rfl ?_
      exact Within.refl _
    · exact Within.refl _

theorem State.loseRun_within (s x2 x3) : Within [.regs, .out, .cmd, .tun, .sw, .eng] s (@State.loseRun s x2 x3) := by
  unfold State.loseRun
  try dsimp only
  split
  · exact Within.refl _
  · refine Within.ite (fun _ => ?_) (fun _ => ?_)
    · refine forAll_within (fun _ _ => ?_) ?_
      · refine Within.step (State.loseUnit_within ..) rfl ?_
        exact Within.refl _
      · refine Within.step (State.updDir_within ..) rfl ?_
        exact Within.refl _
    · refine Within.step (State.updDir_within ..) rfl ?_
      exact Within.refl _

theorem State.loseEntry_within (s x2 x3) : Within [.regs, .out, .cmd, .eng, .reg] s (@State.loseEntry s x2 x3) := by
  unfold State.loseEntry
  try dsimp only
  split
  · exact Within.refl _
  · refine Within.ite (fun _ => ?_) (fun _ => ?_)
    · refine Within.ite (fun _ => ?_) (fun _ => ?_)
      · refine Within.step (State.updEntryReg_within ..) rfl ?_
        refine State.when_within (fun _ => ?_) ?_
        · refine Within.step (State.fillSeq_within ..) rfl ?_
          exact Within.refl _
        · exact Within.refl _
      · refine Within.step (State.makeDead_within ..) rfl ?_
        refine Within.step (State.updEntryReg_within ..) rfl ?_
        refine State.when_within (fun _ => ?_) ?_
        · refine Within.step (State.fillSeq_within ..) rfl ?_
          exact Within.refl _
        · exact Within.refl _
    · refine Within.step (State.freeEntry_within ..) rfl ?_
      refine Within.step (State.notice_within ..) rfl ?_
      refine Within.step (State.bump_within ..) rfl ?_
      refine State.when_within (fun _ => ?_) ?_
      · refine Within.step (State.fillSeq_within ..) rfl ?_
        exact Within.refl _
      · exact Within.refl _

theorem State.loseRecord_within (s x2) : Within [.regs, .out, .cmd, .tun, .eng, .reg, .ps] s (@State.loseRecord s x2) := by
  unfold State.loseRecord
  try dsimp only
  refine Within.ite (fun _ => ?_) (fun _ => ?_)
  · refine Within.step (State.boxDrains_within ..) rfl ?_
    refine Within.step (State.setReg_within ..) rfl ?_
    exact Within.refl _
  · refine Within.step (State.setReg_within ..) rfl ?_
    exact Within.refl _

theorem State.loseKept_within (s x2) : Within [.regs] s (@State.loseKept s x2) := by
  unfold State.loseKept
  exact (Within.step (State.setWord_within ..) rfl (Within.refl _))

theorem State.regionLost_parts (s : State) (t : TunSt) (m : MemSt) : Within [.tun, .mem] s { s with tun := t, mem := m } :=
  Within.update (Within.refl s) rfl rfl rfl rfl (fun p hp => by cases p <;> first | rfl | exact absurd (by decide) hp)

theorem State.regionLost_within (s x2) : Within [.regs, .shadow, .out, .seed, .rt, .cmd, .link, .tun, .sw, .eng, .reg, .bridge, .media, .usb,
      .power, .pd, .ps, .sec, .mem, .recorder, .boot] s (@State.regionLost s x2) := by
  unfold State.regionLost
  dsimp only
  split
  · refine Within.step (State.loseUnit_within ..) rfl ?_
    exact Within.refl _
  · refine Within.step (State.loseUnit_within ..) rfl ?_
    exact Within.refl _
  · refine forAll_within (fun t1 _ => ?_) ?_
    · refine Within.step (State.loseUnit_within ..) rfl ?_
      exact Within.refl _
    · exact Within.refl _
  · refine Within.step (State.loseRun_within ..) rfl ?_
    exact Within.refl _
  · refine Within.step (State.updEngine_within ..) rfl ?_
    exact Within.refl _
  · split
    · exact Within.step (State.regionLost_parts ..) rfl (Within.refl _)
    · exact Within.refl _
  · refine Within.step (State.engineFaults_within ..) rfl ?_
    exact Within.refl _
  · refine State.when_within (fun t1 => ?_) ?_
    · refine Within.step (State.postmasterFault_within ..) rfl ?_
      exact Within.refl _
    · exact Within.refl _
  · refine Within.step (State.setBoot_within ..) rfl ?_
    refine Within.step (State.faultSeen_within ..) rfl ?_
    exact Within.refl _
  · refine Within.step (State.loseEntry_within ..) rfl ?_
    exact Within.refl _
  · refine Within.step (State.loseRecord_within ..) rfl ?_
    exact Within.refl _
  · refine Within.step (State.syncBook_within ..) rfl ?_
    refine Within.step (State.setBook_within ..) rfl ?_
    exact Within.refl _
  · refine Within.step (State.failSet_within ..) rfl ?_
    exact Within.refl _
  · refine Within.step (State.syncApproved_within ..) rfl ?_
    refine Within.step (State.enforceKeys_within ..) rfl ?_
    refine Within.step (State.testFailed_within ..) rfl ?_
    refine Within.step (State.keyEvent_within ..) rfl ?_
    refine Within.step (State.eraseSlot_within ..) rfl ?_
    exact Within.refl _
  · refine Within.step (State.loseRecorded_within ..) rfl ?_
    exact Within.refl _
  · refine Within.step (State.loseRecorded_within ..) rfl ?_
    exact Within.refl _
  · refine Within.step (State.bump_within ..) rfl ?_
    exact Within.refl _
  · refine Within.step (State.set_within ..) rfl ?_
    exact Within.refl _
  · refine Within.step (State.syncResources_within ..) rfl ?_
    refine Within.step (State.regionLost_parts ..) rfl ?_
    refine Within.ite (fun _ => ?_) (fun _ => ?_)
    · exact Within.refl _
    · refine Within.step (State.boxFrees_within ..) rfl ?_
      exact Within.refl _
  · refine Within.step (State.setMem_within ..) rfl ?_
    exact Within.refl _
  · refine Within.step (State.setWord_within ..) rfl ?_
    exact Within.refl _
  · refine Within.step (State.setMem_within ..) rfl ?_
    exact Within.refl _
  · refine Within.step (State.set_within ..) rfl ?_
    refine Within.step (State.updPath_within ..) rfl ?_
    exact Within.refl _
  · refine Within.step (State.loseKept_within ..) rfl ?_
    exact Within.refl _

theorem State.cellFails_within (s x2) : Within [.regs, .out, .cmd, .sw, .eng, .mem] s (@State.cellFails s x2) := by
  unfold State.cellFails
  try dsimp only
  refine Within.ite (fun _ => ?_) (fun _ => ?_)
  · refine Within.step (State.retireCell_within ..) rfl ?_
    refine Within.step (State.setMem_within ..) rfl ?_
    exact Within.refl _
  · refine Within.step (State.setMem_within ..) rfl ?_
    exact Within.refl _

theorem execUncorrectableError_within (x1 x2 x3 s) : Within [.regs, .shadow, .out, .seed, .rt, .cmd, .link, .tun, .sw, .eng, .reg, .bridge, .media, .usb, .power, .pd, .ps, .sec, .mem, .recorder, .boot] s (after (@execUncorrectableError x1 x2 x3 s) s) := by
  unfold execUncorrectableError
  try dsimp only
  refine Within.of_next ?_
  refine Within.ite (fun _ => ?_) (fun _ => ?_)
  · exact Within.refl _
  · refine State.when_within (fun _ => ?_) ?_
    · refine Within.step (State.cellFails_within ..) rfl ?_
      exact Within.refl _
    · refine Within.step (State.regionLost_within ..) rfl ?_
      refine Within.step (State.memoryError_within ..) rfl ?_
      refine Within.step (State.set_within ..) rfl ?_
      refine Within.step (State.bump_within ..) rfl ?_
      exact Within.refl _

theorem State.memoryAtBoundary_within (s) : Within [.tun, .mem] s (@State.memoryAtBoundary s) := by
  unfold State.memoryAtBoundary
  exact (Within.update (Within.refl _) rfl rfl rfl rfl (fun p hp => by cases p <;> first | rfl | exact absurd (by decide) hp))

theorem execImageReloadDone_within (x1 s) : Within [.regs, .shadow, .out, .seed, .rt, .cmd, .link, .tun, .sw, .eng, .reg, .bridge, .media, .usb, .pd, .ps, .sec, .mem, .recorder, .boot] s (after (@execImageReloadDone x1 s) s) := by
  unfold execImageReloadDone
  try dsimp only
  refine Within.of_next ?_
  refine Within.ite (fun _ => ?_) (fun _ => ?_)
  · refine Within.ite (fun _ => ?_) (fun _ => ?_)
    · refine Within.step (State.setBoot_within ..) rfl ?_
      exact Within.refl _
    · refine Within.step (State.bigFault_within ..) rfl ?_
      refine Within.step (State.setBoot_within ..) rfl ?_
      exact Within.refl _
  · exact Within.refl _

end Machine
end Sys2Proof
end

