-- ==== Sys2Proof/Laws/FrameBoot.lean ====
section
/-!
SUPPORT. The frame of every operation of Machine/Boot.lean: the parts of the state it may change.
-/
namespace Sys2Proof
namespace Machine

theorem State.loseVolatile_parts (s : State) (a : PowerSt) (b : PdSt) (c : PsSt) (d : RecorderSt) (e : SecSt) :
    Within [.power, .pd, .ps, .sec, .recorder] s { s with power := a, pd := b, ps := c, recorder := d, sec := e } :=
  Within.update (Within.refl s) rfl rfl rfl rfl (fun p hp => by cases p <;> first | rfl | exact absurd (by decide) hp)

theorem State.loseVolatile_within (s) :
    Within [.regs, .shadow, .out, .seed, .rt, .cmd, .link, .tun, .sw, .eng, .reg, .bridge, .media, .usb, .power, .pd, .ps, .sec,
      .mem, .recorder, .boot] s (@State.loseVolatile s) := by
  unfold State.loseVolatile
  exact Within.step (State.setFlag_within ..) rfl (forAll_within (fun _ _ => Within.step (State.set_within ..) rfl
    (Within.refl _)) (Within.step (State.loseVolatile_parts ..) rfl (Within.step (State.resetFields_within ..) rfl (Within.step
    (State.dropCore_within ..) rfl (Within.step (State.debugEnds_within ..) rfl (Within.refl _))))))

theorem execPowerOn_within (s) : Within [.regs, .shadow, .out, .seed, .rt, .cmd, .link, .tun, .sw, .eng, .reg, .bridge, .media, .usb, .power, .pd, .ps, .sec, .mem, .recorder, .boot] s (after (@execPowerOn s) s) := by
  unfold execPowerOn
  try dsimp only
  refine Within.of_next ?_
  refine Within.ite (fun _ => ?_) (fun _ => ?_)
  · exact Within.refl _
  · refine Within.step (State.setBoot_within ..) rfl ?_
    refine Within.step (State.setCause_within ..) rfl ?_
    refine Within.step (State.loseVolatile_within ..) rfl ?_
    exact Within.refl _

theorem State.cutWrites_within (s) : Within [.regs, .seed, .reg] s (@State.cutWrites s) := by
  unfold State.cutWrites
  exact (forAll_within (fun _ _ => (Within.ite (fun _ => (Within.step (State.updEntryReg_within ..) rfl (Within.step
    (State.draw_within ..) rfl (Within.refl _)))) (fun _ => (Within.step (State.freeEntry_within ..) rfl (Within.step
    (State.draw_within ..) rfl (Within.refl _)))))) (Within.refl _))

theorem execKeepLoss_within (s) : Within [.regs, .shadow, .out, .seed, .rt, .cmd, .link, .tun, .sw, .eng, .reg, .bridge, .media, .usb, .power, .pd, .ps, .sec, .mem, .recorder, .boot] s (after (@execKeepLoss s) s) := by
  unfold execKeepLoss
  try dsimp only
  refine Within.of_next ?_
  refine Within.ite (fun _ => ?_) (fun _ => ?_)
  · exact Within.refl _
  · refine Within.step (State.setBoot_within ..) rfl ?_
    refine Within.step (State.setSec_within ..) rfl ?_
    refine forAll_within (fun _ _ => ?_) ?_
    · refine Within.step (State.emit_within ..) rfl ?_
      exact Within.refl _
    · refine forAll_within (fun _ _ => ?_) ?_
      · refine Within.step (State.emit_within ..) rfl ?_
        exact Within.refl _
      · refine Within.step (State.loseVolatile_within ..) rfl ?_
        refine Within.step (State.cutWrites_within ..) rfl ?_
        exact Within.refl _

theorem State.checkDual_within (s x2) : Within [.regs, .shadow, .out, .seed, .rt, .cmd, .link, .tun, .sw, .eng, .reg, .bridge, .media, .usb, .power, .pd, .ps, .sec, .mem, .recorder, .boot] s (@State.checkDual s x2) := by
  unfold State.checkDual
  try dsimp only
  split
  · refine Within.step (State.regionLost_within ..) rfl ?_
    exact Within.refl _
  · refine Within.ite (fun _ => ?_) (fun _ => ?_)
    · refine Within.step (State.regionLost_within ..) rfl ?_
      refine Within.step (State.memoryError_within ..) rfl ?_
      exact Within.refl _
    · exact Within.refl _

theorem execKeeperRelease_within (x1 s) : Within [.regs, .shadow, .out, .seed, .rt, .cmd, .link, .tun, .sw, .eng, .reg, .bridge, .media, .usb, .power, .pd, .ps, .sec, .mem, .recorder, .boot] s (after (@execKeeperRelease x1 s) s) := by
  unfold execKeeperRelease
  try dsimp only
  refine Within.of_next ?_
  refine Within.ite (fun _ => ?_) (fun _ => ?_)
  · exact Within.refl _
  · refine State.when_within (fun _ => ?_) ?_
    · refine Within.step (State.setWord_within ..) rfl ?_
      exact Within.refl _
    · refine forAll_within (fun _ _ => ?_) ?_
      · refine Within.step (State.set_within ..) rfl ?_
        exact Within.refl _
      · refine Within.step (State.setFlag_within ..) rfl ?_
        refine forAll_within (fun _ _ => ?_) ?_
        · refine Within.step (State.checkDual_within ..) rfl ?_
          exact Within.refl _
        · refine Within.step (State.setBoot_within ..) rfl ?_
          exact Within.refl _

theorem State.imageStarts_within (s x2 x3) : Within [.regs, .out, .seed, .rt, .cmd, .tun, .eng, .reg, .ps, .boot] s (@State.imageStarts s x2 x3) := by
  unfold State.imageStarts
  try dsimp only
  refine Within.step (State.postmasterStarts_within ..) rfl ?_
  refine Within.step (State.syncApproved_within ..) rfl ?_
  refine Within.step (State.setBoot_within ..) rfl ?_
  refine Within.step (State.set_within ..) rfl ?_
  refine Within.step (State.set_within ..) rfl ?_
  refine Within.step (State.draw_within ..) rfl ?_
  exact Within.refl _

theorem State.slotFails_within (s x2 x3) : Within [.regs, .out, .cmd, .eng, .boot] s (@State.slotFails s x2 x3) := by
  unfold State.slotFails
  try dsimp only
  refine Within.ite (fun _ => ?_) (fun _ => ?_)
  · refine Within.step (State.restartBook_within ..) rfl ?_
    refine Within.step (State.set_within ..) rfl ?_
    refine Within.step (State.setBoot_within ..) rfl ?_
    refine Within.step (State.setFlag_within ..) rfl ?_
    refine Within.step (State.bump_within ..) rfl ?_
    exact Within.refl _
  · refine Within.step (State.setBoot_within ..) rfl ?_
    refine Within.step (State.setBoot_within ..) rfl ?_
    refine Within.step (State.setFlag_within ..) rfl ?_
    refine Within.step (State.bump_within ..) rfl ?_
    exact Within.refl _

theorem execImageVerified_within (x1 x2 s) : Within [.regs, .out, .seed, .rt, .cmd, .tun, .eng, .reg, .ps, .boot] s (after (@execImageVerified x1 x2 s) s) := by
  unfold execImageVerified
  try dsimp only
  refine Within.of_next ?_
  refine Within.ite (fun _ => ?_) (fun _ => ?_)
  · exact Within.refl _
  · refine Within.ite (fun _ => ?_) (fun _ => ?_)
    · refine Within.step (State.slotFails_within ..) rfl ?_
      exact Within.refl _
    · refine Within.step (State.imageStarts_within ..) rfl ?_
      exact Within.refl _

theorem execBootFlashTimeout_within (x1 s) : Within [.regs, .out, .cmd, .eng, .boot] s (after (@execBootFlashTimeout x1 s) s) := by
  unfold execBootFlashTimeout
  try dsimp only
  refine Within.of_next ?_
  refine Within.ite (fun _ => ?_) (fun _ => ?_)
  · refine Within.step (State.slotFails_within ..) rfl ?_
    exact Within.refl _
  · exact Within.refl _

theorem execTrialEnd_within (s) : Within [.regs] s (after (@execTrialEnd s) s) := by
  unfold execTrialEnd
  exact (Within.ite (fun _ => (Within.step (State.setFlag_within ..) rfl (Within.refl _))) (fun _ => (Within.refl _)))

theorem execResetNAssert_within (s) : Within [.regs, .shadow, .out, .rt, .cmd, .link, .tun, .sw, .eng, .reg, .bridge, .media, .usb, .ps, .sec, .mem, .boot] s (after (@execResetNAssert s) s) := by
  unfold execResetNAssert
  try dsimp only
  refine Within.of_next ?_
  refine Within.ite (fun _ => ?_) (fun _ => ?_)
  · refine Within.step (State.setFlag_within ..) rfl ?_
    exact Within.refl _
  · refine Within.ite (fun _ => ?_) (fun _ => ?_)
    · refine Within.step (State.set_within ..) rfl ?_
      refine Within.step (State.dropCore_within ..) rfl ?_
      refine Within.step (State.debugEnds_within ..) rfl ?_
      refine Within.step (State.setBoot_within ..) rfl ?_
      refine Within.step (State.setFlag_within ..) rfl ?_
      exact Within.refl _
    · refine Within.step (State.setBoot_within ..) rfl ?_
      refine Within.step (State.setFlag_within ..) rfl ?_
      exact Within.refl _

theorem execResetNRelease_within (s) : Within [.regs, .shadow, .out, .seed, .rt, .cmd, .link, .tun, .sw, .eng, .reg, .bridge, .media, .usb, .pd, .ps, .sec, .mem, .recorder, .boot] s (after (@execResetNRelease s) s) := by
  unfold execResetNRelease
  try dsimp only
  refine Within.of_next ?_
  refine Within.ite (fun _ => ?_) (fun _ => ?_)
  · refine Within.step (State.setFlag_within ..) rfl ?_
    exact Within.refl _
  · refine Within.ite (fun _ => ?_) (fun _ => ?_)
    · refine Within.step (State.hubReset_within ..) rfl ?_
      refine Within.step (State.setBoot_within ..) rfl ?_
      refine Within.step (State.setFlag_within ..) rfl ?_
      exact Within.refl _
    · refine Within.step (State.setBoot_within ..) rfl ?_
      refine Within.step (State.setFlag_within ..) rfl ?_
      exact Within.refl _

theorem State.doneAfterReset_within (s x2 x3) : Within [.cmd] s (@State.doneAfterReset s x2 x3) := by
  unfold State.doneAfterReset
  exact (Within.step (State.updEntry_within ..) rfl (Within.refl _))

theorem execResetHub_within (x1 x2 s) : Within [.regs, .out, .cmd, .eng, .ps, .mem, .boot] s (after (@execResetHub x1 x2 s) s) := by
  unfold execResetHub
  try dsimp only
  refine Within.of_next ?_
  refine State.runOpcode_keeps rfl (fun _ _ => ?_) ?_
  · refine Within.ite_fst (fun _ => ?_) (fun _ => ?_)
    · dsimp only
      exact Within.refl _
    · refine Within.ite_fst (fun _ => ?_) (fun _ => ?_)
      · dsimp only
        exact Within.refl _
      · dsimp only
        refine Within.step (State.setBoot_within ..) rfl ?_
        refine Within.step (State.doneAfterReset_within ..) rfl ?_
        exact Within.refl _
  · exact Within.refl _

theorem State.resetAtBoundary_within (s) : Within [.regs, .shadow, .out, .seed, .rt, .cmd, .link, .tun, .sw, .eng, .reg, .bridge, .media, .usb, .pd, .ps, .sec, .mem, .recorder, .boot] s (@State.resetAtBoundary s) := by
  unfold State.resetAtBoundary
  try dsimp only
  split
  · exact Within.refl _
  · refine Within.ite (fun _ => ?_) (fun _ => ?_)
    · refine State.when_within (fun _ => ?_) ?_
      · refine Within.step (State.set_within ..) rfl ?_
        exact Within.refl _
      · refine Within.step (State.postmasterReset_within ..) rfl ?_
        refine Within.step (State.setBoot_within ..) rfl ?_
        exact Within.refl _
    · refine Within.ite (fun _ => ?_) (fun _ => ?_)
      · refine Within.step (State.hubReset_within ..) rfl ?_
        refine Within.step (State.setBoot_within ..) rfl ?_
        exact Within.refl _
      · refine Within.step (State.coreCycle_within ..) rfl ?_
        refine Within.step (State.setBoot_within ..) rfl ?_
        exact Within.refl _

theorem execFwStageImage_within (x1 x2 x3 x4 s) : Within [.regs, .out, .cmd, .eng, .ps, .mem] s (after (@execFwStageImage x1 x2 x3 x4 s) s) := by
  unfold execFwStageImage
  try dsimp only
  refine Within.of_next ?_
  refine State.runOpcode_keeps rfl (fun _ _ => ?_) ?_
  · refine Within.ite_fst (fun _ => ?_) (fun _ => ?_)
    · dsimp only
      exact Within.refl _
    · refine Within.ite_fst (fun _ => ?_) (fun _ => ?_)
      · dsimp only
        exact Within.refl _
      · refine Within.ite_fst (fun _ => ?_) (fun _ => ?_)
        · dsimp only
          refine Within.ite (fun _ => ?_) (fun _ => ?_)
          · refine Within.step (State.set_within ..) rfl ?_
            exact Within.refl _
          · exact Within.refl _
        · dsimp only
          refine Within.step (State.set_within ..) rfl ?_
          exact Within.refl _
  · exact Within.refl _

theorem execFwActivate_within (x1 x2 x3 s) : Within [.regs, .out, .seed, .cmd, .eng, .ps, .mem, .boot] s (after (@execFwActivate x1 x2 x3 s) s) := by
  unfold execFwActivate
  try dsimp only
  refine Within.of_next ?_
  refine State.runOpcode_keeps rfl (fun _ _ => ?_) ?_
  · refine Within.ite_fst (fun _ => ?_) (fun _ => ?_)
    · dsimp only
      exact Within.refl _
    · refine Within.ite_fst (fun _ => ?_) (fun _ => ?_)
      · dsimp only
        exact Within.refl _
      · refine Within.ite_fst (fun _ => ?_) (fun _ => ?_)
        · dsimp only
          exact Within.refl _
        · refine Within.ite_fst (fun _ => ?_) (fun _ => ?_)
          · dsimp only
            exact Within.refl _
          · refine Within.ite_fst (fun _ => ?_) (fun _ => ?_)
            · dsimp only
              exact Within.refl _
            · refine Within.ite_fst (fun _ => ?_) (fun _ => ?_)
              · refine Within.ite_fst (fun _ => ?_) (fun _ => ?_)
                · dsimp only
                  refine Within.step (State.setBoot_within ..) rfl ?_
                  refine Within.step (State.doneAfterReset_within ..) rfl ?_
                  refine Within.step (State.draw_within ..) rfl ?_
                  exact Within.refl _
                · dsimp only
                  exact Within.refl _
              · dsimp only
                refine Within.step (State.setBoot_within ..) rfl ?_
                refine Within.step (State.doneAfterReset_within ..) rfl ?_
                refine Within.step (State.set_within ..) rfl ?_
                refine Within.step (State.setFlag_within ..) rfl ?_
                refine Within.step (State.set_within ..) rfl ?_
                exact Within.refl _
  · exact Within.refl _

end Machine
end Sys2Proof
end

