-- ==== Sys2Proof/Laws/FrameLanes.lean ====
section
/-!
SUPPORT. The frame of every operation of Machine/Lanes.lean: the parts of the state it may change.
-/
namespace Sys2Proof
namespace Machine

theorem State.portEnable_within (s x2 x3) : Within [.regs, .out, .seed, .cmd, .link, .tun, .eng] s (@State.portEnable s x2 x3) := by
  unfold State.portEnable
  try dsimp only
  refine Within.ite (fun _ => ?_) (fun _ => ?_)
  · refine Within.ite (fun _ => ?_) (fun _ => ?_)
    · refine Within.ite (fun _ => ?_) (fun _ => ?_)
      · refine Within.step (State.enterHunt_within ..) rfl ?_
        refine Within.step (State.setFlag_within ..) rfl ?_
        exact Within.refl _
      · refine Within.step (State.setFlag_within ..) rfl ?_
        exact Within.refl _
    · refine Within.step (State.emit_within ..) rfl ?_
      exact Within.refl _
  · refine Within.step (State.holdPort_within ..) rfl ?_
    exact Within.refl _

theorem execPortEnable_within (x1 x2 s) : Within [.regs, .out, .seed, .cmd, .link, .tun, .eng] s (after (@execPortEnable x1 x2 s) s) := by
  unfold execPortEnable
  try dsimp only
  refine Within.of_next ?_
  refine Within.step (State.portEnable_within ..) rfl ?_
  exact Within.refl _

theorem State.lockChanged_within (s x2) : Within [.link] s (@State.lockChanged s x2) := by
  unfold State.lockChanged
  try dsimp only
  refine Within.ite (fun _ => ?_) (fun _ => ?_)
  · refine Within.step (State.updPort_within ..) rfl ?_
    exact Within.refl _
  · exact Within.refl _

theorem execBlockLock_within (x1 x2 s) : Within [.regs, .out, .cmd, .link, .tun, .eng] s (after (@execBlockLock x1 x2 s) s) := by
  unfold execBlockLock
  try dsimp only
  refine Within.of_next ?_
  refine Within.ite (fun _ => ?_) (fun _ => ?_)
  · exact Within.refl _
  · refine Within.step (State.advancePort_within ..) rfl ?_
    refine Within.step (State.sendTrain_within ..) rfl ?_
    refine Within.step (State.syncLanes_within ..) rfl ?_
    refine Within.step (State.lockChanged_within ..) rfl ?_
    refine Within.step (State.updPort_within ..) rfl ?_
    exact Within.refl _

theorem State.loseLock_within (s x2 x3) : Within [.regs, .link] s (@State.loseLock s x2 x3) := by
  unfold State.loseLock
  try dsimp only
  refine Within.ite (fun _ => ?_) (fun _ => ?_)
  · refine Within.step (State.sendTrain_within ..) rfl ?_
    refine Within.step (State.syncLanes_within ..) rfl ?_
    refine Within.step (State.lockChanged_within ..) rfl ?_
    refine Within.step (State.set_within ..) rfl ?_
    refine Within.step (State.bump_within ..) rfl ?_
    refine Within.step (State.updPort_within ..) rfl ?_
    exact Within.refl _
  · exact Within.refl _

theorem execBlockLockLoss_within (x1 x2 s) : Within [.regs, .out, .link] s (after (@execBlockLockLoss x1 x2 s) s) := by
  unfold execBlockLockLoss
  exact (Within.step (State.loseLock_within ..) rfl (Within.refl _))

theorem State.newMask_within (s x2 x3) : Within [.regs, .out, .cmd, .link, .tun, .eng] s (@State.newMask s x2 x3) := by
  unfold State.newMask
  try dsimp only
  refine Within.step (State.setMasks_within ..) rfl ?_
  refine Within.step (State.updPort_within ..) rfl ?_
  refine Within.ite (fun _ => ?_) (fun _ => ?_)
  · refine Within.step (State.bump_within ..) rfl ?_
    exact Within.refl _
  · exact Within.refl _

theorem State.takeSkew_within (s x2 x3 x4) : Within [.regs, .link] s (@State.takeSkew s x2 x3 x4) := by
  unfold State.takeSkew
  try dsimp only
  refine Within.ite (fun _ => ?_) (fun _ => ?_)
  · refine Within.ite (fun _ => ?_) (fun _ => ?_)
    · refine Within.step (State.bump_within ..) rfl ?_
      refine Within.step (State.updPort_within ..) rfl ?_
      refine Within.step (State.set_within ..) rfl ?_
      exact Within.refl _
    · refine Within.step (State.updPort_within ..) rfl ?_
      refine Within.step (State.bump_within ..) rfl ?_
      refine Within.step (State.updPort_within ..) rfl ?_
      refine Within.step (State.set_within ..) rfl ?_
      exact Within.refl _
  · refine Within.step (State.updPort_within ..) rfl ?_
    refine Within.step (State.set_within ..) rfl ?_
    exact Within.refl _

theorem State.takeMark_within (s x2 x3 x4 x5 x6 x7) : Within [.regs, .out, .cmd, .link, .tun, .eng] s (@State.takeMark s x2 x3 x4 x5 x6 x7) := by
  unfold State.takeMark
  try dsimp only
  refine Within.ite (fun _ => ?_) (fun _ => ?_)
  · refine Within.step (State.newMask_within ..) rfl ?_
    refine Within.ite (fun _ => ?_) (fun _ => ?_)
    · refine Within.step (State.bump_within ..) rfl ?_
      refine Within.step (State.updPort_within ..) rfl ?_
      refine Within.step (State.bump_within ..) rfl ?_
      refine Within.step (State.bump_within ..) rfl ?_
      refine Within.step (State.takeSkew_within ..) rfl ?_
      exact Within.refl _
    · refine Within.step (State.updPort_within ..) rfl ?_
      refine Within.step (State.bump_within ..) rfl ?_
      refine Within.step (State.bump_within ..) rfl ?_
      refine Within.step (State.takeSkew_within ..) rfl ?_
      exact Within.refl _
  · refine Within.ite (fun _ => ?_) (fun _ => ?_)
    · refine Within.step (State.bump_within ..) rfl ?_
      refine Within.step (State.updPort_within ..) rfl ?_
      refine Within.step (State.bump_within ..) rfl ?_
      refine Within.step (State.bump_within ..) rfl ?_
      refine Within.step (State.takeSkew_within ..) rfl ?_
      exact Within.refl _
    · refine Within.step (State.updPort_within ..) rfl ?_
      refine Within.step (State.bump_within ..) rfl ?_
      refine Within.step (State.bump_within ..) rfl ?_
      refine Within.step (State.takeSkew_within ..) rfl ?_
      exact Within.refl _

theorem execGroupMark_within (x1 x2 x3 x4 x5 x6 x7 x8 x9 s) : Within [.regs, .out, .cmd, .link, .tun, .eng] s (after (@execGroupMark x1 x2 x3 x4 x5 x6 x7 x8 x9 s) s) := by
  unfold execGroupMark
  try dsimp only
  refine Within.of_next ?_
  refine Within.ite (fun _ => ?_) (fun _ => ?_)
  · exact Within.refl _
  · refine Within.ite (fun _ => ?_) (fun _ => ?_)
    · refine Within.step (State.takeMark_within ..) rfl ?_
      refine Within.step (State.updPort_within ..) rfl ?_
      refine Within.step (State.updPort_within ..) rfl ?_
      exact Within.refl _
    · refine Within.ite (fun _ => ?_) (fun _ => ?_)
      · refine Within.step (State.loseLock_within ..) rfl ?_
        refine Within.step (State.updPort_within ..) rfl ?_
        exact Within.refl _
      · refine Within.step (State.updPort_within ..) rfl ?_
        refine Within.step (State.updPort_within ..) rfl ?_
        exact Within.refl _

theorem execCodewordUncorrectable_within (x1 x2 x3 s) : Within [.regs, .link] s (after (@execCodewordUncorrectable x1 x2 x3 s) s) := by
  unfold execCodewordUncorrectable
  try dsimp only
  refine Within.of_next ?_
  refine Within.ite (fun _ => ?_) (fun _ => ?_)
  · refine Within.step (State.loseLock_within ..) rfl ?_
    refine Within.step (State.updPort_within ..) rfl ?_
    refine Within.step (State.bump_within ..) rfl ?_
    refine Within.step (State.bump_within ..) rfl ?_
    exact Within.refl _
  · refine Within.step (State.updPort_within ..) rfl ?_
    refine Within.step (State.bump_within ..) rfl ?_
    refine Within.step (State.bump_within ..) rfl ?_
    exact Within.refl _

theorem execTrain_within (x1 x2 x3 s) : Within [.regs, .out, .cmd, .link, .tun, .eng] s (after (@execTrain x1 x2 x3 s) s) := by
  unfold execTrain
  try dsimp only
  refine Within.of_next ?_
  refine Within.ite (fun _ => ?_) (fun _ => ?_)
  · exact Within.refl _
  · refine Within.ite (fun _ => ?_) (fun _ => ?_)
    · refine Within.step (State.bump_within ..) rfl ?_
      exact Within.refl _
    · refine Within.ite (fun _ => ?_) (fun _ => ?_)
      · refine State.when_within (fun _ => ?_) ?_
        · refine Within.step (State.bump_within ..) rfl ?_
          exact Within.refl _
        · refine Within.step (State.updPort_within ..) rfl ?_
          exact Within.refl _
      · refine Within.step (State.advancePort_within ..) rfl ?_
        refine Within.ite (fun _ => ?_) (fun _ => ?_)
        · refine Within.step (State.setMasks_within ..) rfl ?_
          refine Within.step (State.updPort_within ..) rfl ?_
          refine Within.step (State.updPort_within ..) rfl ?_
          exact Within.refl _
        · refine Within.step (State.syncLanes_within ..) rfl ?_
          refine Within.step (State.updPort_within ..) rfl ?_
          refine Within.step (State.updPort_within ..) rfl ?_
          exact Within.refl _

theorem execTapReq_within (x1 x2 s) : Within [.regs, .link] s (after (@execTapReq x1 x2 s) s) := by
  unfold execTapReq
  try dsimp only
  refine Within.of_next ?_
  refine Within.ite (fun _ => ?_) (fun _ => ?_)
  · refine Within.step (State.bump_within ..) rfl ?_
    exact Within.refl _
  · split
    · refine Within.step (State.updPort_within ..) rfl ?_
      exact Within.refl _
    · refine Within.step (State.updPort_within ..) rfl ?_
      refine Within.step (State.setTaps_within ..) rfl ?_
      exact Within.refl _

theorem execTapAck_within (x1 x2 x3 x4 s) : Within [.regs, .link] s (after (@execTapAck x1 x2 x3 x4 s) s) := by
  unfold execTapAck
  exact (Within.ite (fun _ => (Within.step (State.updPort_within ..) rfl (Within.refl _))) (fun _ => (Within.step
    (State.bump_within ..) rfl (Within.refl _))))

theorem execWidthReq_within (x1 x2 x3 x4 s) : Within [.regs, .out, .rt, .cmd, .link, .tun, .eng] s (after (@execWidthReq x1 x2 x3 x4 s) s) := by
  unfold execWidthReq
  try dsimp only
  refine Within.of_next ?_
  refine Within.ite (fun _ => ?_) (fun _ => ?_)
  · refine Within.step (State.bump_within ..) rfl ?_
    exact Within.refl _
  · refine Within.ite (fun _ => ?_) (fun _ => ?_)
    · refine Within.ite (fun _ => ?_) (fun _ => ?_)
      · refine Within.step (State.at_within ..) rfl ?_
        exact Within.refl _
      · refine Within.step (State.updPort_within ..) rfl ?_
        refine Within.step (State.at_within ..) rfl ?_
        exact Within.refl _
    · refine Within.ite (fun _ => ?_) (fun _ => ?_)
      · refine Within.step (State.at_within ..) rfl ?_
        exact Within.refl _
      · refine Within.step (State.setMasks_within ..) rfl ?_
        refine Within.step (State.updPort_within ..) rfl ?_
        refine Within.step (State.at_within ..) rfl ?_
        exact Within.refl _

theorem execLanePower_within (x1 x2 x3 x4 s) : Within [.regs, .link] s (after (@execLanePower x1 x2 x3 x4 s) s) := by
  unfold execLanePower
  exact (Within.ite (fun _ => (Within.step (State.bump_within ..) rfl (Within.refl _))) (fun _ => (Within.step
    (State.updPort_within ..) rfl (Within.refl _))))

theorem execHuntRestart_within (x1 s) : Within [.regs, .link] s (after (@execHuntRestart x1 s) s) := by
  unfold execHuntRestart
  exact (Within.ite (fun _ => (Within.step (State.syncLanes_within ..) rfl (Within.step (State.bump_within ..) rfl (Within.step
    (State.updPort_within ..) rfl (Within.refl _))))) (fun _ => (Within.refl _)))

theorem State.chooseAlign_within (s x2) : Within [.link] s (@State.chooseAlign s x2) := by
  unfold State.chooseAlign
  try dsimp only
  refine Within.step (State.updPort_within ..) rfl ?_
  exact Within.refl _

theorem execAlignStable_within (x1 s) : Within [.regs, .out, .cmd, .link, .tun, .eng] s (after (@execAlignStable x1 s) s) := by
  unfold execAlignStable
  try dsimp only
  refine Within.of_next ?_
  refine Within.ite (fun _ => ?_) (fun _ => ?_)
  · refine Within.step (State.advancePort_within ..) rfl ?_
    refine Within.step (State.chooseAlign_within ..) rfl ?_
    exact Within.refl _
  · exact Within.refl _

theorem execAlignTimeout_within (x1 s) : Within [.regs, .out, .seed, .cmd, .link, .tun, .eng] s (after (@execAlignTimeout x1 s) s) := by
  unfold execAlignTimeout
  try dsimp only
  refine Within.of_next ?_
  refine Within.ite (fun _ => ?_) (fun _ => ?_)
  · exact Within.refl _
  · refine Within.ite (fun _ => ?_) (fun _ => ?_)
    · refine Within.step (State.enterHunt_within ..) rfl ?_
      exact Within.refl _
    · refine Within.step (State.advancePort_within ..) rfl ?_
      refine Within.step (State.chooseAlign_within ..) rfl ?_
      refine Within.step (State.updPort_within ..) rfl ?_
      exact Within.refl _

theorem State.setReady_within (s x2) : Within [.regs, .out, .cmd, .link, .tun, .eng] s (@State.setReady s x2) := by
  unfold State.setReady
  try dsimp only
  refine Within.step (State.advancePort_within ..) rfl ?_
  refine Within.step (State.sendTrain_within ..) rfl ?_
  refine Within.step (State.updPort_within ..) rfl ?_
  exact Within.refl _

theorem execTuneReady_within (x1 s) : Within [.regs, .out, .cmd, .link, .tun, .eng] s (after (@execTuneReady x1 s) s) := by
  unfold execTuneReady
  try dsimp only
  refine Within.of_next ?_
  refine Within.ite (fun _ => ?_) (fun _ => ?_)
  · refine Within.step (State.setReady_within ..) rfl ?_
    exact Within.refl _
  · exact Within.refl _

theorem execTuneTimeout_within (x1 x2 s) : Within [.regs, .out, .seed, .cmd, .link, .tun, .eng] s (after (@execTuneTimeout x1 x2 s) s) := by
  unfold execTuneTimeout
  try dsimp only
  refine Within.of_next ?_
  refine Within.ite (fun _ => ?_) (fun _ => ?_)
  · refine Within.ite (fun _ => ?_) (fun _ => ?_)
    · refine Within.step (State.enterHunt_within ..) rfl ?_
      exact Within.refl _
    · refine Within.step (State.setReady_within ..) rfl ?_
      refine Within.step (State.setMasks_within ..) rfl ?_
      refine Within.step (State.updPort_within ..) rfl ?_
      exact Within.refl _
  · refine Within.ite (fun _ => ?_) (fun _ => ?_)
    · refine Within.ite (fun _ => ?_) (fun _ => ?_)
      · refine Within.step (State.setReady_within ..) rfl ?_
        refine Within.step (State.setMasks_within ..) rfl ?_
        refine Within.step (State.updPort_within ..) rfl ?_
        exact Within.refl _
      · refine Within.step (State.enterRelockHalf_within ..) rfl ?_
        exact Within.refl _
    · exact Within.refl _

theorem execStepTimeout_within (x1 s) : Within [.regs, .out, .cmd, .link, .tun, .eng] s (after (@execStepTimeout x1 s) s) := by
  unfold execStepTimeout
  try dsimp only
  refine Within.of_next ?_
  refine Within.ite (fun _ => ?_) (fun _ => ?_)
  · refine Within.step (State.enterCheck_within ..) rfl ?_
    refine Within.step (State.updPort_within ..) rfl ?_
    exact Within.refl _
  · exact Within.refl _

theorem execRelockFullTimeout_within (x1 s) : Within [.regs, .out, .cmd, .link, .tun, .eng] s (after (@execRelockFullTimeout x1 s) s) := by
  unfold execRelockFullTimeout
  try dsimp only
  refine Within.of_next ?_
  refine Within.ite (fun _ => ?_) (fun _ => ?_)
  · refine Within.step (State.enterRelockHalf_within ..) rfl ?_
    refine Within.step (State.bump_within ..) rfl ?_
    exact Within.refl _
  · exact Within.refl _

theorem execRelockHalfTimeout_within (x1 s) : Within [.regs, .out, .seed, .cmd, .link, .tun, .eng] s (after (@execRelockHalfTimeout x1 s) s) := by
  unfold execRelockHalfTimeout
  try dsimp only
  refine Within.of_next ?_
  refine Within.ite (fun _ => ?_) (fun _ => ?_)
  · refine Within.step (State.enterHunt_within ..) rfl ?_
    exact Within.refl _
  · exact Within.refl _

theorem execCheckComplete_within (x1 x2 s) : Within [.regs, .out, .seed, .cmd, .link, .tun, .eng] s (after (@execCheckComplete x1 x2 s) s) := by
  unfold execCheckComplete
  try dsimp only
  refine Within.of_next ?_
  refine Within.ite (fun _ => ?_) (fun _ => ?_)
  · exact Within.refl _
  · refine Within.ite (fun _ => ?_) (fun _ => ?_)
    · refine Within.step (State.enterActive_within ..) rfl ?_
      exact Within.refl _
    · refine Within.ite (fun _ => ?_) (fun _ => ?_)
      · refine Within.step (State.enterRelockHalf_within ..) rfl ?_
        refine Within.step (State.bump_within ..) rfl ?_
        exact Within.refl _
      · refine Within.step (State.enterHunt_within ..) rfl ?_
        refine Within.step (State.bump_within ..) rfl ?_
        exact Within.refl _

theorem execDirectionLost_within (x1 s) : Within [.regs, .out, .seed, .cmd, .link, .tun, .eng] s (after (@execDirectionLost x1 s) s) := by
  unfold execDirectionLost
  try dsimp only
  refine Within.of_next ?_
  refine Within.ite (fun _ => ?_) (fun _ => ?_)
  · refine Within.step (State.enterHunt_within ..) rfl ?_
    exact Within.refl _
  · exact Within.refl _

theorem execLaneDegrade_within (x1 x2 x3 s) : Within [.regs, .rt, .link] s (after (@execLaneDegrade x1 x2 x3 s) s) := by
  unfold execLaneDegrade
  try dsimp only
  refine Within.of_next ?_
  refine Within.ite (fun _ => ?_) (fun _ => ?_)
  · exact Within.refl _
  · refine Within.step (State.updPort_within ..) rfl ?_
    refine Within.step (State.updPort_within ..) rfl ?_
    refine Within.step (State.bump_within ..) rfl ?_
    refine Within.step (State.at_within ..) rfl ?_
    exact Within.refl _

theorem execLaneRestore_within (x1 s) : Within [.link] s (after (@execLaneRestore x1 s) s) := by
  unfold execLaneRestore
  try dsimp only
  refine Within.of_next ?_
  refine Within.ite (fun _ => ?_) (fun _ => ?_)
  · refine Within.step (State.updPort_within ..) rfl ?_
    exact Within.refl _
  · exact Within.refl _

theorem State.setModule_within (s x2 x3) : Within [.regs, .out, .cmd, .eng] s (@State.setModule s x2 x3) := by
  unfold State.setModule
  try dsimp only
  refine Within.ite (fun _ => ?_) (fun _ => ?_)
  · exact Within.refl _
  · refine Within.step (State.notice_within ..) rfl ?_
    refine Within.step (State.set_within ..) rfl ?_
    exact Within.refl _

theorem execModulePresChange_within (x1 x2 s) : Within [.regs, .out, .cmd, .link, .eng] s (after (@execModulePresChange x1 x2 s) s) := by
  unfold execModulePresChange
  try dsimp only
  refine Within.of_next ?_
  refine Within.ite (fun _ => ?_) (fun _ => ?_)
  · exact Within.refl _
  · refine Within.step (State.notice_within ..) rfl ?_
    refine Within.step (State.manageModule_within ..) rfl ?_
    refine Within.step (State.setFlag_within ..) rfl ?_
    exact Within.refl _

theorem execModuleInt_within (x1 s) : Within [.out] s (after (@execModuleInt x1 s) s) := by
  unfold execModuleInt
  exact (Within.ite (fun _ => (Within.step (State.emit_within ..) rfl (Within.refl _))) (fun _ => (Within.refl _)))

theorem execModuleReply_within (x1 x2 s) : Within [.regs, .out, .cmd, .link, .eng] s (after (@execModuleReply x1 x2 s) s) := by
  unfold execModuleReply
  try dsimp only
  refine Within.of_next ?_
  refine Within.ite (fun _ => ?_) (fun _ => ?_)
  · exact Within.refl _
  · split
    · refine Within.ite (fun _ => ?_) (fun _ => ?_)
      · refine Within.step (State.updPort_within ..) rfl ?_
        exact Within.refl _
      · refine Within.ite (fun _ => ?_) (fun _ => ?_)
        · refine Within.step (State.setModule_within ..) rfl ?_
          refine Within.step (State.updPort_within ..) rfl ?_
          exact Within.refl _
        · refine Within.step (State.emit_within ..) rfl ?_
          refine Within.step (State.updPort_within ..) rfl ?_
          refine Within.step (State.updPort_within ..) rfl ?_
          exact Within.refl _
    · refine Within.ite (fun _ => ?_) (fun _ => ?_)
      · refine Within.step (State.setModule_within ..) rfl ?_
        refine Within.step (State.updPort_within ..) rfl ?_
        exact Within.refl _
      · refine Within.step (State.updPort_within ..) rfl ?_
        exact Within.refl _
    · refine Within.step (State.updPort_within ..) rfl ?_
      refine Within.step (State.set_within ..) rfl ?_
      refine Within.step (State.set_within ..) rfl ?_
      refine Within.step (State.updPort_within ..) rfl ?_
      exact Within.refl _

theorem execModuleTransactionTimeout_within (x1 s) : Within [.regs, .out, .cmd, .link, .eng] s (after (@execModuleTransactionTimeout x1 s) s) := by
  unfold execModuleTransactionTimeout
  try dsimp only
  refine Within.of_next ?_
  refine Within.ite (fun _ => ?_) (fun _ => ?_)
  · exact Within.refl _
  · refine Within.ite (fun _ => ?_) (fun _ => ?_)
    · refine Within.step (State.setModule_within ..) rfl ?_
      refine Within.step (State.updPort_within ..) rfl ?_
      refine Within.step (State.bump_within ..) rfl ?_
      exact Within.refl _
    · refine Within.step (State.updPort_within ..) rfl ?_
      refine Within.step (State.bump_within ..) rfl ?_
      exact Within.refl _

theorem execModuleReadyTimeout_within (x1 s) : Within [.regs, .out, .cmd, .link, .eng] s (after (@execModuleReadyTimeout x1 s) s) := by
  unfold execModuleReadyTimeout
  try dsimp only
  refine Within.of_next ?_
  refine Within.ite (fun _ => ?_) (fun _ => ?_)
  · refine Within.step (State.setModule_within ..) rfl ?_
    refine Within.step (State.emit_within ..) rfl ?_
    refine Within.step (State.bump_within ..) rfl ?_
    refine Within.step (State.updPort_within ..) rfl ?_
    exact Within.refl _
  · exact Within.refl _

theorem execModulePoll_within (x1 s) : Within [.out] s (after (@execModulePoll x1 s) s) := by
  unfold execModulePoll
  exact (Within.ite (fun _ => (Within.step (State.emit_within ..) rfl (Within.refl _))) (fun _ => (Within.refl _)))

theorem execTrunkRetrain_within (x1 x2 x3 s) : Within [.regs, .out, .seed, .cmd, .link, .tun, .eng, .ps, .mem] s (after (@execTrunkRetrain x1 x2 x3 s) s) := by
  unfold execTrunkRetrain
  try dsimp only
  refine Within.of_next ?_
  refine State.runOpcode_keeps rfl (fun _ _ => ?_) ?_
  · split
    · refine Within.ite_fst (fun _ => ?_) (fun _ => ?_)
      · dsimp only
        exact Within.refl _
      · refine Within.ite_fst (fun _ => ?_) (fun _ => ?_)
        · dsimp only
          refine Within.step (State.enterHunt_within ..) rfl ?_
          refine Within.step (State.updPort_within ..) rfl ?_
          exact Within.refl _
        · dsimp only
          exact Within.refl _
    · dsimp only
      exact Within.refl _
  · exact Within.refl _

theorem execTrunkRetrainTimeout_within (x1 s) : Within [.regs, .out, .cmd, .eng] s (after (@execTrunkRetrainTimeout x1 s) s) := by
  unfold execTrunkRetrainTimeout
  try dsimp only
  refine Within.of_next ?_
  refine Within.step (State.finishWaiters_within ..) rfl ?_
  exact Within.refl _

theorem execTrunkStatus_within (x1 x2 s) : Within [.regs, .out, .cmd, .eng, .ps, .mem] s (after (@execTrunkStatus x1 x2 s) s) := by
  unfold execTrunkStatus
  try dsimp only
  refine Within.of_next ?_
  refine State.runOpcode_keeps rfl (fun _ _ => ?_) ?_
  · split
    · dsimp only
      exact Within.refl _
    · dsimp only
      exact Within.refl _
  · exact Within.refl _

end Machine
end Sys2Proof
end

