-- ==== Sys2Proof/Laws/FrameRegs.lean ====
section
/-!
SUPPORT. The frame of every operation of Machine/Regs.lean: the parts of the state it may change.
-/
namespace Sys2Proof
namespace Machine

theorem State.afterRead_within (s x2) : Within [.regs] s (@State.afterRead s x2) := by
  unfold State.afterRead
  exact (Within.ite (fun _ => (Within.step (State.set_within ..) rfl (Within.step (State.set_within ..) rfl (Within.refl _))))
    (fun _ => (Within.ite (fun _ => (Within.step (State.set_within ..) rfl (Within.refl _))) (fun _ => (Within.ite (fun
    _ => (Within.step (State.set_within ..) rfl (Within.refl _))) (fun _ => (Within.ite (fun _ => (Within.step
    (State.set_within ..) rfl (Within.refl _))) (fun _ => (Within.ite (fun _ => (Within.step (State.set_within ..) rfl
    (Within.refl _))) (fun _ => (Within.ite (fun _ => (Within.refl _)) (fun _ => (Within.step (State.setWord_within ..)
    rfl (Within.refl _))))))))))))))

theorem execRcRead_within (x1 s) : Within [.regs, .out] s (after (@execRcRead x1 s) s) := by
  unfold execRcRead
  exact (Within.ite (fun _ => (Within.step (State.emit_within ..) rfl (Within.step (State.afterRead_within ..) rfl (Within.refl
    _)))) (fun _ => (Within.refl _)))

theorem execNowLoRead_within (s) : Within [.regs, .out] s (after (@execNowLoRead s) s) := by
  unfold execNowLoRead
  exact (Within.step (State.emit_within ..) rfl (Within.step (State.afterRead_within ..) rfl (Within.refl _)))

theorem execReadFeature_within (x1 x2 s) : Within [.regs, .out, .cmd, .eng, .ps, .mem] s (after (@execReadFeature x1 x2 s) s) := by
  unfold execReadFeature
  try dsimp only
  refine Within.of_next ?_
  refine State.runOpcode_keeps rfl (fun _ _ => ?_) ?_
  · refine Within.ite_fst (fun _ => ?_) (fun _ => ?_)
    · dsimp only
      refine Within.step (State.afterRead_within ..) rfl ?_
      exact Within.refl _
    · dsimp only
      exact Within.refl _
  · exact Within.refl _

theorem execReadBlock_within (x1 x2 x3 x4 s) : Within [.regs, .out, .cmd, .eng, .ps, .mem] s (after (@execReadBlock x1 x2 x3 x4 s) s) := by
  unfold execReadBlock
  try dsimp only
  refine Within.of_next ?_
  refine State.runOpcode_keeps rfl (fun _ _ => ?_) ?_
  · refine Within.ite_fst (fun _ => ?_) (fun _ => ?_)
    · dsimp only
      exact Within.refl _
    · dsimp only
      refine forAll_within (fun _ _ => ?_) ?_
      · refine Within.step (State.afterRead_within ..) rfl ?_
        exact Within.refl _
      · exact Within.refl _
  · exact Within.refl _

theorem State.writeImmediate_within (s x2 x3 x4) : Within [.regs, .shadow, .out, .seed, .rt, .cmd, .link, .tun, .sw, .eng, .reg, .bridge, .media, .usb, .power, .pd, .ps, .sec, .mem, .recorder, .boot] s (@State.writeImmediate s x2 x3 x4) := by
  unfold State.writeImmediate
  try dsimp only
  refine Within.ite (fun _ => ?_) (fun _ => ?_)
  · exact Within.refl _
  · split
    · refine Within.step (State.portEnable_within ..) rfl ?_
      exact Within.refl _
    · refine Within.ite (fun _ => ?_) (fun _ => ?_)
      · refine Within.step (State.writeEn_within ..) rfl ?_
        exact Within.refl _
      · refine Within.ite (fun _ => ?_) (fun _ => ?_)
        · refine Within.step (State.writeEn_within ..) rfl ?_
          exact Within.refl _
        · refine Within.step (State.applyWrite_within ..) rfl ?_
          exact Within.refl _

theorem State.writeClear_within (s x2 x3 x4) : Within [.regs] s (@State.writeClear s x2 x3 x4) := by
  unfold State.writeClear
  exact (Within.ite (fun _ => (Within.refl _)) (fun _ => (Within.step (State.setWord_within ..) rfl (Within.refl _))))

theorem State.writeAct_within (s x2 x3 x4) : Within [.regs, .shadow, .out, .seed, .rt, .cmd, .link, .tun, .sw, .eng, .reg, .bridge, .media, .usb, .power, .pd, .ps, .sec, .mem, .recorder, .boot] s (@State.writeAct s x2 x3 x4) := by
  unfold State.writeAct
  try dsimp only
  refine State.when_within (fun _ => ?_) ?_
  · refine Within.step (State.activity_within ..) rfl ?_
    exact Within.refl _
  · refine Within.ite (fun _ => ?_) (fun _ => ?_)
    · refine Within.step (State.writeClear_within ..) rfl ?_
      refine Within.step (State.writeImmediate_within ..) rfl ?_
      refine Within.ite (fun _ => ?_) (fun _ => ?_)
      · exact Within.refl _
      · refine Within.step (State.shadowWrite_within ..) rfl ?_
        exact Within.refl _
    · refine Within.step (State.writeGo_within ..) rfl ?_
      refine Within.step (State.writeClear_within ..) rfl ?_
      refine Within.step (State.writeImmediate_within ..) rfl ?_
      refine Within.ite (fun _ => ?_) (fun _ => ?_)
      · exact Within.refl _
      · refine Within.step (State.shadowWrite_within ..) rfl ?_
        exact Within.refl _

theorem State.writeFeature_within (s x2 x3 x4) : Within [.regs, .shadow, .out, .seed, .rt, .cmd, .link, .tun, .sw, .eng, .reg, .bridge, .media, .usb, .power, .pd, .ps, .sec, .mem, .recorder, .boot] s (@State.writeFeature s x2 x3 x4).1 := by
  unfold State.writeFeature
  try dsimp only
  refine Within.ite_fst (fun _ => ?_) (fun _ => ?_)
  · dsimp only
    exact Within.refl _
  · refine Within.ite_fst (fun _ => ?_) (fun _ => ?_)
    · dsimp only
      exact Within.refl _
    · refine Within.ite_fst (fun _ => ?_) (fun _ => ?_)
      · dsimp only
        exact Within.refl _
      · dsimp only
        refine Within.step (State.writeAct_within ..) rfl ?_
        exact Within.refl _

theorem execWriteFeature_within (x1 x2 x3 x4 s) : Within [.regs, .shadow, .out, .seed, .rt, .cmd, .link, .tun, .sw, .eng, .reg, .bridge, .media, .usb, .power, .pd, .ps, .sec, .mem, .recorder, .boot] s (after (@execWriteFeature x1 x2 x3 x4 s) s) := by
  unfold execWriteFeature
  try dsimp only
  refine Within.of_next ?_
  refine State.runOpcode_keeps rfl (fun _ _ => ?_) ?_
  · dsimp only
    refine Within.step (State.writeFeature_within ..) rfl ?_
    exact Within.refl _
  · exact Within.refl _

theorem execRegisterWrite_within (x1 x2 x3 x4 s) : Within [.regs, .shadow, .out, .seed, .rt, .cmd, .link, .tun, .sw, .eng, .reg, .bridge, .media, .usb, .power, .pd, .ps, .sec, .mem, .recorder, .boot] s (after (@execRegisterWrite x1 x2 x3 x4 s) s) := by
  unfold execRegisterWrite
  try dsimp only
  refine Within.of_next ?_
  split
  · refine Within.ite (fun _ => ?_) (fun _ => ?_)
    · refine Within.step (State.emit_within ..) rfl ?_
      refine Within.step (State.writeFeature_within ..) rfl ?_
      exact Within.refl _
    · exact Within.refl _
  · refine Within.ite (fun _ => ?_) (fun _ => ?_)
    · refine Within.step (State.pf0Write_within ..) rfl ?_
      exact Within.refl _
    · exact Within.refl _
  · refine Within.ite (fun _ => ?_) (fun _ => ?_)
    · refine Within.media rfl ?_
      exact Within.refl _
    · exact Within.refl _

end Machine
end Sys2Proof
end

