-- ==== Sys2Proof/Laws/FrameStaging.lean ====
section
/-!
SUPPORT. The frame of every operation of Machine/Staging.lean: the parts of the state it may change.
-/
namespace Sys2Proof
namespace Machine

theorem execStage_within (x1 x2 x3 x4 s) : Within [.regs, .out, .cmd, .eng, .ps, .mem] s (after (@execStage x1 x2 x3 x4 s) s) := by
  unfold execStage
  try dsimp only
  refine Within.of_next ?_
  refine State.runOpcode_keeps rfl (fun _ _ => ?_) ?_
  · refine Within.ite_fst (fun _ => ?_) (fun _ => ?_)
    · dsimp only
      exact Within.refl _
    · refine Within.ite_fst (fun _ => ?_) (fun _ => ?_)
      · dsimp only
        exact Within.refl _
      · refine Within.ite_fst (fun _ => ?_) (fun _ => ?_)
        · dsimp only
          exact Within.refl _
        · refine Within.ite_fst (fun _ => ?_) (fun _ => ?_)
          · dsimp only
            exact Within.refl _
          · dsimp only
            refine Within.step (State.setSet_within ..) rfl ?_
            exact Within.refl _
  · exact Within.refl _

theorem execCheck_within (x1 x2 s) : Within [.regs, .out, .cmd, .eng, .ps, .mem] s (after (@execCheck x1 x2 s) s) := by
  unfold execCheck
  try dsimp only
  refine Within.of_next ?_
  refine State.runOpcode_keeps rfl (fun _ _ => ?_) ?_
  · refine Within.ite_fst (fun _ => ?_) (fun _ => ?_)
    · dsimp only
      exact Within.refl _
    · refine Within.ite_fst (fun _ => ?_) (fun _ => ?_)
      · dsimp only
        exact Within.refl _
      · split
        · dsimp only
          refine Within.step (State.setSet_within ..) rfl ?_
          exact Within.refl _
        · split
          · dsimp only
            refine Within.step (State.setSet_within ..) rfl ?_
            exact Within.refl _
          · dsimp only
            refine Within.step (State.setSet_within ..) rfl ?_
            exact Within.refl _
  · exact Within.refl _

theorem execApply_within (x1 x2 x3 s) : Within [.regs, .out, .cmd, .eng, .ps, .mem] s (after (@execApply x1 x2 x3 s) s) := by
  unfold execApply
  try dsimp only
  refine Within.of_next ?_
  refine State.runOpcode_keeps rfl (fun _ _ => ?_) ?_
  · refine Within.ite_fst (fun _ => ?_) (fun _ => ?_)
    · dsimp only
      exact Within.refl _
    · refine Within.ite_fst (fun _ => ?_) (fun _ => ?_)
      · dsimp only
        exact Within.refl _
      · refine Within.ite_fst (fun _ => ?_) (fun _ => ?_)
        · dsimp only
          refine Within.step (State.setSet_within ..) rfl ?_
          exact Within.refl _
        · refine Within.ite_fst (fun _ => ?_) (fun _ => ?_)
          · dsimp only
            exact Within.refl _
          · dsimp only
            refine Within.step (State.setSet_within ..) rfl ?_
            exact Within.refl _
  · exact Within.refl _

theorem execDiscard_within (x1 x2 s) : Within [.regs, .out, .cmd, .eng, .ps, .mem] s (after (@execDiscard x1 x2 s) s) := by
  unfold execDiscard
  try dsimp only
  refine Within.of_next ?_
  refine State.runOpcode_keeps rfl (fun _ _ => ?_) ?_
  · refine Within.ite_fst (fun _ => ?_) (fun _ => ?_)
    · dsimp only
      exact Within.refl _
    · refine Within.ite_fst (fun _ => ?_) (fun _ => ?_)
      · dsimp only
        exact Within.refl _
      · refine Within.ite_fst (fun _ => ?_) (fun _ => ?_)
        · dsimp only
          exact Within.refl _
        · dsimp only
          refine Within.step (State.setSet_within ..) rfl ?_
          exact Within.refl _
  · exact Within.refl _

theorem execStageStatus_within (x1 x2 s) : Within [.regs, .out, .cmd, .eng, .ps, .mem] s (after (@execStageStatus x1 x2 s) s) := by
  unfold execStageStatus
  try dsimp only
  refine Within.of_next ?_
  refine State.runOpcode_keeps rfl (fun _ _ => ?_) ?_
  · refine Within.ite_fst (fun _ => ?_) (fun _ => ?_)
    · dsimp only
      exact Within.refl _
    · refine Within.ite_fst (fun _ => ?_) (fun _ => ?_)
      · dsimp only
        exact Within.refl _
      · dsimp only
        exact Within.refl _
  · exact Within.refl _

theorem State.failAtMark_within (s x2 x3 x4) : Within [.regs, .cmd] s (@State.failAtMark s x2 x3 x4) := by
  unfold State.failAtMark
  exact (Within.cmd rfl (Within.step (State.failSet_within ..) rfl (Within.refl _)))

theorem State.finalCheck_within (s x2) : Within [.regs, .shadow, .cmd] s (@State.finalCheck s x2) := by
  unfold State.finalCheck
  extract_lets +onlyGivenNames v1
  split
  · refine Within.step (State.failAtMark_within ..) rfl ?_
    exact Within.refl _
  · refine Within.step (State.setSet_within ..) rfl ?_
    exact Within.refl _

theorem State.finalChecks_within (s) : Within [.regs, .shadow, .cmd] s (@State.finalChecks s) := by
  unfold State.finalChecks
  exact (Within.ite (fun _ => (forAll_within (fun _ _ => (Within.step (State.finalCheck_within ..) rfl (Within.refl _)))
    (Within.refl _))) (fun _ => (Within.refl _)))

theorem State.tellFailures_within (s) : Within [.regs, .out, .cmd, .eng] s (@State.tellFailures s) := by
  unfold State.tellFailures
  try dsimp only
  refine forAll_within (fun _ _ => ?_) ?_
  · refine Within.step (State.notice_within ..) rfl ?_
    exact Within.refl _
  · refine Within.cmd rfl ?_
    exact Within.refl _

theorem State.applyStaged_within (s x2) : Within [.regs, .shadow, .out, .seed, .rt, .cmd, .link, .tun, .sw, .eng, .reg, .bridge, .media, .usb, .power, .pd, .ps, .sec, .mem, .recorder, .boot] s (@State.applyStaged s x2) := by
  unfold State.applyStaged
  try dsimp only
  refine Within.ite (fun _ => ?_) (fun _ => ?_)
  · refine Within.step (State.writeImmediate_within ..) rfl ?_
    refine Within.step (State.applyWrite_within ..) rfl ?_
    exact Within.refl _
  · refine Within.step (State.applyWrite_within ..) rfl ?_
    exact Within.refl _

theorem State.applySet_within (s x2) : Within [.regs, .shadow, .out, .seed, .rt, .cmd, .link, .tun, .sw, .eng, .reg, .bridge, .media, .usb, .power, .pd, .ps, .sec, .mem, .recorder, .boot] s (@State.applySet s x2) := by
  unfold State.applySet
  try dsimp only
  refine Within.step (State.notice_within ..) rfl ?_
  refine Within.step (State.bump_within ..) rfl ?_
  refine Within.step (State.setSet_within ..) rfl ?_
  refine forAll_within (fun _ _ => ?_) ?_
  · refine Within.step (State.applyStaged_within ..) rfl ?_
    exact Within.refl _
  · exact Within.refl _

theorem State.setAtBoundary_within (s x2) : Within [.regs, .shadow, .out, .seed, .rt, .cmd, .link, .tun, .sw, .eng, .reg, .bridge, .media, .usb, .power, .pd, .ps, .sec, .mem, .recorder, .boot] s (@State.setAtBoundary s x2) := by
  unfold State.setAtBoundary
  try dsimp only
  refine Within.ite (fun _ => ?_) (fun _ => ?_)
  · refine Within.step (State.tellFailed_within ..) rfl ?_
    refine Within.step (State.failSet_within ..) rfl ?_
    exact Within.refl _
  · refine Within.ite (fun _ => ?_) (fun _ => ?_)
    · refine Within.step (State.applySet_within ..) rfl ?_
      exact Within.refl _
    · split
      · refine Within.step (State.tellFailed_within ..) rfl ?_
        refine Within.step (State.failSet_within ..) rfl ?_
        exact Within.refl _
      · refine Within.step (State.applySet_within ..) rfl ?_
        exact Within.refl _

theorem State.stagesAtBoundary_within (s) : Within [.regs, .shadow, .out, .seed, .rt, .cmd, .link, .tun, .sw, .eng, .reg, .bridge, .media, .usb, .power, .pd, .ps, .sec, .mem, .recorder, .boot] s (@State.stagesAtBoundary s) := by
  unfold State.stagesAtBoundary
  try dsimp only
  refine forAll_within (fun _ _ => ?_) ?_
  · refine Within.step (State.setAtBoundary_within ..) rfl ?_
    exact Within.refl _
  · exact Within.refl _

theorem State.linkSlotsAtBoundary_within (s x2) : Within [.regs, .out, .seed, .cmd, .link, .tun, .eng] s (@State.linkSlotsAtBoundary s x2) := by
  unfold State.linkSlotsAtBoundary
  try dsimp only
  refine forAll_within (fun _ _ => ?_) ?_
  · refine Within.ite (fun _ => ?_) (fun _ => ?_)
    · exact Within.refl _
    · refine Within.ite (fun _ => ?_) (fun _ => ?_)
      · refine Within.step (State.enterHunt_within ..) rfl ?_
        refine State.when_within (fun _ => ?_) ?_
        · refine Within.step (State.setFlag_within ..) rfl ?_
          exact Within.refl _
        · refine Within.step (State.clearPairs_within ..) rfl ?_
          exact Within.refl _
      · refine State.when_within (fun _ => ?_) ?_
        · refine Within.step (State.setFlag_within ..) rfl ?_
          exact Within.refl _
        · refine Within.step (State.clearPairs_within ..) rfl ?_
          exact Within.refl _
  · exact Within.refl _

theorem State.mediumAtBoundary_within (s x2) : Within [.regs, .out, .cmd, .link, .eng] s (@State.mediumAtBoundary s x2) := by
  unfold State.mediumAtBoundary
  try dsimp only
  refine forAll_within (fun _ _ => ?_) ?_
  · refine Within.ite (fun _ => ?_) (fun _ => ?_)
    · exact Within.refl _
    · refine Within.step (State.notice_within ..) rfl ?_
      refine Within.step (State.manageModule_within ..) rfl ?_
      exact Within.refl _
  · exact Within.refl _

theorem State.lanePowerSend_within (s x2) : Within [.link] s (@State.lanePowerSend s x2) := by
  unfold State.lanePowerSend
  try dsimp only
  split
  · exact Within.refl _
  · refine Within.ite (fun _ => ?_) (fun _ => ?_)
    · refine State.when_within (fun _ => ?_) ?_
      · refine Within.step (State.updPort_within ..) rfl ?_
        exact Within.refl _
      · refine State.when_within (fun _ => ?_) ?_
        · refine Within.step (State.updPort_within ..) rfl ?_
          exact Within.refl _
        · refine State.when_within (fun _ => ?_) ?_
          · refine Within.step (State.updPort_within ..) rfl ?_
            exact Within.refl _
          · exact Within.refl _
    · exact Within.refl _

end Machine
end Sys2Proof
end

