-- ==== Sys2Proof/Laws/FrameGeneral.lean ====
section
/-!
SUPPORT. The frame of every operation of Machine/General.lean: the parts of the state it may change.
-/
namespace Sys2Proof
namespace Machine

theorem execNop_within (x1 x2 s) : Within [.regs, .out, .cmd, .eng, .ps, .mem] s (after (@execNop x1 x2 s) s) := by
  unfold execNop
  try dsimp only
  refine Within.of_next ?_
  refine State.runOpcode_keeps rfl (fun _ _ => ?_) ?_
  · dsimp only
    exact Within.refl _
  · exact Within.refl _

theorem execIdentify_within (x1 s) : Within [.regs, .out, .cmd, .eng, .ps, .mem] s (after (@execIdentify x1 s) s) := by
  unfold execIdentify
  try dsimp only
  refine Within.of_next ?_
  refine State.runOpcode_keeps rfl (fun _ _ => ?_) ?_
  · dsimp only
    exact Within.refl _
  · exact Within.refl _

theorem execHubStatus_within (x1 s) : Within [.regs, .out, .cmd, .eng, .ps, .mem] s (after (@execHubStatus x1 s) s) := by
  unfold execHubStatus
  try dsimp only
  refine Within.of_next ?_
  refine State.runOpcode_keeps rfl (fun _ _ => ?_) ?_
  · dsimp only
    exact Within.refl _
  · exact Within.refl _

theorem execTopoScan_within (x1 s) : Within [.regs, .out, .cmd, .eng, .ps, .mem] s (after (@execTopoScan x1 s) s) := by
  unfold execTopoScan
  try dsimp only
  refine Within.of_next ?_
  refine State.runOpcode_keeps rfl (fun _ _ => ?_) ?_
  · dsimp only
    exact Within.refl _
  · exact Within.refl _

theorem execAssignPostcode_within (x1 x2 x3 x4 s) : Within [.regs, .out, .cmd, .eng, .ps, .mem] s (after (@execAssignPostcode x1 x2 x3 x4 s) s) := by
  unfold execAssignPostcode
  try dsimp only
  refine Within.of_next ?_
  refine State.runOpcode_keeps rfl (fun _ _ => ?_) ?_
  · refine Within.ite_fst (fun _ => ?_) (fun _ => ?_)
    · dsimp only
      exact Within.refl _
    · refine Within.ite_fst (fun _ => ?_) (fun _ => ?_)
      · dsimp only
        exact Within.refl _
      · dsimp only
        refine Within.step (State.setFlag_within ..) rfl ?_
        refine Within.step (State.set_within ..) rfl ?_
        exact Within.refl _
  · exact Within.refl _

end Machine
end Sys2Proof
end

