-- ==== Sys2Proof/Laws/FrameBoundary.lean ====
section
/-!
SUPPORT. The frame of every operation of Machine/Boundary.lean: the parts of the state it may change.
-/
namespace Sys2Proof
namespace Machine

theorem State.sealGrants_within (s x2) : Within [.regs, .tun] s (@State.sealGrants s x2) := by
  unfold State.sealGrants
  exact (Within.ite (fun _ => (Within.step (State.updDir_within ..) rfl (Within.refl _))) (fun _ => (Within.step
    (State.updDir_within ..) rfl (State.when_within (fun _ => (Within.step (State.bump_within ..) rfl (Within.refl _)))
    (Within.refl _)))))

theorem State.confirm_within (s x2 x3 x4 x5) : Within [.regs] s (@State.confirm s x2 x3 x4 x5).2 := by
  unfold State.confirm
  try dsimp only
  refine State.when_within (fun _ => ?_) ?_
  · refine Within.step (State.bump_within ..) rfl ?_
    exact Within.refl _
  · exact Within.refl _

theorem State.sheetTurns_within (s x2) : Within [.regs, .seed, .tun] s (@State.sheetTurns s x2) := by
  unfold State.sheetTurns
  try dsimp only
  refine Within.step (State.set_within ..) rfl ?_
  refine Within.step (State.setFlag_within ..) rfl ?_
  refine Within.step (State.updDir_within ..) rfl ?_
  refine Within.ite_snd (fun _ => ?_) (fun _ => ?_)
  · refine Within.step (State.confirm_within ..) rfl ?_
    refine Within.step (State.bump_within ..) rfl ?_
    refine Within.ite_snd (fun _ => ?_) (fun _ => ?_)
    · refine Within.step (State.drawLate_within ..) rfl ?_
      exact Within.refl _
    · dsimp only
      refine Within.step (State.sealGrants_within ..) rfl ?_
      exact Within.refl _
  · dsimp only
    refine Within.ite_snd (fun _ => ?_) (fun _ => ?_)
    · refine Within.step (State.drawLate_within ..) rfl ?_
      exact Within.refl _
    · dsimp only
      refine Within.step (State.sealGrants_within ..) rfl ?_
      exact Within.refl _

theorem State.sheetsTurn_within (s) : Within [.regs, .seed, .tun] s (@State.sheetsTurn s) := by
  unfold State.sheetsTurn
  try dsimp only
  refine forAll_within (fun _ _ => ?_) ?_
  · refine Within.step (State.sheetTurns_within ..) rfl ?_
    exact Within.refl _
  · exact Within.refl _

theorem State.sheetsShort_within (s) : Within [.regs, .tun] s (@State.sheetsShort s) := by
  unfold State.sheetsShort
  exact (forAll_within (fun _ _ => (Within.via (Within.ite (fun _ => (Within.step (State.setFlag_within ..) rfl (Within.step
    (State.bump_within ..) rfl (Within.step (State.bump_within ..) rfl (Within.step (State.updDir_within ..) rfl
    (Within.refl _)))))) (fun _ => (Within.refl _))) (Within.step (State.setFlag_within ..) rfl (Within.step
    (State.set_within ..) rfl (Within.step (State.set_within ..) rfl (Within.refl _)))))) (Within.refl _))

theorem State.boundaryTurns_within (s) : Within [.regs, .out, .seed, .rt, .cmd, .tun, .sw, .eng, .mem, .boot] s (@State.boundaryTurns s) := by
  unfold State.boundaryTurns
  try dsimp only
  refine Within.step (State.memoryAtBoundary_within ..) rfl ?_
  refine Within.step (State.sheetsTurn_within ..) rfl ?_
  refine Within.step (State.switchBefore_within ..) rfl ?_
  refine Within.step (State.tellFailures_within ..) rfl ?_
  refine Within.step (State.roundAdvances_within ..) rfl ?_
  refine Within.step (State.tick_within ..) rfl ?_
  refine Within.cmd rfl ?_
  refine State.when_within (fun _ => ?_) ?_
  · refine Within.step (State.bump_within ..) rfl ?_
    exact Within.refl _
  · exact Within.refl _

theorem State.boundaryApplies_within (s x2) : Within [.regs, .shadow, .out, .seed, .rt, .cmd, .link, .tun, .sw, .eng, .reg, .bridge, .media, .usb, .power, .pd, .ps, .sec, .mem, .recorder, .boot] s (@State.boundaryApplies s x2) := by
  unfold State.boundaryApplies
  try dsimp only
  refine Within.step (State.mediumAtBoundary_within ..) rfl ?_
  refine Within.step (State.linkSlotsAtBoundary_within ..) rfl ?_
  refine Within.step (State.stagesAtBoundary_within ..) rfl ?_
  refine Within.step (State.applyShadows_within ..) rfl ?_
  exact Within.refl _

theorem State.boundaryBegins_within (s x2) : Within [.regs, .out, .rt, .cmd, .link, .tun, .sw, .eng, .sec, .mem] s (@State.boundaryBegins s x2) := by
  unfold State.boundaryBegins
  try dsimp only
  refine Within.step (State.sendHeaders_within ..) rfl ?_
  refine Within.step (State.switchAfter_within ..) rfl ?_
  refine Within.step (State.flowsAtBoundary_within ..) rfl ?_
  refine Within.step (State.sheetsShort_within ..) rfl ?_
  refine Within.step (State.linksAtBoundary_within ..) rfl ?_
  refine Within.step (State.keysAtBoundary_within ..) rfl ?_
  refine Within.step (State.pulse_within ..) rfl ?_
  refine Within.step (State.timingBoundary_within ..) rfl ?_
  exact Within.refl _

theorem State.boundaryWorks_within (s x2) : Within [.regs, .out, .seed, .cmd, .tun, .sw, .eng, .reg, .bridge, .media, .usb, .ps, .recorder] s (@State.boundaryWorks s x2) := by
  unfold State.boundaryWorks
  try dsimp only
  refine Within.step (State.usbAtBoundary_within ..) rfl ?_
  refine Within.step (State.mediaAtBoundary_within ..) rfl ?_
  refine Within.step (State.bridgeAtBoundary_within ..) rfl ?_
  refine Within.step (State.enginesAtBoundary_within ..) rfl ?_
  refine Within.step (State.drainReports_within ..) rfl ?_
  refine Within.step (State.registryAtBoundary_within ..) rfl ?_
  refine Within.step (State.histsAtBoundary_within ..) rfl ?_
  exact Within.refl _

theorem State.boundaryPower_within (s x2 x3 x4) : Within [.regs, .shadow, .out, .seed, .rt, .cmd, .link, .tun, .sw, .eng, .reg, .bridge, .media, .usb, .power, .pd, .ps, .sec, .mem, .recorder, .boot] s (@State.boundaryPower s x2 x3 x4) := by
  unfold State.boundaryPower
  try dsimp only
  refine Within.step (State.resetAtBoundary_within ..) rfl ?_
  refine Within.step (State.flushLost_within ..) rfl ?_
  refine Within.step (State.dormantAttempt_within ..) rfl ?_
  refine Within.step (State.idleAtBoundary_within ..) rfl ?_
  refine Within.step (State.domainsAtBoundary_within ..) rfl ?_
  refine Within.step (State.pathsAtBoundary_within ..) rfl ?_
  refine Within.step (State.becomesReady_within ..) rfl ?_
  refine Within.step (State.pdAtBoundary_within ..) rfl ?_
  refine Within.step (State.sampleRound_within ..) rfl ?_
  refine Within.step (State.readTemps_within ..) rfl ?_
  refine Within.step (State.samplePower_within ..) rfl ?_
  refine Within.step (State.powerSample_within ..) rfl ?_
  exact Within.refl _

theorem execRoundBoundary_within (x1 x2 x3 s) : Within [.regs, .shadow, .out, .seed, .rt, .cmd, .link, .tun, .sw, .eng, .reg, .bridge, .media, .usb, .power, .pd, .ps, .sec, .mem, .recorder, .boot] s (after (@execRoundBoundary x1 x2 x3 s) s) := by
  unfold execRoundBoundary
  try dsimp only
  refine Within.of_next ?_
  refine Within.ite (fun _ => ?_) (fun _ => ?_)
  · refine Within.step (State.boundaryPower_within ..) rfl ?_
    refine Within.step (State.boundaryWorks_within ..) rfl ?_
    refine Within.step (State.boundaryBegins_within ..) rfl ?_
    refine Within.step (State.boundaryApplies_within ..) rfl ?_
    refine Within.step (State.boundaryTurns_within ..) rfl ?_
    exact Within.refl _
  · exact Within.refl _

theorem State.speculate_within (s x2) : Within [.regs, .seed, .tun] s (@State.speculate s x2) := by
  unfold State.speculate
  try dsimp only
  refine forAll_within (fun _ _ => ?_) ?_
  · refine Within.step (State.updDir_within ..) rfl ?_
    refine State.when_within (fun _ => ?_) ?_
    · refine Within.step (State.bump_within ..) rfl ?_
      exact Within.refl _
    · refine Within.step (State.drawLate_within ..) rfl ?_
      exact Within.refl _
  · exact Within.refl _

theorem execCollectionMark_within (s) : Within [.regs, .shadow, .out, .seed, .rt, .cmd, .tun, .eng] s (after (@execCollectionMark s) s) := by
  unfold execCollectionMark
  try dsimp only
  refine Within.of_next ?_
  refine Within.ite (fun _ => ?_) (fun _ => ?_)
  · refine Within.step (State.finalChecks_within ..) rfl ?_
    refine Within.step (State.sampleDemand_within ..) rfl ?_
    refine Within.step (State.enginesAtCollection_within ..) rfl ?_
    refine Within.step (State.speculate_within ..) rfl ?_
    refine Within.step (State.timingCollection_within ..) rfl ?_
    exact Within.refl _
  · exact Within.refl _

theorem State.shedNotice_within (s x2 x3 x4) : Within [.regs, .out, .cmd, .tun, .eng] s (@State.shedNotice s x2 x3 x4) := by
  unfold State.shedNotice
  try dsimp only
  split
  · exact Within.refl _
  · refine Within.ite (fun _ => ?_) (fun _ => ?_)
    · exact Within.refl _
    · refine Within.step (State.notice_within ..) rfl ?_
      refine Within.step (State.updFlow_within ..) rfl ?_
      exact Within.refl _

theorem State.sealSheet_within (s x2 x3 x4) : Within [.regs, .out, .seed, .cmd, .tun, .eng] s (@State.sealSheet s x2 x3 x4) := by
  unfold State.sealSheet
  try dsimp only
  refine Within.ite (fun _ => ?_) (fun _ => ?_)
  · refine Within.step (State.updDir_within ..) rfl ?_
    refine Within.step (State.bump_within ..) rfl ?_
    refine Within.step (State.confirm_within ..) rfl ?_
    refine State.when_within (fun _ => ?_) ?_
    · refine Within.step (State.bump_within ..) rfl ?_
      exact Within.refl _
    · refine State.when_within (fun _ => ?_) ?_
      · refine Within.step (State.bump_within ..) rfl ?_
        exact Within.refl _
      · refine Within.step (State.drawLate_within ..) rfl ?_
        refine Within.step (State.sealGrants_within ..) rfl ?_
        exact Within.refl _
  · refine forAll_within (fun _ _ => ?_) ?_
    · refine Within.step (State.shedNotice_within ..) rfl ?_
      exact Within.refl _
    · refine Within.step (State.updDir_within ..) rfl ?_
      refine Within.step (State.bump_within ..) rfl ?_
      refine Within.step (State.confirm_within ..) rfl ?_
      refine State.when_within (fun _ => ?_) ?_
      · refine Within.step (State.bump_within ..) rfl ?_
        exact Within.refl _
      · refine State.when_within (fun _ => ?_) ?_
        · refine Within.step (State.bump_within ..) rfl ?_
          exact Within.refl _
        · refine Within.step (State.drawLate_within ..) rfl ?_
          refine Within.step (State.sealGrants_within ..) rfl ?_
          exact Within.refl _

theorem execSealMark_within (s) : Within [.regs, .out, .seed, .rt, .cmd, .link, .tun, .eng] s (after (@execSealMark s) s) := by
  unfold execSealMark
  try dsimp only
  refine Within.of_next ?_
  refine Within.ite (fun _ => ?_) (fun _ => ?_)
  · refine Within.step (State.enginesAtSeal_within ..) rfl ?_
    refine forAll_within (fun _ _ => ?_) ?_
    · refine Within.step (State.sealSheet_within ..) rfl ?_
      exact Within.refl _
    · refine State.when_within (fun _ => ?_) ?_
      · refine Within.step (State.bump_within ..) rfl ?_
        exact Within.refl _
      · refine forAll_within (fun _ _ => ?_) ?_
        · refine Within.step (State.lanePowerSend_within ..) rfl ?_
          exact Within.refl _
        · refine Within.step (State.timingSeal_within ..) rfl ?_
          exact Within.refl _
  · exact Within.refl _

end Machine
end Sys2Proof
end

