-- ==== Sys2Proof/WellFormed.lean ====
section
/-!
DEFINITION. Well-formed commands: the relations between operands that the manual's formats fix and the operand types do not (the
lengths of lists, the ranges of R165, R319, R320, R388 and the like). A meaning does not ask for them: a command packet that breaks
a length is answered with BAD_LENGTH by its own rule, and an arrival that cannot happen is not well-formed.
-/
namespace Sys2Proof

/-- A power sample names the VBUS of the five Type-C ports (R388). -/
def PowerSample.wf (p : PowerSample) : Bool := p.vbus.length == 5

/-- A packet header of the command interface: at most 4,096 bytes, a path of R338, and PORT where ROUTE names one (R339). -/
def CmdHdr.wf (h : CmdHdr) : Bool := decide (32 ≤ h.length.val)

/-- An envelope carries LENGTH bytes of payload (R115). -/
def Env.wf (e : Env) : Bool := e.payload.length == e.length.val

/-- A CAN frame of R319: 11 or 29 identifier bits, 8 data bytes or, with FDF, up to 64; BRS only with FDF. -/
def CanFrame.wf (f : CanFrame) : Bool :=
  (f.ide || decide (f.id.val < 2048)) && decide (f.data.length ≤ if f.fdf then 64 else 8) && (f.fdf || !f.brs)

/-- A bridge message is a FIELD frame (R115, R319, R320). -/
def msgWf (m : List Byte) : Bool := decide (m.length ≤ 16384)

/-- A Modbus request carries at most 252 bytes of data (R324). -/
def ModbusReq.wf (r : ModbusReq) : Bool := decide (r.data.length ≤ 252)

/-- An Ethernet frame has its FCS and header (R285). -/
def EthFrame.wf (f : EthFrame) : Bool := decide (18 ≤ f.bytes)

/-- A unit of R175: at a trunk ingress one envelope of at most 2,048 bytes (R115), elsewhere a frame of at most 16,384. -/
def UnitIn.wf (u : UnitIn) : Bool := decide (u.bytes ≤ if u.ingress.val < 3 then 2048 else 16384)

/-- A letter's public key is 96 bytes or absent (R428). -/
def Letter.wf (l : Letter) : Bool := l.pub.length == 96 || l.pub.isEmpty

/-- A registered message has 1 to 192 bytes of payload (R243). -/
def payloadWf (p : Payload) : Bool := decide (1 ≤ p.length) && decide (p.length ≤ 192)

/-- The command is well-formed. -/
def Instr.wf : Instr → Bool
  | .roundBoundary sample _ _ => sample.wf
  | .keeperSample sample => sample.wf
  | .envelope _ e _ => e.wf
  | .unitAdmit u => u.wf
  | .postRegistered h _ payload => h.wf && payloadWf payload
  | .registeredData _ _ _ _ _ _ payload => decide (payload.length ≤ 192)
  | .registryApportion h items => h.wf && decide (items.length ≤ 256)
  | .deadLetterClear h entries => h.wf && decide (entries.length ≤ 256)
  | .capabilityCopy _ dpcd edid => dpcd.length == 256 && decide (edid.length ≤ 512)
  | .ethernetFrame _ f => f.wf
  | .pf1TxDoorbell _ _ frames => frames.all EthFrame.wf
  | .sendCommand packet => decide (packet.length ≤ 4096)
  | .commandMessage _ _ _ _ packet => decide (packet.length ≤ 4096)
  | .canFrameRx _ f _ => f.wf
  | .canMessage _ _ msg _ => msgWf msg
  | .modbusRequest _ r _ => r.wf
  | .readAnswer _ msg => msgWf msg
  | .writeAnswer _ msg => msgWf msg
  | .masterBusMessage _ _ msg _ => msgWf msg
  | .nop h bytes => h.wf && bytes.length == h.paramLen
  | .attest h nonce => h.wf && nonce.length == 32
  | .keyLetter h l => h.wf && l.wf
  | .fwStageImage h _ data _ => h.wf && data.length + 4 == h.paramLen
  | _ => true

end Sys2Proof
end

