-- ==== Sys2Proof/Tests/Slice0.lean ====
section
/-!
SUPPORT. Tests of the model on small states, and for every statement with hypotheses a state and operands that meet them.
-/
namespace Sys2Proof
namespace Tests
open Sys2Proof.Machine
set_option Elab.async false

/-- The state after reset with some register fields at other values. -/
def withFields (l : List (Fld × Nat)) (s : State) : State := l.foldl (fun s e => s.set e.1 e.2) s

/-- A hub that takes commands: started, every domain powered, the die links up, its address valid. -/
def up : State :=
  withFields [(Reg.BOOT_STATE_STAGE, 4), (⟨Reg.DOMAIN_ON, 0, 8⟩, 0xFF), (Reg.DIE_LINKS_SK_UP, 1), (Reg.DIE_LINKS_KP_UP, 1),
    (Reg.HUB_ADDR_VALID, 1), (Reg.HUB_ADDR_POSTCODE, 5)]
    { State.reset with
      boot := { BootSt.init with keep := true, released := true }
      rt := { RoundSt.init with running := true, round := 1000 } }

/-- A packet header on the service port with a parameter length. -/
def hdr (paramLen : Nat) : CmdHdr :=
  { path := 64, tag := 7, hostSeq := 0, length := Fin.ofNat 4097 (32 + paramLen), dstPc := 5, route := 0, port := 0, resync := false,
    timeoutMs := 0, crc := 0, originPc := 0, originPath := 64, repeat_ := false, via := none }

/-- The state in which an opcode's effect is taken; the parameters only stay with its entry (R348). -/
def entered (s : State) (h : CmdHdr) (op : Nat) (params : List Byte := []) : State :=
  match s.enter h op params 4080 with
  | some (k, v) => v.updEntry k (fun e => { e with started := true })
  | none => s

/-- The decidable content of `Opens` with entry 0. -/
def opensOk (s : State) (h : CmdHdr) (op : Nat) (params : List Byte := []) : Bool :=
  s.ready && hdrLengthOk h && hdrFieldsOk h && s.skUp && decide (s.admission h op = .new) && s.entryFree h.path.val &&
  (match s.enter h op params 4080 with
   | some (k, v) => k == 0 && !v.blocked k && v.forThisHub h
   | none => false) &&
  paramLenOk op h.paramLen && (entered s h op params).opPermitted h op

theorem opens_of (c : Instr) (s : State) (h : CmdHdr) (op : Nat) (params : List Byte) (hc : packetOf c = some (h, op, params))
    (o : opensOk s h op params = true) : Opens c s 0 (entered s h op params) := by
  unfold Opens
  rw [hc]
  simp only [opensOk, Bool.and_eq_true, decide_eq_true_eq] at o
  obtain ⟨⟨⟨⟨⟨⟨⟨⟨a, b⟩, c⟩, d⟩, e⟩, f⟩, g⟩, i⟩, j⟩ := o
  refine ⟨a, b, c, d, e, f, ?_, i, j⟩
  revert g
  unfold entered
  split
  · rename_i k v hv
    intro g
    simp only [Bool.and_eq_true, beq_iff_eq, Bool.not_eq_true'] at g
    obtain ⟨⟨hk, hb⟩, hh⟩ := g
    subst hk
    exact ⟨v, hv, hb, hh, rfl⟩
  · intro g; cases g

/-- The opcodes, each with a parameter length it takes. -/
def opcodeLengths : List (Nat × Nat) :=
  [(0x0001, 1), (0x0002, 0), (0x0003, 0), (0x0010, 4), (0x0011, 12), (0x0012, 6), (0x0020, 16), (0x0021, 4), (0x0022, 8), (0x0023, 4),
   (0x0024, 4), (0x0030, 4), (0x0100, 0), (0x0101, 20), (0x0110, 4), (0x0111, 0), (0x0120, 4), (0x0121, 4), (0x0200, 16), (0x0201, 10),
   (0x0202, 18), (0x0203, 4), (0x0204, 8), (0x0205, 12), (0x0300, 10), (0x0301, 5), (0x0302, 4), (0x0303, 8), (0x0304, 4), (0x0305, 8)]
def opcodeLengths' : List (Nat × Nat) :=
  [(0x0306, 4), (0x0400, 12), (0x0401, 12), (0x0402, 20), (0x0500, 0), (0x0501, 4), (0x0510, 4), (0x0511, 4), (0x0512, 32), (0x0521, 0),
   (0x0600, 100), (0x0601, 4), (0x0602, 32), (0x0603, 4), (0x0604, 1), (0x0700, 0), (0x0701, 4), (0x0702, 0), (0x0710, 0), (0x0F00, 5),
   (0x0F01, 4)]

theorem witness_opens : opcodeLengths.all (fun e => opensOk up (hdr e.2) e.1) = true := by decide +kernel
theorem witness_opens' : opcodeLengths'.all (fun e => opensOk up (hdr e.2) e.1) = true := by decide +kernel
theorem witness_opens_hub_status : Opens (.hubStatus (hdr 0)) up 0 (entered up (hdr 0) 0x0003) :=
  opens_of _ _ _ _ _ rfl (by decide +kernel)
theorem witness_opens_stage_status : Opens (.stageStatus (hdr 4) 1) up 0 (entered up (hdr 4) 0x0024 [1, 0, 0, 0]) :=
  opens_of _ _ _ _ _ rfl (by decide +kernel)

/-! The well-formedness checks refuse. -/

def sampleOf (n : Nat) : PowerSample := ⟨0, 0, 0, 0, 0, List.replicate n 0, false⟩
def canOf (ide fdf brs : Bool) (id : Fin (2 ^ 29)) (n : Nat) : CanFrame := ⟨ide, fdf, brs, id, List.replicate n 0⟩
def mbOf (n : Nat) : ModbusMsg := ⟨0x11, 3, 1, 1, 0, 0, 1, 0, List.replicate n 0⟩
def reqOf (n : Nat) : ModbusReq := ⟨1, 3, 0, 1, 0, List.replicate n 0⟩
def envOf (len : Fin 4096) (n : Nat) : Env :=
  { ver := 1, type := 0, cls := .assured, colour := 0, twin := false, side := false, turned := false, first := true, last := true,
    hops := 5, seg := 0, length := len, dstPc := 5, dstBox := 0, dstInc := 0, srcPc := 6, kind := 5, srcBox := 0, seqStamp := 1,
    hopSeq := 1, payload := List.replicate n 0 }
def unitOf (ingress : Fin 10) (bytes : Nat) : UnitIn :=
  { ingress := ingress, cls := .assured, type := 0, kind := .network, colour := .green, payload := List.replicate bytes 0, seg := 0,
    twin := false, side := false, turned := false, first := true, last := true, hops := 5, srcPc := 6, srcBox := 9, dstPc := 5, dstBox := 10, dstInc := 1,
    seqStamp := 1, checkOk := true }
/-- A letter of R428: SLOT, KIND, DEST, OWNER_CLAIM, KEY_LEN and seal counter; all else 0. -/
def letterBytes (slot kind dest claim keyLen counter : Nat) : List Byte :=
  leBytes 1 1 ++ leBytes 1 slot ++ [0] ++ leBytes 1 kind ++ leBytes 2 dest ++ leBytes 1 claim ++ leBytes 1 keyLen ++ leBytes 4 counter ++
    List.replicate (264 + keyLen) 0
def letterOf (n : Nat) : Letter :=
  { bytes := letterBytes 8 0 1 0 32 1, deviceOk := true, signatureOk := true, tagOk := true, kcv := 1, pub := List.replicate n 0 }
def shortHdr : CmdHdr := { hdr 0 with length := 31 }

theorem test_wf_sample : Instr.wf (.keeperSample (sampleOf 4)) = false ∧ Instr.wf (.keeperSample (sampleOf 5)) = true := by decide +kernel
theorem test_wf_round_sample : Instr.wf (.roundBoundary (sampleOf 6) 0 0) = false := by decide +kernel
theorem test_wf_header : Instr.wf (.nop shortHdr []) = false ∧ Instr.wf (.nop (hdr 0) []) = true ∧ Instr.wf (.nop (hdr 1) []) = false := by
  decide +kernel
theorem test_wf_envelope : Instr.wf (.envelope .a (envOf 3 2) ⟨false, true, true, false⟩) = false ∧
    Instr.wf (.envelope .a (envOf 3 3) ⟨false, true, true, false⟩) = true := by decide +kernel
theorem test_wf_can : Instr.wf (.canFrameRx 0 (canOf false false false 2048 8) .data) = false ∧
    Instr.wf (.canFrameRx 0 (canOf true false false 2048 9) .data) = false ∧
    Instr.wf (.canFrameRx 0 (canOf true false true 2048 8) .data) = false ∧
    Instr.wf (.canFrameRx 0 (canOf false true true 2047 64) .data) = true := by decide +kernel
theorem test_wf_messages : Instr.wf (.canMessage 1 none (List.replicate 16385 0) true) = false ∧
    Instr.wf (.readAnswer 1 (List.replicate 16385 0)) = false ∧ Instr.wf (.writeAnswer 1 (List.replicate 16385 0)) = false ∧
    Instr.wf (.masterBusMessage 1 none (List.replicate 16385 0) true) = false ∧
    Instr.wf (.masterBusMessage 1 none (List.replicate 16384 0) true) = true := by
  simp only [Instr.wf, msgWf, List.length_replicate]; decide
theorem test_wf_request : Instr.wf (.modbusRequest 0 (reqOf 253) true) = false ∧ Instr.wf (.modbusRequest 0 (reqOf 252) true) = true := by
  decide +kernel
theorem test_wf_frame : Instr.wf (.ethernetFrame 0 ⟨17, true, 0, none⟩) = false ∧
    Instr.wf (.pf1TxDoorbell 0 1 [⟨64, true, 0, none⟩, ⟨17, true, 0, none⟩]) = false := by decide +kernel
theorem test_wf_unit : Instr.wf (.unitAdmit (unitOf 2 2049)) = false ∧ Instr.wf (.unitAdmit (unitOf 3 16385)) = false ∧
    Instr.wf (.unitAdmit (unitOf 3 16384)) = true := by
  simp only [Instr.wf, UnitIn.wf, UnitIn.bytes, unitOf, List.length_replicate]; decide
theorem test_wf_letter : Instr.wf (.keyLetter (hdr 100) (letterOf 95)) = false ∧ Instr.wf (.keyLetter (hdr 100) (letterOf 96)) = true := by
  decide +kernel
theorem test_wf_payload : Instr.wf (.postRegistered (hdr 4) 1 []) = false ∧
    Instr.wf (.postRegistered (hdr 4) 1 (List.replicate 193 0)) = false := by decide +kernel
theorem test_wf_arrival : Instr.wf (.registeredData 0 1 1 1 0 1 (List.replicate 193 0)) = false := by decide +kernel
theorem test_wf_lists : Instr.wf (.registryApportion (hdr 0) (List.replicate 257 ⟨0, 0, 0, 0⟩)) = false ∧
    Instr.wf (.deadLetterClear (hdr 0) (List.replicate 257 0)) = false := by decide +kernel
theorem test_wf_copy : Instr.wf (.capabilityCopy 0 (List.replicate 255 0) []) = false ∧
    Instr.wf (.capabilityCopy 0 (List.replicate 256 0) (List.replicate 513 0)) = false := by decide +kernel
theorem test_wf_nonce : Instr.wf (.attest (hdr 32) (List.replicate 31 0)) = false ∧
    Instr.wf (.fwStageImage (hdr 6) 0 [1] true) = false := by decide +kernel

/-- No row of the table has bits, so no word spells a command. -/
theorem test_decode_none : decodeTableWord 16 0 = none ∧ State.reset.withFetchWord 16 0 = State.reset := by decide +kernel

/-! Small tests of single steps, with results from the manual. -/

theorem test_reset_no_packets : (after (exec (.nop (hdr 0) []) State.reset) State.reset).out = [.held 64] := by decide +kernel
theorem test_idle_queue : step State.reset = .next State.reset.groupTick := rfl
theorem test_rw_is_shadowed : (up.writeFeature Reg.NOTICE_CFG 1 1).2 = .ok ∧
    (up.writeFeature Reg.NOTICE_CFG 1 1).1.word Reg.NOTICE_CFG = up.word Reg.NOTICE_CFG := by decide +kernel
theorem test_median_of_hops : medianInt [300, 100, 200] = 200 := by decide +kernel
/-- The check value of CRC-32C (R341) over the digits 1 to 9. -/
theorem test_crc32c : crc32c [0x31, 0x32, 0x33, 0x34, 0x35, 0x36, 0x37, 0x38, 0x39] = 0xE3069283#32 := by decide +kernel
theorem test_retry_max_latches : (after (exec (.fastTrip .a 0) (withFields [(Reg.IN_STATE_STATE 0, 2), (Reg.IN_CFG_RETRY_MAX 0, 0)] up)) up).get
    (Reg.IN_STATE_STATE 0) = 5 := by decide +kernel

/-! Witnesses of the statements on the machine and the opcodes. -/

/-- `up` in the state an opcode with a parameter length meets. -/
def on (s : State) (op len : Nat) : State := entered s (hdr len) op

theorem witness_StepRunsFront : State.reset.pending = [] := rfl
theorem witness_RegisterFormKept : State.reset.regsWf ∧ step State.reset = .next State.reset.groupTick := ⟨by constructor <;> decide, rfl⟩

/-- A book entry of the service port. -/
def entryOf (st : BookState) (op seq : Nat) : BookEntry :=
  { state := st, body := true, relayed := false, delivered := true, started := true, path := 64, originPc := 5, originPath := 64,
    status := .ok, data := [], params := [], opcode := op, tag := 7, hostSeq := seq, length := 44, dstPc := 5, route := 0, port := 0,
    resync := false, timeoutMs := 0, crc := 0, via := none, wait := 0, room := 4080, relayedAt := 0, enteredAt := 0, doneAt := 0, farStale := false, farNoEffect := false, remote := false }
def withEntry (e : BookEntry) (expected : Nat) (s : State) : State :=
  { s with cmd := { s.cmd with book := [(0, e)], expected := [(64, expected)] } }

theorem witness_HostSequence_held : State.reset.ready = false := by decide +kernel
theorem witness_HostSequence_checks : up.ready = true ∧ hdrLengthOk (hdr 12) = true ∧ hdrFieldsOk (hdr 12) = true ∧ up.skUp = true ∧
    (hdr 12).path.val ≠ 66 := by decide +kernel
theorem witness_HostSequence_entry :
    (withEntry (entryOf .done 0x0011 0) 1 up).findEntry 64 0 0 64 = some (0, entryOf .done 0x0011 0) ∧
    (withEntry (entryOf .running 0x0011 0) 1 up).findEntry 64 0 0 64 = some (0, entryOf .running 0x0011 0) ∧
    (withEntry (entryOf .done 0x0021 0) 1 up).findEntry 64 0 0 64 = some (0, entryOf .done 0x0021 0) := by decide +kernel
theorem witness_HostSequence_stale :
    (withEntry (entryOf .running 0x0011 9) 10 up).findEntry 64 0 0 64 = none ∧
    (withEntry (entryOf .running 0x0011 9) 10 up).mem.paths.contains 64 = false ∧
    (withEntry (entryOf .running 0x0011 9) 10 up).expected 64 = 10 ∧ serialBefore 32 0 10 = true ∧ serialBefore 32 11 10 = false ∧
    (withEntry (entryOf .running 0x0011 9) 10 up).pathRunning 64 = true := by decide +kernel
theorem witness_BadAddress : blockRows (0x00FF0000 / 65536) = none ∧ 3 % 4 ≠ 0 ∧ addressOk 3 = false ∧ addressOk 0x00FF0000 = false := by
  decide +kernel
theorem witness_BadAddress_stage : opensOk up (hdr 16) 0x0020 = true ∧
    ([⟨3, 0, 0⟩] : List StageEntry).any (fun e => e.address == 3) = true ∧ (hdr 16).paramLen = 4 + 12 * 1 ∧
    up.get Reg.BOOT_STATE_STAGE = 4 ∧ (0#16 ++ 3#16 : Word) = 3 := by decide +kernel
theorem witness_LaterShadowWins : up.shadow = [] := by decide +kernel
theorem witness_FastTrip : (withFields [(Reg.IN_STATE_STATE 0, 1)] up).pathState 0 = 1 ∧
    (withFields [(Reg.IN_STATE_STATE 1, 2)] up).pathState 1 = 2 ∧ up.pathState 0 = 0 := by decide +kernel
theorem witness_FastTrip_latch : up.get (Reg.IN_CFG_RETRY_MAX 0) ≠ 15 ∧
    (withFields [(Reg.IN_STATE_RETRIES 0, 15)] up).get (Reg.IN_CFG_RETRY_MAX 0) ≤
      (withFields [(Reg.IN_STATE_RETRIES 0, 15)] up).get (Reg.IN_STATE_RETRIES 0) := by decide +kernel
theorem witness_Lockout_start : 8 ≤ (recentTicks [0, 0, 0, 0, 0, 0, 0] 7999 8000).length := by decide +kernel
/-- An owner claim: a letter for slot 2 before there is an owner. -/
def claimOf (n : Nat) : Letter := { letterOf n with bytes := letterBytes 2 2 8 1 96 1 }
theorem witness_Lockout_letter : opensOk (withFields [(Reg.SEC_STATE_LOCKOUT, 1)] up) (hdr 308) 0x0600 = true ∧
    opensOk (withFields [(Reg.SEC_STATE_LOCKOUT, 1)] up) (hdr 372) 0x0600 = true ∧
    (on (withFields [(Reg.SEC_STATE_LOCKOUT, 1)] up) 0x0600 308).flag Reg.SEC_STATE_LOCKOUT = true ∧
    letterForm 308 1000 (letterOf 0) = true ∧ (letterHead (letterOf 0)).slotWritable = true ∧ letterForm 372 1000 (claimOf 96) = true ∧
    (letterHead (claimOf 96)).slotWritable = true ∧ (letterHead (claimOf 96)).ownerClaim = true ∧ (letterHead (letterOf 0)).ownerClaim = false ∧ (on up 0x0600 372).get (Reg.SLOT_ATTR_STATE 2) = 0 ∧ (on up 0x0600 372).round = 1000 := by
  decide +kernel
theorem witness_Lockout_token : opensOk (withFields [(Reg.SEC_STATE_LOCKOUT, 1)] up) (hdr 1) 0x0604 = true ∧
    (on (withFields [(Reg.SEC_STATE_LOCKOUT, 1)] up) 0x0604 1).flag Reg.SEC_STATE_LOCKOUT = true ∧
    tokenRelocks ⟨[0], true, true⟩ = true ∧ tokenForm ⟨[1] ++ List.replicate 159 0, true, true⟩ = true ∧
    (hdr 1).paramLen = ([0] : List Byte).length ∧ (hdr 160).paramLen = ([1] ++ List.replicate 159 0 : List Byte).length := by decide +kernel
theorem witness_StickyWords : (withFields [] { up with mem := { up.mem with written := [(0, 5), (4, 5), (7, 5)] } }).memOn 0 = true ∧
    up.memOn 7 = true ∧ up.memOn 4 = true := by decide +kernel
theorem test_reset_slots : State.reset.get (Reg.SLOT_ATTR_KIND 0) = 1 ∧ State.reset.get (Reg.SLOT_ATTR_KIND 3) = 2 ∧
    State.reset.get (Reg.SLOT_ATTR_DEST 0) = 16 ∧ State.reset.get (Reg.SLOT_ATTR_DEST 1) = 32 ∧ State.reset.get (Reg.SLOT_ATTR_DEST 3) = 8 := by
  decide +kernel

/-- A staging set in a state, with one entry for NOTICE_CFG. -/
def setOf (st : SetState) : StageSet := { StageSet.init with state := st, entries := [(Reg.NOTICE_CFG, (1, 1))] }
def withSet (st : SetState) (s : State) : State := { s with cmd := { s.cmd with sets := [(0, setOf st)] } }

theorem witness_Registers : opensOk up (hdr 6) 0x0012 = true ∧ addressOk (0x0001 * 65536 + 0xFFFC) = true ∧ 0xFFFC + 4 * (1 - 1) ≤ 0xFFFC ∧
    addressOk (0x0001 * 65536 + 2) = false := by decide +kernel
theorem witness_Staging_stage : opensOk up (hdr 16) 0x0020 = true ∧
    stageable Reg.NOTICE_CFG 1 = true ∧ (on up 0x0020 16).entryInRange (Reg.NOTICE_CFG, (1, 1)) = true ∧
    ((on up 0x0020 16).stageSet 0).state = .empty ∧ (on up 0x0020 16).stagePermitted (hdr 16) [(Reg.NOTICE_CFG, (1, 1))] = true ∧
    ([⟨Reg.NOTICE_CFG, 1, 1⟩] : List StageEntry).foldl mergeEntry [] = [(Reg.NOTICE_CFG, (1, 1))] := by decide +kernel
theorem witness_Staging_check : ((on (withSet .openSet up) 0x0021 4).stageSet 0).state = .openSet ∧
    (on (withSet .openSet up) 0x0021 4).stagePermitted (hdr 4) (setOf .openSet).entries = true ∧
    (on up 0x0021 4).stageResult [] = none ∧
    (on (withSet .openSet up) 0x0021 4).sharedAddress 0 (setOf .openSet).entries StageSet.pending = none := by decide +kernel
theorem witness_Staging_apply : ((on (withSet .checked up) 0x0022 8).stageSet 0).state = .checked ∧
    opensOk (withSet .checked up) (hdr 8) 0x0022 = true ∧
    (on (withSet .checked up) 0x0022 8).earliest (setOf .checked).entries ≤ 1000 + 28800000 ∧
    (on (withSet .checked up) 0x0022 8).round = 1000 ∧
    (on (withSet .checked up) 0x0022 8).sharedAddress 0 (setOf .checked).entries (fun y => y.state == .armed && y.round == 28801000) = none := by
  decide +kernel
theorem witness_Staging_discard : ((on (withSet .armed up) 0x0023 4).stageSet 0).state = .armed ∧
    ((on (withSet .failed up) 0x0023 4).stageSet 0).state = .failed ∧
    (on { withSet .armed up with cmd := { up.cmd with sets := [(0, { setOf .armed with round := 2000 })] } } 0x0023 4).tooLateToDiscard
      { setOf .armed with round := 2000 } = false ∧
    (on (withSet .openSet up) 0x0024 4).stagePermitted (hdr 4) (setOf .openSet).entries = true := by decide +kernel
theorem witness_Reset_hub : (on up 0x0030 4).sec.zeroising = none ∧ (on up 0x0030 4).servicePowered = false ∧
    (on { up with sec := { up.sec with zeroising := some 0 } } 0x0030 4).sec.zeroising ≠ none := by decide +kernel
theorem witness_Round_swap_master : opensOk (withFields [(Reg.TIMING_STATE, 4)] up) (hdr 4) 0x0110 = true ∧
    (on (withFields [(Reg.TIMING_STATE, 4)] up) 0x0110 4).timing = 4 ∧ (on (withFields [(Reg.TIMING_STATE, 4)] up) 0x0110 4).postcode = 5 ∧
    (on (withFields [(Reg.TIMING_STATE, 4)] up) 0x0110 4).rt.swapRetry ≤ 1000 ∧
    (on (withFields [(Reg.TIMING_STATE, 4)] up) 0x0110 4).roundBusy = false := by decide +kernel
theorem witness_Round_swap_candidate :
    (on (withFields [(Reg.TIMING_STATE, 2), (Reg.MASTER_SEEN_MASTER_PC, 9), (Reg.ROUND_CFG_MASTER_PRIORITY, 3)] up) 0x0110 4).timing = 2 ∧
    (on (withFields [(Reg.TIMING_STATE, 2), (Reg.MASTER_SEEN_MASTER_PC, 9), (Reg.ROUND_CFG_MASTER_PRIORITY, 3)] up) 0x0110 4).notCandidate = false ∧
    (on (withFields [(Reg.TIMING_STATE, 2), (Reg.MASTER_SEEN_MASTER_PC, 9), (Reg.ROUND_CFG_MASTER_PRIORITY, 3)] up) 0x0110 4).master = 9 := by
  decide +kernel
theorem witness_Trunk : PortId.ofCode 2 = some .c ∧ opensOk (withFields [(Reg.TRK_PORT_CFG_EN 2, 1)] up) (hdr 4) 0x0120 = true ∧
    (on (withFields [(Reg.TRK_PORT_CFG_EN 2, 1)] up) 0x0120 4).flag (Reg.TRK_PORT_CFG_EN 2) = true ∧
    (on up 0x0120 4).powered (PortId.domain .c) = true ∧ (on up 0x0120 4).flag (Reg.TRK_PORT_CFG_EN 2) = false := by decide +kernel

/-- A box in a state, of class ASSURED and kind NETWORK. -/
def boxOf (st : BoxState) : Box := { Box.init with
  state := st, inc := 3, peerPc := 6, peerBox := 9, peerInc := 1, kind := .network, cls := .assured, twoWay := true, near := true,
  since := 900 }
def withBox (x : Box) (s : State) : State := { s with tun := { s.tun with boxes := [(10, x)] } }

theorem witness_Tunnel_close : opensOk (withBox (boxOf .opened) up) (hdr 10) 0x0201 = true ∧
    ((on (withBox (boxOf .opened) up) 0x0201 10).box 10).state = .opened ∧ ((on up 0x0201 10).box 10).state = .free ∧
    ((on (withBox (boxOf .draining) up) 0x0201 10).box 10).state = .draining ∧
    (on (withBox (boxOf .draining) up) 0x0201 10).waiter 0x0201 10 = none ∧ boxNoOk 10 = true := by decide +kernel

/-- A REGISTERED box with its receipt-book record: both sides, for the host. -/
def regBox : Box := { boxOf .opened with cls := .registered, kind := .field }
def recordOf10 : BookRec :=
  { send := true, recv := true, host := true, ownInc := 3, peerPc := 6, peerBox := 9, peerInc := 1, apportioned := false, reserve := 0,
    limit := 0, notify := true, doubtValid := false, releasedThru := 0, passedThru := 4, consumedThru := 2, doubtSeq := 0, openedAt := 0,
    nextSeq := 5, next := none, farPassed := 0, presented := 4, started := true }
def deadEntry : Entry :=
  { dead := true, writing := false, forwarded := false, origin := 0, box := 10, ownInc := 3, seq := 4, dstPc := 6, dstBox := 9, dstInc := 1,
    acceptedAt := 0, dlStatus := 0, dlOutcome := 0, fwdPc := 0, fwdBox := 0, fwdInc := 0, originPath := 64, originTag := 1,
    originSeq := 1, payload := [1], lastSent := some 0, sentSince := false, order := 0, returned := none }
def heldEntry : Entry := { deadEntry with dead := false }
def pigeonAt (seq : Nat) : Pigeon := ⟨10, seq, 6, 9, 0, false, false, false, false, [1], 1⟩
def withRegistry (x : Box) (r : BookRec) (e : List (Nat × Entry)) (p : List Pigeon) (s : State) : State :=
  { withBox x s with reg := { s.reg with book := [(10, r)], entries := e, pigeons := p } }
def regUp : State := withRegistry regBox recordOf10 [(3, deadEntry), (4, heldEntry)] [pigeonAt 3, pigeonAt 4] up

theorem witness_Tunnel_open : opensOk up (hdr 16) 0x0200 = true ∧ classFits .field .registered = true ∧
    allotOk .registered ⟨0, 0, 0, 0⟩ = true ∧ (on up 0x0200 16).boxFits 4095 .field .registered = true ∧
    (on up 0x0200 16).busFits 4095 .registered false = true ∧ (on up 0x0200 16).flowsFree true 6 = true ∧
    ((on (withFields [(Reg.KIND_CFG_ENGINES 4, 1)] up) 0x0200 16).chooseEngine .field).isSome = true ∧
    (on up 0x0200 16).openFits true .registered .field 4095 6 9 ⟨0, 0, 0, 0⟩ = true := by decide +kernel
theorem witness_Tunnel_forward : (on (withBox (boxOf .draining) up) 0x0204 8).forwardOk 10 6 4095 4095 = true := by decide +kernel

/-- A transit flow of class BULK. -/
def flowOf : Flow := Flow.fresh .bulk 7 false 0 6 9 7 9 0 ⟨0, 2880, 15, 0⟩
def withFlow (s : State) : State := { s with tun := { s.tun with flows := [(0, flowOf)] } }

theorem witness_Tunnel_allot : opensOk (withFlow up) (hdr 18) 0x0202 = true ∧ allotOk .bulk ⟨0, 2880, 15, 0⟩ = true ∧
    mget (on (withFlow up) 0x0202 18).tun.flows 0 = some flowOf ∧ (withFlow up).allotFits 0 = true ∧
    (on (withFlow up) 0x0202 18).findFlow 6 8 7 9 = none ∧ ((on (withFlow up) 0x0202 18).addFlow flowOf).map (·.1) = some 1 := by decide +kernel
theorem witness_Tunnel_mirror : mirrorOk 3 1 2 3 8191 2293 31 16384 = true ∧
    (on (withFields [(Reg.SEC_STATE_POLICY, 1)] up) 0x0205 12).mirrorPermit = true ∧ (on up 0x0205 12).mirrorPermit = false := by
  decide +kernel
theorem witness_Registry_apportion : opensOk regUp (hdr 10) 0x0300 = true ∧ (on regUp 0x0300 10).sendSide 9 = none ∧
    ((on regUp 0x0300 10).sendSide 10).isSome = true ∧ (on regUp 0x0300 10).pendingNames 10 = false ∧
    (on regUp 0x0300 10).apportionOk [⟨10, 1024, 1024, 1⟩] = true ∧ (on regUp 0x0300 10).apportionOk [⟨10, 1025, 1025, 1⟩] = false := by
  decide +kernel
theorem witness_Registry_post : opensOk regUp (hdr 5) 0x0301 = true ∧
    ((on up 0x0301 5).offer 10 [1] 0 64 7 0).1 = .refused .notPermitted ∧ (match ((on regUp 0x0301 5).offer 10 [1] 0 64 7 0).1 with
      | .entry _ => true | .refused _ => false) = true := by decide +kernel
theorem witness_Registry_collect : opensOk regUp (hdr 4) 0x0302 = true ∧ ((on regUp 0x0302 4).hostSide 10).isSome = true ∧
    (on regUp 0x0302 4).hostSide 4095 = none ∧ (on regUp 0x0302 4).waitingOf 10 = [pigeonAt 3, pigeonAt 4] ∧ up.reg.book = [] := by
  decide +kernel
theorem witness_Registry_ack : (on regUp 0x0303 8).hostSide 10 = some recordOf10 ∧ seqLe 2 2 = true ∧ seqLe 4 2 = false ∧ seqLe 4 4 = true ∧
    seqLe 5 4 = false := by decide +kernel
theorem witness_Registry_dead : opensOk regUp (hdr 8) 0x0305 = true ∧ opensOk regUp (hdr 4) 0x0306 = true ∧
    mget (on regUp 0x0306 4).reg.entries 3 = some deadEntry ∧ mget (on regUp 0x0306 4).reg.entries 4 = some heldEntry := by decide +kernel
theorem witness_Bridge_route : opensOk up (hdr 12) 0x0400 = true ∧ routeOk 0x800007FF 0x0000003F = true ∧
    (on up 0x0400 12).pendingTouches (fun a => a == Reg.ROUTE_0 4095 || a == Reg.ROUTE_4 4095) = false ∧ 4032 + 64 ≤ 4096 := by decide +kernel
theorem witness_Bridge_range : opensOk up (hdr 20) 0x0402 = true ∧ rangeOk 0x80000100 0x00000001 0 0 = true ∧
    ((on up 0x0402 20).shadowWords [(Reg.RANGE_0 63, 0x80000100), (Reg.RANGE_4 63, 1)]).applyShadows.rangesApart = true ∧
    ((on up 0x0402 20).shadowWords [(Reg.RANGE_0 63, 0x80000100), (Reg.RANGE_4 63, 1), (Reg.RANGE_0 62, 0x80000100), (Reg.RANGE_4 62, 1)]
      ).applyShadows.rangesApart = false := by decide +kernel
theorem witness_Power_path : (on (withFields [(Reg.IN_STATE_STATE 1, 5)] up) 0x0501 4).pathState 1 = 5 ∧ (on up 0x0501 4).pathState 0 ≠ 5 := by
  decide +kernel

/-- A source port with a contract, its partner dual-role, a policy that lets it be a source. -/
def pdUp : State :=
  let s := withFields [(Reg.PD_PORT_TYPEC 0, 2), (Reg.PD_PORT_CONTRACT 0, 1)] up
  { s.setFlag (Reg.PD_PORT_ROLE 0) true with pd := { s.pd with ports := [(0, { PdPort.init with dualRole := true, offer := [(5000, 3000)] })] } }
theorem witness_Power_swap : opensOk pdUp (hdr 4) 0x0511 = true ∧ ((on pdUp 0x0511 4).pdPort 0).swap = none ∧
    (on pdUp 0x0511 4).flag (Reg.PD_PORT_CONTRACT 0) = true ∧ ((on pdUp 0x0511 4).pdPort 0).dualRole = true ∧
    (on pdUp 0x0511 4).isSource 0 = true ∧
    ((on { pdUp with pd := { pdUp.pd with ports := [(0, { PdPort.init with swap := some ⟨true, true, false⟩ })] } } 0x0511 4).pdPort 0).swap ≠ none := by
  decide +kernel

/-- A policy with one source PDO of 5 V. -/
def policyOf (maxW : Byte) (pdo0 : Word) : PdPolicy := ⟨true, true, false, 0, 0, 0, maxW, 3, pdo0, 0, 0, 0⟩
theorem witness_Power_policy : opensOk up (hdr 32) 0x0512 = true ∧ pdosOk (policyOf 60 0) = true ∧
    (on up 0x0512 32).overrideSum 3 (policyOf 60 0) ≤ (on up 0x0512 32).budget ∧ pdosOk (policyOf 5 0xFFFFFFFF) = false := by decide +kernel
theorem witness_Security_letter : opensOk up (hdr 308) 0x0600 = true ∧
    (on (withFields [(Reg.SEC_STATE_OWNED, 1)] up) 0x0600 308).letterCheck (hdr 308) (letterOf 0) = (0, .ok) ∧
    (on (withFields [(Reg.SEC_STATE_LOCKOUT, 1)] up) 0x0600 308).letterCheck (hdr 308) (letterOf 0) = (7, .notPermitted) ∧
    (on (withFields [(Reg.SEC_STATE_OWNED, 1)] up) 0x0600 308).letterCheck (hdr 308) { letterOf 0 with bytes := letterBytes 8 0 1 0 32 0 } = (5, .sealInvalid) ∧
    (on up 0x0600 308).letterCheck (hdr 308) { letterOf 0 with bytes := letterBytes 3 0 1 0 32 1 } = (2, .notPermitted) := by decide +kernel
theorem witness_Security_attest : (on up 0x0602 32).flag Reg.SEC_STATE_CRYPTO_ERROR = false ∧
    (on (withFields [(Reg.SEC_STATE_CRYPTO_ERROR, 1)] up) 0x0602 32).flag Reg.SEC_STATE_CRYPTO_ERROR = true := by decide +kernel

/-- A debug token. -/
def tokenOf (relock : Bool) (counter : Nat) : Token :=
  ⟨if relock then [0] else leBytes 4 1 ++ leBytes 4 counter ++ leBytes 8 0x1000000 ++ List.replicate 144 0, true, true⟩
theorem witness_Security_token : (on up 0x0604 160).tokenCheck (hdr 160) (tokenOf false 1) = (0, .ok) ∧
    (on up 0x0604 1).tokenCheck (hdr 1) (tokenOf true 0) = (0, .ok) ∧
    (on (withFields [(Reg.SEC_STATE_LOCKOUT, 1)] up) 0x0604 1).tokenCheck (hdr 1) (tokenOf true 0) = (7, .notPermitted) ∧
    (on up 0x0604 160).tokenCheck (hdr 160) (tokenOf false 0) = (5, .sealInvalid) := by decide +kernel
theorem witness_Recorder : (on up 0x0700 0).frozen = false ∧ (on (withFields [(Reg.REC_STATE_FROZEN, 1), (Reg.REC_STATE_PATH, 64)] up) 0x0700 0).frozen = true ∧
    (on (withFields [(Reg.REC_STATE_FROZEN, 1), (Reg.REC_STATE_PATH, 64)] up) 0x0700 0).get Reg.REC_STATE_PATH = 64 := by decide +kernel
theorem witness_Firmware_stage : opensOk (withFields [(Reg.FW_STAGED_RECEIVED, 0x200000)] up) (hdr 5) 0x0F00 = true ∧
    (on (withFields [(Reg.FW_STAGED_RECEIVED, 2097407)] up) 0x0F00 5).get Reg.FW_STAGED_RECEIVED = 2097407 ∧ 2097407 + 1 ≤ 2097408 := by
  decide +kernel
theorem witness_Firmware_activate : (on (withFields [(Reg.FW_STAGED_RECEIVED, 256 + 8)] up) 0x0F01 4).get Reg.FW_STAGED_RECEIVED = 256 + 8 ∧
    1 - (on up 0x0F01 4).get Reg.BOOT_STATE_RUNNING_SLOT = 1 ∧ (on up 0x0F01 4).flag Reg.BOOT_STATE_TRIAL = false := by decide +kernel

/-- A record of a TYPE from hub 9 for hub 5, come whole. -/
def recOf (type : Nat) (epoch : BitVec 16) (round : Round) (aux : BitVec 16) : Rec :=
  let r : Rec := ⟨6, epoch, round, 9, 5, aux, 7, [0x20, 0x21, 0x22], true, false, 0⟩
  { r with crc := crc16 (recBytes type r) }
/-- `up` with port A ACTIVE, a timing state, master 9 and epoch 2. -/
def live (timing : Nat) : State :=
  { withFields [(Reg.TRK_PORT_STATE_STATE 0, 9), (Reg.TRK_PORT_STATE_STATE 1, 9), (Reg.TIMING_STATE, timing), (Reg.TIMING_EPOCH, 2),
      (Reg.MASTER_SEEN_MASTER_PC, 9), (Reg.ROUND_CFG_MASTER_PRIORITY, 3)] up with
    rt := { up.rt with masterKnown := true, masterPri := 7 } }
def withSwap (w : Option Swap) (s : State) : State := { s with rt := { s.rt with swap := w } }
def heardB (s : State) (p : PortId) (type : Nat) (r : Rec) : Bool :=
  s.streams p && recIntact type r && r.hops.val != 0 && !s.rt.flooded.contains (recId type r)
theorem heard_of (s : State) (p : PortId) (type : Nat) (r : Rec) (h : heardB s p type r = true) : Heard s p type r := by
  simp only [heardB, Bool.and_eq_true, bne_iff_ne, ne_eq, Bool.not_eq_true'] at h
  exact ⟨h.1.1.1, h.1.1.2, h.1.2, h.2⟩

theorem witness_Records_heard : heardB (live 2) .a 0x01 (recOf 0x01 2 1000 0) = true ∧ recordOf (.beat .a 0 (recOf 0x01 2 1000 0)) = some (.a, 0, 0x01, recOf 0x01 2 1000 0) ∧
    up.streams .a = false := by decide +kernel
theorem witness_Records_copy : ({ live 2 with rt := { (live 2).rt with flooded := [recId 0x01 (recOf 0x01 2 1000 0)] } } : State).rt.flooded.contains
    (recId 0x01 (recOf 0x01 2 1000 0)) = true ∧ ({ recOf 0x01 2 1000 0 with hops := 0 } : Rec).hops.val = 0 ∧
    recIntact 0x01 { recOf 0x01 2 1000 0 with flagged := true } = false ∧ recIntact 0x02 (recOf 0x01 2 1000 0) = false := by decide +kernel
theorem test_record_relayed : (after (exec (.beat .a 0 (recOf 0x01 2 1000 0)) (live 2)) (live 2)).out.head? =
    some (.record .b 0x01 (framedRec 0x01 { recOf 0x01 2 1000 0 with hops := 5 })) := by decide +kernel
/-- A hub whose deputy is hub 9. -/
def deputed : State := withFields [(Reg.TIMING_DEP_VALID, 1), (Reg.SUCCESSORS_SEEN_DEPUTY_PC, 9)] (live 2)
theorem witness_Takeover : heardB deputed .a 0x02 (recOf 0x02 3 1000 0) = true ∧
    (recOf 0x02 3 1000 0).epoch.toNat = ((deputed.relayed .a 0 0x02 (recOf 0x02 3 1000 0)).epoch + 1) % 65536 ∧
    (deputed.relayed .a 0 0x02 (recOf 0x02 3 1000 0)).flag Reg.TIMING_DEP_VALID = true ∧
    (deputed.relayed .a 0 0x02 (recOf 0x02 3 1000 0)).get Reg.SUCCESSORS_SEEN_DEPUTY_PC = 9 := by decide +kernel
theorem witness_Claim : ((live 2).relayed .a 0 0x03 (recOf 0x03 3 1000 0)).rivalWins 3 7 9 = true ∧
    ((live 2).relayed .a 0 0x03 (recOf 0x03 1 1000 0)).rivalWins 1 7 8 = false ∧ ((live 2).relayed .a 0 0x03 (recOf 0x03 1 1000 0)).master = 9 ∧
    ((live 0).relayed .a 0 0x03 (recOf 0x03 1 15999 1)).timing = 0 ∧ 15999 < ((live 0).relayed .a 0 0x03 (recOf 0x03 1 15999 1)).rt.floor := by
  decide +kernel
theorem witness_Raise : ((live 4).relayed .a 0 0x04 (recOf 0x04 2 1001 0)).timing = 4 ∧
    ((live 4).relayed .a 0 0x04 (recOf 0x04 2 1001 0)).epoch = 2 ∧
    ((live 4).relayed .a 0 0x04 (recOf 0x04 2 1001 0)).rt.round = 1000 ∧
    ((live 4).relayed .a 0 0x04 (recOf 0x04 2 1001 0)).postcode = 5 := by decide +kernel
/-- A swap of this hub with hub 9. -/
def swapOf (asMaster : Bool) (ph : SwapPhase) : Swap := ⟨asMaster, false, 9, 7, ph, 1000, 0, 0, none⟩
theorem witness_Swap_offer : ((live 2).relayed .a 0 0x10 (recOf 0x10 2 1000 0)).master = 9 ∧ ((live 2).relayed .a 0 0x10 (recOf 0x10 2 1000 0)).rt.swap = none ∧
    ((live 2).relayed .a 0 0x10 (recOf 0x10 2 1000 0)).notCandidate = false ∧ ((live 2).relayed .a 0 0x10 (recOf 0x10 2 1000 0)).roundBusy = false ∧
    ((live 3).relayed .a 0 0x10 (recOf 0x10 2 1000 0)).notCandidate = true ∧
    ({ live 2 with rt := { (live 2).rt with takeover := true } } : State).roundBusy = true := by decide +kernel
theorem witness_Swap_ask : ((live 4).relayed .a 0 0x11 (recOf 0x11 2 1000 0)).timing = 4 ∧ ((live 4).relayed .a 0 0x11 (recOf 0x11 2 1000 0)).rt.hdrs = [] ∧
    ((live 4).relayed .a 0 0x11 (recOf 0x11 2 1000 0)).roundBusy = false ∧
    ([(0, ⟨0, 2, 9, 1, 3, 9, true, false⟩)] : List (Nat × PortHdr)).any (fun x => x.2.sender == 9 && x.2.tstate != 2) = true := by decide +kernel
theorem witness_Swap_agree : ((withSwap (some (swapOf true .awaitAgree)) (live 4)).relayed .a 0 0x12 (recOf 0x12 2 1000 0)).rt.swap =
      some (swapOf true .awaitAgree) ∧
    ((withSwap (some (swapOf true .awaitAgree)) (live 4)).relayed .a 0 0x12 (recOf 0x12 2 1000 0)).rt.round ≤ (swapOf true .awaitAgree).round + 1 := by
  decide +kernel
theorem witness_Swap_refuse : ((withSwap (some (swapOf false .awaitGo)) (live 2)).relayed .a 0 0x13 (recOf 0x13 2 1000 16)).rt.swap =
    some (swapOf false .awaitGo) ∧ (recOf 0x13 2 1000 16).aux.toNat ≠ 0 ∧ (recOf 0x13 2 1000 0).aux.toNat = 0 := by decide +kernel
theorem witness_Swap_go : ((withSwap (some (swapOf false .awaitGo)) (live 2)).relayed .a 0 0x14 (recOf 0x14 3 1002 0)).master = 9 ∧
    ((withSwap (some (swapOf false .awaitGo)) (live 2)).relayed .a 0 0x14 (recOf 0x14 3 1002 0)).epoch = 2 := by decide +kernel
theorem witness_Swap_ready : ((withSwap (some (swapOf true .awaitReady)) (live 4)).relayed .a 0 0x15 (recOf 0x15 2 1000 0)).rt.swap =
    some (swapOf true .awaitReady) := by decide +kernel
theorem witness_Swap_cancel : (live 2).cancelInTime 1002 = true ∧ (live 2).cancelInTime 1000 = false ∧
    ({ live 2 with rt := { (live 2).rt with go := some ⟨1000, 3, 5, 0, 0⟩ } } : State).rt.go = some ⟨1000, 3, 5, 0, 0⟩ := by decide +kernel
/-- An ask outstanding since 10,000 units of postmark. -/
def asking : State := { live 2 with rt := { (live 2).rt with delays := [(0, ⟨1, some ((live 2).now), [49900]⟩)] } }
theorem witness_Delay : (asking.at 100000).delay .a = ⟨1, some (live 2).now, [49900]⟩ ∧
    (postmarkDiff (asking.at 100000).now (live 2).now - 0) / 2 + (asking.at 100000).asym .a = 50000 ∧
    (postmarkDiff (asking.at 99998).now (live 2).now - 0) / 2 + (asking.at 99998).asym .a = 49999 ∧
    (postmarkDiff (asking.at 100002).now (live 2).now - 0) / 2 + (asking.at 100002).asym .a = 50001 := by decide +kernel
theorem witness_Timing_silence : ({ live 3 with rt := { (live 3).rt with silent := 64 } } : State).timing = 3 ∧ 0 < (live 3).priority ∧
    (live 3).addrValid = true := by decide +kernel
theorem witness_Timing_deputy : (withFields [(Reg.TIMING_DEP_VALID, 1), (Reg.TIMING_RES_VALID, 1), (Reg.SUCCESSORS_SEEN_DEPUTY_PC, 5),
      (Reg.SUCCESSORS_SEEN_RESERVE_PC, 5)] (live 2)).get Reg.SUCCESSORS_SEEN_DEPUTY_PC = 5 ∧
    (withFields [(Reg.TIMING_RES_VALID, 1)] (live 2)).flag Reg.TIMING_RES_VALID = true ∧ (live 2).rt.accepted = none := by decide +kernel
theorem witness_Timing_lock : (live 2).lockLost = true ∧ (live 2).timing = 2 ∧ (live 1).timing = 1 ∧
    ({ live 3 with rt := { (live 3).rt with goodRounds := 64, pullIn := true } } : State).rt.pullIn = true := by decide +kernel
/-- A header of port A under which it qualifies. -/
def headed (timing : Nat) : State :=
  { withFields [(Reg.HOP_DELAY_VALID 0, 1), (Reg.TIMING_PARENT, 3)] (live timing) with
    rt := { (live timing).rt with hdrs := [(0, ⟨1, 2, 9, 1, 4, 9, true, false⟩)], stateRounds := 8000 } }
theorem witness_Timing_acquire : (headed 1).qualifies .a = true ∧ (headed 1).parent ≠ some .a ∧ (live 1).qualifies .a = false ∧
    (live 1).qualifies .b = false ∧ (live 1).qualifies .c = false ∧ 4000 ≤ (headed 1).rt.stateRounds ∧ (headed 3).rt.pullIn = false := by
  decide +kernel
theorem witness_Timing_deadline : (swapOf true .awaitAgree).overdue 1001 1 = true ∧ (swapOf true .awaitAgree).overdue 1000 2 = false ∧
    (swapOf true .awaitE).e = 0 := by decide +kernel
theorem witness_Marks : up.rounds = true ∧ State.reset.rounds = false := by decide +kernel

/-- Port A in a port state, with a record of what its lanes do. -/
def portIn (st : Nat) (x : PortSt) : State := (withFields [(Reg.TRK_PORT_STATE_STATE 0, st)] up).updPort .a (fun _ => x)
def p0 : PortSt := PortSt.init

theorem witness_Lock : (portIn 1 p0).portState .a = 1 ∧ bitOf (portIn 1 { p0 with locked := 8 } |>.port .a).locked 3 = true ∧
    mget ((portIn 1 { p0 with marks := [(3, 0xFFFFFFFF)] }).port .a).marks 3 = some 0xFFFFFFFF ∧ (0xFFFFFFFF + 1) % 2 ^ 32 = 0 ∧
    mget ((portIn 1 { p0 with marksMissed := [(3, 1)] }).port .a).marksMissed 3 = some 1 := by decide +kernel
theorem witness_Train : ((portIn 2 { p0 with locked := 2, farLocked := 2, farNonce := 7 }).port .a).firstLocked = 1 ∧
    (portIn 2 { p0 with farLocked := 2 }).portState .a = 2 ∧ (portIn 3 p0).portState .a = 3 ∧ (portIn 8 p0).portState .a = 8 ∧
    (portIn 9 p0).portState .a = 9 := by decide +kernel
/-- Port A with a link key of its own and pipes that passed their self-test. -/
def keyed : State := withFields [(Reg.LINK_SLOT_SLOT_A, 8), (Reg.SLOT_ATTR_STATE 8, 1), (Reg.SLOT_ATTR_DEST 8, 1), (Reg.SELF_TEST_PIPE_OK, 0xFFF)] up
theorem witness_Enable : keyed.mayEnable .a = true ∧ ({ up with sec := { up.sec with pipesFailed := 1 } } : State).mayEnable .a = false ∧ up.powered (PortId.domain .a) = true ∧ up.portState .a = 0 ∧
    (withFields [(Reg.TRK_PORT_STATE_STATE 0, 1)] keyed).portState .a ≠ 0 := by decide +kernel
theorem witness_Timers_states : ([1, 2, 3, 4, 5, 6, 7, 8, 9].all (fun n => (portIn n p0).portState .a == n)) = true := by decide +kernel
theorem witness_Timers_align : ((portIn 2 { p0 with chosen := 3 }).port .a).chosen ≠ 0 ∧ (portIn 2 p0).usable .a = 0 ∧
    (withFields [(Reg.TRK_PORT_CFG_LANES_EN 0, 15)] (portIn 2 { p0 with locked := 15 })).usable .a = 15 := by decide +kernel
theorem witness_Timers_tune : widthOf (((3 : Nat).land 15).land 0) = 0 ∧ widthOf (((3 : Nat).land 15).land 3) = 3 ∧
    slotsOf (popCount 0 4) true ≤ slotsOf (popCount 1 4) false ∧ slotsOf (popCount 1 4) false < slotsOf (popCount 1 4) true := by decide +kernel
theorem witness_Timers_check : (withFields [(Reg.TRK_PORT_STATE_RATE 0, 1)] (portIn 8 p0)).fullRate .a = true ∧ (portIn 8 p0).fullRate .a = false := by
  decide +kernel
/-- A tap request. -/
def tapOf (preset : Fin 8) (seq : Byte) : TapReq := ⟨0x11, seq, preset, 0, 0, 0, 1, 0, 0⟩
theorem witness_Lane_tap : ((portIn 3 { p0 with farChosen := 15, farLocked := 15 }).tapReqOk .a (tapOf 0 1)) = true ∧
    (portIn 0 p0).tapReqOk .a (tapOf 0 1) = false := by decide +kernel
theorem witness_Lane_tap_again : mget ((portIn 3 { p0 with tapSeq := [(0, 1)] }).port .a).tapSeq 0 = some 1 := by decide +kernel
theorem witness_Lane_width : (portIn 9 p0).portState .a = 9 ∧ (withFields [(Reg.TRK_PORT_STATE_TX_MASK 0, 3)] (portIn 9 p0)).txMask .a = 3 ∧
    (portIn 9 p0).txMask .a = 0 := by decide +kernel
theorem witness_Lane_degrade : (1 : Nat).land ((withFields [(Reg.TRK_PORT_STATE_RX_MASK 0, 3)] (portIn 9 p0)).rxMask .a) = 1 ∧
    (2 : Nat).land ((withFields [(Reg.TRK_PORT_STATE_RX_MASK 0, 1)] (portIn 9 p0)).rxMask .a) = 0 := by decide +kernel
theorem witness_Lane_restore : popCount ((withFields [(Reg.TRK_PORT_STATE_RX_MASK 0, 1)] (portIn 9 p0)).rxMask .a) 4 < popCount (widthOf ((1 : Nat).lor 2 |>.land 3)) 4 := by
  decide +kernel
/-- Port A with a module. -/
def moduled (st : Nat) : State := withFields [(Reg.MODULE_STATUS_PRESENT 0, 1), (Reg.MODULE_STATUS_MSTATE 0, st)] up
theorem witness_Module : (moduled 1).flag (Reg.MODULE_STATUS_PRESENT 0) = true ∧ up.flag (Reg.MODULE_STATUS_PRESENT 0) = false ∧
    (moduled 1).get (Reg.MODULE_STATUS_MSTATE 0) = 1 ∧ (moduled 2).get (Reg.MODULE_STATUS_MSTATE 0) = 2 ∧
    (moduled 1).modulePowerMax .a < 1000 ∧ 0 ≤ (moduled 1).modulePowerMax .a ∧
    ((portIn 0 { p0 with module := ⟨2, false, false, false, []⟩ }).port .a).module.fails = 2 ∧ up.get (Reg.TRK_PORT_CFG_MEDIUM 0) ≠ 3 := by decide +kernel
theorem witness_Module_medium : (up.get (Reg.TRK_PORT_CFG_MEDIUM 0) == 0 || (withFields [(Reg.TRK_PORT_CFG_MEDIUM 0, 0)] up).get (Reg.TRK_PORT_CFG_MEDIUM 0) == 0)
    = true ∧ (withFields [(Reg.TRK_PORT_CFG_MEDIUM 0, 1)] up).get (Reg.TRK_PORT_CFG_MEDIUM 0) ≠ 0 := by decide +kernel
/-- A port past which envelopes have come up to a counter. -/
def counted (n : Nat) : PortSt := { p0 with rxCount := n }
theorem witness_Link_active : (portIn 9 p0).active .a = true ∧ (portIn 9 p0).powered .cipher = true ∧ (portIn 0 p0).active .a = false := by decide +kernel
theorem witness_Link_window : ((envOf 3 3).hopSeq.toNat + 65536 - (counted 0).rxCount % 65536) % 65536 = 1 ∧
    ((envOf 3 3).hopSeq.toNat + 65536 - (counted 1).rxCount % 65536) % 65536 = 0 ∧
    ((envOf 3 3).hopSeq.toNat + 65536 - (counted 32770).rxCount % 65536) % 65536 = 32767 ∧
    ((envOf 3 3).hopSeq.toNat + 65536 - (counted 32769).rxCount % 65536) % 65536 = 32768 := by decide +kernel
theorem witness_Link_tag : (counted 0).tagPasses ⟨false, true, true, false⟩ 1 = true ∧ (counted 0).tagPasses ⟨false, true, false, false⟩ 1 = false ∧
    envFieldsOk (envOf 3 3) = true ∧ envFieldsOk { envOf 3 3 with ver := 0 } = false ∧ (counted 0).continues (envOf 3 3) = true ∧
    (counted 0).continues { envOf 3 3 with first := false, seg := 1 } = false ∧ (withFields [(Reg.GROUP_CFG_RING_SIZE, 5), (Reg.LINK_SLOT_SLOT_A, 8)] (portIn 9 p0)).envAllowed .a { envOf 3 3 with dstBox := 10 } = true ∧
    (withFields [(Reg.GROUP_CFG_RING_SIZE, 1)] (portIn 9 p0)).envAllowed .a (envOf 3 3) = false := by decide +kernel
theorem witness_Break : (portIn 0 p0).active .a = false ∧ ((portIn 0 p0).port .a).observed = false ∧ (portIn 9 { p0 with observed := true, activeRounds := 8000 }).miswired .a = false ∧
    ((portIn 9 { p0 with observed := true, activeRounds := 8000 }).port .a).observed = true ∧ (PortId.a ≠ PortId.c) := by decide +kernel
/-- A hub that may take the root. -/
def rootable : State := { withFields [(Reg.GROUP_CFG_ROOT_EN, 1), (Reg.GROUP_CFG_STANDBY_EN, 1), (Reg.HUB_ROLES_ROOT, 1)] up with
  link := { up.link with hostUp := true, noUpRounds := 8, primaryRounds := 8000 }, rt := { up.rt with round := 8064 } }
theorem witness_Root : rootable.flag Reg.GROUP_CFG_ROOT_EN = true ∧ rootable.addrValid = true ∧ rootable.link.hostUpSince + 8064 ≤ rootable.round ∧
    rootable.flag Reg.GROUP_CFG_STANDBY_EN = true ∧ rootable.flag Reg.HUB_ROLES_ROOT = true ∧ rootUp rootable.rootSeen = false := by decide +kernel

theorem witness_TunnelMsg_kinds : Kind.ofCode 6 = none ∧ SvcClass.ofCode 4 = none ∧ Kind.ofCode 4 = some .field ∧
    SvcClass.ofCode 1 = some .assured ∧ Kind.ofCode 5 = some .mgmt ∧ boxNoOk 0 = false ∧ boxNoOk 4095 = true ∧ boxNoOk 4096 = false ∧
    classFits .display .registered = false ∧ classFits .field .assured = true := by decide +kernel
theorem witness_TunnelMsg_states : (up.box 10).state = .free ∧ ((withBox (boxOf .draining) up).box 10).state = .draining ∧
    ((withBox (boxOf .opened) up).box 10).peerPc = 6 ∧ ((withBox (boxOf .opening) up).box 10).near = true ∧ up.postcode = 5 ∧
    ((withBox { boxOf .opening with peerPc := 4 } up).box 10).peerPc = 4 := by decide +kernel
theorem witness_TunnelMsg_answer : ((withBox (boxOf .opening) up).box 10).inc = 3 ∧ ((withBox (boxOf .opening) up).box 10).peerBox = 9 := by
  decide +kernel
theorem witness_TunnelTimers : (boxOf .opening).since + 792 ≤ 1692 ∧ (boxOf .draining).since + 64 ≤ 1000 ∧
    (withBox (boxOf .draining) up).boxUnits 10 = [] ∧ (withBox (boxOf .draining) up).boxHeld 10 = false ∧
    (withBox (boxOf .draining) up).tunnelHeld 10 = [] ∧ regUp.tunnelHeld 10 = [4] ∧
    ({ withBox (boxOf .draining) up with rt := { up.rt with round := 80900 } } : State).round = 80900 := by decide +kernel
theorem witness_TunnelTimers_registered : ({ regBox with state := .draining, told := true, farHeld := some 0 } : Box).farHeld = some 0 := rfl

/-- A unit queued at egress 6, whole. -/
def swUnit (egress read : Nat) : SwUnit := ⟨unitOf 3 64, 1, 0, egress, 0xFFFF, 1, 0, 0, 0, true, 0, read, 0, []⟩
def withUnit (x : SwUnit) (s : State) : State := { s with sw := { s.sw with units := [(7, x)] } }
def withHold (since : Nat) (s : State) : State := { s with sw := { s.sw with holds := [⟨3, 0, unitOf 3 64, 6, 0xFFFF, since⟩] } }
theorem witness_Switch_admit : up.powered .core = true ∧ up.servicePowered = false ∧ State.reset.powered .core = false ∧
    byTrunk (unitOf 3 64) = false ∧ (withBox (boxOf .opened) up).sourceOpen { unitOf 3 64 with srcPc := 5, srcBox := 10 } = true ∧
    up.p9Fits (unitOf 3 64) = true := by decide +kernel
theorem witness_Switch_source : (withBox (boxOf .draining) up).sourceOpen { unitOf 3 64 with srcPc := 5, srcBox := 10 } = false ∧
    ((withBox (boxOf .draining) up).box 10).state = .draining ∧ up.sourceOpen { unitOf 3 64 with srcPc := 5, srcBox := 10 } = false := by
  decide +kernel
theorem witness_Switch_p9 : ({ up with eng := { up.eng with p9Used := 1000000 } } : State).p9Fits { unitOf 9 64 with srcPc := 5, srcBox := 10 } = false := by
  decide +kernel
theorem witness_Switch_hold : ((withHold 0 up).holdAt 3 0).isSome = true ∧ up.holdAt 3 0 = none ∧
    ({ withHold 0 up with rt := { up.rt with round := 8000 } } : State).round = 8000 := by decide +kernel
theorem witness_Switch_way : (match ((withBox (boxOf .opened) up).way { unitOf 3 64 with dstInc := 3 }).1 with | .go _ _ _ _ => true | .ends => false) = true ∧
    (match (up.way (unitOf 3 64)).1 with | .go _ _ _ _ => false | .ends => true) = true := by decide +kernel
theorem witness_Switch_done : (withUnit (swUnit 6 1) up).unit 7 = some (swUnit 6 1) ∧ (swUnit 6 1).whole = true ∧
    (withUnit (swUnit 6 1) up).frameOf 7 (swUnit 6 1) = [7] ∧ (swUnit 6 1).cells ≤ (swUnit 6 1).read ∧ (swUnit 6 0).read < (swUnit 6 0).cells ∧
    (swUnit 2 1).egress ≤ 2 ∧ 2 < (swUnit 3 1).egress ∧ up.unit 7 = none := by decide +kernel
/-- A mirror copy. -/
def copyOf : Copy := ⟨0, 0, 7, 1, 3, 0, 0, [1], 0, 0, 6, 9, 5, 10, 0, 0⟩
theorem witness_Switch_copy : mget ({ up with sw := { up.sw with copies := [(2, copyOf)] } } : State).sw.copies 2 = some copyOf ∧
    125000 ≤ postmarkDiff up.now copyOf.made ∧ mget up.sw.copies 2 = none := by decide +kernel
/-- A direction with a sheet of one run of class ASSURED over slot 0. -/
def sheeted : State := (portIn 9 p0).updDir .a (fun d => { d with sheet := { Sheet.init 0 with cap := 2, runs := [⟨0xFFFE, .assured, 0, 0, 1⟩] } })
theorem witness_Slot : sheeted.active .a = true ∧ sheeted.powered .cipher = true ∧ (sheeted.dir .a).carried 0 = true ∧
    (sheeted.dir .a).carried 1 = true ∧ (sheeted.dir .a).carried 2 = false ∧ (sheeted.dir .a).sheet.runAt 1 = none ∧
    (sheeted.dir .a).sheet.runAt 0 = some ⟨0xFFFE, .assured, 0, 0, 1⟩ ∧ sheeted.runUsed .a ⟨0xFFFE, .assured, 0, 0, 1⟩ = true ∧
    sheeted.mayCarry .a 0 = false ∧ sheeted.mayCarry .a ownerMgmt = true := by decide +kernel
theorem witness_Last : ({ portIn 9 { p0 with parts := [⟨6, 9, 1, 0⟩] } with pending := [] } : State).port .a |>.part 6 9 1 |>.isSome := by decide +kernel

/-- A context of box 10 on engine 0 with items. -/
def withContext (items : List Item) (s : State) : State :=
  { withFields [(⟨Reg.ENG_RUN, 0, 16⟩, 0xFFFF)] s with eng := { s.eng with contexts := [(0, ⟨10, .field, items, 0, none, 0, 0⟩)] } }
def itemAt (crossed : Nat) : Item := ⟨0, 0, 1, crossed, false⟩
theorem witness_Engine_item : ((withContext [itemAt 0] up).contextOf 10).isSome = true ∧ up.contextOf 10 = none ∧
    (withContext [itemAt 0] up).engineRuns 0 = true ∧ (List.replicate 32 (itemAt 0)).length = 32 ∧ up.engineRuns 0 = State.reset.engineRuns 0 := by
  decide +kernel
theorem witness_Engine_display : (List.range 6).find? (fun d => (withFields [(Reg.DP_CFG_BOX 4, 10)] up).get (Reg.DP_CFG_BOX d) == 10) = some 4 ∧
    (List.range 6).find? (fun d => (withFields [(Reg.DP_CFG_BOX 3, 10)] up).get (Reg.DP_CFG_BOX d) == 10) = some 3 := by decide +kernel
theorem witness_Engine_slice : ((withContext [] up).engine 0).slice < 500 ∧ ((withContext [] up).engine 0).serving = none ∧
    (({ withContext [itemAt 0] up with eng := { (withContext [itemAt 0] up).eng with engines := [(0, { EngineSt.init with serving := some 0, outbox := 16000 })] } } : State).engine 0).outbox
      + 384 ≤ 16384 := by decide +kernel
theorem witness_Engine_abandon : mget (withContext [itemAt 80] up).eng.contexts 0 = some ⟨10, .field, [itemAt 80], 0, none, 0, 0⟩ ∧
    80 ≤ (itemAt 80).crossed ∧ up.boot.reloading = false ∧ bitOf (up.get Reg.ENG_RUN_DISABLED) 0 = false := by decide +kernel
theorem witness_Engine_postmaster : up.postmasterRuns = true ∧ up.restarting = false := by decide +kernel

/-- An entry whose write is under way. -/
def writingEntry : Entry := { heldEntry with writing := true }
theorem witness_Registry_write : mget (withRegistry regBox recordOf10 [(4, writingEntry)] [] up).reg.entries 4 = some writingEntry ∧
    up.mayIssue 6 = true ∧ ({ up with reg := { up.reg with issued := 1025 } } : State).mayIssue 6 = false := by decide +kernel
theorem witness_Registry_resend : heldEntry.dead = false ∧ (8191 : Fin 8192).val = 8191 ∧ up.skUp = true ∧
    ({ heldEntry with sentSince := true } : Entry).lastSent = some 0 ∧ 0 + up.get Reg.REG_CFG_RESEND_ROUNDS ≤ 1000 := by decide +kernel
theorem witness_Registry_scan : ({ up with reg := { up.reg with scanning := true } } : State).replayLeft = 0 ∧
    (withRegistry regBox recordOf10 [(4, heldEntry)] [] up).replayLeft ≠ 0 := by decide +kernel
theorem witness_Registry_waiting : mget ({ up with reg := { up.reg with waiting := [(10, 0)] } } : State).reg.waiting 10 = some 0 := by decide +kernel
theorem witness_Registry_bridge : ({ recordOf10 with host := false } : BookRec).passedThru ≠ ({ recordOf10 with host := false } : BookRec).consumedThru ∧
    (withFields [(Reg.BIND_VALID 0, 1), (Reg.BIND_BOX 0, 10), (Reg.BIND_BUS 0, 3)] up).busOf 10 = some 3 := by decide +kernel
theorem witness_Data_arrival : (regUp.book 10) = some recordOf10 ∧ serialBefore 32 4 4 = false ∧ serialBefore 32 4 5 = true ∧
    (5 + 2 ^ 32 - 4) % 2 ^ 32 = 1 ∧ (1028 + 2 ^ 32 - 4) % 2 ^ 32 = 1024 ∧ (1029 + 2 ^ 32 - 4) % 2 ^ 32 = 1025 ∧
    (regUp.pigeon 10 3).isSome = true ∧ regUp.pigeon 10 5 = none ∧
    (regUp.holdPigeon 10 5 6 9 0 false false [1]).isSome = true := by decide +kernel
theorem witness_Receipt : regUp.sendSide 10 = some recordOf10 ∧ serialBefore 32 4 5 = true ∧ serialBefore 32 5 5 = false ∧
    ((regUp.heldEntries 10 3).find? (fun (e : Nat × Entry) => e.2.seq == 4)).isSome = true ∧
    (regUp.heldEntries 10 3).find? (fun (e : Nat × Entry) => e.2.seq == 5) = none ∧ seqLe 4 4 = true := by decide +kernel

/-- CAN buses 0 and 3 and RS-485 buses enabled; box 10 bound by bind 0 to a bus. -/
def bridged (bus : Nat) : State :=
  withFields [(Reg.CAN_CFG_EN 0, 1), (Reg.CAN_CFG_EN 3, 1), (Reg.RS485_CFG_EN 0, 1), (Reg.RS485_CFG_EN 1, 1),
    (Reg.BIND_VALID 0, 1), (Reg.BIND_BOX 0, 10), (Reg.BIND_BUS 0, bus),
    (Reg.DEFAULT_ROUTE_EN, 1), (Reg.BUS_STATE_CAN_STATE 0, 0), (Reg.BUS_STATE_CAN_STATE 3, 1)] up
def canOn (x : CanBus) : State := { bridged 0 with bridge := { BridgeSt.init with can := [(0, x)] } }
def frame8 : CanFrame := canOf false false false 5 8
theorem witness_Can_rx : up.busUp 0 = false ∧ (bridged 0).busUp 0 = true ∧ (bridged 0).busUp 3 = true ∧
    (((bridged 0).bump (Cnt.FIELD_FRAMES_RX 0)).routeOf 0 frame8).bind ((bridged 0).bump (Cnt.FIELD_FRAMES_RX 0)).boxOfBind = some 10 ∧
    (((bridged 0).bump (Cnt.FIELD_FRAMES_RX 3)).routeOf 3 frame8).bind ((bridged 0).bump (Cnt.FIELD_FRAMES_RX 3)).boxOfBind = none ∧
    ((withBox regBox (bridged 0)).box 10).cls = .registered ∧ ((withBox (boxOf .opened) (bridged 0)).box 10).cls ≠ .registered := by decide +kernel
theorem witness_Can_offer : (⟨10, [], 0, 0⟩ : HeldCan) ∈ ((canOn { CanBus.init with hold := [⟨10, [], 0, 0⟩] }).canBus 0).hold ∧
    ((bridged 0).canBus 0).hold = [] ∧
    (((withRegistry regBox { recordOf10 with host := false } [] [] (bridged 0)).offerCan 0 10 [1] 1).1 = false) ∧
    (({ withRegistry regBox { recordOf10 with host := false } [] [] (bridged 0) with regs := ((bridged 0).setFlag Reg.DIE_LINKS_SK_UP false).regs } : State
      ).offerCan 0 10 [1] 1).1 = true := by decide +kernel
theorem witness_Can_message : (bridged 0).busOf 10 = some 0 ∧ (bridged 0).busOf 9 = none ∧ (bridged 3).busOf 10 = some 3 ∧
    (bridged 4).busOf 10 = some 4 ∧ (bridged 0).flag (Reg.CAN_CFG_FD_EN 0) = true ∧
    (withFields [(Reg.CAN_CFG_FD_EN 0, 0)] (bridged 0)).flag (Reg.CAN_CFG_FD_EN 0) = false ∧ (bridged 0).flag (Reg.CAN_CFG_EN 1) = false ∧
    32 ≤ (List.replicate 32 (⟨10, frame8⟩ : CanTx)).length ∧ ((bridged 0).canBus 0).queue.length < 32 := by decide +kernel
/-- Box 10 of the bridge holds the pigeon that passes next. -/
def bridgeReg (bus : Nat) : State :=
  withRegistry regBox { recordOf10 with host := false, consumedThru := 4 } [] [pigeonAt 5] (bridged bus)
theorem witness_Can_registered : (bridgeReg 0).busReady 0 = true ∧ ((bridgeReg 0).passToBridge 10 5).isSome = true ∧
    ((bridgeReg 0).passToBridge 10 6).isNone = true ∧ (canOn { CanBus.init with reg := some (10, 5) }).busReady 0 = false := by decide +kernel
theorem witness_Can_tx : ((canOn { CanBus.init with queue := [⟨10, frame8⟩] }).canBus 0).queue = [⟨10, frame8⟩] ∧
    ((canOn { CanBus.init with reg := some (10, 5) }).canBus 0).reg = some (10, 5) ∧ (bridged 0).busUp 1 = false ∧
    ((bridged 0).canBus 0).reg = none ∧
    (withFields [(Reg.BUS_STATE_CAN_STATE 0, 2)] (bridged 0)).get (Reg.BUS_STATE_CAN_STATE 0) = 2 := by decide +kernel

/-- Two ranges of bus 0, unit 1, table 3: addresses 0 to 9 and 10 to 19. -/
def served : State :=
  withFields [(Reg.RANGE_VALID 0, 1), (Reg.RANGE_BUS 0, 0), (Reg.RANGE_UNIT 0, 1), (Reg.RANGE_TABLE 0, 3), (Reg.RANGE_START 0, 0), (Reg.RANGE_COUNT 0, 10),
    (Reg.RANGE_VALID 1, 1), (Reg.RANGE_BUS 1, 0), (Reg.RANGE_UNIT 1, 1), (Reg.RANGE_TABLE 1, 3), (Reg.RANGE_START 1, 10), (Reg.RANGE_COUNT 1, 10)]
    (bridged 4)
theorem witness_Modbus_on : served.flag (Reg.RS485_CFG_EN 0) = true ∧ served.flag (Reg.RS485_CFG_ROLE 0) = false ∧ up.flag (Reg.RS485_CFG_EN 0) = false ∧
    (withFields [(Reg.RS485_CFG_ROLE 1, 1)] served).flag (Reg.RS485_CFG_ROLE 1) = true := by decide +kernel
theorem witness_Modbus_known : (List.range 64).any (fun k => served.flag (Reg.RANGE_VALID k) && served.get (Reg.RANGE_BUS k) == 0 && served.get (Reg.RANGE_UNIT k) == 1) = true ∧
    (List.range 64).any (fun k => served.flag (Reg.RANGE_VALID k) && served.get (Reg.RANGE_BUS k) == 0 && served.get (Reg.RANGE_UNIT k) == 2) = false := by
  decide +kernel
theorem witness_Modbus_functions : tableOf 3 = some 3 ∧ tableOf 0x10 = some 3 ∧ tableOf 7 = none ∧ tableOf 0x16 = none ∧ isWriteFn 0x10 = true ∧
    isWriteFn 3 = false ∧ countOk 3 125 = true ∧ countOk 3 126 = false ∧ countOk 0x10 123 = true ∧ countOk 1 2000 = true ∧
    countOk 1 0 = false ∧ (∀ fn : Fin 256, fn.val = 0x16 ∨ fn.val = 0x17 → tableOf fn.val = none) := by decide +kernel
theorem witness_Modbus_pieces : served.piecesOf (served.rangesOf 0 (some 1) 3) 65 0 1 = some [(0, 0, 1)] ∧
    served.piecesOf (served.rangesOf 0 (some 1) 3) 65 9 2 = some [(0, 9, 1), (1, 0, 1)] ∧
    served.piecesOf (served.rangesOf 0 (some 1) 3) 65 19 2 = none ∧ served.flag Reg.BRIDGE_CFG_COMPAT = false ∧
    (withFields [(Reg.BRIDGE_CFG_COMPAT, 1)] served).flag Reg.BRIDGE_CFG_COMPAT = true := by decide +kernel
theorem witness_Modbus_broadcast : served.piecesOf (served.rangesOf 0 none 3) 65 0 1 = some [(0, 0, 1)] ∧ served.get (Reg.RANGE_MODE 0) = 0 := by
  decide +kernel

/-- A piece, a fetch of it, and bridges that hold it. -/
def pieceOf : Piece := ⟨0, 1, 3, 0, 1⟩
def fetchOf : Fetch := ⟨3, pieceOf, false, 0, 0, false, 0⟩
def bridgeWith (x : BridgeSt) : State := { bridged 4 with bridge := x }
/-- An answer with TAG 3 and two bytes of values, or a status. -/
def answerOf (n : Nat) (st : Byte) : ModbusMsg := { mbOf n with tag := 3, status := st }
theorem witness_Held_read : (bridgeWith { BridgeSt.init with fetches := [fetchOf] }).bridge.fetches.find? (fun f =>
      f.tag == (answerOf 2 0).tag.toNat && (bridgeWith { BridgeSt.init with fetches := [fetchOf] }).boxOfBind f.piece.bind == some 10) = some fetchOf ∧
    (answerOf 2 0).data.length = dataBytes fetchOf.piece.table fetchOf.piece.count ∧
    (answerOf 3 0).data.length ≠ dataBytes fetchOf.piece.table fetchOf.piece.count ∧ (answerOf 0 0x0C).status.toNat ≠ 0 ∧
    fetchOf.gen = up.get Reg.BRIDGE_GEN_GEN ∧ ({ fetchOf with gen := 1 } : Fetch).gen ≠ up.get Reg.BRIDGE_GEN_GEN := by decide +kernel
theorem witness_Held_timeout : (bridgeWith { BridgeSt.init with fetches := [fetchOf] }).bridge.fetches.find? (fun f =>
      f.tag == 3 && decide (f.since + up.get Reg.BRIDGE_CFG_FETCH_TIMEOUT ≤ up.round)) = (if up.get Reg.BRIDGE_CFG_FETCH_TIMEOUT ≤ 1000 then some fetchOf else none) ∧
    up.bridge.fetches.find? (fun f => f.tag == 3 && decide (f.since + up.get Reg.BRIDGE_CFG_FETCH_TIMEOUT ≤ up.round)) = none := by decide +kernel
theorem witness_Held_timeout_now : (withFields [(Reg.BRIDGE_CFG_FETCH_TIMEOUT, 0)] up).get Reg.BRIDGE_CFG_FETCH_TIMEOUT ≤ 1000 := by decide +kernel
/-- A read-ahead shape of range 0. -/
def shaped : State :=
  { withFields [(Reg.RANGE_RA 0, 1), (Reg.RANGE_RA_DELAY 0, 5)] up with bridge := { BridgeSt.init with shapes := [⟨0, pieceOf, 0, false⟩] } }
theorem witness_Held_shape : shaped.shapeAt 0 0 = some ⟨0, pieceOf, 0, false⟩ ∧ shaped.shapeAt 0 1 = none ∧ shaped.flag (Reg.RANGE_RA 0) = true ∧
    0 + shaped.get (Reg.RANGE_RA_DELAY 0) ≤ shaped.round ∧ 0 + 8 * shaped.get (Reg.RANGE_RA_DELAY 0) ≤ shaped.round ∧
    ({ shaped with bridge := { shaped.bridge with fetches := [fetchOf] } } : State).bridge.fetches = [fetchOf] ∧ fetchOf.piece = pieceOf := by
  decide +kernel
/-- A CONFIRMED write whose result nobody has taken. -/
def confirmOf : Confirm := ⟨4, 0, reqOf 2, pieceOf, some 0, 0⟩
theorem witness_Held_confirm : (bridgeWith { BridgeSt.init with confirms := [confirmOf] }).bridge.confirms.find? (fun c =>
      c.tag == 4 && c.result.isSome && decide (c.since + 8000 ≤ 8000)) = some confirmOf ∧
    (bridgeWith { BridgeSt.init with confirms := [confirmOf] }).bridge.confirms.find? (fun c =>
      c.tag == 4 && c.result.isSome && decide (c.since + 8000 ≤ 7999)) = none := by decide +kernel

/-- Bus 4 a master; a transaction of it. -/
def mastered (x : MasterBus) : State :=
  { withFields [(Reg.RS485_CFG_ROLE 0, 1), (Reg.RS485_TIMING_REG_MAX_BYTES 0, 64), (Reg.RS485_TIMING_RETRIES 0, 2)] (bridged 4) with
    bridge := { BridgeSt.init with master := [(0, x)] } }
def txOf (seq : Option Nat) (tries : Nat) : MbTx := ⟨10, .posted, seq, { mbOf 2 with op := 0x10 }, tries⟩
theorem witness_Master_message : (mastered MasterBus.init).busOf 10 = some 4 ∧ (mastered MasterBus.init).flag (Reg.RS485_CFG_ROLE 0) = true ∧
    (mastered MasterBus.init).busUp 4 = true ∧ (withFields [(Reg.RS485_CFG_EN 0, 0)] (mastered MasterBus.init)).busUp 4 = false ∧
    mbClass (mbOf 2) = some .read ∧ mbClass { mbOf 2 with op := 0x12 } = none ∧ mbClass { mbOf 2 with op := 0x10, tag := 0 } = some .posted ∧
    ((mastered MasterBus.init).masterBus 0).queue.length < 32 ∧
    32 ≤ ((mastered ⟨List.replicate 32 (txOf none 0), none⟩).masterBus 0).queue.length := by decide +kernel
def masterReg : State := withRegistry regBox { recordOf10 with host := false, consumedThru := 4 } [] [pigeonAt 5] (mastered MasterBus.init)
theorem witness_Master_registered : masterReg.busReady 4 = true ∧ (match masterReg.passToBridge 10 5 with
      | some (_, v) => v.get (Reg.RS485_TIMING_REG_MAX_BYTES 0) == 64
      | none => false) = true ∧ (masterReg.passToBridge 10 6).isNone = true ∧ ({ mbOf 2 with op := 0x10 } : ModbusMsg).data.length ≤ 64 ∧
    64 < (mbOf 65).data.length ∧ (mbOf 2).farUnit ≠ 0 ∧ ({ mbOf 2 with farUnit := 0 } : ModbusMsg).farUnit = 0 ∧ (mbOf 2).op ≠ 0x10 := by
  decide +kernel
theorem witness_Master_response : ((mastered ⟨[], some (txOf (some 5) 0)⟩).masterBus 0).cur = some (txOf (some 5) 0) ∧
    ((mastered ⟨[], some (txOf none 0)⟩).masterBus 0).cur = some (txOf none 0) ∧
    ((mastered MasterBus.init).masterBus 0).cur = none ∧ (txOf none 0).seq = none ∧ (txOf none 1).tries < 2 ∧ ¬ (txOf none 2).tries < 2 ∧
    (mastered MasterBus.init).get (Reg.RS485_TIMING_RETRIES 0) = 2 := by decide +kernel

/-- Display ports on, with a record for input 4. -/
def shown (x : DpSt) : State :=
  { withFields [(Reg.DP_CFG_EN 0, 1), (Reg.DP_CFG_EN 4, 1), (Reg.DP_CFG_BOX 4, 10), (Reg.DP_STATE_HPD 0, 1), (Reg.DP_STATE_TRAINED 0, 1)] up with
    media := { MediaSt.init with dp := [(4, x)] }, tun := { up.tun with boxes := [(10, { boxOf .opened with kind := .display, cls := .iso, flow := some 0 })] } }
def parcelOf (postmark : BitVec 64) (bytes : Nat) : Parcel := ⟨postmark, 0, 0, true, false, false, true, bytes, 24⟩
theorem witness_Display_on : (shown DpSt.init).dpOn 0 = true ∧ (shown DpSt.init).dpOn 4 = true ∧ up.dpOn 4 = false ∧
    (shown DpSt.init).flag (Reg.DP_STATE_HPD 0) = true ∧ (withFields [(Reg.DP_STATE_HPD 0, 0)] (shown DpSt.init)).flag (Reg.DP_STATE_HPD 0) = false := by
  decide +kernel
theorem witness_Display_aux : ((shown { DpSt.init with copy := some ([1], [2]) }).dp 4).copy = some ([1], [2]) ∧ ((shown DpSt.init).dp 4).copy = none ∧
    ((shown DpSt.init).dp 4).aux = none ∧ ((shown { DpSt.init with aux := some 3 }).dp 4).aux ≠ none ∧ (255 : Fin (2 ^ 20)).val < 256 ∧
    256 ≤ (256 : Fin (2 ^ 20)).val := by decide +kernel
theorem witness_Display_close : ((shown DpSt.init).dpTunnel 4).isSome = true ∧ up.dpTunnel 4 = none ∧ (parcelOf 0 2032).bytes ≤ 2032 ∧
    2032 < (parcelOf 0 2033).bytes ∧
    (((shown DpSt.init).dpTunnel 4).bind (fun x => ((shown DpSt.init).set (Reg.DP_STATE_STREAM 4) 1).parcelLimit x)) = some 0 ∧
    ((shown DpSt.init).dp 4).sent = 0 ∧
    ((withFields [(Reg.ISO_ALLOT_PRI 0, 4)] (shown DpSt.init)).dpTunnel 4).bind (fun x => (withFields [(Reg.ISO_ALLOT_PRI 0, 4)] (shown DpSt.init)).parcelLimit x) = some 4 := by
  decide +kernel
theorem witness_Display_parcel : (shown DpSt.init).flag (Reg.DP_STATE_TRAINED 0) = true ∧ (shown DpSt.init).playAt 0 0 < (shown DpSt.init).now ∧
    (shown DpSt.init).now ≤ (shown DpSt.init).playAt 0 0xFFFFFFFFFFFF ∧
    ({ shown DpSt.init with media := { MediaSt.init with dp := [(0, { DpSt.init with held := [parcelOf 0 16] })] } } : State).media.dp.length = 1 := by
  decide +kernel
theorem witness_Display_playout : (([parcelOf 0 16] : List Parcel).find? (fun p => p.postmark == 0)) = some (parcelOf 0 16) ∧
    (([] : List Parcel).find? (fun p => p.postmark == 0)) = none := by decide +kernel

/-- An NVMe command outstanding. -/
def nvmeOf (remote : Bool) : NvmeCmd := ⟨⟨0, false, 2, 1, 0, 1⟩, 0, remote, 10, 3, none, 0⟩
def stored (remote : Bool) : State :=
  { withFields [(Reg.SSD_STATE_STATE, 2), (Reg.RELAY_CFG_CMD_TIMEOUT, 0)] up with
    media := { MediaSt.init with cmds := [(3, nvmeOf remote)], held := [⟨0, false, 2, 1, 0, 1⟩] } }
theorem witness_Storage : up.powered .hostio = true ∧ State.reset.powered .hostio = false ∧ mget (stored true).media.cmds 3 = some (nvmeOf true) ∧
    mget (stored false).media.cmds 3 = some (nvmeOf false) ∧ mget up.media.cmds 3 = none ∧
    (nvmeOf true).since + (stored true).get Reg.RELAY_CFG_CMD_TIMEOUT * 8000 ≤ (stored true).round ∧ (stored true).get Reg.SSD_STATE_STATE = 2 ∧
    (withFields [(Reg.SSD_STATE_STATE, 1)] up).get Reg.SSD_STATE_STATE = 1 ∧
    (⟨0, false, 2, 1, 0, 1⟩ : VfSub) ∈ (stored true).media.held ∧ up.media.held = [] := by decide +kernel
theorem witness_Ethernet : (withFields [(Reg.SUB_CFG_EN 10, 1), (Reg.SUB_STATE_LINK 10, 1), (Reg.SUB_CFG_EN 0, 1), (Reg.SUB_STATE_LINK 0, 1)] up).subOn 10 = true ∧
    (withFields [(Reg.SUB_CFG_EN 0, 1), (Reg.SUB_STATE_LINK 0, 1)] up).subOn 0 = true ∧ up.subOn 10 = false ∧ up.powered .station = true ∧
    up.servicePowered = false ∧ (withFields [(Reg.SUB_CFG_EN 0, 1)] up).flag (Reg.SUB_CFG_EN 0) = true ∧
    ((withFields [(Reg.SUB_STATE_LINK 0, 1)] up).setFlag (Reg.SUB_STATE_REMOTE_FAULT 0) true).flag (Reg.SUB_STATE_LINK 0) = true ∧
    (up.setFlag (Reg.SUB_STATE_REMOTE_FAULT 0) true).flag (Reg.SUB_STATE_LINK 0) = false := by decide +kernel

/-- Tree 0 and the station side attached over box 10, its isochronous box 10 with flow 0; a transfer of the tree. -/
def treed (k : TransferKind) : State :=
  { withFields [(Reg.ROOT_PORT_CTL_BOX 0, 10), (Reg.ROOT_PORT_ISO_BOX 0, 10), (Reg.ROOT_PORT_EN 0, 1), (Reg.ROOT_PORT_ATTACHED 0, 1),
      (Reg.HUB_TREE_CTL_BOX, 10), (Reg.TREE_CFG_XFER_TIMEOUT, 0), (Reg.ISO_ALLOT_PRI 0, 1)] up with
    tun := { up.tun with boxes := [(10, { boxOf .opened with kind := .peripheral, flow := some 0 })] }
    usb := { UsbSt.init with transfers := [(2, ⟨0, k, 0, 0, false⟩)] } }
theorem witness_Usb_tree : (treed .bulkIn).attached 0 = true ∧ up.attached 0 = false ∧ (treed .bulkIn).treeOpen 0 = true ∧ (treed .bulkIn).treeOpen 16 = true ∧
    up.treeOpen 0 = false ∧ mget (treed .bulkIn).usb.transfers 2 = some ⟨0, .bulkIn, 0, 0, false⟩ ∧ mget up.usb.transfers 2 = none ∧
    (treed .bulkIn).transferLate ⟨0, .bulkIn, 0, 0, false⟩ = true ∧ mayNak .bulkIn = true ∧ mayNak .bulkOut = false ∧
    (up.tree 0).sentAt = none ∧ ∀ k, (up.tree 0).sentAt = some k → k + 800 ≤ up.round := by
  refine ⟨by decide +kernel, by decide +kernel, by decide +kernel, by decide +kernel, by decide +kernel, by decide +kernel,
    by decide +kernel, by decide +kernel, by decide +kernel, by decide +kernel, by decide +kernel, ?_⟩
  intro k h
  have : (up.tree 0).sentAt = none := by decide +kernel
  simp [this] at h
theorem witness_Usb_lost : ({ treed .bulkIn with rt := { up.rt with round := 2400 } } : State).round = 2400 ∧ ((treed .bulkIn).tree 0).heardAt + 2400 ≤ 2400 ∧
    (withFields [(Reg.ROOT_PORT_ATTACHED 0, 1)] up).attached 0 = true ∧ (withFields [(Reg.ROOT_PORT_ATTACHED 0, 1)] up).treeOpen 0 = false := by decide +kernel
theorem witness_Usb_endpoint : (treed .bulkIn).get (isoBoxFld 0) = 10 ∧ up.get (isoBoxFld 0) = 0 ∧ ((treed .bulkIn).box 10).state = .opened ∧
    ((treed .bulkIn).box 10).flow = some 0 ∧ isoSlots 1024 1 ≤ (treed .bulkIn).get (Reg.ISO_ALLOT_PRI 0) ∧
    (treed .bulkIn).get (Reg.ISO_ALLOT_PRI 0) < isoSlots 4096 4 ∧ ((withBox (boxOf .draining) up).box 10).state ≠ .opened ∧
    (boxOf .opened).flow = none := by decide +kernel
/-- USB port 0 in a state. -/
def usbIn (st : Nat) (x : UsbPort) : State :=
  { withFields [(Reg.USB_PORT_STATE_STATE 0, st), (Reg.USB_PORT_CFG_EN 0, 1), (Reg.USB_PORT_CFG_SS_EN 0, 1)] up with
    usb := { UsbSt.init with ports := [(0, x)] } }
theorem witness_Usb_ports : (usbIn 0 UsbPort.init).portStateUsb 0 = 0 ∧ (usbIn 0 UsbPort.init).flag (Reg.USB_PORT_CFG_EN 0) = true ∧
    (usbIn 1 UsbPort.init).portStateUsb 0 = 1 ∧ (usbIn 2 UsbPort.init).portStateUsb 0 = 2 ∧ (usbIn 3 UsbPort.init).portStateUsb 0 = 3 ∧
    (usbIn 4 UsbPort.init).portStateUsb 0 = 4 ∧ ((usbIn 2 ⟨false, true, .none, 0⟩).usbPort 0).resetting = true ∧
    ((usbIn 1 ⟨true, false, .none, 0⟩).usbPort 0).training = true ∧ ((usbIn 4 ⟨false, false, .host, 0⟩).usbPort 0).resume = .host ∧
    ((usbIn 4 UsbPort.init).usbPort 0).resume ≠ .host ∧ (usbIn 1 UsbPort.init).flag (Reg.USB_PORT_CFG_SS_EN 0) = true ∧
    (withFields [(Reg.USB_PORT_CFG_SS_EN 0, 0)] (usbIn 2 UsbPort.init)).flag (Reg.USB_PORT_CFG_SS_EN 0) = false := by decide +kernel

/-- The service port in a device state. -/
def svcIn (st : Nat) (x : Svc) : State := { withFields [(Reg.SVC_STATE_DEV_STATE, st)] up with cmd := { up.cmd with svc := x } }
/-- A packet of 32 bytes, NOP, with its CRC as given. -/
def packetOf (crc : Nat) : List Byte := leBytes 2 1 ++ leBytes 2 0 ++ leBytes 4 0 ++ leBytes 2 32 ++ leBytes 2 5 ++ [0, 1] ++ leBytes 14 0 ++ leBytes 4 crc
def goodPacket : List Byte := packetOf (crc32c (packetOf 0)).toNat
theorem witness_Service_packet : packetCheck (svcHdr (List.replicate 32 0)) (List.replicate 32 0) = some .badLength ∧
    packetCheck (svcHdr (packetOf 0)) (packetOf 0) = some .badCrc ∧ goodPacket.length = 32 ∧
    packetCheck (svcHdr goodPacket) goodPacket ≠ some .badLength ∧ packetCheck (svcHdr goodPacket) goodPacket ≠ some .badCrc := by decide +kernel
def receiptOf : Receipt := ⟨1, 7, 0, .ok, false, false, false, false, false, false, []⟩
def noticeOf : Notice := ⟨0x80C0, 0, 5, 0, [0, 1]⟩
theorem witness_Service_state : (svcIn 3 Svc.init).svcConfigured = true ∧ up.svcConfigured = false ∧ (svcIn 4 Svc.init).svcConfigured = false ∧
    (svcIn 3 { Svc.init with receipts := [receiptOf] }).cmd.svc.receipts = [receiptOf] ∧ Svc.init.receipts = [] ∧
    (svcIn 3 { Svc.init with notices := [noticeOf] }).cmd.svc.notices = [noticeOf] ∧ Svc.init.notices = [] ∧
    (svcIn 3 { Svc.init with packets := [goodPacket] }).cmd.svc.packets = [goodPacket] ∧ Svc.init.packets = [] ∧
    (svcIn 3 { Svc.init with packets := [goodPacket] }).ready = true ∧ State.reset.ready = false := by decide +kernel
theorem witness_Service_device : (svcIn 0 Svc.init).get Reg.SVC_STATE_DEV_STATE = 0 ∧ (svcIn 1 Svc.init).get Reg.SVC_STATE_DEV_STATE ≠ 0 ∧
    (svcIn 4 { Svc.init with wakeEnabled := true, notices := [noticeOf] }).get Reg.SVC_STATE_DEV_STATE = 4 ∧ up.powered .station = true ∧
    State.reset.powered .station = false := by decide +kernel
theorem witness_Service_tag : leAt ((svcIn 3 Svc.init).tagState 64 7 4096).1 0 1 = 0 ∧
    leAt (({ svcIn 3 Svc.init with cmd := { up.cmd with book := [(0, entryOf .done 1 0)] } } : State).tagState 64 7 4096).1 0 1 = 2 ∧
    leAt (({ svcIn 3 Svc.init with cmd := { up.cmd with book := [(0, entryOf .running 1 0)] } } : State).tagState 64 7 4096).1 0 1 = 1 := by
  decide +kernel

/-- A relayed command's entry. -/
def relayedEntry (st : BookState) : BookEntry := { entryOf st 1 9 with relayed := true, dstPc := 6 }
def withBook (e : BookEntry) (s : State) : State := { s with cmd := { s.cmd with book := [(0, e)] } }
theorem witness_Messages : up.powered .hostio = true ∧ (({ up with cmd := { up.cmd with pf0 := { Pf0.init with queues := [(0, { Pf0Queue.init with en := true })] } } } : State
      ).queue 0).en = true ∧
    (withBook (relayedEntry .running) up).cmd.book.find? (fun e => e.2.relayed && e.2.path == 64 && e.2.hostSeq == 9 && (e.2.route == 2 || e.2.dstPc == 6)) =
      some (0, relayedEntry .running) ∧
    (withBook (relayedEntry .done) up).cmd.book.find? (fun e => e.2.relayed && e.2.state == .running && e.2.path == 64 && e.2.hostSeq == 9) = none ∧
    up.cmd.book.find? (fun e => e.2.relayed) = none ∧ Status.busyRetry.code = Status.busyRetry.code ∧ bitOf 1 0 = true ∧ bitOf 2 0 = false ∧
    (relayedEntry .running).state = .running ∧ (relayedEntry .done).state ≠ .running := by decide +kernel
theorem witness_Messages_relay : (relayedEntry .running).relayedAt + relayWait (relayedEntry .running).timeoutMs ≤
    ({ up with boot := { up.boot with ticks := 100000000 } } : State).boot.ticks := by decide +kernel
theorem witness_Messages_free : ({ entryOf .done 1 0 with path := 66 } : BookEntry).state = .done ∧
    (80000 : Int) * 125000 ≤ postmarkDiff ({ up with rt := { up.rt with round := 80000 } } : State).now 0 ∧
    mget (withBook { entryOf .done 1 0 with path := 66 } up).cmd.book 0 = some { entryOf .done 1 0 with path := 66 } ∧ mget up.cmd.book 511 = none := by
  decide +kernel

def mgmtIn (x : Mgmt) (s : State) : State := { s with cmd := { s.cmd with mgmt := x } }
theorem witness_Mgmt : up.mgmtAnswers = true ∧ State.reset.mgmtAnswers = false ∧ up.ready = true ∧
    (withFields [(Reg.BOOT_STATE_STAGE, 2)] up).ready = false ∧ (withFields [(Reg.BOOT_STATE_STAGE, 2)] up).mgmtAnswers = true ∧
    (mgmtIn { Mgmt.init with receipts := [receiptOf] } up).cmd.mgmt.receipts = [receiptOf] ∧ Mgmt.init.receipts = [] ∧
    (mgmtIn { Mgmt.init with notices := [noticeOf] } up).cmd.mgmt.notices = [noticeOf] ∧ Mgmt.init.notices = [] ∧
    4096 < (List.replicate 4096 (0 : Byte) ++ [0]).length ∧ (List.replicate 4096 (0 : Byte) ++ []).length ≤ 4096 ∧
    ({ up with boot := { up.boot with safe := true } } : State).keeperAwake = true ∧ up.boot.safe = false ∧ State.reset.keeperAwake = false ∧
    (mgmtIn { Mgmt.init with buffer := [1], since := 0 } up).cmd.mgmt.buffer ≠ [] := by decide +kernel

/-- Input path A in a state. -/
def pathIn (st : Nat) (x : PathSt) : State :=
  { withFields [(Reg.IN_STATE_STATE 0, st)] up with power := { PowerSt.init with pathA := x } }
theorem witness_Paths_window : ((withFields [(Reg.IN_STATE_TIMER_RUN 0, 1)] up).bump (Cnt.PWRIN_UV_EVENTS 0)).flag (Reg.IN_STATE_TIMER_RUN 0) = true ∧
    up.flag (Reg.IN_STATE_TIMER_RUN 0) = false ∧ (pathIn 5 PathSt.init).pathState 0 = 5 ∧ up.kpUp = true ∧
    (withFields [(Reg.DIE_LINKS_KP_UP, 0)] up).kpUp = false ∧ (pathIn 4 PathSt.init).pathState 0 = 4 ∧
    ((pathIn 4 PathSt.init).path 0).coolUntil ≤ 0 ∧ ((pathIn 4 { PathSt.init with inWindow := true }).path 0).inWindow = true ∧
    up.keeperRuns = true := by decide +kernel
theorem witness_Paths_en : up.enWriteOk 0 true = true ∧ (withFields [(Reg.IN_CFG_EN 1, 0)] up).enWriteOk 0 false = false ∧
    (withFields [(Reg.IN_CFG_EN 1, 1)] up).enWriteOk 0 false = true := by decide +kernel
theorem witness_Paths_states : (pathIn 1 PathSt.init).pathState 0 = 1 ∧ (pathIn 2 PathSt.init).pathState 0 = 2 ∧ (pathIn 3 PathSt.init).pathState 0 = 3 ∧
    (pathIn 0 PathSt.init).pathState 0 = 0 ∧
    ((pathIn 2 PathSt.init).setFlag (Reg.IN_STATE_LIMITING 0) true).flag (Reg.IN_STATE_TIMER_RUN 0) = false ∧
    (withFields [(Reg.IN_STATE_TIMER_RUN 0, 1)] (pathIn 2 PathSt.init)).timerEnd 0 ≤ 65535 ∧
    ({ pathIn 2 PathSt.init with boot := { up.boot with ticks := 8000 } } : State).boot.ticks = 8000 := by decide +kernel

theorem witness_Supply : up.pfw = false ∧ (withFields [(Reg.SUPPLY_STATUS_PFW, 1)] up).pfw = true ∧ up.keeperRuns = true ∧
    ({ pathIn 2 PathSt.init with boot := { up.boot with ticks := 80 } } : State).onFor10ms 0 = true ∧ up.rt.running = true ∧
    State.reset.rt.running = false ∧ (withFields [(⟨Reg.DOMAIN_ON, 0, 8⟩, 1)] up).coreStopped = true ∧
    (withFields [(⟨Reg.DOMAIN_ON, 0, 8⟩, 1)] up).keeperRuns = true ∧ up.kpUp = true ∧
    (withFields [(Reg.DIE_LINKS_KP_UP, 0)] up).kpUp = false ∧ up.boot.released = true := by decide +kernel

/-- PD ports with one of them at a Type-C state. -/
def pdIn (n tc : Nat) (x : PdPort) : State :=
  { withFields [(Reg.PD_PORT_TYPEC n, tc), (Reg.PD_PORT_SOURCE_EN n, 1)] up with pd := { PdSt.init with ports := [(n, x)] } }
theorem witness_Pd_attach : (pdIn 0 0 PdPort.init).keeperRuns = true ∧ State.reset.keeperRuns = false ∧ (pdIn 0 1 PdPort.init).typec 0 < 2 ∧
    2 ≤ (pdIn 0 2 PdPort.init).typec 0 ∧ (pdIn 0 0 PdPort.init).sourceEn 0 = true ∧ (pdIn 0 0 PdPort.init).flag (Reg.PD_PORT_FAULT_OFF 0) = false ∧
    (withFields [(Reg.PD_PORT_FAULT_OFF 0, 1)] up).flag (Reg.PD_PORT_FAULT_OFF 0) = true ∧ (pdIn 4 0 PdPort.init).typec 4 = 0 ∧
    (pdIn 3 3 PdPort.init).typec 3 < 4 ∧ (pdIn 4 3 PdPort.init).typec 4 ≠ 0 := by decide +kernel
theorem witness_Pd_detach : ((withFields [(Reg.PD_PORT_SERVICE_POWERED 4, 1), (Reg.PD_PORT_TYPEC 4, 3)] up).leavePort 4 0).servicePowered = true ∧
    ((pdIn 0 2 PdPort.init).leavePort 0 0).servicePowered = false := by decide +kernel
theorem witness_Pd_timeout : (pdIn 0 2 { PdPort.init with requested := false }).isSource 0 = true ∧
    ((pdIn 0 2 { PdPort.init with requested := false }).pdPort 0).requested = false ∧
    ((pdIn 0 2 { PdPort.init with requested := false }).pdPort 0).offerAt + 8000 ≤
      ({ pdIn 0 2 PdPort.init with boot := { up.boot with ticks := 8000 } } : State).boot.ticks := by decide +kernel
theorem witness_Pd_budget : up.budgetOk 18 = true ∧ up.budgetOk 17 = false ∧ up.budgetOk 240 = true ∧ up.budgetOk 241 = false ∧
    ((((0 : Word) &&& ~~~(0xFF : Word)) ||| ((60 : Word) &&& (0xFF : Word))).toNat) % 256 = 60 := by decide +kernel
def offering : State := pdIn 0 2 { PdPort.init with offer := [(5000, 3000), (9000, 2000)] }
theorem witness_Pd_request : offering.isSource 0 = true ∧ offering.attachedPd 0 = true ∧ (pdIn 0 3 PdPort.init).isSource 0 = false ∧
    (pdIn 0 3 PdPort.init).attachedPd 0 = true ∧ up.attachedPd 0 = false ∧ (offering.pdPort 0).offer[1 - 1]? = some (5000, 3000) ∧
    (offering.pdPort 0).offer[2 - 1]? = some (9000, 2000) ∧ (offering.pdPort 0).offer[3 - 1]? = none ∧ 3000 < 301 * 10 ∧ 300 * 10 ≤ 3000 ∧
    ((offering.updPd 0 (fun x => { x with requested := true, hardResets := 0 })).pdSend 0 "Accept").flag (Reg.PD_PORT_CONTRACT 0) = false := by
  decide +kernel
theorem witness_Pd_sink : (pdIn 4 3 PdPort.init).attachedPd 4 = true ∧ (pdIn 4 3 PdPort.init).isSource 4 = false ∧ (4 : Fin 5).val = 4 := by decide +kernel

/-- A port with a swap under way. -/
def swapping (tc : Nat) (w : PdSwap) : State := pdIn 0 tc { PdPort.init with swap := some w }
theorem witness_PdSwap_under_way : ((swapping 2 ⟨true, true, false⟩).pdPort 0).swap = some ⟨true, true, false⟩ ∧
    ((swapping 3 ⟨true, false, false⟩).pdPort 0).swap = some ⟨true, false, false⟩ ∧ ((swapping 2 ⟨false, true, true⟩).pdPort 0).swap = some ⟨false, true, true⟩ ∧
    (swapping 2 ⟨true, true, false⟩).attachedPd 0 = true ∧ ((pdIn 0 2 PdPort.init).pdPort 0).swap = none := by decide +kernel
theorem witness_PdSwap_new : (withFields [(Reg.PD_PORT_ACCEPT_PR_SWAP 0, 1), (Reg.PD_PORT_CONTRACT 0, 1)] (pdIn 0 2 PdPort.init)).flag (Reg.PD_PORT_ACCEPT_PR_SWAP 0) = true ∧
    (withFields [(Reg.PD_PORT_CONTRACT 0, 1)] (pdIn 0 2 PdPort.init)).isSource 0 = true ∧
    (withFields [(Reg.PD_PORT_ACCEPT_PR_SWAP 0, 0)] (pdIn 0 2 PdPort.init)).flag (Reg.PD_PORT_ACCEPT_PR_SWAP 0) = false ∧
    (pdIn 0 2 PdPort.init).flag (Reg.PD_PORT_CONTRACT 0) = false ∧
    4500 ≤ (withFields [(Reg.PD_PORT_MAX_W 0, 60), (Reg.PD_BUDGET_WATTS, 60)] (pdIn 0 3 PdPort.init)).offerMost 0 ∧
    (withFields [(Reg.PD_PORT_MAX_W 0, 4)] (pdIn 0 3 PdPort.init)).offerMost 0 < 4500 ∧
    (withFields [(Reg.PD_PORT_SOURCE_EN 0, 0)] (pdIn 0 3 PdPort.init)).sourceEn 0 = false := by decide +kernel
theorem witness_PdFault : ((pdIn 0 2 { PdPort.init with trans := some (9000, 200) }).pdPort 0).trans = some (9000, 200) ∧
    ((pdIn 0 2 PdPort.init).pdPort 0).trans = none ∧ (pdIn 0 2 PdPort.init).isSource 0 = true ∧ (pdIn 0 2 PdPort.init).sourceEn 0 = true ∧
    (pdIn 0 4 PdPort.init).typec 0 = 4 ∧ ((pdIn 0 4 PdPort.init).pdPort 0).recoverAt ≤ (pdIn 0 4 PdPort.init).boot.ticks := by decide +kernel
/-- The service port's supply with both inputs off. -/
def svcPd (contract : Nat) : State :=
  withFields [(Reg.PD_PORT_CONTRACT 4, contract), (Reg.PD_PORT_CURRENT 4, 300), (Reg.PD_PORT_RP_SEEN 4, 2)]
    { pdIn 4 3 PdPort.init with boot := { up.boot with ticks := 8000 } }
theorem witness_PdService : (svcPd 1).servicePowered = false ∧ (svcPd 1).anyOn = false ∧ (svcPd 1).typec 4 = 3 ∧
    (svcPd 1).flag (Reg.PD_PORT_CONTRACT 4) = true ∧ 300 ≤ (svcPd 1).get (Reg.PD_PORT_CURRENT 4) ∧
    (svcPd 0).flag (Reg.PD_PORT_CONTRACT 4) = false ∧ ((svcPd 0).pdPort 4).partner = 0 ∧ (svcPd 0).get (Reg.PD_PORT_RP_SEEN 4) = 2 ∧
    ((svcPd 0).pdPort 4).offerAt + 8000 ≤ (svcPd 0).boot.ticks ∧ (svcPd 0).servicePowered = false := by decide +kernel

/-- A domain's enable up and its supply not yet. -/
def rising (on : Nat) (d : Domain) : State := (withFields [(⟨Reg.DOMAIN_ON, 0, 8⟩, on)] up).setFlag (enableFld d) true
theorem witness_Domains : (rising 1 .core).enabled .core = true ∧ (rising 1 .core).powered .core = false ∧ (rising 3 .hostio).enabled .hostio = true ∧
    (rising 3 .hostio).powered .hostio = false ∧ (rising 3 .hostio).powered .core = true ∧ up.ps.raise = [] ∧
    ({ up with ps := { up.ps with raise := [.core] } } : State).ps.raise = [.core] ∧ up.domainReqOk 0x02 0 = false ∧ up.domainReqOk 0x20 0 = true ∧
    (withFields [(Reg.PD_PORT_SERVICE_POWERED 4, 1)] up).domainReqOk 0x20 0x20 = false ∧ State.reset.enabled .trkA = false ∧
    up.powered .cipher = true := by decide +kernel
/-- The power state and what goes with it. -/
def inState (st : Nat) (x : PsSt) : State :=
  { withFields [(Reg.PS_STATE_STATE, st), (Reg.DORMANT_CFG_EN, 1), (Reg.WAKE_CFG_WAKE_AFTER, 1), (Reg.MGMT_CFG_MGMT_ADDR, 0x21)] up with
    ps := x, boot := { up.boot with ticks := 8000 } }
theorem witness_PowerState : (inState 0 PsSt.init).ready = true ∧ (inState 0 PsSt.init).psState = 0 ∧
    (withFields [(Reg.PS_STATE_IDLE_LEFT, 0)] (inState 0 PsSt.init)).get Reg.PS_STATE_IDLE_LEFT = 0 ∧ (inState 0 PsSt.init).flag Reg.DORMANT_CFG_EN = true ∧
    (inState 1 { PsSt.init with entered := 992 }).psState = 1 ∧ 992 + 8 ≤ (inState 1 PsSt.init).round ∧
    (inState 0 PsSt.init).get Reg.MGMT_CFG_MGMT_ADDR = 0x21 ∧ (inState 2 { PsSt.init with suspended := [0] }).ps.suspended.contains 0 = true ∧
    2 ≤ (inState 2 PsSt.init).psState ∧ (inState 2 PsSt.init).get Reg.WAKE_CFG_WAKE_AFTER = 1 ∧ 0 + 1 * 7920 ≤ (inState 2 PsSt.init).boot.ticks ∧
    (inState 3 PsSt.init).psState = 3 ∧ (inState 3 PsSt.init).powered .core = true := by decide +kernel
theorem witness_PowerState_refuser : (withFields [(Reg.HUB_ROLES_ROOT, 1)] (inState 1 PsSt.init)).refuser = some 1 ∧
    (inState 1 PsSt.init).refuser = none := by decide +kernel

/-- A hub whose CORE waits for a fault's end. -/
def waitingFor (codes : List Nat) : State := { up with boot := { up.boot with waits := codes, since := 0, ticks := 28800000 } }
theorem witness_Resets_waits : (waitingFor [9]).boot.waits.contains 9 = true ∧ (waitingFor [9]).boot.waits.erase 9 = [] ∧
    (waitingFor [8, 10]).boot.waits.erase 10 = [8] ∧ (waitingFor [8]).boot.since + 800 ≤ (waitingFor [8]).boot.ticks ∧
    up.boot.waits.contains 9 = false ∧ up.boot.safe = false ∧ up.boot.held = false ∧ up.boot.ticks < up.boot.since + 800 := by decide +kernel
theorem witness_Resets_pin : ({ up with boot := { up.boot with held := true } } : State).boot.held = true ∧ up.boot.keep = true ∧
    State.reset.boot.keep = false ∧ State.reset.boot.held = false := by decide +kernel
theorem witness_Resets_links : up.skUp = true ∧ (withFields [(Reg.DIE_LINKS_SK_UP, 0)] up).skUp = false ∧ up.boot.released = true ∧
    (waitingFor []).boot.skDownSince + 8000 ≤ (waitingFor []).boot.ticks ∧ up.powered .core = true ∧
    ({ waitingFor [] with boot := { (waitingFor []).boot with safe := true } } : State).boot.safeSince + 28800000 ≤ (waitingFor []).boot.ticks := by
  decide +kernel
theorem witness_Startup : State.reset.boot.keep = false ∧ up.boot.keep = true ∧
    ({ State.reset with boot := { BootSt.init with keep := true } } : State).boot.released = false ∧
    ({ withFields [(Reg.RESET_CAUSE_KIND, 3)] up with boot := BootSt.init } : State).get Reg.RESET_CAUSE_KIND = 3 ∧
    (withFields [(Reg.RESET_CAUSE_KIND, 2)] up).get Reg.RESET_CAUSE_KIND ≠ 3 ∧ (withFields [(Reg.BOOT_STATE_STAGE, 2)] up).reading 0 = true ∧
    up.reading 0 = false ∧ (withFields [(Reg.BOOT_STATE_TRIAL, 1)] up).flag Reg.BOOT_STATE_TRIAL = true ∧ up.postmasterRuns = true ∧
    (waitingFor []).boot.trialSince + 80000 ≤ (waitingFor []).boot.ticks ∧ up.boot.tested = false ∧
    ({ up with boot := { up.boot with reloading := true } } : State).powered .core = true := by decide +kernel
/-- The header of an image of LENGTH 8 (R477). -/
def headerOf : List Byte :=
  leBytes 4 0x57464B48 ++ leBytes 2 1 ++ leBytes 2 0 ++ leBytes 2 0x7400 ++ leBytes 2 0xB0 ++ leBytes 4 1 ++ leBytes 4 8 ++ List.replicate 236 0
theorem witness_Startup_image : imageHeaderOk ⟨true, headerOf, .vendor, true⟩ = true ∧ imageHeaderOk ⟨true, [], .vendor, true⟩ = false ∧
    imageLength ⟨true, headerOf, .vendor, true⟩ = 8 := by decide +kernel
theorem witness_Keeper : (withFields [(Reg.SEC_STATE_LOCKOUT, 1)] up).flag Reg.SEC_STATE_LOCKOUT = true ∧ up.sec.lockUntil ≤ up.boot.ticks ∧
    ({ up with sec := { up.sec with zeroising := some 512 } } : State).mayErase = true ∧ up.keeperRuns = true ∧ up.mayErase = false := by decide +kernel
theorem witness_Memory : up.memOn 0 = true ∧ up.memOn 7 = true ∧ State.reset.memOn 0 = false ∧ State.reset.memOn 7 = false ∧
    up.mem.revisit.contains (0, 5) = false ∧ ({ up with mem := { up.mem with revisit := [(0, 5)] } } : State).mem.revisit.contains (0, 5) = true ∧
    16 ≤ ((List.range 16).map (fun k => (0, k)) |>.filter (fun (e : Nat × Nat) => e.1 == 0)).length ∧
    (((List.range 15).map (fun k => (0, k))).filter (fun (e : Nat × Nat) => e.1 == 0)).length < 16 ∧ (up.passOn 0 5).mem.written.contains (0, 5) = false ∧
    ErrRegion_mem (.bufferUnit 3) = 0 ∧ ErrRegion_mem (.dualRound) = 7 ∧ ErrRegion_mem .image = 6 ∧ ErrRegion_mem (.bufferUnit 3) ≠ 1 := by decide +kernel
theorem witness_Recorder_second : up.boot.keep = true ∧ up.boot.released = true ∧
    0 + 480000 ≤ ({ up with boot := { up.boot with ticks := 480000 } } : State).boot.ticks ∧ up.recorder.frozenAt = 0 := by decide +kernel
theorem witness_RegisterAccess : up.ready = true ∧ up.get Reg.BOOT_STATE_STAGE = 4 ∧ up.powered .hostio = true ∧ 0x1000 % 4 = 0 ∧ 0x17FC < 0x1800 ∧
    0x17FC % 4 = 0 ∧ addressOk Reg.NOTICE_CFG = true ∧ State.reset.ready = false := by decide +kernel

/-! The conditions of the statements that no witness above meets. -/

theorem witness_Bridge_routes_apart : up.routesApart = true ∧
    ((up.shadowWords [(Reg.ROUTE_0 4095, 0x800007FF), (Reg.ROUTE_4 4095, 0x3F)]).applyShadows).routesApart = true ∧
    (((up.shadowWords [(Reg.ROUTE_0 4095, 0x800007FF), (Reg.ROUTE_4 4095, 0x3F), (Reg.ROUTE_0 4094, 0x800007FF), (Reg.ROUTE_4 4094, 0x3F)]
      ).applyShadows).routesApart = false) := by decide +kernel
theorem witness_Policy_reserved : (policyOf 60 0).reservedOk = true ∧ ({ policyOf 60 0 with res3 := 1 } : PdPolicy).reservedOk = false := by
  decide +kernel
/-- A hub that has accepted another master for the next boundary. -/
def accepting (epoch pri pc : Nat) : State := { live 2 with rt := { (live 2).rt with accepted := some ⟨epoch, pc, pri, false⟩ } }
theorem witness_Records_pending : (accepting 3 7 8).winsPending 3 7 9 = false ∧ (accepting 3 7 8).winsPending 4 1 9 = true ∧
    (live 2).winsPending 3 7 9 = true ∧ (accepting 2 7 9).rt.accepted = some ⟨2, 9, 7, false⟩ := by decide +kernel
def missing (t n : Nat) : State := { live t with rt := { (live t).rt with missed := n, heard := false } }
theorem witness_Timing_missed : (missing 3 64).timing = 3 ∧ 64 ≤ (missing 3 64).rt.missed ∧ (missing 3 64).rt.heard = false ∧
    (missing 3 64).rt.accepted = none ∧ 2 ≤ (missing 2 2).rt.missed ∧ 3 ≤ (missing 2 3).rt.missed ∧ 0 < (missing 2 2).priority ∧
    (withFields [(Reg.TIMING_DEP_VALID, 1)] (missing 2 2)).flag Reg.TIMING_DEP_VALID = true := by decide +kernel
theorem witness_Timing_free : (missing 0 0).timing = 0 ∧ 64 ≤ ({ missing 0 0 with rt := { (missing 0 0).rt with silent := 64 } } : State).rt.silent ∧
    8000 ≤ (headed 3).rt.stateRounds ∧ (headed 3).timing = 3 ∧ 64 ≤ ({ (live 1).rt with goodRounds := 64 } : RoundSt).goodRounds := by decide +kernel
theorem witness_Swap_reset : (swapOf true .awaitAgree).e = 0 ∧ (live 2).rt.round + 1 < ({ swapOf true .awaitE with e := 1002 } : Swap).e ∧
    (live 2).rt.round + 1 = ({ swapOf true .awaitE with e := 1001 } : Swap).e ∧ (live 2).rt.mark = 0 := by decide +kernel
theorem witness_Swap_offers : ({ swapOf false .requestDue with offer := false } : Swap).phase = .requestDue ∧ (swapOf false .requestDue).peer = 9 ∧
    (swapOf false .awaitGo).offer = false ∧ (swapOf false .awaitGo).round = 1000 ∧
    ({ swapOf true .awaitAgree with offer := true } : Swap).offer = true ∧ (swapOf true .goDue).phase = .goDue ∧
    (swapOf true .goDue).peerPri = 7 := by decide +kernel

theorem witness_Train_mismatch : bitOf ((portIn 2 { p0 with locked := 3, nonces := [(0, 7), (1, 8)] }).port .a).mismatched 1 = true ∧
    bitOf ((portIn 2 { p0 with locked := 3, nonces := [(0, 7), (1, 7)] }).port .a).mismatched 1 = false := by decide +kernel
theorem witness_Lock_headers : (mget ((portIn 2 { p0 with badHdrs := [(3, 15)] }).port .a).badHdrs 3).getD 0 + 1 = 16 ∧
    (mget ((portIn 2 p0).port .a).badHdrs 3).getD 0 + 15 < 16 ∧ mget ((portIn 2 p0).port .a).marksMissed 3 = none ∧
    mget ((portIn 2 { p0 with marksMissed := [(3, 0)] }).port .a).marksMissed 3 = some 0 ∧ (portIn 2 p0).fullRate .a = false := by decide +kernel
theorem witness_Timers_waited : ((portIn 2 p0).port .a).alignWaited = false ∧ ((portIn 2 { p0 with alignWaited := true }).port .a).alignWaited = true ∧
    slotsOf (popCount 1 4) true ≤ slotsOf (popCount ((portIn 6 { p0 with halfChosen := 15 }).port .a).halfChosen 4) false ∧
    slotsOf (popCount ((portIn 6 { p0 with halfChosen := 15 }).port .a).halfChosen 4) false < slotsOf (popCount 15 4) true := by decide +kernel
/-- Port A in ACTIVE on lanes 0 and 1, lane 1 not locked. -/
def halved (x : PortSt) : State :=
  withFields [(Reg.TRK_PORT_STATE_RX_MASK 0, 3), (Reg.TRK_PORT_STATE_TX_MASK 0, 1), (Reg.TRK_PORT_CFG_LANES_EN 0, 15)]
    (portIn 9 { x with locked := 1 })
theorem witness_Lane_bad : ((3 : Nat).land ((halved p0).rxMask .a)).land (laneMask (fun n => !bitOf ((halved p0).port .a).locked n ||
      decide (8 ≤ (mget ((halved p0).port .a).badWords n).getD 0) || bitOf ((halved p0).port .a).unused n)) = 2 ∧
    ((1 : Nat).land ((halved p0).rxMask .a)).land (laneMask (fun n => !bitOf ((halved p0).port .a).locked n ||
      decide (8 ≤ (mget ((halved p0).port .a).badWords n).getD 0) || bitOf ((halved p0).port .a).unused n)) = 0 ∧
    ((1 : Nat).land ((halved { p0 with badWords := [(0, 8)] }).rxMask .a)).land (laneMask (fun n =>
      decide (8 ≤ (mget ((halved { p0 with badWords := [(0, 8)] }).port .a).badWords n).getD 0))) = 1 := by decide +kernel
theorem witness_Lane_change : ((halved p0).port .a).change = none ∧ ((halved { p0 with change := some ⟨1002, 3, true⟩ }).port .a).change ≠ none ∧
    popCount ((halved p0).txMask .a) 4 < popCount (widthOf ((3 : Nat).land ((withFields [(Reg.LANE_PLAN_POWERED 0, 3)] (halved p0)).get (Reg.LANE_PLAN_POWERED 0)))) 4 ∧
    (halved p0).txMask .a = 1 ∧ ((halved { p0 with discarding := true }).port .a).discarding = true ∧ ((halved p0).port .a).discarding = false ∧
    (1 : Nat) ≠ 0 := by decide +kernel
theorem witness_Lane_taps : presetTaps 1 ≠ presetTaps 0 ∧ (tapOf 1 1).preset.val ≠ 0 ∧ (tapOf 0 1).preset.val = 0 ∧
    (∀ v, mget ((portIn 3 p0).port .a).tapSeq 0 = some v → v % 256 ≠ 1) ∧ (mget ((portIn 3 p0).port .a).tapSeq 0).isNone = true := by
  refine ⟨by decide +kernel, by decide +kernel, by decide +kernel, ?_, by decide +kernel⟩
  intro v h
  have : mget ((portIn 3 p0).port .a).tapSeq 0 = none := by decide +kernel
  rw [this] at h
  cases h
theorem witness_Module_managed : (withFields [(Reg.TRK_PORT_CFG_MEDIUM 0, 0)] (moduled 1)).managed .a = true ∧
    (withFields [(Reg.TRK_PORT_CFG_MEDIUM 0, 1)] (moduled 1)).managed .a = false ∧ up.managed .a = false := by decide +kernel
/-- A round header of hub 9 with its CRC. -/
def headerFrom (version : Byte) : Header :=
  let h : Header := ⟨version, 0, true, 0, 9, 0, 2, 9, 1, 4, 0, 0, 0, 0, false, 0, 0, 0, 0, 0, 0, 0, 0, 0, 0, 0, 0⟩
  { h with crc := crc32c (headBytes h) }
theorem witness_Link_header : headerCrcOk (headerFrom 1) = true ∧ headerCrcOk (headerFrom 2) = true ∧ (headerFrom 2).version ≠ 1 ∧
    headerCrcOk { headerFrom 1 with epoch := 3 } = false ∧ (portIn 9 p0).streams .a = true ∧ up.streams .a = false ∧
    (portIn 9 { p0 with discarding := true }).streams .a = false := by decide +kernel
theorem witness_Break_branch : (withFields [(Reg.GROUP_ROUTE_JUNCTION_1 3, 5), (Reg.GROUP_ROUTE_VALID 3, 1)] up).holdsBranch = true ∧ up.holdsBranch = false ∧
    ((portIn 9 { p0 with observed := true, activeRounds := 8000 }).port .a).activeRounds = 8000 ∧ (portIn 9 p0).miswired .a = false := by decide +kernel

/-- CIPHER off. -/
def plain (s : State) : State := withFields [(⟨Reg.DOMAIN_ON, 0, 8⟩, 0x03)] s
theorem witness_Listens : up.listens 6 = true ∧ up.listens 5 = true ∧ (plain up).listens 6 = false ∧ (plain up).listens 5 = true ∧
    State.reset.listens 5 = false := by decide +kernel
theorem witness_TunnelTimers_silent :
    (withBox { regBox with state := .draining, told := true, since := 200 } up).farSilent 10 = true ∧
    (withBox { regBox with state := .draining, told := true, since := 201 } up).farSilent 10 = false ∧
    (withBox { regBox with state := .draining } up).heldOf 10 = 0 ∧ (withBox { regBox with state := .draining } up).boxUnits 10 = [] ∧
    (withBox { regBox with state := .draining } up).boxHeld 10 = false ∧ regUp.heldOf 10 ≠ 0 := by decide +kernel
theorem witness_TunnelMsg_repeat : ((withBox (boxOf .opened) up).box 10).peerPc = 6 ∧ ((withBox (boxOf .opened) up).box 10).peerBox = 9 ∧
    ((withBox (boxOf .opening) up).box 10).near = true ∧ ((withBox { boxOf .opening with near := false } up).box 10).near = false := by decide +kernel

theorem witness_Switch_stage : up.stageOf 3 = [] ∧ up.mayWrite 3 = true ∧
    ({ up with sw := { up.sw with wrote := [3] } } : State).mayWrite 3 = false ∧
    ({ up with sw := { up.sw with wrote := [0, 1, 2, 4, 5] } } : State).mayWrite 3 = false ∧
    8 ≤ (({ up with sw := { up.sw with stage := List.replicate 8 (none, unitOf 5 64) } } : State).stageOf 5).length ∧
    (({ up with sw := { up.sw with stage := List.replicate 7 (none, unitOf 5 64) } } : State).stageOf 5).length < 8 ∧
    modeOf 5 ≠ .hold ∧ modeOf 3 = .hold ∧ modeOf 0 ≠ .hold := by decide +kernel
theorem witness_Switch_held_back : ({ up with sw := { up.sw with holds := [⟨3, up.classOf (unitOf 3 64), unitOf 3 64, 6, 0xFFFF, 0⟩] } } : State).heldBack (unitOf 3 64) = true ∧ up.heldBack (unitOf 3 64) = false ∧
    byTrunk (unitOf 0 64) = true ∧ (plain up).powered .cipher = false := by decide +kernel
/-- Box 10 of this hub to box 9 of this hub, both open. -/
def pairedUp : State := { up with tun := { up.tun with boxes := [(9, { boxOf .opened with inc := 1, peerPc := 5, peerBox := 10 }), (10, { boxOf .opened with peerPc := 5, peerBox := 9, peerInc := 1 })] } }
theorem witness_Switch_decided : ((withHold 0 up).holdAt 3 0) = some ⟨3, 0, unitOf 3 64, 6, 0xFFFF, 0⟩ ∧
    (up.decideWay (unitOf 3 64) false 0 6 0xFFFF).2 = false ∧
    ((withFields [(Reg.SW_STATUS_POOL_FREE, 0)] up).decideWay { unitOf 3 64 with colour := .red } false 0 6 0xFFFF).2 = true := by decide +kernel
theorem witness_Slot_filled : (sheeted.fillSlot .a ownerMgmt 8 263 8).2 = 0 := by decide +kernel
theorem witness_Cycle : up.readers.take 5 = [] ∧ up.powered .core = true ∧ up.servicePowered = false := by decide +kernel

theorem witness_Engine_kinds : itemFits .other .field = true ∧ itemFits (.nvme 0 2 0 1 0) .storage = true ∧ itemFits (.nvme 0 2 0 1 0) .field = false ∧
    itemFits .unplug .display = true ∧ itemFits .aux .storage = false ∧ up.boot.reloading = false := by decide +kernel
/-- Two entries of box 10 whose resend interval is over. -/
def dueUp : State :=
  withRegistry regBox recordOf10 [(4, { heldEntry with sentSince := true, lastSent := some 8000 }), (5, { heldEntry with seq := 5, sentSince := true, lastSent := some 8000 })] [] up
theorem witness_Registry_due : (dueUp.dueEntries.map (·.1)) = [4, 5] ∧ regUp.dueEntries = [] ∧ dueUp.skUp = true ∧ dueUp.powered .core = true := by
  decide +kernel
theorem witness_Return_from : regUp.returnFrom 10 4 = heldEntry.dstPc ∧ regUp.listens (regUp.returnFrom 10 4) = true ∧
    (plain regUp).listens (regUp.returnFrom 10 4) = false ∧ heldEntry.forwarded = false := by decide +kernel
theorem witness_Data_dead_box : ((withRegistry { regBox with state := .free } recordOf10 [] [] up).box 10).serves = false ∧
    (regUp.box 10).serves = true ∧ ({ recordOf10 with recv := false } : BookRec).recv = false ∧
    ({ recordOf10 with doubtValid := true, doubtSeq := 3 } : BookRec).doubtValid = true ∧ recordOf10.ownInc = 3 := by decide +kernel

theorem witness_Can_count : ((bridged 0).countFrame 0).1 = 0 ∧ ((((bridged 0).countFrame 0).2).countFrame 0).1 = 1 ∧
    (parseCan (CanFrame_bytes frame8 0)).isSome = true ∧ parseCan [] = none ∧ (withFields [(Reg.DIE_LINKS_SK_UP, 0)] up).skUp = false := by decide +kernel
theorem witness_Modbus_parse : parseModbus (ModbusMsg_bytes { answerOf 2 0 with op := 0x12 }) = some { answerOf 2 0 with op := 0x12 } ∧ parseModbus [] = none ∧
    byteCountOk { reqOf 2 with function := 0x10, byteCount := 2 } = true ∧ byteCountOk { reqOf 2 with function := 0x10 } = false ∧
    (withFields [(Reg.RANGE_MODE 0, 1)] served).get (Reg.RANGE_MODE 0) ≠ 0 := by decide +kernel
theorem witness_Held_waiting : ({ confirmOf with result := none } : Confirm).result = none ∧ shaped.bridge.fetches = [] ∧
    (bridged 4).boxOfBind 0 = some 10 := by decide +kernel

theorem witness_Display_postmark : 125000 ≤ postmarkNs (parcelOf 125000 16).postmark ∧ postmarkNs (parcelOf 124999 16).postmark < 125000 ∧
    (shown { DpSt.init with missed := [5] }).media.dp.length = 1 := by decide +kernel
theorem witness_Usb_missed : ({ treed .isoIn with usb := { (treed .isoIn).usb with missed := [(4, 0)] } } : State).usb.missed.contains (4, 0) = true ∧
    (treed .isoIn).usb.missed.contains (4, 0) = false ∧ mayNak .isoIn = false ∧
    (withFields [(Reg.TREE_CFG_XFER_TIMEOUT, 1)] (treed .bulkOut)).transferLate ⟨0, .bulkOut, 0, 0, false⟩ = false := by decide +kernel
theorem witness_Service_waking : (svcIn 4 { Svc.init with waking := true }).cmd.svc.waking = true ∧ Svc.init.waking = false ∧ Svc.init.suspended = 3 ∧
    (withFields [(Reg.SVC_STATE_SPEED, 2)] (svcIn 3 { Svc.init with receipts := [receiptOf] })).get Reg.SVC_STATE_SPEED = 2 := by decide +kernel
/-- A PF0 queue pair with two places in its completion ring. -/
def paired : State := { up with cmd := { up.cmd with pf0 := { Pf0.init with queues := [(0, { Pf0Queue.init with en := true, cqSize := 2, sqSize := 2 })] } } }
theorem witness_Messages_room : paired.pf0Room 0 = true ∧ up.pf0Room 0 = false ∧ (paired.queue 0).en = true ∧ (paired.queue 0).sqSize ≠ 0 ∧
    (up.queue 0).sqSize = 0 := by decide +kernel
/-- A read relayed again. -/
def rereadOf (at_ : Option Nat) : Reread := ⟨64, 9, 4080, 1, 7, 6, 0, 0, at_⟩
def rereading (at_ : Option Nat) : State := { up with cmd := { up.cmd with rereads := [rereadOf at_] } }
theorem witness_Messages_reread : (rereading (some 0)).cmd.rereads.find? (fun x => x.is 64 9 && x.relayedAt.isSome) = some (rereadOf (some 0)) ∧
    (rereading none).cmd.rereads.find? (fun x => x.is 64 9 && x.relayedAt.isSome) = none ∧
    0 + relayWait (rereadOf (some 0)).timeoutMs ≤ ({ rereading (some 0) with boot := { up.boot with ticks := 100000000 } } : State).boot.ticks := by
  decide +kernel

/-- A PD message on port 0. -/
def pdMsg0 (crcOk : Bool) (id : Fin 8) : PdMsg := ⟨0, crcOk, id⟩
theorem pdHeard_of (s : State) (m : PdMsg) (h : (s.attachedPd m.port.val && m.crcOk && (s.pdPort m.port.val).lastId != some m.id.val) = true) :
    PdHeard s m := by
  simp only [Bool.and_eq_true, bne_iff_ne, ne_eq] at h
  exact ⟨h.1.1, h.1.2, h.2⟩
theorem witness_Pd_heard : PdHeard offering (pdMsg0 true 2) := pdHeard_of _ _ (by decide +kernel)
theorem witness_Pd_repeat : ((pdIn 0 2 { PdPort.init with lastId := some 2 }).pdPort 0).lastId = some (pdMsg0 true 2).id.val ∧
    (pdIn 0 2 { PdPort.init with lastId := some 2 }).attachedPd 0 = true ∧ (pdMsg0 false 2).crcOk = false ∧
    pdMsgOf (.drSwap (pdMsg0 true 2)) = some (pdMsg0 true 2) := by decide +kernel
theorem witness_Pd_soft_reset : PdHeard ((pdIn 0 2 { PdPort.init with lastId := some 2 }).pdLayerReset 0) (pdMsg0 true 0) :=
  pdHeard_of _ _ (by decide +kernel)
theorem witness_Pd_timers : ((⟨0, .goodCrc⟩ : PdExpiry)).timer = .goodCrc ∧ ((pdIn 0 2 PdPort.init).pdPort 0).retries < 2 ∧
    2 ≤ ((pdIn 0 2 { PdPort.init with retries := 2 }).pdPort 0).retries ∧ ((⟨0, .softReset⟩ : PdExpiry)).timer ≠ .goodCrc ∧
    ((swapping 2 ⟨true, true, false⟩).pdPort 0).swap ≠ none := by decide +kernel
theorem witness_Pd_rest : (withFields [(Reg.PD_PORT_SOURCE_EN 0, 0)] up).restTypec 0 = 5 ∧ (pdIn 0 0 PdPort.init).restTypec 0 = 0 := by decide +kernel

theorem witness_Domains_link : (withFields [(Reg.DIE_LINKS_SK_UP, 0)] up).domainReqOk 0x20 0 = true ∧
    (withFields [(Reg.DIE_LINKS_SK_UP, 0)] up).skUp = false := by decide +kernel
theorem witness_PowerState_wake : (inState 2 PsSt.init).psState = 2 ∧ ((inState 2 PsSt.init).wake 1 0x21 0).psState = 3 ∧
    ((inState 0 PsSt.init).wake 1 0x21 0).psState = 0 ∧ (⟨0x10, true⟩ : MgmtMatch).dynamic = true ∧
    (⟨0x21, false⟩ : MgmtMatch).address.val = (inState 2 PsSt.init).get Reg.MGMT_CFG_MGMT_ADDR := by decide +kernel
theorem witness_Startup_checks : ((⟨false, [], .vendor, true⟩ : ImageFacts)).answers = false ∧ (⟨true, headerOf, .testRoot, true⟩ : ImageFacts).signer ≠ .vendor ∧
    imageHeaderOk ⟨true, headerOf, .testRoot, true⟩ = true ∧ imageHeaderOk ⟨true, headerOf, .vendor, false⟩ = true ∧
    (KeeperTests.entropy == .passed) = false ∧ up.boot.released = true := by decide +kernel
theorem witness_Memory_late : ({ withFields [(Reg.SCRUB_CFG_PERIOD 0, 1)] up with boot := { up.boot with ticks := 8000 } } : State).passLate 0 = true ∧
    (withFields [(Reg.SCRUB_CFG_PERIOD 0, 1)] up).passLate 0 = false := by decide +kernel
theorem witness_Recorder_source : up.coreStopped = false ∧ (withFields [(⟨Reg.DOMAIN_ON, 0, 8⟩, 1)] up).coreStopped = true ∧
    up.histSource 0 ≠ 0 ∧ up.histSource 63 = 0 := by decide +kernel

end Tests
end Sys2Proof
end

section
/-!
SUPPORT. What one step does: every command answers a next state and changes no part outside those named for it, so that every
step keeps the canonical form of the register file.
-/
namespace Sys2Proof
namespace Machine

/-- No meaning of the model ends in a fault or a refusal: each answers a next state before it looks at the state it begins in. -/
theorem exec_answers (c : Instr) (s : State) : ∃ t, exec c s = .next t := by
  cases c <;> exact ⟨_, rfl⟩

/-- The frame of each command is that of its meaning. -/
theorem exec_within (c : Instr) (s : State) : Within (touches c) s (after (exec c s) s) := by
  cases c with
  | registerWrite space address mask value => exact execRegisterWrite_within space address mask value s
  | rcRead address => exact execRcRead_within address s
  | nowLoRead => exact execNowLoRead_within s
  | energyLoRead x => exact execEnergyLoRead_within x s
  | operatingLoRead => exact execOperatingLoRead_within s
  | skLinkDown => exact execSkLinkDown_within s
  | skLinkUp => exact execSkLinkUp_within s
  | kpLinkDown => exact execKpLinkDown_within s
  | kpLinkUp => exact execKpLinkUp_within s
  | skLinkTimeout => exact execSkLinkTimeout_within s
  | roundBoundary sample switchTemp keeperTemp => exact execRoundBoundary_within sample switchTemp keeperTemp s
  | collectionMark => exact execCollectionMark_within s
  | sealMark => exact execSealMark_within s
  | roundHeader p ns h => exact execRoundHeader_within p ns h s
  | beat p ns r => exact execBeat_within p ns r s
  | takeover p ns r => exact execTakeover_within p ns r s
  | claim p ns r => exact execClaim_within p ns r s
  | raise p ns r => exact execRaise_within p ns r s
  | swapOffer p ns r => exact execSwapOffer_within p ns r s
  | swapAsk p ns r => exact execSwapAsk_within p ns r s
  | swapAgree p ns r => exact execSwapAgree_within p ns r s
  | swapRefuse p ns r => exact execSwapRefuse_within p ns r s
  | swapGo p ns r => exact execSwapGo_within p ns r s
  | swapReady p ns r => exact execSwapReady_within p ns r s
  | swapCancel p ns r => exact execSwapCancel_within p ns r s
  | swapDeadline => exact execSwapDeadline_within s
  | swapPartyReset => exact execSwapPartyReset_within s
  | delayAsk p seq turnaround => exact execDelayAsk_within p seq turnaround s
  | delayAnswer p seq turnaround ns => exact execDelayAnswer_within p seq turnaround ns s
  | delayAnswerTimeout p => exact execDelayAnswerTimeout_within p s
  | hopDelayMeasure p ns => exact execHopDelayMeasure_within p ns s
  | beatSilenceClaim => exact execBeatSilenceClaim_within s
  | deputyTakeover => exact execDeputyTakeover_within s
  | reserveTakeover => exact execReserveTakeover_within s
  | lockLoss => exact execLockLoss_within s
  | lockedEntry => exact execLockedEntry_within s
  | acquireTimeout => exact execAcquireTimeout_within s
  | holdoverExpired => exact execHoldoverExpired_within s
  | roundNumberWrite => exact execRoundNumberWrite_within s
  | refclkAbsent => exact execRefclkAbsent_within s
  | refclkReturn => exact execRefclkReturn_within s
  | roundMasterSwap h peer mode => exact execRoundMasterSwap_within h peer mode s
  | roundQuery h => exact execRoundQuery_within h s
  | portEnable p en => exact execPortEnable_within p en s
  | blockLock p lane => exact execBlockLock_within p lane s
  | blockLockLoss p lane => exact execBlockLockLoss_within p lane s
  | groupMark p lane farPort txMask rate maskNew groupCount skew blocks =>
    exact execGroupMark_within p lane farPort txMask rate maskNew groupCount skew blocks s
  | codewordUncorrectable p lane headers => exact execCodewordUncorrectable_within p lane headers s
  | train p lane m => exact execTrain_within p lane m s
  | tapReq p t => exact execTapReq_within p t s
  | tapAck p seq lane t => exact execTapAck_within p seq lane t s
  | widthReq p rxChosen restore ns => exact execWidthReq_within p rxChosen restore ns s
  | lanePower p mask mode roundLo => exact execLanePower_within p mask mode roundLo s
  | huntRestart p => exact execHuntRestart_within p s
  | alignStable p => exact execAlignStable_within p s
  | alignTimeout p => exact execAlignTimeout_within p s
  | tuneTimeout p readyLanes => exact execTuneTimeout_within p readyLanes s
  | stepTimeout p => exact execStepTimeout_within p s
  | relockFullTimeout p => exact execRelockFullTimeout_within p s
  | relockHalfTimeout p => exact execRelockHalfTimeout_within p s
  | checkComplete p passed => exact execCheckComplete_within p passed s
  | directionLost p => exact execDirectionLost_within p s
  | laneDegrade p lanes ns => exact execLaneDegrade_within p lanes ns s
  | laneRestore p => exact execLaneRestore_within p s
  | modulePresChange p present => exact execModulePresChange_within p present s
  | moduleInt p => exact execModuleInt_within p s
  | moduleReply p r => exact execModuleReply_within p r s
  | moduleTransactionTimeout p => exact execModuleTransactionTimeout_within p s
  | moduleReadyTimeout p => exact execModuleReadyTimeout_within p s
  | modulePoll p => exact execModulePoll_within p s
  | trunkRetrain h port forceHalf => exact execTrunkRetrain_within h port forceHalf s
  | trunkRetrainTimeout p => exact execTrunkRetrainTimeout_within p s
  | trunkStatus h port => exact execTrunkStatus_within h port s
  | envelope p e m => exact execEnvelope_within p e m s
  | frameLastTimeout p srcPc srcBox seqStamp => exact execFrameLastTimeout_within p srcPc srcBox seqStamp s
  | breakObserved p => exact execBreakObserved_within p s
  | breakWithdrawn p => exact execBreakWithdrawn_within p s
  | steeringSnapshot => exact execSteeringSnapshot_within s
  | hostLinkUp => exact execHostLinkUp_within s
  | hostLinkLoss => exact execHostLinkLoss_within s
  | configuredRootTake => exact execConfiguredRootTake_within s
  | standbyTake => exact execStandbyTake_within s
  | standbyYield => exact execStandbyYield_within s
  | tunnelOpen h box farPc farBox kind cls direction priority weight min ceil =>
    exact execTunnelOpen_within h box farPc farBox kind cls direction priority weight min ceil s
  | tunnelClose h box fwd fwdPc fwdBox fwdInc => exact execTunnelClose_within h box fwd fwdPc fwdBox fwdInc s
  | setForward h box fwdPc fwdBox fwdInc => exact execSetForward_within h box fwdPc fwdBox fwdInc s
  | tunnelAllot h op cls flow srcPc srcBox dstPc dstBox min ceil weight priority =>
    exact execTunnelAllot_within h op cls flow srcPc srcBox dstPc dstBox min ceil weight priority s
  | tunnelQuery h select index => exact execTunnelQuery_within h select index s
  | openRequest srcPc kind cls direction nearBox nearInc farBox min ceil weight priority =>
    exact execOpenRequest_within srcPc kind cls direction nearBox nearInc farBox min ceil weight priority s
  | openAnswer srcPc status farBox farInc nearBox nearInc farFlow => exact execOpenAnswer_within srcPc status farBox farInc nearBox nearInc farFlow s
  | closeRequest srcPc box inc senderBox => exact execCloseRequest_within srcPc box inc senderBox s
  | drainCount srcPc box held => exact execDrainCount_within srcPc box held s
  | openingTimeout box => exact execOpeningTimeout_within box s
  | drainComplete box => exact execDrainComplete_within box s
  | drainDiscard box => exact execDrainDiscard_within box s
  | drainLimit box => exact execDrainLimit_within box s
  | slotStart p slot => exact execSlotStart_within p slot s
  | unitAdmit u => exact execUnitAdmit_within u s
  | unitIncomplete ingress => exact execUnitIncomplete_within ingress s
  | holdRelease ingress tc => exact execHoldRelease_within ingress tc s
  | holdExpired ingress tc => exact execHoldExpired_within ingress tc s
  | unitTransferDone unit mirror => exact execUnitTransferDone_within unit mirror s
  | mirrorCopyTimeout copy => exact execMirrorCopyTimeout_within copy s
  | mirrorSet h session en srcKind destPort src snap destSub mirrorCells =>
    exact execMirrorSet_within h session en srcKind destPort src snap destSub mirrorCells s
  | itemArrival box fromP9 estimate item => exact execItemArrival_within box fromP9 estimate item s
  | sliceEnd e finished written => exact execSliceEnd_within e finished written s
  | itemAbandoned context => exact execItemAbandoned_within context s
  | lockstepMismatch => exact execLockstepMismatch_within s
  | postmasterWatchdog => exact execPostmasterWatchdog_within s
  | engineFault e => exact execEngineFault_within e s
  | engineReturn e => exact execEngineReturn_within e s
  | postRegistered h box payload => exact execPostRegistered_within h box payload s
  | entryWriteDone entry written => exact execEntryWriteDone_within entry written s
  | resend entry => exact execResend_within entry s
  | registeredData ingress srcPc srcBox dstBox dstInc seq payload => exact execRegisteredData_within ingress srcPc srcBox dstBox dstInc seq payload s
  | bridgeConsumed box outcome exception => exact execBridgeConsumed_within box outcome exception s
  | receipt srcPc dstBox dstInc seq passedThru doubtSeq doubtValid =>
    exact execReceipt_within srcPc dstBox dstInc seq passedThru doubtSeq doubtValid s
  | returned dstBox dstInc seq known fwd fwdPc fwdBox fwdInc => exact execReturned_within dstBox dstInc seq known fwd fwdPc fwdBox fwdInc s
  | registryScan => exact execRegistryScan_within s
  | lettersWaiting box => exact execLettersWaiting_within box s
  | registryApportion h items => exact execRegistryApportion_within h items s
  | collect h box max => exact execCollect_within h box max s
  | ackCollected h box thru => exact execAckCollected_within h box thru s
  | registryStatus h box => exact execRegistryStatus_within h box s
  | deadLetterRead h box first max => exact execDeadLetterRead_within h box first max s
  | deadLetterClear h entries => exact execDeadLetterClear_within h entries s
  | parcelClose d pc => exact execParcelClose_within d pc s
  | parcel d pc => exact execParcel_within d pc s
  | playoutTime d postmark errorNs => exact execPlayoutTime_within d postmark errorNs s
  | hpdPlug d rate lanes => exact execHpdPlug_within d rate lanes s
  | hpdUnplug d => exact execHpdUnplug_within d s
  | irqHpd d => exact execIrqHpd_within d s
  | capabilityCopy d dpcd edid => exact execCapabilityCopy_within d dpcd edid s
  | auxRequest d k => exact execAuxRequest_within d k s
  | auxReply d reply => exact execAuxReply_within d reply s
  | ssdEnumerate classOk behindSwitch ready namespaces sizes gen width =>
    exact execSsdEnumerate_within classOk behindSwitch ready namespaces sizes gen width s
  | ssdReadyTimeout => exact execSsdReadyTimeout_within s
  | vfSubmission vf admin opcode vnsid lba count => exact execVfSubmission_within vf admin opcode vnsid lba count s
  | remoteCompletion command status => exact execRemoteCompletion_within command status s
  | cmdTimeout command => exact execCmdTimeout_within command s
  | vfFlr vf => exact execVfFlr_within vf s
  | ethernetFrame sub f => exact execEthernetFrame_within sub f s
  | pf1TxDoorbell q tail frames => exact execPf1TxDoorbell_within q tail frames s
  | etherLink sub link remoteFault => exact execEtherLink_within sub link remoteFault s
  | transferRequest tree k => exact execTransferRequest_within tree k s
  | transferCompletion tree transfer code => exact execTransferCompletion_within tree transfer code s
  | xferTimeout tree transfer => exact execXferTimeout_within tree transfer s
  | configureEndpoint tree bytes packets => exact execConfigureEndpoint_within tree bytes packets s
  | keepAliveSend tree => exact execKeepAliveSend_within tree s
  | keepAlive tree => exact execKeepAlive_within tree s
  | treeLost tree => exact execTreeLost_within tree s
  | setPortFeaturePortPower n => exact execSetPortFeaturePortPower_within n s
  | clearPortFeaturePortPower n => exact execClearPortFeaturePortPower_within n s
  | setPortFeaturePortReset n => exact execSetPortFeaturePortReset_within n s
  | clearPortFeaturePortEnable n => exact execClearPortFeaturePortEnable_within n s
  | suspendRequest n => exact execSuspendRequest_within n s
  | clearPortFeaturePortSuspend n => exact execClearPortFeaturePortSuspend_within n s
  | hostResume n => exact execHostResume_within n s
  | remoteWake n => exact execRemoteWake_within n s
  | usbAttach n => exact execUsbAttach_within n s
  | ssLinkU0 n gen2 => exact execSsLinkU0_within n gen2 s
  | usb2Connect n speed => exact execUsb2Connect_within n speed s
  | connectFail n => exact execConnectFail_within n s
  | usbDetach n => exact execUsbDetach_within n s
  | linkRecoveryFail n => exact execLinkRecoveryFail_within n s
  | sendCommand packet => exact execSendCommand_within packet s
  | getReceipt tag wLength => exact execGetReceipt_within tag wLength s
  | getState => exact execGetState_within s
  | svcStatusAck written => exact execSvcStatusAck_within written s
  | dataStagePause partialBytes => exact execDataStagePause_within partialBytes s
  | svcBusReset partialBytes => exact execSvcBusReset_within partialBytes s
  | setConfiguration wakeEnabled => exact execSetConfiguration_within wakeEnabled s
  | svcInTransfer receipt => exact execSvcInTransfer_within receipt s
  | svcRemoteWake => exact execSvcRemoteWake_within s
  | canFrameRx bus f remote => exact execCanFrameRx_within bus f remote s
  | canMessage box seq f wellFormed => exact execCanMessage_within box seq f wellFormed s
  | canHoldTimeout bus => exact execCanHoldTimeout_within bus s
  | busOff bus => exact execBusOff_within bus s
  | busOn bus => exact execBusOn_within bus s
  | regTxLimitExpiry bus => exact execRegTxLimitExpiry_within bus s
  | modbusRequest bus r frameOk => exact execModbusRequest_within bus r frameOk s
  | readAnswer box m => exact execReadAnswer_within box m s
  | writeAnswer box m => exact execWriteAnswer_within box m s
  | fetchTimeout tag => exact execFetchTimeout_within tag s
  | readAhead range shape => exact execReadAhead_within range shape s
  | readAheadStop range shape => exact execReadAheadStop_within range shape s
  | confirmUnclaimed tag => exact execConfirmUnclaimed_within tag s
  | masterBusMessage box seq m wellFormed => exact execMasterBusMessage_within box seq m wellFormed s
  | modbusResponse bus exception data => exact execModbusResponse_within bus exception data s
  | respTimeout bus => exact execRespTimeout_within bus s
  | routeWrite h items => exact execRouteWrite_within h items s
  | routeRead h mode count first bus ide id => exact execRouteRead_within h mode count first bus ide id s
  | rangeWrite h items => exact execRangeWrite_within h items s
  | sqTail q tail fetched => exact execSqTail_within q tail fetched s
  | cqHead q head => exact execCqHead_within q head s
  | pf0Flr => exact execPf0Flr_within s
  | pf0FetchTimeout q sub => exact execPf0FetchTimeout_within q sub s
  | commandMessage srcPc via repeat_ originPath packet => exact execCommandMessage_within srcPc via repeat_ originPath packet s
  | receiptMessage srcPc originPath hostSeq status flags data => exact execReceiptMessage_within srcPc originPath hostSeq status flags data s
  | noticeMessage code number srcPc postmark body => exact execNoticeMessage_within code number srcPc postmark body s
  | relayTimeout path hostSeq => exact execRelayTimeout_within path hostSeq s
  | remoteEntryFree entry => exact execRemoteEntryFree_within entry s
  | mgmtAppend bytes => exact execMgmtAppend_within bytes s
  | mgmtSubmit => exact execMgmtSubmit_within s
  | mgmtEmpty => exact execMgmtEmpty_within s
  | mgmtStateRead => exact execMgmtStateRead_within s
  | mgmtReceiptRead => exact execMgmtReceiptRead_within s
  | mgmtNoticeRead => exact execMgmtNoticeRead_within s
  | mgmtGetReceipt tag => exact execMgmtGetReceipt_within tag s
  | mgmtAssemblyTimeout => exact execMgmtAssemblyTimeout_within s
  | nop h bytes => exact execNop_within h bytes s
  | identify h => exact execIdentify_within h s
  | hubStatus h => exact execHubStatus_within h s
  | readFeature h address => exact execReadFeature_within h address s
  | writeFeature h address mask value => exact execWriteFeature_within h address mask value s
  | readBlock h block offset count => exact execReadBlock_within h block offset count s
  | stage h set flags entries => exact execStage_within h set flags entries s
  | check h set => exact execCheck_within h set s
  | apply h set round => exact execApply_within h set round s
  | discard h set => exact execDiscard_within h set s
  | stageStatus h set => exact execStageStatus_within h set s
  | resetHub h kind => exact execResetHub_within h kind s
  | topoScan h => exact execTopoScan_within h s
  | assignPostcode h postcode force serial => exact execAssignPostcode_within h postcode force serial s
  | pwrinStatus h => exact execPwrinStatus_within h s
  | pwrinRetryClear h input => exact execPwrinRetryClear_within h input s
  | pdStatus h port => exact execPdStatus_within h port s
  | pdRoleSwap h port => exact execPdRoleSwap_within h port s
  | pdPolicy h port policy => exact execPdPolicy_within h port policy s
  | pstateStatus h => exact execPstateStatus_within h s
  | keyLetter h l => exact execKeyLetter_within h l s
  | keySlotInfo h slot => exact execKeySlotInfo_within h slot s
  | attest h nonce => exact execAttest_within h nonce s
  | zeroise h confirm => exact execZeroise_within h confirm s
  | zeroisationComplete pairConsistent => exact execZeroisationComplete_within pairConsistent s
  | debugUnlock h t => exact execDebugUnlock_within h t s
  | recorderFreeze h => exact execRecorderFreeze_within h s
  | recorderRead h first count => exact execRecorderRead_within h first count s
  | recorderThaw h => exact execRecorderThaw_within h s
  | scrubStatus h => exact execScrubStatus_within h s
  | fwStageImage h offset data verified => exact execFwStageImage_within h offset data verified s
  | fwActivate h slot image => exact execFwActivate_within h slot image s
  | inputWindowExit x high withTrip => exact execInputWindowExit_within x high withTrip s
  | inputWindowEntry x rampMet => exact execInputWindowEntry_within x rampMet s
  | pathEnWrite x en => exact execPathEnWrite_within x en s
  | rampComplete x => exact execRampComplete_within x s
  | currentLimitEngage x => exact execCurrentLimitEngage_within x s
  | currentLimitRelease x => exact execCurrentLimitRelease_within x s
  | faultTimerExpiry x tOn => exact execFaultTimerExpiry_within x tOn s
  | fastTrip x tOn => exact execFastTrip_within x tOn s
  | reverseCurrent x => exact execReverseCurrent_within x s
  | blockingRecovery x rampMet => exact execBlockingRecovery_within x rampMet s
  | switchShort x => exact execSwitchShort_within x s
  | coolDownEnd x rampMet => exact execCoolDownEnd_within x rampMet s
  | retryCountReset x => exact execRetryCountReset_within x s
  | latchRelease x => exact execLatchRelease_within x s
  | busGoodChange good => exact execBusGoodChange_within good s
  | powerFailWarning => exact execPowerFailWarning_within s
  | pfwRelease => exact execPfwRelease_within s
  | undervoltageTrip => exact execUndervoltageTrip_within s
  | keeperSample sample => exact execKeeperSample_within sample s
  | typecAttach p asSource rp => exact execTypecAttach_within p asSource rp s
  | typecDetach p => exact execTypecDetach_within p s
  | offerRequestTimeout p => exact execOfferRequestTimeout_within p s
  | pdBudgetWrite mask value => exact execPdBudgetWrite_within mask value s
  | request p object current => exact execRequest_within p object current s
  | sourceCapabilities p amps5V dualRole => exact execSourceCapabilities_within p amps5V dualRole s
  | getSourceCap p => exact execGetSourceCap_within p s
  | getSinkCap p => exact execGetSinkCap_within p s
  | prSwap p => exact execPrSwap_within p s
  | drSwap p => exact execDrSwap_within p s
  | vconnSwap p => exact execVconnSwap_within p s
  | softReset p => exact execSoftReset_within p s
  | hardReset p => exact execHardReset_within p s
  | psRdy p => exact execPsRdy_within p s
  | swapAnswer p answer => exact execSwapAnswer_within p answer s
  | unlistedPdMessage p => exact execUnlistedPdMessage_within p s
  | pdTimerExpiry p => exact execPdTimerExpiry_within p s
  | vbusTransitionDone p => exact execVbusTransitionDone_within p s
  | vbusTransitionTimeout p => exact execVbusTransitionTimeout_within p s
  | vbusOvercurrent p => exact execVbusOvercurrent_within p s
  | vbusOvervoltage p => exact execVbusOvervoltage_within p s
  | vbusUndervoltage p => exact execVbusUndervoltage_within p s
  | vbusBeforeEnable p => exact execVbusBeforeEnable_within p s
  | errorRecoveryEnd p => exact execErrorRecoveryEnd_within p s
  | servicePowerEntry => exact execServicePowerEntry_within s
  | serviceNoCaps => exact execServiceNoCaps_within s
  | domainReqWrite mask value => exact execDomainReqWrite_within mask value s
  | railEnable => exact execRailEnable_within s
  | domainSupplyGood d pipesOk => exact execDomainSupplyGood_within d pipesOk s
  | domainSupplyTimeout d => exact execDomainSupplyTimeout_within d s
  | domainSupplyLoss d => exact execDomainSupplyLoss_within d s
  | coreFaultCycle => exact execCoreFaultCycle_within s
  | idleExpiry => exact execIdleExpiry_within s
  | go => exact execGo_within s
  | dormantEntry => exact execDormantEntry_within s
  | wakeMgmt address also => exact execWakeMgmt_within address also s
  | wakeService also => exact execWakeService_within also s
  | wakePortAttach p also => exact execWakePortAttach_within p also s
  | wakeRemote n also => exact execWakeRemote_within n also s
  | wakeSupply x also => exact execWakeSupply_within x also s
  | wakeTimer also => exact execWakeTimer_within also s
  | wakeReady seconds => exact execWakeReady_within seconds s
  | lockoutEnd => exact execLockoutEnd_within s
  | entropyHealthFail => exact execEntropyHealthFail_within s
  | keeperSelfTestDone tests => exact execKeeperSelfTestDone_within tests s
  | correctableError m address => exact execCorrectableError_within m address s
  | uncorrectableError m address r => exact execUncorrectableError_within m address r s
  | scrubVisit m address corrected overtaken => exact execScrubVisit_within m address corrected overtaken s
  | scrubLate m => exact execScrubLate_within m s
  | imageReloadDone passed => exact execImageReloadDone_within passed s
  | recorderUpdate sample => exact execRecorderUpdate_within sample s
  | recorderAutoThaw => exact execRecorderAutoThaw_within s
  | resetNAssert => exact execResetNAssert_within s
  | resetNRelease => exact execResetNRelease_within s
  | powerOn => exact execPowerOn_within s
  | keeperRelease lost => exact execKeeperRelease_within lost s
  | imageVerified slot image => exact execImageVerified_within slot image s
  | bootFlashTimeout slot => exact execBootFlashTimeout_within slot s
  | trialEnd => exact execTrialEnd_within s
  | dieOvertemp => exact execDieOvertemp_within s
  | overtempRecovery => exact execOvertempRecovery_within s
  | safeEnd => exact execSafeEnd_within s
  | tuneReady p => exact execTuneReady_within p s
  | cellCycle => exact execCellCycle_within s
  | ssdCompletion command status => exact execSsdCompletion_within command status s
  | ssdFault => exact execSsdFault_within s
  | canTxComplete bus => exact execCanTxComplete_within bus s
  | svcSuspend => exact execSvcSuspend_within s
  | svcHostResume => exact execSvcHostResume_within s
  | nrHead head => exact execNrHead_within head s
  | keepLoss => exact execKeepLoss_within s
  | portResetComplete n speed => exact execPortResetComplete_within n speed s

/-- Settles O3: a command answers at once, and the frame of its meaning is the one `touches` names. -/
theorem commandFrame : Obligations.CommandFrame := by
  intro c s
  obtain ⟨t, h⟩ := exec_answers c s
  have hw := exec_within c s
  rw [h] at hw
  exact ⟨t, h, hw⟩

theorem step_of_pending_nil {s : State} (h : s.pending = []) : step s = .next s.groupTick := by
  unfold step
  rw [h]

theorem step_of_pending_cons {s : State} {c : Instr} {rest : List Instr} (h : s.pending = c :: rest) :
    step s = exec c { s with pending := rest } := by
  unfold step
  rw [h]

/-- Taking the front command off the queue changes no register, and both a command and a codeword group (R85) keep the form. -/
theorem step_keeps_regsWf {s t : State} (hs : s.regsWf) (h : step s = .next t) : t.regsWf := by
  cases hq : s.pending with
  | nil =>
    obtain rfl := Host.Outcome.next.inj ((step_of_pending_nil hq).symm.trans h)
    exact (State.groupTick_within s).form hs
  | cons c rest =>
    obtain ⟨u, hu, hw⟩ := commandFrame c { s with pending := rest }
    obtain rfl := Host.Outcome.next.inj (hu.symm.trans ((step_of_pending_cons hq).symm.trans h))
    exact hw.form hs

/-- Settles O4: every operation of the model keeps the form, as its frame says, and a step is made of them. -/
theorem registerFormKept : Obligations.RegisterFormKept :=
  fun _ _ hs h => step_keeps_regsWf hs h

end Machine
end Sys2Proof
end

section
/-!
SUPPORT. The shapes in which a statement says what a command does.
-/
namespace Sys2Proof
namespace Machine

theorem Does.of_eq {c : Instr} {s t : State} {post : State → Prop} (h : exec c s = .next t) (hp : post t) : Does c s post :=
  ⟨t, h, hp⟩

/-- A meaning that is one test, with an effect where it holds and none where not, acts under that test. -/
theorem Acts.of_ite {c : Instr} {s t : State} {guard test : Prop} [Decidable test] {post : State → Prop}
    (h : exec c s = .next (if test then t else s)) (e : guard ↔ test) (hp : guard → post t) : Acts c s guard post :=
  ⟨fun g => ⟨t, by rw [h, if_pos (e.mp g)], hp g⟩, fun g => by rw [h, if_neg (mt e.mpr g)]⟩

/-- A packet that opens, and whose body is done in the state it was entered in, ends with the body's status and data. -/
theorem exec_of_opens {c : Instr} {s u t : State} {h : CmdHdr} {op k : Nat} {params : List Byte} {fits : Bool}
    {body : Nat → State → State × CmdEnd} {st : Status} {data : List Byte} (he : exec c s = .next (s.runOpcode h op params fits body))
    (o : OpensWith s h op params k u) (hf : fits = true) (hb : body k u = (t, .done st data)) :
    exec c s = .next (t.finish k st data) := by
  rw [he, State.runOpcode_done o hf hb]

end Machine
end Sys2Proof
end

section
/-!
SUPPORT. The registers at reset (R13, R423), and the RW shadows (R11).
-/
namespace Sys2Proof
namespace Machine

theorem State.reset_regsWf : State.reset.regsWf := ⟨by decide, by decide⟩

/-- Only the key slots loaded at manufacture have entries at reset (R423). -/
theorem State.reset_word {a : Nat} (h0 : a ≠ Reg.SLOT_ATTR 0) (h1 : a ≠ Reg.SLOT_ATTR 1) (h3 : a ≠ Reg.SLOT_ATTR 3) :
    State.reset.word a = resetWord a := by
  simp only [State.word, State.reset, mget, if_neg h0.symm, if_neg h1.symm, if_neg h3.symm]

/-- Settles O5. -/
theorem resetState : Obligations.ResetState :=
  ⟨State.reset_regsWf, rfl, rfl, rfl, rfl, rfl, fun _ => State.reset_word, by decide, by decide, by decide, by decide, by decide, by decide,
    by decide⟩

theorem State.rewriteSuccessors_regs (s : State) (a : Nat) (mask : Word) : (s.rewriteSuccessors a mask).regs = s.regs := by
  unfold State.rewriteSuccessors
  split <;> rfl

/-- A masked write gives a register the bits under the mask and leaves it the others. -/
theorem State.word_applyWrite_same {s : State} (h : s.regsWf) (a : Nat) (mask value : Word) :
    (s.applyWrite a mask value).word a = (s.word a &&& ~~~mask) ||| (value &&& mask) := by
  have hw : (s.rewriteSuccessors a mask).regsWf := by
    unfold State.regsWf
    rw [State.rewriteSuccessors_regs]
    exact h
  exact State.word_setWord_same hw a _

theorem State.shadowWrite_regsWf {s : State} (h : s.regsWf) (a : Nat) (mask value : Word) : (s.shadowWrite a mask value).regsWf := h

/-- A shadow is no part of what a register reads as (R11). -/
theorem State.readWord_shadowWrite (s : State) (a b : Nat) (mask value : Word) : (s.shadowWrite a mask value).readWord b = s.readWord b := rfl

/-- Two writes merge into one shadow of their register. -/
theorem State.shadow_shadowWrite_twice {s : State} (h : s.shadow = []) (a : Nat) (m1 v1 m2 v2 : Word) :
    ((s.shadowWrite a m1 v1).shadowWrite a m2 v2).shadow = [(a, (m1 ||| m2, ((v1 &&& m1) &&& ~~~m2) ||| (v2 &&& m2)))] := by
  simp [State.shadowWrite, h, mput, mget]

/-- With a single shadow the boundary brings that one masked write into force. -/
theorem State.word_applyShadows_single {s : State} (hs : s.regsWf) {a : Nat} {m v : Word} (h : s.shadow = [(a, (m, v))]) :
    s.applyShadows.word a = (s.word a &&& ~~~m) ||| (v &&& m) := by
  have hr : s.applyShadows.regs = (s.applyWrite a m v).regs := by
    simp [State.applyShadows, forAll, h]
  have hw : s.applyShadows.word a = (s.applyWrite a m v).word a := by
    unfold State.word
    rw [hr]
  rw [hw, State.word_applyWrite_same hs]

/-- Bit by bit: outside both masks the old word, under the first alone the first value, under the second the second. -/
theorem merged_write_bits (w m1 v1 m2 v2 : Word) :
    (w &&& ~~~(m1 ||| m2)) ||| ((((v1 &&& m1) &&& ~~~m2) ||| (v2 &&& m2)) &&& (m1 ||| m2)) =
      (w &&& ~~~(m1 ||| m2)) ||| (v1 &&& m1 &&& ~~~m2) ||| (v2 &&& m2) := by
  ext i hi
  simp only [BitVec.getElem_or, BitVec.getElem_and, BitVec.getElem_not]
  cases m1[i] <;> cases m2[i] <;> simp

/-- Settles O8: the two writes stand in one shadow, whose bits are the later write's under its mask. -/
theorem laterShadowWins : Obligations.LaterShadowWins := by
  intro s a m1 v1 m2 v2 hs h
  constructor
  · have hw := State.shadowWrite_regsWf (State.shadowWrite_regsWf hs a m1 v1) a m2 v2
    rw [State.word_applyShadows_single hw (State.shadow_shadowWrite_twice h a m1 v1 m2 v2)]
    exact merged_write_bits (s.word a) m1 v1 m2 v2
  · intro b
    rw [State.readWord_shadowWrite, State.readWord_shadowWrite]

end Machine
end Sys2Proof
end

section
/-!
SUPPORT. Addresses that R8 refuses, and the opcodes over registers (R364).
-/
namespace Sys2Proof
namespace Machine

theorem addressOk_eq_false {a : Nat} (h : a % 4 ≠ 0 ∨ blockRows (a / 65536) = none) : addressOk a = false := by
  unfold addressOk
  rcases h with h | h <;> simp [h]

theorem toNat_append_halves (block offset : BitVec 16) : (block ++ offset).toNat = block.toNat * 65536 + offset.toNat := by
  rw [BitVec.toNat_append, ← Nat.shiftLeft_add_eq_or_of_lt offset.isLt, Nat.shiftLeft_eq]

theorem State.writeFeature_of_badAddress (s : State) {a : Nat} (h : addressOk a = false) (mask value : Word) :
    s.writeFeature a mask value = (s, .badParam) := by
  simp [State.writeFeature, h]

theorem stageable_of_badAddress {a : Nat} (h : addressOk a = false) (mask : Word) : stageable a mask = false := by
  simp [stageable, h]

/-- A direct write is answered with the status of its write (R10). -/
theorem execRegisterWrite_feature {s : State} (hready : s.ready = true) (hstage : s.get Reg.BOOT_STATE_STAGE = 4) (a mask value : Word) :
    exec (.registerWrite .feature a mask value) s =
      .next ((s.writeFeature a.toNat mask value).1.emit (.writeStatus a.toNat (s.writeFeature a.toNat mask value).2)) :=
  congrArg Host.Outcome.next (if_pos (by simp [hready, hstage]))

section
variable {s u : State} {h : CmdHdr} {k : Nat}

theorem execReadFeature_of_badAddress {a : Word} (ha : addressOk a.toNat = false) (o : Opens (.readFeature h a) s k u) :
    exec (.readFeature h a) s = .next (u.finish k .badParam []) :=
  exec_of_opens rfl o rfl (by simp [ha])

theorem execWriteFeature_of_opens {a mask value : Word} (o : Opens (.writeFeature h a mask value) s k u) :
    exec (.writeFeature h a mask value) s =
      .next ((u.writeFeature a.toNat mask value).1.finish k (u.writeFeature a.toNat mask value).2 []) :=
  exec_of_opens rfl o rfl rfl

/-- READ_BLOCK refuses a first address, a count or a last offset out of range (R364). -/
theorem execReadBlock_of_badRange {block offset count : BitVec 16} (o : Opens (.readBlock h block offset count) s k u)
    (hr : addressOk (block.toNat * 65536 + offset.toNat) = false ∨ count.toNat < 1 ∨ 1020 < count.toNat ∨
      0xFFFC < offset.toNat + 4 * (count.toNat - 1)) :
    exec (.readBlock h block offset count) s = .next (u.finish k .badParam []) := by
  refine exec_of_opens rfl o rfl (if_pos ?_)
  simpa [or_assoc] using hr

/-- STAGE refuses a list with an entry whose address R8 refuses: either the number of entries or that entry is out of range. -/
theorem execStage_of_badAddress {set flags : Byte} {entries : List StageEntry} {e : StageEntry} (he : e ∈ entries)
    (ha : addressOk e.address.toNat = false) (hl : h.paramLen = 4 + 12 * entries.length) (o : Opens (.stage h set flags entries) s k u) :
    exec (.stage h set flags entries) s = .next (u.finish k .badParam []) := by
  refine exec_of_opens rfl o (beq_iff_eq.mpr hl) ?_
  have hbad : entries.any (fun e => !stageable e.address.toNat e.mask) = true :=
    List.any_eq_true.mpr ⟨e, he, by simp [stageable_of_badAddress ha]⟩
  simp only [hbad, Bool.true_or, if_true, ite_self]

end

/-- Settles O7: each command tests the address before it does anything. -/
theorem badAddressHasNoEffect : Obligations.BadAddressHasNoEffect := by
  intro s u h k a hbad
  have ha : addressOk a.toNat = false := addressOk_eq_false hbad
  refine ⟨execReadFeature_of_badAddress ha, ?_, ?_, ?_, ?_⟩
  · intro mask value o
    rw [execWriteFeature_of_opens o, State.writeFeature_of_badAddress u ha]
  · rintro block offset count rfl o
    rw [toNat_append_halves] at ha
    exact execReadBlock_of_badRange o (Or.inl ha)
  · rintro set flags entries ⟨e, he, rfl⟩ hl o
    exact execStage_of_badAddress he ha hl o
  · intro mask value hready hstage
    rw [execRegisterWrite_feature hready hstage, State.writeFeature_of_badAddress s ha]

/-- Settles O9: the body of each opcode is done in the state the packet was entered in. -/
theorem queryAndRegisterOpcodesComplete : Obligations.QueryAndRegisterOpcodesComplete := by
  refine ⟨fun s u h k => ⟨?_, ?_, ?_, ?_⟩, fun s u h k => ⟨?_, ?_, ?_, ?_⟩⟩
  · intro bytes o hl
    exact exec_of_opens rfl o (beq_iff_eq.mpr hl) rfl
  · intro o
    exact exec_of_opens rfl o rfl rfl
  · intro o
    exact exec_of_opens rfl o rfl rfl
  · intro o
    exact exec_of_opens rfl o rfl rfl
  · intro address o
    exact ⟨fun ha => exec_of_opens rfl o rfl (if_pos ha), fun ha => execReadFeature_of_badAddress ha o⟩
  · intro block offset count o ha h1 h2 h3
    refine exec_of_opens rfl o rfl (if_neg ?_)
    simp only [ha, Bool.or_eq_true, Bool.not_true, Bool.false_eq_true, decide_eq_true_eq, false_or, not_or, not_lt]
    exact ⟨⟨h1, h2⟩, h3⟩
  · intro block offset count o hr
    exact execReadBlock_of_badRange o hr
  · intro address mask value o
    exact execWriteFeature_of_opens o

end Machine
end Sys2Proof
end

section
/-!
SUPPORT. Register access from the paths (R10, R11, R287, R351).
-/
namespace Sys2Proof
namespace Machine

/-- Settles O57: each access is one test with its effect. -/
theorem registerAccessActs : Obligations.RegisterAccessActs := by
  rintro s address mask value a rfl
  refine ⟨Acts.of_ite rfl ?_ ?_, Acts.of_ite rfl ?_ ?_, Acts.of_ite rfl ?_ ?_, Acts.of_ite rfl Iff.rfl fun _ => rfl, ?_⟩
  · simp
  · intro _ v st hw
    simp only [hw]
  · simp
  · exact fun _ => rfl
  · simp [and_assoc]
  · rintro _ old rfl
    rfl
  · rintro v rfl
    rfl

end Machine
end Sys2Proof
end

section
/-!
SUPPORT. The domains and their supplies (R409, R410).
-/
namespace Sys2Proof
namespace Machine

variable {s : State}

theorem execRailEnable_of_raise_nil (h : s.ps.raise = []) : exec .railEnable s = .next s := by
  change execRailEnable s = _
  simp only [execRailEnable, h]

theorem execRailEnable_of_raise_cons {d : Domain} {rest : List Domain} (h : s.ps.raise = d :: rest) :
    exec .railEnable s = .next ((s.setPs { s.ps with raise := rest }).raiseEnable d) := by
  change execRailEnable s = _
  simp only [execRailEnable, h]

theorem execDomainReqWrite_of_notOk {mask value : Word} (h : s.domainReqOk mask.toNat value.toNat = false) :
    exec (.domainReqWrite mask value) s = .next (s.emit (.writeStatus Reg.DOMAIN_REQ .notPermitted)) :=
  congrArg Host.Outcome.next (if_pos (by simp [h]))

theorem execDomainReqWrite_of_linkDown {mask value : Word} (h : s.domainReqOk mask.toNat value.toNat = true) (hl : s.skUp = false) :
    exec (.domainReqWrite mask value) s = .next (s.emit (.writeStatus Reg.DOMAIN_REQ .hwFault)) :=
  congrArg Host.Outcome.next ((if_neg (by simp [h])).trans (if_pos (by simp [hl])))

theorem execDomainReqWrite_of_ok {mask value : Word} (h : s.domainReqOk mask.toNat value.toNat = true) (hl : s.skUp = true) :
    exec (.domainReqWrite mask value) s = .next
      (((s.shadowWrite Reg.DOMAIN_REQ (mask &&& 0xFE) value).activity 0x15).emit (.writeStatus Reg.DOMAIN_REQ .ok)) :=
  congrArg Host.Outcome.next ((if_neg (by simp [h])).trans (if_neg (by simp [hl])))

/-- The supply of a domain whose enable is down, that is powered already, or that CORE does not stand under, starts nothing. -/
theorem execDomainSupplyGood_of_unready {d : Domain} (pipes : BitVec 12)
    (h : s.enabled d = false ∨ s.powered d = true ∨ (d ≠ .core ∧ s.powered .core = false)) :
    exec (.domainSupplyGood d pipes) s = .next s := by
  change execDomainSupplyGood d pipes s = _
  rcases h with h | h | ⟨hd, hc⟩
  · simp [execDomainSupplyGood, h]
  · simp [execDomainSupplyGood, h]
  · simp [execDomainSupplyGood, hd, hc]

theorem execDomainSupplyGood_of_core (pipes : BitVec 12) (he : s.enabled .core = true) (hp : s.powered .core = false) {u v : State}
    (hu : u = ((s.setPowered .core true).set Reg.BOOT_STATE_STAGE 2).startTimer)
    (hv : v = u.setBoot { u.boot with slot := u.get Reg.BOOT_STATE_ACTIVE_SLOT, failed := [] }) :
    exec (.domainSupplyGood .core pipes) s = .next (v.notice 0x80C0 [(u.word Reg.DOMAIN_ON).toNat - 2, (u.word Reg.DOMAIN_ON).toNat]) := by
  subst hv hu
  exact congrArg Host.Outcome.next ((if_neg (by simp [he, hp])).trans (if_pos rfl))

theorem execDomainSupplyGood_of_other {d : Domain} (pipes : BitVec 12) (hd : d ≠ .core) (he : s.enabled d = true)
    (hp : s.powered d = false) (hc : s.powered .core = true) :
    exec (.domainSupplyGood d pipes) s =
      .next (((s.setPowered d true).tellDomains (s.word Reg.DOMAIN_ON).toNat).domainStarts d pipes.toNat) :=
  congrArg Host.Outcome.next ((if_neg (by simp [he, hp])).trans ((if_neg hd).trans (if_neg (by simp [hc]))))

theorem execDomainSupplyTimeout_acts (s : State) (d : Domain) :
    Acts (.domainSupplyTimeout d) s (s.enabled d = true ∧ s.powered d = false) (fun t => t = s.domainFaults d) :=
  Acts.of_ite rfl (by simp) fun _ => rfl

theorem execDomainSupplyLoss_acts (s : State) (d : Domain) :
    Acts (.domainSupplyLoss d) s (s.powered d = true) (fun t => t = s.domainFaults d) :=
  Acts.of_ite rfl Iff.rfl fun _ => rfl

end Machine
end Sys2Proof
end

section
/-!
SUPPORT. Dormant and its wakes (R411 to R417).
-/
namespace Sys2Proof
namespace Machine

theorem execIdleExpiry_acts (s : State) :
    Acts .idleExpiry s (s.ready = true ∧ s.psState = 0 ∧ s.get Reg.PS_STATE_IDLE_LEFT = 0 ∧ s.flag Reg.DORMANT_CFG_EN = true)
      (fun t => t = s.setPs { s.ps with attempt := true }) :=
  Acts.of_ite rfl (by simp [and_assoc]) fun _ => rfl

theorem execGo_acts (s : State) :
    Acts .go s (s.powered .core = true ∧ s.psState < 2) (fun t => t = s.writeGo.1.emit (.writeStatus Reg.DORMANT_CFG s.writeGo.2)) :=
  Acts.of_ite rfl (by simp) fun _ => rfl

/-- At its boundary the entry into Dormant meets a refuser or is made (R413). -/
theorem execDormantEntry_acts (s : State) :
    Acts .dormantEntry s (s.psState = 1 ∧ s.ps.entered + 8 ≤ s.round) (fun t =>
      (∀ c, s.refuser = some c → t = s.activity c) ∧ (s.refuser = none → t = s.enterDormant)) := by
  refine Acts.of_ite rfl Iff.rfl fun _ => ⟨fun c hc => ?_, fun hc => ?_⟩
  · rw [hc]
  · rw [hc]

/-- A transfer of the management target that wakes the hub is held, on I3C not acknowledged; any other only passes (R415). -/
theorem execWakeMgmt_acts (s : State) (m : MgmtMatch) (also : BitVec 6) {u : State} :
    Acts (.wakeMgmt m also) s (m.dynamic = true ∨ m.address.val = s.get Reg.MGMT_CFG_MGMT_ADDR) (fun t =>
      u = s.wake 1 m.address.val also.toNat →
      (s.psState = 2 → u.psState = 3 → m.dynamic = true → t = u.emit (.refused 65 .busyRetry)) ∧
      (s.psState = 2 → u.psState = 3 → m.dynamic = false → t = u.emit (.held 65)) ∧
      (s.psState ≠ 2 ∨ u.psState ≠ 3 → t = u)) := by
  refine Acts.of_ite rfl (by simp) ?_
  rintro _ rfl
  refine ⟨fun h2 h3 hd => ?_, fun h2 h3 hd => ?_, fun hn => if_neg (not_and_or.mpr hn)⟩
  · rw [if_pos ⟨h2, h3⟩, if_pos hd]
  · rw [if_pos ⟨h2, h3⟩, if_neg (by simp [hd])]

theorem execWakeRemote_acts (s : State) (p : Fin 4) (also : BitVec 6) :
    Acts (.wakeRemote p also) s (s.portStateUsb p.val = 4 ∨ (2 ≤ s.psState ∧ s.ps.suspended.contains p.val = true))
      (fun t => t = s.wake 4 p.val also.toNat) :=
  Acts.of_ite rfl (by simp) fun _ => rfl

/-- Settles O53: each command is its test and its effect, and a wake event without a test of its own is a wake. -/
theorem domainAndPowerStateCommandsAct : Obligations.DomainAndPowerStateCommandsAct := by
  constructor
  · intro s u d
    refine ⟨execRailEnable_of_raise_nil, fun _ _ => execRailEnable_of_raise_cons,
      fun _ _ => ⟨execDomainReqWrite_of_notOk, execDomainReqWrite_of_linkDown, execDomainReqWrite_of_ok⟩,
      execDomainSupplyGood_of_unready, fun pipes he hp hu _ hv => execDomainSupplyGood_of_core pipes he hp hu hv, ?_,
      execDomainSupplyTimeout_acts s d, execDomainSupplyLoss_acts s d⟩
    rintro pipes old hd he hp hc rfl
    exact execDomainSupplyGood_of_other pipes hd he hp hc
  · intro s u also
    refine ⟨execIdleExpiry_acts s, execGo_acts s, execDormantEntry_acts s, fun m => execWakeMgmt_acts s m also,
      Does.of_eq rfl rfl, fun _ => Does.of_eq rfl rfl, fun p => execWakeRemote_acts s p also, fun _ => Does.of_eq rfl rfl, ?_, ?_⟩
    · rintro w rfl
      exact Acts.of_ite rfl Iff.rfl fun _ => rfl
    · intro seconds
      refine Acts.of_ite rfl Iff.rfl ?_
      rintro _ v w rfl rfl rfl
      rfl

end Machine
end Sys2Proof
end

section
/-!
SUPPORT. Two more shapes in which a command's meaning is met: a packet whose command waits, and a test that refuses.
-/
namespace Sys2Proof
namespace Machine

/-- A packet that opens, and whose body waits for its object, leaves its entry RUNNING. -/
theorem exec_of_opens_waits {c : Instr} {s u t : State} {h : CmdHdr} {op k n : Nat} {params : List Byte} {fits : Bool}
    {body : Nat → State → State × CmdEnd} (he : exec c s = .next (s.runOpcode h op params fits body))
    (o : OpensWith s h op params k u) (hf : fits = true) (hb : body k u = (t, .waits n)) :
    exec c s = .next (t.updEntry k (fun e => { e with wait := n })) := by
  rw [he, State.runOpcode_waits o hf hb]

/-- A meaning that leaves the state where a refusing test holds, and else has its effect, acts where the test does not hold. -/
theorem Acts.of_ite_not {c : Instr} {s t : State} {guard test : Prop} [Decidable test] {post : State → Prop}
    (h : exec c s = .next (if test then s else t)) (e : guard ↔ ¬ test) (hp : guard → post t) : Acts c s guard post :=
  ⟨fun g => ⟨t, by rw [h, if_neg (e.mp g)], hp g⟩, fun g => by rw [h, if_pos (not_not.mp (mt e.mpr g))]⟩

/-- A meaning with two effects, told apart by one test. -/
theorem next_cases {c : Instr} {s t u : State} {test : Prop} [Decidable test] (h : exec c s = .next (if test then t else u)) :
    (test → exec c s = .next t) ∧ (¬ test → exec c s = .next u) :=
  ⟨fun ht => by rw [h, if_pos ht], fun ht => by rw [h, if_neg ht]⟩

end Machine
end Sys2Proof
end

section
/-!
SUPPORT. RESET_HUB and ASSIGN_POSTCODE (R29, R475), and the exchange of the round's master (R70 to R73, R82).
-/
namespace Sys2Proof
namespace Machine

section
variable {s u : State} {h : CmdHdr} {k : Nat}

theorem execResetHub_of_badKind {kind : Byte} (o : Opens (.resetHub h kind) s k u) (hk : 2 < kind.toNat) :
    exec (.resetHub h kind) s = .next (u.finish k .badParam []) :=
  exec_of_opens rfl o rfl (if_pos hk)

theorem execResetHub_of_notPermitted {kind : Byte} (o : Opens (.resetHub h kind) s k u) (hk : kind.toNat ≤ 2)
    (hr : u.sec.zeroising ≠ none ∨ (kind.toNat = 2 ∧ u.servicePowered = true)) :
    exec (.resetHub h kind) s = .next (u.finish k .notPermitted []) :=
  exec_of_opens rfl o rfl ((if_neg hk.not_gt).trans (if_pos (by simpa [Option.isSome_iff_ne_none] using hr)))

theorem execResetHub_of_permitted {kind : Byte} (o : Opens (.resetHub h kind) s k u) (hk : kind.toNat ≤ 2)
    (hz : u.sec.zeroising = none) (hp : kind.toNat = 2 → u.servicePowered = false) :
    exec (.resetHub h kind) s = .next
      (((u.doneAfterReset k []).setBoot { u.boot with due := some ⟨kind.toNat, 3⟩ }).updEntry k (fun e => { e with wait := 0 })) :=
  exec_of_opens_waits rfl o rfl ((if_neg hk.not_gt).trans (if_neg (by simpa [hz] using hp)))

section
variable {postcode : Postcode} {force : Byte} {serial : BitVec 128}

theorem execAssignPostcode_of_badForce (o : Opens (.assignPostcode h postcode force serial) s k u) (hf : 1 < force.toNat) :
    exec (.assignPostcode h postcode force serial) s = .next (u.finish k .badParam []) :=
  exec_of_opens rfl o rfl (if_pos hf)

theorem execAssignPostcode_of_notPermitted (o : Opens (.assignPostcode h postcode force serial) s k u) (hf : force.toNat ≤ 1)
    (hr : serial ≠ Config.serial ∨ (u.addrValid = true ∧ force.toNat = 0)) :
    exec (.assignPostcode h postcode force serial) s = .next (u.finish k .notPermitted []) :=
  exec_of_opens rfl o rfl ((if_neg hf.not_gt).trans (if_pos hr))

/-- A valid postcode is replaced under FORCE alone, and only at the hub of the named serial number (R29). -/
theorem execAssignPostcode_of_permitted (o : Opens (.assignPostcode h postcode force serial) s k u) (hf : force.toNat ≤ 1)
    (hs : serial = Config.serial) (hv : u.addrValid = true → force.toNat = 1) :
    exec (.assignPostcode h postcode force serial) s = .next
      (((u.set Reg.HUB_ADDR_POSTCODE postcode.toNat).setFlag Reg.HUB_ADDR_VALID true).finish k .ok
        (leBytes 2 postcode.toNat ++ leBytes 2 0)) := by
  refine exec_of_opens rfl o rfl ((if_neg hf.not_gt).trans (if_neg ?_))
  rintro (hn | ⟨ha, h0⟩)
  · exact hn hs
  · exact absurd (hv ha) (by omega)

end

section
variable {peer : Postcode} {mode : Byte}

theorem execRoundMasterSwap_of_badParam (o : Opens (.roundMasterSwap h peer mode) s k u) (hb : 1 < mode.toNat ∨ peer.toNat = u.postcode) :
    exec (.roundMasterSwap h peer mode) s = .next (u.finish k .badParam (leBytes 8 u.rt.round ++ leBytes 2 u.epoch ++ leBytes 2 0)) :=
  exec_of_opens rfl o rfl (if_pos (by simpa using hb.symm))

/-- OFFER is the master's to send, and ASK a candidate's to its own master (R70, R73). -/
theorem execRoundMasterSwap_of_wrongRole (o : Opens (.roundMasterSwap h peer mode) s k u) (hm : mode.toNat ≤ 1) (hp : peer.toNat ≠ u.postcode)
    (hr : (mode.toNat = 0 ∧ u.timing ≠ 4) ∨ (mode.toNat = 1 ∧ (u.timing = 4 ∨ u.notCandidate = true ∨ peer.toNat ≠ u.master))) :
    exec (.roundMasterSwap h peer mode) s = .next (u.finish k .notPermitted (leBytes 8 u.rt.round ++ leBytes 2 u.epoch ++ leBytes 2 0)) := by
  refine exec_of_opens rfl o rfl ((if_neg (by simp [hp, hm])).trans ?_)
  rcases hr with ⟨h0, ht⟩ | ⟨h1, ht⟩
  · exact if_pos (by simp [h0, ht])
  · exact (if_neg (by simp [h1])).trans (if_pos (by simpa [h1, or_assoc] using ht))

/-- The hub is the party that the mode names (R70): in OFFER the master, in ASK a candidate whose master the peer is. -/
def State.SwapRole (u : State) (peer : Postcode) (mode : Byte) : Prop :=
  (mode.toNat = 0 → u.timing = 4) ∧ (mode.toNat = 1 → u.timing ≠ 4 ∧ u.notCandidate = false ∧ peer.toNat = u.master)

/-- None of the refusals for the parameters or the role meets the party that the mode names. -/
theorem State.SwapRole.notRefused {u : State} {peer : Postcode} {mode : Byte} (hr : u.SwapRole peer mode) (hm : mode.toNat ≤ 1)
    (hp : peer.toNat ≠ u.postcode) :
    ¬ (peer.toNat = u.postcode || decide (1 < mode.toNat)) = true ∧ ¬ (mode.toNat == 0 && decide (u.timing ≠ 4)) = true ∧
      ¬ (!(mode.toNat == 0) && (decide (u.timing = 4) || u.notCandidate || decide (peer.toNat ≠ u.master))) = true := by
  obtain ⟨h0, h1⟩ := hr
  refine ⟨by simp [hp, hm], by simpa using h0, ?_⟩
  rcases (show mode.toNat = 0 ∨ mode.toNat = 1 by omega) with hz | hone
  · simp [hz]
  · simpa [hone, and_assoc] using h1 hone

section
variable (o : Opens (.roundMasterSwap h peer mode) s k u) (hm : mode.toNat ≤ 1) (hp : peer.toNat ≠ u.postcode)
  (hr : u.SwapRole peer mode)
include o hm hp hr

theorem execRoundMasterSwap_of_early (he : u.rt.round < u.rt.swapRetry) :
    exec (.roundMasterSwap h peer mode) s = .next (u.finish k .busyRetry (leBytes 8 u.rt.swapRetry ++ leBytes 2 u.epoch ++ leBytes 2 0)) := by
  obtain ⟨hparam, hmaster, hother⟩ := hr.notRefused hm hp
  exact exec_of_opens rfl o rfl
    ((if_neg hparam).trans ((if_neg hmaster).trans ((if_neg hother).trans (if_pos he))))

theorem execRoundMasterSwap_of_busy (he : u.rt.swapRetry ≤ u.rt.round) (hb : u.roundBusy = true) :
    exec (.roundMasterSwap h peer mode) s = .next
      (u.finish k .busyRetry (leBytes 8 (u.rt.round + 1) ++ leBytes 2 u.epoch ++ leBytes 2 0)) := by
  obtain ⟨hparam, hmaster, hother⟩ := hr.notRefused hm hp
  exact exec_of_opens rfl o rfl
    ((if_neg hparam).trans ((if_neg hmaster).trans ((if_neg hother).trans ((if_neg he.not_gt).trans (if_pos hb)))))

/-- The named candidate's last known state is not LOCKED (R72). -/
theorem execRoundMasterSwap_of_peerUnfit (he : u.rt.swapRetry ≤ u.rt.round) (hb : u.roundBusy = false) (h0 : mode.toNat = 0)
    (hx : ∃ x ∈ u.rt.hdrs, x.2.sender = peer.toNat ∧ x.2.tstate ≠ 2) :
    exec (.roundMasterSwap h peer mode) s = .next
      (u.finish k .notPermitted (leBytes 8 u.rt.round ++ leBytes 2 u.epoch ++ leBytes 2 0)) := by
  obtain ⟨hparam, hmaster, hother⟩ := hr.notRefused hm hp
  exact exec_of_opens rfl o rfl ((if_neg hparam).trans ((if_neg hmaster).trans ((if_neg hother).trans
    ((if_neg he.not_gt).trans ((if_neg (by simp [hb])).trans (if_pos (by simpa [h0] using hx)))))))

/-- The exchange begins, and the command waits for its end (R70). -/
theorem execRoundMasterSwap_of_fit (he : u.rt.swapRetry ≤ u.rt.round) (hb : u.roundBusy = false)
    (hx : mode.toNat = 0 → ∀ x ∈ u.rt.hdrs, x.2.sender = peer.toNat → x.2.tstate = 2) :
    exec (.roundMasterSwap h peer mode) s = .next
      ((u.setRt { u.rt with swap := some ⟨mode.toNat == 0, mode.toNat == 0, peer.toNat, 0, .requestDue, u.rt.round, 0, 0,
        (mget u.cmd.book k).map (fun e => (k, e.hostSeq))⟩ }).updEntry k (fun e => { e with wait := 0 })) := by
  obtain ⟨hparam, hmaster, hother⟩ := hr.notRefused hm hp
  exact exec_of_opens_waits rfl o rfl ((if_neg hparam).trans ((if_neg hmaster).trans ((if_neg hother).trans
    ((if_neg he.not_gt).trans ((if_neg (by simp [hb])).trans (if_neg (by simpa using hx)))))))

end

end

end

/-- Settles O11: the refusals come in the order of the opcode's checks, and a packet that meets none of them is done. -/
theorem hubAndRoundCommandsComplete : Obligations.HubAndRoundCommandsComplete := by
  refine ⟨fun s u h k => ⟨fun kind o => ⟨?_, ?_, ?_⟩, fun postcode force serial o => ⟨?_, ?_, ?_⟩⟩, fun s u h k => ⟨?_, ?_, ?_⟩⟩
  · exact execResetHub_of_permitted o
  · exact execResetHub_of_badKind o
  · exact execResetHub_of_notPermitted o
  · exact execAssignPostcode_of_permitted o
  · exact execAssignPostcode_of_badForce o
  · exact execAssignPostcode_of_notPermitted o
  · exact fun peer mode => execRoundMasterSwap_of_badParam
  · intro peer mode o hm hp
    refine ⟨fun hr he hb hx => ?_, execRoundMasterSwap_of_wrongRole o hm hp, fun h0 h1 => ?_⟩
    · exact execRoundMasterSwap_of_fit o hm hp hr he hb hx
    · have hr : u.SwapRole peer mode := ⟨h0, h1⟩
      exact ⟨execRoundMasterSwap_of_early o hm hp hr, execRoundMasterSwap_of_busy o hm hp hr, execRoundMasterSwap_of_peerUnfit o hm hp hr⟩
  · exact fun o => exec_of_opens rfl o rfl rfl

end Machine
end Sys2Proof
end

section
/-!
SUPPORT. The messages that open, answer and close a tunnel (R147, R148, R170, R358).
-/
namespace Sys2Proof
namespace Machine

variable {s : State}

section
variable {pc : Postcode} {kind cls dir weight prio : Byte} {near ninc far min ceil : BitVec 16}

theorem execOpenRequest_of_unheard (hl : s.listens pc.toNat = false) :
    exec (.openRequest pc kind cls dir near ninc far min ceil weight prio) s = .next s :=
  congrArg Host.Outcome.next (if_pos (by simp [hl]))

/-- An open of a kind and a class that fit meets the box it names: a FREE one is taken, a repeat is answered again, two opens that cross are
decided by the lower postcode and box, and any other open is refused. -/
def State.openMeets (s : State) (q n i b : Nat) (k : Kind) (c : SvcClass) (twoWay : Bool) (a : Allot) : State :=
  let x := s.box b
  if x.state = .opened ∧ x.peerPc = q ∧ x.peerBox = n ∧ x.peerInc = i then s.acceptAnswer q n i b
  else if x.state = .opening ∧ x.near ∧ x.peerPc = q ∧ x.peerBox = n then
    if q < s.postcode ∨ (q = s.postcode ∧ n < b) then ((s.finishWaiters 0x0200 b .busyRetry []).boxFrees b).acceptOpen q n i b k c twoWay a
    else s.refuseOpen q n i b .busyRetry
  else if x.state ≠ .free then s.refuseOpen q n i b .notPermitted
  else s.acceptOpen q n i b k c twoWay a

section
variable (hl : s.listens pc.toNat = true)
include hl

theorem execOpenRequest_of_unknown (h : Kind.ofCode kind.toNat = none ∨ SvcClass.ofCode cls.toNat = none) :
    exec (.openRequest pc kind cls dir near ninc far min ceil weight prio) s = .next
      (s.refuseOpen pc.toNat near.toNat ninc.toNat far.toNat .noResource) := by
  refine congrArg Host.Outcome.next ((if_neg (by simp [hl])).trans ?_)
  rcases h with h | h
  · simp only [h]
  · cases hk : Kind.ofCode kind.toNat <;> simp only [h]

variable {k : Kind} {c : SvcClass} (hk : Kind.ofCode kind.toNat = some k) (hc : SvcClass.ofCode cls.toNat = some c)
include hk hc

theorem execOpenRequest_of_badBox (h : boxNoOk far.toNat = false ∨ boxNoOk near.toNat = false ∨ k = .mgmt) :
    exec (.openRequest pc kind cls dir near ninc far min ceil weight prio) s = .next
      (s.refuseOpen pc.toNat near.toNat ninc.toNat far.toNat .badParam) := by
  refine congrArg Host.Outcome.next ((if_neg (by simp [hl])).trans ?_)
  simp only [hk, hc]
  exact if_pos (by simpa [or_assoc] using h)

section
variable (hf : boxNoOk far.toNat = true) (hn : boxNoOk near.toNat = true) (hm : k ≠ .mgmt)
include hf hn hm

theorem execOpenRequest_of_unfit (h : classFits k c = false) :
    exec (.openRequest pc kind cls dir near ninc far min ceil weight prio) s = .next
      (s.refuseOpen pc.toNat near.toNat ninc.toNat far.toNat .noResource) := by
  refine congrArg Host.Outcome.next ((if_neg (by simp [hl])).trans ?_)
  simp only [hk, hc]
  exact (if_neg (by simp [hf, hn, hm])).trans (if_pos (by simp [h]))

theorem execOpenRequest_of_fits (h : classFits k c = true) {a : Allot} (ha : a = allotHeld c ⟨min.toNat, ceil.toNat, weight.toNat, prio.toNat⟩) :
    exec (.openRequest pc kind cls dir near ninc far min ceil weight prio) s = .next
      (s.openMeets pc.toNat near.toNat ninc.toNat far.toNat k c (dir.toNat == 1) a) := by
  subst ha
  refine congrArg Host.Outcome.next ((if_neg (by simp [hl])).trans ?_)
  simp only [hk, hc]
  exact (if_neg (by simp [hf, hn, hm])).trans (if_neg (by simp [h]))

end

end

end

section
variable {q n i b : Nat} {k : Kind} {c : SvcClass} {twoWay : Bool} {a : Allot}

theorem State.openMeets_of_free (h : (s.box b).state = .free) :
    s.openMeets q n i b k c twoWay a = s.acceptOpen q n i b k c twoWay a :=
  (if_neg (by simp [h])).trans ((if_neg (by simp [h])).trans (if_neg (by simp [h])))

theorem State.openMeets_of_draining (h : (s.box b).state = .draining) :
    s.openMeets q n i b k c twoWay a = s.refuseOpen q n i b .notPermitted :=
  (if_neg (by simp [h])).trans ((if_neg (by simp [h])).trans (if_pos (by simp [h])))

theorem State.openMeets_of_otherPeer (h : (s.box b).state = .opened)
    (hp : ¬ ((s.box b).peerPc = q ∧ (s.box b).peerBox = n ∧ (s.box b).peerInc = i)) :
    s.openMeets q n i b k c twoWay a = s.refuseOpen q n i b .notPermitted :=
  (if_neg (fun g => hp g.2)).trans ((if_neg (by simp [h])).trans (if_pos (by simp [h])))

theorem State.openMeets_of_repeat (h : (s.box b).state = .opened) (hq : (s.box b).peerPc = q) (hn : (s.box b).peerBox = n)
    (hi : (s.box b).peerInc = i) : s.openMeets q n i b k c twoWay a = s.acceptAnswer q n i b :=
  if_pos ⟨h, hq, hn, hi⟩

section
variable (h : (s.box b).state = .opening)
include h

theorem State.openMeets_of_otherOpen (hp : ¬ ((s.box b).near = true ∧ (s.box b).peerPc = q ∧ (s.box b).peerBox = n)) :
    s.openMeets q n i b k c twoWay a = s.refuseOpen q n i b .notPermitted :=
  (if_neg (by simp [h])).trans ((if_neg (fun g => hp g.2)).trans (if_pos (by simp [h])))

section
variable (hn : (s.box b).near = true) (hq : (s.box b).peerPc = q) (hb : (s.box b).peerBox = n)
include hn hq hb

/-- Of two opens that cross the hub yields to the lower postcode, and at one postcode to the lower box (R170). -/
theorem State.openMeets_of_crossed : s.openMeets q n i b k c twoWay a =
    if q < s.postcode ∨ (q = s.postcode ∧ n < b) then ((s.finishWaiters 0x0200 b .busyRetry []).boxFrees b).acceptOpen q n i b k c twoWay a
    else s.refuseOpen q n i b .busyRetry :=
  (if_neg (by simp [h])).trans (if_pos ⟨h, hn, hq, hb⟩)

end

end

end

section
variable {pc : Postcode} {status : Byte} {far finc near ninc flow : BitVec 16}

theorem execOpenAnswer_of_unheard (hl : s.listens pc.toNat = false) :
    exec (.openAnswer pc status far finc near ninc flow) s = .next s :=
  congrArg Host.Outcome.next (if_pos (by simp [hl]))

section
variable (hl : s.listens pc.toNat = true)
include hl

/-- The answer that a box in OPENING waits for opens it or frees it (R147, R148). -/
theorem execOpenAnswer_of_awaited (h : (s.box near.toNat).state = .opening ∧ (s.box near.toNat).near = true ∧
      (s.box near.toNat).peerPc = pc.toNat ∧ (s.box near.toNat).peerBox = far.toNat ∧ (s.box near.toNat).inc = ninc.toNat)
    {u : State} (hu : u = s.boxOpens near.toNat finc.toNat) :
    exec (.openAnswer pc status far finc near ninc flow) s = .next (if status.toNat = 0 then
      u.finishWaiters 0x0200 near.toNat .ok (u.openData near.toNat finc.toNat flow.toNat)
      else (s.finishWaiters 0x0200 near.toNat (Status.ofCode status.toNat) []).boxFrees near.toNat) := by
  subst hu
  exact congrArg Host.Outcome.next ((if_neg (by simp [hl])).trans (if_pos h))

theorem execOpenAnswer_of_unawaited (h : ¬ ((s.box near.toNat).state = .opening ∧ (s.box near.toNat).near = true ∧
      (s.box near.toNat).peerPc = pc.toNat ∧ (s.box near.toNat).peerBox = far.toNat ∧ (s.box near.toNat).inc = ninc.toNat)) :
    exec (.openAnswer pc status far finc near ninc flow) s = .next (s.bump Cnt.TUNNEL_OPEN_REFUSED) :=
  congrArg Host.Outcome.next ((if_neg (by simp [hl])).trans (if_neg h))

end

end

section
variable {pc : Postcode} {box inc sender held : BitVec 16}

/-- The close names a box whose peer is its sender, by its incarnation or by INC 0 (R358). -/
def State.CloseFits (s : State) (pc : Postcode) (box inc sender : BitVec 16) : Prop :=
  (s.box box.toNat).peerPc = pc.toNat ∧ (s.box box.toNat).peerBox = sender.toNat ∧
    (inc.toNat = 0 ∨ inc.toNat = (s.box box.toNat).inc) ∧ box.toNat ≠ 0

theorem execCloseRequest_of_unheard (hl : s.listens pc.toNat = false) : exec (.closeRequest pc box inc sender) s = .next s :=
  congrArg Host.Outcome.next (if_neg (by simp [hl]))

theorem execCloseRequest_of_unfit (h : ¬ s.CloseFits pc box inc sender) : exec (.closeRequest pc box inc sender) s = .next s :=
  congrArg Host.Outcome.next (if_neg fun g => h g.2)

section
variable (hl : s.listens pc.toNat = true) (hf : s.CloseFits pc box inc sender)
include hl hf

theorem execCloseRequest_of_opened (h : (s.box box.toNat).state = .opened) :
    exec (.closeRequest pc box inc sender) s = .next (s.boxDrains box.toNat) := by
  refine congrArg Host.Outcome.next ((if_pos ⟨hl, hf⟩).trans ?_)
  simp only [h]

/-- A box in OPENING withdraws its own open (R148). -/
theorem execCloseRequest_of_opening (h : (s.box box.toNat).state = .opening) :
    exec (.closeRequest pc box inc sender) s = .next
      (((s.finishWaiters 0x0200 box.toNat .notPermitted (s.withdrawnData box.toNat)).boxDrains box.toNat).boxFrees box.toNat) := by
  refine congrArg Host.Outcome.next ((if_pos ⟨hl, hf⟩).trans ?_)
  simp only [h]

theorem execCloseRequest_of_closed (h : (s.box box.toNat).state = .free ∨ (s.box box.toNat).state = .draining) :
    exec (.closeRequest pc box inc sender) s = .next s := by
  refine congrArg Host.Outcome.next ((if_pos ⟨hl, hf⟩).trans ?_)
  rcases h with h | h <;> simp only [h]

end

theorem execDrainCount_of_unheard (hl : s.listens pc.toNat = false) : exec (.drainCount pc box held) s = .next s :=
  congrArg Host.Outcome.next (if_neg (by simp [hl]))

theorem execDrainCount_acts (hl : s.listens pc.toNat = true) :
    Acts (.drainCount pc box held) s ((s.box box.toNat).state = .draining ∧ (s.box box.toNat).cls = .registered ∧
      (s.box box.toNat).peerPc = pc.toNat) (fun t => t = s.updBox box.toNat (fun x => { x with farHeld := some held.toNat })) :=
  Acts.of_ite rfl (by simp [hl]) fun _ => rfl

end

end Machine
end Sys2Proof
end

section
/-!
SUPPORT. The limits and ends of a tunnel's states (R145, R252, R253).
-/
namespace Sys2Proof
namespace Machine

theorem execOpeningTimeout_acts (s : State) (box : BoxNo) :
    Acts (.openingTimeout box) s ((s.box box.val).state = .opening ∧ (s.box box.val).near = true ∧ (s.box box.val).since + 792 ≤ s.round)
      (fun t => t = ((s.finishWaiters 0x0200 box.val .timeout []).bump Cnt.TUNNEL_OPEN_TIMEOUTS).boxFrees box.val) :=
  Acts.of_ite rfl Iff.rfl fun _ => rfl

/-- The far end has told that it holds nothing more (R253). A near end of a one-way tunnel receives nothing, and waits for no one. -/
theorem farEnd_drained_iff (near twoWay told zero silent : Bool) :
    (told && (!(!near || twoWay) || zero || silent)) = true ↔
      told = true ∧ (near = false ∨ twoWay = true → zero = true ∨ silent = true) := by
  cases near <;> cases twoWay <;> simp

/-- A box that holds nothing is drained, but that one of a REGISTERED tunnel waits for its far end (R145, R253). -/
theorem State.drained_iff (s : State) (b : Nat) :
    s.drained b = true ↔ s.boxUnits b = [] ∧ s.boxHeld b = false ∧ s.heldOf b = 0 ∧
      ((s.box b).cls = .registered → (s.box b).told = true ∧
        ((s.box b).near = false ∨ (s.box b).twoWay = true → (s.box b).farHeld = some 0 ∨ s.farSilent b = true)) := by
  have hfar := farEnd_drained_iff (s.box b).near (s.box b).twoWay (s.box b).told ((s.box b).farHeld == some 0) (s.farSilent b)
  rw [beq_iff_eq] at hfar
  rw [← hfar]
  by_cases hc : (s.box b).cls = .registered <;> simp [State.drained, hc, and_assoc]

theorem execDrainComplete_acts (s : State) (box : BoxNo) :
    Acts (.drainComplete box) s ((s.box box.val).state = .draining ∧ s.boxUnits box.val = [] ∧ s.boxHeld box.val = false ∧
      s.heldOf box.val = 0 ∧ ((s.box box.val).cls = .registered → (s.box box.val).told = true ∧
        ((s.box box.val).near = false ∨ (s.box box.val).twoWay = true → (s.box box.val).farHeld = some 0 ∨ s.farSilent box.val = true)))
      (fun t => t = s.boxFrees box.val) :=
  Acts.of_ite rfl (and_congr_right' (s.drained_iff box.val).symm) fun _ => rfl

theorem execDrainDiscard_acts (s : State) (box : BoxNo) :
    Acts (.drainDiscard box) s ((s.box box.val).state = .draining ∧ (s.box box.val).since + 64 ≤ s.round)
      (fun t => ∀ (u : State) (gone : List Hold),
        u = forAll (s.boxUnits box.val) s (fun s n => match s.unit n with
          | some y => if y.u.cls = .registered then s else ((s.freeUnit n).bump Cnt.TUNNEL_DRAIN_DISCARDED).dropFromFlow y.owner
          | none => s) →
        gone = u.sw.holds.filter (fun h => h.u.srcPc.toNat == u.postcode && h.u.srcBox.val == box.val && h.u.cls != .registered) →
        t = State.bump { u with sw := { u.sw with holds := u.sw.holds.filter (fun h => !gone.contains h) } } Cnt.TUNNEL_DRAIN_DISCARDED
          gone.length) := by
  refine Acts.of_ite rfl Iff.rfl ?_
  rintro _ u gone rfl rfl
  rfl

theorem execDrainLimit_acts (s : State) (box : BoxNo) :
    Acts (.drainLimit box) s ((s.box box.val).state = .draining ∧ (s.box box.val).since + 80000 ≤ s.round) (fun t => ∀ passed : Nat,
      passed = ((s.book box.val).map (·.farPassed)).getD 0 →
      t = (forAll (s.tunnelHeld box.val) s (fun s k => match mget s.reg.entries k with
        | some e => s.makeDead k Status.timeout.code (if seqLe e.seq passed then 2 else 1) none
        | none => s)).boxFrees box.val) := by
  refine Acts.of_ite rfl Iff.rfl ?_
  rintro _ passed rfl
  rfl

/-- Settles O32: a message unheard does nothing, an open meets the box it names, and each limit is a test with its end. -/
theorem tunnelMessagesAndTimersAct : Obligations.TunnelMessagesAndTimersAct := by
  refine ⟨fun s pc hl => ⟨?_, ?_, ?_, ?_⟩, fun s pc hl => ⟨?_, ?_, ?_, fun box held => execDrainCount_acts hl⟩, ?_⟩
  · exact fun _ _ _ _ _ _ _ _ _ _ => execOpenRequest_of_unheard hl
  · exact fun _ _ _ _ _ _ => execOpenAnswer_of_unheard hl
  · exact fun _ _ _ => execCloseRequest_of_unheard hl
  · exact fun _ _ => execDrainCount_of_unheard hl
  · intro kind cls dir weight prio near ninc far min ceil k c a ha
    refine ⟨execOpenRequest_of_unknown hl, fun hk hc => ⟨execOpenRequest_of_badBox hl hk hc, fun hf hn hm =>
      ⟨execOpenRequest_of_unfit hl hk hc hf hn hm, fun hfit => ?_⟩⟩⟩
    rw [execOpenRequest_of_fits hl hk hc hf hn hm hfit ha]
    refine ⟨fun h => ?_, fun h => ?_, fun h hp => ?_, fun h hp => ?_, fun h hq hb hi => ?_, fun h hnear hq hb => ⟨fun hy => ?_, fun hy => ?_⟩⟩
    · rw [State.openMeets_of_free h]
    · rw [State.openMeets_of_draining h]
    · rw [State.openMeets_of_otherPeer h hp]
    · rw [State.openMeets_of_otherOpen h hp]
    · rw [State.openMeets_of_repeat h hq hb hi]
    · rw [State.openMeets_of_crossed h hnear hq hb, if_pos hy]
    · rw [State.openMeets_of_crossed h hnear hq hb, if_neg (by omega)]
  · rintro status far finc near ninc flow x rfl
    refine ⟨fun h => ⟨fun h0 u hu => ?_, fun h0 => ?_⟩, execOpenAnswer_of_unawaited hl⟩
    · rw [execOpenAnswer_of_awaited hl h hu, if_pos h0]
    · rw [execOpenAnswer_of_awaited hl h rfl, if_neg h0]
  · rintro box inc sender x rfl
    exact ⟨fun hf => ⟨execCloseRequest_of_opened hl hf, execCloseRequest_of_opening hl hf, execCloseRequest_of_closed hl hf⟩,
      execCloseRequest_of_unfit⟩
  · rintro s box x rfl
    exact ⟨execOpeningTimeout_acts s box, execDrainComplete_acts s box, execDrainDiscard_acts s box, execDrainLimit_acts s box⟩

end Machine
end Sys2Proof
end

section
/-!
SUPPORT. A unit at the switch: its arrival, its write and its checks (R178, R179, R180, R185, R187, R204), its hold (R187), and its end (R196,
R200, R201).
-/
namespace Sys2Proof
namespace Machine

variable {s : State} {u : UnitIn}

theorem execUnitAdmit_of_closed (h : s.powered .core = false ∨ s.servicePowered = true ∨ (byTrunk u = true ∧ s.powered .cipher = false)) :
    exec (.unitAdmit u) s = .next s := by
  refine congrArg Host.Outcome.next (if_pos ?_)
  simpa [or_assoc] using h

/-- The switch takes units of this kind: CORE runs outside SERVICE_POWERED, and what comes by a trunk needs CIPHER (R21). -/
def State.TakesUnit (s : State) (u : UnitIn) : Prop :=
  s.powered .core = true ∧ s.servicePowered = false ∧ (byTrunk u = true → s.powered .cipher = true)

theorem State.TakesUnit.not_closed (h : s.TakesUnit u) :
    ¬ (!s.powered .core || s.servicePowered || (byTrunk u && !s.powered .cipher)) = true := by
  obtain ⟨hc, hs, ht⟩ := h
  simpa [hc, hs] using ht

section
variable (ho : s.TakesUnit u)
include ho

theorem execUnitAdmit_of_heldBack (h : s.heldBack u = true) : exec (.unitAdmit u) s = .next s :=
  congrArg Host.Outcome.next ((if_neg ho.not_closed).trans (if_pos h))

variable (hb : s.heldBack u = false)
include hb

theorem execUnitAdmit_of_notP9 (h : u.ingress.val ≠ 9 ∨ u.cls = .registered) : exec (.unitAdmit u) s = .next (s.offerWrite none u) :=
  congrArg Host.Outcome.next ((if_neg ho.not_closed).trans ((if_neg (by simp [hb])).trans (if_neg (by simpa [imp_iff_not_or] using h))))

section
variable (h9 : u.ingress.val = 9) (hr : u.cls ≠ .registered)
include h9 hr

/-- A P9 frame of an engine's box goes through the engine's outbox (R218). -/
theorem execUnitAdmit_of_engine {c : Nat} {x : Context} (hx : s.contextOf u.srcBox.val = some (c, x)) :
    exec (.unitAdmit u) s = .next ((s.updEngine (c / 256) (fun x => { x with frames := x.frames ++ [u] })).feedPort 9) := by
  refine congrArg Host.Outcome.next ((if_neg ho.not_closed).trans ((if_neg (by simp [hb])).trans ((if_pos (by simp [h9, hr])).trans ?_)))
  simp only [hx]

/-- Any other P9 frame goes where it fits the budget of the round (R218). -/
theorem execUnitAdmit_of_noEngine (hx : s.contextOf u.srcBox.val = none) :
    exec (.unitAdmit u) s = .next (if s.p9Fits u then (s.p9Sent u).offerWrite none u else s) := by
  refine congrArg Host.Outcome.next ((if_neg ho.not_closed).trans ((if_neg (by simp [hb])).trans ((if_pos (by simp [h9, hr])).trans ?_)))
  simp only [hx]

end

end

section
variable {via : Option PortId}

theorem State.offerWrite_of_empty (hs : s.stageOf u.ingress.val = []) (hw : s.mayWrite u.ingress.val = true) :
    s.offerWrite via u = (s.writes u.ingress.val).decideWritten via u :=
  if_pos ⟨by simp [hs], hw⟩

section
variable (h : s.stageOf u.ingress.val ≠ [] ∨ s.mayWrite u.ingress.val = false)
include h

theorem State.offerWrite_of_room (hl : (s.stageOf u.ingress.val).length < 8) :
    s.offerWrite via u = { s with sw := { s.sw with stage := s.sw.stage ++ [(via, u)] } } :=
  (if_neg (by rcases h with h | h <;> simp [h])).trans (if_pos hl)

/-- At a full stage a HOLD port keeps the unit in its block, and another loses it (R178). -/
theorem State.offerWrite_of_full (hl : 8 ≤ (s.stageOf u.ingress.val).length) :
    s.offerWrite via u = if modeOf u.ingress.val = .hold then s else s.bump (Cnt.SWITCH_WRITE_OVERRUN u.ingress.val) :=
  (if_neg (by rcases h with h | h <;> simp [h])).trans (if_neg hl.not_gt)

end

theorem State.decideWritten_of_oversize (h : 16384 < u.bytes) :
    s.decideWritten via u = s.bump (Cnt.SWITCH_OVERSIZE u.ingress.val) :=
  if_pos h

section
variable (hs : u.bytes ≤ 16384)
include hs

theorem State.decideWritten_of_badBlock (h : u.checkOk = false ∨ (byTrunk u = false ∧ u.bytes = 0)) :
    s.decideWritten via u = s.bump (Cnt.SWITCH_CHECK_DROPS u.ingress.val) :=
  (if_neg hs.not_gt).trans (if_pos (by simpa using h))

section
variable (hc : u.checkOk = true) (hz : byTrunk u = false → u.bytes ≠ 0)
include hc hz

theorem State.decideWritten_of_closedSource (h : s.sourceOpen u = false) :
    s.decideWritten via u = if (s.box u.srcBox.val).state = .draining then s else s.bump (Cnt.SWITCH_CHECK_DROPS u.ingress.val) :=
  (if_neg hs.not_gt).trans ((if_neg (by simpa [hc] using hz)).trans (if_pos (by simp [h])))

theorem State.decideWritten_of_openSource (h : s.sourceOpen u = true) : s.decideWritten via u = s.admitUnit via u :=
  (if_neg hs.not_gt).trans ((if_neg (by simpa [hc] using hz)).trans (if_neg (by simp [h])))

end

end

end

section
variable {ingress : Fin 10} {tc : Fin 8}

theorem execHoldRelease_of_noHold (h : s.holdAt ingress.val tc.val = none) : exec (.holdRelease ingress tc) s = .next s := by
  change execHoldRelease ingress tc s = _
  simp only [execHoldRelease, h]

theorem execHoldExpired_of_noHold (h : s.holdAt ingress.val tc.val = none) : exec (.holdExpired ingress tc) s = .next s := by
  change execHoldExpired ingress tc s = _
  simp only [execHoldExpired, h]

section
variable {h : Hold} (hh : s.holdAt ingress.val tc.val = some h)
include hh

/-- The held unit is decided again, and its hold ends unless the port would hold it once more (R187). -/
theorem execHoldRelease_of_hold {x : State} {again : Bool} (hd : s.decideWay h.u false h.tc h.egress h.owner = (x, again)) :
    exec (.holdRelease ingress tc) s = .next (if again then x else x.dropHold ingress.val tc.val) := by
  change execHoldRelease ingress tc s = _
  simp only [execHoldRelease, hh, hd]

theorem execHoldExpired_acts :
    Acts (.holdExpired ingress tc) s (h.since + 8000 ≤ s.round) (fun t =>
      t = ((s.dropHold ingress.val tc.val).bump (Cnt.SWITCH_HOLD_EXPIRED ingress.val tc.val)).dropFromFlow h.owner) := by
  refine Acts.of_ite ?_ Iff.rfl fun _ => rfl
  change execHoldExpired ingress tc s = _
  simp only [execHoldExpired, hh]

end

end

section
variable {n : Nat}

theorem execUnitTransferDone_of_noUnit (h : s.unit n = none) : exec (.unitTransferDone n false) s = .next s := by
  change execUnitTransferDone n false s = _
  simp only [execUnitTransferDone, h]
  rfl

section
variable {x : SwUnit} {ns : List Nat} (hx : s.unit n = some x) (hn : ns = s.frameOf n x)
include hx hn

/-- What is done with a unit whose cells have been read (R195, R196). -/
theorem execUnitTransferDone_of_unit :
    exec (.unitTransferDone n false) s = .next
      (if x.whole = false ∨ ns.any (fun k => ((s.unit k).map (fun y => decide (y.read < y.cells))).getD true) then s
      else if x.egress ≤ 2 then s.mirror n true
      else forAll ns ((forAll ns s (fun s n => s.mirror n true)).stationTakes x (s.framePayload ns)) (fun s n => s.freeUnit n)) := by
  subst hn
  change execUnitTransferDone n false s = _
  simp only [execUnitTransferDone, hx]
  rfl

end

theorem execUnitTransferDone_of_noCopy (h : mget s.sw.copies n = none) : exec (.unitTransferDone n true) s = .next s := by
  change execUnitTransferDone n true s = _
  simp only [execUnitTransferDone, h]
  rfl

/-- A copy whose cells have been read leaves towards the analyser (R200, R201). -/
theorem execUnitTransferDone_of_copy {c : Copy} (h : mget s.sw.copies n = some c) :
    exec (.unitTransferDone n true) s = .next (if c.read < c.cells then s else
      ((s.emit (.frame (s.get Reg.MIRROR_DEST_DEST_PORT) (s.get Reg.MIRROR_DEST_DEST_SUB) (s.mirrorFrame c))).bump
        Cnt.SWITCH_MIRROR_COPIES).dropCopy n) := by
  change execUnitTransferDone n true s = _
  simp only [execUnitTransferDone, h]
  rfl

/-- Cells of the frame's units are still to be read. -/
theorem State.unread_any_iff (s : State) (ns : List Nat) :
    ns.any (fun k => ((s.unit k).map (fun y => decide (y.read < y.cells))).getD true) = true ↔
      ∃ k ∈ ns, ∀ y, s.unit k = some y → y.read < y.cells := by
  rw [List.any_eq_true]
  refine exists_congr fun k => and_congr_right' ?_
  cases s.unit k <;> simp

end

/-- Settles O33: at each place a unit passes its tests decide between the ends the rules name. -/
theorem switchUnitsAct : Obligations.SwitchUnitsAct := by
  intro s u ingress tc
  refine ⟨execUnitAdmit_of_closed, fun hc hs ht => ?_,
    fun v => ⟨State.offerWrite_of_empty, fun h => ⟨State.offerWrite_of_room h, fun hl => ?_⟩⟩,
    fun v => ⟨State.decideWritten_of_oversize, fun hs => ⟨State.decideWritten_of_badBlock hs, fun hc hz =>
      ⟨fun ho => ?_, State.decideWritten_of_openSource hs hc hz⟩⟩⟩,
    Does.of_eq rfl rfl, fun h => ⟨execHoldRelease_of_noHold h, execHoldExpired_of_noHold h⟩,
    fun h hh => ⟨fun x hd => execHoldRelease_of_hold hh hd, fun x hd => execHoldRelease_of_hold hh hd, execHoldExpired_acts hh⟩,
    fun n => ⟨execUnitTransferDone_of_noUnit, fun x ns hx hn => ?_, execUnitTransferDone_of_noCopy, fun c h => ?_⟩⟩
  · have ho : s.TakesUnit u := ⟨hc, hs, ht⟩
    refine ⟨execUnitAdmit_of_heldBack ho, fun hb => ⟨execUnitAdmit_of_notP9 ho hb, fun h9 hr =>
      ⟨fun c x => execUnitAdmit_of_engine ho hb h9 hr, fun hx => ?_, fun hx => ?_⟩⟩⟩
    · exact (next_cases (execUnitAdmit_of_noEngine ho hb h9 hr hx)).1
    · exact fun hf => (next_cases (execUnitAdmit_of_noEngine ho hb h9 hr hx)).2 (by simp [hf])
  · rw [State.offerWrite_of_full h hl]
    exact ⟨fun hm => if_pos hm, fun hm => if_neg hm⟩
  · rw [State.decideWritten_of_closedSource hs hc hz ho]
    exact ⟨fun hd => if_pos hd, fun hd => if_neg hd⟩
  · obtain ⟨hkeep, hread⟩ := next_cases (execUnitTransferDone_of_unit hx hn)
    rw [State.unread_any_iff] at hkeep hread
    refine ⟨hkeep, fun hw hall => ?_⟩
    have hdone : ¬ (x.whole = false ∨ ∃ k ∈ ns, ∀ y, s.unit k = some y → y.read < y.cells) := by
      rintro (h | ⟨k, hk, hy⟩)
      · exact absurd (hw.symm.trans h) (by decide)
      · obtain ⟨y, hu, hle⟩ := hall k hk
        exact (hy y hu).not_ge hle
    obtain ⟨htrunk, hstation⟩ := next_cases (hread hdone)
    refine ⟨htrunk, fun he v hv => ?_⟩
    rw [hstation he.not_ge, hv]
  · obtain ⟨hkeep, hread⟩ := next_cases (execUnitTransferDone_of_copy h)
    exact ⟨hkeep, fun hc => hread hc.not_gt⟩

end Machine
end Sys2Proof
end

section
/-!
SUPPORT. REGISTERED DATA at the hub it comes to (R243, R250, R251, R257).
-/
namespace Sys2Proof
namespace Machine

variable {s : State}

section
variable {ingress : Fin 10} {pc : Postcode} {src box : BoxNo} {inc : Inc} {seq : BitVec 32} {payload : Payload}

theorem execRegisteredData_of_unheard (h : s.listens (if ingress.val ≤ 2 then pc.toNat else s.postcode) = false) :
    exec (.registeredData ingress pc src box inc seq payload) s = .next s :=
  congrArg Host.Outcome.next (if_neg (by simp [h]))

theorem execRegisteredData_of_heard (h : s.listens (if ingress.val ≤ 2 then pc.toNat else s.postcode) = true) :
    exec (.registeredData ingress pc src box inc seq payload) s = .next
      (s.arriveData ingress.val pc.toNat src.val box.val inc.val seq.toNat payload) :=
  congrArg Host.Outcome.next (if_pos h)

end

section
variable {ingress pc src b inc seq : Nat} {payload : List Byte}

theorem State.arriveData_of_linkDown (hk : s.skUp = false) : s.arriveData ingress pc src b inc seq payload = s :=
  if_pos (by simp [hk])

/-- No record for the incarnation: the message goes back with what the box forwards to (R250). -/
theorem State.arriveData_of_unknown (hk : s.skUp = true) (hb : ∀ r, s.book b = some r → r.ownInc ≠ inc) :
    s.arriveData ingress pc src b inc seq payload = s.returnTo pc src b seq none (s.fwdFor b inc) := by
  have hr : (s.book b).filter (fun r => r.ownInc == inc) = none := by
    simpa [Option.filter_eq_none_iff] using hb
  refine (if_neg (by simp [hk])).trans ?_
  simp only [hr]

/-- The box serves the incarnation. -/
def State.boxLive (s : State) (b inc : Nat) : Bool := (s.box b).serves && (s.box b).inc == inc

/-- What an arrival does that is `d` after the last one passed (R243). -/
def State.arriveAhead (s : State) (ingress pc src b seq d : Nat) (payload : List Byte) : State :=
  if d < 1025 then
    if (s.pigeon b seq).isSome then s.bump Cnt.REGISTRY_DUPLICATES
    else
      match s.holdPigeon b seq pc src ingress (d != 1) false payload with
      | none => s.bump Cnt.REGISTRY_PIGEONHOLES_FULL
      | some v => ((v.activity 0x13).when (d != 1) (fun s => s.bump Cnt.REGISTRY_HELD_OUT_OF_ORDER)).passAll b 1024
  else s.bump Cnt.REGISTRY_OUT_OF_WINDOW

/-- A known incarnation: the arrival is returned, or met again, or comes ahead. -/
theorem State.arriveData_of_known {r : BookRec} (hk : s.skUp = true) (hb : s.book b = some r) (hi : r.ownInc = inc) :
    s.arriveData ingress pc src b inc seq payload =
      if s.boxLive b inc && !r.recv then s.returnTo pc src b seq (some r) none
      else if !serialBefore 32 r.passedThru seq then s.arriveAgain ingress pc src b seq r payload
      else if !s.boxLive b inc then s.returnTo pc src b seq (some r) (s.fwdFor b inc)
      else s.arriveAhead ingress pc src b seq ((seq + 2 ^ 32 - r.passedThru) % 2 ^ 32) payload := by
  have hr : (s.book b).filter (fun r => r.ownInc == inc) = some r := by
    simp [hb, hi]
  refine (if_neg (by simp [hk])).trans ?_
  simp only [hr]
  rfl

section
variable {d : Nat}

theorem State.arriveAhead_of_beyond (h : 1025 ≤ d) :
    s.arriveAhead ingress pc src b seq d payload = s.bump Cnt.REGISTRY_OUT_OF_WINDOW :=
  if_neg h.not_gt

theorem State.arriveAhead_of_pigeonholed (h : d < 1025) (hp : (s.pigeon b seq).isSome = true) :
    s.arriveAhead ingress pc src b seq d payload = s.bump Cnt.REGISTRY_DUPLICATES :=
  (if_pos h).trans (if_pos hp)

theorem State.arriveAhead_of_full (h : d < 1025) (hp : s.pigeon b seq = none)
    (hh : s.holdPigeon b seq pc src ingress (d != 1) false payload = none) :
    s.arriveAhead ingress pc src b seq d payload = s.bump Cnt.REGISTRY_PIGEONHOLES_FULL := by
  refine (if_pos h).trans ((if_neg (by simp [hp])).trans ?_)
  simp only [hh]

theorem State.arriveAhead_of_held {v : State} (h : d < 1025) (hp : s.pigeon b seq = none)
    (hh : s.holdPigeon b seq pc src ingress (d != 1) false payload = some v) :
    s.arriveAhead ingress pc src b seq d payload =
      ((v.activity 0x13).when (d != 1) (fun s => s.bump Cnt.REGISTRY_HELD_OUT_OF_ORDER)).passAll b 1024 := by
  refine (if_pos h).trans ((if_neg (by simp [hp])).trans ?_)
  simp only [hh]

end

/-- What becomes of a message already passed, before its sender is answered (R243, R246): where the host has yet to consume it and it waits
nowhere, it is presented again. -/
def State.presentAgain (s : State) (ingress pc src b seq : Nat) (r : BookRec) (payload : List Byte) : State :=
  if r.host && serialBefore 32 r.consumedThru seq && (s.pigeon b seq).isNone then
    match s.holdPigeon b seq pc src ingress false true payload with
    | some t =>
      let v := ((t.activity 0x13).bump Cnt.REGISTRY_REPRESENTED).stepVoids b 1024
      v.when ((s.waitingOf b).length == 0 && (v.waitingOf b).length != 0) (fun s => s.tellWaiting b)
    | none => s.bump Cnt.REGISTRY_PIGEONHOLES_FULL
  else s.bump Cnt.REGISTRY_DUPLICATES

section
variable {r : BookRec}

/-- The sender gets a receipt, or a RETURN of the sequence in doubt. -/
theorem State.arriveAgain_eq {u : State} (hu : u = s.presentAgain ingress pc src b seq r payload) :
    s.arriveAgain ingress pc src b seq r payload =
      if r.doubtValid && r.doubtSeq == seq then u.returnTo pc src b seq (some r) (u.fwdFor b r.ownInc) else u.receiptDue b := by
  subst hu
  rfl

theorem State.presentAgain_of_duplicate (h : r.host = false ∨ serialBefore 32 r.consumedThru seq = false ∨ (s.pigeon b seq).isSome = true) :
    s.presentAgain ingress pc src b seq r payload = s.bump Cnt.REGISTRY_DUPLICATES := by
  refine if_neg ?_
  rcases h with h | h | h
  · simp [h]
  · simp [h]
  · simp [Option.ne_none_iff_isSome.mpr h]

section
variable (hh : r.host = true) (hc : serialBefore 32 r.consumedThru seq = true) (hp : s.pigeon b seq = none)
include hh hc hp

theorem State.presentAgain_of_full (hf : s.holdPigeon b seq pc src ingress false true payload = none) :
    s.presentAgain ingress pc src b seq r payload = s.bump Cnt.REGISTRY_PIGEONHOLES_FULL := by
  refine (if_pos (by simp [hh, hc, hp])).trans ?_
  simp only [hf]

/-- The host is told where it had nothing waiting before (R266). -/
theorem State.presentAgain_of_held {t v : State} (hf : s.holdPigeon b seq pc src ingress false true payload = some t)
    (hv : v = ((t.activity 0x13).bump Cnt.REGISTRY_REPRESENTED).stepVoids b 1024) :
    s.presentAgain ingress pc src b seq r payload =
      if (s.waitingOf b).length = 0 ∧ (v.waitingOf b).length ≠ 0 then v.tellWaiting b else v := by
  refine (if_pos (by simp [hh, hc, hp])).trans ?_
  simp only [hf, ← hv, State.when, Bool.and_eq_true, beq_iff_eq, bne_iff_ne]

end

/-- The cases of `presentAgain` are all there are. -/
theorem State.eq_presentAgain {u : State}
    (hd : r.host = false ∨ serialBefore 32 r.consumedThru seq = false ∨ (s.pigeon b seq).isSome = true → u = s.bump Cnt.REGISTRY_DUPLICATES)
    (hw : r.host = true → serialBefore 32 r.consumedThru seq = true → s.pigeon b seq = none →
      (s.holdPigeon b seq pc src ingress false true payload = none → u = s.bump Cnt.REGISTRY_PIGEONHOLES_FULL) ∧
      (∀ t v, s.holdPigeon b seq pc src ingress false true payload = some t →
        v = ((t.activity 0x13).bump Cnt.REGISTRY_REPRESENTED).stepVoids b 1024 →
        u = (if (s.waitingOf b).length = 0 ∧ (v.waitingOf b).length ≠ 0 then v.tellWaiting b else v))) :
    u = s.presentAgain ingress pc src b seq r payload := by
  by_cases h : r.host = false ∨ serialBefore 32 r.consumedThru seq = false ∨ (s.pigeon b seq).isSome = true
  · rw [hd h, State.presentAgain_of_duplicate h]
  · simp only [not_or, Bool.not_eq_false, Option.not_isSome_iff_eq_none] at h
    obtain ⟨hh, hc, hp⟩ := h
    obtain ⟨hfull, hheld⟩ := hw hh hc hp
    cases hf : s.holdPigeon b seq pc src ingress false true payload with
    | none => rw [hfull hf, State.presentAgain_of_full hh hc hp hf]
    | some t => rw [hheld t _ hf rfl, State.presentAgain_of_held hh hc hp hf rfl]

end

end

/-- Settles O37: the record of the incarnation and the distance from the last message passed say which case an arrival is. -/
theorem registeredDataActs : Obligations.RegisteredDataActs := by
  rintro s ingress pc src box inc seq payload live from_ rfl rfl
  refine ⟨fun h => ?_, fun hl hk hb => ?_, fun r hl hk hb hi => ?_⟩
  · by_cases hl : s.listens (if ingress.val ≤ 2 then pc.toNat else s.postcode) = true
    · rw [execRegisteredData_of_heard hl, State.arriveData_of_linkDown (h.resolve_left (by simp [hl]))]
    · exact execRegisteredData_of_unheard (Bool.eq_false_iff.mpr hl)
  · rw [execRegisteredData_of_heard hl, State.arriveData_of_unknown hk hb]
  · rw [execRegisteredData_of_heard hl, State.arriveData_of_known hk hb hi]
    change (s.boxLive box.val inc.val = true → _) ∧ (s.boxLive box.val inc.val = false → _) ∧
      (s.boxLive box.val inc.val = false ∨ _ → _) ∧ (s.boxLive box.val inc.val = true → _)
    refine ⟨fun hv hr => ?_, fun hv hs => ?_, fun hv hs u hd hw => ?_, fun hv hr hs d hd => ?_⟩
    · rw [if_pos (by simp [hv, hr])]
    · rw [if_neg (by simp [hv]), if_neg (by simp [hs]), if_pos (by simp [hv])]
    · rw [if_neg (by rcases hv with h | h <;> simp [h]), if_pos (by simp [hs]), State.arriveAgain_eq (State.eq_presentAgain hd hw)]
      exact ⟨fun h => by rw [if_pos (by simpa using h)], fun h => by rw [if_neg (by simpa using h)]⟩
    · rw [if_neg (by simp [hr]), if_neg (by simp [hs]), if_neg (by simp [hv]), ← hd]
      refine ⟨fun h => ?_, fun h hp => ?_, fun h hp => ⟨fun hf => ?_, fun v hf => ⟨fun h1 => ?_, fun h1 => ?_⟩⟩⟩
      · rw [State.arriveAhead_of_beyond h]
      · rw [State.arriveAhead_of_pigeonholed h hp]
      · rw [State.arriveAhead_of_full h hp hf]
      · rw [State.arriveAhead_of_held h hp hf, bne_eq_false_iff_eq.mpr h1, State.when_false]
      · rw [State.arriveAhead_of_held h hp hf, bne_iff_ne.mpr h1, State.when_true]

end Machine
end Sys2Proof
end

section
/-!
SUPPORT. RECEIPT and RETURN at the hub that sent the message (R16, R248, R251).
-/
namespace Sys2Proof
namespace Machine

variable {s : State}

section
variable {pc : Postcode} {box : BoxNo} {inc : Inc} {seq passed dseq : BitVec 32} {doubt : Bool}

theorem execReceipt_of_unheard (h : s.listens pc.toNat = false) : exec (.receipt pc box inc seq passed dseq doubt) s = .next s :=
  congrArg Host.Outcome.next (if_neg (by simp [h]))

theorem execReceipt_of_heard (h : s.listens pc.toNat = true) :
    exec (.receipt pc box inc seq passed dseq doubt) s = .next
      (s.applyReceipt box.val inc.val seq.toNat passed.toNat (if doubt then some dseq.toNat else none)) :=
  congrArg Host.Outcome.next (if_pos h)

end

section
variable {b inc seq passed : Nat} {doubt : Option Nat}

theorem State.applyReceipt_of_linkDown (hk : s.skUp = false) : s.applyReceipt b inc seq passed doubt = s :=
  if_pos (by simp [hk])

/-- A receipt that no send side can have earned: of another incarnation, or of a sequence not yet given out. -/
theorem State.applyReceipt_of_stale (hk : s.skUp = true)
    (h : ∀ r, s.sendSide b = some r → r.ownInc ≠ inc ∨ (seq ≠ 0 ∧ serialBefore 32 seq r.nextSeq = false)) :
    s.applyReceipt b inc seq passed doubt = s.bump Cnt.REGISTRY_STALE_RETURNS := by
  refine (if_neg (by simp [hk])).trans ?_
  cases hr : s.sendSide b with
  | none => rfl
  | some r => exact if_pos (by simpa using h r hr)

/-- The entry in doubt, where it is held, becomes a dead letter (R252). -/
def State.doubtEnds (s : State) (b inc : Nat) (doubt : Option Nat) : State :=
  match doubt with
  | some q =>
    match (s.heldEntries b inc).find? (fun (e : Nat × Entry) => e.2.seq == q) with
    | some (k, _) => s.makeDead k Status.timeout.code 3 none
    | none => s
  | none => s

/-- The entries up to a sequence are released (R248). -/
def State.releaseThru (s : State) (b inc seq : Nat) : State :=
  let gone := ((s.heldEntries b inc).filter (fun e => seqLe e.2.seq seq)).map (·.1)
  (forAll gone (s.updBookRec b (fun r => { r with releasedThru := seq })) (fun s k => s.freeEntry k)).bump Cnt.REGISTRY_RELEASED gone.length

theorem State.doubtEnds_of_held {q k : Nat} {e : Entry}
    (h : (s.heldEntries b inc).find? (fun (e : Nat × Entry) => e.2.seq == q) = some (k, e)) :
    s.doubtEnds b inc (some q) = s.makeDead k Status.timeout.code 3 none := by
  simp only [State.doubtEnds, h]

theorem State.doubtEnds_of_notHeld {q : Nat} (h : (s.heldEntries b inc).find? (fun (e : Nat × Entry) => e.2.seq == q) = none) :
    s.doubtEnds b inc (some q) = s := by
  simp only [State.doubtEnds, h]

/-- A receipt that fits: what is in doubt ends, the entries it releases are free, and the host is told where it asked for that (R248). -/
theorem State.applyReceipt_of_fits {r : BookRec} (hk : s.skUp = true) (hr : s.sendSide b = some r) (hi : r.ownInc = inc)
    (hs : seq = 0 ∨ serialBefore 32 seq r.nextSeq = true) {u v : State}
    (hu : u = (s.doubtEnds b inc doubt).updBookRec b (fun r => { r with farPassed := passed }))
    (hv : v = if serialBefore 32 r.releasedThru seq then u.releaseThru b inc seq else u) :
    s.applyReceipt b inc seq passed doubt =
      (if r.notify = true ∧ (!v.reg.notify.contains b) = true then v.setReg { v.reg with notify := v.reg.notify ++ [b] } else v).moveReturned
        b inc 1024 := by
  have hfit : ¬ (r.ownInc ≠ inc ∨ (seq ≠ 0 ∧ (!serialBefore 32 seq r.nextSeq) = true)) := by
    rcases hs with h | h <;> simp [hi, h]
  subst hv hu
  refine (if_neg (by simp [hk])).trans ?_
  simp only [hr]
  exact if_neg hfit

end

section
variable {box fbox : BoxNo} {inc finc : Inc} {seq : BitVec 32} {known fwd : Bool} {fpc : Postcode}

theorem execReturned_of_unheard (h : s.listens (s.returnFrom box.val seq.toNat) = false) :
    exec (.returned box inc seq known fwd fpc fbox finc) s = .next s :=
  congrArg Host.Outcome.next (if_neg (by simp [h]))

theorem execReturned_of_heard (h : s.listens (s.returnFrom box.val seq.toNat) = true) :
    exec (.returned box inc seq known fwd fpc fbox finc) s = .next
      (s.applyReturn box.val inc.val seq.toNat known (if fwd then some (fpc.toNat, fbox.val, finc.val) else none)) :=
  congrArg Host.Outcome.next (if_pos h)

end

/-- The entry that a RETURN matches (R251): of the box and sequence, accepted and not dead, and of the incarnation where it names one. -/
def State.returnedEntry (s : State) (b inc seq : Nat) : Option (Nat × Entry) :=
  s.reg.entries.find? (fun e => e.2.box == b && e.2.seq == seq && !e.2.dead && !e.2.writing && (inc == 0 || e.2.ownInc == inc))

section
variable {b inc seq : Nat} {known : Bool} {fwd : Option (Nat × Nat × Nat)}

theorem State.applyReturn_of_linkDown (hk : s.skUp = false) : s.applyReturn b inc seq known fwd = s :=
  if_pos (by simp [hk])

theorem State.applyReturn_of_unmatched (hk : s.skUp = true) (hf : s.returnedEntry b inc seq = none) :
    s.applyReturn b inc seq known fwd = s.bump Cnt.REGISTRY_STALE_RETURNS := by
  unfold State.returnedEntry at hf
  refine (if_neg (by simp [hk])).trans ?_
  simp only [hf]

section
variable {k : Nat} {e : Entry} (hk : s.skUp = true) (hf : s.returnedEntry b inc seq = some (k, e)) {u : State}
  (hu : u = s.bump Cnt.REGISTRY_RETURNS_RECEIVED)
include hk hf hu

/-- A message returned for the first time goes on to the forwarding address (R251). -/
theorem State.applyReturn_of_forward {a : Nat × Nat × Nat} (hn : known = true) (he : e.forwarded = false) :
    s.applyReturn b inc seq known (some a) =
      (u.updEntryReg k (fun e => { e with returned := some a })).moveReturned b e.ownInc 1024 := by
  unfold State.returnedEntry at hf
  subst hu
  refine (if_neg (by simp [hk])).trans ?_
  simp only [hf, if_pos (show (known && !e.forwarded) = true by simp [hn, he])]

/-- Any other message returned becomes a dead letter, with the address it came back with (R252). -/
theorem State.applyReturn_of_dead (h : known = false ∨ fwd = none ∨ e.forwarded = true) :
    s.applyReturn b inc seq known fwd =
      (u.makeDead k Status.returned.code (if known then 0 else 1) fwd).moveReturned b e.ownInc 1024 := by
  unfold State.returnedEntry at hf
  subst hu
  refine (if_neg (by simp [hk])).trans ?_
  cases fwd with
  | none => simp only [hf]
  | some a =>
    have hd : ¬ (known && !e.forwarded) = true := by
      rcases h with h | h | h
      · simp [h]
      · cases h
      · simp [h]
    simp only [hf, if_neg hd]

end

end

/-- Settles O38: a message from the far end is met where the hub hears it, and has its effect on the entries it matches. -/
theorem receiptAndReturnAct : Obligations.ReceiptAndReturnAct := by
  intro s u v pc fpc box fbox inc finc seq passed dseq doubt known fwd
  refine ⟨fun h => ?_, fun hk hl hr => ?_, fun r hk hl hr hi hs hu hd hv hw => ?_, ?_⟩
  · by_cases hl : s.listens pc.toNat = true
    · rw [execReceipt_of_heard hl, State.applyReceipt_of_linkDown (h.resolve_right (by simp [hl]))]
    · exact execReceipt_of_unheard (Bool.eq_false_iff.mpr hl)
  · rw [execReceipt_of_heard hl, State.applyReceipt_of_stale hk hr]
  · have hdoubt : u = (s.doubtEnds box.val inc.val (if doubt then some dseq.toNat else none)).updBookRec box.val
        (fun r => { r with farPassed := passed.toNat }) := by
      cases doubt with
      | false => exact hu rfl
      | true =>
        obtain ⟨hheld, hnot⟩ := hd rfl
        cases hf : (s.heldEntries box.val inc.val).find? (fun (e : Nat × Entry) => e.2.seq == dseq.toNat) with
        | none => rw [if_pos rfl, State.doubtEnds_of_notHeld hf, hnot hf]
        | some x => rw [if_pos rfl, State.doubtEnds_of_held hf, hheld _ _ hf]
    have hrelease : v = if serialBefore 32 r.releasedThru seq.toNat then u.releaseThru box.val inc.val seq.toNat else u := by
      cases hb : serialBefore 32 r.releasedThru seq.toNat with
      | false => rw [if_neg Bool.false_ne_true, hv hb]
      | true => rw [if_pos rfl, hw hb _ rfl]; rfl
    rw [execReceipt_of_heard hl, State.applyReceipt_of_fits hk hr hi hs hdoubt hrelease]
    simp only [Bool.not_eq_true']
  · rintro found rfl
    refine ⟨fun h => ?_, fun hk hl hf => ?_, fun k e hk hl hf hu => ⟨fun hn hw he => ?_, fun h => ?_⟩⟩
    · by_cases hl : s.listens (s.returnFrom box.val seq.toNat) = true
      · rw [execReturned_of_heard hl, State.applyReturn_of_linkDown (h.resolve_right (by simp [hl]))]
      · exact execReturned_of_unheard (Bool.eq_false_iff.mpr hl)
    · rw [execReturned_of_heard hl, State.applyReturn_of_unmatched hk hf]
    · rw [execReturned_of_heard hl, if_pos hw, State.applyReturn_of_forward hk hf hu hn he]
    · rw [execReturned_of_heard hl, State.applyReturn_of_dead hk hf hu (h.imp_right (Or.imp_left fun hw => if_neg (by simp [hw])))]

end Machine
end Sys2Proof
end

section
/-!
SUPPORT. The queues of PF0 (R350, R351, R354, R373), and the messages of box 0 that relay commands, receipts and notices (R357 to R361).
-/
namespace Sys2Proof
namespace Machine

variable {s : State}

theorem execSqTail_acts (s : State) (q : Fin 64) (tail : Fin 1024) (l : List Submission) :
    Acts (.sqTail q tail l) s (s.powered .hostio = true) (fun t =>
      t = (s.setQueue q.val { s.queue q.val with sqTail := tail.val, waiting := (s.queue q.val).waiting ++ l }).pf0Serve q) :=
  Acts.of_ite_not rfl (by simp) fun _ => rfl

theorem execCqHead_acts (s : State) (q : Fin 64) (head : Fin 1024) :
    Acts (.cqHead q head) s (s.powered .hostio = true)
      (fun t => t = (s.setQueue q.val { s.queue q.val with cqHead := head.val }).pf0Serve q) :=
  Acts.of_ite_not rfl (by simp) fun _ => rfl

theorem execNrHead_acts (s : State) (head : Fin 4096) :
    Acts (.nrHead head) s (s.powered .hostio = true)
      (fun t => t = State.flushLost { s with cmd := { s.cmd with pf0 := { s.cmd.pf0 with nrHead := head.val } } }) :=
  Acts.of_ite_not rfl (by simp) fun _ => rfl

theorem execPf0FetchTimeout_acts (s : State) (q : Fin 64) (sub : Submission) :
    Acts (.pf0FetchTimeout q sub) s (s.powered .hostio = true ∧ (s.queue q.val).en = true ∧ s.pf0Room q.val = true) (fun t =>
      ∀ head : Nat, head = (if (s.queue q.val).sqSize = 0 then 0 else ((s.queue q.val).sqHead + 1) % (s.queue q.val).sqSize) →
      t = (s.setQueue q.val { s.queue q.val with waiting := (s.queue q.val).waiting.erase sub, sqHead := head }).refusePacket
        (hdrOf (Fin.ofNat 67 q.val) 0 (Fin.ofNat 67 q.val) false none []) 0 .badLength false) := by
  refine Acts.of_ite_not rfl (by simp [and_assoc]) ?_
  rintro _ head rfl
  rfl

/-- A packet by a trunk needs CIPHER, one from this hub's own paths does not (R21, R357). -/
theorem execCommandMessage_acts (s : State) (pc : Postcode) (via : Option PortId) (again : Bool) (path : Fin 67) (p : List Byte) :
    Acts (.commandMessage pc via again path p) s (s.listens pc.toNat = true ∧ (via = none ∨ s.powered .cipher = true))
      (fun t => t = s.submit (hdrOf 66 pc path again via p) p 4080) :=
  Acts.of_ite rfl (by simp) fun _ => rfl

/-- A RUNNING entry of a path whose command is relayed to another hub (R359). -/
def State.relayedEntry (s : State) (path seq : Nat) : Option (Nat × BookEntry) :=
  s.cmd.book.find? (fun e => e.2.relayed && e.2.state == .running && e.2.path == path && e.2.hostSeq == seq)

/-- The receipt says that the command is still RUNNING at the far hub (R346). -/
def receiptRuns (st flags : Byte) : Bool := decide (st.toNat = Status.busyRetry.code) && bitOf flags.toNat 0

section
variable {pc : Postcode} {path : Fin 67} {seq : BitVec 32} {st flags : Byte} {data : List Byte}

theorem execReceiptMessage_of_unheard (hl : s.listens pc.toNat = false) :
    exec (.receiptMessage pc path seq st flags data) s = .next s :=
  congrArg Host.Outcome.next (if_pos (by simp [hl]))

section
variable (hl : s.listens pc.toNat = true)
include hl

theorem execReceiptMessage_of_late (hf : s.relayedEntry path.val seq.toNat = none)
    (ha : s.cmd.rereads.find? (fun x => x.is path.val seq.toNat && x.relayedAt.isSome) = none) :
    exec (.receiptMessage pc path seq st flags data) s = .next (s.bump Cnt.HUB_RELAY_LATE) := by
  unfold State.relayedEntry at hf
  refine congrArg Host.Outcome.next ((if_neg (by simp [hl])).trans ?_)
  simp only [hf, ha]

theorem execReceiptMessage_of_reread {x : Reread} (hf : s.relayedEntry path.val seq.toNat = none)
    (ha : s.cmd.rereads.find? (fun x => x.is path.val seq.toNat && x.relayedAt.isSome) = some x) :
    exec (.receiptMessage pc path seq st flags data) s = .next
      (if receiptRuns st flags then s else s.answerRead x (Status.ofCode st.toNat) data true) := by
  unfold State.relayedEntry at hf
  refine congrArg Host.Outcome.next ((if_neg (by simp [hl])).trans ?_)
  simp only [hf, ha]
  rfl

theorem execReceiptMessage_of_entry {k : Nat} {e : BookEntry} (hf : s.relayedEntry path.val seq.toNat = some (k, e)) :
    exec (.receiptMessage pc path seq st flags data) s = .next
      (if receiptRuns st flags then (s.handReceipt e.path e.room { e.receipt true with status := .busyRetry, remote := true, data := [] }).1
      else (s.updEntry k (fun e => { e with farStale := bitOf flags.toNat 2, farNoEffect := bitOf flags.toNat 3, remote := true })).finish k
        (Status.ofCode st.toNat) data) := by
  unfold State.relayedEntry at hf
  refine congrArg Host.Outcome.next ((if_neg (by simp [hl])).trans ?_)
  simp only [hf]
  rfl

end

end

theorem execNoticeMessage_of_unheard {code : BitVec 16} {number : BitVec 32} {pc : Postcode} {pm : BitVec 64} {body : List Nat}
    (hl : s.listens pc.toNat = false) : exec (.noticeMessage code number pc pm body) s = .next s :=
  congrArg Host.Outcome.next (if_pos (by simp [hl]))

theorem execNoticeMessage_of_heard {code : BitVec 16} {number : BitVec 32} {pc : Postcode} {pm : BitVec 64} {body : List Nat}
    (hl : s.listens pc.toNat = true) : exec (.noticeMessage code number pc pm body) s = .next
      (forAll s.noticePaths s (fun s p => s.placeNotice p ⟨code.toNat, number.toNat, pc.toNat, pm.toNat, body⟩)) :=
  congrArg Host.Outcome.next (if_neg (by simp [hl]))

section
variable {path : Fin 67} {seq : BitVec 32}

theorem execRelayTimeout_of_none (hf : s.relayedEntry path.val seq.toNat = none)
    (ha : ∀ x, s.cmd.rereads.find? (fun x => x.is path.val seq.toNat) = some x → x.relayedAt = none) :
    exec (.relayTimeout path seq) s = .next s := by
  unfold State.relayedEntry at hf
  change execRelayTimeout path seq s = _
  cases hx : s.cmd.rereads.find? (fun x => x.is path.val seq.toNat) with
  | none => simp only [execRelayTimeout, hf, hx]
  | some x => simp only [execRelayTimeout, hf, hx, ha x hx]

theorem execRelayTimeout_of_reread {x : Reread} {r : Nat} (hf : s.relayedEntry path.val seq.toNat = none)
    (ha : s.cmd.rereads.find? (fun x => x.is path.val seq.toNat) = some x) (hr : x.relayedAt = some r) :
    Acts (.relayTimeout path seq) s (r + relayWait x.timeoutMs ≤ s.boot.ticks)
      (fun t => t = (s.bump Cnt.HUB_RELAY_TIMEOUTS).answerRead x .timeout [] true) := by
  unfold State.relayedEntry at hf
  refine Acts.of_ite ?_ Iff.rfl fun _ => rfl
  change execRelayTimeout path seq s = _
  simp only [execRelayTimeout, hf, ha, hr]

theorem execRelayTimeout_of_entry {k : Nat} {e : BookEntry} (hf : s.relayedEntry path.val seq.toNat = some (k, e)) :
    Acts (.relayTimeout path seq) s (e.relayedAt + relayWait e.timeoutMs ≤ s.boot.ticks) (fun t =>
      t = ((s.bump Cnt.HUB_RELAY_TIMEOUTS).updEntry k (fun e => { e with remote := true })).finish k .timeout []) := by
  unfold State.relayedEntry at hf
  refine Acts.of_ite ?_ Iff.rfl fun _ => rfl
  change execRelayTimeout path seq s = _
  simp only [execRelayTimeout, hf]

end

theorem execRemoteEntryFree_of_none {k : Fin 512} (h : mget s.cmd.book k.val = none) : exec (.remoteEntryFree k) s = .next s := by
  change execRemoteEntryFree k s = _
  simp only [execRemoteEntryFree, h]

theorem execRemoteEntryFree_of_some {k : Fin 512} {e : BookEntry} (h : mget s.cmd.book k.val = some e) :
    Acts (.remoteEntryFree k) s (e.path = 66 ∧ e.state = .done ∧ (80000 : Int) * 125000 ≤ postmarkDiff s.now e.doneAt)
      (fun t => t = (s.setBook (mdel s.cmd.book k.val)).syncBook) := by
  refine Acts.of_ite ?_ Iff.rfl fun _ => rfl
  change execRemoteEntryFree k s = _
  simp only [execRemoteEntryFree, h]

/-- Settles O47: each queue command is its test and its effect, and a message finds the entry or the read it answers, or nothing. -/
theorem queueAndMessageCommandsAct : Obligations.QueueAndMessageCommandsAct := by
  intro s
  refine ⟨execSqTail_acts s, execCqHead_acts s, execNrHead_acts s, Acts.of_ite rfl Iff.rfl fun _ => rfl, execPf0FetchTimeout_acts s,
    execCommandMessage_acts s, fun pc hl => ⟨fun _ _ _ _ _ => execReceiptMessage_of_unheard hl, fun _ _ _ _ => execNoticeMessage_of_unheard hl⟩,
    ?_, fun _ _ _ _ _ hl => execNoticeMessage_of_heard hl, ?_, fun k => ⟨execRemoteEntryFree_of_none, ?_⟩⟩
  · rintro pc path seq st flags data found again runs hl rfl rfl rfl
    refine ⟨execReceiptMessage_of_late hl, fun x hf ha => ?_, fun k e hf => ?_⟩
    · obtain ⟨hrun, hend⟩ := next_cases (execReceiptMessage_of_reread (st := st) (flags := flags) (data := data) hl hf ha)
      exact ⟨hrun, fun h => hend (Bool.eq_false_iff.mp h)⟩
    · obtain ⟨hrun, hend⟩ := next_cases (execReceiptMessage_of_entry (st := st) (flags := flags) (data := data) hl hf)
      exact ⟨hrun, fun h => hend (Bool.eq_false_iff.mp h)⟩
  · rintro path seq found again rfl rfl
    exact ⟨execRelayTimeout_of_none, fun x r => execRelayTimeout_of_reread, fun k e => execRelayTimeout_of_entry⟩
  · rintro e age h rfl
    exact execRemoteEntryFree_of_some h

end Machine
end Sys2Proof
end

section
/-!
SUPPORT. The input paths' switches and timers (R379 to R383).
-/
namespace Sys2Proof
namespace Machine

variable {s u : State} {x : InputId}

theorem execInputWindowExit_of_trip {high trip : Bool}
    (hu : u = (s.bump (if high then Cnt.PWRIN_OV_EVENTS x.code else Cnt.PWRIN_UV_EVENTS x.code)).updPath
      x.code (fun p => { p with inWindow := false }))
    (ht : trip = true) (hr : u.flag (Reg.IN_STATE_TIMER_RUN x.code) = true) :
    exec (.inputWindowExit x high trip) s = .next (u.trip x.code (u.timerEnd x.code) false) := by
  subst hu
  exact congrArg Host.Outcome.next (if_pos (by rw [ht, hr]; rfl))

/-- Without a trip the path is OFF, but that a latched path stays so, and so does one the keeper cannot reach (R17). -/
theorem execInputWindowExit_of_noTrip {high trip : Bool}
    (hu : u = (s.bump (if high then Cnt.PWRIN_OV_EVENTS x.code else Cnt.PWRIN_UV_EVENTS x.code)).updPath
      x.code (fun p => { p with inWindow := false }))
    (ht : trip = false ∨ u.flag (Reg.IN_STATE_TIMER_RUN x.code) = false) :
    exec (.inputWindowExit x high trip) s = .next (if u.pathState x.code = 5 ∨ u.kpUp = false then u else u.setPath x.code 0) := by
  subst hu
  exact congrArg Host.Outcome.next (if_neg (by rcases ht with h | h <;> simp [h]))

theorem execInputWindowEntry_eq {met : Bool} (hu : u = s.updPath x.code (fun p => { p with inWindow := true })) :
    exec (.inputWindowEntry x met) s = .next
      (if u.pathState x.code = 4 ∧ (u.path x.code).coolUntil ≤ u.boot.ticks ∧ u.kpUp = true then u.retryRamp x.code met
        else u.tryRamp x.code met) := by
  subst hu
  rfl

section
variable {en : Bool}

theorem execPathEnWrite_of_notOk (h : s.enWriteOk x.code en = false) :
    exec (.pathEnWrite x en) s = .next (s.emit (.writeStatus (Reg.IN_CFG x.code) .notPermitted)) :=
  congrArg Host.Outcome.next (if_pos (by simp [h]))

theorem execPathEnWrite_of_linkDown (h : s.enWriteOk x.code en = true) (hl : s.skUp = false) :
    exec (.pathEnWrite x en) s = .next (s.emit (.writeStatus (Reg.IN_CFG x.code) .hwFault)) :=
  congrArg Host.Outcome.next ((if_neg (by simp [h])).trans (if_pos (by simp [hl])))

theorem execPathEnWrite_of_ok (h : s.enWriteOk x.code en = true) (hl : s.skUp = true) :
    exec (.pathEnWrite x en) s = .next ((s.writeEn x.code en).emit (.writeStatus (Reg.IN_CFG x.code) .ok)) :=
  congrArg Host.Outcome.next ((if_neg (by simp [h])).trans (if_neg (by simp [hl])))

end

/-- In RAMP the limiter is only shown (R380). -/
theorem execCurrentLimitEngage_of_ramp (h : s.pathState x.code = 1) :
    exec (.currentLimitEngage x) s = .next (s.setFlag (Reg.IN_STATE_LIMITING x.code) true) :=
  congrArg Host.Outcome.next (if_pos h)

/-- In ON the limiter starts the fault timer where that does not run (R380). -/
theorem execCurrentLimitEngage_of_on (h : s.pathState x.code = 2) {v : State} (hv : v = s.setFlag (Reg.IN_STATE_LIMITING x.code) true) :
    exec (.currentLimitEngage x) s = .next (if v.flag (Reg.IN_STATE_TIMER_RUN x.code) then v
      else (v.updPath x.code (fun p => { p with faultTime := none })).setFlag (Reg.IN_STATE_TIMER_RUN x.code) true) := by
  subst hv
  exact congrArg Host.Outcome.next ((if_neg (by simp [h])).trans (if_pos h))

theorem execCurrentLimitEngage_of_other (h1 : s.pathState x.code ≠ 1) (h2 : s.pathState x.code ≠ 2) :
    exec (.currentLimitEngage x) s = .next s :=
  congrArg Host.Outcome.next ((if_neg h1).trans (if_neg h2))

theorem execCurrentLimitEngage_acts (s : State) (x : InputId) :
    Acts (.currentLimitEngage x) s (s.pathState x.code = 1 ∨ s.pathState x.code = 2) (fun t =>
      ∀ v, v = s.setFlag (Reg.IN_STATE_LIMITING x.code) true →
        (s.pathState x.code = 1 ∨ v.flag (Reg.IN_STATE_TIMER_RUN x.code) = true → t = v) ∧
        (s.pathState x.code = 2 → v.flag (Reg.IN_STATE_TIMER_RUN x.code) = false →
          t = (v.updPath x.code (fun p => { p with faultTime := none })).setFlag (Reg.IN_STATE_TIMER_RUN x.code) true)) := by
  refine ⟨fun hg => ?_, fun hg => ?_⟩
  · rcases hg with h1 | h2
    · refine Does.of_eq (execCurrentLimitEngage_of_ramp h1) ?_
      rintro v rfl
      exact ⟨fun _ => rfl, fun h2 => absurd (h1.symm.trans h2) (by decide)⟩
    · refine Does.of_eq (execCurrentLimitEngage_of_on h2 rfl) ?_
      rintro v rfl
      refine ⟨fun h => if_pos (h.resolve_left ?_), fun _ h => if_neg (Bool.not_eq_true _ ▸ h)⟩
      exact fun h1 => absurd (h1.symm.trans h2) (by decide)
  · obtain ⟨h1, h2⟩ := not_or.mp hg
    exact execCurrentLimitEngage_of_other h1 h2

/-- The limiter's end stops the fault timer in ON (R380, R383). -/
theorem execCurrentLimitRelease_eq (hu : u = s.setFlag (Reg.IN_STATE_LIMITING x.code) false) :
    exec (.currentLimitRelease x) s = .next
      (if u.pathState x.code = 2 then (u.setFlag (Reg.IN_STATE_TIMER_RUN x.code) false).markGood x.code else u) := by
  subst hu
  rfl

theorem execFaultTimerExpiry_acts (s : State) (x : InputId) (on : Nat) :
    Acts (.faultTimerExpiry x on) s (s.flag (Reg.IN_STATE_TIMER_RUN x.code) = true ∧ s.timerEnd x.code ≤ on)
      (fun t => t = s.trip x.code on false) :=
  Acts.of_ite rfl (by simp) fun _ => rfl

/-- The time a fast trip leaves is that of the fault timer where it runs (R381). -/
theorem execFastTrip_acts (s : State) (x : InputId) (on : Nat) :
    Acts (.fastTrip x on) s (s.pathState x.code = 1 ∨ s.pathState x.code = 2) (fun t =>
      (s.flag (Reg.IN_STATE_TIMER_RUN x.code) = true → t = s.trip x.code on true) ∧
      (s.flag (Reg.IN_STATE_TIMER_RUN x.code) = false → t = s.trip x.code 0 true)) := by
  refine Acts.of_ite rfl Iff.rfl fun _ => ⟨fun h => ?_, fun h => ?_⟩
  · rw [h, if_pos rfl]
  · rw [h, if_neg Bool.false_ne_true]

theorem execReverseCurrent_acts (s : State) (x : InputId) :
    Acts (.reverseCurrent x) s (s.pathState x.code = 2 ∧ s.kpUp = true)
      (fun t => t = ((s.bump (Cnt.PWRIN_REVERSE_EVENTS x.code)).setPath x.code 3).setFlag (Reg.IN_STATE_REVERSE x.code) true) :=
  Acts.of_ite rfl Iff.rfl fun _ => rfl

/-- A path that blocked is ON again where the input still meets the ramp's end, and ramps else (R379). -/
theorem execBlockingRecovery_acts (s : State) (x : InputId) (met : Bool) :
    Acts (.blockingRecovery x met) s (s.pathState x.code = 3 ∧ s.kpUp = true) (fun t =>
      (met = true → t = (s.setPath x.code 2).markGood x.code) ∧ (met = false → t = s.startRamp x.code false)) := by
  refine Acts.of_ite rfl Iff.rfl fun _ => ⟨?_, ?_⟩ <;> rintro rfl <;> rfl

/-- Settles O49: each command is its test and its effect on the path it names. -/
theorem inputPathCommandsAct : Obligations.InputPathCommandsAct := by
  rintro s u x n rfl
  refine ⟨fun high trip hu => ⟨execInputWindowExit_of_trip hu, fun ht => ?_⟩, fun met hu => next_cases (execInputWindowEntry_eq hu),
    fun en => ⟨execPathEnWrite_of_linkDown, execPathEnWrite_of_ok, execPathEnWrite_of_notOk⟩, Acts.of_ite rfl Iff.rfl fun _ => rfl,
    execCurrentLimitEngage_acts s x, fun hu => next_cases (execCurrentLimitRelease_eq hu), execFaultTimerExpiry_acts s x,
    execFastTrip_acts s x, execReverseCurrent_acts s x, execBlockingRecovery_acts s x, Acts.of_ite rfl Iff.rfl fun _ => rfl,
    fun met => Acts.of_ite rfl Iff.rfl fun _ => rfl, Acts.of_ite rfl Iff.rfl fun _ => rfl, Acts.of_ite rfl Iff.rfl fun _ => rfl⟩
  obtain ⟨hstay, hoff⟩ := next_cases (execInputWindowExit_of_noTrip hu ht)
  exact ⟨hstay, fun h5 hk => hoff (by simp [h5, hk])⟩

end Machine
end Sys2Proof
end

section
/-!
SUPPORT. The supply and its warnings (R383, R384), the keeper's sampling (R388, R389), and the keeper–power link (R17, R18).
-/
namespace Sys2Proof
namespace Machine

variable {s : State}

/-- The warning takes VBUS from the ports and stores what the loss of the supply would take; the round is stored where it counts (R384). -/
theorem execPowerFailWarning_eq (hp : s.pfw = false) (hk : s.keeperRuns = true) {v w : State}
    (hv : v = forAll [0, 1, 2, 3] ((s.bump Cnt.PWRIN_PFW_EVENTS).setPfw true) (fun s n => s.emit (.vbus n false 0)))
    (hw : w = { v with pd := { v.pd with ports := v.pd.ports.map (fun (e : Nat × PdPort) => (e.1, { e.2 with trans := none })) } }) :
    exec .powerFailWarning s = .next ((w.storeEnergy.when w.rt.running (fun s => s.storeRound)).autoThaw 1) := by
  subst hw hv
  exact congrArg Host.Outcome.next (if_neg (by simp [hp, hk]))

theorem execPowerFailWarning_of_off (h : ¬ (s.pfw = false ∧ s.keeperRuns = true)) : exec .powerFailWarning s = .next s :=
  congrArg Host.Outcome.next (if_pos (by simpa [imp_iff_not_or] using h))

theorem execPowerFailWarning_acts (s : State) :
    Acts .powerFailWarning s (s.pfw = false ∧ s.keeperRuns = true) (fun t => ∀ v w : State,
      v = forAll [0, 1, 2, 3] ((s.bump Cnt.PWRIN_PFW_EVENTS).setPfw true) (fun s n => s.emit (.vbus n false 0)) →
      w = { v with pd := { v.pd with ports := v.pd.ports.map (fun (e : Nat × PdPort) => (e.1, { e.2 with trans := none })) } } →
      (w.rt.running = true → t = w.storeEnergy.storeRound.autoThaw 1) ∧ (w.rt.running = false → t = w.storeEnergy.autoThaw 1)) := by
  refine ⟨fun ⟨hp, hk⟩ => Does.of_eq (execPowerFailWarning_eq hp hk rfl rfl) fun v w hv hw => ?_, execPowerFailWarning_of_off⟩
  subst hv
  rw [← hw]
  exact ⟨fun hr => by rw [hr, State.when_true], fun hr => by rw [hr, State.when_false]⟩

theorem execPfwRelease_acts (s : State) :
    Acts .pfwRelease s (s.pfw = true ∧ (s.onFor10ms 0 = true ∨ s.onFor10ms 1 = true)) (fun t =>
      t = forAll [0, 1, 2, 3] (s.setPfw false) (fun s n =>
        if s.get (Reg.PD_PORT_TYPEC n) = 2 ∧ s.flag (Reg.PD_PORT_ROLE n) then s.emit (.vbus n true 5000) else s)) :=
  Acts.of_ite rfl (by simp) fun _ => rfl

theorem execUndervoltageTrip_acts (s : State) :
    Acts .undervoltageTrip s (s.keeperRuns = true) (fun t =>
      t = ((((s.setPower { s.power with busGood := false }).syncPg.bump Cnt.PWRIN_UV_TRIPS).setFlag Reg.SUPPLY_STATUS_UV_SEEN true).set
        Reg.PS_STATE_STATE 0).removeCore 11) :=
  Acts.of_ite_not rfl (by simp) fun _ => rfl

theorem execKeeperSample_acts (s : State) (x : PowerSample) :
    Acts (.keeperSample x) s (s.coreStopped = true ∧ s.keeperRuns = true) (fun t => t = (s.tick.powerSample x true).samplePower) :=
  Acts.of_ite rfl (by simp) fun _ => rfl

/-- The marks of stale measurements stand in registers of their own, so VOUT_FLAGS is the same before and after them. -/
theorem State.get_voutFlags_staleMarked (s : State) :
    ((s.setFlag (Reg.MEASURE_STALE 0) true).setFlag (Reg.MEASURE_STALE 1) true).get Reg.VOUT_FLAGS = s.get Reg.VOUT_FLAGS :=
  (State.get_set_other _ _ (by decide)).trans (State.get_set_other _ _ (by decide))

theorem execKpLinkDown_acts (s : State) {u : State} :
    Acts .kpLinkDown s (s.kpUp = true) (fun t =>
      u = (((s.setFlag Reg.DIE_LINKS_KP_UP false).setFlag Reg.DIE_LINKS_KP_FAULT true).setFlag (Reg.MEASURE_STALE 0) true).setFlag
        (Reg.MEASURE_STALE 1) true →
      t = (u.set Reg.VOUT_FLAGS (4 + u.get Reg.VOUT_FLAGS % 4)).faultSeen 6 []) := by
  refine Acts.of_ite_not rfl (by simp) ?_
  rintro _ rfl
  rw [State.get_voutFlags_staleMarked]

theorem execKpLinkUp_acts (s : State) :
    Acts .kpLinkUp s (s.kpUp = false ∧ s.boot.released = true)
      (fun t => t = forAll [0, 1] (s.setFlag Reg.DIE_LINKS_KP_UP true) (fun s x => s.resumePath x)) :=
  Acts.of_ite_not rfl (by simp) fun _ => rfl

/-- Settles O50: each command is its test and its effect. -/
theorem supplyCommandsAct : Obligations.SupplyCommandsAct := by
  intro s u
  refine ⟨fun good => Does.of_eq rfl rfl, execPowerFailWarning_acts s, execPfwRelease_acts s, execUndervoltageTrip_acts s,
    execKeeperSample_acts s, ?_, execKpLinkDown_acts s, execKpLinkUp_acts s⟩
  rintro x hi rfl rfl
  rfl

end Machine
end Sys2Proof
end

section
/-!
SUPPORT. Faults that remove CORE and their ends (R483, R485), the reset pin (R487, R488), and the switch–keeper link (R16, R18).
-/
namespace Sys2Proof
namespace Machine

variable {s : State}

/-- A wait that is not open, or that SAFE or the reset pin holds, has no end. -/
theorem State.endWait_of_blocked {code : Nat} (h : s.boot.waits.contains code = false ∨ s.boot.safe = true ∨ s.boot.held = true) :
    s.endWait code = s := by
  refine if_neg ?_
  rcases h with h | h | h <;> simp [-List.contains_eq_mem, h]

/-- The end of the last wait cycles the power of CORE; the end of a wait before it is only noted (R483). -/
theorem State.endWait_of_open {code : Nat} (h11 : code ≠ 11) (hw : s.boot.waits.contains code = true) (hs : s.boot.safe = false)
    (hh : s.boot.held = false) {u : State} (hu : u = s.setBoot { s.boot with waits := s.boot.waits.erase code }) :
    s.endWait code = if u.boot.waits ≠ [] then u else u.bigFault 2 (16 + code) := by
  subst hu
  refine (if_pos (by simp only [hw, hs, hh]; rfl)).trans ?_
  simp only [if_neg h11]

/-- The events that end a wait of CORE's faults, each with its fault's code (R483). -/
theorem exec_endsWait {c : Instr} {code : Nat}
    (h : (c = .refclkReturn ∧ code = 9) ∨ (c = .overtempRecovery ∧ code = 10) ∨
      (c = .coreFaultCycle ∧ code = 8 ∧ s.boot.since + 800 ≤ s.boot.ticks)) :
    code ≠ 11 ∧ exec c s = .next (s.endWait code) := by
  rcases h with ⟨rfl, rfl⟩ | ⟨rfl, rfl⟩ | ⟨rfl, rfl, ht⟩
  · exact ⟨by decide, rfl⟩
  · exact ⟨by decide, rfl⟩
  · exact ⟨by decide, congrArg Host.Outcome.next (if_pos ht)⟩

theorem execRefclkAbsent_acts (s : State) :
    Acts .refclkAbsent s (s.powered .core = true ∨ s.enabled .core = true) (fun t => t = s.removeCore 9) :=
  Acts.of_ite rfl (by simp) fun _ => rfl

theorem execDieOvertemp_acts (s : State) : Acts .dieOvertemp s (s.powered .core = true) (fun t => t = s.removeCore 10) :=
  Acts.of_ite rfl Iff.rfl fun _ => rfl

theorem execCoreFaultCycle_of_early (h : s.boot.ticks < s.boot.since + 800) : exec .coreFaultCycle s = .next s :=
  congrArg Host.Outcome.next (if_neg h.not_ge)

theorem execSafeEnd_acts (s : State) :
    Acts .safeEnd s (s.boot.safe = true ∧ s.boot.safeSince + 28800000 ≤ s.boot.ticks)
      (fun t => t = ((s.setBoot { s.boot with safe := false }).set Reg.RESET_CAUSE_FAULT 12).bigFault 1 28) :=
  Acts.of_ite rfl (by simp) fun _ => rfl

section
variable {u : State}

theorem execResetNAssert_of_held (hu : u = s.setFlag Reg.PIN_LEVELS_RESET_N false) (hh : u.boot.held = true) :
    exec .resetNAssert s = .next u := by
  subst hu
  exact congrArg Host.Outcome.next (if_pos hh)

/-- A RESET_HUB that is due ends with the pin's reset, in which the hub is held while KEEP has power (R473, R487). -/
theorem execResetNAssert_of_notHeld (hu : u = s.setFlag Reg.PIN_LEVELS_RESET_N false) (hh : u.boot.held = false) {v : State}
    (hv : v = u.setBoot { u.boot with held := true, due := none }) :
    exec .resetNAssert s = .next (if v.boot.keep then (v.debugEnds false).dropCore.set Reg.PS_STATE_STATE 0 else v) := by
  subst hv hu
  exact congrArg Host.Outcome.next (if_neg (by simp only [hh]; simp))

theorem execResetNRelease_of_notHeld (hu : u = s.setFlag Reg.PIN_LEVELS_RESET_N true) (hh : u.boot.held = false) :
    exec .resetNRelease s = .next u := by
  subst hu
  exact congrArg Host.Outcome.next (if_pos (by simp only [hh]; rfl))

theorem execResetNRelease_of_held (hu : u = s.setFlag Reg.PIN_LEVELS_RESET_N true) (hh : u.boot.held = true) {v : State}
    (hv : v = u.setBoot { u.boot with held := false }) :
    exec .resetNRelease s = .next (if v.boot.keep then v.hubReset 2 else v) := by
  subst hv hu
  exact congrArg Host.Outcome.next (if_neg (by simp only [hh]; simp))

end

theorem execSkLinkDown_acts (s : State) {u : State} :
    Acts .skLinkDown s (s.skUp = true) (fun t => u = (s.setFlag Reg.DIE_LINKS_SK_UP false).setFlag Reg.DIE_LINKS_SK_FAULT true →
      t = (u.setBoot { u.boot with skDownSince := u.boot.ticks }).faultSeen 5 []) := by
  refine Acts.of_ite_not rfl (by simp) ?_
  rintro _ rfl
  rfl

theorem execSkLinkUp_acts (s : State) {u : State} :
    Acts .skLinkUp s (s.skUp = false ∧ s.boot.released = true) (fun t => u = s.setFlag Reg.DIE_LINKS_SK_UP true →
      t = u.setReg { u.reg with entries := u.reg.entries.map (fun (e : Nat × Entry) =>
        (e.1, { e.2 with lastSent := e.2.lastSent.map (fun _ => 8000) })) }) := by
  refine Acts.of_ite_not rfl (by simp) ?_
  rintro _ rfl
  rfl

theorem execSkLinkTimeout_acts (s : State) :
    Acts .skLinkTimeout s (s.skUp = false ∧ s.boot.released = true ∧ s.boot.skDownSince + 8000 ≤ s.boot.ticks)
      (fun t => t = s.bigFault 1 21) :=
  Acts.of_ite rfl (by simp [and_assoc]) fun _ => rfl

/-- Settles O54: each event is its test and its effect, and the ends of CORE's faults are one operation with their codes. -/
theorem resetCommandsAct : Obligations.ResetCommandsAct := by
  intro s u
  refine ⟨execRefclkAbsent_acts s, execDieOvertemp_acts s, ?_, execCoreFaultCycle_of_early, execSafeEnd_acts s, ?_, ?_,
    execSkLinkDown_acts s, execSkLinkUp_acts s, execSkLinkTimeout_acts s⟩
  · intro c code hc
    obtain ⟨h11, he⟩ := exec_endsWait hc
    refine ⟨fun hb => by rw [he, State.endWait_of_blocked hb], fun hw hs hh hu => ?_⟩
    obtain ⟨hopen, hlast⟩ := next_cases (he.trans (congrArg _ (State.endWait_of_open h11 hw hs hh hu)))
    exact ⟨hopen, fun hn => hlast (not_not.mpr hn)⟩
  · intro hu
    refine ⟨execResetNAssert_of_held hu, fun hh v hv => ?_⟩
    obtain ⟨hkeep, hlost⟩ := next_cases (execResetNAssert_of_notHeld hu hh hv)
    exact ⟨hkeep, fun hk => hlost (by simp [hk])⟩
  · intro hu
    refine ⟨execResetNRelease_of_notHeld hu, fun hh v hv => ?_⟩
    obtain ⟨hkeep, hlost⟩ := next_cases (execResetNRelease_of_held hu hh hv)
    exact ⟨hkeep, fun hk => hlost (by simp [hk])⟩

end Machine
end Sys2Proof
end

section
/-!
SUPPORT. A flooded record (R51, R90): what a port hears of it, what of it is relayed, and that acting on it takes back no output.
-/
namespace Sys2Proof
namespace Machine

section
variable {s : State} {p : PortId} {ns : Ns} {type : Nat} {r : Rec} {act : State → State}

theorem State.takeRecord_of_deaf (h : s.streams p = false) : s.takeRecord p ns type r act = s :=
  if_pos (by simp [h])

theorem State.takeRecord_of_broken (hs : s.streams p = true) (hi : recIntact type r = false) :
    s.takeRecord p ns type r act = (s.at ns.val).bump (Cnt.TRK_CONTROL_DISCARDED p.code) :=
  (if_neg (by simp [hs])).trans (if_pos (by simp [hi]))

theorem State.takeRecord_of_spent (hs : s.streams p = true) (hi : recIntact type r = true) (hh : r.hops.val = 0) :
    s.takeRecord p ns type r act = (s.at ns.val).bump Cnt.ROUND_RECORDS_DISCARDED :=
  (if_neg (by simp [hs])).trans ((if_neg (by simp [hi])).trans (if_pos hh))

theorem State.takeRecord_of_copy (hs : s.streams p = true) (hi : recIntact type r = true) (hh : r.hops.val ≠ 0)
    (hc : s.rt.flooded.contains (recId type r) = true) : s.takeRecord p ns type r act = s.at ns.val :=
  (if_neg (by simp [hs])).trans ((if_neg (by simp [hi])).trans ((if_neg hh).trans (if_pos hc)))

theorem State.takeRecord_of_heard (h : Heard s p type r) : s.takeRecord p ns type r act = act (s.relayed p ns type r) := by
  obtain ⟨hs, hi, hh, hc⟩ := h
  have hc' : ¬ (s.at ns.val).rt.flooded.contains (recId type r) = true := (Bool.eq_false_iff.mp hc)
  exact (if_neg (by simp [hs])).trans ((if_neg (by simp [hi])).trans ((if_neg hh).trans (if_neg hc')))

/-- What a heard record does is done in the state in which it has been relayed. -/
theorem exec_of_heard {c : Instr} {u t : State} (he : exec c s = .next (s.takeRecord p ns type r act)) (h : Heard s p type r)
    (hu : u = s.relayed p ns type r) (ht : act u = t) : exec c s = .next t := by
  rw [he, State.takeRecord_of_heard h, ← hu, ht]

end

/-- The parts of the state that acting on a heard record may change. -/
def heardParts : List Part := [.regs, .out, .rt, .cmd, .eng]

/-- The command is a record taken as every flooded record is, and what is done once it is heard stays within those parts. -/
def TakesRecord (c : Instr) (p : PortId) (ns : Ns) (type : Nat) (r : Rec) : Prop :=
  ∃ act : State → State, (∀ u, Within heardParts u (act u)) ∧ ∀ s, exec c s = .next (s.takeRecord p ns type r act)

section
variable (u : State)

theorem State.bump_withinHeard (k : Nat) : Within heardParts u (u.bump k) := (State.bump_within ..).weaken rfl

theorem State.setRt_withinHeard (x : RoundSt) : Within heardParts u (u.setRt x) := (State.setRt_within ..).weaken rfl

theorem State.refuseSwap_withinHeard (peer aux : Nat) : Within heardParts u (u.refuseSwap peer aux) := (State.refuseSwap_within ..).weaken rfl

theorem State.endSwap_withinHeard (st : Status) (round epoch : Nat) : Within heardParts u (u.endSwap st round epoch) :=
  (State.endSwap_within ..).weaken rfl

/-- A record of no use to the party it names is counted, and one for another hub is only relayed. -/
theorem State.discardHere_withinHeard (here : Prop) [Decidable here] :
    Within heardParts u (if here then u.bump Cnt.ROUND_RECORDS_DISCARDED else u) :=
  Within.ite (fun _ => u.bump_withinHeard _) (fun _ => Within.refl u)

end

section
variable (p : PortId) (ns : Ns) (r : Rec)

theorem takesRecord_beat : TakesRecord (.beat p ns r) p ns 0x01 r :=
  ⟨_, fun u => State.actBeat_within u r, fun _ => rfl⟩

theorem takesRecord_takeover : TakesRecord (.takeover p ns r) p ns 0x02 r := by
  refine ⟨_, fun u => ?_, fun _ => rfl⟩
  exact Within.ite (fun _ => Within.step (State.accept_within ..) rfl (u.bump_withinHeard _)) (fun _ => u.bump_withinHeard _)

theorem takesRecord_claim : TakesRecord (.claim p ns r) p ns 0x03 r := by
  refine ⟨_, fun u => ?_, fun _ => rfl⟩
  have hraise : ∀ (c : Prop) [Decidable c] (o : RecOut), Within heardParts u (if c then u.sendLater o else u) := fun c _ o =>
    Within.ite (fun _ => (State.sendLater_within ..).weaken rfl) (fun _ => Within.refl u)
  have hbeat : ∀ v, Within heardParts u v → Within heardParts u (v.hears.noteBeat r) := fun v hv =>
    Within.step (State.noteBeat_within ..) rfl (Within.step (State.hears_within ..) rfl hv)
  refine Within.ite (fun _ => hbeat _ (Within.step (State.accept_within ..) rfl (hraise ..))) (fun _ => Within.ite (fun _ => ?_) (fun _ => ?_))
  · exact hbeat _ (hraise ..)
  · exact Within.step (State.bump_within ..) rfl (hraise ..)

theorem takesRecord_raise : TakesRecord (.raise p ns r) p ns 0x04 r := by
  refine ⟨_, fun u => ?_, fun _ => rfl⟩
  exact Within.ite (fun _ => Within.ite (fun _ => u.setRt_withinHeard _) (fun _ => u.bump_withinHeard _)) (fun _ => Within.refl u)

theorem takesRecord_swapOffer : TakesRecord (.swapOffer p ns r) p ns 0x10 r := by
  refine ⟨_, fun u => ?_, fun _ => rfl⟩
  refine Within.ite (fun _ => Within.refl u) (fun _ => Within.ite (fun _ => u.bump_withinHeard _) (fun _ => ?_))
  split
  · refine Within.ite (fun _ => u.setRt_withinHeard _) (fun _ => Within.ite (fun _ => ?_) (fun _ => u.refuseSwap_withinHeard _ _))
    exact Within.step (State.endSwap_within ..) rfl (u.setRt_withinHeard _)
  · exact Within.ite (fun _ => u.refuseSwap_withinHeard _ _)
      (fun _ => Within.ite (fun _ => u.refuseSwap_withinHeard _ _) (fun _ => u.setRt_withinHeard _))

theorem takesRecord_swapAsk : TakesRecord (.swapAsk p ns r) p ns 0x11 r := by
  refine ⟨_, fun u => ?_, fun _ => rfl⟩
  refine Within.ite (fun _ => Within.refl u) (fun _ => Within.ite (fun _ => u.refuseSwap_withinHeard _ _) (fun _ => ?_))
  split
  · refine Within.ite (fun _ => ?_) (fun _ => Within.ite (fun _ => ?_) (fun _ => u.refuseSwap_withinHeard _ _))
    · exact Within.step (State.endSwap_within ..) rfl (u.setRt_withinHeard _)
    · exact Within.step (State.setRt_within ..) rfl (u.refuseSwap_withinHeard _ _)
  · exact Within.ite (fun _ => u.refuseSwap_withinHeard _ _)
      (fun _ => Within.ite (fun _ => u.refuseSwap_withinHeard _ _) (fun _ => u.setRt_withinHeard _))

theorem takesRecord_swapAgree : TakesRecord (.swapAgree p ns r) p ns 0x12 r := by
  refine ⟨_, fun u => ?_, fun _ => rfl⟩
  dsimp only
  split
  · exact Within.ite (fun _ => u.setRt_withinHeard _) (fun _ => u.discardHere_withinHeard _)
  · exact u.discardHere_withinHeard _

theorem takesRecord_swapRefuse : TakesRecord (.swapRefuse p ns r) p ns 0x13 r := by
  refine ⟨_, fun u => ?_, fun _ => rfl⟩
  split
  · exact Within.ite (fun _ => Within.ite (fun _ => u.endSwap_withinHeard _ _ _) (fun _ => u.endSwap_withinHeard _ _ _))
      (fun _ => u.discardHere_withinHeard _)
  · exact u.discardHere_withinHeard _

theorem takesRecord_swapGo : TakesRecord (.swapGo p ns r) p ns 0x14 r := by
  refine ⟨_, fun u => ?_, fun _ => rfl⟩
  refine Within.ite (fun _ => ?_) (fun _ => u.bump_withinHeard _)
  dsimp only
  split
  · exact Within.ite (fun _ => Within.step (State.setRt_within ..) rfl (u.setRt_withinHeard _)) (fun _ => u.setRt_withinHeard _)
  · exact u.setRt_withinHeard _

theorem takesRecord_swapReady : TakesRecord (.swapReady p ns r) p ns 0x15 r := by
  refine ⟨_, fun u => ?_, fun _ => rfl⟩
  dsimp only
  split
  · exact Within.ite (fun _ => u.setRt_withinHeard _) (fun _ => u.discardHere_withinHeard _)
  · exact u.discardHere_withinHeard _

theorem takesRecord_swapCancel : TakesRecord (.swapCancel p ns r) p ns 0x16 r := by
  refine ⟨_, fun u => ?_, fun _ => rfl⟩
  refine Within.ite (fun _ => ?_) (fun _ => Within.refl u)
  dsimp only
  split
  · exact Within.ite (fun _ => Within.step (State.endSwap_within ..) rfl (u.setRt_withinHeard _)) (fun _ => u.setRt_withinHeard _)
  · exact u.setRt_withinHeard _

end

theorem takesRecord_of_recordOf {c : Instr} {p : PortId} {ns : Ns} {type : Nat} {r : Rec} (hc : recordOf c = some (p, ns, type, r)) :
    TakesRecord c p ns type r := by
  unfold recordOf at hc
  split at hc <;> cases hc
  · exact takesRecord_beat p ns r
  · exact takesRecord_takeover p ns r
  · exact takesRecord_claim p ns r
  · exact takesRecord_raise p ns r
  · exact takesRecord_swapOffer p ns r
  · exact takesRecord_swapAsk p ns r
  · exact takesRecord_swapAgree p ns r
  · exact takesRecord_swapRefuse p ns r
  · exact takesRecord_swapGo p ns r
  · exact takesRecord_swapReady p ns r
  · exact takesRecord_swapCancel p ns r

/-- What one element of a list puts out, under a condition that every step keeps, stands among the outputs of the whole. -/
theorem mem_out_forAll {β : Type} {l : List β} {f : State → β → State} {x : β} {o : Out} {cond : State → Prop} (hx : x ∈ l)
    (hkeep : ∀ s y, cond s → cond (f s y)) (hgrow : ∀ s y, s.out <:+ (f s y).out) (hput : ∀ s, cond s → o ∈ (f s x).out)
    {s : State} (hs : cond s) : o ∈ (forAll l s f).out := by
  have hstay : ∀ (l : List β) (s : State), s.out <:+ (forAll l s f).out := by
    intro l
    induction l with
    | nil => exact fun s => List.suffix_refl _
    | cons y l ih => exact fun s => (hgrow s y).trans (ih (f s y))
  induction l generalizing s with
  | nil => exact absurd hx List.not_mem_nil
  | cons y l ih =>
    rcases List.mem_cons.mp hx with rfl | hx
    · exact (hstay l (f s x)).subset (hput s hs)
    · exact ih hx (hkeep s y hs)

theorem mem_allPorts (q : PortId) : q ∈ allPorts := by
  cases q <;> simp [allPorts]

@[simp] theorem State.noteKnown_active (s : State) (p q : PortId) (type epoch : Nat) :
    (s.noteKnown p type epoch).active q = s.active q := by
  unfold State.noteKnown
  split <;> rfl

/-- A record sent on leaves every ACTIVE port but the one it came by (R51). -/
theorem State.flood_out {s : State} {p q : PortId} (type : Nat) (r : Rec) (hq : q ≠ p) (ha : s.active q = true) :
    Out.record q type (framedRec type r) ∈ (s.flood type r (some p)).out := by
  have hother : (some p != some q) = true := by simpa using Ne.symm hq
  refine mem_out_forAll (cond := fun s => s.active q = true) (mem_allPorts q) ?_ ?_ ?_ ha
  · intro s y hs
    split
    · rw [State.noteKnown_active]
      exact hs
    · exact hs
  · intro s y
    split
    · exact (State.emit_within ..).outGrows.trans ((State.dealt_within ..).outGrows.trans (State.noteKnown_within ..).outGrows)
    · exact List.suffix_refl _
  · intro s hs
    rw [if_pos (by simp [hs, hother])]
    exact (State.noteKnown_within ..).outGrows.subset List.mem_cons_self

theorem State.relayed_out {s : State} {p q : PortId} (ns : Ns) (type : Nat) (r : Rec) (hq : q ≠ p) (ha : s.active q = true) :
    Out.record q type (framedRec type { r with hops := Fin.ofNat 512 (r.hops.val - 1) }) ∈ (s.relayed p ns type r).out := by
  refine (State.raiseFloor_within ..).outGrows.subset ((State.noteKnown_within ..).outGrows.subset ?_)
  exact State.flood_out type _ hq ha

/-- Settles O19: every record is taken by the same tests, and what is done with a heard one adds to the copies sent. -/
theorem recordsAreFlooded : Obligations.RecordsAreFlooded := by
  intro s c p ns type r hc
  obtain ⟨act, hact, he⟩ := takesRecord_of_recordOf hc
  refine ⟨fun hs => ?_, fun hs hi => ?_, fun hs hi hh => ?_, fun hs hi hh hf => ?_, fun h => ?_⟩
  · rw [he, State.takeRecord_of_deaf hs]
  · rw [he, State.takeRecord_of_broken hs hi]
  · rw [he, State.takeRecord_of_spent hs hi hh]
  · rw [he, State.takeRecord_of_copy hs hi hh hf]
  · exact Does.of_eq (exec_of_heard (he s) h rfl rfl) fun q hq ha => (hact _).outGrows.subset (State.relayed_out ns type r hq ha)

end Machine
end Sys2Proof
end

section
/-!
SUPPORT. The records of the round's master (R52, R54, R64, R68, R79), once heard.
-/
namespace Sys2Proof
namespace Machine

section
variable {s u : State} {p : PortId} {ns : Ns} {r : Rec}

/-- A record that does not win over the master, or not over one accepted before it, is not accepted. -/
theorem State.not_accepted {u : State} {epoch pri origin : Nat}
    (hw : u.rivalWins epoch pri origin = false ∨ u.winsPending epoch pri origin = false) :
    ¬ (u.rivalWins epoch pri origin && u.winsPending epoch pri origin) = true := by
  rcases hw with hw | hw <;> simp [hw]

section
variable (h : Heard s p 0x01 r) (hu : u = s.relayed p ns 0x01 r)
include h hu

theorem execBeat_of_winning (hr : u.rivalWins r.epoch.toNat r.priority.val r.origin.toNat = true)
    (hp : u.winsPending r.epoch.toNat r.priority.val r.origin.toNat = true) :
    exec (.beat p ns r) s = .next (((u.accept r false).hears.noteBeat r).showSuccessors r.origin.toNat r.aux.toNat r.subject.toNat) :=
  exec_of_heard rfl h hu (if_pos (by simp [hr, hp]))

section
variable (hw : u.rivalWins r.epoch.toNat r.priority.val r.origin.toNat = false ∨
  u.winsPending r.epoch.toNat r.priority.val r.origin.toNat = false)
include hw

theorem execBeat_of_known (he : r.epoch.toNat = u.epoch) (hm : r.origin.toNat = u.master) :
    exec (.beat p ns r) s = .next
      (((u.setRt { u.rt with masterPri := r.priority.val }).hears.noteBeat r).showSuccessors r.origin.toNat r.aux.toNat r.subject.toNat) :=
  exec_of_heard rfl h hu ((if_neg (State.not_accepted hw)).trans (if_pos (by simp [he, hm])))

variable (hm : r.epoch.toNat ≠ u.epoch ∨ r.origin.toNat ≠ u.master)
include hm

/-- A beat of the master accepted for the next boundary counts. -/
theorem execBeat_of_accepted {a : Accepted} (ha : u.rt.accepted = some a) (hae : a.epoch = r.epoch.toNat) (ham : a.master = r.origin.toNat) :
    exec (.beat p ns r) s = .next ((u.hears.noteBeat r).showSuccessors r.origin.toNat r.aux.toNat r.subject.toNat) := by
  refine exec_of_heard rfl h hu ((if_neg (State.not_accepted hw)).trans ((if_neg ?_).trans ?_))
  · simpa [imp_iff_not_or] using hm
  · rw [ha]
    exact if_pos (by simp [hae, ham])

theorem execBeat_of_unknown (ha : ∀ a, u.rt.accepted = some a → a.epoch ≠ r.epoch.toNat ∨ a.master ≠ r.origin.toNat) :
    exec (.beat p ns r) s = .next (u.bump Cnt.ROUND_RECORDS_DISCARDED) := by
  refine exec_of_heard rfl h hu ((if_neg (State.not_accepted hw)).trans ((if_neg ?_).trans ?_))
  · simpa [imp_iff_not_or] using hm
  · cases hac : u.rt.accepted with
    | none => rfl
    | some a => exact if_neg (by simpa [imp_iff_not_or] using ha a hac)

end
end

section
variable (h : Heard s p 0x02 r) (hu : u = s.relayed p ns 0x02 r) {named : Prop}
  (hn : named ↔ (u.flag Reg.TIMING_DEP_VALID = true ∧ u.get Reg.SUCCESSORS_SEEN_DEPUTY_PC = r.origin.toNat) ∨
    (u.flag Reg.TIMING_RES_VALID = true ∧ u.get Reg.SUCCESSORS_SEEN_RESERVE_PC = r.origin.toNat))
include h hu hn

theorem execTakeover_of_named (hd : named) (he : r.epoch.toNat = (u.epoch + 1) % 65536)
    (hp : u.winsPending r.epoch.toNat r.priority.val r.origin.toNat = true) :
    exec (.takeover p ns r) s = .next ((u.bump Cnt.ROUND_TAKEOVERS).accept r true) := by
  refine exec_of_heard rfl h hu (if_pos ?_)
  simp only [Bool.and_eq_true, Bool.or_eq_true, beq_iff_eq, decide_eq_true_eq]
  exact ⟨⟨hn.mp hd, he⟩, hp⟩

/-- A TAKEOVER of a hub that the last beat did not name, of another epoch, or one that loses to the master accepted, is discarded. -/
theorem execTakeover_of_refused (hr : ¬ named ∨ r.epoch.toNat ≠ (u.epoch + 1) % 65536 ∨
      u.winsPending r.epoch.toNat r.priority.val r.origin.toNat = false) :
    exec (.takeover p ns r) s = .next (u.bump Cnt.ROUND_RECORDS_DISCARDED) := by
  refine exec_of_heard rfl h hu (if_neg ?_)
  rcases hr with hr | hr | hr
  · rw [hn] at hr
    simp only [Bool.and_eq_true, not_and, Bool.or_eq_true, beq_iff_eq]
    exact fun ht => absurd ht.1 hr
  · simp [hr]
  · simp [hr]

end

section
variable (h : Heard s p 0x03 r) {v : State} (hv : v = s.relayed p ns 0x03 r)
  (hu : u = (if v.timing = 0 ∧ r.aux.toNat = 1 ∧ r.round.val < v.rt.floor
    then v.sendLater ⟨0x04, r.epoch.toNat, v.rt.floor, r.origin.toNat, 0⟩ else v))
include h hv hu

/-- What a CLAIM does is decided in the state in which the RAISE it calls for is due (R54). -/
theorem execClaim_of_heard {t : State} (ht : (if u.rivalWins r.epoch.toNat r.priority.val r.origin.toNat &&
      u.winsPending r.epoch.toNat r.priority.val r.origin.toNat then (u.accept r false).hears.noteBeat r
    else if r.origin.toNat = u.master && r.epoch.toNat = u.epoch then u.hears.noteBeat r
    else u.bump Cnt.ROUND_RECORDS_DISCARDED) = t) : exec (.claim p ns r) s = .next t := by
  refine exec_of_heard rfl h hv ?_
  have hraise : (if v.timing = 0 && decide (r.aux.toNat = 1) && decide (r.round.val < v.rt.floor)
      then v.sendLater ⟨0x04, r.epoch.toNat, v.rt.floor, r.origin.toNat, 0⟩ else v) = u := by
    rw [hu]
    simp [and_assoc]
  simp only [hraise]
  exact ht

theorem execClaim_of_winning (hr : u.rivalWins r.epoch.toNat r.priority.val r.origin.toNat = true)
    (hp : u.winsPending r.epoch.toNat r.priority.val r.origin.toNat = true) :
    exec (.claim p ns r) s = .next ((u.accept r false).hears.noteBeat r) :=
  execClaim_of_heard h hv hu (if_pos (by simp [hr, hp]))

section
variable (hw : u.rivalWins r.epoch.toNat r.priority.val r.origin.toNat = false ∨
  u.winsPending r.epoch.toNat r.priority.val r.origin.toNat = false)
include hw

theorem execClaim_of_known (hm : r.origin.toNat = u.master) (he : r.epoch.toNat = u.epoch) :
    exec (.claim p ns r) s = .next (u.hears.noteBeat r) :=
  execClaim_of_heard h hv hu ((if_neg (State.not_accepted hw)).trans (if_pos (by simp [he, hm])))

theorem execClaim_of_unknown (hm : r.origin.toNat ≠ u.master ∨ r.epoch.toNat ≠ u.epoch) :
    exec (.claim p ns r) s = .next (u.bump Cnt.ROUND_RECORDS_DISCARDED) :=
  execClaim_of_heard h hv hu ((if_neg (State.not_accepted hw)).trans (if_neg (by simpa [imp_iff_not_or] using hm)))

end
end

section
variable (h : Heard s p 0x04 r) (hu : u = s.relayed p ns 0x04 r)
include h hu

theorem execRaise_of_higher (ht : u.timing = 4) (hs : r.subject.toNat = u.postcode) (he : r.epoch.toNat = u.epoch)
    (hr : u.rt.round < r.round.val) :
    exec (.raise p ns r) s = .next (u.setRt { u.rt with raise := max u.rt.raise r.round.val }) :=
  exec_of_heard rfl h hu ((if_pos (by simp [ht, hs])).trans (if_pos (by simp [he, hr])))

theorem execRaise_of_stale (ht : u.timing = 4) (hs : r.subject.toNat = u.postcode)
    (hr : r.epoch.toNat ≠ u.epoch ∨ r.round.val ≤ u.rt.round) :
    exec (.raise p ns r) s = .next (u.bump Cnt.ROUND_RECORDS_DISCARDED) :=
  exec_of_heard rfl h hu ((if_pos (by simp [ht, hs])).trans (if_neg (by simpa [imp_iff_not_or] using hr)))

theorem execRaise_of_elsewhere (hr : u.timing ≠ 4 ∨ r.subject.toNat ≠ u.postcode) : exec (.raise p ns r) s = .next u :=
  exec_of_heard rfl h hu (if_neg (by simpa [imp_iff_not_or] using hr))

end
end

/-- Settles O20: each record's tests are made in the state in which it has been relayed. -/
theorem masterRecordsAct : Obligations.MasterRecordsAct := by
  intro s u p ns r
  refine ⟨fun h hu => ⟨execBeat_of_winning h hu, fun hw => ⟨execBeat_of_known h hu hw, fun hm => ⟨?_, ?_⟩⟩⟩,
    fun h hu named hn => ⟨execTakeover_of_named h hu hn, execTakeover_of_refused h hu hn⟩,
    fun h v hv hu => ⟨execClaim_of_winning h hv hu, fun hw => ⟨execClaim_of_known h hv hu hw, execClaim_of_unknown h hv hu hw⟩⟩,
    fun h hu => ⟨execRaise_of_higher h hu, execRaise_of_stale h hu, execRaise_of_elsewhere h hu⟩⟩
  · exact fun a => execBeat_of_accepted h hu hw hm
  · exact execBeat_of_unknown h hu hw hm

end Machine
end Sys2Proof
end

section
/-!
SUPPORT. The records of a swap of the round's master (R70 to R75), once heard.
-/
namespace Sys2Proof
namespace Machine

section
variable {s u : State} {p : PortId} {ns : Ns} {r : Rec} {w : Swap}

@[simp] theorem State.setRt_rt (s : State) (x : RoundSt) : (s.setRt x).rt = x := rfl
@[simp] theorem State.setRt_postcode (s : State) (x : RoundSt) : (s.setRt x).postcode = s.postcode := rfl

theorem swapRetry_eq {c : Prop} [Decidable c] {n retry : Nat} (h : retry = n + (if c then 4 else 16)) :
    retry = if c then n + 4 else n + 16 :=
  h.trans (by split <;> rfl)

section
variable (h : Heard s p 0x10 r) (hu : u = s.relayed p ns 0x10 r)
include h hu

theorem execSwapOffer_of_elsewhere (hs : r.subject.toNat ≠ u.postcode) : exec (.swapOffer p ns r) s = .next u :=
  exec_of_heard rfl h hu (if_pos hs)

variable (hs : r.subject.toNat = u.postcode)
include hs

theorem execSwapOffer_of_stranger (hm : r.origin.toNat ≠ u.master) :
    exec (.swapOffer p ns r) s = .next (u.bump Cnt.ROUND_RECORDS_DISCARDED) :=
  exec_of_heard rfl h hu ((if_neg (not_not.mpr hs)).trans (if_pos hm))

variable (hm : r.origin.toNat = u.master)
include hm

section
variable (hw : u.rt.swap = some w)
include hw

/-- An ASK of the candidate's own that has not left yields to the master's OFFER (R75). -/
theorem execSwapOffer_of_askUnsent (ha : w.asMaster = false) (hp : w.phase = .requestDue) (hq : w.peer = r.origin.toNat) :
    exec (.swapOffer p ns r) s = .next (u.setRt { u.rt with
      swap := some { w with phase := .agreeDue, round := u.rt.round, offer := true } }) := by
  refine exec_of_heard rfl h hu ((if_neg (not_not.mpr hs)).trans ((if_neg (not_not.mpr hm)).trans ?_))
  rw [hw]
  exact if_pos (by simp [ha, hp, hq])

/-- An ASK and an OFFER that left at one boundary are both cancelled, and the parties try again at different rounds (R75). -/
theorem execSwapOffer_of_crossed (ha : w.asMaster = false) (hp : w.phase = .awaitGo) (ho : w.offer = false) (hr : w.round = r.round.val)
    {retry : Nat} (ht : retry = w.round + (if r.origin.toNat < u.postcode then 4 else 16)) :
    exec (.swapOffer p ns r) s = .next ((u.setRt { u.rt with swapRetry := retry }).endSwap .busyRetry retry u.epoch) := by
  refine exec_of_heard rfl h hu ((if_neg (not_not.mpr hs)).trans ((if_neg (not_not.mpr hm)).trans ?_))
  rw [hw, swapRetry_eq ht]
  exact (if_neg (by simp [hp])).trans (if_pos (by simp [ha, hp, ho, hr]))

theorem execSwapOffer_of_otherSwap (hn : w.asMaster = true ∨ (¬ (w.phase = .requestDue ∧ w.peer = r.origin.toNat) ∧
      ¬ (w.phase = .awaitGo ∧ w.offer = false ∧ w.round = r.round.val))) :
    exec (.swapOffer p ns r) s = .next (u.refuseSwap r.origin.toNat 16) := by
  refine exec_of_heard rfl h hu ((if_neg (not_not.mpr hs)).trans ((if_neg (not_not.mpr hm)).trans ?_))
  rw [hw]
  rcases hn with ha | ⟨hreq, hgo⟩
  · exact (if_neg (by simp [ha])).trans (if_neg (by simp [ha]))
  · exact (if_neg (by simpa [and_assoc] using fun _ => not_and.mp hreq)).trans (if_neg (by simpa [and_assoc] using fun _ => by simpa using hgo))

end

section
variable (hw : u.rt.swap = none)
include hw

theorem execSwapOffer_of_notCandidate (hc : u.notCandidate = true) :
    exec (.swapOffer p ns r) s = .next (u.refuseSwap r.origin.toNat 0) := by
  refine exec_of_heard rfl h hu ((if_neg (not_not.mpr hs)).trans ((if_neg (not_not.mpr hm)).trans ?_))
  rw [hw]
  exact if_pos hc

variable (hc : u.notCandidate = false)
include hc

theorem execSwapOffer_of_busy (hb : u.roundBusy = true) : exec (.swapOffer p ns r) s = .next (u.refuseSwap r.origin.toNat 16) := by
  refine exec_of_heard rfl h hu ((if_neg (not_not.mpr hs)).trans ((if_neg (not_not.mpr hm)).trans ?_))
  rw [hw]
  exact (if_neg (by simp [hc])).trans (if_pos hb)

theorem execSwapOffer_of_fit (hb : u.roundBusy = false) :
    exec (.swapOffer p ns r) s = .next (u.setRt { u.rt with
      swap := some ⟨false, true, r.origin.toNat, r.priority.val, .agreeDue, u.rt.round, 0, 0, none⟩ }) := by
  refine exec_of_heard rfl h hu ((if_neg (not_not.mpr hs)).trans ((if_neg (not_not.mpr hm)).trans ?_))
  rw [hw]
  exact (if_neg (by simp [hc])).trans (if_neg (by simp [hb]))

end
end

section
variable (h : Heard s p 0x11 r) (hu : u = s.relayed p ns 0x11 r)
include h hu

theorem execSwapAsk_of_elsewhere (hs : r.subject.toNat ≠ u.postcode) : exec (.swapAsk p ns r) s = .next u :=
  exec_of_heard rfl h hu (if_pos hs)

variable (hs : r.subject.toNat = u.postcode)
include hs

theorem execSwapAsk_of_notMaster (ht : u.timing ≠ 4) : exec (.swapAsk p ns r) s = .next (u.refuseSwap r.origin.toNat 0) :=
  exec_of_heard rfl h hu ((if_neg (not_not.mpr hs)).trans (if_pos ht))

variable (ht : u.timing = 4)
include ht

section
variable (hw : u.rt.swap = some w)
include hw

/-- The master's own OFFER to the candidate left at the boundary at which the ASK left: both are cancelled (R75). -/
theorem execSwapAsk_of_crossed (ha : w.asMaster = true) (ho : w.offer = true) (hq : w.peer = r.origin.toNat) (hp : w.phase = .awaitAgree)
    (hr : w.round = r.round.val) {retry : Nat} (hy : retry = w.round + (if r.origin.toNat < u.postcode then 4 else 16)) :
    exec (.swapAsk p ns r) s = .next ((u.setRt { u.rt with swapRetry := retry }).endSwap .busyRetry retry u.epoch) := by
  refine exec_of_heard rfl h hu ((if_neg (not_not.mpr hs)).trans ((if_neg (not_not.mpr ht)).trans ?_))
  rw [hw, swapRetry_eq hy]
  exact if_pos (by simp [ha, ho, hq, hp, hr])

/-- Of two candidates that ask in one round, the winner of R52 is served and the other refused. -/
theorem execSwapAsk_of_betterCandidate (ha : w.asMaster = true) (ho : w.offer = false) (hp : w.phase = .goDue) (hr : w.round = u.rt.round)
    (hb : w.peerPri < r.priority.val ∨ (w.peerPri = r.priority.val ∧ r.origin.toNat < w.peer)) {v : State}
    (hv : v = u.refuseSwap w.peer 16) :
    exec (.swapAsk p ns r) s = .next (v.setRt { v.rt with
      swap := some { w with peer := r.origin.toNat, peerPri := r.priority.val } }) := by
  refine exec_of_heard rfl h hu ((if_neg (not_not.mpr hs)).trans ((if_neg (not_not.mpr ht)).trans ?_))
  rw [hw, hv]
  exact (if_neg (by simp [ho])).trans (if_pos (by simpa [ha, ho, hp, hr] using hb))

theorem execSwapAsk_of_otherSwap
    (hours : ¬ (w.asMaster = true ∧ w.offer = true ∧ w.peer = r.origin.toNat ∧ w.phase = .awaitAgree ∧ w.round = r.round.val))
    (htheirs : ¬ (w.asMaster = true ∧ w.offer = false ∧ w.phase = .goDue ∧ w.round = u.rt.round ∧
      (w.peerPri < r.priority.val ∨ (w.peerPri = r.priority.val ∧ r.origin.toNat < w.peer)))) :
    exec (.swapAsk p ns r) s = .next (u.refuseSwap r.origin.toNat 16) := by
  refine exec_of_heard rfl h hu ((if_neg (not_not.mpr hs)).trans ((if_neg (not_not.mpr ht)).trans ?_))
  rw [hw]
  exact (if_neg (by simpa [and_assoc] using hours)).trans (if_neg (by simpa [and_assoc] using htheirs))

end

section
variable (hw : u.rt.swap = none)
include hw

/-- The candidate's last known state is not LOCKED (R72). -/
theorem execSwapAsk_of_unlocked (hx : ∃ x ∈ u.rt.hdrs, x.2.sender = r.origin.toNat ∧ x.2.tstate ≠ 2) :
    exec (.swapAsk p ns r) s = .next (u.refuseSwap r.origin.toNat 0) := by
  refine exec_of_heard rfl h hu ((if_neg (not_not.mpr hs)).trans ((if_neg (not_not.mpr ht)).trans ?_))
  rw [hw]
  exact if_pos (by simpa using hx)

variable (hx : ∀ x ∈ u.rt.hdrs, x.2.sender = r.origin.toNat → x.2.tstate = 2)
include hx

theorem execSwapAsk_of_busy (hb : u.roundBusy = true) : exec (.swapAsk p ns r) s = .next (u.refuseSwap r.origin.toNat 16) := by
  refine exec_of_heard rfl h hu ((if_neg (not_not.mpr hs)).trans ((if_neg (not_not.mpr ht)).trans ?_))
  rw [hw]
  exact (if_neg (by simpa using hx)).trans (if_pos hb)

theorem execSwapAsk_of_fit (hb : u.roundBusy = false) :
    exec (.swapAsk p ns r) s = .next (u.setRt { u.rt with
      swap := some ⟨true, false, r.origin.toNat, r.priority.val, .goDue, u.rt.round, 0, 0, none⟩ }) := by
  refine exec_of_heard rfl h hu ((if_neg (not_not.mpr hs)).trans ((if_neg (not_not.mpr ht)).trans ?_))
  rw [hw]
  exact (if_neg (by simpa using hx)).trans (if_neg (by simp [hb]))

end
end

/-- What becomes of a record of a swap that meets no swap it is meant for: counted where it names this hub, else only relayed. -/
def State.discardHere (u : State) (r : Rec) : State := if r.subject.toNat = u.postcode then u.bump Cnt.ROUND_RECORDS_DISCARDED else u

theorem State.discardHere_here (hs : r.subject.toNat = u.postcode) : u.discardHere r = u.bump Cnt.ROUND_RECORDS_DISCARDED := if_pos hs

theorem State.discardHere_elsewhere (hs : r.subject.toNat ≠ u.postcode) : u.discardHere r = u := if_neg hs

section
variable (h : Heard s p 0x12 r) (hu : u = s.relayed p ns 0x12 r)
include h hu

theorem execSwapAgree_of_awaited (hs : r.subject.toNat = u.postcode) (hw : u.rt.swap = some w) (ha : w.asMaster = true)
    (hp : w.phase = .awaitAgree) (hq : w.peer = r.origin.toNat) (hr : u.rt.round ≤ w.round + 1) :
    exec (.swapAgree p ns r) s = .next (u.setRt { u.rt with swap := some { w with phase := .goDue, peerPri := r.priority.val } }) := by
  refine exec_of_heard rfl h hu ?_
  rw [hw]
  exact if_pos (by simp [hs, ha, hp, hq, hr])

theorem execSwapAgree_of_unawaited (hx : ∀ x, u.rt.swap = some x → r.subject.toNat ≠ u.postcode ∨ x.asMaster = false ∨
      x.phase ≠ .awaitAgree ∨ x.peer ≠ r.origin.toNat ∨ x.round + 1 < u.rt.round) :
    exec (.swapAgree p ns r) s = .next (u.discardHere r) := by
  refine exec_of_heard rfl h hu ?_
  cases hw : u.rt.swap with
  | none => rfl
  | some x => exact if_neg (by simpa [imp_iff_not_or, or_assoc] using hx x hw)

end

section
variable (h : Heard s p 0x13 r) (hu : u = s.relayed p ns 0x13 r)
include h hu

section
variable (hs : r.subject.toNat = u.postcode) (hw : u.rt.swap = some w) (hq : w.peer = r.origin.toNat)
  (hp : w.phase = .awaitAgree ∨ w.phase = .awaitGo)
include hs hw hq hp

theorem execSwapRefuse_of_refused (ha : r.aux.toNat = 0) :
    exec (.swapRefuse p ns r) s = .next (u.endSwap .notPermitted u.rt.round u.epoch) := by
  refine exec_of_heard rfl h hu ?_
  rw [hw]
  exact (if_pos (by simp [hs, hq, hp])).trans (if_pos ha)

theorem execSwapRefuse_of_retry (ha : r.aux.toNat ≠ 0) :
    exec (.swapRefuse p ns r) s = .next (u.endSwap .busyRetry (r.round.val + r.aux.toNat) u.epoch) := by
  refine exec_of_heard rfl h hu ?_
  rw [hw]
  exact (if_pos (by simp [hs, hq, hp])).trans (if_neg ha)

end

theorem execSwapRefuse_of_unawaited (hx : ∀ x, u.rt.swap = some x → r.subject.toNat ≠ u.postcode ∨ x.peer ≠ r.origin.toNat ∨
      (x.phase ≠ .awaitAgree ∧ x.phase ≠ .awaitGo)) :
    exec (.swapRefuse p ns r) s = .next (u.discardHere r) := by
  refine exec_of_heard rfl h hu ?_
  cases hw : u.rt.swap with
  | none => rfl
  | some x => exact if_neg (by simpa [imp_iff_not_or, or_assoc] using hx x hw)

end

section
variable (h : Heard s p 0x14 r) (hu : u = s.relayed p ns 0x14 r)
include h hu

section
variable (hm : r.origin.toNat = u.master) (he : r.epoch.toNat = (u.epoch + 1) % 65536) {g : GoSeen}
  (hg : g = ⟨r.round.val, r.epoch.toNat, r.subject.toNat, r.aux.toNat, u.get Reg.SUCCESSORS_SEEN_DEPUTY_PC⟩)
include hm he hg

theorem execSwapGo_of_candidate (hw : u.rt.swap = some w) (hs : r.subject.toNat = u.postcode) (ha : w.asMaster = false) (hp : w.phase = .awaitGo) :
    exec (.swapGo p ns r) s = .next (u.setRt { u.rt with
      go := some g, swap := some { w with phase := .readyDue, round := u.rt.round, e := r.round.val, epoch := r.epoch.toNat } }) := by
  refine exec_of_heard rfl h hu ((if_pos (by simp [hm, he])).trans ?_)
  rw [← hg]
  simp only [State.setRt_rt, hw]
  exact if_pos (by simp [hs, ha, hp])

theorem execSwapGo_of_bystander (hx : ∀ x, u.rt.swap = some x → r.subject.toNat ≠ u.postcode ∨ x.asMaster = true ∨ x.phase ≠ .awaitGo) :
    exec (.swapGo p ns r) s = .next (u.setRt { u.rt with go := some g }) := by
  refine exec_of_heard rfl h hu ((if_pos (by simp [hm, he])).trans ?_)
  rw [← hg]
  simp only [State.setRt_rt]
  cases hw : u.rt.swap with
  | none => rfl
  | some x =>
    refine if_neg ?_
    rcases hx x hw with hs | ha | hp
    · simp [hs]
    · simp [ha]
    · simp [hp]

end

theorem execSwapGo_of_stranger (hr : r.origin.toNat ≠ u.master ∨ r.epoch.toNat ≠ (u.epoch + 1) % 65536) :
    exec (.swapGo p ns r) s = .next (u.bump Cnt.ROUND_RECORDS_DISCARDED) :=
  exec_of_heard rfl h hu (if_neg (by simpa [imp_iff_not_or] using hr))

end

section
variable (h : Heard s p 0x15 r) (hu : u = s.relayed p ns 0x15 r)
include h hu

theorem execSwapReady_of_awaited (hs : r.subject.toNat = u.postcode) (hw : u.rt.swap = some w) (ha : w.asMaster = true)
    (hp : w.phase = .awaitReady) (hq : w.peer = r.origin.toNat) :
    exec (.swapReady p ns r) s = .next (u.setRt { u.rt with swap := some { w with phase := .awaitE } }) := by
  refine exec_of_heard rfl h hu ?_
  rw [hw]
  exact if_pos (by simp [hs, ha, hp, hq])

theorem execSwapReady_of_unawaited (hx : ∀ x, u.rt.swap = some x → r.subject.toNat ≠ u.postcode ∨ x.asMaster = false ∨
      x.phase ≠ .awaitReady ∨ x.peer ≠ r.origin.toNat) :
    exec (.swapReady p ns r) s = .next (u.discardHere r) := by
  refine exec_of_heard rfl h hu ?_
  cases hw : u.rt.swap with
  | none => rfl
  | some x => exact if_neg (by simpa [imp_iff_not_or, or_assoc] using hx x hw)

end

section
variable (h : Heard s p 0x16 r) (hu : u = s.relayed p ns 0x16 r)
include h hu

theorem execSwapCancel_of_late {g : GoSeen} (hg : u.rt.go = some g) (hc : u.cancelInTime g.e = false) :
    exec (.swapCancel p ns r) s = .next u := by
  refine exec_of_heard rfl h hu (if_neg ?_)
  rw [hg]
  exact Bool.eq_false_iff.mp hc

/-- A CANCEL in time withdraws the GO that the hub holds, and ends the swap of which the hub is a party. -/
theorem execSwapCancel_of_inTime (hc : ∀ g, u.rt.go = some g → u.cancelInTime g.e = true) {v : State}
    (hv : v = u.setRt { u.rt with go := none }) : ∃ t, exec (.swapCancel p ns r) s = .next t ∧
    ((∀ x, u.rt.swap = some x → x.peer ≠ r.origin.toNat ∧ x.peer ≠ r.subject.toNat) → t = v) ∧
    (u.rt.swap = some w → w.peer = r.origin.toNat ∨ w.peer = r.subject.toNat → t = v.endSwap .timeout v.rt.round v.epoch) := by
  refine ⟨_, exec_of_heard rfl h hu (if_pos ?_), fun hx => ?_, fun hw hq => ?_⟩
  · cases hg : u.rt.go with
    | none => rfl
    | some g => exact hc g hg
  · simp only [State.setRt_rt, hv]
    cases hw : u.rt.swap with
    | none => rfl
    | some x => exact if_neg (by simpa using hx x hw)
  · rw [← hv]
    simp only [show v.rt.swap = some w from hv ▸ hw]
    exact if_pos (by simpa using hq)

end
end

/-- Settles O21: in the state in which a record has been relayed, the swap that the hub is a party of says what the record does. -/
theorem swapRecordsAct : Obligations.SwapRecordsAct := by
  intro s u p ns r w
  refine ⟨execSwapOffer_of_elsewhere, fun h hu hs => ⟨?_, ?_, ?_, execSwapOffer_of_stranger h hu hs, execSwapOffer_of_notCandidate h hu hs,
    execSwapOffer_of_busy h hu hs, execSwapOffer_of_fit h hu hs⟩, execSwapAsk_of_elsewhere,
    fun h hu hs => ⟨?_, ?_, execSwapAsk_of_notMaster h hu hs, execSwapAsk_of_unlocked h hu hs, execSwapAsk_of_busy h hu hs,
      execSwapAsk_of_fit h hu hs⟩, fun h hu => ⟨fun hs hw => execSwapAgree_of_awaited h hu hs hw, ?_, ?_, ?_⟩,
    fun h hu => ⟨fun hs hw hq hp => ⟨?_, ?_⟩, ?_, ?_⟩, fun h hu => ⟨fun hm he g hg => ⟨?_, ?_⟩, execSwapGo_of_stranger h hu⟩,
    fun h hu => ⟨execSwapReady_of_awaited h hu, ?_, ?_⟩, fun h hu => ⟨?_, fun hc v hv => ?_⟩⟩
  · exact execSwapOffer_of_askUnsent h hu hs
  · exact fun hm hw ha hp ho hr retry => execSwapOffer_of_crossed h hu hs hm hw ha hp ho hr
  · exact execSwapOffer_of_otherSwap h hu hs
  · intro ht hw ha ours theirs hours htheirs
    refine ⟨fun ho retry => ?_, fun ho v => ?_, fun hno hnt => ?_⟩
    · obtain ⟨hoff, hq, hp, hr⟩ := hours.mp ho
      exact execSwapAsk_of_crossed h hu hs ht hw ha hoff hq hp hr
    · obtain ⟨hoff, hp, hr, hb⟩ := htheirs.mp ho
      exact execSwapAsk_of_betterCandidate h hu hs ht hw ha hoff hp hr hb
    · exact execSwapAsk_of_otherSwap h hu hs ht hw (fun ho => hno (hours.mpr ho.2)) (fun ho => hnt (htheirs.mpr ho.2))
  · intro ht hw ha
    exact execSwapAsk_of_otherSwap h hu hs ht hw (by simp [ha]) (by simp [ha])
  · intro hs hw hn
    rw [← State.discardHere_here hs]
    refine execSwapAgree_of_unawaited h hu fun x hx => Or.inr ?_
    obtain rfl : w = x := Option.some.inj (hw.symm.trans hx)
    exact hn
  · intro hs hw
    rw [← State.discardHere_here hs]
    exact execSwapAgree_of_unawaited h hu (by simp [hw])
  · intro hs
    rw [execSwapAgree_of_unawaited h hu fun x _ => Or.inl hs, State.discardHere_elsewhere hs]
  · exact execSwapRefuse_of_refused h hu hs hw hq hp
  · exact execSwapRefuse_of_retry h hu hs hw hq hp
  · intro hs hx
    rw [execSwapRefuse_of_unawaited h hu fun x hw => Or.inr (hx x hw), State.discardHere_here hs]
  · intro hs
    rw [execSwapRefuse_of_unawaited h hu fun x _ => Or.inl hs, State.discardHere_elsewhere hs]
  · exact execSwapGo_of_candidate h hu hm he hg
  · exact execSwapGo_of_bystander h hu hm he hg
  · intro hs hx
    rw [execSwapReady_of_unawaited h hu fun x hw => Or.inr (hx x hw), State.discardHere_here hs]
  · intro hs
    rw [execSwapReady_of_unawaited h hu fun x _ => Or.inl hs, State.discardHere_elsewhere hs]
  · exact fun g => execSwapCancel_of_late h hu
  · obtain ⟨t, ht, hother, hparty⟩ := execSwapCancel_of_inTime (w := w) h hu hc hv
    exact ⟨fun hx => ht.trans (congrArg _ (hother hx)), fun hw hq => ht.trans (congrArg _ (hparty hw hq))⟩

end Machine
end Sys2Proof
end

section
/-!
SUPPORT. The delay records (R57), the state changes of the round timer (R53, R60, R67, R70, R74), and the marks of the round (R76).
-/
namespace Sys2Proof
namespace Machine

section
variable {s u : State} {p : PortId} {ns : Ns} {seq : Byte} {turnaround : BitVec 32}

theorem execDelayAnswer_of_deaf (hs : s.streams p = false) : exec (.delayAnswer p seq turnaround ns) s = .next s :=
  congrArg Host.Outcome.next (if_pos (by simp [hs]))

section
variable (hs : s.streams p = true) (hu : u = s.at ns.val)
include hs hu

/-- An answer that no ask awaits, or of another number, is counted. -/
theorem execDelayAnswer_of_unasked (ha : (u.delay p).asked = none ∨ (u.delay p).seq ≠ seq.toNat) :
    exec (.delayAnswer p seq turnaround ns) s = .next (u.bump Cnt.ROUND_DELAY_DISCARDED) := by
  refine congrArg Host.Outcome.next ((if_neg (by simp [hs])).trans ?_)
  rw [← hu]
  cases hasked : (u.delay p).asked with
  | none => simp only [hasked]
  | some t1 =>
    simp only [hasked]
    exact if_neg (by simpa [hasked] using ha)

section
variable {t1 : Nat} {x : Int} (ha : (u.delay p).asked = some t1) (hq : (u.delay p).seq = seq.toNat)
  (hx : x = (postmarkDiff u.now t1 - (turnaround.toNat : Int)) / 2 + u.asym p)
include ha hq hx

theorem execDelayAnswer_of_good (h0 : 0 ≤ x) (h1 : x ≤ 50000)
    (hm : (u.delay p).samples = [] ∨ (medianInt (u.delay p).samples - 100 ≤ x ∧ x ≤ medianInt (u.delay p).samples + 100)) :
    exec (.delayAnswer p seq turnaround ns) s = .next
      (((u.setDelay p ⟨(u.delay p).seq, none, (x :: (u.delay p).samples).take 8⟩).setFlag (Reg.HOP_DELAY_VALID p.code) true).set
        (Reg.HOP_DELAY_D_NS p.code) (medianInt ((x :: (u.delay p).samples).take 8)).toNat) := by
  refine congrArg Host.Outcome.next ((if_neg (by simp [hs])).trans ?_)
  rw [← hu]
  simp only [ha, ← hx]
  exact (if_pos hq).trans (if_pos (by simpa [h0, h1] using hm))

theorem execDelayAnswer_of_bad (hm : x < 0 ∨ 50000 < x ∨ ((u.delay p).samples ≠ [] ∧
      (x < medianInt (u.delay p).samples - 100 ∨ medianInt (u.delay p).samples + 100 < x))) :
    exec (.delayAnswer p seq turnaround ns) s = .next ((u.setDelay p { u.delay p with asked := none }).bump Cnt.ROUND_DELAY_DISCARDED) := by
  refine congrArg Host.Outcome.next ((if_neg (by simp [hs])).trans ?_)
  rw [← hu]
  simp only [ha, ← hx]
  refine (if_pos hq).trans (if_neg ?_)
  simp only [Bool.and_eq_true, Bool.or_eq_true, decide_eq_true_eq, List.isEmpty_iff]
  rintro ⟨⟨h0, h1⟩, hnear⟩
  rcases hm with hlow | hhigh | ⟨hne, hfar⟩
  · omega
  · omega
  · rcases hnear with hnil | hnear
    · exact hne hnil
    · omega

end
end

/-- An ask under way is given up and counted. -/
theorem execDelayAnswerTimeout_acts (s : State) (p : PortId) :
    Acts (.delayAnswerTimeout p) s ((s.delay p).asked ≠ none)
      (fun t => t = (s.setDelay p { s.delay p with asked := none }).bump Cnt.ROUND_DELAY_DISCARDED) := by
  have he : exec (.delayAnswerTimeout p) s = execDelayAnswerTimeout p s := rfl
  unfold execDelayAnswerTimeout at he
  cases ha : (s.delay p).asked with
  | none => exact ⟨fun hn => absurd rfl hn, fun _ => by rw [he, ha]⟩
  | some t1 => exact ⟨fun _ => Does.of_eq (by rw [he, ha]) rfl, fun hn => absurd (by simp) hn⟩

end

/-- Settles O22: an answer meets the ask under way, and its sample the range and the median of those before it. -/
theorem delayCommandsAct : Obligations.DelayCommandsAct := by
  intro s u p ns
  refine ⟨fun seq turnaround => Acts.of_ite rfl Iff.rfl fun _ => rfl, fun seq turnaround => execDelayAnswer_of_deaf, ?_,
    fun seq turnaround => execDelayAnswer_of_unasked, execDelayAnswerTimeout_acts s p, Acts.of_ite rfl Iff.rfl fun _ => rfl⟩
  intro seq turnaround t1 x hs hu ha hq hx
  exact ⟨execDelayAnswer_of_good hs hu ha hq hx, execDelayAnswer_of_bad hs hu ha hq hx⟩

section
variable (s : State)

theorem execAcquireTimeout_acts : Acts .acquireTimeout s (s.timing = 1 ∧ 4000 ≤ s.rt.stateRounds) (fun t =>
    (∀ q, allPorts.find? (fun q => s.qualifies q && s.parent != some q) = some q →
      t = (s.setParent (some q)).setRt { s.rt with stepped := false, stateRounds := 0, goodRounds := 0 }) ∧
    (allPorts.find? (fun q => s.qualifies q && s.parent != some q) = none → t = s.enterFree)) := by
  refine Acts.of_ite rfl (by simp) fun _ => ⟨fun q hq => ?_, fun hq => ?_⟩
  · simp only [hq]
  · simp only [hq]

/-- The check of the deadlines meets the swap under way, if there is one (R70). -/
theorem execSwapDeadline_acts : Acts .swapDeadline s (∃ w, s.rt.swap = some w ∧ w.overdue s.rt.round s.rt.mark = true) (fun t =>
    ∀ w, s.rt.swap = some w →
      t = (if w.asMaster then s.setRt { s.rt with cancelDue := some w.peer } else s).endSwap .timeout s.rt.round s.epoch) := by
  have he : exec .swapDeadline s = .next s.checkSwap := rfl
  unfold State.checkSwap at he
  cases hw : s.rt.swap with
  | none => exact ⟨by simp, fun _ => by rw [he, hw]⟩
  | some w =>
    rw [hw] at he
    refine Acts.of_ite he (by simp) fun _ x hx => ?_
    obtain rfl : w = x := Option.some.inj hx
    cases w.asMaster with
    | false => rfl
    | true => rfl

theorem execSwapPartyReset_acts : Acts .swapPartyReset s (∃ w, s.rt.swap = some w ∧
      (w.e = 0 ∨ s.rt.round + 1 < w.e ∨ (s.rt.round + 1 = w.e ∧ s.rt.mark = 0))) (fun t => ∀ w, s.rt.swap = some w →
    t = (s.setRt { s.rt with cancelDue := some w.peer }).endSwap .timeout s.rt.round s.epoch) := by
  have he : exec .swapPartyReset s = execSwapPartyReset s := rfl
  unfold execSwapPartyReset at he
  cases hw : s.rt.swap with
  | none => exact ⟨by simp, fun _ => by rw [he, hw]⟩
  | some w =>
    rw [hw] at he
    refine Acts.of_ite he ?_ fun _ x hx => by cases hx; rfl
    simp [State.swapUnder, hw, or_assoc]

end

/-- Settles O23: each change of state is its test and its effect. -/
theorem timingStatesAct : Obligations.TimingStatesAct := by
  intro s
  refine ⟨Acts.of_ite rfl ?_ fun _ => rfl, Acts.of_ite rfl ?_ fun _ => rfl, Acts.of_ite rfl ?_ fun _ => rfl, Acts.of_ite rfl (by simp) fun _ => rfl,
    Acts.of_ite rfl (by simp) fun _ => rfl, execAcquireTimeout_acts s, Acts.of_ite rfl (by simp [and_assoc]) fun _ => rfl,
    execSwapDeadline_acts s, execSwapPartyReset_acts s⟩
  · simp [State.mayClaim, and_assoc]
  · simp only [State.mayTakeOver, Bool.and_eq_true, Bool.or_eq_true, beq_iff_eq, decide_eq_true_eq, Option.isNone_iff_eq_none]
    tauto
  · simp only [State.mayTakeOver, Bool.and_eq_true, Bool.or_eq_true, beq_iff_eq, decide_eq_true_eq, Option.isNone_iff_eq_none]
    tauto

/-- Settles O24: where rounds run each mark is its parts in their order, and ROUND_NUMBER_WRITE stores what stands. -/
theorem marksAct : Obligations.MarksAct := by
  intro s
  refine ⟨fun sample switchTemp keeperTemp => Acts.of_ite rfl Iff.rfl fun _ => rfl, Acts.of_ite rfl Iff.rfl fun _ => rfl,
    Acts.of_ite rfl Iff.rfl ?_, Does.of_eq rfl ⟨rfl, rfl, rfl, rfl, rfl, rfl, rfl, rfl⟩⟩
  rintro _ u rfl
  rfl

end Machine
end Sys2Proof
end

section
/-!
SUPPORT. The display ports (R269 to R278, R289): AUX requests at an input, parcels that leave it, and parcels at an output.
-/
namespace Sys2Proof
namespace Machine

section
variable {s u : State} {i : Fin 2} {n : Nat}

theorem execAuxRequest_of_ignored {k : AuxKind} (hn : n = 4 + i.val) (h : s.dpOn n = false ∨ k = .malformed) :
    exec (.auxRequest i k) s = .next s := by
  subst hn
  cases hon : s.dpOn (4 + i.val) with
  | false => exact congrArg Host.Outcome.next (if_pos (by simp [hon]))
  | true =>
    obtain rfl : k = .malformed := h.resolve_left (by simp [hon])
    exact congrArg Host.Outcome.next (if_neg (by simp [hon]))

section
variable (hn : n = 4 + i.val) (hon : s.dpOn n = true)
include hn hon

/-- Link training is answered at the input, within the port's limits (R269). -/
theorem execAuxRequest_of_training :
    exec (.auxRequest i (.linkTraining none)) s = .next (s.auxAnswer n 0 []) ∧
    ∀ (rate : Fin 7) (lanes : Fin 3),
      exec (.auxRequest i (.linkTraining (some (rate, lanes)))) s = .next ((s.auxAnswer n 0 []).trained n rate.val lanes.val) := by
  subst hn
  exact ⟨congrArg Host.Outcome.next (if_neg (by simp [hon])), fun _ _ => congrArg Host.Outcome.next (if_neg (by simp [hon]))⟩

/-- A read of the capabilities is answered from the copy (R277). -/
theorem execAuxRequest_of_copy {c : List Byte × List Byte} (hc : (s.dp n).copy = some c) :
    exec (.auxRequest i .edidRead) s = .next (s.auxAnswer n 0 c.2) ∧
    ∀ a, a.val < 256 → exec (.auxRequest i (.dpcdRead a)) s = .next (s.auxAnswer n 0 ((c.1.drop a.val).take 1)) := by
  subst hn
  refine ⟨congrArg Host.Outcome.next ((if_neg (by simp [hon])).trans ?_),
    fun a ha => congrArg Host.Outcome.next ((if_neg (by simp [hon])).trans ((if_pos ha).trans ?_))⟩
  · rw [hc]
  · rw [hc]

theorem execAuxRequest_of_noCopy (hc : (s.dp n).copy = none) :
    exec (.auxRequest i .edidRead) s = .next (s.auxAnswer n 1 []) ∧
    ∀ a, a.val < 256 → exec (.auxRequest i (.dpcdRead a)) s = .next (s.auxAnswer n 1 []) := by
  subst hn
  refine ⟨congrArg Host.Outcome.next ((if_neg (by simp [hon])).trans ?_),
    fun a ha => congrArg Host.Outcome.next ((if_neg (by simp [hon])).trans ((if_pos ha).trans ?_))⟩
  · rw [hc]
  · rw [hc]

/-- Any other request goes to the far output as an item, and the source is told to ask again (R278). -/
theorem execAuxRequest_of_item (hf : (s.dp n).aux = none) (hu : u = s.updDp n (fun x => { x with aux := some 0 })) :
    exec (.auxRequest i .other) s = .next ((u.emit (.bus 5 n 4 [])).auxAnswer n 1 []) ∧
    ∀ a, 256 ≤ a.val → exec (.auxRequest i (.dpcdRead a)) s = .next ((u.emit (.bus 5 n 4 [a.val])).auxAnswer n 1 []) := by
  subst hn hu
  refine ⟨congrArg Host.Outcome.next ((if_neg (by simp [hon])).trans ?_),
    fun a ha => congrArg Host.Outcome.next ((if_neg (by simp [hon])).trans ((if_neg ha.not_gt).trans ?_))⟩
  · simp only [hf, Option.isNone_none, State.when_true]
  · simp only [hf, Option.isNone_none, State.when_true]

/-- While a request is under way its repeat sends no item. -/
theorem execAuxRequest_of_underWay (hf : (s.dp n).aux ≠ none) :
    exec (.auxRequest i .other) s = .next (s.auxAnswer n 1 []) ∧
    ∀ a, 256 ≤ a.val → exec (.auxRequest i (.dpcdRead a)) s = .next (s.auxAnswer n 1 []) := by
  have hbusy : (s.dp n).aux.isNone = false := by simpa [Option.isSome_iff_ne_none] using hf
  subst hn
  refine ⟨congrArg Host.Outcome.next ((if_neg (by simp [hon])).trans ?_),
    fun a ha => congrArg Host.Outcome.next ((if_neg (by simp [hon])).trans ((if_neg ha.not_gt).trans ?_))⟩
  · simp only [hbusy, State.when_false]
  · simp only [hbusy, State.when_false]

end

section
variable {pc : Parcel} (hn : n = 4 + i.val)
include hn

theorem execParcelClose_of_idle (h : s.dpTunnel n = none ∨ s.dpOn n = false ∨ 2032 < pc.bytes) : exec (.parcelClose i pc) s = .next s := by
  subst hn
  have he : exec (.parcelClose i pc) s = execParcelClose i pc s := rfl
  rw [he]
  cases ht : s.dpTunnel (4 + i.val) with
  | none => simp only [execParcelClose, ht]
  | some x =>
    simp only [execParcelClose, ht]
    refine congrArg Host.Outcome.next (if_pos ?_)
    simpa [ht] using h

section
variable {x : Box} (hx : s.dpTunnel n = some x) (hon : s.dpOn n = true) (hb : pc.bytes ≤ 2032)
  (hu : u = s.set (Reg.DP_STATE_STREAM n) (if pc.dsc then 2 else 1))
include hx hon hb hu

/-- A parcel above what the flow may send in a round is not sent (R274). -/
theorem execParcelClose_of_red {m : Nat} (hm : u.parcelLimit x = some m) (hs : m ≤ (s.dp n).sent) :
    exec (.parcelClose i pc) s = .next (u.bump (Cnt.DISPLAY_PARCELS_RED n)) := by
  subst hn
  have he : exec (.parcelClose i pc) s = execParcelClose i pc s := rfl
  rw [he]
  simp only [execParcelClose, hx, ← hu, hm]
  exact congrArg Host.Outcome.next ((if_neg (by simp [hon, hb])).trans (if_pos (by simpa using hs)))

theorem execParcelClose_of_sent (hm : ∀ m, u.parcelLimit x = some m → (s.dp n).sent < m) : exec (.parcelClose i pc) s = .next
    ((((u.setDp n { s.dp n with sent := (s.dp n).sent + 1, msaFor := x.inc }).bump (Cnt.DISPLAY_PARCELS n)).emit
      (.bus 5 n 0 [x.peerPc, x.peerBox, pc.bytes])).emit
      (.bytes 5 (parcelHeader pc ((pc.frameStart && pc.msaNew) || (s.dp n).msaFor != x.inc)))) := by
  subst hn
  have he : exec (.parcelClose i pc) s = execParcelClose i pc s := rfl
  rw [he]
  simp only [execParcelClose, hx, ← hu]
  refine congrArg Host.Outcome.next ((if_neg (by simp [hon, hb])).trans (if_neg ?_))
  cases hl : u.parcelLimit x with
  | none => simp
  | some m => simpa using hm m hl

end
end
end

section
variable {s : State} {d : Fin 4} {pc : Parcel}

theorem execParcel_of_dark (h : s.dpOn d.val = false ∨ s.flag (Reg.DP_STATE_TRAINED d.val) = false) : exec (.parcel d pc) s = .next s :=
  congrArg Host.Outcome.next (if_pos (by simpa using h))

section
variable (hon : s.dpOn d.val = true) (ht : s.flag (Reg.DP_STATE_TRAINED d.val) = true)
include hon ht

/-- A POSTMARK that names no time of a round (R47). -/
theorem execParcel_of_badPostmark (hp : 125000 ≤ postmarkNs pc.postmark) :
    exec (.parcel d pc) s = .next (s.bump Cnt.ROUND_RECORDS_DISCARDED) :=
  congrArg Host.Outcome.next ((if_neg (by simp [hon, ht])).trans (if_pos hp))

section
variable (hp : postmarkNs pc.postmark < 125000)
include hp

theorem execParcel_of_late (hl : s.playAt d.val pc.postmark.toNat < s.now) : exec (.parcel d pc) s = .next
    ((s.bump (Cnt.DISPLAY_LATE_PARCELS d.val)).blankFrame d.val (pc.frameStart && !(s.dp d.val).missed.contains pc.postmark.toNat)) :=
  congrArg Host.Outcome.next ((if_neg (by simp [hon, ht])).trans ((if_neg hp.not_ge).trans (if_pos hl)))

theorem execParcel_of_early (hl : s.now ≤ s.playAt d.val pc.postmark.toNat) :
    exec (.parcel d pc) s = .next (s.updDp d.val (fun x => { x with held := x.held ++ [pc] })) :=
  congrArg Host.Outcome.next ((if_neg (by simp [hon, ht])).trans ((if_neg hp.not_ge).trans (if_neg hl.not_gt)))

end
end

/-- At its time a held parcel plays, and one that has not come has been missed (R272, R273). -/
theorem execPlayoutTime_acts (s : State) (d : Fin 4) (pm : BitVec 64) (err : Int) :
    Acts (.playoutTime d pm err) s
      (s.dpOn d.val = true ∧ s.flag (Reg.DP_STATE_TRAINED d.val) = true ∧ s.playAt d.val pm.toNat ≤ s.now) (fun t =>
      (∀ pc, (s.dp d.val).held.find? (fun p => p.postmark == pm) = some pc → t = s.playParcel d.val pc err) ∧
      ((s.dp d.val).held.find? (fun p => p.postmark == pm) = none →
        t = ((s.bump (Cnt.DISPLAY_MISSED_PARCELS d.val)).blankFrame d.val false).updDp d.val (fun x => { x with
          missed := pm.toNat :: x.missed }))) := by
  refine Acts.of_ite_not rfl (by simp [and_assoc]) fun _ => ⟨fun pc hpc => ?_, fun hpc => ?_⟩
  · simp only [hpc]
  · simp only [hpc]

end

/-- Settles O43: each command is its test and its effect, and an AUX request is met by its kind. -/
theorem displayCommandsAct : Obligations.DisplayCommandsAct := by
  intro s u d i n now hn hnow
  subst hnow
  refine ⟨fun rate lanes => ?_, Acts.of_ite_not rfl (by simp) fun _ => rfl, Acts.of_ite rfl (by simp) fun _ => rfl, fun dpcd edid => ?_,
    fun k => execAuxRequest_of_ignored hn, fun hon => ⟨(execAuxRequest_of_training hn hon).1, ?_, fun c => execAuxRequest_of_copy hn hon,
      execAuxRequest_of_noCopy hn hon, execAuxRequest_of_item hn hon, execAuxRequest_of_underWay hn hon⟩, fun reply => ?_,
    fun pc => ⟨execParcelClose_of_idle hn, fun x hx hon hb hu => ⟨fun m => execParcelClose_of_red hn hx hon hb hu,
      execParcelClose_of_sent hn hx hon hb hu⟩⟩,
    fun pc => ⟨execParcel_of_dark, fun hon ht => ⟨execParcel_of_badPostmark hon ht, execParcel_of_late hon ht, execParcel_of_early hon ht⟩⟩,
    execPlayoutTime_acts s d⟩
  · refine Acts.of_ite_not rfl (by simp) ?_
    rintro _ v w rfl rfl
    rfl
  · subst hn
    exact Acts.of_ite rfl Iff.rfl fun _ => rfl
  · rintro rate lanes v w rfl rfl
    exact (execAuxRequest_of_training hn hon).2 rate lanes
  · subst hn
    refine Acts.of_ite rfl ?_ fun _ => rfl
    simp [Option.isSome_iff_ne_none]

end Machine
end Sys2Proof
end

section
/-!
SUPPORT. TRUNK_RETRAIN and TRUNK_STATUS (R114, R364).
-/
namespace Sys2Proof
namespace Machine

section
variable {s u : State} {h : CmdHdr} {k : Nat} {port : Byte}

theorem execTrunkRetrain_of_badParam {forceHalf : Byte} (o : Opens (.trunkRetrain h port forceHalf) s k u)
    (hb : PortId.ofCode port.toNat = none ∨ 1 < forceHalf.toNat) :
    exec (.trunkRetrain h port forceHalf) s = .next (u.finish k .badParam []) := by
  refine exec_of_opens rfl o rfl ?_
  cases hp : PortId.ofCode port.toNat with
  | none => rfl
  | some p => exact if_pos (hb.resolve_left (by simp [hp]))

theorem execTrunkStatus_of_badPort (o : Opens (.trunkStatus h port) s k u) (hp : PortId.ofCode port.toNat = none) :
    exec (.trunkStatus h port) s = .next (u.finish k .badParam []) := by
  refine exec_of_opens rfl o rfl ?_
  simp only [hp]

section
variable {p : PortId} (hp : PortId.ofCode port.toNat = some p)
include hp

/-- The registers from TRK_PORT_CFG on, then 32 bytes of the module's data (R364). -/
theorem execTrunkStatus_of_port (o : Opens (.trunkStatus h port) s k u) :
    exec (.trunkStatus h port) s = .next (u.finish k .ok
      ((List.range 11).flatMap (fun i => leBytes 4 (u.word (Reg.TRK_PORT_CFG p.code + 4 * i)).toNat) ++
        (u.port p).module.data.take 32 ++ List.replicate (32 - ((u.port p).module.data.take 32).length) 0)) := by
  refine exec_of_opens rfl o rfl ?_
  simp only [hp]

section
variable {forceHalf : Byte} (o : Opens (.trunkRetrain h port forceHalf) s k u) (hf : forceHalf.toNat ≤ 1)
include o hf

theorem execTrunkRetrain_of_running (he : u.flag (Reg.TRK_PORT_CFG_EN p.code) = true) (hw : u.powered (PortId.domain p) = true) :
    exec (.trunkRetrain h port forceHalf) s = .next
      (((u.updPort p (fun x => { x with forceHalf := forceHalf.toNat == 1 })).enterHunt p).updEntry k
        (fun e => { e with wait := p.code })) := by
  refine exec_of_opens_waits rfl o rfl ?_
  simp only [hp]
  exact (if_neg hf.not_gt).trans (if_pos (by simp [he, hw]))

theorem execTrunkRetrain_of_held (hn : u.flag (Reg.TRK_PORT_CFG_EN p.code) = false ∨ u.powered (PortId.domain p) = false) :
    exec (.trunkRetrain h port forceHalf) s = .next (u.updEntry k (fun e => { e with wait := p.code })) := by
  refine exec_of_opens_waits rfl o rfl ?_
  simp only [hp]
  exact (if_neg hf.not_gt).trans (if_neg (by simpa [imp_iff_not_or] using hn))

end

end

end

/-- Settles O12: the parameters are checked first; a retrain waits for its port whether or not the port hunts. -/
theorem trunkCommandsComplete : Obligations.TrunkCommandsComplete :=
  ⟨fun _ _ _ _ _ _ => ⟨execTrunkRetrain_of_badParam, execTrunkStatus_of_badPort⟩,
    fun _ _ _ _ _ _ hp => ⟨fun _ o hf => ⟨execTrunkRetrain_of_running hp o hf, execTrunkRetrain_of_held hp o hf⟩,
      execTrunkStatus_of_port hp⟩⟩

end Machine
end Sys2Proof
end

section
/-!
SUPPORT. TRAIN (R88, R90, R92, R96) and PORT_ENABLE (R95, R434, R437, R439).
-/
namespace Sys2Proof
namespace Machine

section
variable {s u v : State} {p : PortId} {lane : Fin 4} {m : TrainMsg}

theorem execTrain_of_disabled (h0 : s.portState p = 0) : exec (.train p lane m) s = .next s :=
  congrArg Host.Outcome.next (if_pos h0)

section
variable (h0 : s.portState p ≠ 0)
include h0

theorem execTrain_of_otherType (ht : m.type ≠ 0x10) :
    exec (.train p lane m) s = .next (s.bump (Cnt.TRK_CONTROL_DISCARDED p.code)) :=
  congrArg Host.Outcome.next ((if_neg h0).trans (if_pos (by simpa using ht)))

variable (ht : m.type = 0x10) (hv : v = s.updPort p (fun x => { x with nonces := mput x.nonces lane.val m.nonce.toNat }))
include ht hv

/-- A lane is counted when it first shows another NONCE than the lowest locked lane's (R92). -/
theorem execTrain_of_mismatch (hm : bitOf (v.port p).mismatched lane.val = true) :
    exec (.train p lane m) s = .next
      (v.when (!bitOf (s.port p).mismatched lane.val) (fun w => w.bump (Cnt.TRK_LANE_MISMATCH p.code))) := by
  subst hv
  exact congrArg Host.Outcome.next ((if_neg h0).trans ((if_neg (by simp [ht])).trans (if_pos hm)))

/-- The far end's word is taken, and in bring-up the TX_MASK follows the far RX_CHOSEN (R96). -/
theorem execTrain_of_taken (hm : bitOf (v.port p).mismatched lane.val = false) (hu : u = v.updPort p (fun x => { x with
      farNonce := m.nonce.toNat, farLocked := m.rxLocked.toNat, farChosen := m.rxChosen.toNat, farReady := m.ready,
      farFullCap := m.fullCap, farStepGo := m.stepGo })) :
    exec (.train p lane m) s = .next
      ((if 3 ≤ u.portState p ∧ u.portState p ≤ 8 then u.setMasks p m.rxChosen.toNat (u.rxMask p) else u.syncLanes p).advancePort p) := by
  subst hu hv
  exact congrArg Host.Outcome.next ((if_neg h0).trans ((if_neg (by simp [ht])).trans (if_neg (by simp [hm]))))

end

theorem State.portEnable_true (s : State) (p : PortId) :
    s.portEnable p true = if s.mayEnable p then
      let u := s.setFlag (Reg.TRK_PORT_CFG_EN p.code) true
      if u.powered (PortId.domain p) && u.portState p == 0 then u.enterHunt p else u
    else s.emit (.writeStatus (Reg.TRK_PORT_CFG p.code) .notPermitted) :=
  if_pos rfl

theorem State.portEnable_false (s : State) (p : PortId) : s.portEnable p false = s.holdPort p :=
  if_neg Bool.false_ne_true

theorem execPortEnable_of_notPermitted (hm : s.mayEnable p = false) :
    exec (.portEnable p true) s = .next (s.emit (.writeStatus (Reg.TRK_PORT_CFG p.code) .notPermitted)) :=
  congrArg Host.Outcome.next ((s.portEnable_true p).trans (if_neg (Bool.eq_false_iff.mp hm)))

/-- EN = 1 starts a port that is DISABLED and has power (R95). -/
theorem execPortEnable_of_permitted (hm : s.mayEnable p = true) (hu : u = s.setFlag (Reg.TRK_PORT_CFG_EN p.code) true) :
    exec (.portEnable p true) s = .next (if u.powered (PortId.domain p) && u.portState p == 0 then u.enterHunt p else u) := by
  subst hu
  exact congrArg Host.Outcome.next ((s.portEnable_true p).trans (if_pos hm))

end

/-- Settles O26: TRAIN is told apart by the port's state, its TYPE and its NONCE, and PORT_ENABLE by the port's permission. -/
theorem trainAndEnableAct : Obligations.TrainAndEnableAct := by
  intro s u p lane m
  refine ⟨execTrain_of_disabled, execTrain_of_otherType, fun v h0 ht hv hm => ?_, fun v h0 ht hv hm hu => ?_,
    congrArg Host.Outcome.next (s.portEnable_false p), execPortEnable_of_notPermitted, fun hm hu => ?_⟩
  · rw [execTrain_of_mismatch h0 ht hv hm]
    refine ⟨fun hs => ?_, fun hs => ?_⟩
    · rw [hs, Bool.not_false, State.when_true]
    · rw [hs, Bool.not_true, State.when_false]
  · rw [execTrain_of_taken h0 ht hv hm hu]
    exact ⟨fun hb => by rw [if_pos hb], fun hb => by rw [if_neg hb]⟩
  · obtain ⟨hstarts, hstays⟩ := next_cases (execPortEnable_of_permitted hm hu)
    exact ⟨fun hw h0 => hstarts (by simp [hw, h0]), fun hn => hstays (by simpa [imp_iff_not_or] using hn)⟩

end Machine
end Sys2Proof
end

section
/-!
SUPPORT. The limits of the port states (R95, R97, R110).
-/
namespace Sys2Proof
namespace Machine

theorem execHuntRestart_acts (s : State) (p : PortId) :
    Acts (.huntRestart p) s (s.portState p = 1) (fun t => t = ((s.updPort p (fun x => { x with
      locked := 0, unused := 0, nonces := [], badHdrs := [], marks := [], marksMissed := [] })).bump (Cnt.TRK_HUNT_RESTARTS p.code)).syncLanes
      p) :=
  Acts.of_ite rfl Iff.rfl fun _ => rfl

theorem execAlignStable_acts (s : State) (p : PortId) :
    Acts (.alignStable p) s (s.portState p = 2 ∧ (s.port p).alignWaited = false) (fun t => t = (s.chooseAlign p).advancePort p) :=
  Acts.of_ite rfl (by simp) fun _ => rfl

/-- The first limit of ALIGN chooses the lanes and waits for the far end; without a lane, or at the second, the port hunts again (R95). -/
theorem execAlignTimeout_acts (s : State) (p : PortId) :
    Acts (.alignTimeout p) s (s.portState p = 2) (fun t =>
      ((s.port p).alignWaited = true ∨ s.usable p = 0 → t = s.enterHunt p) ∧
      ((s.port p).alignWaited = false → s.usable p ≠ 0 →
        t = ((s.updPort p (fun x => { x with alignWaited := true })).chooseAlign p).advancePort p)) :=
  Acts.of_ite_not rfl not_not.symm fun _ => ⟨fun h => if_pos h, fun hw hu => if_neg (by simp [hw, hu])⟩

theorem execTuneReady_acts (s : State) (p : PortId) :
    Acts (.tuneReady p) s (s.portState p = 3 ∨ s.portState p = 6) (fun t => t = s.setReady p) :=
  Acts.of_ite rfl Iff.rfl fun _ => rfl

section
variable {s : State} {p : PortId} {ready : BitVec 4} {left : Nat}

theorem execTuneTimeout_of_otherState (h3 : s.portState p ≠ 3) (h6 : s.portState p ≠ 6) : exec (.tuneTimeout p ready) s = .next s :=
  congrArg Host.Outcome.next ((if_neg h3).trans (if_neg h6))

variable (hl : left = widthOf (((s.port p).chosen.land (s.usable p)).land ready.toNat))
include hl

theorem execTuneTimeout_of_tuneHalf (h3 : s.portState p = 3) :
    exec (.tuneTimeout p ready) s = .next (if left = 0 then s.enterHunt p
      else ((s.updPort p (fun x => { x with chosen := left })).setMasks p (s.txMask p) left).setReady p) := by
  subst hl
  exact congrArg Host.Outcome.next (if_pos h3)

/-- Full rate is kept where its lanes left carry more slots than those of half rate (R97). -/
theorem execTuneTimeout_of_tuneFull (h6 : s.portState p = 6) :
    exec (.tuneTimeout p ready) s = .next
      (if slotsOf (popCount (s.port p).halfChosen 4) false < slotsOf (popCount left 4) true then
        ((s.updPort p (fun x => { x with chosen := left })).setMasks p (s.txMask p) left).setReady p
      else s.enterRelockHalf p) := by
  subst hl
  exact congrArg Host.Outcome.next ((if_neg (by simp [h6])).trans (if_pos h6))

end

theorem execStepTimeout_acts (s : State) (p : PortId) :
    Acts (.stepTimeout p) s (s.portState p = 4) (fun t => t = (s.updPort p (fun x => { x with stepGo := false })).enterCheck p) :=
  Acts.of_ite rfl Iff.rfl fun _ => rfl

theorem execRelockFullTimeout_acts (s : State) (p : PortId) :
    Acts (.relockFullTimeout p) s (s.portState p = 5) (fun t => t = (s.bump (Cnt.TRK_STEP_FAILS p.code)).enterRelockHalf p) :=
  Acts.of_ite rfl Iff.rfl fun _ => rfl

theorem execRelockHalfTimeout_acts (s : State) (p : PortId) :
    Acts (.relockHalfTimeout p) s (s.portState p = 7) (fun t => t = s.enterHunt p) :=
  Acts.of_ite rfl Iff.rfl fun _ => rfl

theorem execCheckComplete_acts_of_passed (s : State) (p : PortId) :
    Acts (.checkComplete p true) s (s.portState p = 8) (fun t => t = s.enterActive p) :=
  Acts.of_ite_not rfl not_not.symm fun _ => if_pos rfl

/-- A check that fails falls back to half rate, and at half rate to HUNT (R95). -/
theorem execCheckComplete_acts_of_failed (s : State) (p : PortId) :
    Acts (.checkComplete p false) s (s.portState p = 8) (fun t => ∀ u, u = s.bump (Cnt.TRK_CHECK_FAILS p.code) →
      (u.fullRate p = true → t = u.enterRelockHalf p) ∧ (u.fullRate p = false → t = u.enterHunt p)) := by
  refine Acts.of_ite_not rfl not_not.symm ?_
  rintro _ u rfl
  exact ⟨fun hf => (if_neg Bool.false_ne_true).trans (if_pos hf),
    fun hh => (if_neg Bool.false_ne_true).trans (if_neg (Bool.eq_false_iff.mp hh))⟩

theorem execDirectionLost_acts (s : State) (p : PortId) :
    Acts (.directionLost p) s (s.portState p = 9) (fun t => t = s.enterHunt p) :=
  Acts.of_ite rfl Iff.rfl fun _ => rfl

/-- Settles O27: each limit is the test of its state and its effect, and TUNE_TIMEOUT is told apart by the lanes that are left. -/
theorem portTimersAct : Obligations.PortTimersAct := by
  intro s p
  refine ⟨execHuntRestart_acts s p, execAlignStable_acts s p, execAlignTimeout_acts s p, execTuneReady_acts s p, fun ready left hl => ?_,
    execStepTimeout_acts s p, execRelockFullTimeout_acts s p, execRelockHalfTimeout_acts s p, execCheckComplete_acts_of_passed s p,
    execCheckComplete_acts_of_failed s p, execDirectionLost_acts s p, Does.of_eq rfl rfl⟩
  refine ⟨execTuneTimeout_of_otherState, fun h3 => (next_cases (execTuneTimeout_of_tuneHalf hl h3)).1,
    fun h6 hs => (next_cases (execTuneTimeout_of_tuneFull hl h6)).2 hs.not_gt, ?_⟩
  rintro (⟨h3, hn⟩ | ⟨h6, hs⟩)
  · exact (next_cases (execTuneTimeout_of_tuneHalf hl h3)).2 hn
  · exact (next_cases (execTuneTimeout_of_tuneFull hl h6)).1 hs

end Machine
end Sys2Proof
end

section
/-!
SUPPORT. The lane messages, and the lanes in ACTIVE (R88, R100, R102, R103, R105).
-/
namespace Sys2Proof
namespace Machine

section
variable {s u : State} {p : PortId}

section
variable {q : TapReq}

theorem execTapReq_of_unfit (hq : s.tapReqOk p q = false) :
    exec (.tapReq p q) s = .next (s.bump (Cnt.TRK_CONTROL_DISCARDED p.code)) :=
  congrArg Host.Outcome.next (if_pos (by simp [hq]))

variable (hq : s.tapReqOk p q = true)
include hq

/-- The last request applied, met again, is answered again (R100). -/
theorem execTapReq_of_repeat {v : Nat} (hv : mget (s.port p).tapSeq q.lane.val = some v) (hs : v % 256 = q.seq.toNat) :
    exec (.tapReq p q) s = .next
      (s.updPort p (fun x => x.queueMsg (2 ^ q.lane.val) 0x12 [q.seq.toNat, q.lane.val, v / 256] 1)) := by
  have hlast : (mget (s.port p).tapSeq q.lane.val).filter (fun v => v % 256 == q.seq.toNat) = some v := by simp [hv, hs]
  refine congrArg Host.Outcome.next ((if_neg (by simp [hq])).trans ?_)
  simp only [hlast]

/-- The taps and their statuses that a request asks for: a preset's, or the present ones stepped (R99, R100). -/
def State.tapsAsked (s : State) (p : PortId) (q : TapReq) : List Int × List Nat :=
  if q.preset.val ≠ 0 then (presetTaps q.preset.val, [1, 1, 1, 1, 1])
  else stepTaps (s.taps p q.lane.val) [q.cm2.val, q.cm1.val, q.c0.val, q.cp1.val, q.cp2.val]

theorem execTapReq_of_new (hn : ∀ v, mget (s.port p).tapSeq q.lane.val = some v → v % 256 ≠ q.seq.toNat) {r : List Int × List Nat}
    (hr : r = s.tapsAsked p q) :
    exec (.tapReq p q) s = .next ((s.setTaps p q.lane.val r.1).updPort p (fun x => ({ x with
      tapSeq := mput x.tapSeq q.lane.val (q.seq.toNat + 256 * packTaps r.2) }).queueMsg (2 ^ q.lane.val) 0x12
        [q.seq.toNat, q.lane.val, packTaps r.2] 1)) := by
  subst hr
  have hlast : (mget (s.port p).tapSeq q.lane.val).filter (fun v => v % 256 == q.seq.toNat) = none := by
    simpa [Option.filter_eq_none_iff] using hn
  refine congrArg Host.Outcome.next ((if_neg (by simp [hq])).trans ?_)
  simp only [hlast]
  rfl

end

section
variable {seq : Byte} {lane : Fin 4} {st : TapStatus}

theorem execTapAck_of_tuning (h : s.portState p = 3 ∨ s.portState p = 6) :
    exec (.tapAck p seq lane st) s = .next
      (s.updPort p (fun x => { x with tapAsk := mupd x.tapAsk lane.val (fun a => (a.1, a.2 || a.1 == seq.toNat)) })) :=
  congrArg Host.Outcome.next (if_pos h)

theorem execTapAck_of_otherState (h3 : s.portState p ≠ 3) (h6 : s.portState p ≠ 6) :
    exec (.tapAck p seq lane st) s = .next (s.bump (Cnt.TRK_CONTROL_DISCARDED p.code)) :=
  congrArg Host.Outcome.next (if_neg (not_or.mpr ⟨h3, h6⟩))

end

section
variable {chosen : BitVec 4} {ns : Ns}

theorem execWidthReq_of_notActive (restore : Bool) (h : s.portState p ≠ 9) :
    exec (.widthReq p chosen restore ns) s = .next (s.bump (Cnt.TRK_CONTROL_DISCARDED p.code)) :=
  congrArg Host.Outcome.next (if_pos h)

section
variable (h : s.portState p = 9) (hu : u = s.at ns.val)
include h hu

/-- A restore that widens the mask within LANE_PLAN is fixed for a boundary, unless another change waits (R105). -/
theorem execWidthReq_of_restore {m : Nat} (hm : m = widthOf (chosen.toNat.land (u.get (Reg.LANE_PLAN_POWERED p.code)))) :
    exec (.widthReq p chosen true ns) s = .next
      (if (u.port p).change.isSome || popCount m 4 ≤ popCount (u.txMask p) 4 then u
      else u.updPort p (fun x => { x with change := some ⟨u.round + 2, m, true⟩ })) := by
  subst hm hu
  exact congrArg Host.Outcome.next (if_neg (not_not.mpr h))

/-- A degrade takes its mask at once (R103). -/
theorem execWidthReq_of_degrade :
    exec (.widthReq p chosen false ns) s = .next
      (if u.txMask p = chosen.toNat then u
      else (u.updPort p (fun x => { x with change := x.change.bind (·.afterDegrade (u.txMask p) chosen.toNat) })).setMasks p chosen.toNat
        (u.rxMask p)) := by
  subst hu
  exact congrArg Host.Outcome.next (if_neg (not_not.mpr h))

end

end

section
variable {mask : BitVec 4} {mode : Fin 4} {lo : BitVec 32}

theorem execLanePower_of_discarded (h : s.portState p ≠ 9 ∨ mode.val = 0) :
    exec (.lanePower p mask mode lo) s = .next (s.bump (Cnt.TRK_CONTROL_DISCARDED p.code)) :=
  congrArg Host.Outcome.next (if_pos h)

theorem execLanePower_of_kept {m : RxPower} (hm : m = ⟨lo.toNat, mask.toNat, mode.val⟩) (h9 : s.portState p = 9) (h0 : mode.val ≠ 0) :
    exec (.lanePower p mask mode lo) s = .next (s.updPort p (fun x => { x with
      rxPower := if x.rxPower.contains m then x.rxPower else x.rxPower ++ [m] })) := by
  subst hm
  exact congrArg Host.Outcome.next (if_neg (by simp [h9, h0]))

end

section
variable {lanes : BitVec 4} {ns : Ns} {bad : Nat}
  (hb : bad = (lanes.toNat.land (s.rxMask p)).land (laneMask (fun n => !bitOf (s.port p).locked n ||
    decide (8 ≤ (mget (s.port p).badWords n).getD 0) || bitOf (s.port p).unused n)))
include hb

theorem execLaneDegrade_of_none (h : s.portState p ≠ 9 ∨ bad = 0) : exec (.laneDegrade p lanes ns) s = .next s := by
  subst hb
  exact congrArg Host.Outcome.next (if_pos h)

/-- The lanes that fail leave the stream, an IDLE spare may take their place, and the far end is told (R103). -/
theorem execLaneDegrade_of_bad (h9 : s.portState p = 9) (h0 : bad ≠ 0)
    (hu : u = ((s.at ns.val).bump (Cnt.TRK_DEGRADES p.code) (popCount bad 4)).updPort p (fun x => { x with
      degraded := x.degraded.lor bad, discarding := true, restoreAsk := 0, clean := x.clean.filter (fun e => !bitOf bad e.1) }))
    {spare new : Nat} (hs : spare = maskSub (laneMask (fun n => u.get (rxLane p n) == 3)) ((u.port p).degraded.lor (u.port p).unused))
    (hn : new = widthOf (((u.rxMask p).land (u.usable p)).lor spare)) :
    exec (.laneDegrade p lanes ns) s = .next
      (u.updPort p (fun x => ({ x with chosen := new }).queueMsg (u.txMask p) 0x13 [new, 0] 3)) := by
  subst hn hs hu hb
  exact congrArg Host.Outcome.next (if_neg (not_or.mpr ⟨not_not.mpr h9, h0⟩))

end

/-- STANDBY lanes that held lock cleanly for 8,000 rounds make a wider RX_CHOSEN, which the far end is asked for (R105). -/
theorem execLaneRestore_acts {good out new : Nat} (hg : good = laneMask (fun n => s.get (rxLane p n) == 2 && bitOf (s.port p).locked n &&
      decide (8000 ≤ (mget (s.port p).clean n).getD 0)))
    (ho : out = (maskSub 15 (s.get (Reg.TRK_PORT_CFG_LANES_EN p.code))).lor ((s.port p).unused.lor (s.port p).mismatched))
    (hn : new = widthOf (maskSub ((s.rxMask p).lor good) out)) :
    Acts (.laneRestore p) s (s.portState p = 9 ∧ (s.port p).discarding = false ∧ popCount (s.rxMask p) 4 < popCount new 4)
      (fun t => t = s.updPort p (fun x => ({ x with restoreAsk := new }).queueMsg (s.txMask p) 0x13 [new, 1] 3)) := by
  subst hn ho hg
  exact Acts.of_ite rfl (by simp) fun _ => rfl

end

/-- Settles O28: each lane message is told apart by the port's state and by what waits there already. -/
theorem laneCommandsAct : Obligations.LaneCommandsAct := by
  intro s u p
  refine ⟨fun q => ⟨execTapReq_of_unfit, fun v hq hv hs => execTapReq_of_repeat hq hv hs, fun r hq hn hpreset hstep => ?_⟩,
    fun seq lane st => ⟨execTapAck_of_tuning, execTapAck_of_otherState⟩,
    fun chosen ns => ⟨execWidthReq_of_notActive, fun m h hu hm => ?_, fun h hu => next_cases (execWidthReq_of_degrade h hu)⟩,
    fun mask mode lo m hm => ⟨execLanePower_of_discarded, execLanePower_of_kept hm⟩,
    fun lanes ns bad spare new hb => ⟨execLaneDegrade_of_none hb, fun h9 h0 hu hs hn => execLaneDegrade_of_bad hb h9 h0 hu hs hn⟩,
    fun good out new hg ho hn => execLaneRestore_acts hg ho hn⟩
  · refine execTapReq_of_new hq hn ?_
    by_cases h0 : q.preset.val = 0
    · exact (hstep h0).trans (if_neg (not_not.mpr h0)).symm
    · exact (hpreset h0).trans (if_pos h0).symm
  · obtain ⟨hstays, hwidens⟩ := next_cases (execWidthReq_of_restore h hu hm)
    exact ⟨fun hn => hstays (by simpa [Option.isSome_iff_ne_none] using hn), fun hc hw => hwidens (by simp [hc, hw])⟩

end Machine
end Sys2Proof
end

section
/-!
SUPPORT. The module of a trunk port (R107, R108, R110, R114).
-/
namespace Sys2Proof
namespace Machine

section
variable {s u : State} {p : PortId}

theorem execModulePresChange_of_same {present : Bool} (h : s.flag (Reg.MODULE_STATUS_PRESENT p.code) = present) :
    exec (.modulePresChange p present) s = .next s :=
  congrArg Host.Outcome.next (if_pos h)

/-- A module is managed where it is present and MEDIUM is 0 (R107). -/
theorem execModulePresChange_of_changed {present manage : Bool} (h : s.flag (Reg.MODULE_STATUS_PRESENT p.code) ≠ present)
    (hu : u = s.setFlag (Reg.MODULE_STATUS_PRESENT p.code) present)
    (hm : manage = true ↔ present = true ∧ u.get (Reg.TRK_PORT_CFG_MEDIUM p.code) = 0) :
    exec (.modulePresChange p present) s = .next ((u.manageModule p manage).notice 0x8023
      [p.code, if present then 1 else 0, if manage then 1 else 0]) := by
  subst hu
  obtain rfl : manage = (present && (s.setFlag (Reg.MODULE_STATUS_PRESENT p.code) present).get (Reg.TRK_PORT_CFG_MEDIUM p.code) == 0) :=
    Bool.eq_iff_iff.mpr (by simpa using hm)
  exact congrArg Host.Outcome.next (if_neg h)

theorem execModuleInt_acts (s : State) (p : PortId) :
    Acts (.moduleInt p) s (s.managed p = true) (fun t => t = s.emit (.module p 3)) :=
  Acts.of_ite rfl Iff.rfl fun _ => rfl

theorem execModuleReadyTimeout_acts (s : State) (p : PortId) :
    Acts (.moduleReadyTimeout p) s (s.managed p = true ∧ s.get (Reg.MODULE_STATUS_MSTATE p.code) = 1)
      (fun t => ∀ v, v = s.updPort p (fun x => { x with module := { x.module with lowPower := true, full := false, half := false } }) →
        t = ((v.bump (Cnt.TRK_MODULE_ERRORS p.code)).emit (.module p 4)).setModule p 3) := by
  refine Acts.of_ite rfl (by simp) ?_
  rintro _ v rfl
  rfl

theorem execModulePoll_acts (s : State) (p : PortId) :
    Acts (.modulePoll p) s (s.managed p = true ∧ s.get (Reg.MODULE_STATUS_MSTATE p.code) = 2) (fun t => t = s.emit (.module p 3)) :=
  Acts.of_ite rfl (by simp) fun _ => rfl

section
variable (hm : s.managed p = false)
include hm

theorem execModuleReply_of_unmanaged (r : ModuleReply) : exec (.moduleReply p r) s = .next s :=
  congrArg Host.Outcome.next (if_pos (by simp [hm]))

theorem execModuleTransactionTimeout_of_unmanaged : exec (.moduleTransactionTimeout p) s = .next s :=
  congrArg Host.Outcome.next (if_pos (by simp [hm]))

end

/-- What a reply of a managed module does once its failures are forgotten (R108). -/
def State.moduleReplied (u : State) (p : PortId) : ModuleReply → State
  | .ident full half power =>
    if u.get (Reg.MODULE_STATUS_MSTATE p.code) ≠ 1 then u
    else if (!full && !half) || decide (u.modulePowerMax p < power) then u.setModule p 3
    else (u.updPort p (fun x => { x with module := { x.module with full := full, half := half, lowPower := false } })).emit (.module p 2)
  | .ready => if u.get (Reg.MODULE_STATUS_MSTATE p.code) = 1 then u.setModule p 2 else u
  | .polled los fault data =>
    ((u.set (Reg.MODULE_STATUS_LOS p.code) los.toNat).set (Reg.MODULE_STATUS_TX_FAULT p.code) fault.toNat).updPort p
      (fun x => { x with module := { x.module with data := data } })

theorem execModuleReply_of_managed (hm : s.managed p = true)
    (hu : u = s.updPort p (fun x => { x with module := { x.module with fails := 0 } })) (r : ModuleReply) :
    exec (.moduleReply p r) s = .next (u.moduleReplied p r) := by
  subst hu
  refine congrArg Host.Outcome.next ((if_neg (by simp [hm])).trans ?_)
  cases r <;> rfl

section
variable {full half : Bool} {power : Nat}

/-- An identification is expected while the module initialises alone. -/
theorem State.moduleReplied_ident_unasked (h : u.get (Reg.MODULE_STATUS_MSTATE p.code) ≠ 1) :
    u.moduleReplied p (.ident full half power) = u :=
  if_pos h

section
variable (h : u.get (Reg.MODULE_STATUS_MSTATE p.code) = 1)
include h

/-- A module without an application for the port, or of too high a power, is UNSUITABLE (R108). -/
theorem State.moduleReplied_ident_unsuitable (hx : (full = false ∧ half = false) ∨ u.modulePowerMax p < power) :
    u.moduleReplied p (.ident full half power) = u.setModule p 3 :=
  (if_neg (not_not.mpr h)).trans (if_pos (by simpa using hx))

theorem State.moduleReplied_ident_suitable (hx : full = true ∨ half = true) (hp : power ≤ u.modulePowerMax p) :
    u.moduleReplied p (.ident full half power) = (u.updPort p (fun x => { x with module := { x.module with
      full := full, half := half, lowPower := false } })).emit (.module p 2) := by
  refine (if_neg (not_not.mpr h)).trans (if_neg ?_)
  rcases hx with rfl | rfl <;> simp [hp]

end

end

/-- The third transaction in a row that fails is a FAULT of the module (R108). -/
theorem execModuleTransactionTimeout_of_managed (hm : s.managed p = true) (hu : u = (s.bump (Cnt.TRK_MODULE_ERRORS p.code)).updPort p
      (fun x => { x with module := { x.module with fails := x.module.fails + 1 } })) :
    exec (.moduleTransactionTimeout p) s = .next (if 3 ≤ (u.port p).module.fails then u.setModule p 4 else u) := by
  subst hu
  exact congrArg Host.Outcome.next (if_neg (by simp [hm]))

end

/-- Settles O29: a module that is not managed is left alone, and of a managed one each reply and each limit is told apart by MSTATE. -/
theorem moduleCommandsAct : Obligations.ModuleCommandsAct := by
  intro s u p
  refine ⟨fun present => execModulePresChange_of_same, fun present manage => execModulePresChange_of_changed, execModuleInt_acts s p,
    fun r hm => execModuleReply_of_unmanaged hm r, fun hm hu => ?_, execModuleTransactionTimeout_of_unmanaged, fun hm hu => ?_,
    execModuleReadyTimeout_acts s p, execModulePoll_acts s p⟩
  · have hr := execModuleReply_of_managed hm hu
    refine ⟨fun full half power h => ?_, fun full half power h hx => ?_, fun full half power h hx hp => ?_, fun h => ?_, fun h => ?_,
      fun los fault data => hr _⟩
    · rw [hr, State.moduleReplied_ident_unasked h]
    · rw [hr, State.moduleReplied_ident_unsuitable h hx]
    · rw [hr, State.moduleReplied_ident_suitable h hx hp]
    · exact (hr .ready).trans (congrArg _ (if_pos h))
    · exact (hr .ready).trans (congrArg _ (if_neg h))
  · obtain ⟨hthird, hfewer⟩ := next_cases (execModuleTransactionTimeout_of_managed hm hu)
    exact ⟨hthird, fun hf => hfewer hf.not_ge⟩

end Machine
end Sys2Proof
end

section
/-!
SUPPORT. Round headers (R121, R122) and envelopes (R119).
-/
namespace Sys2Proof
namespace Machine

section
variable {s : State} {p : PortId} {ns : Ns} {h : Header}

theorem execRoundHeader_of_noStream (hs : s.streams p = false) : exec (.roundHeader p ns h) s = .next s :=
  congrArg Host.Outcome.next (if_pos (by simp [hs]))

section
variable (hs : s.streams p = true)
include hs

theorem execRoundHeader_of_bad (hb : headerCrcOk h = false ∨ h.version ≠ 1) :
    exec (.roundHeader p ns h) s = .next ((s.at ns.val).bump (Cnt.TOPO_HEADER_FAILS p.code)) :=
  congrArg Host.Outcome.next ((if_neg (by simp [hs])).trans (if_pos (by simpa using hb)))

theorem execRoundHeader_of_good (hc : headerCrcOk h = true) (hv : h.version = 1) :
    exec (.roundHeader p ns h) s = .next (((s.at ns.val).takeHeader p h).headerTiming p h) :=
  congrArg Host.Outcome.next ((if_neg (by simp [hs])).trans (if_neg (by simp [hc, hv])))

end

end

section
variable {s u v : State} {p : PortId} {e : Env} {m : EnvMarks} {ahead : Nat}

/-- A frame's last segment ends what is held of it, and any other is held as the newest of its frame (R119). -/
def PortSt.holdSegment (x : PortSt) (e : Env) : PortSt :=
  let y := x.dropPart e.srcPc.toNat e.srcBox.val e.seqStamp.toNat
  if e.last then y else { y with parts := ⟨e.srcPc.toNat, e.srcBox.val, e.seqStamp.toNat, e.seg.val⟩ :: y.parts }

theorem PortSt.holdSegment_of_last (x : PortSt) (h : e.last = true) :
    x.holdSegment e = x.dropPart e.srcPc.toNat e.srcBox.val e.seqStamp.toNat :=
  if_pos h

theorem PortSt.holdSegment_of_notLast (x : PortSt) (h : e.last = false) :
    x.holdSegment e = { x.dropPart e.srcPc.toNat e.srcBox.val e.seqStamp.toNat with
      parts := ⟨e.srcPc.toNat, e.srcBox.val, e.seqStamp.toNat, e.seg.val⟩ ::
        (x.dropPart e.srcPc.toNat e.srcBox.val e.seqStamp.toNat).parts } :=
  if_neg (Bool.eq_false_iff.mp h)

/-- Checks 5 to 7 of R119, of an envelope that has moved the counter accepted; `x` is the port as the envelope met it. -/
def State.takeEnvelope (v : State) (p : PortId) (e : Env) (x : PortSt) : State :=
  if !envFieldsOk e || !v.envAllowed p e then v.bump (Cnt.TOPO_BAD_HEADER p.code)
  else if e.hops.val = 0 then v.bump (Cnt.TOPO_HOPS_EXPIRED p.code)
  else if !x.continues e then v.bump (Cnt.TOPO_FRAME_BROKEN p.code)
  else v.updPort p (·.holdSegment e)

section
variable {x : PortSt}

theorem State.takeEnvelope_of_badHeader (h : envFieldsOk e = false ∨ v.envAllowed p e = false) :
    v.takeEnvelope p e x = v.bump (Cnt.TOPO_BAD_HEADER p.code) :=
  if_pos (by simpa using h)

variable (hf : envFieldsOk e = true) (ha : v.envAllowed p e = true)
include hf ha

theorem State.takeEnvelope_of_noHops (h : e.hops.val = 0) : v.takeEnvelope p e x = v.bump (Cnt.TOPO_HOPS_EXPIRED p.code) :=
  (if_neg (by simp [hf, ha])).trans (if_pos h)

variable (hh : e.hops.val ≠ 0)
include hh

theorem State.takeEnvelope_of_broken (h : x.continues e = false) : v.takeEnvelope p e x = v.bump (Cnt.TOPO_FRAME_BROKEN p.code) :=
  (if_neg (by simp [hf, ha])).trans ((if_neg hh).trans (if_pos (by simp [h])))

theorem State.takeEnvelope_of_continues (h : x.continues e = true) : v.takeEnvelope p e x = v.updPort p (·.holdSegment e) :=
  (if_neg (by simp [hf, ha])).trans ((if_neg hh).trans (if_neg (by simp [h])))

end

theorem execEnvelope_of_closed (h : s.streams p = false ∨ s.powered .cipher = false) : exec (.envelope p e m) s = .next s :=
  congrArg Host.Outcome.next (if_pos (by simpa using h))

/-- Checks 1 to 4 of R119, with the counter accepted moved by an envelope that passes them. -/
theorem execEnvelope_of_open (hs : s.streams p = true) (hc : s.powered .cipher = true) (hu : u = s.bump (Cnt.TOPO_ENV_IN p.code))
    (ha : ahead = (e.hopSeq.toNat + 65536 - (s.port p).rxCount % 65536) % 65536)
    (hv : v = u.updPort p (fun x => { x with
      rxCount := (s.port p).rxCount + ahead, tagRun := 0,
      keySince := if x.oldKey && m.tagOk && x.keySince == 0 then (s.port p).rxCount + ahead else x.keySince })) :
    exec (.envelope p e m) s = .next
      (if m.flagged then u.bump (Cnt.TOPO_FLAGGED p.code)
      else if !m.crcOk || e.payload.length != e.length.val then u.bump (Cnt.TOPO_CRC_FAILS p.code)
      else if ahead = 0 ∨ 32767 < ahead then u.bump (Cnt.TOPO_REPLAYED p.code)
      else if !(s.port p).tagPasses m ((s.port p).rxCount + ahead) then u.tagFails p
      else v.takeEnvelope p e (s.port p)) := by
  subst hv ha hu
  exact congrArg Host.Outcome.next (if_neg (by simp [hs, hc]))

end

/-- Settles O30: a header is told apart by its two checks, and an envelope by the first check of R119 that it fails. -/
theorem linkTrafficActs : Obligations.LinkTrafficActs := by
  intro s u v p
  refine ⟨fun ns h => execRoundHeader_of_noStream, fun ns h hs => ⟨execRoundHeader_of_bad hs, execRoundHeader_of_good hs⟩,
    fun e m => execEnvelope_of_closed, fun e m ahead hs hc hu ha => ?_⟩
  obtain ⟨hflagged, hcheck2⟩ := next_cases (execEnvelope_of_open hs hc hu ha rfl)
  refine ⟨hflagged, fun hf hb => ?_, fun hf hcrc hlen => ?_⟩
  · exact (next_cases (hcheck2 (by simp [hf]))).1 (by simpa using hb)
  obtain ⟨hreplayed, hcheck4⟩ := next_cases ((next_cases (hcheck2 (by simp [hf]))).2 (by simp [hcrc, hlen]))
  refine ⟨hreplayed, fun h0 hmax => ?_⟩
  obtain ⟨hfails, hpasses⟩ := next_cases (hcheck4 (by omega))
  refine ⟨fun ht => hfails (by simp [ht]), fun ht hv => ?_⟩
  rw [hpasses (by simp [ht]), ← hv]
  refine ⟨fun h => by rw [State.takeEnvelope_of_badHeader h], fun hok hall => ⟨fun h => ?_, fun hh h => ?_, fun hh h => ?_⟩⟩
  · rw [State.takeEnvelope_of_noHops hok hall h]
  · rw [State.takeEnvelope_of_broken hok hall hh h]
  · rw [State.takeEnvelope_of_continues hok hall hh h]
    exact ⟨_, rfl, fun x => ⟨x.holdSegment_of_last, x.holdSegment_of_notLast⟩⟩

end Machine
end Sys2Proof
end

section
/-!
SUPPORT. Breaks (R127, R128) and the root (R136, R137).
-/
namespace Sys2Proof
namespace Machine

section
variable (s : State) (p : PortId)

theorem execBreakObserved_acts :
    Acts (.breakObserved p) s ((s.active p = false ∨ s.miswired p = true) ∧ (p ≠ .c ∨ s.holdsBranch = true) ∧ (s.port p).observed = false)
      (fun t => t = (s.updPort p (fun x => { x with observed := true, activeRounds := 0 })).holdBreaks) :=
  Acts.of_ite rfl (by simp [State.observes, and_assoc]) fun _ => rfl

theorem execBreakWithdrawn_acts :
    Acts (.breakWithdrawn p) s ((s.port p).observed = true ∧ s.active p = true ∧ s.miswired p = false ∧ 8000 ≤ (s.port p).activeRounds)
      (fun t => t = (s.updPort p (fun x => { x with observed := false })).holdBreaks) :=
  Acts.of_ite rfl (by simp [and_assoc]) fun _ => rfl

end

section
variable (s : State)

/-- A configured root with an address takes ROOT, unless the entry it holds from another hub shows UP (R137). -/
theorem execHostLinkUp_does :
    Does .hostLinkUp s (fun t => ∃ take : Bool, t = { s with
        link := { s.link with hostUp := true, hostUpTold := true, hostUpSince := s.round, takeRoot := take } } ∧
      (take = true ↔ s.flag Reg.GROUP_CFG_ROOT_EN = true ∧ s.addrValid = true ∧ rootUp s.rootSeen = false)) :=
  Does.of_eq rfl ⟨_, rfl, by simp [and_assoc]⟩

/-- Only a configured root gives ROOT up with its host link (R136). -/
theorem execHostLinkLoss_does :
    Does .hostLinkLoss s (fun t => ∀ u : State,
      u = { s with link := { s.link with hostUp := false, hostUpTold := false, takeRoot := false } } →
      (s.flag Reg.GROUP_CFG_ROOT_EN = true → t = u.setRoot false) ∧ (s.flag Reg.GROUP_CFG_ROOT_EN = false → t = u)) := by
  refine Does.of_eq rfl ?_
  rintro u rfl
  exact ⟨fun h => if_pos h, fun h => if_neg (Bool.eq_false_iff.mp h)⟩

theorem execConfiguredRootTake_acts :
    Acts .configuredRootTake s (s.flag Reg.GROUP_CFG_ROOT_EN = true ∧ s.addrValid = true ∧ s.link.hostUp = true ∧
      s.link.hostUpSince + 8064 ≤ s.round) (fun t => t = s.setRoot true) :=
  Acts.of_ite rfl (by simp [and_assoc]) fun _ => rfl

theorem execStandbyTake_acts :
    Acts .standbyTake s (s.flag Reg.GROUP_CFG_STANDBY_EN = true ∧ 8 ≤ s.link.noUpRounds) (fun t => t = s.setRoot true) :=
  Acts.of_ite rfl (by simp) fun _ => rfl

theorem execStandbyYield_acts :
    Acts .standbyYield s (s.flag Reg.GROUP_CFG_STANDBY_EN = true ∧ s.flag Reg.HUB_ROLES_ROOT = true ∧ 8000 ≤ s.link.primaryRounds)
      (fun t => t = s.setRoot false) :=
  Acts.of_ite rfl (by simp [and_assoc]) fun _ => rfl

end

/-- Settles O31: each command is its test and its effect, and the host link's two have an effect in every state. -/
theorem breakAndRootCommandsAct : Obligations.BreakAndRootCommandsAct := fun s p =>
  ⟨execBreakObserved_acts s p, execBreakWithdrawn_acts s p, Does.of_eq rfl rfl, execHostLinkUp_does s, execHostLinkLoss_does s,
    execConfiguredRootTake_acts s, execStandbyTake_acts s, execStandbyYield_acts s⟩

end Machine
end Sys2Proof
end

section
/-!
SUPPORT. The switch's times: a frame's last segment (R119, R180), a slot (R163), a copy (R200) and a cell cycle (R178, R192, R193).
-/
namespace Sys2Proof
namespace Machine

section
variable {s : State} {p : PortId} {pc : Postcode} {box : BoxNo} {stamp : BitVec 32}

theorem execFrameLastTimeout_of_none (h : (s.port p).part pc.toNat box.val stamp.toNat = none) :
    exec (.frameLastTimeout p pc box stamp) s = .next s := by
  change execFrameLastTimeout p pc box stamp s = _
  simp only [execFrameLastTimeout, h]

/-- A frame held in part is broken, and its segments in the buffer are freed (R119, R180). -/
theorem execFrameLastTimeout_of_some {u : State} {f : PartFrame} (h : (s.port p).part pc.toNat box.val stamp.toNat = some f)
    (hu : u = (s.updPort p (fun x => x.dropPart pc.toNat box.val stamp.toNat)).bump (Cnt.TOPO_FRAME_BROKEN p.code)) :
    exec (.frameLastTimeout p pc box stamp) s = .next
      (forAll (mkeys u.sw.units (fun x => !x.whole && x.u.ingress.val == p.code && x.u.srcPc == pc && x.u.srcBox == box &&
        x.u.seqStamp == stamp)) u (fun s n => s.freeUnit n)) := by
  change execFrameLastTimeout p pc box stamp s = _
  simp only [execFrameLastTimeout, h, hu]

end

section
variable {s : State} {p : PortId} {slot : Nat} {r : Run}

/-- What is sent in a slot that the round still carries (R163). -/
def State.serveSlot (s : State) (p : PortId) (slot : Nat) : State :=
  match (s.dir p).sheet.runAt slot with
  | none => s.yieldSlot p
  | some r =>
    if s.runUsed p r && s.mayCarry p r.owner then
      let x := s.fillSlot p r.owner 8 263 8
      if x.2 = 0 then x.1.yieldSlot p else x.1
    else s.yieldSlot p

theorem execSlotStart_acts (s : State) (p : PortId) (slot : Fin 2880) :
    Acts (.slotStart p slot) s (s.active p = true ∧ s.powered .cipher = true ∧ (s.dir p).carried slot.val = true)
      (fun t => t = s.serveSlot p slot.val) :=
  Acts.of_ite_not rfl (by simp [and_assoc]) fun _ => rfl

theorem State.serveSlot_of_unowned (h : (s.dir p).sheet.runAt slot = none) : s.serveSlot p slot = s.yieldSlot p := by
  simp only [State.serveSlot, h]

section
variable (h : (s.dir p).sheet.runAt slot = some r)
include h

theorem State.serveSlot_of_barred (hb : s.runUsed p r = false ∨ s.mayCarry p r.owner = false) :
    s.serveSlot p slot = s.yieldSlot p := by
  simp only [State.serveSlot, h]
  exact if_neg (by simpa [imp_iff_not_or] using hb)

/-- The owner fills its slot, which yields where it sends nothing. -/
theorem State.serveSlot_of_owned (hu : s.runUsed p r = true) (hc : s.mayCarry p r.owner = true) {x : State} {n : Nat}
    (hx : s.fillSlot p r.owner 8 263 8 = (x, n)) :
    s.serveSlot p slot = if n = 0 then x.yieldSlot p else x := by
  simp only [State.serveSlot, h, hx]
  exact if_pos (by simp [hu, hc])

end

end

section
variable {s : State} {n : Nat}

theorem execMirrorCopyTimeout_of_noCopy (h : mget s.sw.copies n = none) : exec (.mirrorCopyTimeout n) s = .next s := by
  change execMirrorCopyTimeout n s = _
  simp only [execMirrorCopyTimeout, h]

theorem execMirrorCopyTimeout_acts {c : Copy} (h : mget s.sw.copies n = some c) :
    Acts (.mirrorCopyTimeout n) s (125000 ≤ postmarkDiff s.now c.made)
      (fun t => t = (s.dropCopy n).bump Cnt.SWITCH_MIRROR_DROPPED) := by
  refine Acts.of_ite ?_ decide_eq_true_iff.symm fun _ => rfl
  change execMirrorCopyTimeout n s = _
  simp only [execMirrorCopyTimeout, h]

end

section
variable {s : State}

theorem execCellCycle_of_off (h : ¬ (s.powered .core = true ∧ s.servicePowered = false)) : exec .cellCycle s = .next s :=
  congrArg Host.Outcome.next (if_pos (by simpa [imp_iff_not_or] using h))

/-- The cells that a cycle reads are chosen after its frees, its writes and its matching (R178, R192, R193). -/
theorem execCellCycle_of_on {v w u : State} (hc : s.powered .core = true) (hp : s.servicePowered = false) (hv : v = s.freeRead)
    (hw : w = ((({ v with sw := { v.sw with wrote := [] } } : State).writeCells.feedPort 8).feedPort 9))
    (hu : u = (((w.matchOnce true).matchOnce false).matchOnce false).matchCopy) :
    exec .cellCycle s = .next
      ((forAll (u.readers.take 5) u (fun s q => s.readPair q)).readCopy ((u.readers.take 5).map (·.egress))) := by
  change execCellCycle s = _
  rw [execCellCycle, if_neg (by simp [hc, hp]), hu, hw, hv]

end

/-- Settles O34: a limit acts where its object stands and its time has passed, a slot is its owner's or yields, and a cell cycle reads what
its matching leaves. -/
theorem switchTicksAct : Obligations.SwitchTicksAct := by
  intro s p
  refine ⟨fun pc box stamp => ⟨fun hpart => ?_, fun hpart => execFrameLastTimeout_of_none (not_not.mp hpart)⟩,
    fun slot => ⟨fun hg => ?_, (execSlotStart_acts s p slot).2⟩,
    fun n => ⟨execMirrorCopyTimeout_of_noCopy, fun c => execMirrorCopyTimeout_acts⟩,
    fun ⟨hc, hp⟩ => ⟨_, execCellCycle_of_on hc hp rfl rfl rfl, ?_⟩, execCellCycle_of_off⟩
  · obtain ⟨f, hf⟩ := Option.ne_none_iff_exists'.mp hpart
    refine Does.of_eq (execFrameLastTimeout_of_some hf rfl) ?_
    rintro u rfl
    rfl
  · obtain ⟨t, ht, rfl⟩ := (execSlotStart_acts s p slot).1 hg
    refine Does.of_eq ht ⟨State.serveSlot_of_unowned, fun r hr => ⟨State.serveSlot_of_barred hr, fun x n hu hc hx => ?_⟩⟩
    rw [State.serveSlot_of_owned hr hu hc hx]
    exact ⟨fun h0 => if_pos h0, fun h0 => if_neg h0⟩
  · intro v w u hv hw hu
    subst hu hw hv
    exact ⟨List.length_take_le .., rfl⟩

end Machine
end Sys2Proof
end

section
/-!
SUPPORT. TUNNEL_OPEN (R147, R171): the parameters, the box's state, the resources and the bandwidth, in this order.
-/
namespace Sys2Proof
namespace Machine

/-- None of the parameters of an open is refused (R171). -/
structure OpenParamsOk (box farBox dir : Nat) (x : Kind) (y : SvcClass) (raw : Allot) : Prop where
  box : boxNoOk box = true
  farBox : boxNoOk farBox = true
  direction : dir ≤ 1
  kind : x ≠ .mgmt
  fits : classFits x y = true
  allot : allotOk y raw = true

theorem OpenParamsOk.notRefused {b n d : Nat} {x : Kind} {y : SvcClass} {raw : Allot} (hp : OpenParamsOk b n d x y raw) :
    ¬ (!boxNoOk b || !boxNoOk n || decide (1 < d) || x == .mgmt || !classFits x y || !allotOk y raw) = true := by
  simp [hp.box, hp.farBox, hp.direction, hp.kind, hp.fits, hp.allot]

/-- What an open takes of its box, its bus, the flow records and the engines is there (R147). -/
structure State.OpenHasRoom (u : State) (b : Nat) (x : Kind) (y : SvcClass) (twoWay : Bool) (pc : Nat) : Prop where
  box : u.boxFits b x y = true
  bus : u.busFits b y twoWay = true
  flows : u.flowsFree true pc = true
  engine : (u.chooseEngine x).isSome = true

theorem State.OpenHasRoom.notRefused {u : State} {b pc : Nat} {x : Kind} {y : SvcClass} {twoWay : Bool}
    (hr : u.OpenHasRoom b x y twoWay pc) :
    ¬ (!u.boxFits b x y || !u.busFits b y twoWay || !u.flowsFree true pc || (u.chooseEngine x).isNone) = true := by
  simp [hr.box, hr.bus, hr.flows, Option.isSome_iff_ne_none.mp hr.engine]

section
variable {s u : State} {h : CmdHdr} {k : Nat} {box farBox min ceil : BitVec 16} {farPc : Postcode} {kind cls dir prio weight : Byte}
  (o : Opens (.tunnelOpen h box farPc farBox kind cls dir prio weight min ceil) s k u)
include o

theorem execTunnelOpen_of_unknown (hn : Kind.ofCode kind.toNat = none ∨ SvcClass.ofCode cls.toNat = none) :
    exec (.tunnelOpen h box farPc farBox kind cls dir prio weight min ceil) s = .next (u.finish k .badParam []) := by
  refine exec_of_opens rfl o rfl ?_
  rcases hn with hn | hn
  · simp only [hn]
  · cases hk : Kind.ofCode kind.toNat <;> simp only [hn]

variable {x : Kind} {y : SvcClass} (hx : Kind.ofCode kind.toNat = some x) (hy : SvcClass.ofCode cls.toNat = some y)
include hx hy

theorem execTunnelOpen_of_badParam (hb : boxNoOk box.toNat = false ∨ boxNoOk farBox.toNat = false ∨ 1 < dir.toNat ∨ x = .mgmt ∨
      classFits x y = false ∨ allotOk y ⟨min.toNat, ceil.toNat, weight.toNat, prio.toNat⟩ = false) :
    exec (.tunnelOpen h box farPc farBox kind cls dir prio weight min ceil) s = .next (u.finish k .badParam []) := by
  refine exec_of_opens rfl o rfl ?_
  simp only [hx, hy]
  exact if_pos (by simpa [or_assoc] using hb)

variable (hp : OpenParamsOk box.toNat farBox.toNat dir.toNat x y ⟨min.toNat, ceil.toNat, weight.toNat, prio.toNat⟩)
include hp

theorem execTunnelOpen_of_draining (hs : (u.box box.toNat).state = .draining) :
    exec (.tunnelOpen h box farPc farBox kind cls dir prio weight min ceil) s = .next (u.finish k .busyRetry []) := by
  refine exec_of_opens rfl o rfl ?_
  simp only [hx, hy]
  exact (if_neg hp.notRefused).trans (if_pos hs)

theorem execTunnelOpen_of_taken (hs : (u.box box.toNat).state = .opening ∨ (u.box box.toNat).state = .opened) :
    exec (.tunnelOpen h box farPc farBox kind cls dir prio weight min ceil) s = .next (u.finish k .notPermitted []) := by
  refine exec_of_opens rfl o rfl ?_
  simp only [hx, hy]
  refine (if_neg hp.notRefused).trans ?_
  rcases hs with hs | hs <;> exact (if_neg (by simp [hs])).trans (if_pos (by simp [hs]))

variable (hs : (u.box box.toNat).state = .free)
include hs

theorem execTunnelOpen_of_noResource (hr : u.boxFits box.toNat x y = false ∨ u.busFits box.toNat y (dir.toNat == 1) = false ∨
      u.flowsFree true farPc.toNat = false ∨ u.chooseEngine x = none) :
    exec (.tunnelOpen h box farPc farBox kind cls dir prio weight min ceil) s = .next (u.finish k .noResource []) := by
  refine exec_of_opens rfl o rfl ?_
  simp only [hx, hy]
  exact (if_neg hp.notRefused).trans ((if_neg (by simp [hs])).trans ((if_neg (by simp [hs])).trans
    (if_pos (by simpa [or_assoc] using hr))))

variable (hr : u.OpenHasRoom box.toNat x y (dir.toNat == 1) farPc.toNat)
  {a : Allot} (ha : a = allotHeld y ⟨min.toNat, ceil.toNat, weight.toNat, prio.toNat⟩)
include hr ha

theorem execTunnelOpen_of_noBandwidth (hf : u.openFits true y x box.toNat farPc.toNat farBox.toNat a = false) :
    exec (.tunnelOpen h box farPc farBox kind cls dir prio weight min ceil) s = .next (u.finish k .noBandwidth []) := by
  subst ha
  refine exec_of_opens rfl o rfl ?_
  simp only [hx, hy]
  exact (if_neg hp.notRefused).trans ((if_neg (by simp [hs])).trans ((if_neg (by simp [hs])).trans
    ((if_neg hr.notRefused).trans (if_pos (by simp [hf])))))

/-- The box is taken, the far hub is asked, and the command waits for its box to open (R147). -/
theorem execTunnelOpen_of_fits (hf : u.openFits true y x box.toNat farPc.toNat farBox.toNat a = true) {v : State}
    (hv : v = u.openBox box.toNat x y (dir.toNat == 1) true farPc.toNat farBox.toNat 0 a) :
    exec (.tunnelOpen h box farPc farBox kind cls dir prio weight min ceil) s = .next
      ((v.sendBox0 farPc.toNat (.openRequest x.code y.code dir.toNat box.toNat (v.box box.toNat).inc farBox.toNat
        a.min a.ceil a.weight a.priority)).1.updEntry k (fun e => { e with wait := box.toNat })) := by
  subst ha hv
  refine exec_of_opens_waits rfl o rfl ?_
  simp only [hx, hy]
  exact (if_neg hp.notRefused).trans ((if_neg (by simp [hs])).trans ((if_neg (by simp [hs])).trans
    ((if_neg hr.notRefused).trans (if_neg (by simp [hf])))))

end

end Machine
end Sys2Proof
end

section
/-!
SUPPORT. TUNNEL_CLOSE (R148, R170) and SET_FORWARD (R149, R171).
-/
namespace Sys2Proof
namespace Machine

theorem State.when_beq (s : State) (m n : Nat) (f : State → State) : s.when (m == n) f = if m = n then f s else s := by
  simp [State.when]

/-- None of the parameters of a close is refused (R171). -/
structure State.CloseParamsOk (u : State) (fwd b pc n i : Nat) : Prop where
  box : boxNoOk b = true
  flag : fwd ≤ 1
  address : fwd = 1 → u.forwardOk b pc n i = true

theorem State.CloseParamsOk.notRefused {u : State} {f b pc n i : Nat} (hp : u.CloseParamsOk f b pc n i) :
    ¬ (!boxNoOk b || decide (1 < f) || f == 1 && !u.forwardOk b pc n i) = true := by
  simpa [hp.box, hp.flag] using hp.address

section
variable {s u : State} {h : CmdHdr} {k : Nat} {box fwdBox fwdInc : BitVec 16} {fwd : Byte} {fwdPc : Postcode}

section
variable (o : Opens (.tunnelClose h box fwd fwdPc fwdBox fwdInc) s k u)
include o

theorem execTunnelClose_of_badParam (hb : boxNoOk box.toNat = false ∨ 1 < fwd.toNat ∨
      (fwd.toNat = 1 ∧ u.forwardOk box.toNat fwdPc.toNat fwdBox.toNat fwdInc.toNat = false)) :
    exec (.tunnelClose h box fwd fwdPc fwdBox fwdInc) s = .next (u.finish k .badParam []) :=
  exec_of_opens rfl o rfl (if_pos (by simpa [or_assoc] using hb))

variable (hp : u.CloseParamsOk fwd.toNat box.toNat fwdPc.toNat fwdBox.toNat fwdInc.toNat)
include hp

theorem execTunnelClose_of_free (hs : (u.box box.toNat).state = .free) :
    exec (.tunnelClose h box fwd fwdPc fwdBox fwdInc) s = .next (u.finish k .notPermitted []) := by
  refine exec_of_opens rfl o rfl ((if_neg hp.notRefused).trans ?_)
  simp only [hs]

/-- A close of an OPENING box withdraws its open, and frees it at once (R148). -/
theorem execTunnelClose_of_opening (hs : (u.box box.toNat).state = .opening) {v w x : State}
    (hw : w = u.finishWaiters 0x0200 box.toNat .notPermitted (u.withdrawnData box.toNat))
    (hx : x = if fwd.toNat = 1 then w.setForwardOf box.toNat fwdPc.toNat fwdBox.toNat fwdInc.toNat else w)
    (hv : v = (x.boxDrains box.toNat).sendClose box.toNat (if (u.box box.toNat).near then 0 else (u.box box.toNat).peerInc)) :
    exec (.tunnelClose h box fwd fwdPc fwdBox fwdInc) s = .next
      ((v.boxFrees box.toNat).finish k (if (v.box box.toNat).closeLost then .unreachable else .ok) []) := by
  subst hv hx hw
  refine exec_of_opens rfl o rfl ((if_neg hp.notRefused).trans ?_)
  simp only [hs, State.when_beq]

theorem execTunnelClose_of_opened (hs : (u.box box.toNat).state = .opened) {v : State}
    (hv : v = if fwd.toNat = 1 then u.setForwardOf box.toNat fwdPc.toNat fwdBox.toNat fwdInc.toNat else u) :
    exec (.tunnelClose h box fwd fwdPc fwdBox fwdInc) s = .next
      (((v.boxDrains box.toNat).sendClose box.toNat (u.box box.toNat).peerInc).updEntry k (fun e => { e with wait := box.toNat })) := by
  subst hv
  refine exec_of_opens_waits rfl o rfl ((if_neg hp.notRefused).trans ?_)
  simp only [hs, State.when_beq]

section
variable (hs : (u.box box.toNat).state = .draining)
include hs

theorem execTunnelClose_of_awaited (hw : u.waiter 0x0201 box.toNat ≠ none) :
    exec (.tunnelClose h box fwd fwdPc fwdBox fwdInc) s = .next (u.finish k .notPermitted []) := by
  refine exec_of_opens rfl o rfl ((if_neg hp.notRefused).trans ?_)
  simp only [hs]
  exact if_pos (Option.isSome_iff_ne_none.mpr hw)

/-- The first close of a box that drains already waits for the drain's end. -/
theorem execTunnelClose_of_unawaited (hw : u.waiter 0x0201 box.toNat = none) {v : State}
    (hv : v = if fwd.toNat = 1 then u.setForwardOf box.toNat fwdPc.toNat fwdBox.toNat fwdInc.toNat else u) :
    exec (.tunnelClose h box fwd fwdPc fwdBox fwdInc) s = .next (v.updEntry k (fun e => { e with wait := box.toNat })) := by
  subst hv
  refine exec_of_opens_waits rfl o rfl ((if_neg hp.notRefused).trans ?_)
  simp only [hs, State.when_beq]
  exact if_neg (by simp [hw])

end

end

section
variable (o : Opens (.setForward h box fwdPc fwdBox fwdInc) s k u)
include o

theorem execSetForward_of_badParam
    (hb : boxNoOk box.toNat = false ∨ u.forwardOk box.toNat fwdPc.toNat fwdBox.toNat fwdInc.toNat = false) :
    exec (.setForward h box fwdPc fwdBox fwdInc) s = .next (u.finish k .badParam []) :=
  exec_of_opens rfl o rfl (if_pos (by simpa using hb))

variable (hb : boxNoOk box.toNat = true) (hf : u.forwardOk box.toNat fwdPc.toNat fwdBox.toNat fwdInc.toNat = true)
include hb hf

theorem execSetForward_of_inUse (hs : (u.box box.toNat).state = .opened ∨ (u.box box.toNat).state = .draining) :
    exec (.setForward h box fwdPc fwdBox fwdInc) s = .next
      ((u.setForwardOf box.toNat fwdPc.toNat fwdBox.toNat fwdInc.toNat).finish k .ok []) :=
  exec_of_opens rfl o rfl ((if_neg (by simp [hb, hf])).trans (if_pos hs))

theorem execSetForward_of_unused (hs : (u.box box.toNat).state = .free ∨ (u.box box.toNat).state = .opening) :
    exec (.setForward h box fwdPc fwdBox fwdInc) s = .next (u.finish k .notPermitted []) := by
  refine exec_of_opens rfl o rfl ((if_neg (by simp [hb, hf])).trans (if_neg ?_))
  rcases hs with hs | hs <;> simp [hs]

end

end

end Machine
end Sys2Proof
end

section
/-!
SUPPORT. TUNNEL_ALLOT (R157, R171, R365): the parameters of a flow record, a pass record added, a pass record removed.
-/
namespace Sys2Proof
namespace Machine

/-- None of the parameters of a pass record is refused (R171). -/
structure PassParamsOk (y : SvcClass) (raw : Allot) (srcBox dstBox : Nat) : Prop where
  cls : y ≠ .registered
  allot : allotOk y raw = true
  src : srcBox ≤ 4095
  dst : dstBox ≤ 4095

theorem PassParamsOk.notRefused {y : SvcClass} {raw : Allot} {m n : Nat} (hp : PassParamsOk y raw m n) :
    ¬ (y = .registered ∨ (!allotOk y raw) = true ∨ 4095 < m ∨ 4095 < n) := by
  simp [hp.cls, hp.allot, hp.src, hp.dst]

/-- The pass record that TUNNEL_ALLOT adds: in force with nothing but a BULK weight, and with its parameters from the next boundary on
(R157, R365). -/
def passRecord (y : SvcClass) (raw : Allot) (srcPc srcBox dstPc dstBox : Nat) : Flow :=
  { Flow.fresh y 7 false 0 srcPc srcBox dstPc dstBox 0 ⟨0, 0, if y = .bulk then raw.weight else 0, 0⟩ with
    next := some (allotHeld y raw) }

section
variable {s u : State} {h : CmdHdr} {k : Nat} {op cls weight prio : Byte} {flow srcBox dstBox min ceil : BitVec 16} {srcPc dstPc : Postcode}
  (o : Opens (.tunnelAllot h op cls flow srcPc srcBox dstPc dstBox min ceil weight prio) s k u)
include o

theorem execTunnelAllot_of_badOp (hop : 2 < op.toNat) :
    exec (.tunnelAllot h op cls flow srcPc srcBox dstPc dstBox min ceil weight prio) s = .next (u.finish k .badParam []) :=
  exec_of_opens rfl o rfl ((if_neg (by omega)).trans (if_pos hop))

section
variable (hop : op.toNat = 0 ∨ op.toNat = 2)
include hop

theorem execTunnelAllot_of_noFlow (hf : mget u.tun.flows flow.toNat = none) :
    exec (.tunnelAllot h op cls flow srcPc srcBox dstPc dstBox min ceil weight prio) s = .next (u.finish k .badParam []) := by
  refine exec_of_opens rfl o rfl ((if_neg (by omega)).trans ((if_neg (by omega)).trans ?_))
  simp only [hf]

/-- An ISO flow's slots are set through ISO_ALLOT alone (R157), and an origin flow's record goes with its tunnel. -/
theorem execTunnelAllot_of_kept {f : Flow} (hf : mget u.tun.flows flow.toNat = some f)
    (hk : f.cls = .iso ∨ (op.toNat = 2 ∧ f.origin = true)) :
    exec (.tunnelAllot h op cls flow srcPc srcBox dstPc dstBox min ceil weight prio) s = .next (u.finish k .notPermitted []) := by
  refine exec_of_opens rfl o rfl ((if_neg (by omega)).trans ((if_neg (by omega)).trans ?_))
  simp only [hf]
  by_cases hc : f.cls = .iso
  · exact if_pos hc
  · obtain ⟨h2, ho⟩ := hk.resolve_left hc
    exact (if_neg hc).trans ((if_pos h2).trans (if_pos ho))

end

section
variable {f : Flow} (hf : mget u.tun.flows flow.toNat = some f) (hc : f.cls ≠ .iso)
include hf hc

theorem execTunnelAllot_of_removes (h2 : op.toNat = 2) (ho : f.origin = false) :
    exec (.tunnelAllot h op cls flow srcPc srcBox dstPc dstBox min ceil weight prio) s = .next
      ((u.updFlow flow.toNat (fun f => { f with removing := true })).finish k .ok (u.allotData flow.toNat)) := by
  refine exec_of_opens rfl o rfl ((if_neg (by omega)).trans ((if_neg (by omega)).trans ?_))
  simp only [hf]
  exact (if_neg hc).trans ((if_pos h2).trans (if_neg (by simp [ho])))

variable (h0 : op.toNat = 0)
include h0

theorem execTunnelAllot_of_badAllot (ha : allotOk f.cls ⟨min.toNat, ceil.toNat, weight.toNat, prio.toNat⟩ = false) :
    exec (.tunnelAllot h op cls flow srcPc srcBox dstPc dstBox min ceil weight prio) s = .next (u.finish k .badParam []) := by
  refine exec_of_opens rfl o rfl ((if_neg (by omega)).trans ((if_neg (by omega)).trans ?_))
  simp only [hf]
  exact (if_neg hc).trans ((if_neg (by omega)).trans (if_pos (by simp [ha])))

variable (ha : allotOk f.cls ⟨min.toNat, ceil.toNat, weight.toNat, prio.toNat⟩ = true) {v : State}
  (hv : v = u.updFlow flow.toNat (fun g => { g with next := some (allotHeld g.cls ⟨min.toNat, ceil.toNat, weight.toNat, prio.toNat⟩) }))
include ha hv

theorem execTunnelAllot_of_changeUnfit (hfit : v.allotFits flow.toNat = false) :
    exec (.tunnelAllot h op cls flow srcPc srcBox dstPc dstBox min ceil weight prio) s = .next (u.finish k .noBandwidth []) := by
  subst hv
  refine exec_of_opens rfl o rfl ((if_neg (by omega)).trans ((if_neg (by omega)).trans ?_))
  simp only [hf]
  exact (if_neg hc).trans ((if_neg (by omega)).trans ((if_neg (by simp [ha])).trans (if_neg (by simp [hfit]))))

theorem execTunnelAllot_of_changeFits (hfit : v.allotFits flow.toNat = true) :
    exec (.tunnelAllot h op cls flow srcPc srcBox dstPc dstBox min ceil weight prio) s = .next
      (v.finish k .ok (v.allotData flow.toNat)) := by
  subst hv
  refine exec_of_opens rfl o rfl ((if_neg (by omega)).trans ((if_neg (by omega)).trans ?_))
  simp only [hf]
  exact (if_neg hc).trans ((if_neg (by omega)).trans ((if_neg (by simp [ha])).trans (if_pos hfit)))

end

section
variable (h1 : op.toNat = 1)
include h1

theorem execTunnelAllot_of_unknownClass (hy : SvcClass.ofCode cls.toNat = none) :
    exec (.tunnelAllot h op cls flow srcPc srcBox dstPc dstBox min ceil weight prio) s = .next (u.finish k .badParam []) := by
  refine exec_of_opens rfl o rfl ((if_pos h1).trans ?_)
  simp only [hy]

variable {y : SvcClass} (hy : SvcClass.ofCode cls.toNat = some y)
include hy

theorem execTunnelAllot_of_badPass (hb : y = .registered ∨ allotOk y ⟨min.toNat, ceil.toNat, weight.toNat, prio.toNat⟩ = false ∨
      4095 < srcBox.toNat ∨ 4095 < dstBox.toNat) :
    exec (.tunnelAllot h op cls flow srcPc srcBox dstPc dstBox min ceil weight prio) s = .next (u.finish k .badParam []) := by
  refine exec_of_opens rfl o rfl ((if_pos h1).trans ?_)
  simp only [hy]
  exact if_pos (by simpa using hb)

variable (hp : PassParamsOk y ⟨min.toNat, ceil.toNat, weight.toNat, prio.toNat⟩ srcBox.toNat dstBox.toNat)
include hp

theorem execTunnelAllot_of_passKnown (hf : u.findFlow srcPc.toNat srcBox.toNat dstPc.toNat dstBox.toNat ≠ none) :
    exec (.tunnelAllot h op cls flow srcPc srcBox dstPc dstBox min ceil weight prio) s = .next (u.finish k .notPermitted []) := by
  refine exec_of_opens rfl o rfl ((if_pos h1).trans ?_)
  simp only [hy]
  exact (if_neg hp.notRefused).trans (if_pos (Option.isSome_iff_ne_none.mpr hf))

variable (hn : u.findFlow srcPc.toNat srcBox.toNat dstPc.toNat dstBox.toNat = none)
include hn

theorem execTunnelAllot_of_passNoIndex (hadd : u.addFlow (passRecord y ⟨min.toNat, ceil.toNat, weight.toNat, prio.toNat⟩ srcPc.toNat
      srcBox.toNat dstPc.toNat dstBox.toNat) = none) :
    exec (.tunnelAllot h op cls flow srcPc srcBox dstPc dstBox min ceil weight prio) s = .next (u.finish k .noResource []) := by
  refine exec_of_opens rfl o rfl ((if_pos h1).trans ?_)
  simp only [passRecord] at hadd
  simp only [hy, hadd]
  exact (if_neg hp.notRefused).trans (if_neg (by simp [hn]))

variable {j : Nat} {v : State} (hadd : u.addFlow (passRecord y ⟨min.toNat, ceil.toNat, weight.toNat, prio.toNat⟩ srcPc.toNat
  srcBox.toNat dstPc.toNat dstBox.toNat) = some (j, v))
include hadd

theorem execTunnelAllot_of_passUnfit (hfit : v.allotFits j = false) :
    exec (.tunnelAllot h op cls flow srcPc srcBox dstPc dstBox min ceil weight prio) s = .next (u.finish k .noBandwidth []) := by
  refine exec_of_opens rfl o rfl ((if_pos h1).trans ?_)
  simp only [passRecord] at hadd
  simp only [hy, hadd]
  exact (if_neg hp.notRefused).trans ((if_neg (by simp [hn])).trans (if_neg (by simp [hfit])))

/-- A pass record takes a free index, and stays where it fits (R151, R158). -/
theorem execTunnelAllot_of_passFits (hfit : v.allotFits j = true) :
    exec (.tunnelAllot h op cls flow srcPc srcBox dstPc dstBox min ceil weight prio) s = .next (v.finish k .ok (v.allotData j)) := by
  refine exec_of_opens rfl o rfl ((if_pos h1).trans ?_)
  simp only [passRecord] at hadd
  simp only [hy, hadd]
  exact (if_neg hp.notRefused).trans ((if_neg (by simp [hn])).trans (if_pos hfit))

end

end

end Machine
end Sys2Proof
end

section
/-!
SUPPORT. TUNNEL_QUERY (R152), MIRROR_SET (R199), and the tunnel opcodes together.
-/
namespace Sys2Proof
namespace Machine

/-- The flow record that SELECT and INDEX of a query name (R152): by its index, or as the origin flow of a box. -/
def State.queriedFlow (u : State) (select index : Nat) : Option Nat :=
  if select = 1 then (u.box index).flow else if select = 0 then some index else none

theorem State.queriedFlow_eq {u : State} {select : Byte} {index : BitVec 16} {flow : Option Nat}
    (h0 : select.toNat = 0 → flow = some index.toNat) (h1 : select.toNat = 1 → flow = (u.box index.toNat).flow)
    (h2 : 1 < select.toNat → flow = none) :
    u.queriedFlow select.toNat index.toNat = flow := by
  unfold State.queriedFlow
  split_ifs with hone hzero
  · exact (h1 hone).symm
  · exact (h0 hzero).symm
  · exact (h2 (by omega)).symm

section
variable {s u : State} {h : CmdHdr} {k : Nat}

section
variable {select : Byte} {index : BitVec 16} (o : Opens (.tunnelQuery h select index) s k u)
include o

theorem execTunnelQuery_of_noFlow (hn : u.queriedFlow select.toNat index.toNat = none ∨
      ∃ i, u.queriedFlow select.toNat index.toNat = some i ∧ mget u.tun.flows i = none) :
    exec (.tunnelQuery h select index) s = .next (u.finish k .badParam []) := by
  simp only [State.queriedFlow] at hn
  refine exec_of_opens rfl o rfl ?_
  rcases hn with hn | ⟨i, hi, hn⟩
  · simp only [hn]
  · simp only [hi, hn]

theorem execTunnelQuery_of_flow {i : Nat} {f : Flow} (hi : u.queriedFlow select.toNat index.toNat = some i)
    (hf : mget u.tun.flows i = some f) :
    exec (.tunnelQuery h select index) s = .next ((u.updFlow i (fun f => { f with dropped := 0 })).finish k .ok (u.flowBytes i f)) := by
  simp only [State.queriedFlow] at hi
  refine exec_of_opens rfl o rfl ?_
  simp only [hi, hf]

end

section
variable {session en srcKind destPort destSub : Byte} {src snap mirrorCells : BitVec 16}
  (o : Opens (.mirrorSet h session en srcKind destPort src snap destSub mirrorCells) s k u)
include o

theorem execMirrorSet_of_badParam (hm : mirrorOk session.toNat en.toNat srcKind.toNat destPort.toNat src.toNat snap.toNat
      destSub.toNat mirrorCells.toNat = false) :
    exec (.mirrorSet h session en srcKind destPort src snap destSub mirrorCells) s = .next (u.finish k .badParam []) :=
  exec_of_opens rfl o rfl (if_pos (by simp [hm]))

variable (hm : mirrorOk session.toNat en.toNat srcKind.toNat destPort.toNat src.toNat snap.toNat destSub.toNat mirrorCells.toNat = true)
include hm

theorem execMirrorSet_of_notPermitted (hp : u.mirrorPermit = false) :
    exec (.mirrorSet h session en srcKind destPort src snap destSub mirrorCells) s = .next (u.finish k .notPermitted []) :=
  exec_of_opens rfl o rfl ((if_neg (by simp [hm])).trans (if_pos (by simp [hp])))

/-- The session's two words wait for the next boundary, whose round the receipt names (R199). -/
theorem execMirrorSet_of_permitted (hp : u.mirrorPermit = true) :
    exec (.mirrorSet h session en srcKind destPort src snap destSub mirrorCells) s = .next
      (({ u with sw := { u.sw with mirror := u.sw.mirror ++ [⟨session.toNat,
          BitVec.ofNat 32 (en.toNat * 2 ^ 31 + srcKind.toNat * 2 ^ 29 + src.toNat * 2 ^ 16 + snap.toNat),
          BitVec.ofNat 32 (mirrorCells.toNat * 2 ^ 16 + destSub.toNat * 2 ^ 8 + destPort.toNat)⟩] } } : State).finish k .ok
        (leBytes 8 (u.round + 1))) :=
  exec_of_opens rfl o rfl ((if_neg (by simp [hm])).trans (if_neg (by simp [hp])))

end

end

/-- Settles O13: each opcode refuses in the order of its checks, and has its effect where none of them refuses. -/
theorem tunnelCommandsComplete : Obligations.TunnelCommandsComplete := by
  intro s u h k
  refine ⟨?_, ?_, ?_, ?_, ?_, ?_⟩
  · rintro box farBox min ceil farPc kind cls dir prio weight _ rfl o
    refine ⟨execTunnelOpen_of_unknown o, fun x y a hx hy ha => ⟨execTunnelOpen_of_badParam o hx hy, fun hb hf hd hm hc hl => ?_⟩⟩
    have hp : OpenParamsOk box.toNat farBox.toNat dir.toNat x y _ := ⟨hb, hf, hd, hm, hc, hl⟩
    refine ⟨execTunnelOpen_of_draining o hx hy hp, execTunnelOpen_of_taken o hx hy hp, fun hs =>
      ⟨execTunnelOpen_of_noResource o hx hy hp hs, fun hbox hbus hflows hengine => ?_⟩⟩
    have hr : u.OpenHasRoom box.toNat x y (dir.toNat == 1) farPc.toNat := ⟨hbox, hbus, hflows, hengine⟩
    exact ⟨execTunnelOpen_of_noBandwidth o hx hy hp hs hr ha, fun hfit _ => execTunnelOpen_of_fits o hx hy hp hs hr ha hfit⟩
  · rintro box fwdBox fwdInc fwd fwdPc _ v rfl o
    refine ⟨execTunnelClose_of_badParam o, fun hb hf ha => ?_⟩
    have hp : u.CloseParamsOk fwd.toNat box.toNat fwdPc.toNat fwdBox.toNat fwdInc.toNat := ⟨hb, hf, ha⟩
    exact ⟨execTunnelClose_of_free o hp, fun hs => execTunnelClose_of_opened o hp hs,
      fun hs _ hw hv => execTunnelClose_of_opening o hp hs hw rfl (hv _ rfl),
      fun hs => ⟨execTunnelClose_of_awaited o hp hs, fun hw => execTunnelClose_of_unawaited o hp hs hw⟩⟩
  · rintro box fwdBox fwdInc fwdPc _ rfl o
    exact ⟨execSetForward_of_badParam o, fun hb hf => ⟨execSetForward_of_inUse o hb hf, execSetForward_of_unused o hb hf⟩⟩
  · rintro op cls weight prio flow srcBox dstBox min ceil srcPc dstPc _ _ rfl o rfl
    refine ⟨execTunnelAllot_of_badOp o, fun hop => ⟨execTunnelAllot_of_noFlow o hop, fun f hf =>
      ⟨execTunnelAllot_of_kept o hop hf, ?_, ?_⟩⟩,
      fun h1 => ⟨execTunnelAllot_of_unknownClass o h1, fun y hy => ⟨execTunnelAllot_of_badPass o h1 hy, fun hr ha hm hn => ?_⟩⟩⟩
    · exact execTunnelAllot_of_removes o hf
    · exact fun hc h0 => ⟨execTunnelAllot_of_badAllot o hf hc h0, fun ha _ hv =>
        ⟨execTunnelAllot_of_changeUnfit o hf hc h0 ha hv, execTunnelAllot_of_changeFits o hf hc h0 ha hv⟩⟩
    · have hp : PassParamsOk y _ srcBox.toNat dstBox.toNat := ⟨hr, ha, hm, hn⟩
      refine ⟨execTunnelAllot_of_passKnown o h1 hy hp, ?_⟩
      rintro hnew added rfl
      exact ⟨execTunnelAllot_of_passNoIndex o h1 hy hp hnew, fun _ _ hadd =>
        ⟨execTunnelAllot_of_passUnfit o h1 hy hp hnew hadd, execTunnelAllot_of_passFits o h1 hy hp hnew hadd⟩⟩
  · intro select index flow o h0 h1 h2
    obtain rfl := State.queriedFlow_eq h0 h1 h2
    exact ⟨execTunnelQuery_of_noFlow o, fun _ _ => execTunnelQuery_of_flow o⟩
  · rintro session en srcKind destPort destSub src snap mirrorCells _ rfl o
    exact ⟨execMirrorSet_of_badParam o, fun hm => ⟨execMirrorSet_of_permitted o hm, execMirrorSet_of_notPermitted o hm⟩⟩

end Machine
end Sys2Proof
end

section
/-!
SUPPORT. The items that come to an engine's contexts (R210, R227).
-/
namespace Sys2Proof
namespace Machine

variable {s u : State}

section
variable {b estimate : Nat} {fromP9 : Bool}

theorem State.itemArrives_of_noContext (hb : b ≠ 0) (hc : s.contextOf b = none) :
    s.itemArrives b fromP9 estimate = (if fromP9 then s.bump Cnt.ENGINE_NO_CONTEXT else s, false) := by
  refine (if_neg hb).trans ?_
  simp only [hc]

/-- The item stands last in the queue of its context. -/
def State.queueItem (s : State) (c : Nat) (x : Context) (estimate : Nat) : State :=
  s.setContext c { x with items := x.items ++ [⟨s.round, s.rt.ns, estimate, 0, false⟩], arrived := x.arrived + estimate }

variable {c : Nat} {x : Context} (hb : b ≠ 0) (hc : s.contextOf b = some (c, x))
include hb hc

theorem State.itemArrives_of_refused (h : 32 ≤ x.items.length ∨ s.engineRuns (c / 256) = false) :
    s.itemArrives b fromP9 estimate = (s.bump (Cnt.ENGINE_INBOX_FULL (c / 256)), false) := by
  refine (if_neg hb).trans ?_
  simp only [hc]
  exact if_pos (by simpa using h)

theorem State.itemArrives_of_taken (hl : x.items.length < 32) (hr : s.engineRuns (c / 256) = true) :
    s.itemArrives b fromP9 estimate = (s.queueItem c x estimate, true) := by
  refine (if_neg hb).trans ?_
  simp only [hc]
  exact if_neg (by simp [hr, hl])

end

section
variable {b d : Nat}

/-- The display stream that names a box. -/
def State.displayOf (u : State) (b : Nat) : Option Nat := (List.range 6).find? (fun d => u.get (Reg.DP_CFG_BOX d) == b)

/-- What an item asks of the hub beyond its place in the queue (R277, R278, R282). -/
def State.itemAsks (u : State) (b : Nat) (item : RelayItem) : State :=
  match item with
  | .other => u
  | .nvme index op lba count command => u.farNvme index.val b op.toNat lba count command
  | .unplug => (match u.displayOf b with | some d => (if 4 ≤ d then u.inputUnplug d else u) | none => u)
  | .irqHpd => (match u.displayOf b with | some d => (if 4 ≤ d then u.inputPulse d else u) | none => u)
  | .aux => (match u.displayOf b with | some d => (if d < 4 then u.emit (.bus 5 d 6 []) else u) | none => u)

theorem State.itemAsks_of_noDisplay (hd : u.displayOf b = none) :
    u.itemAsks b .unplug = u ∧ u.itemAsks b .irqHpd = u ∧ u.itemAsks b .aux = u := by
  simp only [State.itemAsks, hd, and_self]

/-- An output issues the AUX request that the far input forwards; the far output's events are for an input (R277, R278). -/
theorem State.itemAsks_of_output (hd : u.displayOf b = some d) (h : d < 4) :
    u.itemAsks b .unplug = u ∧ u.itemAsks b .irqHpd = u ∧ u.itemAsks b .aux = u.emit (.bus 5 d 6 []) := by
  simp only [State.itemAsks, hd, if_neg h.not_ge, if_pos h, and_self]

theorem State.itemAsks_of_input (hd : u.displayOf b = some d) (h : 4 ≤ d) :
    u.itemAsks b .unplug = u.inputUnplug d ∧ u.itemAsks b .irqHpd = u.inputPulse d ∧ u.itemAsks b .aux = u := by
  simp only [State.itemAsks, hd, if_pos h, if_neg h.not_gt, and_self]

end

section
variable {box : BoxNo} {fromP9 : Bool} {estimate : Nat} {item : RelayItem}

theorem execItemArrival_of_mgmt (hb : box.val = 0) : exec (.itemArrival box fromP9 estimate item) s = .next s := by
  have hm : s.itemArrives box.val fromP9 estimate = (s, false) := if_pos hb
  refine congrArg Host.Outcome.next ?_
  simp only [hm, Bool.not_false, if_true, ite_self]

theorem execItemArrival_of_noContext (hb : box.val ≠ 0) (hc : s.contextOf box.val = none) :
    exec (.itemArrival box fromP9 estimate item) s = .next (if fromP9 then s.bump Cnt.ENGINE_NO_CONTEXT else s) := by
  have ha := State.itemArrives_of_noContext (fromP9 := fromP9) (estimate := estimate) hb hc
  refine congrArg Host.Outcome.next ((if_neg (by simp [hc])).trans ?_)
  simp only [ha, Bool.not_false, if_true]

variable {c : Nat} {x : Context}

theorem execItemArrival_of_otherKind (hc : s.contextOf box.val = some (c, x)) (hf : itemFits item x.kind = false) :
    exec (.itemArrival box fromP9 estimate item) s = .next s :=
  congrArg Host.Outcome.next (if_pos (by simp [hc, hf]))

variable (hb : box.val ≠ 0) (hc : s.contextOf box.val = some (c, x)) (hf : itemFits item x.kind = true)
include hb hc hf

theorem execItemArrival_of_refused (h : 32 ≤ x.items.length ∨ s.engineRuns (c / 256) = false) :
    exec (.itemArrival box fromP9 estimate item) s = .next (s.bump (Cnt.ENGINE_INBOX_FULL (c / 256))) := by
  have ha := State.itemArrives_of_refused (fromP9 := fromP9) (estimate := estimate) hb hc h
  refine congrArg Host.Outcome.next ((if_neg (by simp [hc, hf])).trans ?_)
  simp only [ha, Bool.not_false, if_true]

theorem execItemArrival_of_taken (hl : x.items.length < 32) (hr : s.engineRuns (c / 256) = true) (hu : u = s.queueItem c x estimate)
    {t : State} (ht : u.itemAsks box.val item = t) : exec (.itemArrival box fromP9 estimate item) s = .next t := by
  have ha := State.itemArrives_of_taken (fromP9 := fromP9) (estimate := estimate) hb hc hl hr
  subst hu ht
  refine congrArg Host.Outcome.next ((if_neg (by simp [hc, hf])).trans ?_)
  simp only [ha, Bool.not_true, Bool.false_eq_true, if_false]
  rfl

end

end Machine
end Sys2Proof
end

section
/-!
SUPPORT. The slices of an engine and the items it gives up (R217, R218), and the engines' and the postmaster's faults (R221, R483, R487).
-/
namespace Sys2Proof
namespace Machine

section
variable {s : State} {n c written : Nat} {finished : Bool}

/-- A slice in progress ends (R217, R218). -/
def State.finishSlice (s : State) (n : Nat) (finished : Bool) (written : Nat) : State :=
  match (s.engine n).serving with
  | none => s.startSlice n ((s.engine n).slice + 1)
  | some c =>
    let full := decide (16384 < (s.engine n).outbox + written)
    let u := match mget s.eng.contexts (256 * n + c) with
      | some y => s.setContext (256 * n + c) (y.endSlice (finished && !full))
      | none => s
    if full then (u.bump (Cnt.ENGINE_P9_WAITS n)).offerSlice n (some c)
    else (u.updEngine n (fun x => { x with outbox := x.outbox + written, worked := x.worked + 1 })).startSlice n ((s.engine n).slice + 1)

theorem State.finishSlice_of_idle (hs : (s.engine n).serving = none) :
    s.finishSlice n finished written = s.startSlice n ((s.engine n).slice + 1) := by
  simp only [State.finishSlice, hs]

variable {y : Context} (hs : (s.engine n).serving = some c) (hy : mget s.eng.contexts (256 * n + c) = some y)
include hs hy

/-- An item that finds its outbox full is not finished, and yields the slice at once (R218). -/
theorem State.finishSlice_of_full (hw : 16384 < (s.engine n).outbox + written) :
    s.finishSlice n finished written =
      ((s.setContext (256 * n + c) (y.endSlice false)).bump (Cnt.ENGINE_P9_WAITS n)).offerSlice n (some c) := by
  simp only [State.finishSlice, hs, hy, hw, decide_true, Bool.not_true, Bool.and_false, if_true]

theorem State.finishSlice_of_written (hw : (s.engine n).outbox + written ≤ 16384) :
    s.finishSlice n finished written =
      ((s.setContext (256 * n + c) (y.endSlice finished)).updEngine n (fun x => { x with
        outbox := x.outbox + written, worked := x.worked + 1 })).startSlice n ((s.engine n).slice + 1) := by
  simp only [State.finishSlice, hs, hy, hw.not_gt, decide_false, Bool.not_false, Bool.and_true, Bool.false_eq_true, if_false]

end

theorem execSliceEnd_acts (s : State) (e : Fin 16) (finished : Bool) (written : Nat) :
    Acts (.sliceEnd e finished written) s (s.powered .core = true ∧ s.engineRuns e.val = true ∧ (s.engine e.val).slice < 500)
      (fun t => t = s.finishSlice e.val finished written) :=
  Acts.of_ite_not rfl (by simp [and_assoc]) fun _ => rfl

section
variable {s : State} {c : Fin 4096}

theorem execItemAbandoned_of_noContext (hc : mget s.eng.contexts c.val = none) : exec (.itemAbandoned c) s = .next s := by
  refine congrArg Host.Outcome.next ?_
  simp only [hc]

theorem execItemAbandoned_acts {x : Context} (hc : mget s.eng.contexts c.val = some x) :
    Acts (.itemAbandoned c) s (∃ i ∈ x.items, 80 ≤ i.crossed) (fun t =>
      t = (s.setContext c.val { x with items := x.items.filter (fun i => !decide (80 ≤ i.crossed)) }).abandon c.val
        (x.items.filter (fun i => decide (80 ≤ i.crossed))).length) := by
  refine Acts.of_ite_not (test := x.items.filter (fun i => decide (80 ≤ i.crossed)) = []) (congrArg Host.Outcome.next ?_) (by simp)
    fun _ => rfl
  simp only [hc]

end

section
variable (s : State)

theorem execEngineFault_acts (e : Fin 16) : Acts (.engineFault e) s (s.powered .core = true) (fun t => t = s.engineFaults e.val) :=
  Acts.of_ite rfl Iff.rfl fun _ => rfl

theorem execEngineReturn_acts (e : Fin 16) :
    Acts (.engineReturn e) s (s.powered .core = true ∧ s.boot.reloading = false ∧ bitOf (s.get Reg.ENG_RUN_DISABLED) e.val = false)
      (fun t => t = s.set ⟨Reg.ENG_RUN, e.val, 1⟩ 1) :=
  Acts.of_ite rfl (by simp [and_assoc]) fun _ => rfl

/-- A mismatch in the round of a restart under way names the fault alone (R487). -/
theorem execLockstepMismatch_acts :
    Acts .lockstepMismatch s (s.postmasterRuns = true) (fun t => ∀ u, u = s.bump Cnt.ENGINE_LOCKSTEP_FAULTS →
      (u.restarting = true → t = (u.faultSeen 1 []).setCause 0 17) ∧ (u.restarting = false → t = u.postmasterFault 1)) := by
  refine Acts.of_ite_not rfl (by simp) ?_
  rintro _ u rfl
  exact ⟨fun hr => if_pos hr, fun hr => if_neg (Bool.eq_false_iff.mp hr)⟩

theorem execPostmasterWatchdog_acts :
    Acts .postmasterWatchdog s (s.postmasterRuns = true ∧ s.restarting = false)
      (fun t => t = (s.bump Cnt.HUB_WATCHDOG_TRIPS).postmasterFault 2) :=
  Acts.of_ite rfl (by simp) fun _ => rfl

end

/-- Settles O35: an item that fits its context is queued and then asked for what it stands for, a slice or an old item ends within its limits,
and a fault acts where its engine or the postmaster runs. -/
theorem engineCommandsAct : Obligations.EngineCommandsAct := by
  intro s u e
  refine ⟨fun box fromP9 estimate item => ⟨execItemArrival_of_mgmt, execItemArrival_of_noContext, fun c x hb hc =>
      ⟨execItemArrival_of_otherKind hc, execItemArrival_of_refused hb hc, fun hl hr hu => ?_⟩⟩,
    fun finished written => ⟨fun hg => ?_, (execSliceEnd_acts s e finished written).2⟩,
    fun c => ⟨execItemAbandoned_of_noContext, fun x hc => ⟨fun hi => ?_, (execItemAbandoned_acts hc).2⟩⟩,
    execEngineFault_acts s e, execEngineReturn_acts s e, ⟨fun hr => ?_, (execLockstepMismatch_acts s).2⟩, execPostmasterWatchdog_acts s⟩
  · have taken (i : RelayItem) (hf : itemFits i x.kind = true) (t : State) (ht : u.itemAsks box.val i = t) :
        exec (.itemArrival box fromP9 estimate i) s = .next t :=
      execItemArrival_of_taken hb hc hf hl hr hu ht
    have shown (hk : x.kind = .display) : (x.kind == .display) = true := beq_iff_eq.mpr hk
    refine ⟨taken .other rfl _ rfl, fun i op l n k hk => taken (.nvme i op l n k) (beq_iff_eq.mpr hk) _ rfl, fun hd hk => ?_, fun d hk hd => ?_⟩
    · obtain ⟨hunplug, hirq, haux⟩ := State.itemAsks_of_noDisplay hd
      exact ⟨taken .unplug (shown hk) _ hunplug, taken .irqHpd (shown hk) _ hirq, taken .aux (shown hk) _ haux⟩
    · refine ⟨fun h => ?_, fun h => ?_, fun h => ?_, fun h => ?_⟩
      · obtain ⟨hunplug, hirq, -⟩ := State.itemAsks_of_output hd h
        exact ⟨taken .unplug (shown hk) _ hunplug, taken .irqHpd (shown hk) _ hirq⟩
      · exact taken .aux (shown hk) _ (State.itemAsks_of_input hd h).2.2
      · obtain ⟨hunplug, hirq, -⟩ := State.itemAsks_of_input hd h
        exact ⟨taken .unplug (shown hk) _ hunplug, taken .irqHpd (shown hk) _ hirq⟩
      · exact taken .aux (shown hk) _ (State.itemAsks_of_output hd h).2.2
  · obtain ⟨t, ht, rfl⟩ := (execSliceEnd_acts s e finished written).1 hg
    exact Does.of_eq ht ⟨State.finishSlice_of_idle, fun _ _ hs hy => ⟨State.finishSlice_of_full hs hy, State.finishSlice_of_written hs hy⟩⟩
  · obtain ⟨t, ht, rfl⟩ := (execItemAbandoned_acts hc).1 hi
    exact Does.of_eq ht fun _ hn => hn ▸ rfl
  · obtain ⟨t, ht, hp⟩ := (execLockstepMismatch_acts s).1 hr
    exact Does.of_eq ht (hp u)

end Machine
end Sys2Proof
end

section
/-!
SUPPORT. The values the bridge holds, the answers it awaits, and what it reads ahead (R225, R327, R328, R329).
-/
namespace Sys2Proof
namespace Machine

variable {s u : State} {f : Fetch}

/-- The fetch is answered, or is no longer waited for. -/
def State.dropFetch (s : State) (f : Fetch) : State :=
  s.setBridge { s.bridge with fetches := s.bridge.fetches.filter (fun x => x.tag != f.tag) }

section
variable {msg : List Byte} {m : ModbusMsg} {op : Byte}

theorem parseModbus_filter_none (h : ∀ x, parseModbus msg = some x → x.op ≠ op) : (parseModbus msg).filter (fun m => m.op == op) = none := by
  simpa [Option.filter_eq_none_iff] using h

theorem parseModbus_filter_some (hm : parseModbus msg = some m) (ho : m.op = op) :
    (parseModbus msg).filter (fun m => m.op == op) = some m := by
  simp [hm, ho]

/-- The fetch that a message of a box answers (R328). -/
def State.fetchAnswered (s : State) (b : Nat) (m : ModbusMsg) : Option Fetch :=
  s.bridge.fetches.find? (fun f => f.tag == m.tag.toNat && s.boxOfBind f.piece.bind == some b)

/-- What is held of an answer: its values, or an exception code of the Modbus protocol (R328). -/
def answerHolds (m : ModbusMsg) : Held :=
  if m.status.toNat = 0 then .values m.data else .exception (if m.status.toNat ≤ 0x0B then m.status.toNat else 0x0B)

theorem eq_answerHolds {h : Held} (h0 : m.status.toNat = 0 → h = .values m.data)
    (h1 : m.status.toNat ≠ 0 → h = .exception (if m.status.toNat ≤ 0x0B then m.status.toNat else 0x0B)) : h = answerHolds m := by
  by_cases hz : m.status.toNat = 0
  · exact (h0 hz).trans (if_pos hz).symm
  · exact (h1 hz).trans (if_neg hz).symm

end

section
variable {box : BoxNo} {msg : List Byte} {m : ModbusMsg}

theorem execReadAnswer_of_otherOp (h : ∀ x, parseModbus msg = some x → x.op ≠ 0x12) :
    exec (.readAnswer box msg) s = .next (s.bump Cnt.BRIDGE_BAD_MESSAGES) := by
  refine congrArg Host.Outcome.next ?_
  simp only [parseModbus_filter_none h]

section
variable (hm : parseModbus msg = some m) (ho : m.op = 0x12)
include hm ho

theorem execReadAnswer_of_unasked (hf : s.fetchAnswered box.val m = none) : exec (.readAnswer box msg) s = .next s := by
  unfold State.fetchAnswered at hf
  refine congrArg Host.Outcome.next ?_
  simp only [parseModbus_filter_some hm ho, hf]

/-- The answer to a fetch. -/
theorem execReadAnswer_of_asked (hf : s.fetchAnswered box.val m = some f) (hu : u = s.dropFetch f) :
    exec (.readAnswer box msg) s = .next
      (if m.status.toNat = 0 ∧ m.data.length ≠ dataBytes f.piece.table f.piece.count then s.bump Cnt.BRIDGE_BAD_MESSAGES
      else if f.gen ≠ u.get Reg.BRIDGE_GEN_GEN then u.bump Cnt.ENGINE_RA_RECONFIG
      else u.holdValue ⟨f.piece, answerHolds m, f.ahead, f.start, f.gen, f.written, false⟩) := by
  unfold State.fetchAnswered at hf
  subst hu
  refine congrArg Host.Outcome.next ?_
  simp only [parseModbus_filter_some hm ho, hf]
  rfl

end

theorem execWriteAnswer_of_otherOp (h : ∀ x, parseModbus msg = some x → x.op ≠ 0x13) :
    exec (.writeAnswer box msg) s = .next (s.bump Cnt.BRIDGE_BAD_MESSAGES) := by
  refine congrArg Host.Outcome.next ?_
  simp only [parseModbus_filter_none h]

/-- The box's answer is the result of the write that awaits it under its TAG (R327). -/
theorem execWriteAnswer_of_write (hm : parseModbus msg = some m) (ho : m.op = 0x13) :
    exec (.writeAnswer box msg) s = .next (s.setBridge { s.bridge with confirms := s.bridge.confirms.map (fun c =>
      if c.tag = m.tag.toNat ∧ c.result = none ∧ s.boxOfBind c.piece.bind = some box.val then
        { c with result := some m.status.toNat, since := s.round } else c) }) := by
  refine congrArg Host.Outcome.next ?_
  simp only [parseModbus_filter_some hm ho]

end

section
variable {tag : BitVec 16}

/-- The fetch under a TAG whose time is over (R328). -/
def State.fetchDue (s : State) (tag : Nat) : Option Fetch :=
  s.bridge.fetches.find? (fun f => f.tag == tag && decide (f.since + s.get Reg.BRIDGE_CFG_FETCH_TIMEOUT ≤ s.round))

/-- A write under a TAG that was not answered in its time (R327). -/
def State.confirmDue (s : State) (tag : Nat) (c : Confirm) : Bool :=
  c.tag == tag && c.result == none && decide (c.since + s.get Reg.BRIDGE_CFG_FETCH_TIMEOUT ≤ s.round)

theorem execFetchTimeout_of_fetch (hf : s.fetchDue tag.toNat = some f) (hu : u = (s.dropFetch f).bump Cnt.BRIDGE_FETCH_TIMEOUTS) :
    exec (.fetchTimeout tag) s = .next (u.holdValue ⟨f.piece, .late, false, u.now, u.get Reg.BRIDGE_GEN_GEN, false, false⟩) := by
  unfold State.fetchDue at hf
  subst hu
  refine congrArg Host.Outcome.next ?_
  simp only [hf]
  rfl

/-- Without a fetch that is late, the writes that are late end with the status of no answer (R327). -/
theorem execFetchTimeout_of_noFetch (hf : s.fetchDue tag.toNat = none) :
    exec (.fetchTimeout tag) s = .next (if s.bridge.confirms.any (s.confirmDue tag.toNat) then
      (s.setBridge { s.bridge with confirms := s.bridge.confirms.map (fun c =>
        if s.confirmDue tag.toNat c then { c with result := some 0xFE, since := s.round } else c) }).bump Cnt.BRIDGE_FETCH_TIMEOUTS
      else s) := by
  unfold State.fetchDue at hf
  refine congrArg Host.Outcome.next ?_
  simp only [hf]
  rfl

/-- The write under a TAG whose result no request has claimed in 8,000 rounds (R327). -/
def State.confirmStale (s : State) (tag : Nat) : Option Confirm :=
  s.bridge.confirms.find? (fun c => c.tag == tag && c.result.isSome && decide (c.since + 8000 ≤ s.round))

theorem execConfirmUnclaimed_of_none (hc : s.confirmStale tag.toNat = none) : exec (.confirmUnclaimed tag) s = .next s := by
  unfold State.confirmStale at hc
  refine congrArg Host.Outcome.next ?_
  simp only [hc]

theorem execConfirmUnclaimed_of_some {c : Confirm} (hc : s.confirmStale tag.toNat = some c) :
    exec (.confirmUnclaimed tag) s = .next
      ((s.setBridge { s.bridge with confirms := s.bridge.confirms.filter (fun x => x.tag != c.tag) }).bump
        Cnt.BRIDGE_CONFIRM_UNCLAIMED) := by
  unfold State.confirmStale at hc
  refine congrArg Host.Outcome.next ?_
  simp only [hc]

end

section
variable {range : Fin 64} {shape : Fin 4}

theorem execReadAhead_of_noShape (hx : s.shapeAt range.val shape.val = none) : exec (.readAhead range shape) s = .next s := by
  refine congrArg Host.Outcome.next ?_
  simp only [hx]

theorem execReadAheadStop_of_noShape (hx : s.shapeAt range.val shape.val = none) : exec (.readAheadStop range shape) s = .next s := by
  refine congrArg Host.Outcome.next ?_
  simp only [hx]

variable {x : Shape}

/-- The read-ahead of the shape's last read is sent. -/
def State.markSent (s : State) (x : Shape) : State :=
  s.setBridge { s.bridge with shapes := s.bridge.shapes.map (fun y => if y = x then { y with sent := true } else y) }

/-- The shape's piece is read ahead, unless it is being fetched already (R329). -/
def State.readShape (u : State) (x : Shape) : State :=
  if u.bridge.fetches.any (fun f => f.piece == x.piece) then u else u.issueRead x.piece true

variable (hx : s.shapeAt range.val shape.val = some x)
include hx

theorem execReadAhead_acts :
    Acts (.readAhead range shape) s (s.flag (Reg.RANGE_RA range.val) = true ∧ x.sent = false ∧
      x.lastRead + s.get (Reg.RANGE_RA_DELAY range.val) ≤ s.round) (fun t => ∀ u, u = s.markSent x →
        ((∃ f ∈ u.bridge.fetches, f.piece = x.piece) → t = u) ∧
        ((∀ f ∈ u.bridge.fetches, f.piece ≠ x.piece) → t = u.issueRead x.piece true)) := by
  refine Acts.of_ite (t := (s.markSent x).readShape x) (test := (s.flag (Reg.RANGE_RA range.val) && !x.sent &&
    decide (x.lastRead + s.get (Reg.RANGE_RA_DELAY range.val) ≤ s.round)) = true) (congrArg Host.Outcome.next ?_) (by simp [and_assoc]) ?_
  · simp only [hx]
    rfl
  · rintro _ u rfl
    exact ⟨fun h => if_pos (by simpa using h), fun h => if_neg (by simpa using h)⟩

theorem execReadAheadStop_acts :
    Acts (.readAheadStop range shape) s (x.lastRead + 8 * s.get (Reg.RANGE_RA_DELAY range.val) ≤ s.round)
      (fun t => t = s.setBridge { s.bridge with shapes := s.bridge.shapes.erase x }) := by
  refine Acts.of_ite (congrArg Host.Outcome.next ?_) Iff.rfl fun _ => rfl
  simp only [hx]

end

/-- Settles O41: an answer meets the fetch or the write it belongs to or is counted, and each limit takes what is due at its TAG or place. -/
theorem heldValuesAct : Obligations.HeldValuesAct := by
  intro s u box msg m tag range shape
  refine ⟨execReadAnswer_of_otherOp, ?_, execWriteAnswer_of_otherOp, fun hm ho => Does.of_eq (execWriteAnswer_of_write hm ho) rfl, ?_,
    fun hx => ⟨execReadAhead_of_noShape hx, execReadAheadStop_of_noShape hx⟩,
    fun x hx => ⟨⟨fun hg => ?_, (execReadAhead_acts hx).2⟩, execReadAheadStop_acts hx⟩, ?_⟩
  · rintro _ hm ho rfl
    refine ⟨execReadAnswer_of_unasked hm ho, fun f hf => ⟨fun h0 hl => ?_, fun hl hu => ?_⟩⟩
    · exact (next_cases (execReadAnswer_of_asked hm ho hf rfl)).1 ⟨h0, hl⟩
    · have hfit := (next_cases (execReadAnswer_of_asked hm ho hf hu)).2 fun ⟨h0, hn⟩ => hn (hl h0)
      refine ⟨(next_cases hfit).1, fun held hg h0 h1 => ?_⟩
      rw [eq_answerHolds h0 h1]
      exact (next_cases hfit).2 (not_not.mpr hg)
  · rintro _ _ _ rfl rfl rfl
    refine ⟨fun f => execFetchTimeout_of_fetch, fun hf hc => ?_, fun hf hc => ?_⟩
    · exact (next_cases (execFetchTimeout_of_noFetch hf)).2 (Bool.eq_false_iff.mp hc)
    · exact (next_cases (execFetchTimeout_of_noFetch hf)).1 hc
  · obtain ⟨t, ht, hp⟩ := (execReadAhead_acts hx).1 hg
    exact Does.of_eq ht (hp u)
  · rintro _ rfl
    exact ⟨execConfirmUnclaimed_of_none, fun c => execConfirmUnclaimed_of_some⟩

end Machine
end Sys2Proof
end

section
/-!
SUPPORT. REGISTRY_APPORTION (R259) and POST_REGISTERED (R235, R237).
-/
namespace Sys2Proof
namespace Machine

/-- None of the parameters of a list of apportionments is refused (R259). -/
structure ApportionParamsOk (items : List ApportionItem) : Prop where
  nonempty : 1 ≤ items.length
  few : items.length ≤ 128
  each : ∀ i ∈ items, boxNoOk i.box.toNat = true ∧ i.notify.toNat ≤ 1

theorem ApportionParamsOk.notRefused {items : List ApportionItem} (hp : ApportionParamsOk items) :
    ¬ (decide (items.length < 1) || decide (128 < items.length) ||
      items.any (fun i => !boxNoOk i.box.toNat || decide (1 < i.notify.toNat))) = true := by
  have h0 : items ≠ [] := List.ne_nil_of_length_pos hp.nonempty
  simpa [h0, hp.few] using hp.each

/-- Every box of the list has its send side, and none waits already for an apportionment (R259). -/
structure State.ApportionOpen (u : State) (items : List ApportionItem) : Prop where
  sends : ∀ i ∈ items, (u.sendSide i.box.toNat).isSome = true
  settled : ∀ i ∈ items, u.pendingNames i.box.toNat = false

theorem State.sends_notRefused {u : State} {items : List ApportionItem} (hs : ∀ i ∈ items, (u.sendSide i.box.toNat).isSome = true) :
    ¬ items.any (fun i => (u.sendSide i.box.toNat).isNone) = true := by
  simpa [Option.isSome_iff_ne_none] using hs

theorem State.ApportionOpen.notStaged {u : State} {items : List ApportionItem} (ha : u.ApportionOpen items) :
    ¬ items.any (fun i => u.pendingNames i.box.toNat) = true := by
  simpa using ha.settled

section
variable {s u : State} {h : CmdHdr} {k : Nat}

section
variable {items : List ApportionItem} (o : Opens (.registryApportion h items) s k u) (hl : h.paramLen = 2 + 8 * items.length)
include o hl

theorem execRegistryApportion_of_badParam
    (hb : items = [] ∨ 128 < items.length ∨ ∃ i ∈ items, boxNoOk i.box.toNat = false ∨ 1 < i.notify.toNat) :
    exec (.registryApportion h items) s = .next (u.finish k .badParam []) :=
  exec_of_opens rfl o (beq_iff_eq.mpr hl) (if_pos (by simpa [or_assoc] using hb))

variable (hp : ApportionParamsOk items)
include hp

theorem execRegistryApportion_of_noSendSide (hs : ∃ i ∈ items, u.sendSide i.box.toNat = none) :
    exec (.registryApportion h items) s = .next (u.finish k .notPermitted []) :=
  exec_of_opens rfl o (beq_iff_eq.mpr hl) ((if_neg hp.notRefused).trans (if_pos (by simpa using hs)))

theorem execRegistryApportion_of_pending (hs : ∀ i ∈ items, (u.sendSide i.box.toNat).isSome = true)
    (hn : ∃ i ∈ items, u.pendingNames i.box.toNat = true) :
    exec (.registryApportion h items) s = .next (u.finish k .stageConflict []) :=
  exec_of_opens rfl o (beq_iff_eq.mpr hl)
    ((if_neg hp.notRefused).trans ((if_neg (State.sends_notRefused hs)).trans (if_pos (List.any_eq_true.mpr hn))))

variable (ha : u.ApportionOpen items)
include ha

theorem execRegistryApportion_of_unfit (hf : u.apportionOk items = false) :
    exec (.registryApportion h items) s = .next (u.finish k .checkFailed []) :=
  exec_of_opens rfl o (beq_iff_eq.mpr hl) ((if_neg hp.notRefused).trans
    ((if_neg (State.sends_notRefused ha.sends)).trans ((if_neg ha.notStaged).trans (if_pos (by simp [hf])))))

/-- The apportionments wait for the next boundary; the receipt names its round and the pool that is left in it (R259). -/
theorem execRegistryApportion_of_fits (hf : u.apportionOk items = true) {v w : State}
    (hv : v = forAll items u (fun s i => s.updBookRec i.box.toNat (fun r =>
      { r with next := some (i.r.toNat, i.m.toNat, i.notify.toNat == 1) })))
    (hw : w = forAll items v (fun s i => s.updBookRec i.box.toNat (fun r =>
      { r with apportioned := true, reserve := i.r.toNat, limit := i.m.toNat }))) :
    exec (.registryApportion h items) s = .next
      (v.finish k .ok (leBytes 8 (v.round + 1) ++ leBytes 2 w.regPoolFree ++ leBytes 2 0)) := by
  subst hw hv
  exact exec_of_opens rfl o (beq_iff_eq.mpr hl) ((if_neg hp.notRefused).trans
    ((if_neg (State.sends_notRefused ha.sends)).trans ((if_neg ha.notStaged).trans (if_neg (by simp [hf])))))

end

/-- The entry that an earlier execution of the same packet wrote, if one did before a restart (R237). -/
def State.postedEntry (u : State) (h : CmdHdr) (k box : Nat) : Option (Nat × Entry) :=
  let since := ((mget u.cmd.book k).map (·.enteredAt)).getD u.now
  u.reg.entries.find? (fun e => e.2.origin == 0 && e.2.box == box && e.2.originPath == h.path.val &&
    e.2.originTag == h.tag.toNat && e.2.originSeq == h.hostSeq.toNat && decide (0 ≤ postmarkDiff e.2.acceptedAt since))

section
variable {box : BitVec 16} {payload : Payload} (o : Opens (.postRegistered h box payload) s k u) (hl : h.paramLen = 4 + payload.length)
include o hl

section
variable {n : Nat} {e : Entry} (hf : u.postedEntry h k box.toNat = some (n, e))
include hf

theorem execPostRegistered_of_writing (hw : e.writing = true) :
    exec (.postRegistered h box payload) s = .next (u.updEntry k (fun e => { e with wait := n })) := by
  unfold State.postedEntry at hf
  refine exec_of_opens_waits rfl o (beq_iff_eq.mpr hl) ?_
  simp only [hf, hw, if_true]

theorem execPostRegistered_of_written (hw : e.writing = false) :
    exec (.postRegistered h box payload) s = .next (u.finish k .accepted (e.postData n)) := by
  unfold State.postedEntry at hf
  refine exec_of_opens rfl o (beq_iff_eq.mpr hl) ?_
  simp only [hf, hw, Bool.false_eq_true, if_false]

end

section
variable (hf : u.postedEntry h k box.toNat = none) {v : State}
include hf

theorem execPostRegistered_of_refused {st : Status}
    (ho : u.offer box.toNat payload 0 h.path.val h.tag.toNat h.hostSeq.toNat = (.refused st, v)) :
    exec (.postRegistered h box payload) s = .next (v.finish k st []) := by
  unfold State.postedEntry at hf
  refine exec_of_opens rfl o (beq_iff_eq.mpr hl) ?_
  simp only [hf, ho]

theorem execPostRegistered_of_offered {n : Nat}
    (ho : u.offer box.toNat payload 0 h.path.val h.tag.toNat h.hostSeq.toNat = (.entry n, v)) :
    exec (.postRegistered h box payload) s = .next (v.updEntry k (fun e => { e with wait := n })) := by
  unfold State.postedEntry at hf
  refine exec_of_opens_waits rfl o (beq_iff_eq.mpr hl) ?_
  simp only [hf, ho]

end

end

end

end Machine
end Sys2Proof
end

section
/-!
SUPPORT. COLLECT (R245, R261) and ACK_COLLECTED (R244, R261).
-/
namespace Sys2Proof
namespace Machine

/-- The box that COLLECT takes letters from (R261): the one it names, or the first HOST box with letters waiting, or none (0). -/
def State.collectBox (u : State) (box : Nat) : Nat :=
  if box = 0 then ((u.reg.book.map (·.1)).find? (fun b => (u.hostSide b).isSome && u.waitingOf b != [])).getD 0 else box

theorem State.collectBox_of_noneWaiting {u : State} (h : ∀ e ∈ u.reg.book, u.waitingOf e.1 = [] ∨ u.hostSide e.1 = none) :
    u.collectBox 0 = 0 := by
  have hn : (u.reg.book.map (·.1)).find? (fun b => (u.hostSide b).isSome && u.waitingOf b != []) = none := by
    simp only [List.find?_eq_none, List.mem_map, forall_exists_index, and_imp, forall_apply_eq_imp_iff₂]
    intro e he
    rcases h e he with h | h <;> simp [h]
  simp [State.collectBox, hn]

theorem State.collectBox_eq {u : State} {box b : Nat} (hb : 1 ≤ b) (h : box = b ∨ (box = 0 ∧
      (u.reg.book.map (·.1)).find? (fun b => (u.hostSide b).isSome && u.waitingOf b != []) = some b)) :
    u.collectBox box = b := by
  rcases h with rfl | ⟨rfl, hf⟩
  · exact if_neg (by omega)
  · exact (if_pos rfl).trans (by rw [hf]; rfl)

/-- Letters are marked as shown to the host (R245). -/
def State.showLetters (s : State) (b : Nat) (l : List Pigeon) : State :=
  s.setReg { s.reg with pigeons := s.reg.pigeons.map (fun p =>
    if p.box = b ∧ l.any (fun q => q.seq == p.seq) then { p with shown := true } else p) }

section
variable {s u : State} {h : CmdHdr} {k : Nat} {box : BitVec 16}

section
variable {max : Byte} (o : Opens (.collect h box max) s k u)
include o

theorem execCollect_of_badParam (hb : 4095 < box.toNat ∨ max.toNat = 0 ∨ 16 < max.toNat) :
    exec (.collect h box max) s = .next (u.finish k .badParam []) :=
  exec_of_opens rfl o rfl (if_pos (by omega))

variable (hp : box.toNat ≤ 4095 ∧ 1 ≤ max.toNat ∧ max.toNat ≤ 16)
include hp

theorem execCollect_of_noBox (hb : u.collectBox box.toNat = 0) :
    exec (.collect h box max) s = .next (u.finish k .ok (leBytes 4 0)) :=
  exec_of_opens rfl o rfl ((if_neg (by omega)).trans (if_pos hb))

theorem execCollect_of_notHost {b : Nat} (hb : u.collectBox box.toNat = b) (h0 : 1 ≤ b) (hs : u.hostSide b = none) :
    exec (.collect h box max) s = .next (u.finish k .notPermitted []) := by
  subst hb
  exact exec_of_opens rfl o rfl ((if_neg (by omega)).trans ((if_neg (Nat.ne_of_gt h0)).trans
    (if_pos (Option.isNone_iff_eq_none.mpr hs))))

/-- The oldest letters of the box are presented, and the latest of them is the last one presented (R245). -/
theorem execCollect_of_host {b : Nat} (hb : u.collectBox box.toNat = b) (h0 : 1 ≤ b) (hs : (u.hostSide b).isSome = true)
    {l : List Pigeon} {v : State} (hl : l = (u.waitingOf b).take max.toNat) (hv : v = u.showLetters b l) :
    exec (.collect h box max) s = .next
      ((match l.getLast? with
        | some p => v.updBookRec b (fun r => if serialBefore 32 r.presented p.seq then { r with presented := p.seq } else r)
        | none => v).finish k .ok (leBytes 1 l.length ++ leBytes 3 0 ++ l.flatMap Pigeon.collectData)) := by
  subst hv hl hb
  have hsome : ¬ (u.hostSide (u.collectBox box.toNat)).isNone = true := by simpa [Option.isSome_iff_ne_none] using hs
  exact exec_of_opens rfl o rfl ((if_neg (by omega)).trans ((if_neg (Nat.ne_of_gt h0)).trans (if_neg hsome)))

end

section
variable {thru : BitVec 32} (o : Opens (.ackCollected h box thru) s k u)
include o

theorem execAckCollected_of_badBox (hb : boxNoOk box.toNat = false) :
    exec (.ackCollected h box thru) s = .next (u.finish k .badParam []) :=
  exec_of_opens rfl o rfl (if_pos (by simp [hb]))

variable (hb : boxNoOk box.toNat = true)
include hb

theorem execAckCollected_of_notHost (hs : u.hostSide box.toNat = none) :
    exec (.ackCollected h box thru) s = .next (u.finish k .notPermitted []) := by
  refine exec_of_opens rfl o rfl ((if_neg (by simp [hb])).trans ?_)
  simp only [hs]

variable {r : BookRec} (hs : u.hostSide box.toNat = some r)
include hs

theorem execAckCollected_of_consumed (hc : seqLe thru.toNat r.consumedThru = true) :
    exec (.ackCollected h box thru) s = .next (u.finish k .ok (leBytes 4 r.consumedThru)) := by
  refine exec_of_opens rfl o rfl ((if_neg (by simp [hb])).trans ?_)
  simp only [hs]
  exact if_pos hc

variable (hc : seqLe thru.toNat r.consumedThru = false)
include hc

theorem execAckCollected_of_unpresented (hq : seqLe thru.toNat r.presented = false) :
    exec (.ackCollected h box thru) s = .next (u.finish k .badParam []) := by
  refine exec_of_opens rfl o rfl ((if_neg (by simp [hb])).trans ?_)
  simp only [hs]
  exact (if_neg (by simp [hc])).trans (if_pos (by simp [hq]))

/-- The letters up to the one named, and the void letters that come next, are consumed, and a receipt falls due (R244). -/
theorem execAckCollected_of_presented (hq : seqLe thru.toNat r.presented = true) {v w x : State}
    (hv : v = u.setBookRec box.toNat { r with consumedThru := thru.toNat })
    (hw : w = (forAll (v.reg.pigeons.filter (fun p => p.box == box.toNat && seqLe p.seq thru.toNat)) v
      (fun s p => s.emptyPigeon p)).stepVoids box.toNat 4096)
    (hx : x = if w.waitingOf box.toNat = [] then w.setReg { w.reg with waiting := mdel w.reg.waiting box.toNat } else w) :
    exec (.ackCollected h box thru) s = .next
      ((x.receiptDue box.toNat).finish k .ok (leBytes 4 (((x.book box.toNat).map (·.consumedThru)).getD thru.toNat))) := by
  subst hx hw hv
  refine exec_of_opens rfl o rfl ((if_neg (by simp [hb])).trans ?_)
  simp only [hs]
  exact (if_neg (by simp [hc])).trans (if_neg (by simp [hq]))

end

end

end Machine
end Sys2Proof
end

section
/-!
SUPPORT. REGISTRY_STATUS, DEAD_LETTER_READ and DEAD_LETTER_CLEAR (R261), and the Registry's opcodes together.
-/
namespace Sys2Proof
namespace Machine

/-- The Registry holds a dead letter at an index. -/
def State.isDeadLetter (u : State) (n : Nat) : Bool :=
  match mget u.reg.entries n with
  | some e => e.dead
  | none => false

theorem State.isDeadLetter_iff (u : State) (n : Nat) : u.isDeadLetter n = true ↔ ∃ e, mget u.reg.entries n = some e ∧ e.dead = true := by
  unfold State.isDeadLetter
  cases mget u.reg.entries n <;> simp

theorem State.isDeadLetter_eq_false_iff (u : State) (n : Nat) :
    u.isDeadLetter n = false ↔ ∀ e, mget u.reg.entries n = some e → e.dead = false := by
  unfold State.isDeadLetter
  cases mget u.reg.entries n <;> simp

section
variable {s u : State} {h : CmdHdr} {k : Nat}

section
variable {box : BitVec 16} (o : Opens (.registryStatus h box) s k u)
include o

theorem execRegistryStatus_of_badBox (hb : 4095 < box.toNat) :
    exec (.registryStatus h box) s = .next (u.finish k .badParam []) :=
  exec_of_opens rfl o rfl (if_pos hb)

theorem execRegistryStatus_of_noBox (hb : box.toNat = 0) :
    exec (.registryStatus h box) s = .next (u.finish k .ok
      (leBytes 4 (u.word Reg.REG_ENTRIES).toNat ++ leBytes 4 (u.word Reg.REG_POOL).toNat ++ leBytes 4 (u.word Reg.PIGEONHOLES).toNat)) :=
  exec_of_opens rfl o rfl ((if_neg (by omega)).trans (if_pos hb))

theorem execRegistryStatus_of_box (h1 : 1 ≤ box.toNat) (hb : box.toNat ≤ 4095) :
    exec (.registryStatus h box) s = .next (u.finish k .ok
      (u.recordBytes box.toNat ++ leBytes 4 (u.word (Reg.USE box.toNat)).toNat)) :=
  exec_of_opens rfl o rfl ((if_neg hb.not_gt).trans (if_neg (Nat.ne_of_gt h1)))

end

section
variable {box first : BitVec 16} {max : Byte} (o : Opens (.deadLetterRead h box first max) s k u)
include o

theorem execDeadLetterRead_of_badParam (hb : 4095 < box.toNat ∨ 8191 < first.toNat ∨ max.toNat = 0 ∨ 8 < max.toNat) :
    exec (.deadLetterRead h box first max) s = .next (u.finish k .badParam []) :=
  exec_of_opens rfl o rfl (if_pos (by omega))

/-- The dead letters from FIRST on, as many as are asked for, with the index of the one that follows them (R261). -/
theorem execDeadLetterRead_of_params (hp : box.toNat ≤ 4095 ∧ first.toNat ≤ 8191 ∧ 1 ≤ max.toNat ∧ max.toNat ≤ 8)
    {l : List (Nat × Entry)} (hl : l = u.reg.entries.filter (fun e => e.2.dead && decide (first.toNat ≤ e.1) &&
      (box.toNat == 0 || e.2.box == box.toNat))) :
    exec (.deadLetterRead h box first max) s = .next (u.finish k .ok
      (leBytes 1 (l.take max.toNat).length ++ leBytes 1 0 ++ leBytes 2 (orNone (((l.drop max.toNat).head?).map (·.1))) ++
        (l.take max.toNat).flatMap (fun e => leBytes 2 e.1 ++ leBytes 2 0 ++ e.2.bytes))) := by
  subst hl
  exact exec_of_opens rfl o rfl (if_neg (by omega))

end

section
variable {entries : List (BitVec 16)} (o : Opens (.deadLetterClear h entries) s k u) (hl : h.paramLen = 2 + 2 * entries.length)
include o hl

theorem execDeadLetterClear_eq :
    exec (.deadLetterClear h entries) s = .next
      (if decide (entries.length < 1) || decide (64 < entries.length) || !(entries.map (·.toNat)).eraseDups.all u.isDeadLetter then
        u.finish k .badParam []
      else (forAll (entries.map (·.toNat)).eraseDups u (fun s n => s.freeEntry n)).finish k .ok
        (leBytes 1 (entries.map (·.toNat)).eraseDups.length ++ leBytes 3 0)) := by
  split_ifs with hb
  · exact exec_of_opens rfl o (beq_iff_eq.mpr hl) (if_pos hb)
  · exact exec_of_opens rfl o (beq_iff_eq.mpr hl) (if_neg hb)

theorem execDeadLetterClear_of_dead (h1 : 1 ≤ entries.length) (h64 : entries.length ≤ 64)
    (hd : ∀ x ∈ entries, u.isDeadLetter x.toNat = true) :
    exec (.deadLetterClear h entries) s = .next
      ((forAll (entries.map (·.toNat)).eraseDups u (fun s n => s.freeEntry n)).finish k .ok
        (leBytes 1 (entries.map (·.toNat)).eraseDups.length ++ leBytes 3 0)) := by
  refine (next_cases (execDeadLetterClear_eq o hl)).2 ?_
  have h0 : entries ≠ [] := List.ne_nil_of_length_pos h1
  simpa [h0, h64] using hd

theorem execDeadLetterClear_of_badParam
    (hb : entries = [] ∨ 64 < entries.length ∨ ∃ x ∈ entries, u.isDeadLetter x.toNat = false) :
    exec (.deadLetterClear h entries) s = .next (u.finish k .badParam []) := by
  refine (next_cases (execDeadLetterClear_eq o hl)).1 ?_
  simpa [or_assoc] using hb

end

end

/-- Settles O14: each opcode refuses in the order of its checks, and has its effect where none of them refuses. -/
theorem registryCommandsComplete : Obligations.RegistryCommandsComplete := by
  intro s u h k
  refine ⟨fun items o hl => execRegistryApportion_of_badParam o hl, fun items o hl h1 h128 heach => ?_, ?_,
    fun box max o => execCollect_of_badParam o, fun box max o hb h1 h16 => ?_, fun box thru o => ?_, fun box o => ?_,
    fun box first max o => execDeadLetterRead_of_badParam o,
    fun box first max o hb hf h1 h8 l => execDeadLetterRead_of_params o ⟨hb, hf, h1, h8⟩, fun entries o hl => ?_⟩
  · have hp : ApportionParamsOk items := ⟨h1, h128, heach⟩
    refine ⟨execRegistryApportion_of_noSendSide o hl hp, execRegistryApportion_of_pending o hl hp, fun hs hn => ?_⟩
    have ha : u.ApportionOpen items := ⟨hs, hn⟩
    exact ⟨execRegistryApportion_of_unfit o hl hp ha, fun hf _ _ => execRegistryApportion_of_fits o hl hp ha hf⟩
  · rintro box payload _ _ o hl rfl rfl
    exact ⟨fun n e hf => ⟨execPostRegistered_of_writing o hl hf, execPostRegistered_of_written o hl hf⟩, fun hf =>
      ⟨fun st v => execPostRegistered_of_refused o hl hf, fun n v => execPostRegistered_of_offered o hl hf⟩⟩
  · have hp : box.toNat ≤ 4095 ∧ 1 ≤ max.toNat ∧ max.toNat ≤ 16 := ⟨hb, h1, h16⟩
    refine ⟨fun h0 hw => execCollect_of_noBox o hp ?_, fun hn => execCollect_of_notHost o hp (State.collectBox_eq hn (.inl rfl)) hn,
      fun b hn hbox hs l v => execCollect_of_host o hp (State.collectBox_eq hn hbox) hn hs⟩
    rw [h0, State.collectBox_of_noneWaiting hw]
  · exact ⟨execAckCollected_of_badBox o, execAckCollected_of_notHost o, fun r hb hs => ⟨execAckCollected_of_consumed o hb hs,
      execAckCollected_of_unpresented o hb hs, fun hc hq v w x => execAckCollected_of_presented o hb hs hc hq⟩⟩
  · exact ⟨execRegistryStatus_of_noBox o, execRegistryStatus_of_box o, execRegistryStatus_of_badBox o⟩
  · simp only [← State.isDeadLetter_iff, ← State.isDeadLetter_eq_false_iff]
    exact ⟨execDeadLetterClear_of_dead o hl, execDeadLetterClear_of_badParam o hl⟩

end Machine
end Sys2Proof
end

section
/-!
SUPPORT. The Registry's own messages and times: an entry's write (R235, R236), resends (R239, R240), the scan (R254), waiting letters (R266),
and the end of a registered bus transaction (R331).
-/
namespace Sys2Proof
namespace Machine

variable {s : State}

section
variable {k : Fin 8192}

theorem execEntryWriteDone_of_noEntry (h : mget s.reg.entries k.val = none) (w : Bool) : exec (.entryWriteDone k w) s = .next s := by
  refine congrArg Host.Outcome.next ?_
  simp only [h]

section
variable {e : Entry} (h : mget s.reg.entries k.val = some e)
include h

theorem execEntryWriteDone_of_notWriting (w : Bool) (hw : e.writing = false) : exec (.entryWriteDone k w) s = .next s := by
  refine congrArg Host.Outcome.next ?_
  simp only [h]
  exact if_pos (by simp [hw])

variable (hw : e.writing = true)
include hw

/-- A written entry is accepted, in the order of acceptance, and whoever waits for it is answered (R235). -/
theorem execEntryWriteDone_of_written {v : State} {e' : Entry}
    (he : e' = { e with writing := false, acceptedAt := s.now, order := s.reg.order })
    (hv : v = s.setReg { s.reg with
      entries := mput s.reg.entries k.val e', accepts := s.reg.accepts + 1, order := s.reg.order + 1 }) :
    exec (.entryWriteDone k true) s = .next (((((v.bump Cnt.REGISTRY_ACCEPTED).syncRegistry e.box).activity 0x13).finishWaiters
      0x0301 k.val .accepted (e'.postData k.val)).answerWriter k.val 0).sendFirsts := by
  subst hv he
  refine congrArg Host.Outcome.next ?_
  simp only [h]
  exact (if_neg (by simp [hw])).trans (if_pos trivial)

theorem execEntryWriteDone_of_failed :
    exec (.entryWriteDone k false) s = .next
      ((((s.writeFailed k.val e).bump Cnt.REGISTRY_REFUSED_FAULT).answerWriter k.val 4).finishWaiters 0x0301 k.val .hwFault []) := by
  refine congrArg Host.Outcome.next ?_
  simp only [h]
  exact (if_neg (by simp [hw])).trans (if_neg Bool.false_ne_true)

end

/-- The entries that RESEND sends (R239, R240): those due up to the one named, or none where it is not due. -/
def dueUpTo (l : List (Nat × Entry)) (k : Nat) : List (Nat × Entry) :=
  if l.any (fun e => e.1 == k) then l.takeWhile (fun e => e.1 != k) ++ l.filter (fun e => e.1 == k) else []

theorem dueUpTo_of_absent {l : List (Nat × Entry)} {k : Nat} (h : ∀ e ∈ l, e.1 ≠ k) : dueUpTo l k = [] :=
  if_neg fun hk => by
    obtain ⟨e, he, hek⟩ := List.any_eq_true.mp hk
    exact h e he (beq_iff_eq.mp hek)

theorem dueUpTo_append_cons {before after : List (Nat × Entry)} {e : Nat × Entry} {k : Nat} (he : e.1 = k)
    (hb : ∀ x ∈ before, x.1 ≠ k) (ha : ∀ x ∈ after, x.1 ≠ k) : dueUpTo (before ++ e :: after) k = before ++ [e] := by
  have htake : (before ++ e :: after).takeWhile (fun e => e.1 != k) = before := by
    rw [List.takeWhile_append_of_pos (by simpa using hb), List.takeWhile_cons_of_neg (by simp [he]), List.append_nil]
  have hbefore : before.filter (fun e => e.1 == k) = [] := List.filter_eq_nil_iff.mpr (by simpa using hb)
  have hafter : after.filter (fun e => e.1 == k) = [] := List.filter_eq_nil_iff.mpr (by simpa using ha)
  have hfilter : (before ++ e :: after).filter (fun e => e.1 == k) = [e] := by
    rw [List.filter_append, hbefore, List.filter_cons_of_pos (by simp [he]), hafter, List.nil_append]
  exact (if_pos (by simp [he])).trans (by rw [htake, hfilter])

theorem execResend_of_down (h : s.skUp = false ∨ s.powered .core = false) : exec (.resend k) s = .next s :=
  congrArg Host.Outcome.next (if_pos (by simpa using h))

theorem execResend_of_up (hk : s.skUp = true) (hc : s.powered .core = true) :
    exec (.resend k) s = .next (forAll (dueUpTo s.dueEntries k.val) s (fun s x => s.sendDueEntry x)).replayEnds :=
  congrArg Host.Outcome.next (if_neg (by simp [hk, hc]))

end

theorem execRegistryScan_of_idle (h : s.reg.scanning = false) : exec .registryScan s = .next s :=
  congrArg Host.Outcome.next (if_pos (by simp [h]))

/-- The scan rebuilds the sequences, and the replay begins where entries are held (R238, R254). -/
theorem execRegistryScan_of_scanning (h : s.reg.scanning = true) {u v : State}
    (hu : u = forAll s.reg.book s (fun s e => if e.2.send then s.rebuildSeq e.1 e.2 else s))
    (hv : v = (u.setReg { u.reg with scanning := false, replaying := decide (u.replayLeft ≠ 0), replayed := 0 }).set
      Reg.REPLAY_LEFT u.replayLeft) :
    exec .registryScan s = .next
      (if u.replayLeft = 0 then (v.setFlag Reg.REPLAY_ACTIVE false).notice 0x8074 [0] else v.setFlag Reg.REPLAY_ACTIVE true) := by
  subst hv hu
  exact congrArg Host.Outcome.next (if_neg (by simp [h]))

/-- Letters that have waited 8,000 rounds since they were told are told again (R266). -/
theorem execLettersWaiting_acts (s : State) (box : BoxNo) :
    Acts (.lettersWaiting box) s (∃ r, mget s.reg.waiting box.val = some r ∧ r + 8000 ≤ s.round) (fun t => t = s.tellWaiting box.val) := by
  cases h : mget s.reg.waiting box.val with
  | none =>
    refine ⟨by simp, fun _ => congrArg Host.Outcome.next ?_⟩
    simp only [h]
  | some r =>
    refine Acts.of_ite (test := r + 8000 ≤ s.round) (congrArg Host.Outcome.next ?_) (by simp) fun _ => rfl
    simp only [h]

/-- The bus holds the box's transaction no longer (R331). -/
def State.freeCanReg (s : State) (bus b q : Nat) : State :=
  if (s.canBus bus).reg = some (b, q) then s.setCanBus bus { s.canBus bus with reg := none } else s

section
variable {box : BoxNo} {o : BusOutcome} {x : Byte}

theorem execBridgeConsumed_of_noRecord (h : s.book box.val = none) : exec (.bridgeConsumed box o x) s = .next s := by
  change Host.Outcome.next (s.endRegistered box.val o x.toNat) = _
  simp only [State.endRegistered, h]

section
variable {r : BookRec} (h : s.book box.val = some r)
include h

theorem execBridgeConsumed_of_noTransaction (hn : r.host = true ∨ r.passedThru = r.consumedThru ∨ s.skUp = false) :
    exec (.bridgeConsumed box o x) s = .next s := by
  change Host.Outcome.next (s.endRegistered box.val o x.toNat) = _
  simp only [State.endRegistered, h]
  exact congrArg Host.Outcome.next (if_pos (by simpa [or_assoc] using hn))

/-- A transaction of a CAN bus is consumed; one that was not done is counted and told first (R331). -/
theorem execBridgeConsumed_of_canBus (hh : r.host = false) (hp : r.passedThru ≠ r.consumedThru) (hk : s.skUp = true) {bus : Nat}
    (hb : s.busOf box.val = some bus) (h3 : bus ≤ 3) {u : State} (hu : u = s.freeCanReg bus box.val r.passedThru) :
    exec (.bridgeConsumed box o x) s = .next (State.consumeBox
      (if o = .done then u.bump (Cnt.FIELD_FRAMES_TX bus)
        else (u.bump (Cnt.FIELD_REG_NOT_DONE bus)).fieldEvent bus 3 [box.val, r.passedThru, BusOutcome_code o, x.toNat]) box.val) := by
  subst hu
  change Host.Outcome.next (s.endRegistered box.val o x.toNat) = _
  simp only [State.endRegistered, h, hb, Option.getD_some, if_pos h3]
  exact congrArg Host.Outcome.next (if_neg (by simp [hh, hp, hk]))

end

end

/-- Settles O36: a message or a time without its object does nothing, and with it has the effect of its rule. -/
theorem registryEventsAct : Obligations.RegistryEventsAct := by
  intro s u
  refine ⟨fun k => ⟨execEntryWriteDone_of_noEntry, fun e he => ⟨execEntryWriteDone_of_notWriting he, fun v e' hw =>
      execEntryWriteDone_of_written he hw, execEntryWriteDone_of_failed he⟩⟩,
    fun k => ⟨execResend_of_down, fun hk hc hd => ?_, fun before e after hk hc hd he hb ha => ?_⟩,
    execRegistryScan_of_idle, fun hs hu v hv => next_cases (execRegistryScan_of_scanning hs hu hv), execLettersWaiting_acts s,
    fun box o x => ⟨execBridgeConsumed_of_noRecord, fun r hr => ⟨execBridgeConsumed_of_noTransaction hr, fun bus hh hp hk hb h3 hu => ?_⟩⟩⟩
  · rw [execResend_of_up hk hc, dueUpTo_of_absent hd]
    rfl
  · rw [execResend_of_up hk hc, hd, dueUpTo_append_cons he hb ha, forAll, List.foldl_append]
    rfl
  · rw [execBridgeConsumed_of_canBus hr hh hp hk hb h3 hu]
    exact ⟨fun ho => by rw [if_pos ho], fun ho => by rw [if_neg ho]⟩

end Machine
end Sys2Proof
end

section
/-!
SUPPORT. Start-up: power and its loss (R236, R473, R488), the keeper's release and self-test (R461, R462, R476), and the boot image
(R443, R478 to R482).
-/
namespace Sys2Proof
namespace Machine

variable (s : State)

theorem execPowerOn_acts :
    Acts .powerOn s (s.boot.keep = false)
      (fun t => t = (s.loseVolatile.setCause 3 1).setBoot { s.loseVolatile.bootAfterLoss with keep := true }) :=
  Acts.of_ite_not rfl (by simp) fun _ => rfl

/-- As KEEP goes the gates and the ports' VBUS are left off, and a zeroisation that is under way starts again (R445, R488). -/
theorem execKeepLoss_acts :
    Acts .keepLoss s (s.boot.keep = true) (fun t => ∀ v : State,
      v = forAll [0, 1, 2, 3] (forAll [0, 1] s.cutWrites.loseVolatile (fun s x => s.emit (.gate x false))) (fun s n => s.emit (.vbus n false 0)) →
      ∀ w : State, w = v.setSec { v.sec with zeroising := v.sec.zeroising.map (fun _ => 512) } → t = w.setBoot v.bootAfterLoss) := by
  refine Acts.of_ite_not rfl (by simp) ?_
  rintro _ v rfl w rfl
  rfl

theorem State.restTypec_of_lt {n : Nat} (hn : n < 4) : s.restTypec n = if s.sourceEn n = false then 5 else 0 := by
  simp [State.restTypec, hn]

theorem execKeeperRelease_acts (lost : List ErrRegion) {u : State} :
    Acts (.keeperRelease lost) s (s.boot.keep = true ∧ s.boot.released = false ∧ s.boot.held = false) (fun t => ∀ v : State,
      v = (forAll lost (s.setBoot { s.boot with released := true }) (fun s r => s.checkDual r)).setFlag (Reg.PD_PORT_DEAD_BATTERY 4) false →
      u = forAll [0, 1, 2, 3] v (fun s n => s.set (Reg.PD_PORT_TYPEC n) (s.restTypec n)) →
      (u.get Reg.RESET_CAUSE_KIND = 3 → t = u.setWord Reg.POWER_CYCLES (u.word Reg.POWER_CYCLES + 1)) ∧
      (u.get Reg.RESET_CAUSE_KIND ≠ 3 → t = u)) := by
  refine Acts.of_ite_not rfl (by simp [and_assoc]) ?_
  rintro _ v rfl rfl
  exact ⟨fun h => if_pos (beq_iff_eq.mpr h), fun h => if_neg (mt beq_iff_eq.mp h)⟩

section
variable {s} {slot : Fin 2} {image : ImageFacts}

theorem execImageVerified_acts :
    Acts (.imageVerified slot image) s (s.reading slot.val = true)
      (fun t => t = if bootCheck image ≠ 0 then s.slotFails slot.val (bootCheck image) else s.imageStarts slot.val image) :=
  Acts.of_ite_not rfl (by simp) fun _ => rfl

theorem bootCheck_of_noAnswer (ha : image.answers = false) : bootCheck image = 1 := by
  simp [bootCheck, ha]

section
variable (ha : image.answers = true)
include ha

theorem bootCheck_of_badHeader (hh : imageHeaderOk image = false) : bootCheck image = 2 := by
  simp [bootCheck, ha, hh]

variable (hh : imageHeaderOk image = true)
include hh

/-- The test root does not sign what is booted (R443). -/
theorem bootCheck_of_otherSigner (hs : image.signer ≠ .vendor) : bootCheck image = 3 := by
  simp [bootCheck, ha, hh, hs]

variable (hs : image.signer = .vendor)
include hs

theorem bootCheck_of_badDigest (hd : image.digestOk = false) : bootCheck image = 4 := by
  simp [bootCheck, ha, hh, hs, hd]

theorem bootCheck_of_passed (hd : image.digestOk = true) : bootCheck image = 0 := by
  simp [bootCheck, ha, hh, hs, hd]

end

end

theorem execBootFlashTimeout_acts (slot : Fin 2) :
    Acts (.bootFlashTimeout slot) s (s.reading slot.val = true) (fun t => t = s.slotFails slot.val 1) :=
  Acts.of_ite rfl Iff.rfl fun _ => rfl

theorem execTrialEnd_acts :
    Acts .trialEnd s (s.flag Reg.BOOT_STATE_TRIAL = true ∧ s.postmasterRuns = true ∧ s.boot.trialSince + 80000 ≤ s.boot.ticks)
      (fun t => t = s.setFlag Reg.BOOT_STATE_TRIAL false) :=
  Acts.of_ite rfl (by simp [and_assoc]) fun _ => rfl

/-- CORE may rise after the keeper's tests, whatever they found; what failed is a CRYPTO_ERROR (R444, R476). -/
theorem execKeeperSelfTestDone_acts (tests : KeeperTests) {u : State} :
    Acts (.keeperSelfTestDone tests) s (s.boot.released = true ∧ s.boot.tested = false) (fun t =>
      u = (s.setBoot { s.boot with tested := true }).setFlag Reg.SELF_TEST_KEEPER_OK (tests == .passed) →
      (tests = .passed → t = ((u.setFlag Reg.SEC_STATE_CRYPTO_ERROR false).syncApproved).tryCore) ∧
      (tests = .entropy → t = (u.cryptoError 0).tryCore) ∧
      (tests = .answers → t = (u.cryptoError 1).tryCore)) := by
  refine Acts.of_ite rfl (by simp) ?_
  rintro _ rfl
  refine ⟨?_, ?_, ?_⟩ <;> (rintro rfl; rfl)

theorem execImageReloadDone_acts (passed : Bool) {u : State} :
    Acts (.imageReloadDone passed) s (s.boot.reloading = true ∧ s.powered .core = true) (fun t =>
      u = s.setBoot { s.boot with reloading := false } → (passed = true → t = u) ∧ (passed = false → t = u.bigFault 1 20)) := by
  refine Acts.of_ite rfl (by simp) ?_
  rintro _ rfl
  exact ⟨fun hp => if_pos hp, fun hp => if_neg (by simp [hp])⟩

/-- Settles O55: each command is its test and its effect, and an image fails by the first check of R478 that it does not pass. -/
theorem startUpCommandsAct : Obligations.StartUpCommandsAct := by
  intro s u
  refine ⟨execPowerOn_acts s, execKeepLoss_acts s, fun n => ?_, fun lost => execKeeperRelease_acts s lost,
    fun slot image => ⟨⟨fun hr => ?_, execImageVerified_acts.2⟩, execBootFlashTimeout_acts s slot⟩, execTrialEnd_acts s,
    fun tests => execKeeperSelfTestDone_acts s tests, fun passed => execImageReloadDone_acts s passed⟩
  · rw [State.restTypec_of_lt s n.isLt]
    exact ⟨fun he => if_pos he, fun he => if_neg (by simp [he])⟩
  · obtain ⟨t, ht, rfl⟩ := execImageVerified_acts.1 hr
    refine Does.of_eq ht ⟨fun ha => ?_, fun ha hh => ?_, fun ha hh hs => ?_, fun ha hh hs hd => ?_, fun ha hh hs hd => ?_⟩
    · rw [bootCheck_of_noAnswer ha, if_pos (by decide)]
    · rw [bootCheck_of_badHeader ha hh, if_pos (by decide)]
    · rw [bootCheck_of_otherSigner ha hh hs, if_pos (by decide)]
    · rw [bootCheck_of_badDigest ha hh hs hd, if_pos (by decide)]
    · rw [bootCheck_of_passed ha hh hs hd, if_neg (by decide)]

end Machine
end Sys2Proof
end

section
/-!
SUPPORT. Storage (R279 to R283, R288, R289): the device's enumeration, submissions of the VFs, completions and their limit; and the
sub-ports of Ethernet (R284 to R287, R293).
-/
namespace Sys2Proof
namespace Machine

section
variable {s u : State} {ok sw rd : Bool} {ns : Byte} {sz : List (BitVec 64)} {g w : Fin 16}

theorem execSsdEnumerate_of_unpowered (hp : s.powered .hostio = false) : exec (.ssdEnumerate ok sw rd ns sz g w) s = .next s :=
  congrArg Host.Outcome.next (if_pos (by simp [hp]))

section
variable (hp : s.powered .hostio = true) (hu : u = (s.set Reg.SSD_STATE_GEN g.val).set Reg.SSD_STATE_WIDTH w.val)
include hp hu

/-- A device of another class, or behind a switch, is not taken (R279). -/
theorem execSsdEnumerate_of_unfit (h : ok = false ∨ sw = true) :
    exec (.ssdEnumerate ok sw rd ns sz g w) s = .next (u.setSsd 4) := by
  subst hu
  exact congrArg Host.Outcome.next ((if_neg (by simp [hp])).trans (if_pos (by simpa using h)))

theorem execSsdEnumerate_of_fit (hok : ok = true) (hsw : sw = false) : exec (.ssdEnumerate ok sw rd ns sz g w) s = .next
    ((State.set { u with media := { u.media with nsSizes := sz.map BitVec.toNat } } Reg.SSD_STATE_NAMESPACES ns.toNat).setSsd
      (if rd then 2 else 1)) := by
  subst hu
  exact congrArg Host.Outcome.next ((if_neg (by simp [hp])).trans (if_neg (by simp [hok, hsw])))

end
end

section
variable {s : State} {vf : Fin 48} {admin : Bool} {op : Byte} {ns : Word} {lba count : Nat} {x : VfSub}

theorem execVfSubmission_of_unpowered (hp : s.powered .hostio = false) : exec (.vfSubmission vf admin op ns lba count) s = .next s :=
  congrArg Host.Outcome.next (if_pos (by simp [hp]))

section
variable (hx : x = ⟨vf.val, admin, op.toNat, ns.toNat, lba, count⟩) (hp : s.powered .hostio = true)
include hx hp

/-- Behind a submission of its VF and namespace that waits, one for the namespace waits too (R282). -/
theorem execVfSubmission_of_behind (ha : admin = false) (hw : ∃ w ∈ s.media.held, w.vf = x.vf ∧ w.vnsid = x.vnsid) :
    exec (.vfSubmission vf admin op ns lba count) s = .next
      (State.vfWaits { s with media := { s.media with held := s.media.held ++ [x] } } x.vf) := by
  subst hx
  exact congrArg Host.Outcome.next ((if_neg (by simp [hp])).trans (if_pos (by simpa [ha] using hw)))

theorem execVfSubmission_of_first (h : admin = true ∨ ∀ w ∈ s.media.held, ¬ (w.vf = x.vf ∧ w.vnsid = x.vnsid)) :
    exec (.vfSubmission vf admin op ns lba count) s = .next (s.runSubmission x) := by
  subst hx
  refine congrArg Host.Outcome.next ((if_neg (by simp [hp])).trans (if_neg ?_))
  rcases h with rfl | hw
  · simp
  · simpa using fun _ => hw

end
end

section
variable {s : State} {k : Nat} {st : BitVec 16} {c : NvmeCmd}

/-- A completion from a far relay that answers no remote command is late (R283). -/
theorem execRemoteCompletion_of_late (h : ∀ c, mget s.media.cmds k = some c → c.remote = false) :
    exec (.remoteCompletion k st) s = .next (s.bump Cnt.STORAGE_LATE_COMPLETIONS) := by
  change execRemoteCompletion k st s = _
  cases hc : mget s.media.cmds k with
  | none => simp only [execRemoteCompletion, hc]
  | some c => simp only [execRemoteCompletion, hc, h c hc, Bool.false_eq_true, if_false]

/-- A completion from the device that answers no local command is late (R288). -/
theorem execSsdCompletion_of_late (h : ∀ c, mget s.media.cmds k = some c → c.remote = true) :
    exec (.ssdCompletion k st) s = .next (s.bump Cnt.STORAGE_LATE_COMPLETIONS) := by
  change execSsdCompletion k st s = _
  cases hc : mget s.media.cmds k with
  | none => simp only [execSsdCompletion, hc]
  | some c => simp only [execSsdCompletion, hc, h c hc, if_true]

theorem execCmdTimeout_of_none (hc : mget s.media.cmds k = none) : exec (.cmdTimeout k) s = .next s := by
  change execCmdTimeout k s = _
  simp only [execCmdTimeout, hc]

section
variable (hc : mget s.media.cmds k = some c)
include hc

theorem execRemoteCompletion_of_remote (hr : c.remote = true) :
    exec (.remoteCompletion k st) s = .next (((s.dropNvme k).nvmeDone c st.toNat).fetchHeld) := by
  change execRemoteCompletion k st s = _
  simp only [execRemoteCompletion, hc, hr, if_true]

/-- The device's status passes unchanged, and one that is no success is counted (R282, R288). -/
theorem execSsdCompletion_of_local (hr : c.remote = false) : exec (.ssdCompletion k st) s = .next
    ((((s.when (st != 0) (fun s => s.bump Cnt.STORAGE_SSD_ERRORS)).dropNvme k).nvmeDone c st.toNat).fetchHeld) := by
  change execSsdCompletion k st s = _
  simp only [execSsdCompletion, hc, hr, Bool.false_eq_true, if_false]

theorem execSsdCompletion_of_error (hr : c.remote = false) (hs : st ≠ 0) : exec (.ssdCompletion k st) s = .next
    ((((s.bump Cnt.STORAGE_SSD_ERRORS).dropNvme k).nvmeDone c st.toNat).fetchHeld) := by
  rw [execSsdCompletion_of_local hc hr, bne_iff_ne.mpr hs, State.when_true]

theorem execSsdCompletion_of_success (hr : c.remote = false) (hs : st = 0) :
    exec (.ssdCompletion k st) s = .next (((s.dropNvme k).nvmeDone c 0).fetchHeld) := by
  subst hs
  rw [execSsdCompletion_of_local hc hr, bne_self_eq_false, State.when_false]
  rfl

theorem execCmdTimeout_acts :
    Acts (.cmdTimeout k) s (c.remote = true ∧ c.since + s.get Reg.RELAY_CFG_CMD_TIMEOUT * 8000 ≤ s.round)
      (fun t => t = (s.nvmeTimeout k c).fetchHeld) := by
  refine Acts.of_ite ?_ Iff.rfl fun _ => rfl
  change execCmdTimeout k s = _
  simp only [execCmdTimeout, hc]

end
end

/-- While sub-port 10 takes no frames, the doorbell's tail is kept and its head stands (R287). -/
theorem execPf1TxDoorbell_of_off {s : State} {q : Fin 32} {tail : Fin 4096} {frames : List EthFrame} (h : s.subOn 10 = false) {head : Nat}
    (hh : head = ((mget s.media.tx q.val).getD (0, 0)).1) : exec (.pf1TxDoorbell q tail frames) s = .next
      { s with media := { s.media with tx := mput s.media.tx q.val (head, tail.val) } } := by
  subst hh
  exact congrArg Host.Outcome.next (if_neg (by simp [h]))

theorem execPf1TxDoorbell_of_on {s u : State} {q : Fin 32} {tail : Fin 4096} {frames : List EthFrame} (h : s.subOn 10 = true)
    (hu : u = { s with media := { s.media with tx := mput s.media.tx q.val (tail.val, tail.val) } }) :
    exec (.pf1TxDoorbell q tail frames) s = .next (forAll frames u (fun s f => s.etherIngress 10 { f with fcsOk := true })) := by
  subst hu
  exact congrArg Host.Outcome.next (if_pos h)

section
variable {s u : State} {sub : Fin 11} {link : EtherPhy} {fault on : Bool}
  (hon : on = true ↔ (link = .up ∨ (link = .slow ∧ (sub.val < 2 ∨ sub.val = 10))) ∧
    s.powered (if sub.val = 10 then .hostio else .station) = true ∧ s.servicePowered = false ∧ s.flag (Reg.SUB_CFG_EN sub.val) = true)
  (hu : u = s.setFlag (Reg.SUB_STATE_REMOTE_FAULT sub.val) fault)
include hon hu

/-- The sub-port's LINK follows what its line, its domain and its EN allow, and a change of it is told (R284, R293). -/
theorem execEtherLink_eq : exec (.etherLink sub link fault) s = .next
    (if u.flag (Reg.SUB_STATE_LINK sub.val) = on then u
      else ((u.setFlag (Reg.SUB_STATE_LINK sub.val) on).when (!on) (fun s => s.subDown sub.val)).notice 0x8082
        [sub.val, if on then 1 else 0]) := by
  have he : on = ((link == .up || (link == .slow && (sub.val < 2 || sub.val == 10))) &&
      s.powered (if sub.val = 10 then .hostio else .station) && !s.servicePowered && s.flag (Reg.SUB_CFG_EN sub.val)) :=
    Bool.eq_iff_iff.mpr (hon.trans (by simp [and_assoc]))
  subst hu he
  rfl

theorem execEtherLink_of_same (h : u.flag (Reg.SUB_STATE_LINK sub.val) = on) : exec (.etherLink sub link fault) s = .next u := by
  rw [execEtherLink_eq hon hu, if_pos h]

section
variable (h : u.flag (Reg.SUB_STATE_LINK sub.val) ≠ on)
include h

theorem execEtherLink_of_up (ho : on = true) : exec (.etherLink sub link fault) s = .next
    ((u.setFlag (Reg.SUB_STATE_LINK sub.val) true).notice 0x8082 [sub.val, 1]) := by
  rw [execEtherLink_eq hon hu, if_neg h, ho, Bool.not_true, State.when_false, if_pos rfl]

/-- What waits for a sub-port whose link goes down is discarded (R286). -/
theorem execEtherLink_of_down (ho : on = false) : exec (.etherLink sub link fault) s = .next
    (((u.setFlag (Reg.SUB_STATE_LINK sub.val) false).subDown sub.val).notice 0x8082 [sub.val, 0]) := by
  rw [execEtherLink_eq hon hu, if_neg h, ho, Bool.not_false, State.when_true, if_neg Bool.false_ne_true]

end
end

/-- Settles O44: each command is its tests and its effect, and a completion is told apart by the command it answers. -/
theorem storageAndEthernetCommandsAct : Obligations.StorageAndEthernetCommandsAct := by
  refine ⟨fun s u => ⟨fun ok sw rd ns sz g w => execSsdEnumerate_of_unpowered,
      fun ok sw rd ns sz g w hp hu => ⟨execSsdEnumerate_of_unfit hp hu, execSsdEnumerate_of_fit hp hu⟩,
      Acts.of_ite rfl Iff.rfl fun _ => rfl,
      fun vf admin op ns lba count x hx => ⟨execVfSubmission_of_unpowered,
        fun hp => ⟨execVfSubmission_of_behind hx hp, execVfSubmission_of_first hx hp⟩⟩,
      fun k st => ⟨fun hc => ?_, fun c hc => ⟨fun hr => ?_, fun hr => ?_, execCmdTimeout_acts hc⟩⟩,
      fun vf => Does.of_eq rfl rfl, Acts.of_ite rfl Iff.rfl fun _ => rfl⟩,
    fun s u sub => ⟨fun f => Acts.of_ite rfl Iff.rfl fun _ => rfl,
      fun q tail frames => ⟨execPf1TxDoorbell_of_on, fun h head => execPf1TxDoorbell_of_off h⟩,
      fun link fault on hon hu => ⟨execEtherLink_of_same hon hu, execEtherLink_of_up hon hu, execEtherLink_of_down hon hu⟩⟩⟩
  · exact ⟨execRemoteCompletion_of_late (by simp [hc]), execSsdCompletion_of_late (by simp [hc]), execCmdTimeout_of_none hc⟩
  · exact ⟨execRemoteCompletion_of_remote hc hr, execSsdCompletion_of_late (by simp [hc, hr])⟩
  · exact ⟨execRemoteCompletion_of_late (by simp [hc, hr]), execSsdCompletion_of_error hc hr, execSsdCompletion_of_success hc hr⟩

end Machine
end Sys2Proof
end

section
/-!
SUPPORT. Tunnelled USB trees (R295 to R300, R311): a transfer's completion and its limit, the bandwidth an endpoint asks for, keep-alives; and
the hub ports (R301 to R304).
-/
namespace Sys2Proof
namespace Machine

theorem State.lateCompletion_eq (s : State) (r n : Nat) : s.lateCompletion r n =
    if s.usb.missed.contains (n, r) = true then
      State.bump { s with usb := { s.usb with missed := s.usb.missed.erase (n, r) } } (Cnt.USB_ISO_MISSED r)
    else s.bump (Cnt.USB_LATE_COMPLETIONS r) := rfl

section
variable {s : State} {tree : Fin 16} {n : Nat} {code : Byte}

section
variable (h : ∀ x, mget s.usb.transfers n = some x → x.tree ≠ tree.val)
include h

/-- A completion of no transfer that is pending on the tree is late (R297). -/
theorem execTransferCompletion_of_notPending :
    exec (.transferCompletion tree n code) s = .next (s.lateCompletion tree.val n) := by
  change execTransferCompletion tree n code s = _
  cases hx : mget s.usb.transfers n with
  | none => simp only [execTransferCompletion, hx]
  | some x => simp only [execTransferCompletion, hx, if_pos (h x hx)]

theorem execXferTimeout_of_notPending : exec (.xferTimeout tree n) s = .next s := by
  change execXferTimeout tree n s = _
  cases hx : mget s.usb.transfers n with
  | none => simp only [execXferTimeout, hx]
  | some x => simp only [execXferTimeout, hx, h x hx, false_and, if_false]

end

section
variable {x : Transfer} (hx : mget s.usb.transfers n = some x) (ht : x.tree = tree.val)
include hx ht

/-- In the round the limit of a pending transfer ends, the limit decides; under NAK and for a microframe none runs (R297, R300). -/
theorem execTransferCompletion_of_pending :
    exec (.transferCompletion tree n code) s = .next
      (if x.micro = 0 ∧ !mayNak x.kind ∧ s.transferLate x then
        ((s.transferDone n x ccTransactionError).bump (Cnt.USB_XFER_TIMEOUTS tree.val)).bump (Cnt.USB_LATE_COMPLETIONS tree.val)
      else s.transferDone n x code.toNat) := by
  change execTransferCompletion tree n code s = _
  simp only [execTransferCompletion, hx]
  exact congrArg Host.Outcome.next (if_neg (not_not.mpr ht))

theorem execXferTimeout_acts : Acts (.xferTimeout tree n) s (s.transferLate x = true)
    (fun t => t = (s.transferDone n x ccTransactionError).bump (Cnt.USB_XFER_TIMEOUTS tree.val)) := by
  refine Acts.of_ite (test := x.tree = tree.val ∧ s.transferLate x = true) ?_ (by simp [ht]) fun _ => rfl
  change execXferTimeout tree n s = _
  simp only [execXferTimeout, hx]

end

section
variable {bytes packets b : Nat} (hb : b = s.get (isoBoxFld tree.val))
include hb

theorem execConfigureEndpoint_of_closed (h : b = 0 ∨ (s.box b).state ≠ .opened) :
    exec (.configureEndpoint tree bytes packets) s = .next (s.emit (.bus 3 tree.val 4 [ccResourceError])) := by
  subst hb
  change execConfigureEndpoint tree bytes packets s = _
  simp only [execConfigureEndpoint, if_pos h]

section
variable (h0 : b ≠ 0) (ho : (s.box b).state = .opened)
include h0 ho

theorem execConfigureEndpoint_of_noFlow (hf : (s.box b).flow = none) :
    exec (.configureEndpoint tree bytes packets) s = .next (s.emit (.bus 3 tree.val 4 [ccSuccess])) := by
  subst hb
  change execConfigureEndpoint tree bytes packets s = _
  simp only [execConfigureEndpoint, hf, ho, h0, ne_eq, not_true, or_self, if_false]

/-- Over a flow the endpoint has the bandwidth that the slots of the tree's microframe find in its allotment (R300). -/
theorem execConfigureEndpoint_of_flow {i : Nat} (hf : (s.box b).flow = some i) :
    exec (.configureEndpoint tree bytes packets) s = .next (s.emit (.bus 3 tree.val 4
      [if s.get (Reg.ISO_ALLOT_PRI i) < isoSlots bytes packets then ccBandwidthError else ccSuccess])) := by
  subst hb
  change execConfigureEndpoint tree bytes packets s = _
  simp only [execConfigureEndpoint, hf, ho, h0, ne_eq, not_true, or_self, if_false]

end
end
end

theorem execTransferRequest_acts (s : State) (tree : Fin 16) (k : TransferKind) {x : Transfer}
    (hx : x = ⟨tree.val, k, s.boot.ticks, if k = .isoIn ∨ k = .isoOut then s.round + s.get Reg.TREE_CFG_ISO_LEAD + 1 else 0, false⟩) :
    Acts (.transferRequest tree k) s (s.attached tree.val = true) (fun t => t = State.emit { s with
      usb := { s.usb with next := s.usb.next + 1, transfers := mput s.usb.transfers s.usb.next x } } (.bus 3 tree.val 3 [s.usb.next])) := by
  subst hx
  refine Acts.of_ite_not rfl (by simp) fun _ => ?_
  cases k <;> rfl

/-- An end sends its first keep-alive at once, and every other 800 periods after the last (R298). -/
theorem execKeepAliveSend_acts (s : State) (far : Fin 17) :
    Acts (.keepAliveSend far) s (s.treeOpen far.val = true ∧ ∀ k, (s.tree far.val).sentAt = some k → k + 800 ≤ s.boot.ticks) (fun t =>
      ∀ x : Box, x = s.box (s.get (ctlBoxFld far.val)) →
      t = (s.setTree far.val { s.tree far.val with sentAt := some s.boot.ticks }).emit (.bus 7 far.val 5 [x.peerPc, x.peerBox])) := by
  refine Acts.of_ite rfl ?_ (by rintro _ x rfl; rfl)
  cases hk : (s.tree far.val).sentAt with
  | none => simp
  | some k => simp

section
variable (s : State) (n : Fin 4)

/-- USB 3 speeds are left out where SS_EN is 0 (R302). -/
theorem execPortResetComplete_acts (speed : Fin 6) :
    Acts (.portResetComplete n speed) s (s.portStateUsb n.val = 2 ∧ (s.usbPort n.val).resetting = true) (fun t =>
      (s.flag (Reg.USB_PORT_CFG_SS_EN n.val) = true → t = (s.clearPort n.val).setUsbState n.val 3 speed.val) ∧
      (s.flag (Reg.USB_PORT_CFG_SS_EN n.val) = false → t = (s.clearPort n.val).setUsbState n.val 3 (min 3 speed.val))) := by
  refine Acts.of_ite rfl Iff.rfl fun _ => ⟨fun h => ?_, fun h => ?_⟩
  · rw [if_pos h]
  · rw [if_neg (by simp [h])]

/-- A wake that meets the host's resume gives way to it; any other resumes the port (R303, R304). -/
theorem execRemoteWake_acts : Acts (.remoteWake n) s (s.portStateUsb n.val = 4) (fun t =>
    ((s.usbPort n.val).resume = .host → t = (s.bump (Cnt.USB_WAKES n.val)).mergeWake n.val) ∧
    ((s.usbPort n.val).resume ≠ .host → ∀ u : State, u = s.bump (Cnt.USB_WAKES n.val) →
      t = (u.updUsbPort n.val (fun x => { x with resume := .wake, since := u.boot.ticks })).setUsbState n.val 3 (u.portSpeed n.val))) := by
  refine Acts.of_ite rfl Iff.rfl fun _ => ⟨fun h => if_pos h, ?_⟩
  rintro h u rfl
  exact if_neg h

end

/-- Settles O45: a transfer is met by its number and tree, an endpoint by its box and flow, and each change of a port is the test of its state
and its effect. -/
theorem usbTreesAndPortsAct : Obligations.UsbTreesAndPortsAct := by
  refine ⟨fun s tree far => ⟨fun k x => execTransferRequest_acts s tree k,
      fun n code => ⟨fun h => ⟨fun hm => ?_, fun hm => ?_, execXferTimeout_of_notPending h⟩,
        fun x hx ht => ⟨fun hl => ?_, fun hl => ?_, execXferTimeout_acts hx ht⟩⟩,
      fun bytes packets b hb => ⟨execConfigureEndpoint_of_closed hb, fun h0 ho => ⟨execConfigureEndpoint_of_noFlow hb h0 ho,
        fun i hf => ⟨fun hs => ?_, fun hs => ?_⟩⟩⟩,
      execKeepAliveSend_acts s far, Acts.of_ite rfl Iff.rfl fun _ => rfl, Acts.of_ite rfl (by simp) fun _ => rfl⟩,
    fun s n => ⟨Acts.of_ite rfl Iff.rfl fun _ => rfl, Does.of_eq rfl rfl, Acts.of_ite rfl Iff.rfl fun _ => rfl,
      execPortResetComplete_acts s n, Acts.of_ite rfl Iff.rfl fun _ => rfl, Acts.of_ite rfl Iff.rfl fun _ => rfl, Does.of_eq rfl rfl,
      Does.of_eq rfl rfl, execRemoteWake_acts s n, Acts.of_ite rfl Iff.rfl fun _ => rfl, fun gen2 => Acts.of_ite rfl Iff.rfl fun _ => rfl,
      fun speed => Acts.of_ite rfl Iff.rfl fun _ => rfl, Acts.of_ite rfl Iff.rfl fun _ => rfl, Does.of_eq rfl rfl,
      Acts.of_ite rfl Iff.rfl fun _ => rfl⟩⟩
  · rw [execTransferCompletion_of_notPending h, State.lateCompletion_eq, if_neg (Bool.eq_false_iff.mp hm)]
  · rw [execTransferCompletion_of_notPending h, State.lateCompletion_eq, if_pos hm]
  · rw [execTransferCompletion_of_pending hx ht, if_pos (by simpa using hl)]
  · rw [execTransferCompletion_of_pending hx ht, if_neg (by simpa using hl)]
  · rw [execConfigureEndpoint_of_flow hb h0 ho hf, if_neg hs.not_gt]
  · rw [execConfigureEndpoint_of_flow hb h0 ho hf, if_pos hs]

end Machine
end Sys2Proof
end

section
/-!
SUPPORT. The service port (R306 to R310, R313, R349): the vendor requests, the status stage, the IN transfers and the device's states.
-/
namespace Sys2Proof
namespace Machine

@[simp] theorem State.setSvc_svc (s : State) (v : Svc) : (s.setSvc v).cmd.svc = v := rfl

section
variable {s : State}

/-- A device that is not configured has no requests and no transfers (R309). -/
theorem execServiceRequests_of_unconfigured (hc : s.svcConfigured = false) :
    (∀ p, exec (.sendCommand p) s = .next s) ∧ (∀ t w, exec (.getReceipt t w) s = .next s) ∧
      exec .getState s = .next s ∧ (∀ r, exec (.svcInTransfer r) s = .next s) ∧ (∀ n, exec (.dataStagePause n) s = .next s) := by
  have hn : (!s.svcConfigured) = true := by simp [hc]
  exact ⟨fun _ => congrArg Host.Outcome.next (if_pos hn), fun _ _ => congrArg Host.Outcome.next (if_pos hn),
    congrArg Host.Outcome.next (if_pos hn), fun _ => congrArg Host.Outcome.next (if_pos hn),
    fun _ => congrArg Host.Outcome.next (if_neg (by simp [hc]))⟩

section
variable (hc : s.svcConfigured = true)
include hc

section
variable {p : List Byte}

theorem execSendCommand_of_badSize (h : p.length < 32 ∨ 4096 < p.length) :
    exec (.sendCommand p) s = .next (s.svcStall .badLength) :=
  congrArg Host.Outcome.next ((if_neg (by simp [hc])).trans (if_pos h))

section
variable (hlo : 32 ≤ p.length) (hhi : p.length ≤ 4096)
include hlo hhi

/-- A packet that fails check 1 or 2 is a STALL at its data stage (R308). -/
theorem execSendCommand_of_stalled {st : Status} (hp : packetCheck (svcHdr p) p = some st) (hst : st = .badLength ∨ st = .badCrc) :
    exec (.sendCommand p) s = .next (s.svcStall st) := by
  refine congrArg Host.Outcome.next ((if_neg (by simp [hc])).trans ((if_neg (by omega)).trans ?_))
  rcases hst with rfl | rfl
  · simp only [hp]
  · simp only [hp]

/-- What the later checks find is the book's to answer (R308, R343). -/
theorem execSendCommand_of_accepted (h : ∀ st, packetCheck (svcHdr p) p = some st → st ≠ .badLength ∧ st ≠ .badCrc) :
    exec (.sendCommand p) s = .next (s.setSvc { s.cmd.svc with packets := s.cmd.svc.packets ++ [p] }) := by
  refine congrArg Host.Outcome.next ((if_neg (by simp [hc])).trans ((if_neg (by omega)).trans ?_))
  split
  next hp => exact absurd rfl (h _ hp).1
  next hp => exact absurd rfl (h _ hp).2
  next => rfl

end
end

section
variable {tag : BitVec 16} {w : Fin 4097}

theorem execGetReceipt_of_short (hw : w.val < 4) :
    exec (.getReceipt tag w) s = .next ((s.bump Cnt.USB_CMD_REJECTED).emit (.refused 64 .badParam)) :=
  congrArg Host.Outcome.next ((if_neg (by simp [hc])).trans (if_pos hw))

/-- The tag's state is put out, and a receipt so handed over is counted (R307). -/
theorem execGetReceipt_of_room {bytes : List Byte} {x : State} (hw : 4 ≤ w.val) (hx : s.tagState 64 tag.toNat w.val = (bytes, x)) :
    exec (.getReceipt tag w) s = .next
      (if leAt bytes 0 1 = 2 then (x.emit (.bytes 64 bytes)).bump Cnt.USB_RECEIPTS_REISSUED else x.emit (.bytes 64 bytes)) := by
  change execGetReceipt tag w s = _
  simp only [execGetReceipt, hx]
  exact congrArg Host.Outcome.next ((if_neg (by simp [hc])).trans (if_neg hw.not_gt))

end

theorem execGetState_of_configured : exec .getState s = .next (s.emit (.bytes 64
    (s.stateWord 64 (s.get Reg.SVC_STATE_LAST_REJECT) (min 32 s.cmd.svc.receipts.length) (min 64 s.cmd.svc.notices.length)))) :=
  congrArg Host.Outcome.next (if_neg (by simp [hc]))

theorem execDataStagePause_of_partial {n : Nat} (hn : 0 < n) : exec (.dataStagePause n) s = .next (s.bump Cnt.USB_CMD_DISCARDED) :=
  congrArg Host.Outcome.next (if_pos ⟨hn, hc⟩)

theorem execSvcInTransfer_of_noReceipt (h : s.cmd.svc.receipts = []) : exec (.svcInTransfer true) s = .next s := by
  change execSvcInTransfer true s = _
  simp only [execSvcInTransfer, h]
  exact congrArg Host.Outcome.next (if_neg (by simp [hc]))

theorem execSvcInTransfer_of_noNotice (h : s.cmd.svc.notices = []) : exec (.svcInTransfer false) s = .next s := by
  change execSvcInTransfer false s = _
  simp only [execSvcInTransfer, h]
  exact congrArg Host.Outcome.next (if_neg (by simp [hc]))

/-- At the speed of USB 3 EP1 IN's data packets are numbered on (R306). -/
theorem execSvcInTransfer_of_receipt {r : Receipt} {rest : List Receipt} {q : Nat} (h : s.cmd.svc.receipts = r :: rest)
    (hq : q = (if s.get Reg.SVC_STATE_SPEED = 2 then (s.cmd.svc.inSeq + inPackets r.bytes.length 1024) % 32 else s.cmd.svc.inSeq)) :
    exec (.svcInTransfer true) s = .next
      (((s.setSvc { s.cmd.svc with receipts := rest, inSeq := q }).emit (.receipt 64 r)).inTransfer s.svcPacket r.bytes).fillIn := by
  subst hq
  change execSvcInTransfer true s = _
  simp only [execSvcInTransfer, h]
  exact congrArg Host.Outcome.next (if_neg (by simp [hc]))

theorem execSvcInTransfer_of_notice {n : Notice} {rest : List Notice} (h : s.cmd.svc.notices = n :: rest) :
    exec (.svcInTransfer false) s = .next
      (((s.setSvc { s.cmd.svc with notices := rest }).inTransfer 1024 n.bytes).fillIn).flushLost := by
  change execSvcInTransfer false s = _
  simp only [execSvcInTransfer, h]
  exact congrArg Host.Outcome.next (if_neg (by simp [hc]))

end

section
variable {written : Bool}

theorem execSvcStatusAck_of_none (h : s.cmd.svc.packets = []) : exec (.svcStatusAck written) s = .next s := by
  change execSvcStatusAck written s = _
  simp only [execSvcStatusAck, h]

section
variable {p : List Byte} {rest : List (List Byte)} (h : s.cmd.svc.packets = p :: rest)
include h

/-- While the book takes no packets the status stage is held (R349). -/
theorem execSvcStatusAck_of_held (hr : s.ready = false) : exec (.svcStatusAck written) s = .next (s.emit (.held 64)) := by
  change execSvcStatusAck written s = _
  simp only [execSvcStatusAck, h]
  exact congrArg Host.Outcome.next (if_pos (by simp [hr]))

theorem execSvcStatusAck_of_ready {u : State} (hr : s.ready = true) (hu : u = s.setSvc { s.cmd.svc with packets := rest }) :
    exec (.svcStatusAck written) s = .next (if written then u.submit (svcHdr p) p 4080 else u.svcStall .hwFault) := by
  subst hu
  change execSvcStatusAck written s = _
  simp only [execSvcStatusAck, h]
  exact congrArg Host.Outcome.next (if_neg (by simp [hr]))

end
end

section
variable {r : SvcReset} {u : State}

theorem execSvcBusReset_of_unpowered (hp : s.powered .station = false) : exec (.svcBusReset r) s = .next s :=
  congrArg Host.Outcome.next (if_pos (by simp [hp]))

/-- The reset counts a data stage that it cut, and leaves the device in the default state (R309). -/
theorem execSvcBusReset_of_powered (hp : s.powered .station = true)
    (hwhole : r.partialBytes = 0 ∨ s.svcConfigured = false → u = s.bump Cnt.USB_BUS_RESETS)
    (hcut : 0 < r.partialBytes → s.svcConfigured = true → u = (s.bump Cnt.USB_BUS_RESETS).bump Cnt.USB_CMD_DISCARDED) :
    exec (.svcBusReset r) s = .next ((u.svcQuiet (if r.gen1 then 2 else 1)).setDevState 1) := by
  have hu : u = (s.bump Cnt.USB_BUS_RESETS).when (decide (0 < r.partialBytes) && s.svcConfigured)
      (fun s => s.bump Cnt.USB_CMD_DISCARDED) := by
    by_cases h : 0 < r.partialBytes ∧ s.svcConfigured = true
    · obtain ⟨hp, hc⟩ := h
      rw [hcut hp hc, decide_eq_true hp, hc, Bool.and_self, State.when_true]
    · have hw : r.partialBytes = 0 ∨ s.svcConfigured = false := by
        simpa [Nat.pos_iff_ne_zero, imp_iff_not_or] using h
      have hn : (decide (0 < r.partialBytes) && s.svcConfigured) = false := by simpa using h
      rw [hwhole hw, hn, State.when_false]
  subst hu
  exact congrArg Host.Outcome.next (if_neg (by simp [hp]))

end

section
variable {d : Nat} (hd : d = s.get Reg.SVC_STATE_DEV_STATE)
include hd

theorem execSvcSuspend_of_away (h : d = 0 ∨ 4 ≤ d) : exec .svcSuspend s = .next s := by
  subst hd
  exact congrArg Host.Outcome.next (if_pos h)

/-- The state the device is suspended in is the one it resumes to (R313). -/
theorem execSvcSuspend_of_attached (h0 : 0 < d) (h4 : d < 4) :
    exec .svcSuspend s = .next ((s.setSvc { s.cmd.svc with suspended := d }).setDevState 4) := by
  subst hd
  exact congrArg Host.Outcome.next (if_neg (by omega))

end

/-- A resume of the host that meets the device's own wake takes its place (R310). -/
theorem execSvcHostResume_acts (s : State) : Acts .svcHostResume s (s.get Reg.SVC_STATE_DEV_STATE = 4) (fun t =>
    (s.cmd.svc.waking = false → t = (s.setDevState s.cmd.svc.suspended).fillIn) ∧
    (s.cmd.svc.waking = true → t =
      (((s.setSvc { s.cmd.svc with waking := false }).bump Cnt.USB_SVC_WAKES_MERGED).setDevState s.cmd.svc.suspended).fillIn)) := by
  refine Acts.of_ite rfl Iff.rfl fun _ => ⟨fun h => ?_, fun h => ?_⟩
  · rw [h, State.when_false]
  · rw [h]
    dsimp only
    rw [State.when_true, State.bump_cmd, State.setSvc_svc]

end

/-- Settles O46: a request is met by the device's state and then by its own checks, a packet's end by what the book takes, and each change of
the device's state is its test and its effect. -/
theorem servicePortCommandsAct : Obligations.ServicePortCommandsAct := by
  rintro s u v rfl
  refine ⟨execServiceRequests_of_unconfigured,
    fun hc => ⟨fun p => execSendCommand_of_badSize hc,
      fun p hlo hhi => ⟨fun st => execSendCommand_of_stalled hc hlo hhi, execSendCommand_of_accepted hc hlo hhi⟩,
      fun n => execDataStagePause_of_partial hc, fun tag w => execGetReceipt_of_short hc,
      fun tag w bytes x hw hx => (next_cases (execGetReceipt_of_room hc hw hx)).symm, execGetState_of_configured hc,
      execSvcInTransfer_of_noReceipt hc, execSvcInTransfer_of_noNotice hc, fun r rest q => execSvcInTransfer_of_receipt hc,
      fun n rest => execSvcInTransfer_of_notice hc⟩,
    fun d hd => ⟨execSvcSuspend_of_away hd, execSvcSuspend_of_attached hd⟩, congrArg Host.Outcome.next (if_neg (by simp)),
    fun written => execSvcStatusAck_of_none, fun p rest h => ⟨fun written => execSvcStatusAck_of_held h,
      fun hr hu => ⟨execSvcStatusAck_of_ready h hr hu, execSvcStatusAck_of_ready h hr hu⟩⟩,
    fun r => execSvcBusReset_of_unpowered, fun r => execSvcBusReset_of_powered, fun wake => Acts.of_ite_not rfl (by simp) fun _ => rfl,
    Acts.of_ite rfl (by simp) fun _ => rfl, execSvcHostResume_acts s⟩

end Machine
end Sys2Proof
end

section
/-!
SUPPORT. The opcodes over the tables of routes and ranges (R335).
-/
namespace Sys2Proof
namespace Machine

variable {s u t : State} {h : CmdHdr} {k : Nat}

/-- What ROUTE_WRITE and RANGE_WRITE do with the words of their list (R335): a list in range whose words no staged set is about to write is taken
whole, where the tables as they will then stand keep their entries apart. -/
def State.writeTable (u : State) (refused : Bool) (ws : List (Nat × Word)) (apart : State → Bool) : State × CmdEnd :=
  if refused then (u, .done .badParam [])
  else if u.pendingTouches (fun a => ws.any (fun w => w.1 == a)) then (u, .done .stageConflict [])
  else if apart (u.shadowWords ws).applyShadows then (u.shadowWords ws, .done .ok (leBytes 8 (u.round + 1)))
  else (u, .done .checkFailed [])

section
variable {refused : Bool} {ws : List (Nat × Word)} {apart : State → Bool}

theorem State.writeTable_of_refused (hr : refused = true) : u.writeTable refused ws apart = (u, .done .badParam []) :=
  if_pos hr

section
variable (hr : refused = false)
include hr

theorem State.writeTable_of_pending (hp : u.pendingTouches (fun a => ws.any (fun w => w.1 == a)) = true) :
    u.writeTable refused ws apart = (u, .done .stageConflict []) :=
  (if_neg (by simp [hr])).trans (if_pos hp)

variable (hp : u.pendingTouches (fun a => ws.any (fun w => w.1 == a)) = false)
include hp

theorem State.writeTable_of_apart (ha : apart (u.shadowWords ws).applyShadows = true) :
    u.writeTable refused ws apart = (u.shadowWords ws, .done .ok (leBytes 8 (u.round + 1))) :=
  (if_neg (by simp [hr])).trans ((if_neg (by simp [hp])).trans (if_pos ha))

theorem State.writeTable_of_clash (ha : apart (u.shadowWords ws).applyShadows = false) :
    u.writeTable refused ws apart = (u, .done .checkFailed []) :=
  (if_neg (by simp [hr])).trans ((if_neg (by simp [hp])).trans (if_neg (by simp [ha])))

end
end

section
variable {α : Type} {items : List α} {most : Nat} {bad : α → Bool}

/-- A list is refused for the number of its items, or for a bad one among them (R335). -/
def listRefused (items : List α) (most : Nat) (bad : α → Bool) : Bool :=
  items.length < 1 || most < items.length || items.any bad

theorem listRefused_iff : listRefused items most bad = true ↔ items = [] ∨ most < items.length ∨ ∃ i ∈ items, bad i = true := by
  simp [listRefused, or_assoc]

theorem listRefused_eq_false (h1 : 1 ≤ items.length) (hm : items.length ≤ most) (hi : ∀ i ∈ items, bad i = false) :
    listRefused items most bad = false := by
  refine Bool.eq_false_iff.mpr fun hr => ?_
  rcases listRefused_iff.mp hr with rfl | hl | ⟨i, hx, hb⟩
  · simp at h1
  · omega
  · simp [hi i hx] at hb

end

section
variable {items : List (BitVec 16 × Word × Word)} {st : Status} {data : List Byte}

/-- The words of a list of routes, at their addresses. -/
def routeItemWords (items : List (BitVec 16 × Word × Word)) : List (Nat × Word) :=
  items.flatMap (fun i => [(Reg.ROUTE_0 i.1.toNat, i.2.1), (Reg.ROUTE_4 i.1.toNat, i.2.2)])

/-- A route's index is out of range, or its words are not in the format of R336. -/
def routeItemBad (i : BitVec 16 × Word × Word) : Bool := decide (4095 < i.1.toNat) || !routeOk i.2.1.toNat i.2.2.toNat

theorem execRouteWrite_of_opens (o : Opens (.routeWrite h items) s k u) (hl : h.paramLen = 2 + 10 * items.length)
    (hb : u.writeTable (listRefused items 64 routeItemBad) (routeItemWords items) State.routesApart = (t, .done st data)) :
    exec (.routeWrite h items) s = .next (t.finish k st data) :=
  exec_of_opens rfl o (beq_iff_eq.mpr hl) hb

end

section
variable {items : List (Byte × Word × Word × Word × Word)} {st : Status} {data : List Byte}

/-- The words of a list of ranges, at their addresses. -/
def rangeItemWords (items : List (Byte × Word × Word × Word × Word)) : List (Nat × Word) :=
  items.flatMap (fun i => [(Reg.RANGE_0 i.1.toNat, i.2.1), (Reg.RANGE_4 i.1.toNat, i.2.2.1),
    (Reg.RANGE_8 i.1.toNat, i.2.2.2.1), (Reg.RANGE_C i.1.toNat, i.2.2.2.2)])

/-- A range's index is out of range, or its words are not in the format of R336. -/
def rangeItemBad (i : Byte × Word × Word × Word × Word) : Bool :=
  decide (63 < i.1.toNat) || !rangeOk i.2.1.toNat i.2.2.1.toNat i.2.2.2.1.toNat i.2.2.2.2.toNat

theorem execRangeWrite_of_opens (o : Opens (.rangeWrite h items) s k u) (hl : h.paramLen = 2 + 18 * items.length)
    (hb : u.writeTable (listRefused items 16 rangeItemBad) (rangeItemWords items) State.rangesApart = (t, .done st data)) :
    exec (.rangeWrite h items) s = .next (t.finish k st data) :=
  exec_of_opens rfl o (beq_iff_eq.mpr hl) hb

end

section
variable {mode count bus ide : Byte} {first : BitVec 16} {id : Word} (o : Opens (.routeRead h mode count first bus ide id) s k u)
include o

theorem execRouteRead_of_badMode (hm : 1 < mode.toNat) :
    exec (.routeRead h mode count first bus ide id) s = .next (u.finish k .badParam []) :=
  exec_of_opens rfl o rfl ((if_neg (by omega)).trans (if_neg hm.ne'))

section
variable (hm : mode.toNat = 0)
include hm

theorem execRouteRead_of_badSpan (hr : count.toNat = 0 ∨ 64 < count.toNat ∨ 4096 < first.toNat + count.toNat) :
    exec (.routeRead h mode count first bus ide id) s = .next (u.finish k .badParam []) :=
  exec_of_opens rfl o rfl ((if_pos hm).trans (if_pos (by omega)))

theorem execRouteRead_of_span (h1 : 1 ≤ count.toNat) (h64 : count.toNat ≤ 64) (hl : first.toNat + count.toNat ≤ 4096) :
    exec (.routeRead h mode count first bus ide id) s = .next (u.finish k .ok
      (((List.range count.toNat).map (fun i => first.toNat + i)).flatMap u.routeData)) :=
  exec_of_opens rfl o rfl ((if_pos hm).trans (if_neg (by omega)))

end

section
variable (hm : mode.toNat = 1)
include hm

theorem execRouteRead_of_badKey (hr : 3 < bus.toNat ∨ 1 < ide.toNat ∨ 2 ^ 29 ≤ id.toNat) :
    exec (.routeRead h mode count first bus ide id) s = .next (u.finish k .badParam []) :=
  exec_of_opens rfl o rfl ((if_neg (by omega)).trans ((if_pos hm).trans (if_pos hr)))

/-- The valid route of a bus, IDE and ID (R336). -/
def State.routeOfKey (u : State) (bus ide id : Nat) : Option (Nat × Nat × Nat × Nat × Nat) :=
  u.routes.find? (fun r => r.2.1 == bus && r.2.2.1 == ide && r.2.2.2.1 == id)

variable (hb : bus.toNat ≤ 3) (hi : ide.toNat ≤ 1) (hd : id.toNat < 2 ^ 29)
include hb hi hd

theorem execRouteRead_of_noRoute (hf : u.routeOfKey bus.toNat ide.toNat id.toNat = none) :
    exec (.routeRead h mode count first bus ide id) s = .next (u.finish k .ok []) := by
  unfold State.routeOfKey at hf
  refine exec_of_opens rfl o rfl ((if_neg (by omega)).trans ((if_pos hm).trans ((if_neg (by omega)).trans ?_)))
  simp only [hf]

theorem execRouteRead_of_route {r : Nat × Nat × Nat × Nat × Nat} (hf : u.routeOfKey bus.toNat ide.toNat id.toNat = some r) :
    exec (.routeRead h mode count first bus ide id) s = .next (u.finish k .ok (u.routeData r.1)) := by
  unfold State.routeOfKey at hf
  refine exec_of_opens rfl o rfl ((if_neg (by omega)).trans ((if_pos hm).trans ((if_neg (by omega)).trans ?_)))
  simp only [hf]

end
end

/-- Settles O15: the checks of a list come in their order, and a list that passes them is written whole; ROUTE_READ is told apart by its mode. -/
theorem bridgeTableCommandsComplete : Obligations.BridgeTableCommandsComplete := by
  refine fun s u h k => ⟨?_, ?_, fun mode count bus ide first id o => ⟨execRouteRead_of_span o, fun hm hb hi hd => ?_,
    execRouteRead_of_badSpan o, execRouteRead_of_badKey o, execRouteRead_of_badMode o⟩, ?_, ?_⟩
  · rintro items _ o hl rfl
    refine ⟨fun hr => execRouteWrite_of_opens o hl (State.writeTable_of_refused (listRefused_iff.mpr ?_)), fun h1 h64 hi hp =>
      execRouteWrite_of_opens o hl (State.writeTable_of_pending (listRefused_eq_false h1 h64 ?_) hp)⟩
    · simpa [routeItemBad] using hr
    · simpa [routeItemBad] using hi
  · rintro items _ o hl h1 h64 hi rfl hp
    have hr : listRefused items 64 routeItemBad = false := listRefused_eq_false h1 h64 (by simpa [routeItemBad] using hi)
    exact ⟨fun ha => execRouteWrite_of_opens o hl (State.writeTable_of_apart hr hp ha),
      fun ha => execRouteWrite_of_opens o hl (State.writeTable_of_clash hr hp ha)⟩
  · split
    case h_1 r hf => exact execRouteRead_of_route o hm hb hi hd hf
    case h_2 hf => exact execRouteRead_of_noRoute o hm hb hi hd hf
  · rintro items _ o hl rfl
    refine ⟨fun hr => execRangeWrite_of_opens o hl (State.writeTable_of_refused (listRefused_iff.mpr ?_)), fun h1 h16 hi hp =>
      execRangeWrite_of_opens o hl (State.writeTable_of_pending (listRefused_eq_false h1 h16 ?_) hp)⟩
    · simpa [rangeItemBad] using hr
    · simpa [rangeItemBad] using hi
  · rintro items _ o hl h1 h16 hi rfl hp
    have hr : listRefused items 16 rangeItemBad = false := listRefused_eq_false h1 h16 (by simpa [rangeItemBad] using hi)
    exact ⟨fun ha => execRangeWrite_of_opens o hl (State.writeTable_of_apart hr hp ha),
      fun ha => execRangeWrite_of_opens o hl (State.writeTable_of_clash hr hp ha)⟩

end Machine
end Sys2Proof
end

section
/-!
SUPPORT. The CAN buses (R317, R321, R322, R323, R331, R332, R333).
-/
namespace Sys2Proof
namespace Machine

variable {s u v : State}

section
variable {bus b frame : Nat} {payload : List Byte}

/-- A frame for a REGISTERED box waits behind one of its box that is held; else it is offered, and held where the offer is refused for now (R323). -/
def State.offerOrHold (u : State) (bus b : Nat) (payload : List Byte) (frame : Nat) : State :=
  if (u.canBus bus).hold.any (fun h => h.box == b) then u.holdCan bus b payload frame
  else if (u.offerCan bus b payload frame).1 then (u.offerCan bus b payload frame).2.holdCan bus b payload frame
  else (u.offerCan bus b payload frame).2

theorem State.offerOrHold_of_waiting (hw : ∃ h ∈ (u.canBus bus).hold, h.box = b) :
    u.offerOrHold bus b payload frame = u.holdCan bus b payload frame :=
  if_pos (by simpa using hw)

section
variable (hw : ∀ h ∈ (u.canBus bus).hold, h.box ≠ b)
include hw

theorem State.offerOrHold_of_refused (ho : u.offerCan bus b payload frame = (true, v)) :
    u.offerOrHold bus b payload frame = v.holdCan bus b payload frame := by
  refine (if_neg (by simpa using hw)).trans ?_
  simp only [ho, if_true]

theorem State.offerOrHold_of_settled (ho : u.offerCan bus b payload frame = (false, v)) : u.offerOrHold bus b payload frame = v := by
  refine (if_neg (by simpa using hw)).trans ?_
  simp only [ho, Bool.false_eq_true, if_false]

end
end

section
variable {bus : Fin 4} {f : CanFrame}

theorem execCanFrameRx_of_down {check : CanCheck} (hd : s.busUp bus.val = false) : exec (.canFrameRx bus f check) s = .next s :=
  congrArg Host.Outcome.next (if_pos (by simp [hd]))

section
variable (hup : s.busUp bus.val = true)
include hup

theorem execCanFrameRx_of_bad : exec (.canFrameRx bus f .bad) s = .next ((s.bump (Cnt.FIELD_BUS_ERRORS bus.val)).setErrors bus.val
    (s.get (Reg.BUS_STATE_TEC bus.val)) (s.get (Reg.BUS_STATE_REC bus.val) + 1)) :=
  congrArg Host.Outcome.next ((if_neg (by simp [hup])).trans (if_pos rfl))

variable {frame : Nat} (hc : ((s.bump (Cnt.FIELD_FRAMES_RX bus.val)).setErrors bus.val (s.get (Reg.BUS_STATE_TEC bus.val))
  (s.get (Reg.BUS_STATE_REC bus.val) - 1)).countFrame bus.val = (frame, u))
include hc

theorem execCanFrameRx_of_remote : exec (.canFrameRx bus f .remoteFrame) s = .next (u.bump (Cnt.FIELD_REMOTE_DISCARDED bus.val)) := by
  cases hc
  exact congrArg Host.Outcome.next ((if_neg (by simp [hup])).trans ((if_neg nofun).trans (if_pos rfl)))

theorem execCanFrameRx_of_noRoute (hr : (u.routeOf bus.val f).bind u.boxOfBind = none) :
    exec (.canFrameRx bus f .data) s = .next (u.bump (Cnt.FIELD_NO_ROUTE bus.val)) := by
  refine congrArg Host.Outcome.next ((if_neg (by simp [hup])).trans ((if_neg nofun).trans ?_))
  simp only [hc, hr]
  exact if_neg nofun

/-- A frame with a route goes to its box by the class of the box's tunnel (R321). -/
theorem execCanFrameRx_of_route {b : Nat} (hr : (u.routeOf bus.val f).bind u.boxOfBind = some b) :
    exec (.canFrameRx bus f .data) s = .next
      (if (u.box b).cls = .registered then u.offerOrHold bus.val b (CanFrame_bytes f bus.val) frame
      else u.sendField b (CanFrame_bytes f bus.val)) := by
  refine congrArg Host.Outcome.next ((if_neg (by simp [hup])).trans ((if_neg nofun).trans ?_))
  simp only [hc, hr]
  exact if_neg nofun

end
end

section
variable {b q n : Nat}

theorem State.startCan_of_held (hp : s.passToBridge b q = none) : s.startCan b q n = s := by
  simp only [State.startCan, hp]

section
variable {p : List Byte} (hp : s.passToBridge b q = some (p, v))
include hp

theorem State.startCan_of_malformed (hf : parseCan p = none) : s.startCan b q n = v.endRegistered b .refused 0 := by
  simp only [State.startCan, hp, hf]

/-- The message passed is a CAN frame: the controller takes it where the bus is a CAN bus that sends such frames (R331). -/
theorem State.startCan_of_frame {f : CanFrame} (hf : parseCan p = some f) :
    s.startCan b q n = if 3 < n || (f.fdf && !v.flag (Reg.CAN_CFG_FD_EN n)) then v.endRegistered b .refused 0
      else (v.setCanBus n { v.canBus n with reg := some (b, q) }).emit (.bus 8 n 1 ([b, f.id.val] ++ f.data.map (·.toNat))) := by
  simp only [State.startCan, hp, hf]

end
end

section
variable {box : BoxNo} {msg : List Byte} {w : Bool}

theorem execCanMessage_of_unbound {seq : Option (BitVec 32)} (hn : s.busOf box.val = none) : exec (.canMessage box seq msg w) s = .next s := by
  refine congrArg Host.Outcome.next ?_
  simp only [hn]

section
variable {n : Nat} (hn : s.busOf box.val = some n)
include hn

theorem execCanMessage_of_badMessage (h : 3 < n ∨ parseCan msg = none) :
    exec (.canMessage box none msg w) s = .next (s.bump Cnt.BRIDGE_BAD_MESSAGES) := by
  refine congrArg Host.Outcome.next ?_
  simp only [hn]
  rcases h with h3 | hf
  · exact if_pos h3
  · simp only [hf, ite_self]

/-- A frame meets the checks of R322 before its queue. -/
theorem execCanMessage_of_frame {f : CanFrame} (h3 : n ≤ 3) (hf : parseCan msg = some f) :
    exec (.canMessage box none msg w) s = .next
      (if f.fdf && !s.flag (Reg.CAN_CFG_FD_EN n) then s.bump (Cnt.FIELD_SIZE_ERRORS n)
      else if !s.flag (Reg.CAN_CFG_EN n) then s.bump (Cnt.FIELD_TX_DROPPED n)
      else if 32 ≤ (s.canBus n).queue.length then s
      else s.setCanBus n { s.canBus n with queue := insertCan ⟨box.val, f⟩ (s.canBus n).queue }) := by
  refine congrArg Host.Outcome.next ?_
  simp only [hn, hf]
  exact if_neg h3.not_gt

variable {q : BitVec 32}

/-- A registered message starts where the bus is silent and free for one (R331). -/
theorem execCanMessage_of_registered :
    exec (.canMessage box (some q) msg w) s = .next (if w && s.busReady n then s.startCan box.val q.toNat n else s) := by
  refine congrArg Host.Outcome.next ?_
  simp only [hn]

theorem execCanMessage_of_notReady (h : w = false ∨ s.busReady n = false ∨ s.passToBridge box.val q.toNat = none) :
    exec (.canMessage box (some q) msg w) s = .next s := by
  rw [execCanMessage_of_registered hn]
  rcases h with rfl | hr | hp
  · rfl
  · simp [hr]
  · rw [State.startCan_of_held hp, ite_self]

theorem execCanMessage_of_ready (hr : s.busReady n = true) :
    exec (.canMessage box (some q) msg true) s = .next (s.startCan box.val q.toNat n) := by
  rw [execCanMessage_of_registered hn, hr, Bool.true_and, if_pos rfl]

end
end

section
variable {bus : Fin 4}

theorem execCanTxComplete_of_nothing (h : s.busUp bus.val = false ∨ (s.canBus bus.val).queue = []) :
    exec (.canTxComplete bus) s = .next s := by
  refine congrArg Host.Outcome.next ?_
  cases hq : (s.canBus bus.val).queue with
  | nil => simp only [hq]
  | cons q rest =>
    simp only [hq]
    exact if_pos (by simpa [hq] using h)

/-- The frame at the head of the queue has gone out, and TEC steps down. -/
theorem execCanTxComplete_of_head {q : CanTx} {rest : List CanTx} (hup : s.busUp bus.val = true) (hq : (s.canBus bus.val).queue = q :: rest)
    (hu : u = (s.setCanBus bus.val { s.canBus bus.val with queue := rest }).bump (Cnt.FIELD_FRAMES_TX bus.val)) :
    exec (.canTxComplete bus) s = .next
      ((u.setErrors bus.val (u.get (Reg.BUS_STATE_TEC bus.val) - 1) (u.get (Reg.BUS_STATE_REC bus.val))).emit
        (.bus 8 bus.val 1 ([q.box, q.frame.id.val] ++ q.frame.data.map (·.toNat)))) := by
  subst hu
  refine congrArg Host.Outcome.next ?_
  simp only [hq]
  exact if_neg (by simp [hup])

theorem execRegTxLimitExpiry_of_none (hr : (s.canBus bus.val).reg = none) : exec (.regTxLimitExpiry bus) s = .next s := by
  refine congrArg Host.Outcome.next ?_
  simp only [State.withdrawReg, hr]

theorem execRegTxLimitExpiry_of_some {b q : Nat} (hr : (s.canBus bus.val).reg = some (b, q)) :
    exec (.regTxLimitExpiry bus) s = .next (s.endRegistered b .notSent 0) := by
  refine congrArg Host.Outcome.next ?_
  simp only [State.withdrawReg, hr]

end

/-- Settles O39: a frame received is told apart by its check, its route and its box's class, a message for the bus by the checks of its frame
and its queue, and each change of the bus is its test and its effect. -/
theorem canCommandsAct : Obligations.CanCommandsAct := by
  refine fun s u bus => ⟨fun f check => execCanFrameRx_of_down, fun f => execCanFrameRx_of_bad, fun frame hup hc =>
      ⟨fun f => execCanFrameRx_of_remote hup hc, fun f => execCanFrameRx_of_noRoute hup hc, fun f b hr => ?_⟩,
    Does.of_eq rfl rfl, fun box msg => ⟨fun hn q w => execCanMessage_of_unbound hn, fun n hn =>
      ⟨fun w => execCanMessage_of_badMessage hn, fun f w h3 hf => ?_, fun q => ⟨fun w => execCanMessage_of_notReady hn, fun p v hr hp => ?_⟩⟩⟩,
    execCanTxComplete_of_nothing, fun q rest => execCanTxComplete_of_head, Acts.of_ite rfl Iff.rfl fun _ => rfl,
    Acts.of_ite rfl Iff.rfl fun _ => rfl, execRegTxLimitExpiry_of_none, fun b q => execRegTxLimitExpiry_of_some⟩
  · obtain ⟨hregistered, hother⟩ := next_cases (execCanFrameRx_of_route hup hc hr)
    refine ⟨fun hcls => ⟨fun hw => ?_, fun hw => ⟨fun v ho => ?_, fun v ho => ?_⟩⟩, hother⟩ <;> rw [hregistered hcls]
    · rw [State.offerOrHold_of_waiting hw]
    · rw [State.offerOrHold_of_refused hw ho]
    · rw [State.offerOrHold_of_settled hw ho]
  · obtain ⟨hlong, hfits⟩ := next_cases (execCanMessage_of_frame (w := w) hn h3 hf)
    refine ⟨fun hfd hen => hlong (by simp [hfd, hen]), fun hfd => ?_⟩
    obtain ⟨hdisabled, henabled⟩ := next_cases (hfits (by simpa [imp_iff_not_or] using hfd))
    exact ⟨fun hen => hdisabled (by simp [hen]), fun hen => (next_cases (henabled (by simp [hen]))).1,
      fun hen hq => (next_cases (henabled (by simp [hen]))).2 hq.not_ge⟩
  · have hstart := execCanMessage_of_ready (msg := msg) (q := q) hn hr
    refine ⟨fun hf => by rw [hstart, State.startCan_of_malformed hp hf], fun f hf => ?_⟩
    obtain ⟨hrefused, hsent⟩ := next_cases (hstart.trans (congrArg Host.Outcome.next (State.startCan_of_frame hp hf)))
    exact ⟨fun h => hrefused (by simpa using h), fun h3 hfd => hsent (by simpa [h3, imp_iff_not_or] using hfd)⟩

end Machine
end Sys2Proof
end

section
/-!
SUPPORT. The Modbus server (R324 to R328): a request for a unit, and a broadcast.
-/
namespace Sys2Proof
namespace Machine

section
variable {v : State} {n : Nat} {r : ModbusReq} {frame t : Nat} {ps : List (Nat × Nat × Nat)}

/-- The pieces of a request's span in the ranges of one unit, or of all for a broadcast (R324, R325). -/
def State.requestPieces (v : State) (n : Nat) (unit : Option Nat) (t : Nat) (r : ModbusReq) : Option (List (Nat × Nat × Nat)) :=
  v.piecesOf (v.rangesOf n unit t) 65 r.address.toNat r.count.toNat

/-- What is done with a broadcast: a write within its counts whose span lies in POSTED ranges alone is served, anything else dropped (R327). -/
def State.serveBroadcast (v : State) (n : Nat) (r : ModbusReq) (frame : Nat) : State :=
  match tableOf r.function.toNat with
  | none => v
  | some t =>
    match v.requestPieces n none t r with
    | some ps =>
      if isWriteFn r.function.toNat && countOk r.function.toNat r.count.toNat && byteCountOk r &&
          ps.all (fun p => v.get (Reg.RANGE_MODE p.1) == 0) then
        v.serveWrite n r t ps false frame
      else v
    | none => v

/-- A request that the checks of R325 have let through: its table and pieces are known. -/
def State.servePieces (v : State) (n : Nat) (r : ModbusReq) (frame t : Nat) (ps : List (Nat × Nat × Nat)) : State :=
  if v.flag Reg.BRIDGE_CFG_COMPAT ∧ 1 < ps.length then (v.bump Cnt.BRIDGE_COMPAT_ERRORS).answerMaster n r.unit.toNat r.function.toNat 2 []
  else if isWriteFn r.function.toNat then v.serveWrite n r t ps true frame
  else v.serveRead n r t ps

/-- What is done with a request for a unit that is served, in the order of the checks of R325. -/
def State.serveUnit (v : State) (n : Nat) (r : ModbusReq) (frame : Nat) : State :=
  if r.function.toNat = 0x16 ∨ r.function.toNat = 0x17 then
    (v.bump Cnt.BRIDGE_RMW_REFUSED).answerMaster n r.unit.toNat r.function.toNat 1 []
  else
    match tableOf r.function.toNat with
    | none => v.answerMaster n r.unit.toNat r.function.toNat 1 []
    | some t =>
      if !countOk r.function.toNat r.count.toNat || (isWriteFn r.function.toNat && !byteCountOk r) then
        v.answerMaster n r.unit.toNat r.function.toNat 3 []
      else
        match v.requestPieces n (some r.unit.toNat) t r with
        | none => v.answerMaster n r.unit.toNat r.function.toNat 2 []
        | some ps => v.servePieces n r frame t ps

theorem State.serveBroadcast_of_noTable (ht : tableOf r.function.toNat = none) : v.serveBroadcast n r frame = v := by
  simp only [State.serveBroadcast, ht]

theorem State.serveBroadcast_of_noPieces (ht : tableOf r.function.toNat = some t) (hp : v.requestPieces n none t r = none) :
    v.serveBroadcast n r frame = v := by
  simp only [State.serveBroadcast, ht, hp]

theorem State.serveBroadcast_of_pieces (ht : tableOf r.function.toNat = some t) (hp : v.requestPieces n none t r = some ps) :
    v.serveBroadcast n r frame =
      if isWriteFn r.function.toNat && countOk r.function.toNat r.count.toNat && byteCountOk r &&
          ps.all (fun p => v.get (Reg.RANGE_MODE p.1) == 0) then
        v.serveWrite n r t ps false frame
      else v := by
  simp only [State.serveBroadcast, ht, hp]

theorem State.serveBroadcast_of_notWrite (h : tableOf r.function.toNat = none ∨ isWriteFn r.function.toNat = false) :
    v.serveBroadcast n r frame = v := by
  rcases ht : tableOf r.function.toNat with _ | t
  · exact State.serveBroadcast_of_noTable ht
  rcases hp : v.requestPieces n none t r with _ | ps
  · exact State.serveBroadcast_of_noPieces ht hp
  · have hw : isWriteFn r.function.toNat = false := by simpa [ht] using h
    exact (State.serveBroadcast_of_pieces ht hp).trans (if_neg (by simp [hw]))

/-- A broadcast is dropped where its counts do not let its pieces be written, or where one of them is not POSTED. -/
theorem State.serveBroadcast_of_unfit (ht : tableOf r.function.toNat = some t)
    (h : ∀ ps, v.requestPieces n none t r = some ps → countOk r.function.toNat r.count.toNat = true → byteCountOk r = true →
      ∃ p ∈ ps, v.get (Reg.RANGE_MODE p.1) ≠ 0) : v.serveBroadcast n r frame = v := by
  rcases hp : v.requestPieces n none t r with _ | ps
  · exact State.serveBroadcast_of_noPieces ht hp
  refine (State.serveBroadcast_of_pieces ht hp).trans (if_neg fun hall => ?_)
  simp only [Bool.and_eq_true, List.all_eq_true, beq_iff_eq] at hall
  obtain ⟨⟨⟨-, hcount⟩, hbytes⟩, hposted⟩ := hall
  obtain ⟨p, hm, hne⟩ := h ps hp hcount hbytes
  exact hne (hposted p hm)

theorem State.serveBroadcast_of_posted (ht : tableOf r.function.toNat = some t) (hp : v.requestPieces n none t r = some ps)
    (hw : isWriteFn r.function.toNat = true) (hcount : countOk r.function.toNat r.count.toNat = true) (hbytes : byteCountOk r = true)
    (hm : ∀ p ∈ ps, v.get (Reg.RANGE_MODE p.1) = 0) : v.serveBroadcast n r frame = v.serveWrite n r t ps false frame :=
  (State.serveBroadcast_of_pieces ht hp).trans (if_pos (by simpa [hw, hcount, hbytes] using hm))

theorem State.servePieces_of_cut (h : v.flag Reg.BRIDGE_CFG_COMPAT = true ∧ 1 < ps.length) :
    v.servePieces n r frame t ps = (v.bump Cnt.BRIDGE_COMPAT_ERRORS).answerMaster n r.unit.toNat r.function.toNat 2 [] :=
  if_pos h

section
variable (h : v.flag Reg.BRIDGE_CFG_COMPAT = false ∨ ps.length ≤ 1)
include h

theorem State.servePieces_of_write (hw : isWriteFn r.function.toNat = true) :
    v.servePieces n r frame t ps = v.serveWrite n r t ps true frame :=
  (if_neg (by simpa [imp_iff_not_or] using h)).trans (if_pos hw)

theorem State.servePieces_of_read (hw : isWriteFn r.function.toNat = false) : v.servePieces n r frame t ps = v.serveRead n r t ps :=
  (if_neg (by simpa [imp_iff_not_or] using h)).trans (if_neg (by simp [hw]))

end

theorem State.serveUnit_of_readWrite (hf : r.function.toNat = 0x16 ∨ r.function.toNat = 0x17) :
    v.serveUnit n r frame = (v.bump Cnt.BRIDGE_RMW_REFUSED).answerMaster n r.unit.toNat r.function.toNat 1 [] :=
  if_pos hf

section
variable (hf : ¬ (r.function.toNat = 0x16 ∨ r.function.toNat = 0x17))
include hf

theorem State.serveUnit_of_noTable (ht : tableOf r.function.toNat = none) :
    v.serveUnit n r frame = v.answerMaster n r.unit.toNat r.function.toNat 1 [] := by
  refine (if_neg hf).trans ?_
  simp only [ht]

variable (ht : tableOf r.function.toNat = some t)
include ht

theorem State.serveUnit_of_badCount
    (hb : countOk r.function.toNat r.count.toNat = false ∨ (isWriteFn r.function.toNat = true ∧ byteCountOk r = false)) :
    v.serveUnit n r frame = v.answerMaster n r.unit.toNat r.function.toNat 3 [] := by
  refine (if_neg hf).trans ?_
  simp only [ht]
  exact if_pos (by simpa using hb)

variable (hcount : countOk r.function.toNat r.count.toNat = true) (hbytes : isWriteFn r.function.toNat = true → byteCountOk r = true)
include hcount hbytes

theorem State.serveUnit_of_noPieces (hp : v.requestPieces n (some r.unit.toNat) t r = none) :
    v.serveUnit n r frame = v.answerMaster n r.unit.toNat r.function.toNat 2 [] := by
  refine (if_neg hf).trans ?_
  simp only [ht, hp]
  exact if_neg (by simpa [hcount] using hbytes)

theorem State.serveUnit_of_pieces (hp : v.requestPieces n (some r.unit.toNat) t r = some ps) :
    v.serveUnit n r frame = v.servePieces n r frame t ps := by
  refine (if_neg hf).trans ?_
  simp only [ht, hp]
  exact if_neg (by simpa [hcount] using hbytes)

end
end

section
variable {s v : State} {bus : Fin 2} {r : ModbusReq}

theorem execModbusRequest_of_notServer {ok : Bool} (h : s.flag (Reg.RS485_CFG_EN bus.val) = false ∨ s.flag (Reg.RS485_CFG_ROLE bus.val) = true) :
    exec (.modbusRequest bus r ok) s = .next s :=
  congrArg Host.Outcome.next (if_pos (by simpa using h))

section
variable (hen : s.flag (Reg.RS485_CFG_EN bus.val) = true) (hrole : s.flag (Reg.RS485_CFG_ROLE bus.val) = false)
include hen hrole

theorem execModbusRequest_of_badFrame : exec (.modbusRequest bus r false) s = .next (s.bump (Cnt.FIELD_BUS_ERRORS (4 + bus.val))) :=
  congrArg Host.Outcome.next ((if_neg (by simp [hen, hrole])).trans (if_pos rfl))

/-- A range of the bus serves the unit (R324). -/
def State.unitServed (v : State) (n unit : Nat) : Bool :=
  (List.range 64).any (fun k => v.flag (Reg.RANGE_VALID k) && v.get (Reg.RANGE_BUS k) == n && v.get (Reg.RANGE_UNIT k) == unit)

/-- A sound frame is counted, and told apart by its unit. -/
theorem execModbusRequest_of_frame {frame : Nat}
    (hc : (s.bump (Cnt.FIELD_FRAMES_RX (4 + bus.val))).countFrame (4 + bus.val) = (frame, v)) :
    exec (.modbusRequest bus r true) s = .next
      (if r.unit.toNat = 0 then v.serveBroadcast bus.val r frame
      else if !v.unitServed bus.val r.unit.toNat then v else v.serveUnit bus.val r frame) := by
  obtain ⟨rfl, rfl⟩ := Prod.ext_iff.mp hc
  exact congrArg Host.Outcome.next ((if_neg (by simp [hen, hrole])).trans (if_neg nofun))

end
end

/-- Settles O40: a sound frame's unit says whether it is a broadcast, has no answer, or meets the checks of a request in their order. -/
theorem modbusRequestActs : Obligations.ModbusRequestActs := by
  refine fun s v bus r known frame => ⟨fun ok => execModbusRequest_of_notServer, fun hen hrole hc hk => ?_⟩
  obtain ⟨hbroadcast, hunit⟩ := next_cases (execModbusRequest_of_frame (r := r) hen hrole hc)
  refine ⟨execModbusRequest_of_badFrame hen hrole, fun hu hn => ?_, fun hu hy => ?_, fun hu => ?_⟩
  · subst hk
    exact (next_cases (hunit hu)).1 (by rw [State.unitServed, hn, Bool.not_false])
  · subst hk
    rw [(next_cases (hunit hu)).2 (by simp [State.unitServed, hy])]
    refine ⟨fun hf => congrArg Host.Outcome.next (State.serveUnit_of_readWrite hf), fun h16 h17 => ?_⟩
    have hf := not_or.mpr ⟨h16, h17⟩
    refine ⟨fun ht => congrArg Host.Outcome.next (State.serveUnit_of_noTable hf ht), fun t ht =>
      ⟨fun hb => congrArg Host.Outcome.next (State.serveUnit_of_badCount hf ht hb), ?_⟩⟩
    rintro hcount hbytes _ rfl
    refine ⟨fun hp => congrArg Host.Outcome.next (State.serveUnit_of_noPieces hf ht hcount hbytes hp), fun ps hp => ?_⟩
    rw [State.serveUnit_of_pieces hf ht hcount hbytes hp]
    exact ⟨fun hcut => congrArg Host.Outcome.next (State.servePieces_of_cut hcut), fun hwhole =>
      ⟨fun hw => congrArg Host.Outcome.next (State.servePieces_of_write hwhole hw),
        fun hw => congrArg Host.Outcome.next (State.servePieces_of_read hwhole hw)⟩⟩
  · rw [hbroadcast hu]
    refine ⟨fun h => congrArg Host.Outcome.next (State.serveBroadcast_of_notWrite h), fun t ht h =>
      congrArg Host.Outcome.next (State.serveBroadcast_of_unfit ht fun ps hp hcount hbytes => ?_),
      fun t ps ht hp hw hcount hbytes hm => congrArg Host.Outcome.next (State.serveBroadcast_of_posted ht hp hw hcount hbytes hm)⟩
    rcases h with hc | hb | hn | ⟨qs, hq, hm⟩
    · simp [hc] at hcount
    · simp [hb] at hbytes
    · exact absurd (hn.symm.trans hp) nofun
    · cases Option.some.inj (hq.symm.trans hp)
      exact hm

end Machine
end Sys2Proof
end

section
/-!
SUPPORT. The Modbus master (R330, R331): its messages, and what its local bus answers.
-/
namespace Sys2Proof
namespace Machine

section
variable {s v : State} {b q bus : Nat}

theorem State.startModbus_of_held (hp : s.passToBridge b q = none) : s.startModbus b q bus = s := by
  simp only [State.startModbus, hp]

section
variable {p : List Byte} (hp : s.passToBridge b q = some (p, v))
include hp

theorem State.startModbus_of_notWrite (hm : ∀ m, parseModbus p = some m → m.op ≠ 0x10) :
    s.startModbus b q bus = v.endRegistered b .refused 0 := by
  simp only [State.startModbus, hp, parseModbus_filter_none hm]

/-- The registered write under way on a master bus. -/
def registeredTx (b q : Nat) (m : ModbusMsg) : MbTx := ⟨b, .registered, some q, m, 0⟩

/-- A master bus issues a registered write. -/
def State.issueRegistered (v : State) (n : Nat) (t : MbTx) : State :=
  (v.setMasterBus n { v.masterBus n with cur := some t }).putRequest n t

/-- A registered WRITE goes to a bus that is a master and takes its length; a broadcast ends as it is put out (R331). -/
theorem State.startModbus_of_write {m : ModbusMsg} (hm : parseModbus p = some m) (ho : m.op = 0x10) :
    s.startModbus b q bus =
      if bus ≤ 3 || !v.flag (Reg.RS485_CFG_ROLE (bus - 4)) || decide (v.get (Reg.RS485_TIMING_REG_MAX_BYTES (bus - 4)) < m.data.length) then
        v.endRegistered b .refused 0
      else if m.farUnit = 0 then (v.issueRegistered (bus - 4) (registeredTx b q m)).endRegistered b .done 0
      else v.issueRegistered (bus - 4) (registeredTx b q m) := by
  simp only [State.startModbus, hp, parseModbus_filter_some hm ho]
  rfl

end
end

/-- The bus is an RS-485 bus of which the hub is the master (R330). -/
def State.masterRole (s : State) (bus : Nat) : Bool := decide (3 < bus) && s.flag (Reg.RS485_CFG_ROLE (bus - 4))

theorem State.masterRole_iff {s : State} {bus : Nat} : s.masterRole bus = true ↔ 3 < bus ∧ s.flag (Reg.RS485_CFG_ROLE (bus - 4)) = true := by
  simp [State.masterRole]

section
variable {s : State} {box : BoxNo} {msg : List Byte} {w : Bool}

theorem execMasterBusMessage_of_unbound {seq : Option (BitVec 32)} (hb : s.busOf box.val = none) :
    exec (.masterBusMessage box seq msg w) s = .next s := by
  refine congrArg Host.Outcome.next ?_
  simp only [hb]

section
variable {bus : Nat} (hb : s.busOf box.val = some bus)
include hb

section
variable {q : BitVec 32}

/-- A registered message starts where the bus is silent and free for one (R331). -/
theorem execMasterBusMessage_of_registered :
    exec (.masterBusMessage box (some q) msg w) s = .next (if w && s.busReady bus then s.startModbus box.val q.toNat bus else s) := by
  refine congrArg Host.Outcome.next ?_
  simp only [hb]

theorem execMasterBusMessage_of_notReady (h : w = false ∨ s.busReady bus = false ∨ s.passToBridge box.val q.toNat = none) :
    exec (.masterBusMessage box (some q) msg w) s = .next s := by
  rw [execMasterBusMessage_of_registered hb]
  rcases h with rfl | hr | hp
  · rfl
  · simp [hr]
  · rw [State.startModbus_of_held hp, ite_self]

theorem execMasterBusMessage_of_ready (hr : s.busReady bus = true) :
    exec (.masterBusMessage box (some q) msg true) s = .next (s.startModbus box.val q.toNat bus) := by
  rw [execMasterBusMessage_of_registered hb, hr, Bool.true_and, if_pos rfl]

end

theorem execMasterBusMessage_of_badMessage (hm : ∀ m, parseModbus msg = some m → mbClass m = none) :
    exec (.masterBusMessage box none msg w) s = .next (s.bump Cnt.BRIDGE_BAD_MESSAGES) := by
  have hnone : (parseModbus msg).bind (fun m => (mbClass m).map (fun c => (m, c))) = none := by simpa using hm
  refine congrArg Host.Outcome.next ?_
  simp only [hb, hnone]

theorem execMasterBusMessage_of_notMaster (hr : s.masterRole bus = false) :
    exec (.masterBusMessage box none msg w) s = .next (s.bump Cnt.BRIDGE_BAD_MESSAGES) := by
  refine congrArg Host.Outcome.next ?_
  simp only [hb]
  cases (parseModbus msg).bind (fun m => (mbClass m).map (fun c => (m, c))) with
  | none => rfl
  | some x => exact if_pos (by simpa [State.masterRole, imp_iff_not_or] using hr)

/-- A message of a class of R330 meets a master bus: its state, and its queue. -/
theorem execMasterBusMessage_of_message {m : ModbusMsg} {c : MbClass} (hr : s.masterRole bus = true) (hm : parseModbus msg = some m)
    (hc : mbClass m = some c) :
    exec (.masterBusMessage box none msg w) s = .next
      (if !s.busUp bus then (s.bump (Cnt.FIELD_TX_DROPPED bus)).answerMessage ⟨box.val, c, none, m, 0⟩ 0xFD []
      else if 32 ≤ (s.masterBus (bus - 4)).queue.length then s
      else (s.setMasterBus (bus - 4) { s.masterBus (bus - 4) with
        queue := (s.masterBus (bus - 4)).queue ++ [⟨box.val, c, none, m, 0⟩] }).startMaster (bus - 4) 33) := by
  have hsome : (parseModbus msg).bind (fun m => (mbClass m).map (fun c => (m, c))) = some (m, c) := by simp [hm, hc]
  refine congrArg Host.Outcome.next ?_
  simp only [hb, hsome]
  exact if_neg (by simpa [State.masterRole] using hr)

end
end

section
variable {s u : State} {bus : Fin 2} {x : Byte} {data : List Byte}

theorem execModbusResponse_of_idle (hx : (s.masterBus bus.val).cur = none) : exec (.modbusResponse bus x data) s = .next s := by
  refine congrArg Host.Outcome.next ?_
  simp only [hx]

theorem execRespTimeout_of_idle (hx : (s.masterBus bus.val).cur = none) : exec (.respTimeout bus) s = .next s := by
  refine congrArg Host.Outcome.next ?_
  simp only [hx]

section
variable {t : MbTx} (hx : (s.masterBus bus.val).cur = some t)
include hx

/-- A response is counted, an exception of the far unit once more, and ends the transaction under way (R330, R331). -/
theorem execModbusResponse_of_current (h0 : x.toNat = 0 → u = s.bump (Cnt.FIELD_FRAMES_RX (4 + bus.val)))
    (h1 : x.toNat ≠ 0 → u = (s.bump (Cnt.FIELD_FRAMES_RX (4 + bus.val))).bump (Cnt.FIELD_EXCEPTIONS_RX (4 + bus.val))) :
    exec (.modbusResponse bus x data) s = .next
      (if t.seq.isSome then (u.endRegistered t.box (if x.toNat = 0 then .done else .exception) x.toNat).startMaster bus.val 33
      else ((u.setMasterBus bus.val { s.masterBus bus.val with cur := none }).answerMessage t x.toNat data).startMaster bus.val 33) := by
  have hu : u = (s.bump (Cnt.FIELD_FRAMES_RX (4 + bus.val))).when (x.toNat != 0) (fun s => s.bump (Cnt.FIELD_EXCEPTIONS_RX (4 + bus.val))) := by
    by_cases hz : x.toNat = 0
    · rw [h0 hz, hz, bne_self_eq_false, State.when_false]
    · rw [h1 hz, bne_iff_ne.mpr hz, State.when_true]
  subst hu
  refine congrArg Host.Outcome.next ?_
  simp only [hx]
  exact apply_ite (fun v => State.startMaster v bus.val 33) _ _ _

/-- A transaction without a response is repeated up to RETRIES times unless it is registered (R330, R331). -/
theorem execRespTimeout_of_current (hu : u = s.bump (Cnt.FIELD_RESP_TIMEOUTS (4 + bus.val))) :
    exec (.respTimeout bus) s = .next
      (if t.seq.isSome then (u.endRegistered t.box .noResponse 0).startMaster bus.val 33
      else if t.tries < u.get (Reg.RS485_TIMING_RETRIES bus.val) then
        ((u.setMasterBus bus.val { s.masterBus bus.val with cur := some { t with tries := t.tries + 1 } }).bump
          (Cnt.FIELD_RETRIES_USED (4 + bus.val))).putRequest bus.val { t with tries := t.tries + 1 }
      else ((u.setMasterBus bus.val { s.masterBus bus.val with cur := none }).answerMessage t 0xFE []).startMaster bus.val 33) := by
  subst hu
  refine congrArg Host.Outcome.next ?_
  simp only [hx]

end
end

/-- Settles O42: a message meets its bus's role, state and queue, a registered one the bus's silence and bounds, and a response or its time
ends or repeats the transaction under way. -/
theorem modbusMasterActs : Obligations.ModbusMasterActs := by
  refine fun s u box msg => ⟨fun q w => execMasterBusMessage_of_unbound, ?_, fun bus x data =>
    ⟨fun hx => ⟨execModbusResponse_of_idle hx, execRespTimeout_of_idle hx⟩, fun t hx => ⟨fun h0 h1 => ?_, fun hu => ?_⟩⟩⟩
  · rintro bus _ master hb rfl hmaster
    have hrole : s.masterRole bus = master := Bool.eq_iff_iff.mpr (State.masterRole_iff.trans hmaster.symm)
    refine ⟨fun w h => ?_, fun m c w hm hc hy => ?_, fun q => ⟨fun w => execMasterBusMessage_of_notReady hb, fun p v hr hp => ?_⟩⟩
    · rcases h with hm | hn
      · exact execMasterBusMessage_of_badMessage hb hm
      · exact execMasterBusMessage_of_notMaster hb (hrole.trans hn)
    · obtain ⟨hdown, hup⟩ := next_cases (execMasterBusMessage_of_message (w := w) hb (hrole.trans hy) hm hc)
      exact ⟨fun h => hdown (by simp [h]), fun h => (next_cases (hup (by simp [h]))).1,
        fun h hq => (next_cases (hup (by simp [h]))).2 hq.not_ge⟩
    · have hstart := execMasterBusMessage_of_ready (msg := msg) (q := q) hb hr
      refine ⟨fun hm => hstart.trans (congrArg Host.Outcome.next (State.startModbus_of_notWrite hp hm)), fun m hm ho => ?_⟩
      obtain ⟨hrefused, hfits⟩ := next_cases (hstart.trans (congrArg Host.Outcome.next (State.startModbus_of_write hp hm ho)))
      refine ⟨fun h => hrefused (by simpa [or_assoc] using h), fun h3 hr hl hu => ?_⟩
      subst hu
      exact next_cases (hfits (by simp [h3, hr, hl]))
  · obtain ⟨hregistered, hother⟩ := next_cases (execModbusResponse_of_current (data := data) hx h0 h1)
    exact ⟨hregistered, fun hs => hother (by simp [hs])⟩
  · obtain ⟨hregistered, hother⟩ := next_cases (execRespTimeout_of_current hx hu)
    exact ⟨hregistered, fun hs => (next_cases (hother (by simp [hs]))).1,
      fun hs ht => (next_cases (hother (by simp [hs]))).2 ht.not_gt⟩

end Machine
end Sys2Proof
end

section
/-!
SUPPORT. The step and the queue it takes from.
-/
namespace Sys2Proof
namespace Machine

/-- Settles O1. -/
theorem stepRunsFront : Obligations.StepRunsFront :=
  ⟨fun _ _ => step_of_pending_cons rfl, fun _ => step_of_pending_nil⟩

/-- Settles O2: the frames of a codeword group and of a command leave the queue alone, and what they put out only adds. -/
theorem stepConsumes : Obligations.StepConsumes := by
  intro s
  cases hq : s.pending with
  | nil =>
    have hw := s.groupTick_within
    exact ⟨s.groupTick, step_of_pending_nil hq, hw.queue.trans hq, hw.outGrows, hw.seedGrows⟩
  | cons c rest =>
    obtain ⟨t, ht, hw⟩ := commandFrame c { s with pending := rest }
    exact ⟨t, (step_of_pending_cons hq).trans ht, hw.queue, hw.outGrows, hw.seedGrows⟩

end Machine
end Sys2Proof
end

section
/-!
SUPPORT. The admission of a packet of a non-read opcode by its sequence number, off the remote path (R345, R346), and what the frame of the
opcodes does with each answer.
-/
namespace Sys2Proof
namespace Machine

section
variable {s : State} {h : CmdHdr} {op k : Nat} {e : BookEntry}

section
variable (hop : isReadOp op = false) (he : s.findEntry h.path.val h.hostSeq.toNat h.originPc.toNat h.originPath.val = some (k, e))
include hop he

theorem State.admission_of_otherCommand (hd : e.opcode ≠ op ∨ e.crc ≠ h.crc.toNat) : s.admission h op = .refuse .badParam true := by
  have hsame : (e.opcode == op && e.crc == h.crc.toNat) = false := by simpa [or_iff_not_imp_left] using hd
  simp [State.admission, he, hop, hsame]

theorem State.admission_of_done (ho : e.opcode = op) (hc : e.crc = h.crc.toNat) (hd : e.state = .done) : s.admission h op = .reissue k := by
  simp [State.admission, he, hop, ho, hc, hd]

theorem State.admission_of_running (ho : e.opcode = op) (hc : e.crc = h.crc.toNat) (hr : e.state = .running) (hs : e.started = true) :
    s.admission h op = .busy k := by
  simp [State.admission, he, hop, ho, hc, hr, hs]

end

section
variable (hop : isReadOp op = false) (he : s.findEntry h.path.val h.hostSeq.toNat h.originPc.toNat h.originPath.val = none)
  (h66 : h.path.val ≠ 66) (hx : h.hostSeq.toNat ≠ s.expected h.path.val)
include hop he h66 hx

/-- A sequence number that is not the expected one is stale where it has passed, and out of range where it is still to come. -/
theorem State.admission_of_unexpected (hp : s.mem.paths.contains h.path.val = false) (hr : h.resync = false) :
    s.admission h op = .refuse .badParam (serialBefore 32 h.hostSeq.toNat (s.expected h.path.val)) := by
  have hp : h.path.val ∉ s.mem.paths := by simpa using hp
  cases hb : serialBefore 32 h.hostSeq.toNat (s.expected h.path.val) <;> simp [State.admission, he, hop, h66, hp, hx, hr, hb]

theorem State.admission_of_resync_running (hr : h.resync = true) (hb : s.pathRunning h.path.val = true) :
    s.admission h op = .refuse .busyRetry false := by
  simp [State.admission, he, hop, h66, hx, hr, hb]

end
end

section
variable {s : State} {h : CmdHdr} {op : Nat} {params : List Byte} (fits : Bool) (body : Nat → State → State × CmdEnd)
  (hr : s.ready = true) (hl : hdrLengthOk h = true) (hf : hdrFieldsOk h = true) (hs : s.skUp = true)
include hr hl hf hs

theorem State.runOpcode_refused {st : Status} {stale : Bool} (ha : s.admission h op = .refuse st stale) :
    s.runOpcode h op params fits body = s.refusePacket h op st stale := by
  simp [State.runOpcode, hr, hl, hf, hs, ha]

theorem State.runOpcode_busy {k : Nat} (ha : s.admission h op = .busy k) :
    s.runOpcode h op params fits body = s.repeatBusy h params k := by
  simp [State.runOpcode, hr, hl, hf, hs, ha]

end

theorem isReadOp_writeFeature : isReadOp 0x0011 = false := by decide

/-- Settles O6: the sequence number alone decides the admission, and the frame of the opcodes carries its answer out. -/
theorem hostSequence : Obligations.HostSequence := by
  intro s h mask value address
  have hop := isReadOp_writeFeature
  refine ⟨fun hr => congrArg _ (State.runOpcode_held h _ _ _ _ hr), fun hr hl hf hs h66 => ⟨fun k e he => ⟨fun hd => ?_, fun ho hc hd => ?_,
    fun ho hc hrun hst => ?_⟩, fun he hp hx => ⟨fun hres hb => ?_, fun hres hb => ?_, fun hres hb => ?_⟩⟩⟩
  · exact congrArg _ (State.runOpcode_refused _ _ hr hl hf hs (State.admission_of_otherCommand hop he hd))
  · exact congrArg _ (State.runOpcode_reissue _ _ hr hl hf hs (State.admission_of_done hop he ho hc hd))
  · exact congrArg _ (State.runOpcode_busy _ _ hr hl hf hs (State.admission_of_running hop he ho hc hrun hst))
  · exact congrArg _ (State.runOpcode_refused _ _ hr hl hf hs (hb ▸ State.admission_of_unexpected hop he h66 hx hp hres))
  · exact congrArg _ (State.runOpcode_refused _ _ hr hl hf hs (hb ▸ State.admission_of_unexpected hop he h66 hx hp hres))
  · exact congrArg _ (State.runOpcode_refused _ _ hr hl hf hs (State.admission_of_resync_running hop he h66 hx hres hb))

end Machine
end Sys2Proof
end

section
/-!
SUPPORT. The staging opcodes (R367 to R372): each is a chain of refusals over the set as it stands, then its effect.
-/
namespace Sys2Proof
namespace Machine

section
variable {s u : State} {h : CmdHdr} {k : Nat} {set : Byte} (hset : set.toNat ≤ 3)
include hset

section
variable {flags : Byte} {entries : List StageEntry} {l : Entries} (o : Opens (.stage h set flags entries) s k u)
  (hl : l = entries.foldl mergeEntry (if bitOf flags.toNat 0 then [] else (u.stageSet set.toNat).entries))
  (hp : h.paramLen = 4 + 12 * entries.length)
include o hl hp

/-- STAGE refuses a list of a length, with an address or with a value out of range before it looks at the set (R368). -/
theorem execStage_of_badParam (hb : entries = [] ∨ 338 < entries.length ∨ (∃ e ∈ entries, stageable e.address.toNat e.mask = false) ∨
    (∃ e ∈ l, (∃ y ∈ entries, y.address.toNat = e.1) ∧ u.entryInRange e = false)) :
    exec (.stage h set flags entries) s = .next (u.finish k .badParam []) := by
  subst hl
  refine exec_of_opens rfl o (beq_iff_eq.mpr hp) ?_
  by_cases hlen : entries = [] ∨ 338 < entries.length
  · exact if_pos (by simpa [hset.not_gt] using hlen)
  · refine (if_neg (by simpa [hset.not_gt] using hlen)).trans (if_pos ?_)
    have hitem := (or_assoc.mpr hb).resolve_left hlen
    simpa [and_assoc] using hitem

section
variable (h1 : 1 ≤ entries.length) (h338 : entries.length ≤ 338) (hs : ∀ e ∈ entries, stageable e.address.toNat e.mask = true)
  (hr : ∀ e ∈ l, (∃ y ∈ entries, y.address.toNat = e.1) → u.entryInRange e = true)
include h1 h338 hs hr

/-- A list in range comes to the checks of its set. -/
theorem execStage_of_inRange {t : State} {st : Status} {data : List Byte}
    (hb : (if (u.stageSet set.toNat).state == .armed || (u.stageSet set.toNat).state == .failed || !u.stagePermitted h l then
        (u, CmdEnd.done .notPermitted [])
      else if 1024 < l.length then (u, .done .noResource [])
      else (u.setSet set.toNat { u.stageSet set.toNat with state := .openSet, entries := l, passed := false },
        .done .ok (leBytes 2 l.length ++ leBytes 2 0))) = (t, .done st data)) :
    exec (.stage h set flags entries) s = .next (t.finish k st data) := by
  subst hl
  refine exec_of_opens rfl o (beq_iff_eq.mpr hp) ((if_neg ?_).trans ((if_neg ?_).trans hb))
  · simp only [Bool.or_eq_true, decide_eq_true_eq]
    omega
  · simpa using ⟨hs, fun m v y he hy => hr (y.address.toNat, m, v) he ⟨y, hy, rfl⟩⟩

theorem execStage_of_notPermitted (hn : (u.stageSet set.toNat).state = .armed ∨ (u.stageSet set.toNat).state = .failed ∨
    u.stagePermitted h l = false) : exec (.stage h set flags entries) s = .next (u.finish k .notPermitted []) :=
  execStage_of_inRange hset o hl hp h1 h338 hs hr (if_pos (by simpa [or_assoc] using hn))

section
variable (ha : (u.stageSet set.toNat).state ≠ .armed) (hf : (u.stageSet set.toNat).state ≠ .failed) (hperm : u.stagePermitted h l = true)
include ha hf hperm

theorem execStage_of_noResource (hn : 1024 < l.length) : exec (.stage h set flags entries) s = .next (u.finish k .noResource []) :=
  execStage_of_inRange hset o hl hp h1 h338 hs hr ((if_neg (by simp [ha, hf, hperm])).trans (if_pos hn))

theorem execStage_of_taken (hn : l.length ≤ 1024) : exec (.stage h set flags entries) s = .next
    ((u.setSet set.toNat { u.stageSet set.toNat with state := .openSet, entries := l, passed := false }).finish k .ok
      (leBytes 2 l.length ++ leBytes 2 0)) :=
  execStage_of_inRange hset o hl hp h1 h338 hs hr ((if_neg (by simp [ha, hf, hperm])).trans (if_neg hn.not_gt))

end
end
end

section
variable (o : Opens (.check h set) s k u)
include o

theorem execCheck_of_notPermitted (hn : (u.stageSet set.toNat).state = .empty ∨ (u.stageSet set.toNat).state = .armed ∨
    u.stagePermitted h (u.stageSet set.toNat).entries = false) : exec (.check h set) s = .next (u.finish k .notPermitted []) :=
  exec_of_opens rfl o rfl ((if_neg hset.not_gt).trans (if_pos (by simpa [or_assoc] using hn)))

section
variable (he : (u.stageSet set.toNat).state ≠ .empty) (ha : (u.stageSet set.toNat).state ≠ .armed)
  (hperm : u.stagePermitted h (u.stageSet set.toNat).entries = true)
include he ha hperm

theorem execCheck_of_passed (hr : u.stageResult (u.stageSet set.toNat).entries = none)
    (hc : u.sharedAddress set.toNat (u.stageSet set.toNat).entries StageSet.pending = none) :
    exec (.check h set) s = .next ((u.setSet set.toNat { u.stageSet set.toNat with state := .checked, cause := 0, address := 0 }).finish k .ok
      (leBytes 1 0 ++ leBytes 3 0 ++ leBytes 4 0)) := by
  refine exec_of_opens rfl o rfl ((if_neg hset.not_gt).trans ((if_neg (by simp [he, ha, hperm])).trans ?_))
  simp only [hr, hc]

/-- A set that passes its own checks may still share an address with a set in CHECKED or ARMED (R369). -/
theorem execCheck_of_shared {a : Nat} (hr : u.stageResult (u.stageSet set.toNat).entries = none)
    (hc : u.sharedAddress set.toNat (u.stageSet set.toNat).entries StageSet.pending = some a) :
    exec (.check h set) s = .next ((u.setSet set.toNat { u.stageSet set.toNat with
      state := if (u.stageSet set.toNat).state == .failed then .failed else .openSet, cause := 6, address := a }).finish k .stageConflict
        (leBytes 1 6 ++ leBytes 3 0 ++ leBytes 4 a)) := by
  refine exec_of_opens rfl o rfl ((if_neg hset.not_gt).trans ((if_neg (by simp [he, ha, hperm])).trans ?_))
  simp only [hr, hc]

theorem execCheck_of_failed {c a : Nat} (hr : u.stageResult (u.stageSet set.toNat).entries = some (c, a)) :
    exec (.check h set) s = .next ((u.setSet set.toNat { u.stageSet set.toNat with
      state := if (u.stageSet set.toNat).state == .failed then .failed else .openSet, cause := c, address := a }).finish k .checkFailed
        (leBytes 1 c ++ leBytes 3 0 ++ leBytes 4 a)) := by
  refine exec_of_opens rfl o rfl ((if_neg hset.not_gt).trans ((if_neg (by simp [he, ha, hperm])).trans ?_))
  simp only [hr]

end
end

section
variable {round : BitVec 48} (o : Opens (.apply h set round) s k u)
include o

omit hset in
theorem execApply_of_tooFar (hr : u.round + 28800000 < round.toNat) : exec (.apply h set round) s = .next (u.finish k .badParam []) :=
  exec_of_opens rfl o rfl (if_pos (by simp [hr]))

section
variable (hr : round.toNat ≤ u.round + 28800000)
include hr

theorem execApply_of_notPermitted (hn : (u.stageSet set.toNat).state ≠ .checked ∨
    u.stagePermitted h (u.stageSet set.toNat).entries = false) : exec (.apply h set round) s = .next (u.finish k .notPermitted []) :=
  exec_of_opens rfl o rfl ((if_neg (by simp [hset, hr])).trans (if_pos (by simpa using hn)))

section
variable (hc : (u.stageSet set.toNat).state = .checked) (hperm : u.stagePermitted h (u.stageSet set.toNat).entries = true)
include hc hperm

theorem execApply_of_tooEarly (hn : round.toNat < u.earliest (u.stageSet set.toNat).entries) :
    exec (.apply h set round) s = .next ((u.setSet set.toNat { u.stageSet set.toNat with cause := 4 }).finish k .checkFailed []) :=
  exec_of_opens rfl o rfl ((if_neg (by simp [hset, hr])).trans ((if_neg (by simp [hc, hperm])).trans (if_pos hn)))

variable (hn : u.earliest (u.stageSet set.toNat).entries ≤ round.toNat)
include hn

/-- Two armed sets of one round share no address (R370). -/
theorem execApply_of_shared
    (hx : (u.sharedAddress set.toNat (u.stageSet set.toNat).entries (fun y => y.state == .armed && y.round == round.toNat)).isSome = true) :
    exec (.apply h set round) s = .next (u.finish k .stageConflict []) :=
  exec_of_opens rfl o rfl ((if_neg (by simp [hset, hr])).trans ((if_neg (by simp [hc, hperm])).trans
    ((if_neg hn.not_gt).trans (if_pos hx))))

theorem execApply_of_apart
    (hx : u.sharedAddress set.toNat (u.stageSet set.toNat).entries (fun y => y.state == .armed && y.round == round.toNat) = none) :
    exec (.apply h set round) s = .next
      ((u.setSet set.toNat { u.stageSet set.toNat with state := .armed, round := round.toNat, passed := false }).finish k .ok
        (leBytes 8 round.toNat)) :=
  exec_of_opens rfl o rfl ((if_neg (by simp [hset, hr])).trans ((if_neg (by simp [hc, hperm])).trans
    ((if_neg hn.not_gt).trans (if_neg (by simp [hx])))))

end
end
end

section
variable (o : Opens (.discard h set) s k u)
include o

theorem execDiscard_of_notPermitted (hn : ((u.stageSet set.toNat).state = .armed ∧ u.tooLateToDiscard (u.stageSet set.toNat) = true) ∨
    u.stagePermitted h (u.stageSet set.toNat).entries = false) : exec (.discard h set) s = .next (u.finish k .notPermitted []) :=
  exec_of_opens rfl o rfl ((if_neg hset.not_gt).trans (if_pos (by simpa using hn)))

variable (hperm : u.stagePermitted h (u.stageSet set.toNat).entries = true)
include hperm

theorem execDiscard_of_empty (he : (u.stageSet set.toNat).state = .empty) : exec (.discard h set) s = .next (u.finish k .ok []) :=
  exec_of_opens rfl o rfl ((if_neg hset.not_gt).trans ((if_neg (by simp [he, hperm])).trans (if_pos (by simp [he]))))

theorem execDiscard_of_held (he : (u.stageSet set.toNat).state ≠ .empty)
    (ht : (u.stageSet set.toNat).state = .armed → u.tooLateToDiscard (u.stageSet set.toNat) = false) :
    exec (.discard h set) s = .next
      ((u.setSet set.toNat { u.stageSet set.toNat with state := .empty, entries := [], passed := false }).finish k .ok []) :=
  exec_of_opens rfl o rfl ((if_neg hset.not_gt).trans ((if_neg (by simpa [hperm] using ht)).trans (if_neg (by simp [he]))))

end

section
variable (o : Opens (.stageStatus h set) s k u)
include o

omit hset in
/-- STAGE_STATUS of all sets, under 0xFF (R364). -/
theorem execStageStatus_of_all (ha : set.toNat = 0xFF) (hperm : ∀ n ∈ [0, 1, 2, 3], u.stagePermitted h (u.stageSet n).entries = true) :
    exec (.stageStatus h set) s = .next (u.finish k .ok ([0, 1, 2, 3].flatMap u.stageBytes)) := by
  refine exec_of_opens rfl o rfl ((if_neg (by simp [ha])).trans ((if_neg ?_).trans ?_))
  · rw [if_pos ha]
    simpa using hperm
  · rw [if_pos ha]

omit hset in
theorem execStageStatus_of_badSet (h3 : 3 < set.toNat) (ha : set.toNat ≠ 0xFF) :
    exec (.stageStatus h set) s = .next (u.finish k .badParam []) :=
  exec_of_opens rfl o rfl (if_pos (by simp [h3, ha]))

theorem execStageStatus_of_notPermitted (hperm : u.stagePermitted h (u.stageSet set.toNat).entries = false) :
    exec (.stageStatus h set) s = .next (u.finish k .notPermitted []) := by
  have ha : set.toNat ≠ 0xFF := by omega
  exact exec_of_opens rfl o rfl ((if_neg (by simp [hset])).trans (if_pos (by simp [ha, hperm])))

theorem execStageStatus_of_permitted (hperm : u.stagePermitted h (u.stageSet set.toNat).entries = true) :
    exec (.stageStatus h set) s = .next (u.finish k .ok (u.stageBytes set.toNat)) := by
  have ha : set.toNat ≠ 0xFF := by omega
  refine exec_of_opens rfl o rfl ((if_neg (by simp [hset])).trans ((if_neg (by simp [ha, hperm])).trans ?_))
  simp [ha]

end
end

/-- Settles O10: each clause is a refusal of its opcode's chain, or the effect after the chain. -/
theorem stagingCommandsComplete : Obligations.StagingCommandsComplete := by
  intro s u h k set hset
  refine ⟨fun flags entries l o hl hp h1 h338 hn hs hr ha hf hperm => execStage_of_taken hset o hl hp h1 h338 hs hr ha hf hperm hn,
    fun flags entries l o hl hp => ⟨execStage_of_badParam hset o hl hp, fun h1 h338 hs hr =>
      ⟨execStage_of_notPermitted hset o hl hp h1 h338 hs hr, execStage_of_noResource hset o hl hp h1 h338 hs hr⟩⟩,
    fun o he ha hperm => ⟨execCheck_of_passed hset o he ha hperm, fun a => execCheck_of_shared hset o he ha hperm,
      fun c a => execCheck_of_failed hset o he ha hperm⟩,
    execCheck_of_notPermitted hset,
    fun round o => ⟨execApply_of_tooFar o, execApply_of_notPermitted hset o, fun hr hc hperm =>
      ⟨execApply_of_tooEarly hset o hr hc hperm, execApply_of_shared hset o hr hc hperm⟩⟩,
    fun o => ⟨execDiscard_of_notPermitted hset o, fun he hperm => execDiscard_of_empty hset o hperm he⟩,
    execStageStatus_of_notPermitted hset, fun all o => ⟨execStageStatus_of_all o, execStageStatus_of_badSet o⟩,
    fun round => execApply_of_apart hset, fun o he hperm => execDiscard_of_held hset o hperm he, execStageStatus_of_permitted hset⟩

end Machine
end Sys2Proof
end

section
/-!
SUPPORT. The management target (R355, R356, R361): while it answers, each command acts on its buffer, its receipts or its notices.
-/
namespace Sys2Proof
namespace Machine

section
variable {s : State} (ha : s.mgmtAnswers = false)
include ha

theorem execMgmtAppend_of_silent (b : List Byte) : exec (.mgmtAppend b) s = .next (s.emit (.held 65)) :=
  congrArg Host.Outcome.next (if_pos (by simp [ha]))

theorem execMgmtSubmit_of_silent : exec .mgmtSubmit s = .next (s.emit (.held 65)) :=
  congrArg Host.Outcome.next (if_pos (by simp [ha]))

theorem execMgmtEmpty_of_silent : exec .mgmtEmpty s = .next (s.emit (.held 65)) :=
  congrArg Host.Outcome.next (if_pos (by simp [ha]))

theorem execMgmtReceiptRead_of_silent : exec .mgmtReceiptRead s = .next (s.emit (.held 65)) :=
  congrArg Host.Outcome.next (if_pos (by simp [ha]))

theorem execMgmtNoticeRead_of_silent : exec .mgmtNoticeRead s = .next (s.emit (.held 65)) :=
  congrArg Host.Outcome.next (if_pos (by simp [ha]))

theorem execMgmtGetReceipt_of_silent (tag : BitVec 16) : exec (.mgmtGetReceipt tag) s = .next (s.emit (.held 65)) :=
  congrArg Host.Outcome.next (if_pos (by simp [ha]))

end

section
variable {s : State} (ha : s.mgmtAnswers = true)
include ha

/-- A command of the target that answers is its act alone. -/
theorem next_of_mgmtAnswers {c : Instr} {t : State} (he : exec c s = .next (if !s.mgmtAnswers then s.emit (.held 65) else t)) :
    exec c s = .next t := by
  rw [he, if_neg (by simp [ha])]

/-- The buffer holds 4,096 bytes; a transfer beyond them discards it (R355, R356). -/
theorem execMgmtAppend_of_answers (bytes : List Byte) : exec (.mgmtAppend bytes) s = .next
    (if 4096 < (s.cmd.mgmt.buffer ++ bytes).length then (s.setMgmt { s.cmd.mgmt with buffer := [] }).bump Cnt.HUB_MGMT_DISCARDED
    else s.setMgmt { s.cmd.mgmt with
      buffer := s.cmd.mgmt.buffer ++ bytes, since := if s.cmd.mgmt.buffer = [] then s.boot.ticks else s.cmd.mgmt.since }) :=
  next_of_mgmtAnswers ha rfl

theorem execMgmtSubmit_of_notReady (hr : s.ready = false) : exec .mgmtSubmit s = .next (s.emit (.held 65)) :=
  (next_of_mgmtAnswers ha rfl).trans (congrArg Host.Outcome.next (if_pos (by simp [hr])))

theorem execMgmtSubmit_of_ready (hr : s.ready = true) : exec .mgmtSubmit s = .next
    ((s.setMgmt { s.cmd.mgmt with buffer := [] }).submit (hdrOf 65 0 65 false none s.cmd.mgmt.buffer) s.cmd.mgmt.buffer 4080) :=
  (next_of_mgmtAnswers ha rfl).trans (congrArg Host.Outcome.next (if_neg (by simp [hr])))

theorem execMgmtReceiptRead_of_nil (hn : s.cmd.mgmt.receipts = []) : exec .mgmtReceiptRead s = .next (s.emit (.bytes 65 [])) := by
  refine (next_of_mgmtAnswers ha rfl).trans (congrArg Host.Outcome.next ?_)
  rw [hn]

/-- A receipt read to its last byte is released (R355). -/
theorem execMgmtReceiptRead_of_cons {r : Receipt} {rest : List Receipt} (hn : s.cmd.mgmt.receipts = r :: rest) :
    exec .mgmtReceiptRead s = .next
      (((s.setMgmt { s.cmd.mgmt with receipts := rest }).emit (.receipt 65 r)).emit (.bytes 65 r.bytes)) := by
  refine (next_of_mgmtAnswers ha rfl).trans (congrArg Host.Outcome.next ?_)
  simp only [hn]

theorem execMgmtNoticeRead_of_nil (hn : s.cmd.mgmt.notices = []) : exec .mgmtNoticeRead s = .next (s.emit (.bytes 65 [])) := by
  refine (next_of_mgmtAnswers ha rfl).trans (congrArg Host.Outcome.next ?_)
  rw [hn]

theorem execMgmtNoticeRead_of_cons {n : Notice} {rest : List Notice} (hn : s.cmd.mgmt.notices = n :: rest) :
    exec .mgmtNoticeRead s = .next (((s.setMgmt { s.cmd.mgmt with notices := rest }).emit (.bytes 65 n.bytes)).flushLost) := by
  refine (next_of_mgmtAnswers ha rfl).trans (congrArg Host.Outcome.next ?_)
  simp only [hn]

theorem execMgmtGetReceipt_of_answers {tag : BitVec 16} {bytes : List Byte} {x : State} (ht : s.tagState 65 tag.toNat 4096 = (bytes, x)) :
    exec (.mgmtGetReceipt tag) s = .next (x.emit (.bytes 65 bytes)) := by
  refine (next_of_mgmtAnswers ha rfl).trans (congrArg Host.Outcome.next ?_)
  simp only [ht]

end

section
variable {s : State}

/-- In SAFE the keeper alone answers the read of the target's state (R485). -/
theorem execMgmtStateRead_of_safe (hs : s.boot.safe = true) (hk : s.keeperAwake = true) :
    exec .mgmtStateRead s = .next (s.emit (.bytes 65 (s.stateWord 65 Status.hwFault.code 0 0))) :=
  congrArg Host.Outcome.next (if_pos (by simp [hs, hk]))

variable (hn : s.boot.safe = false ∨ s.keeperAwake = false)
include hn

theorem execMgmtStateRead_of_silent (ha : s.mgmtAnswers = false) : exec .mgmtStateRead s = .next (s.emit (.held 65)) :=
  congrArg Host.Outcome.next ((if_neg (by simpa [or_iff_not_imp_left] using hn)).trans (if_pos (by simp [ha])))

theorem execMgmtStateRead_of_answers (ha : s.mgmtAnswers = true) : exec .mgmtStateRead s = .next
    (s.emit (.bytes 65 (s.stateWord 65 s.cmd.mgmt.lastReject s.cmd.mgmt.receipts.length s.cmd.mgmt.notices.length))) :=
  congrArg Host.Outcome.next ((if_neg (by simpa [or_iff_not_imp_left] using hn)).trans (if_neg (by simp [ha])))

end

theorem execMgmtAssemblyTimeout_acts (s : State) :
    Acts .mgmtAssemblyTimeout s (s.cmd.mgmt.buffer ≠ [] ∧ s.cmd.mgmt.since + 8000 ≤ s.boot.ticks)
      (fun t => t = (s.setMgmt { s.cmd.mgmt with buffer := [] }).bump Cnt.HUB_MGMT_DISCARDED) :=
  Acts.of_ite rfl Iff.rfl fun _ => rfl

/-- Settles O48: the target answers or holds the transfer, and then each command is its act. -/
theorem managementTargetCommandsAct : Obligations.ManagementTargetCommandsAct := by
  rintro s m rfl
  refine ⟨fun ha => ⟨execMgmtAppend_of_silent ha, execMgmtSubmit_of_silent ha, execMgmtEmpty_of_silent ha, execMgmtReceiptRead_of_silent ha,
      execMgmtNoticeRead_of_silent ha, execMgmtGetReceipt_of_silent ha⟩,
    fun ha => ⟨fun bytes => (next_cases (execMgmtAppend_of_answers ha bytes)).1,
      fun bytes hl => (next_cases (execMgmtAppend_of_answers ha bytes)).2 hl.not_gt, execMgmtSubmit_of_notReady ha, execMgmtSubmit_of_ready ha,
      next_of_mgmtAnswers ha rfl, execMgmtReceiptRead_of_nil ha, fun _ _ => execMgmtReceiptRead_of_cons ha, execMgmtNoticeRead_of_nil ha,
      fun _ _ => execMgmtNoticeRead_of_cons ha, fun _ _ _ => execMgmtGetReceipt_of_answers ha⟩,
    execMgmtStateRead_of_safe, fun hn => ⟨execMgmtStateRead_of_silent hn, execMgmtStateRead_of_answers hn⟩,
    execMgmtAssemblyTimeout_acts s⟩

end Machine
end Sys2Proof
end

section
/-!
SUPPORT. The opcodes over the input paths, the USB power ports and the power state (R399, R404, R422).
-/
namespace Sys2Proof
namespace Machine

section
variable {s u : State} {h : CmdHdr} {k : Nat}

section
variable {input : Byte} (o : Opens (.pwrinRetryClear h input) s k u)
include o

theorem execPwrinRetryClear_of_badInput (hi : 1 < input.toNat) :
    exec (.pwrinRetryClear h input) s = .next (u.finish k .badParam []) :=
  exec_of_opens rfl o rfl (if_pos hi)

theorem execPwrinRetryClear_of_notLatched (hi : input.toNat ≤ 1) (hp : u.pathState input.toNat ≠ 5) :
    exec (.pwrinRetryClear h input) s = .next (u.finish k .notPermitted []) :=
  exec_of_opens rfl o rfl ((if_neg hi.not_gt).trans (if_pos hp))

/-- A LATCHED path goes to OFF with its retries cleared, and ramps again where its input is in the window (R404). -/
theorem execPwrinRetryClear_of_latched (hi : input.toNat ≤ 1) (hp : u.pathState input.toNat = 5) :
    exec (.pwrinRetryClear h input) s = .next
      ((((u.setPath input.toNat 0).set (Reg.IN_STATE_RETRIES input.toNat) 0).tryRamp input.toNat false).finish k .ok []) :=
  exec_of_opens rfl o rfl ((if_neg hi.not_gt).trans (if_neg (not_not.mpr hp)))

end

section
variable {port : Byte}

theorem execPdStatus_of_port (o : Opens (.pdStatus h port) s k u) (hp : port.toNat ≤ 4) :
    exec (.pdStatus h port) s = .next (u.finish k .ok
      (leBytes 4 (u.word (Reg.PD_PORT_0 port.toNat)).toNat ++ leBytes 4 (u.word (Reg.PD_PORT_4 port.toNat)).toNat ++
        leBytes 4 (u.word (Reg.PD_PORT_8 port.toNat)).toNat ++ leBytes 4 0 ++ u.policyBytes port.toNat)) :=
  exec_of_opens rfl o rfl (if_neg hp.not_gt)

theorem execPdStatus_of_badPort (o : Opens (.pdStatus h port) s k u) (hp : 4 < port.toNat) :
    exec (.pdStatus h port) s = .next (u.finish k .badParam []) :=
  exec_of_opens rfl o rfl (if_pos hp)

section
variable (o : Opens (.pdRoleSwap h port) s k u)
include o

theorem execPdRoleSwap_of_badPort (hp : 3 < port.toNat) : exec (.pdRoleSwap h port) s = .next (u.finish k .badParam []) :=
  exec_of_opens rfl o rfl (if_pos hp)

section
variable (hp : port.toNat ≤ 3)
include hp

theorem execPdRoleSwap_of_swapping (hs : (u.pdPort port.toNat).swap ≠ none) :
    exec (.pdRoleSwap h port) s = .next (u.finish k .busyRetry (u.roleData port.toNat)) :=
  exec_of_opens rfl o rfl ((if_neg hp.not_gt).trans (if_pos (Option.isSome_iff_ne_none.mpr hs)))

variable (hs : (u.pdPort port.toNat).swap = none)
include hs

/-- A swap needs a contract, a partner of both roles, and at a Sink the budget for 5 V and 900 mA (R399). -/
theorem execPdRoleSwap_of_notPermitted (hn : u.flag (Reg.PD_PORT_CONTRACT port.toNat) = false ∨ (u.pdPort port.toNat).dualRole = false ∨
    (u.isSource port.toNat = false ∧ (u.sourceEn port.toNat = false ∨ u.offerMost port.toNat < 4500))) :
    exec (.pdRoleSwap h port) s = .next (u.finish k .notPermitted (u.roleData port.toNat)) :=
  exec_of_opens rfl o rfl ((if_neg hp.not_gt).trans ((if_neg (by simp [hs])).trans (if_pos (by simpa [or_assoc] using hn))))

/-- The swap begins, and the command waits for its end on the port (R399). -/
theorem execPdRoleSwap_of_permitted (hc : u.flag (Reg.PD_PORT_CONTRACT port.toNat) = true) (hd : (u.pdPort port.toNat).dualRole = true)
    (hr : u.isSource port.toNat = true ∨ (u.sourceEn port.toNat = true ∧ 4500 ≤ u.offerMost port.toNat)) {v : State}
    (hv : v = (u.updPd port.toNat (fun x => { x with swap := some ⟨true, u.isSource port.toNat, false⟩ })).setFlag
      (Reg.PD_PORT_SWAPPING port.toNat) true) :
    exec (.pdRoleSwap h port) s = .next ((v.pdSend port.toNat "PR_Swap").updEntry k (fun e => { e with wait := port.toNat })) := by
  subst hv
  refine exec_of_opens_waits rfl o rfl ((if_neg hp.not_gt).trans ((if_neg (by simp [hs])).trans (if_neg ?_)))
  rcases hr with hr | ⟨he, hm⟩
  · simp [hc, hd, hr]
  · simp [hc, hd, he, hm]

end
end

section
variable {policy : PdPolicy} (o : Opens (.pdPolicy h port policy) s k u)
include o

theorem execPdPolicy_of_badParam (hb : 4 < port.toNat ∨ policy.reservedOk = false ∨ policy.maxW.toNat < 5 ∨ 60 < policy.maxW.toNat ∨
    3 < policy.priority.toNat ∨ (port.toNat = 4 ∧ (policy.sourceEn = true ∨ policy.acceptPrSwap = true))) :
    exec (.pdPolicy h port policy) s = .next (u.finish k .badParam []) :=
  exec_of_opens rfl o rfl (if_pos (by simpa [or_assoc] using hb))

/-- A policy in range is refused for its PDOs or for the budget they need, and else waits for its turn (R404). -/
theorem execPdPolicy_of_inRange (hp : port.toNat ≤ 4) (hr : policy.reservedOk = true) (h5 : 5 ≤ policy.maxW.toNat)
    (h60 : policy.maxW.toNat ≤ 60) (h3 : policy.priority.toNat ≤ 3)
    (h4 : port.toNat = 4 → policy.sourceEn = false ∧ policy.acceptPrSwap = false) {t : State} {st : Status}
    (hb : (if !pdosOk policy || decide (u.budget < u.overrideSum port.toNat policy) then (u, CmdEnd.done .checkFailed [])
      else (u.updPd port.toNat (fun x => { x with next := some policy }), .done .ok [])) = (t, .done st [])) :
    exec (.pdPolicy h port policy) s = .next (t.finish k st []) := by
  refine exec_of_opens rfl o rfl ((if_neg ?_).trans hb)
  simpa [hp, hr, h5, h60, h3] using h4

end
end
end

/-- Settles O16: the refusals come in the order of each opcode's checks, and the status opcodes read the state alone. -/
theorem powerCommandsComplete : Obligations.PowerCommandsComplete := by
  intro s u h k
  refine ⟨fun o => exec_of_opens rfl o rfl rfl,
    fun input o => ⟨execPwrinRetryClear_of_latched o, execPwrinRetryClear_of_notLatched o, execPwrinRetryClear_of_badInput o⟩,
    fun port o => ⟨execPdStatus_of_port o, execPdStatus_of_badPort o⟩,
    fun port o => ⟨fun hp hs hc hd hr v => execPdRoleSwap_of_permitted o hp hs hc hd hr, execPdRoleSwap_of_swapping o,
      execPdRoleSwap_of_notPermitted o, execPdRoleSwap_of_badPort o⟩,
    fun port policy => execPdPolicy_of_badParam, fun port policy o hp hr h5 h60 h3 h4 => ⟨fun hok hfit => ?_, fun hbad => ?_⟩,
    fun o => exec_of_opens rfl o rfl rfl⟩
  · exact execPdPolicy_of_inRange o hp hr h5 h60 h3 h4 (if_neg (by simp [hok, hfit]))
  · exact execPdPolicy_of_inRange o hp hr h5 h60 h3 h4 (if_pos (by simpa using hbad))

end Machine
end Sys2Proof
end

section
/-!
SUPPORT. The fast trip of an input path (R381, R382): its gate goes down, whatever follows.
-/
namespace Sys2Proof
namespace Machine

/-- A path that changes its state puts its gate where the state wants it, before anything else leaves (R379). -/
theorem State.setPath_gate {s : State} {x new : Nat} (h : s.pathState x ≠ new) :
    .gate x (new == 1 || new == 2) :: s.out <:+ (s.setPath x new).out := by
  suffices hw : Within [.regs, .shadow, .out, .seed, .rt, .cmd, .link, .tun, .sw, .eng, .reg, .bridge, .media, .usb, .power, .pd, .ps,
      .sec, .mem, .recorder, .boot] ((s.set (Reg.IN_STATE_STATE x) new).emit (.gate x (new == 1 || new == 2))) (s.setPath x new) from
    hw.outGrows
  unfold State.setPath
  rw [if_neg h]
  refine Within.step (State.requestAgain_within ..) rfl (Within.step (State.syncPg_within ..) rfl (Within.step (State.notice_within ..) rfl ?_))
  refine State.when_within (fun _ => (State.updPath_within ..).weaken rfl) ?_
  refine State.when_within (fun _ => (State.set_within ..).weaken rfl) ?_
  refine State.when_within (fun _ => (State.setFlag_within ..).weaken rfl) ?_
  refine State.when_within (fun _ => Within.step (State.setFlag_within ..) rfl ((State.setFlag_within ..).weaken rfl)) ?_
  exact State.when_within (fun _ => (State.setFlag_within ..).weaken rfl) (Within.refl _)

/-- What has left since a state shows among the newest outputs. -/
theorem mem_take_of_suffix {α : Type} {a : α} {l m : List α} (h : a :: l <:+ m) : a ∈ m.take (m.length - l.length) := by
  obtain ⟨pre, rfl⟩ := h
  have hl : (pre ++ a :: l).length - l.length = (pre ++ [a]).length := by
    simp only [List.length_append, List.length_cons, List.length_nil]
    omega
  rw [hl, List.append_cons pre a l, List.take_left]
  exact List.mem_append_right _ (List.mem_singleton.mpr rfl)

section
variable {s : State} (hs : s.regsWf) (x : InputId)

/-- The counter of the fast trips and what a path shows of its last fault lie in registers of their own. -/
theorem State.fastTripWords_ne : Reg.IN_STATE x.code ≠ Cnt.PWRIN_FAST_TRIPS x.code ∧ Reg.IN_STATE x.code ≠ Cnt.PWRIN_LATCHES x.code := by
  cases x <;> decide

/-- What a fast trip shows before the path takes its next state (R381). -/
def State.fastTripShown (s : State) (x : InputId) : State :=
  (s.bump (Cnt.PWRIN_FAST_TRIPS x.code)).set (Reg.IN_STATE_LAST_FAULT x.code) 2

omit hs in
theorem State.fastTripShown_out : (s.fastTripShown x).out = s.out := by
  rw [State.fastTripShown, State.set_out, State.bump_out]

/-- A path's retries are spent: its next trip latches it (R382). -/
def State.retriesSpent (s : State) (x : InputId) : Prop :=
  s.get (Reg.IN_CFG_RETRY_MAX x.code) ≠ 15 ∧ s.get (Reg.IN_CFG_RETRY_MAX x.code) ≤ s.get (Reg.IN_STATE_RETRIES x.code)

omit hs in
theorem State.pathState_bump {n c : Nat} (h : Reg.IN_STATE n ≠ c) : (s.bump c).pathState n = s.pathState n :=
  congrArg (fun w : Word => bitsOf w.toNat 0 3) (State.word_bump_other s 1 h)

include hs

theorem State.fastTripShown_lastFault : (s.fastTripShown x).get (Reg.IN_STATE_LAST_FAULT x.code) = 2 :=
  State.get_set_same (State.regsWf_setWord hs _ _) _ _ (show 12 + 4 ≤ 32 by decide)

theorem State.fastTripShown_count : ((s.fastTripShown x).word (Cnt.PWRIN_FAST_TRIPS x.code)).toNat =
    min 0xFFFFFFFF ((s.word (Cnt.PWRIN_FAST_TRIPS x.code)).toNat + 1) := by
  rw [State.fastTripShown, State.word_set_other _ _ (State.fastTripWords_ne x).1.symm, State.word_bump_same hs]

theorem State.fastTripShown_pathState : (s.fastTripShown x).pathState x.code = s.pathState x.code :=
  (State.get_set_apart (State.regsWf_setWord hs _ _) (f := Reg.IN_STATE_LAST_FAULT x.code) (g := Reg.IN_STATE_STATE x.code) 2 rfl
    (show 12 + 4 ≤ 32 by decide) (Or.inl (show 0 + 3 ≤ 12 by decide))).trans (State.pathState_bump (State.fastTripWords_ne x).1)

end

section
variable {s : State} {x : InputId} {on : Nat}

theorem State.trip_of_spent (h : (s.fastTripShown x).retriesSpent x) :
    s.trip x.code on true = ((s.fastTripShown x).bump (Cnt.PWRIN_LATCHES x.code)).setPath x.code 5 :=
  if_pos h

theorem State.trip_of_left (h : ¬ (s.fastTripShown x).retriesSpent x) :
    ∃ ms at_, s.trip x.code on true = (((s.fastTripShown x).setPath x.code 4).set (Reg.IN_STATE_COOL_MS x.code) ms).updPath x.code
      (fun p => { p with coolUntil := at_ }) :=
  ⟨_, _, if_neg h⟩

/-- Whether a trip latches the path or lets it cool, the state it takes is one whose gate is down. -/
theorem State.trip_gate (hs : s.regsWf) (hp : s.pathState x.code = 1 ∨ s.pathState x.code = 2) :
    .gate x.code false :: s.out <:+ (s.trip x.code on true).out := by
  have hv := State.fastTripShown_pathState hs x
  by_cases h : (s.fastTripShown x).retriesSpent x
  · rw [State.trip_of_spent h]
    have hb := State.pathState_bump (s := s.fastTripShown x) (State.fastTripWords_ne x).2
    have hne : ((s.fastTripShown x).bump (Cnt.PWRIN_LATCHES x.code)).pathState x.code ≠ 5 := by omega
    have hgate := State.setPath_gate hne
    rwa [State.bump_out, State.fastTripShown_out] at hgate
  · obtain ⟨ms, at_, ht⟩ := State.trip_of_left (on := on) h
    have hne : (s.fastTripShown x).pathState x.code ≠ 4 := by omega
    have hgate := State.setPath_gate hne
    rw [State.fastTripShown_out] at hgate
    rw [ht]
    exact hgate.trans ((State.set_within ..).outGrows.trans (State.updPath_within ..).outGrows)

end

/-- Settles O58: the trip is counted and shown, and the state it takes, LATCHED or COOL, is one whose gate is down. -/
theorem fastTripPullsTheGate : Obligations.FastTripPullsTheGate := by
  rintro s v x tOn hs rfl
  refine ⟨fun hp => ?_, fun hp => congrArg Host.Outcome.next (if_neg hp)⟩
  exact ⟨_, congrArg Host.Outcome.next (if_pos hp), mem_take_of_suffix (State.trip_gate hs hp), State.fastTripShown_count hs x,
    State.fastTripShown_lastFault hs x, State.trip_of_spent, State.trip_of_left⟩

end Machine
end Sys2Proof
end

section
/-!
SUPPORT. The opcodes over keys, reports and debug (R426, R430, R441, R442, R445), and the lockout (R431).
-/
namespace Sys2Proof
namespace Machine

section
variable {s u : State} {h : CmdHdr} {k n : Nat} {st : Status}

section
variable {l : Letter} (o : Opens (.keyLetter h l) s k u)
include o

theorem execKeyLetter_of_passed (hc : u.letterCheck h l = (0, st)) :
    exec (.keyLetter h l) s = .next ((u.acceptLetter l).finish k .ok
      (leBytes 4 (letterHead l).slot ++ leBytes 4 (letterHead l).sealCounter)) :=
  exec_of_opens rfl o rfl (by simp only [hc])

/-- In a lockout the letter is refused and told of, and is no SEAL_INVALID result (R431). -/
theorem execKeyLetter_of_lockout (hc : u.letterCheck h l = (7, st)) :
    exec (.keyLetter h l) s = .next ((u.notice 0x80D1 [0]).finish k st []) :=
  exec_of_opens rfl o rfl (by simp only [hc])

/-- Any other check that fails ends the letter with its status, counted where that is SEAL_INVALID (R430). -/
theorem execKeyLetter_of_refused (h0 : n ≠ 0) (h7 : n ≠ 7) (hc : u.letterCheck h l = (n, st)) :
    exec (.keyLetter h l) s = .next ((if st = .sealInvalid then u.sealInvalid n else u).finish k st []) :=
  exec_of_opens rfl o rfl (by simp only [hc])

end

section
variable {t : Token} (o : Opens (.debugUnlock h t) s k u)
include o

theorem execDebugUnlock_of_relock (hc : u.tokenCheck h t = (0, st)) (hr : tokenRelocks t = true) :
    exec (.debugUnlock h t) s = .next ((u.debugEnds true).finish k .ok (leBytes 4 0)) :=
  exec_of_opens rfl o rfl (by simp only [hc, hr, if_true])

theorem execDebugUnlock_of_unlock (hc : u.tokenCheck h t = (0, st)) (hr : tokenRelocks t = false) :
    exec (.debugUnlock h t) s = .next
      (((u.set (Reg.SEAL_COUNTER_VALUE 64) (leAt t.bytes 4 4)).unlockDebug).finish k .ok (leBytes 4 1)) :=
  exec_of_opens rfl o rfl (by simp only [hc, hr, Bool.false_eq_true, if_false])

theorem execDebugUnlock_of_lockout (hc : u.tokenCheck h t = (7, st)) :
    exec (.debugUnlock h t) s = .next ((u.notice 0x80D1 [0]).finish k st []) :=
  exec_of_opens rfl o rfl (by simp only [hc])

theorem execDebugUnlock_of_refused (h0 : n ≠ 0) (h7 : n ≠ 7) (hc : u.tokenCheck h t = (n, st)) :
    exec (.debugUnlock h t) s = .next ((if st = .sealInvalid then u.sealInvalid n else u).finish k st []) :=
  exec_of_opens rfl o rfl (by simp only [hc])

end

section
variable {slot : Byte} (o : Opens (.keySlotInfo h slot) s k u)
include o

theorem execKeySlotInfo_of_slot (hs : slot.toNat ≤ 63) :
    exec (.keySlotInfo h slot) s = .next (u.finish k .ok (u.slotRecord slot.toNat)) :=
  exec_of_opens rfl o rfl (if_neg hs.not_gt)

theorem execKeySlotInfo_of_badSlot (hs : 63 < slot.toNat) : exec (.keySlotInfo h slot) s = .next (u.finish k .badParam []) :=
  exec_of_opens rfl o rfl (if_pos hs)

end

section
variable {nonce : List Byte} (o : Opens (.attest h nonce) s k u) (hn : nonce.length = 32)
include o hn

/-- The report is signed with a free value, and the certificate follows it (R441). -/
theorem execAttest_of_sound (hc : u.flag Reg.SEC_STATE_CRYPTO_ERROR = false) :
    exec (.attest h nonce) s = .next
      (u.draw.2.finish k .ok (u.report nonce ++ bigBytes 96 (Config.signature u.draw.1).toNat ++
        leBytes 4 (Config.certLen.val + 1) ++ (List.range (Config.certLen.val + 1)).map Config.certByte)) :=
  exec_of_opens rfl o (beq_iff_eq.mpr hn) (if_neg (by simp [hc]))

theorem execAttest_of_cryptoError (hc : u.flag Reg.SEC_STATE_CRYPTO_ERROR = true) :
    exec (.attest h nonce) s = .next (u.finish k .notPermitted []) :=
  exec_of_opens rfl o (beq_iff_eq.mpr hn) (if_pos hc)

end

section
variable {confirm : Word} (o : Opens (.zeroise h confirm) s k u)
include o

theorem execZeroise_of_badConfirm (hc : confirm.toNat ≠ 0x5A45524F) : exec (.zeroise h confirm) s = .next (u.finish k .badParam []) :=
  exec_of_opens rfl o rfl (if_pos hc)

variable (hc : confirm.toNat = 0x5A45524F)
include hc

/-- Over the remote path only the policy's bit admits a zeroisation (R445, R446). -/
theorem execZeroise_of_notPermitted (hp : h.path.val = 66) (hb : bitOf (u.get Reg.SEC_STATE_POLICY) 1 = false) :
    exec (.zeroise h confirm) s = .next (u.finish k .notPermitted []) :=
  exec_of_opens rfl o rfl ((if_neg (not_not.mpr hc)).trans (if_pos (by simp [hp, hb])))

/-- The command waits for the erasure (R445). -/
theorem execZeroise_of_permitted (hp : h.path.val = 66 → bitOf (u.get Reg.SEC_STATE_POLICY) 1 = true) :
    exec (.zeroise h confirm) s = .next
      ((u.setSec { u.sec with zeroising := some (u.sec.zeroising.getD k) }).updEntry k (fun e => { e with wait := 0 })) :=
  exec_of_opens_waits rfl o rfl ((if_neg (not_not.mpr hc)).trans (if_neg (by simpa using hp)))

end
end

/-- Settles O17: the number of the check that fails decides what a letter or a token does, and each other opcode is its checks in order. -/
theorem securityCommandsComplete : Obligations.SecurityCommandsComplete := fun _ _ _ _ =>
  ⟨fun _ o => ⟨fun _ => execKeyLetter_of_passed o, fun _ => execKeyLetter_of_lockout o, fun _ _ => execKeyLetter_of_refused o⟩,
    fun _ o => ⟨execKeySlotInfo_of_slot o, execKeySlotInfo_of_badSlot o⟩,
    fun _ o hn => ⟨execAttest_of_sound o hn, execAttest_of_cryptoError o hn⟩,
    fun _ o => ⟨execZeroise_of_permitted o, execZeroise_of_badConfirm o, execZeroise_of_notPermitted o⟩,
    fun _ o => ⟨fun _ hc => ⟨execDebugUnlock_of_relock o hc, execDebugUnlock_of_unlock o hc⟩, fun _ => execDebugUnlock_of_lockout o,
      fun _ _ => execDebugUnlock_of_refused o⟩⟩

theorem State.notice_sec (s : State) (code : Nat) (body : List Nat) : (s.notice code body).sec = s.sec :=
  (s.notice_within code body).frame .sec (by decide)

theorem State.notice_boot (s : State) (code : Nat) (body : List Nat) : (s.notice code body).boot = s.boot :=
  (s.notice_within code body).frame .boot (by decide)

/-- A SEAL_INVALID result counted and told (R430). -/
def State.sealToldInvalid (s : State) (check : Nat) : State := (s.bump Cnt.SECURE_LETTERS_REFUSED).notice 0x80D1 [check]

theorem State.sealToldInvalid_sec (s : State) (check : Nat) : (s.sealToldInvalid check).sec = s.sec := by
  rw [State.sealToldInvalid, State.notice_sec, State.bump_sec]

theorem State.sealToldInvalid_boot (s : State) (check : Nat) : (s.sealToldInvalid check).boot = s.boot := by
  rw [State.sealToldInvalid, State.notice_boot, State.bump_boot]

theorem State.sealToldInvalid_regsWf {s : State} (hs : s.regsWf) (check : Nat) : (s.sealToldInvalid check).regsWf :=
  (State.notice_within ..).form (State.regsWf_setWord hs _ _)

/-- The eighth SEAL_INVALID result within 8,000 rounds starts the lockout (R431). -/
theorem State.sealInvalid_of_eighth {s : State} {check : Nat} (h8 : 8 ≤ (recentTicks s.sec.invalid s.boot.ticks 8000).length) :
    s.sealInvalid check = ((s.sealToldInvalid check).setFlag Reg.SEC_STATE_LOCKOUT true).setSec
      { s.sec with invalid := [], lockUntil := s.boot.ticks + 80000 } := by
  have hcond : 8 ≤ (recentTicks (s.sealToldInvalid check).sec.invalid (s.sealToldInvalid check).boot.ticks 8000).length := by
    rwa [State.sealToldInvalid_sec, State.sealToldInvalid_boot]
  refine (if_pos hcond).trans ?_
  rw [← State.sealToldInvalid_sec s check, ← State.sealToldInvalid_boot s check]
  rfl

section
variable {s : State} {h : CmdHdr} (hl : s.flag Reg.SEC_STATE_LOCKOUT = true)
include hl

/-- The lockout comes before every check of a well-formed letter but those of its slot and of an owner's claim (R430, R431). -/
theorem State.letterCheck_of_lockout {l : Letter} (hf : letterForm h.paramLen s.round l = true) (hw : (letterHead l).slotWritable = true)
    (hc : (letterHead l).ownerClaim = true → (h.path.val = 64 ∨ h.path.val = 65) ∧ s.get (Reg.SLOT_ATTR_STATE 2) = 0) :
    s.letterCheck h l = (7, .notPermitted) :=
  (if_neg (by simp [hf])).trans ((if_neg (by simp [hw])).trans ((if_neg (by simpa [or_iff_not_imp_left] using hc)).trans (if_pos hl)))

theorem State.tokenCheck_of_lockout {t : Token} (hp : h.paramLen = t.bytes.length) (hf : tokenRelocks t = true ∨ tokenForm t = true) :
    s.tokenCheck h t = (7, .notPermitted) :=
  (if_neg (by simpa [hp, or_iff_not_imp_left] using hf)).trans (if_pos hl)

end

/-- Settles O59: the eighth result sets the lockout, and in it the check of a letter or a token is that of the lockout. -/
theorem lockoutRefusesSeals : Obligations.LockoutRefusesSeals := by
  refine ⟨fun s check hs h8 => ?_, fun s u h k l o hl hf hw hc => execKeyLetter_of_lockout o (State.letterCheck_of_lockout hl hf hw hc),
    fun s u h k t o hl hp hf => execDebugUnlock_of_lockout o (State.tokenCheck_of_lockout hl hp hf)⟩
  rw [State.sealInvalid_of_eighth h8]
  exact ⟨State.flag_setFlag_same (State.sealToldInvalid_regsWf hs check) _ _ (by decide) rfl, rfl⟩

end Machine
end Sys2Proof
end

section
/-!
SUPPORT. The recorder's opcodes and the status of the scrubber (R465, R466).
-/
namespace Sys2Proof
namespace Machine

section
variable {s u : State} {h : CmdHdr} {k : Nat}

section
variable (o : Opens (.recorderFreeze h) s k u)
include o

/-- A freeze keeps its mark, its time and the count of seconds (R465). -/
theorem execRecorderFreeze_of_thawed (hf : u.frozen = false) {v : State}
    (hv : v = (u.setFlag Reg.REC_STATE_FROZEN true).set Reg.REC_STATE_PATH h.path.val) :
    exec (.recorderFreeze h) s = .next
      ((v.setRecorder { v.recorder with frozenMark := v.now, frozenAt := v.boot.ticks, frozenSeconds := v.recorder.seconds }).finish k .ok
        (leBytes 8 v.now)) := by
  subst hv
  exact exec_of_opens rfl o rfl (if_neg (by simp [hf]))

variable (hf : u.frozen = true)
include hf

theorem execRecorderFreeze_of_samePath (hp : u.get Reg.REC_STATE_PATH = h.path.val) :
    exec (.recorderFreeze h) s = .next (u.finish k .ok (leBytes 8 u.recorder.frozenMark)) :=
  exec_of_opens rfl o rfl ((if_pos hf).trans (if_pos hp))

theorem execRecorderFreeze_of_otherPath (hp : u.get Reg.REC_STATE_PATH ≠ h.path.val) :
    exec (.recorderFreeze h) s = .next (u.finish k .busyRetry []) :=
  exec_of_opens rfl o rfl ((if_pos hf).trans (if_neg hp))

end

section
variable {first count : BitVec 16} (o : Opens (.recorderRead h first count) s k u)
include o

theorem execRecorderRead_of_notPermitted (hn : u.frozen = false ∨ u.get Reg.REC_STATE_PATH ≠ h.path.val) :
    exec (.recorderRead h first count) s = .next (u.finish k .notPermitted []) :=
  exec_of_opens rfl o rfl (if_pos (by simpa using hn))

variable (hf : u.frozen = true) (hp : u.get Reg.REC_STATE_PATH = h.path.val)
include hf hp

theorem execRecorderRead_of_badRange (hb : 192 < first.toNat ∨ count.toNat = 0 ∨ 193 < first.toNat + count.toNat) :
    exec (.recorderRead h first count) s = .next (u.finish k .badParam []) :=
  exec_of_opens rfl o rfl ((if_neg (by simp [hf, hp])).trans (if_pos (by simpa [or_assoc] using hb)))

/-- As many whole records as the receipt has room for (R466). -/
theorem execRecorderRead_of_inRange (h192 : first.toNat ≤ 192) (h1 : 1 ≤ count.toNat) (h193 : first.toNat + count.toNat ≤ 193) :
    exec (.recorderRead h first count) s = .next (u.finish k .ok
      (leBytes 2 ((u.recordsFrom count.toNat first.toNat (4080 - 4)).2 - first.toNat) ++
        leBytes 2 (u.recordsFrom count.toNat first.toNat (4080 - 4)).2 ++ (u.recordsFrom count.toNat first.toNat (4080 - 4)).1)) := by
  have h0 : count.toNat ≠ 0 := by omega
  exact exec_of_opens rfl o rfl ((if_neg (by simp [hf, hp])).trans (if_neg (by simp [h192, h0, h193])))

end

section
variable (o : Opens (.recorderThaw h) s k u)
include o

theorem execRecorderThaw_of_samePath (hf : u.frozen = true) (hp : u.get Reg.REC_STATE_PATH = h.path.val) :
    exec (.recorderThaw h) s = .next (u.thaw.finish k .ok []) :=
  exec_of_opens rfl o rfl (if_pos (by simp [hf, hp]))

theorem execRecorderThaw_of_notPermitted (hn : u.frozen = false ∨ u.get Reg.REC_STATE_PATH ≠ h.path.val) :
    exec (.recorderThaw h) s = .next (u.finish k .notPermitted []) :=
  exec_of_opens rfl o rfl (if_neg (by simpa [or_iff_not_imp_left] using hn))

end
end

end Machine
end Sys2Proof
end

section
/-!
SUPPORT. The firmware opcodes (R480, R481).
-/
namespace Sys2Proof
namespace Machine

section
variable {s u : State} {h : CmdHdr} {k : Nat}

section
variable {offset : Word} {data : List Byte} {verified : Bool} (o : Opens (.fwStageImage h offset data verified) s k u)
  (hl : data.length + 4 = h.paramLen)
include o hl

theorem execFwStageImage_of_badOffset (h0 : offset.toNat ≠ 0) (hn : offset.toNat ≠ u.get Reg.FW_STAGED_RECEIVED) :
    exec (.fwStageImage h offset data verified) s = .next (u.finish k .badParam []) :=
  exec_of_opens rfl o (beq_iff_eq.mpr hl) (if_pos ⟨h0, hn⟩)

variable (hs : offset.toNat = 0 ∨ offset.toNat = u.get Reg.FW_STAGED_RECEIVED)
include hs

theorem execFwStageImage_of_tooLong (hb : 2097408 < offset.toNat + data.length) :
    exec (.fwStageImage h offset data verified) s = .next (u.finish k .noResource []) :=
  exec_of_opens rfl o (beq_iff_eq.mpr hl) ((if_neg (by tauto)).trans (if_pos hb))

variable (hb : offset.toNat + data.length ≤ 2097408)
include hb

/-- A part that does not read back as written ends in HW_FAULT; at offset 0 the staged image is gone with it (R480). -/
theorem execFwStageImage_of_unverified (hv : verified = false) :
    exec (.fwStageImage h offset data verified) s = .next
      ((if offset.toNat = 0 then u.set Reg.FW_STAGED_RECEIVED 0 else u).finish k .hwFault []) :=
  exec_of_opens rfl o (beq_iff_eq.mpr hl) ((if_neg (by tauto)).trans ((if_neg hb.not_gt).trans (if_pos (by simp [hv]))))

theorem execFwStageImage_of_verified (hv : verified = true) :
    exec (.fwStageImage h offset data verified) s = .next
      ((u.set Reg.FW_STAGED_RECEIVED (offset.toNat + data.length)).finish k .ok (leBytes 4 (offset.toNat + data.length))) :=
  exec_of_opens rfl o (beq_iff_eq.mpr hl) ((if_neg (by tauto)).trans ((if_neg hb.not_gt).trans (if_neg (by simp [hv]))))

end

section
variable {slot : Byte} {image : ImageFacts} (o : Opens (.fwActivate h slot image) s k u)
include o

theorem execFwActivate_of_badSlot (hs : 1 < slot.toNat) : exec (.fwActivate h slot image) s = .next (u.finish k .badParam []) :=
  exec_of_opens rfl o rfl (if_pos hs)

variable (hs : slot.toNat ≤ 1)
include hs

/-- The slot to activate is the one that does not run, with an image staged in it and no trial under way (R481). -/
theorem execFwActivate_of_notPermitted (hn : slot.toNat ≠ 1 - u.get Reg.BOOT_STATE_RUNNING_SLOT ∨ u.get Reg.FW_STAGED_RECEIVED = 0 ∨
    u.flag Reg.BOOT_STATE_TRIAL = true) : exec (.fwActivate h slot image) s = .next (u.finish k .notPermitted []) :=
  exec_of_opens rfl o rfl ((if_neg hs.not_gt).trans (if_pos (by simpa [or_assoc] using hn)))

variable (hr : slot.toNat = 1 - u.get Reg.BOOT_STATE_RUNNING_SLOT) (hn : u.get Reg.FW_STAGED_RECEIVED ≠ 0)
  (ht : u.flag Reg.BOOT_STATE_TRIAL = false)
include hr hn ht

theorem execFwActivate_of_silentFlash (ha : image.answers = false) :
    exec (.fwActivate h slot image) s = .next (u.finish k .hwFault []) :=
  exec_of_opens rfl o rfl ((if_neg hs.not_gt).trans ((if_neg (by simp [← hr, hn, ht])).trans (if_pos (by simp [ha]))))

variable (ha : image.answers = true)
include ha

theorem execFwActivate_of_badImage (hb : imageHeaderOk image = false ∨ u.get Reg.FW_STAGED_RECEIVED ≠ 256 + imageLength image ∨
    image.digestOk = false) : exec (.fwActivate h slot image) s = .next (u.finish k .checkFailed []) :=
  exec_of_opens rfl o rfl ((if_neg hs.not_gt).trans ((if_neg (by simp [← hr, hn, ht])).trans
    ((if_neg (by simp [ha])).trans (if_pos (by simpa [or_assoc] using hb)))))

variable (hh : imageHeaderOk image = true) (hlen : u.get Reg.FW_STAGED_RECEIVED = 256 + imageLength image) (hd : image.digestOk = true)
include hh hlen hd

omit o in
/-- None of the checks before the signature's meets an image in order. -/
theorem fwActivate_checks_passed : ¬ 1 < slot.toNat ∧
    ¬ (decide (slot.toNat ≠ 1 - u.get Reg.BOOT_STATE_RUNNING_SLOT) || u.get Reg.FW_STAGED_RECEIVED == 0 ||
      u.flag Reg.BOOT_STATE_TRIAL) = true ∧ ¬ (!image.answers) = true ∧
    ¬ (!imageHeaderOk image || u.get Reg.FW_STAGED_RECEIVED != 256 + imageLength image || !image.digestOk) = true := by
  refine ⟨hs.not_gt, by simp [← hr, hn, ht], by simp [ha], by simp [hh, hlen, hd]⟩

theorem execFwActivate_of_badSigner (hg : image.signer = .none ∨ (image.signer = .testRoot ∧ u.flag Reg.SEC_STATE_DEBUG = false)) :
    exec (.fwActivate h slot image) s = .next (u.finish k .sealInvalid []) := by
  obtain ⟨c1, c2, c3, c4⟩ := fwActivate_checks_passed hs hr hn ht ha hh hlen hd
  refine exec_of_opens rfl o rfl ((if_neg c1).trans ((if_neg c2).trans ((if_neg c3).trans ((if_neg c4).trans ?_))))
  rcases hg with hg | ⟨hg, hdebug⟩
  · exact if_pos hg
  · exact (if_neg (by simp [hg])).trans ((if_pos hg).trans (if_neg (by simp [hdebug])))

/-- A test image runs once, from the next postmaster reset, and changes no slot (R481). -/
theorem execFwActivate_of_testRoot (hg : image.signer = .testRoot) (hdebug : u.flag Reg.SEC_STATE_DEBUG = true) :
    exec (.fwActivate h slot image) s = .next
      (((u.draw.2.doneAfterReset k (leBytes 4 (imageVersion image))).setBoot { u.draw.2.boot with
        testNext := true, testVersion := imageVersion image, testNo := u.draw.1, due := some ⟨0, 5⟩ }).updEntry k
          (fun e => { e with wait := 0 })) := by
  obtain ⟨c1, c2, c3, c4⟩ := fwActivate_checks_passed hs hr hn ht ha hh hlen hd
  exact exec_of_opens_waits rfl o rfl ((if_neg c1).trans ((if_neg c2).trans ((if_neg c3).trans ((if_neg c4).trans
    ((if_neg (by simp [hg])).trans ((if_pos hg).trans (if_pos hdebug)))))))

/-- An image of the vendor's takes the slot on trial, and a HUB reset is due (R481). -/
theorem execFwActivate_of_vendor (hg : image.signer ≠ .none) (hg' : image.signer ≠ .testRoot) {v : State}
    (hv : v = ((u.set Reg.BOOT_STATE_ACTIVE_SLOT slot.toNat).setFlag Reg.BOOT_STATE_TRIAL true).set Reg.FW_STAGED_RECEIVED 0) :
    exec (.fwActivate h slot image) s = .next
      (((v.doneAfterReset k (leBytes 4 (imageVersion image))).setBoot { v.boot with due := some ⟨1, 5⟩ }).updEntry k
        (fun e => { e with wait := 0 })) := by
  subst hv
  obtain ⟨c1, c2, c3, c4⟩ := fwActivate_checks_passed hs hr hn ht ha hh hlen hd
  exact exec_of_opens_waits rfl o rfl ((if_neg c1).trans ((if_neg c2).trans ((if_neg c3).trans ((if_neg c4).trans
    ((if_neg hg).trans (if_neg hg'))))))

end
end

/-- Settles O18: the refusals come in the order of each opcode's checks, and a packet that meets none of them has its effect. -/
theorem recorderAndFirmwareCommandsComplete : Obligations.RecorderAndFirmwareCommandsComplete := by
  constructor
  · intro s u h k
    exact ⟨fun o => ⟨fun hf v => execRecorderFreeze_of_thawed o hf, execRecorderFreeze_of_samePath o, execRecorderFreeze_of_otherPath o⟩,
      fun first count o => ⟨execRecorderRead_of_inRange o, execRecorderRead_of_notPermitted o, execRecorderRead_of_badRange o⟩,
      fun o => ⟨execRecorderThaw_of_samePath o, execRecorderThaw_of_notPermitted o⟩, fun o => exec_of_opens rfl o rfl rfl⟩
  · intro s u h k
    refine ⟨fun offset data verified o hl => ⟨fun hs hb => ⟨execFwStageImage_of_verified o hl hs hb, execFwStageImage_of_unverified o hl hs hb⟩,
      execFwStageImage_of_badOffset o hl, execFwStageImage_of_tooLong o hl⟩, ?_⟩
    rintro slot image n c rfl o rfl
    exact ⟨execFwActivate_of_badSlot o, execFwActivate_of_notPermitted o, fun hs hr hn ht => ⟨execFwActivate_of_silentFlash o hs hr hn ht,
      execFwActivate_of_badImage o hs hr hn ht, fun ha hh hlen hd => ⟨execFwActivate_of_badSigner o hs hr hn ht ha hh hlen hd,
        execFwActivate_of_testRoot o hs hr hn ht ha hh hlen hd,
        fun hg hg' v => execFwActivate_of_vendor o hs hr hn ht ha hh hlen hd hg hg'⟩⟩⟩

end Machine
end Sys2Proof
end

section
/-!
SUPPORT. The memories (R454 to R458): corrections, the visits of the scrubber, sticky words and uncorrectable errors.
-/
namespace Sys2Proof
namespace Machine

section
variable {s u : State} {m : MemNo} {a : Fin (2 ^ 27)}

theorem State.setMem_mem (s : State) (x : MemSt) : (s.setMem x).mem = x := rfl

theorem State.syncRevisit_mem (s : State) (n : Nat) : (s.syncRevisit n).mem = s.mem := State.set_mem ..

theorem State.countCorrected_mram (s : State) : s.countCorrected 7 =
    (s.bump (Cnt.MEMORY_CORRECTED 7)).setMem { s.mem with fixedMram := s.mem.fixedMram + 1 } := rfl

theorem State.countCorrected_core (s : State) {n : Nat} (h : n ≠ 7) : s.countCorrected n =
    (s.bump (Cnt.MEMORY_CORRECTED n)).setMem { s.mem with fixedCore := s.mem.fixedCore + 1 } := if_neg h

theorem State.countCorrected_revisit (s : State) (n : Nat) : (s.countCorrected n).mem.revisit = s.mem.revisit := by
  unfold State.countCorrected
  split <;> rfl

theorem State.countCorrected_written (s : State) (n : Nat) : (s.countCorrected n).mem.written = s.mem.written := by
  unfold State.countCorrected
  split <;> rfl

theorem execCorrectableError_of_off (hm : s.memOn m.val = false) : exec (.correctableError m a) s = .next s :=
  congrArg Host.Outcome.next (if_pos (by simp [hm]))

/-- A corrected word is counted, and joins its memory's list of sixteen for a revisit, unless it stands there (R455). -/
theorem execCorrectableError_of_on (hm : s.memOn m.val = true) (hu : u = s.countCorrected m.val) :
    exec (.correctableError m a) s = .next
      (if m.val = 2 ∨ s.mem.revisit.contains (m.val, a.val) = true then u
      else if 16 ≤ (s.mem.revisit.filter (fun e => e.1 == m.val)).length then u.bump (Cnt.MEMORY_REVISIT_OVERFLOW m.val)
      else (u.setMem { u.mem with revisit := s.mem.revisit ++ [(m.val, a.val)] }).syncRevisit m.val) := by
  subst hu
  rw [← State.countCorrected_revisit s m.val]
  exact congrArg Host.Outcome.next (if_neg (by simp [hm]))

/-- The state in which a visit's own finding is dealt with: a revisit leaves the list, another visit takes the pass on (R456). -/
def State.visited (s : State) (n a : Nat) : State :=
  if s.mem.revisit.contains (n, a) then (s.setMem { s.mem with revisit := s.mem.revisit.erase (n, a) }).syncRevisit n else s.passOn n a

theorem State.visited_eq {n a : Nat} {v : State}
    (h1 : s.mem.revisit.contains (n, a) = true → v = (s.setMem { s.mem with revisit := s.mem.revisit.erase (n, a) }).syncRevisit n)
    (h2 : s.mem.revisit.contains (n, a) = false → v = s.passOn n a) : s.visited n a = v := by
  cases hc : s.mem.revisit.contains (n, a) with
  | true => exact (if_pos hc).trans (h1 hc).symm
  | false => exact (if_neg (by simp only [hc, Bool.false_eq_true, not_false_eq_true])).trans (h2 hc).symm

theorem State.passOn_written (s : State) (n a : Nat) : (s.passOn n a).mem.written = s.mem.written := by
  unfold State.passOn
  dsimp only
  split <;> rfl

theorem State.visited_written (s : State) (n a : Nat) : (s.visited n a).mem.written = s.mem.written := by
  unfold State.visited
  split
  · rw [State.syncRevisit_mem, State.setMem_mem]
  · exact s.passOn_written n a

theorem execScrubVisit_of_none {corrected overtaken : Bool} (h : m.val = 2 ∨ s.memOn m.val = false) :
    exec (.scrubVisit m a corrected overtaken) s = .next s :=
  congrArg Host.Outcome.next (if_pos (by simpa using h))

section
variable (h2 : m.val ≠ 2) (hm : s.memOn m.val = true)
include h2 hm

theorem execScrubVisit_of_clean {overtaken : Bool} (hu : s.visited m.val a.val = u) :
    exec (.scrubVisit m a false overtaken) s = .next (u.setMem { u.mem with written := u.mem.written.erase (m.val, a.val) }) := by
  subst hu
  exact congrArg Host.Outcome.next ((if_neg (by simp [h2, hm])).trans (if_pos rfl))

/-- A visit that corrects is counted, and written back unless a write of function came between (R456, R458, R467). -/
def State.corrected (s : State) (n : Nat) (overtaken : Bool) : State :=
  (s.countCorrected n).when (!overtaken) (fun s => s.bump (Cnt.MEMORY_SCRUB_WRITES n))

omit h2 hm in
theorem State.corrected_written (s : State) (n : Nat) (overtaken : Bool) : (s.corrected n overtaken).mem.written = s.mem.written := by
  cases overtaken <;> exact s.countCorrected_written n

theorem execScrubVisit_of_corrected {overtaken : Bool} {v : State} (hu : s.visited m.val a.val = u) (hv : u.corrected m.val overtaken = v) :
    exec (.scrubVisit m a true overtaken) s = .next
      (if v.mem.written.contains (m.val, a.val) = true then v.sticky m.val a.val
      else if overtaken = true then v else v.setMem { v.mem with written := (m.val, a.val) :: v.mem.written }) := by
  subst hv hu
  exact congrArg Host.Outcome.next ((if_neg (by simp [h2, hm])).trans (if_neg Bool.false_ne_true))

end

theorem State.corrected_eq {n : Nat} {overtaken : Bool} {x : State} (h1 : overtaken = true → x = s.countCorrected n)
    (h0 : overtaken = false → x = (s.countCorrected n).bump (Cnt.MEMORY_SCRUB_WRITES n)) : s.corrected n overtaken = x := by
  cases overtaken with
  | true => exact (h1 rfl).symm
  | false => exact (h0 rfl).symm

theorem execScrubLate_of_none (h : m.val = 2 ∨ s.memOn m.val = false) : exec (.scrubLate m) s = .next s :=
  congrArg Host.Outcome.next (if_neg (by rcases h with h | h <;> simp [h]))

/-- A pass that overruns its PERIOD is counted once (R457). -/
theorem execScrubLate_of_scrubbed (h2 : m.val ≠ 2) (hm : s.memOn m.val = true) :
    exec (.scrubLate m) s = .next (if s.passLate m.val = true then
      (s.bump (Cnt.MEMORY_SCRUB_LATE m.val)).setMem { s.mem with late := m.val :: s.mem.late } else s) := by
  refine congrArg Host.Outcome.next (if_congr ?_ rfl rfl)
  simp [h2, hm]

section
variable {r : ErrRegion}

theorem execUncorrectableError_of_none (h : s.memOn m.val = false ∨ ErrRegion_mem r ≠ m.val) :
    exec (.uncorrectableError m a r) s = .next s :=
  congrArg Host.Outcome.next (if_pos (by simpa using h))

/-- An uncorrectable error is counted and told, its region is lost, and a cell of the buffer may be retired for it (R454, R459, R460). -/
theorem execUncorrectableError_of_region (hm : s.memOn m.val = true) (hr : ErrRegion_mem r = m.val) {v : State}
    (hu : u = (s.bump (Cnt.MEMORY_UNCORRECTABLE m.val)).set (Reg.MEM_STATE_LAST_ADDR m.val) a.val)
    (hv : v = (u.memoryError m.val a.val (if bothLost r then 2 else 1) (ErrRegion_code r) (u.regionMore r)).regionLost r) :
    exec (.uncorrectableError m a r) s = .next (v.when (m.val == 0) (fun s => s.cellFails a.val)) := by
  subst hv hu
  exact congrArg Host.Outcome.next (if_neg (by simp [hm, hr]))

end

/-- A word found sticky is counted, and no write-back of it is remembered any more (R458). -/
def State.stickyFound (s : State) (n a : Nat) : State :=
  (s.bump (Cnt.MEMORY_STICKY n)).setMem { s.mem with written := s.mem.written.erase (n, a) }

theorem State.sticky_buffer (s : State) {n : Nat} (a : Nat) (h : n = 0) : s.sticky n a = (s.stickyFound n a).retireCell := if_pos h

theorem State.sticky_mram (s : State) {n : Nat} (a : Nat) (h : n = 7) : s.sticky n a = (s.stickyFound n a).useSpare :=
  (if_neg (by omega)).trans (if_pos h)

theorem State.sticky_other (s : State) {n : Nat} (a : Nat) (h0 : n ≠ 0) (h7 : n ≠ 7) :
    s.sticky n a = (s.stickyFound n a).memoryError n a 0 0 [] := (if_neg h0).trans (if_neg h7)

end

/-- Settles O60: the word's write-back is remembered until the visit, whose correction finds it there. -/
theorem stickyWords : Obligations.StickyWords := by
  intro s v w m a h2 hm hmem hin hout x overtaken hover hback hw
  have hvisit := State.visited_eq hin hout
  have hx := State.corrected_eq hover hback
  have hheld : x.mem.written.contains (m.val, a.val) = true := by
    rw [← hx, State.corrected_written, ← hvisit, State.visited_written]
    exact List.contains_iff_mem.mpr hmem
  have hexec : exec (.scrubVisit m a true overtaken) s = .next (x.sticky m.val a.val) :=
    (execScrubVisit_of_corrected h2 hm hvisit hx).trans (congrArg Host.Outcome.next (if_pos hheld))
  rw [hexec]
  subst hw
  exact ⟨fun h0 => congrArg Host.Outcome.next (x.sticky_buffer a.val h0), fun h7 => congrArg Host.Outcome.next (x.sticky_mram a.val h7),
    fun h0 h7 => congrArg Host.Outcome.next (x.sticky_other a.val h0 h7)⟩

end Machine
end Sys2Proof
end

section
/-!
SUPPORT. The keeper's own events (R431, R444, R445), and the recorder's second (R462 to R465, R470).
-/
namespace Sys2Proof
namespace Machine

theorem execLockoutEnd_acts (s : State) :
    Acts .lockoutEnd s (s.flag Reg.SEC_STATE_LOCKOUT = true ∧ s.sec.lockUntil ≤ s.boot.ticks)
      (fun t => t = s.setFlag Reg.SEC_STATE_LOCKOUT false) :=
  Acts.of_ite rfl (by simp) fun _ => rfl

theorem execEntropyHealthFail_acts (s : State) : Acts .entropyHealthFail s (s.keeperRuns = true) (fun t => t = s.cryptoError 0) :=
  Acts.of_ite rfl Iff.rfl fun _ => rfl

/-- The erasure is made, slot 1 is generated again, and a HUB reset follows (R444, R445). -/
theorem execZeroisationComplete_of_mayErase {s u v w x : State} {pair : Bool} (he : s.mayErase = true) (hk : s.keeperRuns = true)
    (hu : u = s.bump Reg.ZEROISE_COUNT)
    (hv : v = ((u.finishWaiters 0x0603 0 .ok (leBytes 4 (u.get Reg.ZEROISE_COUNT_COUNT))).autoThaw 2).eraseAll)
    (hw : w = v.setSec { v.sec with generation := v.sec.generation + 1, zeroising := none })
    (hx : x = (if pair = true then w.setAttr 1 1 1 0x20 else (w.cryptoError 2).setAttr 1 0 0 0).hubReset 4) :
    exec (.zeroisationComplete pair) s = .next (x.setSec { x.sec with zeroised := true }) := by
  have htest : (s.mayErase && s.keeperRuns) = true := by rw [he, hk, Bool.and_self]
  change execZeroisationComplete pair s = _
  simp only [execZeroisationComplete, htest, if_true, ← hu, ← hv, ← hw, ← hx]

theorem execZeroisationComplete_acts (s u : State) (pair : Bool) :
    Acts (.zeroisationComplete pair) s (s.mayErase = true ∧ s.keeperRuns = true) (fun t => ∀ v w x : State,
      u = s.bump Reg.ZEROISE_COUNT →
      v = ((u.finishWaiters 0x0603 0 .ok (leBytes 4 (u.get Reg.ZEROISE_COUNT_COUNT))).autoThaw 2).eraseAll →
      w = v.setSec { v.sec with generation := v.sec.generation + 1, zeroising := none } →
      (pair = true → x = (w.setAttr 1 1 1 0x20).hubReset 4) → (pair = false → x = ((w.cryptoError 2).setAttr 1 0 0 0).hubReset 4) →
      t = x.setSec { x.sec with zeroised := true }) := by
  refine ⟨fun ⟨he, hk⟩ => Does.of_eq (execZeroisationComplete_of_mayErase he hk rfl rfl rfl rfl) ?_, fun hn =>
    congrArg Host.Outcome.next (if_neg (by simpa using hn))⟩
  rintro v w x rfl rfl hw hpair hnone
  have hx : x = (if pair = true then w.setAttr 1 1 1 0x20 else (w.cryptoError 2).setAttr 1 0 0 0).hubReset 4 := by
    cases pair with
    | true => rw [hpair rfl, if_pos rfl]
    | false => rw [hnone rfl, if_neg Bool.false_ne_true]
  rw [hx, hw]

section
variable {v : State} {sample : RecorderSample} {stopped : Bool}

/-- One histogram's part of a recorder's second (R464). -/
def State.histSecond (v : State) (sample : RecorderSample) (stopped : Bool) (d : RecData) (h : Nat) : RecData :=
  match v.sourceValue sample stopped (v.histSource h) with
  | some x => if v.histSource h = 0 then d else v.updateHist d h x
  | none => d

/-- The update of a histogram is what its source gives in the second: nothing where there is none or no value. -/
theorem State.histSecond_unique {f : RecData → Nat → RecData}
    (hf : ∀ d h c, c = v.histSource h → (c = 0 → f d h = d) ∧ (v.sourceValue sample stopped c = none → f d h = d) ∧
      (c ≠ 0 → ∀ x, v.sourceValue sample stopped c = some x → f d h = v.updateHist d h x)) :
    f = v.histSecond sample stopped := by
  funext d h
  obtain ⟨hzero, hnone, hsome⟩ := hf d h _ rfl
  unfold State.histSecond
  split
  next x hx =>
    by_cases hc : v.histSource h = 0
    · rw [if_pos hc, hzero hc]
    · rw [if_neg hc, hsome hc x hx]
  next hx => exact hnone hx

end

/-- A second of the recorder (R462 to R464). -/
theorem execRecorderUpdate_of_running {s v : State} {sample : RecorderSample} (hk : s.boot.keep = true) (hr : s.boot.released = true)
    (hv : v = s.setSeconds ((s.recorder.seconds + 1) % 2 ^ 40)) :
    exec (.recorderUpdate sample) s = .next
      (((v.changeRecord (fun d => (List.range 64).foldl (v.histSecond sample s.coreStopped) { d with seconds := d.seconds + 1 })).when
        s.coreStopped (fun s => s.set Reg.DIE_TEMP_KEEPER sample.keeperTemp.toNat)).newSecond) := by
  subst hv
  exact congrArg Host.Outcome.next (if_neg (by simp [hk, hr]))

theorem execRecorderUpdate_acts (s : State) (sample : RecorderSample) :
    Acts (.recorderUpdate sample) s (s.boot.keep = true ∧ s.boot.released = true) (fun t =>
      ∀ (v w : State) (f : RecData → Nat → RecData), v = s.setSeconds ((s.recorder.seconds + 1) % 2 ^ 40) →
      (∀ d h c, c = v.histSource h → (c = 0 → f d h = d) ∧ (v.sourceValue sample s.coreStopped c = none → f d h = d) ∧
        (c ≠ 0 → ∀ x, v.sourceValue sample s.coreStopped c = some x → f d h = v.updateHist d h x)) →
      w = v.changeRecord (fun d => (List.range 64).foldl f { d with seconds := d.seconds + 1 }) →
      (s.coreStopped = false → t = w.newSecond) ∧
      (s.coreStopped = true → t = (w.set Reg.DIE_TEMP_KEEPER sample.keeperTemp.toNat).newSecond)) := by
  refine ⟨fun ⟨hk, hr⟩ => Does.of_eq (execRecorderUpdate_of_running hk hr rfl) ?_, fun hn =>
    congrArg Host.Outcome.next (if_pos (by simpa [or_iff_not_imp_left] using hn))⟩
  rintro v w f rfl hf rfl
  obtain rfl := State.histSecond_unique hf
  refine ⟨fun hc => ?_, fun hc => ?_⟩
  · rw [hc, State.when_false]
  · rw [hc, State.when_true]

theorem execRecorderAutoThaw_acts (s : State) :
    Acts .recorderAutoThaw s (s.recorder.frozenAt + 480000 ≤ s.boot.ticks) (fun t => t = s.autoThaw 0) :=
  Acts.of_ite rfl (by simp) fun _ => rfl

/-- OPERATING_HI is what it was in the second that the read of OPERATING_LO shows (R470). -/
theorem execOperatingLoRead_eq (s : State) : exec .operatingLoRead s = .next
    ((s.set Reg.OPERATING_HI_VALUE (s.recorder.seconds / 2 ^ 32)).emit (.value Reg.OPERATING_LO (s.word Reg.OPERATING_LO))) := rfl

/-- Settles O56: each of the keeper's events is its test and its effect, and each command over a memory first finds the memory in use. -/
theorem keeperAndMemoryCommandsAct : Obligations.KeeperAndMemoryCommandsAct := by
  rintro s u m a n rfl
  refine ⟨execLockoutEnd_acts s, execEntropyHealthFail_acts s, execZeroisationComplete_acts s u,
    fun hm => ⟨execCorrectableError_of_off hm, fun _ _ => execScrubVisit_of_none (.inr hm), execScrubLate_of_none (.inr hm),
      fun _ => execUncorrectableError_of_none (.inl hm)⟩,
    fun h7 hu => ?_, fun h7 hu => (s.countCorrected_core h7).trans hu.symm, fun hm hu => ?_,
    fun _ _ h2 => ⟨execScrubVisit_of_none (.inl h2), execScrubLate_of_none (.inl h2)⟩, fun h2 hm hin hout => ?_, fun h2 hm => ?_,
    fun r hr => execUncorrectableError_of_none (.inr hr), fun r hm hr hu v hv => ?_, execRecorderUpdate_acts s,
    execRecorderAutoThaw_acts s, fun hi hhi => hhi ▸ execOperatingLoRead_eq s⟩
  · rw [hu, h7, State.countCorrected_mram]
  · obtain ⟨hcounted, hlisted⟩ := next_cases (execCorrectableError_of_on (a := a) hm hu)
    refine ⟨hcounted, fun h2 hc => ?_⟩
    obtain ⟨hfull, hroom⟩ := next_cases (hlisted (not_or.mpr ⟨h2, ne_true_of_eq_false hc⟩))
    exact ⟨hfull, fun hl => hroom hl.not_ge⟩
  · have hvisit := State.visited_eq hin hout
    refine ⟨fun o => execScrubVisit_of_clean h2 hm hvisit, fun v hv => ?_, fun v hv => ?_⟩
    · obtain ⟨hsticky, hfirst⟩ := next_cases (execScrubVisit_of_corrected (overtaken := true) h2 hm hvisit hv.symm)
      exact ⟨hsticky, fun hc => hfirst (ne_true_of_eq_false hc)⟩
    · obtain ⟨hsticky, hfirst⟩ := next_cases (execScrubVisit_of_corrected (overtaken := false) h2 hm hvisit hv.symm)
      exact ⟨hsticky, fun hc => hfirst (ne_true_of_eq_false hc)⟩
  · obtain ⟨hlate, htimely⟩ := next_cases (execScrubLate_of_scrubbed h2 hm)
    exact ⟨hlate, fun hp => htimely (by simp [hp])⟩
  · have hexec := execUncorrectableError_of_region (m := m) (a := a) hm hr hu hv
    refine ⟨fun h0 => ?_, fun h0 => ?_⟩
    · rw [hexec, beq_iff_eq.mpr h0, State.when_true]
    · rw [hexec, beq_eq_false_iff_ne.mpr h0, State.when_false]

end Machine
end Sys2Proof
end

section
/-!
SUPPORT. A message of USB Power Delivery (R394): what becomes of it before it is acted on.
-/
namespace Sys2Proof
namespace Machine

section
variable {s : State} {m : PdMsg} {f : State → State}

theorem State.pdReceive_of_detached (ha : s.attachedPd m.port.val = false) : s.pdReceive m f = s :=
  if_pos (by simp [ha])

theorem State.pdReceive_of_badCrc (ha : s.attachedPd m.port.val = true) (hc : m.crcOk = false) :
    s.pdReceive m f = s.bump (Cnt.PD_MSGS_DISCARDED m.port.val) :=
  (if_neg (by simp [ha])).trans (if_pos (by simp [hc]))

theorem State.pdReceive_of_repeat (ha : s.attachedPd m.port.val = true) (hc : m.crcOk = true)
    (hi : (s.pdPort m.port.val).lastId = some m.id.val) :
    s.pdReceive m f = (s.pdSend m.port.val "GoodCRC").bump (Cnt.PD_MSGS_DISCARDED m.port.val) :=
  (if_neg (by simp [ha])).trans ((if_neg (by simp [hc])).trans (if_pos (by simp [hi])))

theorem State.pdReceive_of_heard (h : PdHeard s m) : s.pdReceive m f = f (s.pdHeard m) := by
  obtain ⟨ha, hc, hi⟩ := h
  exact (if_neg (by simp [ha])).trans ((if_neg (by simp [hc])).trans (if_neg (by simpa using hi)))

/-- A message heard has the act of its kind on the state in which it is heard. -/
theorem exec_of_pdHeard {c : Instr} {v t : State} (he : exec c s = .next (s.pdReceive m f)) (h : PdHeard s m) (hv : v = s.pdHeard m)
    (ht : f v = t) : exec c s = .next t := by
  rw [he, State.pdReceive_of_heard h, ← hv, ht]

end

/-- Every command of a message but Soft_Reset is the act of its kind on a message received. -/
theorem exec_of_pdMsgOf {c : Instr} {m : PdMsg} (h : pdMsgOf c = some m) : ∃ f, ∀ s, exec c s = .next (s.pdReceive m f) := by
  unfold pdMsgOf at h
  split at h <;> cases h <;> exact ⟨_, fun _ => rfl⟩

/-- A message that is not heard goes no further (R394). -/
theorem exec_of_unheard {s : State} {c : Instr} {m : PdMsg} (h : pdMsgOf c = some m) :
    (s.attachedPd m.port.val = false → exec c s = .next s) ∧
    (s.attachedPd m.port.val = true → m.crcOk = false → exec c s = .next (s.bump (Cnt.PD_MSGS_DISCARDED m.port.val))) ∧
    (s.attachedPd m.port.val = true → m.crcOk = true → (s.pdPort m.port.val).lastId = some m.id.val →
      exec c s = .next ((s.pdSend m.port.val "GoodCRC").bump (Cnt.PD_MSGS_DISCARDED m.port.val))) := by
  obtain ⟨f, hf⟩ := exec_of_pdMsgOf h
  rw [hf s]
  exact ⟨fun ha => congrArg _ (State.pdReceive_of_detached ha), fun ha hc => congrArg _ (State.pdReceive_of_badCrc ha hc),
    fun ha hc hi => congrArg _ (State.pdReceive_of_repeat ha hc hi)⟩

end Machine
end Sys2Proof
end

section
/-!
SUPPORT. Attach, detach and the budget of USB Power Delivery (R390 to R392, R400, R402).
-/
namespace Sys2Proof
namespace Machine

section
variable {s u : State} {p : Fin 5} {rp : Fin 3} {src : Bool}

theorem execTypecAttach_of_attached (h : s.keeperRuns = false ∨ 2 ≤ s.typec p.val) : exec (.typecAttach p src rp) s = .next s :=
  congrArg Host.Outcome.next (if_pos (by simpa using h))

section
variable (hk : s.keeperRuns = true) (ht : s.typec p.val < 2)
include hk ht

/-- The service port is a Sink only (R400). -/
theorem execTypecAttach_of_service (hp : p.val = 4) : exec (.typecAttach p src rp) s = .next
    (((State.updPd ((s.set (Reg.PD_PORT_TYPEC 4) 3).set (Reg.PD_PORT_RP_SEEN 4) rp.val) 4 (fun x => { x with
      offerAt := s.boot.ticks })).pdEvent 4 .attach).activity 0x14) :=
  congrArg Host.Outcome.next ((if_neg (by simp [hk, ht])).trans (if_pos hp))

theorem execTypecAttach_of_noSource (hp : p.val ≠ 4)
    (hn : src = false ∨ s.sourceEn p.val = false ∨ s.flag (Reg.PD_PORT_FAULT_OFF p.val) = true) : exec (.typecAttach p src rp) s = .next s :=
  congrArg Host.Outcome.next ((if_neg (by simp [hk, ht])).trans ((if_neg hp).trans (if_pos (by simpa [or_assoc] using hn))))

/-- A Source attach turns VBUS on and makes the first offer (R390, R391). -/
theorem execTypecAttach_of_source (hp : p.val ≠ 4) (he : s.sourceEn p.val = true) (hf : s.flag (Reg.PD_PORT_FAULT_OFF p.val) = false)
    (hu : u = ((s.set (Reg.PD_PORT_TYPEC p.val) 2).setFlag (Reg.PD_PORT_ROLE p.val) true).setFlag
      (Reg.USB_PORT_STATE_OVER_CURRENT p.val) false) :
    exec (.typecAttach p true rp) s = .next
      ((((u.vbusOn p.val 5000).makeOffer p.val (s.offerMost p.val)).pdEvent p.val .attach).activity 0x14) := by
  subst hu
  exact congrArg Host.Outcome.next ((if_neg (by simp [hk, ht])).trans ((if_neg hp).trans (if_neg (by simp [he, hf]))))

end

/-- A port that detaches is left; on the service port the supply of CORE goes with it (R390, R401, R402). -/
theorem execTypecDetach_of_attached (ht : s.typec p.val ≠ 0 ∧ s.typec p.val < 4)
    (hu : u = (s.leavePort p.val (s.restTypec p.val)).set (Reg.PD_PORT_RP_SEEN p.val) 0) :
    exec (.typecDetach p) s = .next (((u.when (p.val == 4 && u.servicePowered) (fun u => State.dropCore
      ((u.setFlag (Reg.PD_PORT_SERVICE_POWERED 4) false).setFlag Reg.PIN_LEVELS_SVC_PWR_EN false))).pdEvent p.val .detach).activity 0x14) := by
  subst hu
  exact congrArg Host.Outcome.next (if_neg (by omega))

theorem execTypecDetach_acts (s u : State) (p : Fin 5) :
    Acts (.typecDetach p) s (s.typec p.val ≠ 0 ∧ s.typec p.val < 4) (fun t =>
      u = (s.leavePort p.val (s.restTypec p.val)).set (Reg.PD_PORT_RP_SEEN p.val) 0 →
      (p.val = 4 ∧ u.servicePowered = true → t = (State.pdEvent (State.dropCore ((u.setFlag (Reg.PD_PORT_SERVICE_POWERED 4) false).setFlag
        Reg.PIN_LEVELS_SVC_PWR_EN false)) p.val .detach).activity 0x14) ∧
      (p.val ≠ 4 ∨ u.servicePowered = false → t = (u.pdEvent p.val .detach).activity 0x14)) := by
  refine ⟨fun ht => Does.of_eq (execTypecDetach_of_attached ht rfl) ?_, fun hn => congrArg Host.Outcome.next (if_pos (by omega))⟩
  intro hu
  rw [← hu]
  refine ⟨fun ⟨h4, hs⟩ => ?_, fun hn => ?_⟩
  · have htest : (p.val == 4 && u.servicePowered) = true := by simp [h4, hs]
    rw [htest, State.when_true]
  · have htest : (p.val == 4 && u.servicePowered) = false := by
      rcases hn with h4 | hs
      · simp [h4]
      · simp [hs]
    rw [htest, State.when_false]

theorem execOfferRequestTimeout_acts (s : State) (q : Fin 4) :
    Acts (.offerRequestTimeout q) s
      (s.isSource q.val = true ∧ (s.pdPort q.val).requested = false ∧ (s.pdPort q.val).offerAt + 8000 ≤ s.boot.ticks)
      (fun t => t = s.hardReset q.val true) :=
  Acts.of_ite rfl (by simp [and_assoc]) fun _ => rfl

section
variable {mask value : Word} {w : Nat} (hw : w = (((s.word Reg.PD_BUDGET &&& ~~~mask) ||| (value &&& mask)).toNat) % 256)
include hw

/-- A budget below what the sourcing ports are assured is refused (R392). -/
theorem execPdBudgetWrite_of_badBudget (hb : s.budgetOk w = false) :
    exec (.pdBudgetWrite mask value) s = .next (s.emit (.writeStatus Reg.PD_BUDGET .badParam)) := by
  subst hw
  exact congrArg Host.Outcome.next (if_pos (by simp only [hb, Bool.not_false]))

theorem execPdBudgetWrite_of_linkDown (hb : s.budgetOk w = true) (hl : s.skUp = false) :
    exec (.pdBudgetWrite mask value) s = .next (s.emit (.writeStatus Reg.PD_BUDGET .hwFault)) := by
  subst hw
  exact congrArg Host.Outcome.next ((if_neg (by simp only [hb, Bool.not_true, Bool.false_eq_true, not_false_eq_true])).trans
    (if_pos (by simp [hl])))

theorem execPdBudgetWrite_of_ok (hb : s.budgetOk w = true) (hl : s.skUp = true) :
    exec (.pdBudgetWrite mask value) s = .next
      ((s.shadowWrite Reg.PD_BUDGET (mask &&& 0xFF) value).emit (.writeStatus Reg.PD_BUDGET .ok)) := by
  subst hw
  exact congrArg Host.Outcome.next ((if_neg (by simp only [hb, Bool.not_true, Bool.false_eq_true, not_false_eq_true])).trans
    (if_neg (by simp [hl])))

end
end

end Machine
end Sys2Proof
end

section
/-!
SUPPORT. The contracts of USB Power Delivery, its messages heard, and its timers (R391 to R395, R399, R400).
-/
namespace Sys2Proof
namespace Machine

section
variable {s u v : State} {m : PdMsg} {n : Nat} (hn : n = m.port.val) (hm : PdHeard s m) (hv : v = s.pdHeard m)
include hn hm hv

section
variable {o : Fin 16} {cur mv ma : Nat}

theorem execRequest_of_sink (hs : v.isSource n = false) : exec (.request m o cur) s = .next (v.pdSend n "Not_Supported") := by
  subst hn
  exact exec_of_pdHeard rfl hm hv (if_pos (by simp [hs]))

variable (hs : v.isSource n = true)
include hs

theorem execRequest_of_noObject (ho : (v.pdPort n).offer[o.val - 1]? = none) :
    exec (.request m o cur) s = .next (v.pdSend n "Reject") := by
  subst hn
  refine exec_of_pdHeard rfl hm hv ((if_neg (by simp [hs])).trans ?_)
  simp only [ho]

variable (ho : (v.pdPort n).offer[o.val - 1]? = some (mv, ma))
include ho

/-- No Request names object 0, or more current than the object offers (R393). -/
theorem execRequest_of_tooMuch (hb : o.val = 0 ∨ ma < cur * 10) : exec (.request m o cur) s = .next (v.pdSend n "Reject") := by
  subst hn
  refine exec_of_pdHeard rfl hm hv ((if_neg (by simp [hs])).trans ?_)
  simp only [ho]
  exact if_pos hb

/-- An accepted Request makes its contract at once where VBUS stands at its voltage, and else after the transition (R393, R395). -/
theorem execRequest_of_accepted (h0 : o.val ≠ 0) (hc : cur * 10 ≤ ma)
    (hu : u = (v.updPd n (fun x => { x with requested := true, hardResets := 0 })).pdSend n "Accept") :
    exec (.request m o cur) s = .next
      (if mv = (if u.flag (Reg.PD_PORT_CONTRACT n) then u.get (Reg.PD_PORT_VOLTAGE n) * 50 else 5000) then
        (u.pdSend n "PS_RDY").makeContract n mv cur
      else (u.updPd n (fun x => { x with trans := some (mv, cur) })).vbusOn n mv) := by
  subst hn hu
  refine exec_of_pdHeard rfl hm hv ((if_neg (by simp [hs])).trans ?_)
  simp only [ho]
  exact if_neg (not_or.mpr ⟨h0, hc.not_gt⟩)

end

theorem execSourceCapabilities_of_heard {amps : Nat} {dual : Bool}
    (hu : u = v.updPd n (fun x => { x with partner := amps, dualRole := dual, hardResets := 0 })) :
    exec (.sourceCapabilities m amps dual) s = .next (if u.isSource n then u else u.sinkRequests n) := by
  subst hn hu
  exact exec_of_pdHeard rfl hm hv rfl

theorem execGetSourceCap_of_service (h4 : n = 4) : exec (.getSourceCap m) s = .next (v.pdSend n "Not_Supported") := by
  subst hn
  exact exec_of_pdHeard rfl hm hv (if_pos h4)

/-- As Source the last offer, as Sink the one the port would make now (R393). -/
theorem execGetSourceCap_of_port (h4 : n ≠ 4) {l : List (Nat × Nat)} (hsrc : v.isSource n = true → l = (v.pdPort n).offer)
    (hown : v.isSource n = false → v.flag (Reg.PD_PORT_OVERRIDE_EN n) = true → l = pdoList (v.pdPort n).pdos)
    (hmost : v.isSource n = false → v.flag (Reg.PD_PORT_OVERRIDE_EN n) = false → l = pdosFor (v.offerMost n)) :
    exec (.getSourceCap m) s = .next (v.pdSend n "Source_Capabilities" l) := by
  subst hn
  refine exec_of_pdHeard rfl hm hv ((if_neg h4).trans (congrArg (fun l => v.pdSend m.port.val "Source_Capabilities" l) ?_))
  cases hs : v.isSource m.port.val with
  | true => exact (hsrc hs).symm
  | false =>
    cases ho : v.flag (Reg.PD_PORT_OVERRIDE_EN m.port.val) with
    | true => exact (hown hs ho).symm
    | false => exact (hmost hs ho).symm

theorem execGetSinkCap_of_heard :
    exec (.getSinkCap m) s = .next (v.pdSend n "Sink_Capabilities" [(5000, if n = 4 then 3000 else 100)]) := by
  subst hn
  exact exec_of_pdHeard rfl hm hv rfl

theorem execDrSwap_of_heard : exec (.drSwap m) s = .next (v.pdSend n "Reject") := by
  subst hn
  exact exec_of_pdHeard rfl hm hv rfl

theorem execVconnSwap_of_heard : exec (.vconnSwap m) s = .next (v.pdSend n "Reject") := by
  subst hn
  exact exec_of_pdHeard rfl hm hv rfl

theorem execUnlistedPdMessage_of_heard : exec (.unlistedPdMessage m) s = .next (v.pdSend n "Not_Supported") := by
  subst hn
  exact exec_of_pdHeard rfl hm hv rfl

end

section
variable {s u : State} {m : PdMsg}

/-- A Soft_Reset whose CRC fails resets nothing (R394). -/
theorem execSoftReset_of_badCrc (hc : m.crcOk = false) :
    exec (.softReset m) s = .next (if s.attachedPd m.port.val then s.bump (Cnt.PD_MSGS_DISCARDED m.port.val) else s) := by
  change execSoftReset m s = _
  unfold execSoftReset
  rw [hc, State.when_false]
  cases ha : s.attachedPd m.port.val with
  | true => exact congrArg Host.Outcome.next (State.pdReceive_of_badCrc ha hc)
  | false => exact congrArg Host.Outcome.next (State.pdReceive_of_detached ha)

theorem execSoftReset_of_detached (ha : s.attachedPd m.port.val = false) (hc : m.crcOk = true) :
    exec (.softReset m) s = .next (s.pdLayerReset m.port.val) := by
  change execSoftReset m s = _
  unfold execSoftReset
  rw [hc, State.when_true]
  exact congrArg Host.Outcome.next (State.pdReceive_of_detached ha)

/-- The protocol layer is reset before the message's ID is looked at, and a Source offers anew (R393, R394). -/
theorem execSoftReset_of_heard (hm : PdHeard (s.pdLayerReset m.port.val) m)
    (hu : u = (((s.pdLayerReset m.port.val).pdHeard m).bump (Cnt.PD_SOFT_RESETS m.port.val)).pdSend m.port.val "Accept") :
    exec (.softReset m) s = .next (if u.isSource m.port.val then u.makeOffer m.port.val (u.offerMost m.port.val) else u) := by
  subst hu
  have ⟨_, hc, _⟩ := hm
  change execSoftReset m s = _
  unfold execSoftReset
  rw [hc, State.when_true]
  exact congrArg Host.Outcome.next (State.pdReceive_of_heard hm)

theorem execHardReset_acts (s : State) (p : Fin 5) :
    Acts (.hardReset p) s (s.attachedPd p.val = true) (fun t => t = s.hardReset p.val false) :=
  Acts.of_ite rfl Iff.rfl fun _ => rfl

section
variable {e : PdExpiry}

theorem execPdTimerExpiry_of_detached (ha : s.attachedPd e.port.val = false) : exec (.pdTimerExpiry e) s = .next s :=
  congrArg Host.Outcome.next (if_pos (by simp [ha]))

variable (ha : s.attachedPd e.port.val = true)
include ha

theorem execPdTimerExpiry_of_retry (ht : e.timer = .goodCrc) (hr : (s.pdPort e.port.val).retries < 2) :
    exec (.pdTimerExpiry e) s = .next (((s.bump (Cnt.PD_MSG_RETRIES e.port.val)).updPd e.port.val
      (fun x => { x with retries := x.retries + 1 })).pdSend e.port.val "Retry") :=
  congrArg Host.Outcome.next ((if_neg (by simp [ha])).trans (if_pos ⟨ht, hr⟩))

theorem execPdTimerExpiry_of_softReset (ht : e.timer = .goodCrc) (hr : 2 ≤ (s.pdPort e.port.val).retries)
    (hs : (s.pdPort e.port.val).swap = none) :
    exec (.pdTimerExpiry e) s = .next
      (((s.bump (Cnt.PD_SOFT_RESETS e.port.val)).pdLayerReset e.port.val).pdSend e.port.val "Soft_Reset") :=
  congrArg Host.Outcome.next ((if_neg (by simp [ha])).trans ((if_neg (not_and_of_not_right _ hr.not_gt)).trans (if_pos ⟨ht, hs⟩)))

/-- A timer that ends a swap, or any wait but that for GoodCRC, leads to Hard Reset (R394, R399). -/
theorem execPdTimerExpiry_of_hardReset
    (h : e.timer ≠ .goodCrc ∨ (2 ≤ (s.pdPort e.port.val).retries ∧ (s.pdPort e.port.val).swap ≠ none)) :
    exec (.pdTimerExpiry e) s = .next ((s.abortSwap e.port.val .timeout).hardReset e.port.val true) := by
  refine congrArg Host.Outcome.next ((if_neg (by simp [ha])).trans ((if_neg ?_).trans (if_neg ?_)))
  · rintro ⟨ht, hr⟩
    rcases h with h | ⟨h2, -⟩
    · exact h ht
    · exact absurd hr h2.not_gt
  · rintro ⟨ht, hs⟩
    rcases h with h | ⟨-, hw⟩
    · exact h ht
    · exact hw hs

end
end

/-- Settles O51: a message is heard or goes no further, and once heard each kind is its checks in order. -/
theorem pdContractCommandsAct : Obligations.PdContractCommandsAct := by
  rintro s u v p q m n x hn rfl
  refine ⟨fun c hc => hn ▸ exec_of_unheard hc, fun src rp => execTypecAttach_of_attached,
    fun hk ht => ⟨fun src rp => execTypecAttach_of_service hk ht, fun src rp => execTypecAttach_of_noSource hk ht,
      fun rp => execTypecAttach_of_source hk ht⟩,
    execTypecDetach_acts s u p, execOfferRequestTimeout_acts s q,
    fun mask value w hw => ⟨execPdBudgetWrite_of_ok hw, execPdBudgetWrite_of_linkDown hw, execPdBudgetWrite_of_badBudget hw⟩,
    fun hm hv => ⟨fun o cur => ⟨execRequest_of_sink hn hm hv, fun hs => ⟨execRequest_of_noObject hn hm hv hs, fun mv ma ho =>
        ⟨execRequest_of_tooMuch hn hm hv hs ho, fun h0 hc hu now hnow => ?_⟩⟩⟩,
      fun amps dual hu => ?_, execGetSourceCap_of_service hn hm hv, fun h4 l => execGetSourceCap_of_port hn hm hv h4,
      execGetSinkCap_of_heard hn hm hv, execDrSwap_of_heard hn hm hv, execVconnSwap_of_heard hn hm hv,
      execUnlistedPdMessage_of_heard hn hm hv⟩,
    fun ha hc => ?_, fun ha hc => ?_, fun ha hc => ?_, fun hm hu => ?_, execHardReset_acts s p, ?_⟩
  · subst hnow
    exact next_cases (execRequest_of_accepted hn hm hv hs ho h0 hc hu)
  · obtain ⟨hsource, hsink⟩ := next_cases (execSourceCapabilities_of_heard hn hm hv hu)
    exact ⟨hsource, fun hs => hsink (ne_true_of_eq_false hs)⟩
  · subst hn
    exact execSoftReset_of_detached ha hc
  · subst hn
    exact (next_cases (execSoftReset_of_badCrc hc)).2 (ne_true_of_eq_false ha)
  · subst hn
    exact (next_cases (execSoftReset_of_badCrc hc)).1 ha
  · subst hn
    obtain ⟨hsource, hsink⟩ := next_cases (execSoftReset_of_heard hm hu)
    exact ⟨hsource, fun hs => hsink (ne_true_of_eq_false hs)⟩
  · rintro e y rfl
    exact ⟨execPdTimerExpiry_of_detached, fun ha => ⟨execPdTimerExpiry_of_retry ha, execPdTimerExpiry_of_softReset ha,
      execPdTimerExpiry_of_hardReset ha⟩⟩

end Machine
end Sys2Proof
end

section
/-!
SUPPORT. Role swaps, the supervision of VBUS and the supply from the service port (R395 to R402).
-/
namespace Sys2Proof
namespace Machine

section
variable {s v : State} {m : PdMsg} {n : Nat} (hn : n = m.port.val) (hm : PdHeard s m) (hv : v = s.pdHeard m)
include hn hm hv

theorem execPrSwap_of_service (h4 : n = 4) : exec (.prSwap m) s = .next (v.pdSend n "Reject") := by
  subst hn
  exact exec_of_pdHeard rfl hm hv (if_pos h4)

section
variable (h4 : n ≠ 4)
include h4

/-- A PR_Swap that meets a swap under way: a source waits for the partner's answer to its own, a sink gives way (R397). -/
theorem execPrSwap_of_swapping {w : PdSwap} (hs : (v.pdPort n).swap = some w) :
    exec (.prSwap m) s = .next
      (if w.accepted then v else if w.wasSource then v.pdSend n "Wait" else (v.pdSend n "Accept").acceptSwap n true) := by
  subst hn
  refine exec_of_pdHeard rfl hm hv ((if_neg h4).trans ?_)
  simp only [hs]

variable (hs : (v.pdPort n).swap = none)
include hs

/-- A Source that accepts swaps and holds a contract accepts this one (R397). -/
theorem execPrSwap_of_source (hr : v.isSource n = true) :
    exec (.prSwap m) s = .next (if (v.flag (Reg.PD_PORT_ACCEPT_PR_SWAP n) && v.flag (Reg.PD_PORT_CONTRACT n)) = true then
      (v.pdSend n "Accept").acceptSwap n false else v.refusePdSwap n "Reject") := by
  subst hn
  refine exec_of_pdHeard rfl hm hv ((if_neg h4).trans ?_)
  simp only [hs]
  exact if_pos hr

/-- A Sink also needs the leave to source, and asks to wait where the budget has no 5 V and 900 mA left (R391, R397). -/
theorem execPrSwap_of_sink (hr : v.isSource n = false) :
    exec (.prSwap m) s = .next (if (v.flag (Reg.PD_PORT_ACCEPT_PR_SWAP n) && v.sourceEn n) = true then
      (if 4500 ≤ v.offerMost n then (v.pdSend n "Accept").acceptSwap n false else v.refusePdSwap n "Wait")
      else v.refusePdSwap n "Reject") := by
  subst hn
  refine exec_of_pdHeard rfl hm hv ((if_neg h4).trans ?_)
  simp only [hs]
  exact if_neg (by simp [hr])

theorem execPrSwap_of_accepted (ha : v.flag (Reg.PD_PORT_ACCEPT_PR_SWAP n) = true)
    (hr : (v.isSource n = true ∧ v.flag (Reg.PD_PORT_CONTRACT n) = true) ∨
      (v.isSource n = false ∧ v.sourceEn n = true ∧ 4500 ≤ v.offerMost n)) :
    exec (.prSwap m) s = .next ((v.pdSend n "Accept").acceptSwap n false) := by
  rcases hr with ⟨hr, hc⟩ | ⟨hr, he, hp⟩
  · exact (next_cases (execPrSwap_of_source hn hm hv h4 hs hr)).1 (by simp [ha, hc])
  · have hsink := (next_cases (execPrSwap_of_sink hn hm hv h4 hs hr)).1 (by simp [ha, he])
    exact (next_cases hsink).1 hp

theorem execPrSwap_of_waits (ha : v.flag (Reg.PD_PORT_ACCEPT_PR_SWAP n) = true) (hr : v.isSource n = false) (he : v.sourceEn n = true)
    (hp : v.offerMost n < 4500) : exec (.prSwap m) s = .next (v.refusePdSwap n "Wait") := by
  have hsink := (next_cases (execPrSwap_of_sink hn hm hv h4 hs hr)).1 (by simp [ha, he])
  exact (next_cases hsink).2 hp.not_ge

theorem execPrSwap_of_rejected (hr : v.flag (Reg.PD_PORT_ACCEPT_PR_SWAP n) = false ∨
    (v.isSource n = true ∧ v.flag (Reg.PD_PORT_CONTRACT n) = false) ∨ (v.isSource n = false ∧ v.sourceEn n = false)) :
    exec (.prSwap m) s = .next (v.refusePdSwap n "Reject") := by
  cases hsrc : v.isSource n with
  | true =>
    refine (next_cases (execPrSwap_of_source hn hm hv h4 hs hsrc)).2 ?_
    rcases hr with ha | ⟨-, hc⟩ | ⟨hsink, -⟩
    · simp [ha]
    · simp [hc]
    · exact absurd (hsink.symm.trans hsrc) (by decide)
  | false =>
    refine (next_cases (execPrSwap_of_sink hn hm hv h4 hs hsrc)).2 ?_
    rcases hr with ha | ⟨hsource, -⟩ | ⟨-, he⟩
    · simp [ha]
    · exact absurd (hsource.symm.trans hsrc) (by decide)
    · simp [he]

end

theorem execPsRdy_of_swapping {w : PdSwap} (hs : (v.pdPort n).swap = some w) :
    exec (.psRdy m) s = .next (if w.accepted then v.swapDone n w else v) := by
  subst hn
  refine exec_of_pdHeard rfl hm hv ?_
  simp only [hs]

/-- Out of a swap, PS_RDY tells a Sink that its supply stands (R393). -/
theorem execPsRdy_of_noSwap (hs : (v.pdPort n).swap = none) :
    exec (.psRdy m) s = .next (if v.isSource n then v else v.makeContract n 5000 (v.sinkCurrent n)) := by
  subst hn
  refine exec_of_pdHeard rfl hm hv ?_
  simp only [hs]

section
variable {answer : Fin 3}

/-- An answer counts only for a swap that the hub asked for and that is not accepted yet (R397). -/
theorem execSwapAnswer_of_unasked (h : ∀ w, (v.pdPort n).swap = some w → w.byHub = false ∨ w.accepted = true) :
    exec (.swapAnswer m answer) s = .next v := by
  subst hn
  refine exec_of_pdHeard rfl hm hv ?_
  cases hs : (v.pdPort m.port.val).swap with
  | none => simp only [hs]
  | some w =>
    simp only [hs]
    exact if_pos (by simpa using h w hs)

theorem execSwapAnswer_of_asked {w : PdSwap} (hs : (v.pdPort n).swap = some w) (hb : w.byHub = true) (ha : w.accepted = false) :
    exec (.swapAnswer m answer) s = .next (if answer.val = 0 then v.acceptSwap n true
      else ((v.bump (Cnt.PD_SWAPS_REFUSED n)).endPdSwap n (if answer.val = 1 then .notPermitted else .busyRetry)).pdEvent n .swapRefused) := by
  subst hn
  refine exec_of_pdHeard rfl hm hv ?_
  simp only [hs]
  exact if_neg (by simp [hb, ha])

end
end

section
variable {s : State} {q : Fin 4}

theorem execVbusTransition_of_none (ht : (s.pdPort q.val).trans = none) :
    exec (.vbusTransitionDone q) s = .next s ∧ exec (.vbusTransitionTimeout q) s = .next s := by
  refine ⟨congrArg Host.Outcome.next ?_, congrArg Host.Outcome.next (if_neg (by simp [ht]))⟩
  simp only [ht]

/-- A transition done makes its contract; one that takes too long is a fault of VBUS (R395). -/
theorem execVbusTransition_of_some {mv cur : Nat} (ht : (s.pdPort q.val).trans = some (mv, cur)) :
    exec (.vbusTransitionDone q) s = .next
      (((s.updPd q.val (fun x => { x with trans := none })).pdSend q.val "PS_RDY").makeContract q.val mv cur) ∧
    exec (.vbusTransitionTimeout q) s = .next ((s.bump (Cnt.PD_VBUS_FAULTS q.val)).hardReset q.val true) := by
  refine ⟨congrArg Host.Outcome.next ?_, congrArg Host.Outcome.next (if_pos (by simp [ht]))⟩
  simp only [ht]

theorem execVbusOvercurrent_acts (s : State) (q : Fin 4) :
    Acts (.vbusOvercurrent q) s (s.isSource q.val = true) (fun t => t = s.vbusTrip q.val) :=
  Acts.of_ite rfl Iff.rfl fun _ => rfl

theorem execVbusOvervoltage_acts (s : State) (q : Fin 4) :
    Acts (.vbusOvervoltage q) s (s.isSource q.val = true) (fun t => t = s.vbusTrip q.val) :=
  Acts.of_ite rfl Iff.rfl fun _ => rfl

theorem execVbusUndervoltage_acts (s : State) (q : Fin 4) :
    Acts (.vbusUndervoltage q) s (s.isSource q.val = true ∧ (s.pdPort q.val).trans = none) (fun t => t = s.hardReset q.val true) :=
  Acts.of_ite rfl (by simp) fun _ => rfl

theorem execVbusBeforeEnable_acts (s : State) (q : Fin 4) :
    Acts (.vbusBeforeEnable q) s (s.typec q.val ≤ 2 ∧ s.sourceEn q.val = true) (fun t => t = s.vbusTrip q.val) :=
  Acts.of_ite rfl Iff.rfl fun _ => rfl

/-- After error recovery a port rests: its CC pins are open where it may not source (R390, R396). -/
theorem execErrorRecoveryEnd_acts (s : State) (p : Fin 5) :
    Acts (.errorRecoveryEnd p) s (s.typec p.val = 4 ∧ (s.pdPort p.val).recoverAt ≤ s.boot.ticks) (fun t =>
      t = s.withAlloc p.val (fun u => u.set (Reg.PD_PORT_TYPEC p.val) (if p.val < 4 ∧ u.sourceEn p.val = false then 5 else 0))) :=
  Acts.of_ite rfl Iff.rfl fun _ => rfl

theorem State.mayServe_iff : s.mayServe = true ↔ s.servicePowered = false ∧ s.anyOn = false ∧ s.powered .core = false := by
  simp [State.mayServe, and_assoc]

theorem execServicePowerEntry_acts (s : State) :
    Acts .servicePowerEntry s (s.servicePowered = false ∧ s.anyOn = false ∧ s.powered .core = false ∧ s.typec 4 = 3 ∧
      s.flag (Reg.PD_PORT_CONTRACT 4) = true ∧ 300 ≤ s.get (Reg.PD_PORT_CURRENT 4)) (fun t => t = s.serviceEnters) :=
  Acts.of_ite rfl (by simp [State.mayServe_iff, and_assoc]) fun _ => rfl

theorem execServiceNoCaps_acts (s : State) :
    Acts .serviceNoCaps s (s.servicePowered = false ∧ s.anyOn = false ∧ s.powered .core = false ∧ s.typec 4 = 3 ∧
      s.flag (Reg.PD_PORT_CONTRACT 4) = false ∧ (s.pdPort 4).partner = 0 ∧ s.get (Reg.PD_PORT_RP_SEEN 4) = 2 ∧
      (s.pdPort 4).offerAt + 8000 ≤ s.boot.ticks) (fun t => t = s.serviceEnters) :=
  Acts.of_ite rfl (by simp [State.mayServe_iff, and_assoc]) fun _ => rfl

end

/-- Settles O52: the swap under way, or none, decides what a swap's message does, and each supervision of VBUS is its test and its effect. -/
theorem pdSwapAndFaultCommandsAct : Obligations.PdSwapAndFaultCommandsAct := by
  intro s v m p q n hn
  refine ⟨fun hm hv => ⟨execPrSwap_of_service hn hm hv, fun w h4 hs => ?_,
      fun h4 hs => ⟨fun ha => ⟨execPrSwap_of_accepted hn hm hv h4 hs ha, execPrSwap_of_waits hn hm hv h4 hs ha⟩,
        execPrSwap_of_rejected hn hm hv h4 hs⟩, fun w hs => ?_, fun hs => ?_,
      fun answer => ⟨execSwapAnswer_of_unasked hn hm hv, fun w hs hb ha => ?_⟩⟩,
    execVbusTransition_of_none, fun mv cur => execVbusTransition_of_some, execVbusOvercurrent_acts s q, execVbusOvervoltage_acts s q,
    execVbusUndervoltage_acts s q, execVbusBeforeEnable_acts s q, execErrorRecoveryEnd_acts s p, execServicePowerEntry_acts s,
    execServiceNoCaps_acts s⟩
  · obtain ⟨haccepted, hopen⟩ := next_cases (execPrSwap_of_swapping hn hm hv h4 hs)
    exact ⟨haccepted, fun ha => (next_cases (hopen (ne_true_of_eq_false ha))).1,
      fun ha hsink => (next_cases (hopen (ne_true_of_eq_false ha))).2 (ne_true_of_eq_false hsink)⟩
  · obtain ⟨haccepted, hopen⟩ := next_cases (execPsRdy_of_swapping hn hm hv hs)
    exact ⟨haccepted, fun ha => hopen (ne_true_of_eq_false ha)⟩
  · obtain ⟨hsource, hsink⟩ := next_cases (execPsRdy_of_noSwap hn hm hv hs)
    exact ⟨hsource, fun hr => hsink (ne_true_of_eq_false hr)⟩
  · obtain ⟨haccept, hrefuse⟩ := next_cases (execSwapAnswer_of_asked (answer := answer) hn hm hv hs hb ha)
    refine ⟨haccept, fun h1 => ?_, fun h2 => ?_⟩
    · simpa [h1] using hrefuse (by omega)
    · simpa [h2] using hrefuse (by omega)

end Machine
end Sys2Proof
end
